-- ==== Sys2Proof/Word.lean ====
section
/-! DEFINITION. The word types of the Kairus and their plainest arithmetic. -/

namespace Sys2Proof

/-- A 32-bit word: a register, a queue word's data, an instruction operand. -/
abbrev Word := BitVec 32

/-- One byte of Saltern, of a frame or of a bus transfer. -/
abbrev Byte := BitVec 8

/-- What the line reports of a received frame: a symbol error within it, an end away from a byte's (R101). -/
structure LineErrors where
  symbol : Bool
  align : Bool
  deriving DecidableEq, Repr

/-- Bits `lo + width - 1 .. lo` of a number (R6: bit 0 is the least significant). -/
def bitsAt (n lo width : Nat) : Nat := n / 2 ^ lo % 2 ^ width

/-- Bit `i` of a number. -/
def bitAt (n i : Nat) : Bool := n / 2 ^ i % 2 == 1

/-- The two's-complement reading of the low `w` bits of a number. -/
def signedOf (w n : Nat) : Int :=
  if n % 2 ^ w < 2 ^ (w - 1) then (n % 2 ^ w : Nat) else ((n % 2 ^ w : Nat) : Int) - (2 ^ w : Nat)

/-- The low `w` bits of an integer in two's complement. -/
def lowOf (w : Nat) (i : Int) : Nat := (i % ((2 ^ w : Nat) : Int)).toNat

/-- Clamp an integer into [lo, hi]. -/
def clampInt (lo hi x : Int) : Int := if x < lo then lo else if hi < x then hi else x

/-- 1 for true, 0 for false: the value of a one-bit field. -/
def bit (b : Bool) : Nat := if b then 1 else 0

end Sys2Proof
end

