-- ==== Sys2Proof/Syntax.lean ====
section
/-! DEFINITION. The commands of the Kairus: one constructor per row of the spec's command table, with the operands a
sender gives. Instruction commands name the context that issues them (4 × core + context). -/

namespace Sys2Proof

/-- What the synchroniser of BATON shows: the level has just been seen high, or it has been high for 32 cycles (R374);
`since` is the CLK_EDGE time at which it was first seen high. -/
inductive BatonHigh
  | seen (since : Nat)
  | confirmed (since : Nat)
  deriving DecidableEq, Repr

/-- The commands. Each constructor's rule is that of its row. -/
inductive Instr where
  /-- A low pulse of 50 ns or more on RESET_N resets the whole chip and loses all Saltern contents. (R431) -/
  | resetNAssert (lowNs : Nat)
  /-- The rising edge of RESET_N samples the straps and starts the boot sequence. (R435) -/
  | resetNRise (role boot hqMode xtalBypass : Bool)
  /-- VDD_CORE or VDD_IO18 falling below its threshold holds the chip in reset and makes every output high-Z within
  100 ns. (R430) -/
  | supplyFail
  /-- SYSPLL declares lock after 1024 good PFD cycles, starting its clocks and TIME.RAW after the first acquisition.
  (R30) -/
  | sysPllLock
  /-- SYSPLL declares lock lost after 16 consecutive PFD cycles with edges more than 4 ns apart. (R30) -/
  | sysPllLockLost
  /-- With no XTAL_IN edge for 8 PFD periods SYSPLL sets REF_LOST, tri-states its charge pump and holds its VCO.
  (R32) -/
  | sysPllRefLost
  /-- After 1024 PFD periods of resumed XTAL_IN edges SYSPLL selects its band again, closes the loop and sets
  REACQUIRED. (R32) -/
  | sysPllReacquire
  /-- A write to SYSPLL.SPREAD.EN requests spreading of CLK_SYS to be switched on or off. (R33) -/
  | spreadWrite (en : Bool)
  /-- The requested spread state takes effect at the next point where the triangle is at 312.5 MHz. (R33) -/
  | spreadApply
  /-- A PLL's tuning voltage crossing 0.35 V or 1.45 V in closed mode changes VT_LOW or VT_HIGH and sets VT_EV.
  (R45) -/
  | vtChange (med low high : Bool)
  /-- A 256-period measurement of the MEDPLL reference ends and decides whether the reference is valid. (R35) -/
  | refMeasurement (offset : Int)
  /-- The selected reference stops being valid, and MEDPLL falls back to the SMR or coasts. (R42) -/
  | medpllRefLost
  /-- A returning external reference is measured at its first valid tick mark and its offset is added to RESIDUAL or
  refused. (R51) -/
  | medpllRefReturn (offset : Int)
  /-- MEDPLL declares lock after 4096 good PFD cycles and sets LOCKED. (R36) -/
  | medpllLock
  /-- MEDPLL declares lock lost after 16 PFD cycles with edges more than 32 ns apart and sets LOCK_LOST. (R36) -/
  | medpllLockLost
  /-- At the first tick mark after lock is regained in closed mode MEDPLL measures the tick offset and slews or
  refuses it. (R472) -/
  | lockReturnOffset (offset : Int)
  /-- The per-tick count of CLK_PORT against CLK_TIME raises or clears FREQ_ALARM. (R37) -/
  | freqAlarmCheck (count : Nat)
  /-- A write to MEDPLL.CTL changes mode, reference or band, starting an acquisition or being refused with
  MODE_DENIED. (R39) -/
  | medpllCtlWrite (v : Word)
  /-- A reference change written in closed mode takes effect at the next signal-side tick boundary. (R41) -/
  | refChangeApply
  /-- At the first tick mark after lock MEDPLL loads every signal-side divider, placing the signal-side tick. (R40) -/
  | dividerLoad (k : Int)
  /-- A write of PLL.CAL.START begins a count of CLK_EDGE cycles at a chosen band and tuning voltage, or is refused.
  (R39) -/
  | calStart (band : BitVec 5) (vt : BitVec 2)
  /-- A calibration measurement ends, placing its count in PLL.CAL_COUNT and setting DONE. (R38) -/
  | calDone (count : Nat)
  /-- RESIDUAL moves one 1/16 ns step towards zero at no more than SLEW_MAX ppm. (R50) -/
  | residualSlewStep
  /-- A write of MEDPLL.REALIGN.ACCEPT takes a refused external jump into RESIDUAL. (R51) -/
  | realignAccept
  /-- A write of MEDPLL.REALIGN.GO commands a realignment at the next tick boundary or is refused or absorbed. (R52)
  -/
  | realignGo
  /-- At the realignment boundary every gang plays half duty and REALIGN_PENDING stays set. (R52) -/
  | realignDrainStart
  /-- At B + 2 ticks RESIDUAL is zeroed, MEDPLL reacquires, every queue is reset and periodic tasks are ended. (R52)
  -/
  | realignDrainEnd
  /-- A TIME.RATE write folds the accrued rate term into OFFSET, sets RAW_R and may be clamped. (R58) -/
  | rateWrite (v : Word)
  /-- A write of TIME.CTL.LOCK moves TIME to LOCKED and starts the servo timeout. (R62) -/
  | timeCtlLock
  /-- A write of TIME.CTL.COAST moves TIME from LOCKED to COASTING. (R62) -/
  | timeCtlCoast
  /-- With no servo write for SERVO_TIMEOUT ms TIME moves from LOCKED to COASTING. (R62) -/
  | servoTimeout
  /-- A guarded write of TIME.FREE.GO returns TIME to FREE and clears JUMP_REFUSED and ANCHOR_REFUSED. (R62) -/
  | timeFree
  /-- An OFFSET write is accepted or refused against JUMP_LIMIT and moves corrected time and RESIDUAL. (R63) -/
  | offsetWrite (v : BitVec 64) (override : Bool)
  /-- The low 32 bits of corrected time carry from 2^32 − 1 to 0 and set TIME.EVENTS.WRAP. (R60) -/
  | nowNsWrap
  /-- A TICK_ANCHOR write sets or moves the tick grid, or is refused with ANCHOR_REFUSED. (R69) -/
  | tickAnchorWrite (ns : Word) (guarded : Bool)
  /-- A mailbox write of MEDIA_COUNT is held and sets MEDIA_PENDING. (R70) -/
  | mediaCountWrite (v : BitVec 64)
  /-- At the next tick boundary the held MEDIA_COUNT is loaded and MEDIA_VALID is set. (R70) -/
  | mediaCountLoad
  /-- A rise of TEU[u].CTL.EN arms the unit at its first event time, or refuses a short period. (R80) -/
  | teuEnable (u : Fin 16)
  /-- A write of 0 to TEU EN disarms the unit on the cycle it reaches the TIME domain. (R84) -/
  | teuDisable (u : Fin 16)
  /-- A TEU event fires when its time base reaches Ek, driving its pin, releasing a frame and raising its interrupt.
  (R80) -/
  | teuEventFire (u : Fin 16)
  /-- After WIDTH the TE_OUT pin returns to its inactive level. (R85) -/
  | teuPinEnd (u : Fin 16)
  /-- A TARGET write naming class 6 or a held class leaves the launch ineffective and sets LAUNCH_DENIED. (R88) -/
  | teuTargetWrite (u : Fin 16) (port : BitVec 2) (cls : BitVec 3)
  /-- A rise of MAC[p].CTL.EN takes MODE and AN_EN and starts the port. (R94) -/
  | macEnable (p : Fin 4)
  /-- A fall of CTL.EN stops reception at a frame boundary and completes queued descriptors with status 5. (R123) -/
  | macDisable (p : Fin 4)
  /-- LINK_UP changes with PCS lock, faults or auto-negotiation and sets LINK_CHG. (R95) -/
  | linkChange (p : Fin 4) (line : BitVec 6)
  /-- Clause 37 auto-negotiation completes and sets AN_DONE. (R95) -/
  | anComplete (p : Fin 4) (page : BitVec 16)
  /-- A received frame is checked, filtered and classified to a control ring, the flow engine or MAC control
  handling. (R101) -/
  | frameReceive (p : Fin 4) (bytes : List Byte) (errs : LineErrors) (ovf : Bool) (bad : Option (BitVec 26)) (ago : Nat)
  /-- A pause's time runs out and classes 0 to 3 may start frames again. (R114) -/
  | pauseExpire (p : Fin 4)
  /-- A write of RXR PTR.TAIL releases descriptors, handing their cells to the rake, or is refused with RING_ERR.
  (R106) -/
  | rxrTailWrite (p : Fin 4) (r : Fin 2) (tail : BitVec 12)
  /-- A write of TXR PTR.TAIL queues filled transmit descriptors in their class. (R111) -/
  | txrTailWrite (p : Fin 4) (cl : Fin 8) (tail : BitVec 12)
  /-- The highest eligible class head frame starts on the line, or is completed with status 2 or 3 or 4. (R113) -/
  | frameTransmitStart (p : Fin 4) (sfd : Nat)
  /-- A frame ends on the line and its descriptor is completed with stamp and status. (R111) -/
  | frameTransmitDone (p : Fin 4) (ecc : Bool)
  /-- Corrected time reaches a head frame's launch time, making it eligible or, past LATE_LIMIT, dropping it with
  status 1. (R120) -/
  | launchTimeReached (p : Fin 4) (cl : Fin 8)
  /-- An EN rise or CTL.LOAD write takes the gate list and CYCLE as the pending list. (R116) -/
  | gclLoad (p : Fin 4) (rise : Bool)
  /-- The pending gate list becomes the operating list at its first cycle start. (R116) -/
  | gclSwitch (p : Fin 4)
  /-- A gate list entry's interval ends and the next entry's mask takes over. (R115) -/
  | gclEntryAdvance (p : Fin 4)
  /-- The transmit side enters low-power idle when every condition of R122 holds. (R122) -/
  | lpiEnter (p : Fin 4)
  /-- The transmit side leaves LPI when a frame becomes eligible or at the wake deadline. (R122) -/
  | lpiExit (p : Fin 4)
  /-- The flow engine checks a flow frame and writes its sample frames to the jitter ring as late, early, duplicate
  or written. (R137) -/
  | flowPacketAccept
  /-- A receive flow's EN rise is refused or starts clearing its ring and loads its route entries. (R148) -/
  | rxfEnable (f : Fin 128)
  /-- The ring clear completes, READY is set and the paths pass from OFF to WAITING. (R136) -/
  | rxfReady (f : Fin 128)
  /-- A receive flow's EN fall sends every path OFF and clears READY. (R143) -/
  | rxfDisable (f : Fin 128)
  /-- A path's deadline is evaluated 2480 cycles after D and a path without arrival goes LOST. (R143) -/
  | pathDeadline (f : Fin 128) (path : Fin 2)
  /-- A transmit flow's EN rise is refused or starts the flow at its first packet boundary a tick later. (R148) -/
  | txfEnable (f : Fin 128)
  /-- A transmit flow's EN fall stops its packets. (R148) -/
  | txfDisable (f : Fin 128)
  /-- A write of TXF SEQ.NEXT while enabled sets the number of the next packet built. (R146) -/
  | txfSeqWrite (f : Fin 128) (v : BitVec 16)
  /-- A signal-side tick boundary arrives and the per-tick actions run in their fixed order. (R23) -/
  | tickBoundary
  /-- A port EN rise is refused or resets its lane queues and schedules the start at the next tick boundary. (R186) -/
  | portEnable (n : Fin 32)
  /-- At the next tick boundary the port starts, with first time points a tick later. (R186) -/
  | portStart (n : Fin 32)
  /-- A port EN fall stops the port at its next frame start and makes its pins high-Z. (R187) -/
  | portDisable (n : Fin 32)
  /-- A write of MASK_DA or MASK_DB sets the pending mask of a lane. (R174) -/
  | maskWrite (n : Fin 32) (db : Bool) (mask : Word) (late : Bool)
  /-- A master port starts a frame at a sample boundary, capturing pending masks. (R170) -/
  | portFrameStart (n : Fin 32)
  /-- A slave port detects its synchronised FS edge as a frame start and checks its phase. (R171) -/
  | slaveFrameStart (n : Fin 32) (j phase : Nat) (short : Bool)
  /-- An input lane pushes its frame's selected slots as one packet after the last selected slot completes. (R176) -/
  | inputPacketPush (n : Fin 32) (db : Bool) (slots : List (Option Nat)) (status : Bool)
  /-- An unlocked input lane pushes a packet of zeros at each time point. (R176) -/
  | synthPacketPush (n : Fin 32) (db : Bool)
  /-- An output lane takes the packet of a time point at t + 64 cycles, zero-filling on underrun. (R177) -/
  | outputPacketTake (n : Fin 32) (db : Bool)
  /-- A 256-frame measuring window ends and sets MEAS, DEV and the rate class. (R184) -/
  | rateWindowEnd (n : Fin 32) (cycles media : Nat)
  /-- No frame start for 1 ms sets the rate class to absent. (R184) -/
  | rateAbsent (n : Fin 32)
  /-- A port in Locking becomes Locked at the next tick boundary and switches to real packets. (R185) -/
  | portLock (n : Fin 32)
  /-- 256 error-free frames end the biphase error mute. (R180) -/
  | bpUnmute (n : Fin 32)
  /-- A 192-frame channel-status block ends and is checked and stored in CS_RX. (R181) -/
  | csBlockEnd (n : Fin 32) (bytes : List Nat)
  /-- 4096 frames after the last burst frame the non-audio mute ends. (R183) -/
  | naHoldExpire (n : Fin 32)
  /-- A producer pushes a word, taking a cell if needed or discarding the packet for lack of credit. (R198) -/
  | queuePush (q : Fin 4096) (data : Word) (e : Bool) (k : Fin 3)
  /-- A consumer pops a word of a closed packet or gets a not-valid read with a reason. (R201) -/
  | queuePop (q : Fin 4096)
  /-- A closed packet's count crosses to the consumer's clock and enters its view. (R202) -/
  | packetVisible (q : Fin 4096)
  /-- A released cell crosses to the producer's clock and returns to its credit. (R202) -/
  | creditReturn (q : Fin 4096)
  /-- A write of Q[n].EV.RESET requests a reset of the queue. (R203) -/
  | queueResetWrite (q : Fin 4096)
  /-- At the reset point the count is zeroed, EPOCH advances, cells pass to the rake and a credit-reset notice is
  sent. (R204) -/
  | queueReset (q : Fin 4096)
  /-- A pointer mismatch, uncorrectable cell error or broken chain forces a reset and places the queue in error.
  (R208) -/
  | forcedReset (q : Fin 4096) (cause : Fin 4) (addr : BitVec 26)
  /-- The owner scan completes and the queue's ERR clears. (R208) -/
  | ownerScanEnd (q : Fin 4096)
  /-- The rake returns one cell of a reset queue or released frame to its free list. (R206) -/
  | rakeCellReturn
  /-- The patrol scrubber reads one row and rewrites it if corrected. (R191) -/
  | patrolScrub (addr : BitVec 26) (found : Fin 4)
  /-- A page walk completes, filling a TLB entry and setting A, or faulting. (R217) -/
  | pageWalkDone (x : Fin 64) (va : Word) (kind : Fin 3) (spec : Bool)
  /-- A write of MMU.INV.GO starts an invalidation of the chosen scope, or is refused with INV_DENIED. (R220) -/
  | tlbInvalidate (op : BitVec 2) (asid : BitVec 8)
  /-- An invalidation completes, BUSY clears and INV_DONE is set. (R220) -/
  | invDone
  /-- MMU.CRES.RESUME restarts a FAULTED context at the faulting instruction. (R224) -/
  | contextResume (x : Fin 64)
  /-- MMU.CRES.ABORT ends a FAULTED context's task as OVERRUN does. (R224) -/
  | contextAbort (x : Fin 64)
  /-- KICK starts an idle channel at DESC or fences a running one. (R231) -/
  | dmaKick (ch : Fin 32)
  /-- FENCE discards a running channel's prefetched descriptors. (R233) -/
  | dmaFence (ch : Fin 32)
  /-- RESUME retranslates and continues a FAULTED channel from DONE_BYTES. (R232) -/
  | dmaResume (ch : Fin 32)
  /-- ABORT completes stores of popped words, writes W6 with CODE 1 and returns the channel to IDLE. (R234) -/
  | dmaAbort (ch : Fin 32)
  /-- A channel fetches its current descriptor, refusing a bad one with CODE 2 and entering ERROR. (R228) -/
  | dmaDescFetch (ch : Fin 32)
  /-- A descriptor finishes, W6 is written and the channel continues at NEXT or goes IDLE. (R229) -/
  | dmaDescComplete (ch : Fin 32)
  /-- A channel faults, records its fault and delivers it to a running owner or to FAULTQ. (R231) -/
  | dmaFault (ch : Fin 32)
  /-- A mode-2 channel retries an empty-queue pop after 16 cycles. (R229) -/
  | dmaPopRetry (ch : Fin 32)
  /-- A running owner takes a DMA-fault exception at an instruction boundary, saving EPC and ECAUSE. (R263) -/
  | dmaFaultException (x : Fin 64)
  /-- A periodic task not completed at its deadline is stopped and counted in OVERRUN. (R258) -/
  | taskDeadline (x : Fin 64)
  /-- X[x].CMD.START starts a free task from OFF with zeroed state. (R248) -/
  | taskStart (x : Fin 64)
  /-- X[x].CMD.STOP stops a free task and abandons its open packets. (R248) -/
  | taskStop (x : Fin 64)
  /-- Setting a CORE.HALT bit stops the context at its next instruction boundary or interrupt point. (R248) -/
  | haltSet (x : Fin 64)
  /-- Clearing a CORE.HALT bit returns the context to its state before halting. (R248) -/
  | haltClear (x : Fin 64)
  /-- rd = rs + rt modulo 2^32. (R276) -/
  | add (x : Fin 64) (rd rs rt : BitVec 5)
  /-- rd = rs − rt modulo 2^32. (R276) -/
  | sub (x : Fin 64) (rd rs rt : BitVec 5)
  /-- rd = rs and rt. (R276) -/
  | and (x : Fin 64) (rd rs rt : BitVec 5)
  /-- rd = rs or rt. (R276) -/
  | or (x : Fin 64) (rd rs rt : BitVec 5)
  /-- rd = rs xor rt. (R276) -/
  | xor (x : Fin 64) (rd rs rt : BitVec 5)
  /-- rd = rs shifted left by rt[4:0]. (R276) -/
  | sll (x : Fin 64) (rd rs rt : BitVec 5)
  /-- rd = rs shifted right logically. (R276) -/
  | srl (x : Fin 64) (rd rs rt : BitVec 5)
  /-- rd = rs shifted right arithmetically. (R276) -/
  | sra (x : Fin 64) (rd rs rt : BitVec 5)
  /-- rd = 1 if rs < rt signed. (R276) -/
  | slt (x : Fin 64) (rd rs rt : BitVec 5)
  /-- rd = 1 if rs < rt unsigned. (R276) -/
  | sltu (x : Fin 64) (rd rs rt : BitVec 5)
  /-- rd = low 32 bits of rs × rt. (R276) -/
  | mul (x : Fin 64) (rd rs rt : BitVec 5)
  /-- rd = high 32 bits of the signed product. (R276) -/
  | mulh (x : Fin 64) (rd rs rt : BitVec 5)
  /-- rd = rounded Q1.31 product, saturating with SAT. (R276) -/
  | mulq (x : Fin 64) (rd rs rt : BitVec 5)
  /-- rd = signed minimum. (R276) -/
  | min (x : Fin 64) (rd rs rt : BitVec 5)
  /-- rd = signed maximum. (R276) -/
  | max (x : Fin 64) (rd rs rt : BitVec 5)
  /-- rd = saturating signed sum. (R276) -/
  | adds (x : Fin 64) (rd rs rt : BitVec 5)
  /-- rd = saturating signed difference. (R276) -/
  | subs (x : Fin 64) (rd rs rt : BitVec 5)
  /-- rd = count of leading zeros of rs. (R276) -/
  | clz (x : Fin 64) (rd rs : BitVec 5)
  /-- rd = rs + sign-extended imm16. (R276) -/
  | addi (x : Fin 64) (rd rs : BitVec 5) (imm : BitVec 16)
  /-- rd = rs and zero-extended imm16. (R276) -/
  | andi (x : Fin 64) (rd rs : BitVec 5) (imm : BitVec 16)
  /-- rd = rs or zero-extended imm16. (R276) -/
  | ori (x : Fin 64) (rd rs : BitVec 5) (imm : BitVec 16)
  /-- rd = rs xor zero-extended imm16. (R276) -/
  | xori (x : Fin 64) (rd rs : BitVec 5) (imm : BitVec 16)
  /-- rd = 1 if rs < sign-extended imm16. (R276) -/
  | slti (x : Fin 64) (rd rs : BitVec 5) (imm : BitVec 16)
  /-- rd = imm16 × 65 536. (R276) -/
  | lui (x : Fin 64) (rd : BitVec 5) (imm : BitVec 16)
  /-- SHI kind 0 shifts rs left by imm16[4:0]. (R276) -/
  | shiSll (x : Fin 64) (rd rs sh : BitVec 5)
  /-- SHI kind 1 shifts rs right logically by imm16[4:0]. (R276) -/
  | shiSrl (x : Fin 64) (rd rs sh : BitVec 5)
  /-- SHI kind 2 shifts rs right arithmetically by imm16[4:0]. (R276) -/
  | shiSra (x : Fin 64) (rd rs sh : BitVec 5)
  /-- Binary32 rs + rt. (R277) -/
  | fadd (x : Fin 64) (rd rs rt : BitVec 5)
  /-- Binary32 rs − rt. (R277) -/
  | fsub (x : Fin 64) (rd rs rt : BitVec 5)
  /-- Binary32 rs × rt. (R277) -/
  | fmul (x : Fin 64) (rd rs rt : BitVec 5)
  /-- Binary32 rs / rt in 16 cycles. (R277) -/
  | fdiv (x : Fin 64) (rd rs rt : BitVec 5)
  /-- Binary32 square root of rs. (R277) -/
  | fsqrt (x : Fin 64) (rd rs : BitVec 5)
  /-- Binary32 minimum. (R277) -/
  | fmin (x : Fin 64) (rd rs rt : BitVec 5)
  /-- Binary32 maximum. (R277) -/
  | fmax (x : Fin 64) (rd rs rt : BitVec 5)
  /-- 1 if rs = rt. (R277) -/
  | feq (x : Fin 64) (rd rs rt : BitVec 5)
  /-- 1 if rs < rt. (R277) -/
  | flt (x : Fin 64) (rd rs rt : BitVec 5)
  /-- 1 if rs ≤ rt. (R277) -/
  | fle (x : Fin 64) (rd rs rt : BitVec 5)
  /-- Signed integer to binary32. (R277) -/
  | fcvtsw (x : Fin 64) (rd rs : BitVec 5)
  /-- Binary32 to saturating signed integer. (R277) -/
  | fcvtws (x : Fin 64) (rd rs : BitVec 5)
  /-- Q1.31 to binary32. (R277) -/
  | fcvtsq (x : Fin 64) (rd rs : BitVec 5)
  /-- Binary32 to saturating Q1.31. (R277) -/
  | fcvtqs (x : Fin 64) (rd rs : BitVec 5)
  /-- Binary32 magnitude. (R277) -/
  | fabs (x : Fin 64) (rd rs : BitVec 5)
  /-- Binary32 negation. (R277) -/
  | fneg (x : Fin 64) (rd rs : BitVec 5)
  /-- Load a word from G[rs] + imm16. (R278) -/
  | lw (x : Fin 64) (rd rs : BitVec 5) (imm : BitVec 16)
  /-- Load a sign-extended halfword. (R278) -/
  | lh (x : Fin 64) (rd rs : BitVec 5) (imm : BitVec 16)
  /-- Load a zero-extended halfword. (R278) -/
  | lhu (x : Fin 64) (rd rs : BitVec 5) (imm : BitVec 16)
  /-- Load a sign-extended byte. (R278) -/
  | lb (x : Fin 64) (rd rs : BitVec 5) (imm : BitVec 16)
  /-- Load a zero-extended byte. (R278) -/
  | lbu (x : Fin 64) (rd rs : BitVec 5) (imm : BitVec 16)
  /-- Store a word. (R278) -/
  | sw (x : Fin 64) (rt rs : BitVec 5) (imm : BitVec 16)
  /-- Store a halfword. (R278) -/
  | sh (x : Fin 64) (rt rs : BitVec 5) (imm : BitVec 16)
  /-- Store a byte. (R278) -/
  | sb (x : Fin 64) (rt rs : BitVec 5) (imm : BitVec 16)
  /-- Load a word through a stream pointer and advance it. (R278) -/
  | ldp (x : Fin 64) (rd : BitVec 5) (p : BitVec 3) (imm : BitVec 16)
  /-- Store a word through a stream pointer and advance it. (R278) -/
  | stp (x : Fin 64) (rt : BitVec 5) (p : BitVec 3) (imm : BitVec 16)
  /-- Load eight lanes through a stream pointer and advance it. (R278) -/
  | vld (x : Fin 64) (vd : BitVec 4) (p : BitVec 3) (imm : BitVec 16)
  /-- Store eight lanes through a stream pointer and advance it. (R278) -/
  | vst (x : Fin 64) (vs : BitVec 4) (p : BitVec 3) (imm : BitVec 16)
  /-- Read a stream pointer field into a G register. (R278) -/
  | pget (x : Fin 64) (rd : BitVec 5) (p : BitVec 3) (field : Fin 3)
  /-- Write a stream pointer field from a G register. (R278) -/
  | pput (x : Fin 64) (rt : BitVec 5) (p : BitVec 3) (field : Fin 3)
  /-- Advance a stream pointer by a signed G value. (R278) -/
  | padd (x : Fin 64) (rt : BitVec 5) (p : BitVec 3)
  /-- Pop one word of QREF into rd with its tag in rt. (R280) -/
  | pop (x : Fin 64) (rd rt rq : BitVec 5) (qimm : BitVec 11)
  /-- Push G[rt] as one word with E = 0. (R281) -/
  | push (x : Fin 64) (k : Fin 3) (rt rq : BitVec 5) (qimm : BitVec 11)
  /-- Push G[rt] as one end-marked word. (R281) -/
  | pushe (x : Fin 64) (k : Fin 3) (rt rq : BitVec 5) (qimm : BitVec 11)
  /-- Write the packet count of QREF to rd. (R282) -/
  | pktcnt (x : Fin 64) (rd rq : BitVec 5) (qimm : BitVec 11)
  /-- Write the producer's credit view of QREF to rd. (R282) -/
  | pktcntCredit (x : Fin 64) (rd rq : BitVec 5) (qimm : BitVec 11)
  /-- Add eight lane products to an accumulator. (R283) -/
  | vmac (x : Fin 64) (ad : BitVec 3) (vs vt : BitVec 4) (h n : Bool)
  /-- Add eight lane products, round to a G register and clear the accumulator. (R283) -/
  | vmacr (x : Fin 64) (gd : BitVec 5) (ad : BitVec 3) (vs vt : BitVec 4) (h n : Bool)
  /-- Lane-wise saturating sum. (R284) -/
  | vadd (x : Fin 64) (vd vs vt : BitVec 4)
  /-- Lane-wise saturating difference. (R284) -/
  | vsub (x : Fin 64) (vd vs vt : BitVec 4)
  /-- Lane-wise rounded Q1.31 product. (R284) -/
  | vmulq (x : Fin 64) (vd vs vt : BitVec 4)
  /-- Copy a V register. (R284) -/
  | vmov (x : Fin 64) (vd vs : BitVec 4)
  /-- Set every lane to a G value. (R284) -/
  | vsplat (x : Fin 64) (vd : BitVec 4) (gs : BitVec 5)
  /-- Read one lane into a G register. (R284) -/
  | vget (x : Fin 64) (gd : BitVec 5) (vs : BitVec 4) (lane : BitVec 3)
  /-- Write one lane from a G register. (R284) -/
  | vput (x : Fin 64) (vd : BitVec 4) (gs : BitVec 5) (lane : BitVec 3)
  /-- Lane-wise magnitude. (R284) -/
  | vabs (x : Fin 64) (vd vs : BitVec 4)
  /-- Largest lane magnitude into a G register. (R284) -/
  | vmaxa (x : Fin 64) (gd : BitVec 5) (vs : BitVec 4)
  /-- Clear an accumulator and its AOV. (R285) -/
  | aclr (x : Fin 64) (ad : BitVec 3)
  /-- Load an accumulator from a G value as Q1.31. (R285) -/
  | amov (x : Fin 64) (ad : BitVec 3) (gs : BitVec 5)
  /-- Round an accumulator to Q1.31 into a G register. (R285) -/
  | arnd (x : Fin 64) (gd : BitVec 5) (src : BitVec 3)
  /-- Round an accumulator to 24 bits into a G register. (R285) -/
  | arnd24 (x : Fin 64) (gd : BitVec 5) (src : BitVec 3)
  /-- Add one accumulator to another. (R285) -/
  | aadd (x : Fin 64) (ad src : BitVec 3)
  /-- Subtract one accumulator from another. (R285) -/
  | asub (x : Fin 64) (ad src : BitVec 3)
  /-- Shift an accumulator right with rounding. (R285) -/
  | ashr (x : Fin 64) (ad : BitVec 3) (sh : BitVec 6)
  /-- Shift an accumulator left, saturating. (R285) -/
  | ashl (x : Fin 64) (ad : BitVec 3) (sh : BitVec 6)
  /-- Read and clear an accumulator's AOV. (R285) -/
  | aflag (x : Fin 64) (gd : BitVec 5) (src : BitVec 3)
  /-- Read one word of an accumulator. (R285) -/
  | aget (x : Fin 64) (gd : BitVec 5) (src : BitVec 3) (word : Fin 3)
  /-- Write one word of an accumulator. (R285) -/
  | aput (x : Fin 64) (ad : BitVec 3) (gs : BitVec 5) (word : Fin 3)
  /-- Form a FIR dot product in steps of 8 taps. (R288) -/
  | firb (x : Fin 64) (ad : BitVec 3) (pc px : BitVec 3) (gn : BitVec 5) (h : Bool)
  /-- Run eight-lane frames through a biquad cascade in place. (R289) -/
  | biq (x : Fin 64) (vw : BitVec 4) (px pc ps : BitVec 3) (gn gs : BitVec 5)
  /-- Mix popped inputs with gains and auto-scaling into eight lanes. (R290) -/
  | mix (x : Fin 64) (vd : BitVec 4) (pt : BitVec 3) (gn : BitVec 5) (m : Fin 3) (l : Bool)
  /-- Apply a ramping gain to samples in place. (R293) -/
  | ramp (x : Fin 64) (pd : BitVec 3) (ak : BitVec 3) (gs gn : BitVec 5)
  /-- Write samples into a full or compact delay line. (R294) -/
  | dlyWrite (x : Fin 64) (pl pb : BitVec 3) (gn : BitVec 5) (compact : Bool)
  /-- Read delayed samples from a full or compact delay line. (R294) -/
  | dlyRead (x : Fin 64) (pl pb : BitVec 3) (gn gd : BitVec 5) (compact : Bool)
  /-- Encode six-sample blocks into CSF bytes. (R295) -/
  | csfp (x : Fin 64) (pd ps : BitVec 3) (gn : BitVec 5) (f : Bool)
  /-- Decode CSF blocks into Q1.31 words, setting CSFE on failure. (R295) -/
  | csfu (x : Fin 64) (pd ps : BitVec 3) (gn : BitVec 5) (f : Bool)
  /-- Apply a smoothed limiter gain to eight samples. (R296) -/
  | lim (x : Fin 64) (vd vs vt : BitVec 4) (ak : BitVec 3) (gc : BitVec 5)
  /-- Set the rail target of a boost controller for a later output tick, or be discarded with ENVX. (R297) -/
  | env (x : Fin 64) (rs : BitVec 5) (g k : BitVec 3)
  /-- Branch if equal. (R298) -/
  | beq (x : Fin 64) (rs rt : BitVec 5) (off : BitVec 16)
  /-- Branch if not equal. (R298) -/
  | bne (x : Fin 64) (rs rt : BitVec 5) (off : BitVec 16)
  /-- Branch if less, signed. (R298) -/
  | blt (x : Fin 64) (rs rt : BitVec 5) (off : BitVec 16)
  /-- Branch if greater or equal, signed. (R298) -/
  | bge (x : Fin 64) (rs rt : BitVec 5) (off : BitVec 16)
  /-- Branch if less, unsigned. (R298) -/
  | bltu (x : Fin 64) (rs rt : BitVec 5) (off : BitVec 16)
  /-- Branch if greater or equal, unsigned. (R298) -/
  | bgeu (x : Fin 64) (rs rt : BitVec 5) (off : BitVec 16)
  /-- Jump and write the return address to G1. (R298) -/
  | jal (x : Fin 64) (off : BitVec 26)
  /-- Jump to a register address and write the return address. (R298) -/
  | jalr (x : Fin 64) (rd rs : BitVec 5) (imm : BitVec 16)
  /-- Decrement G[rs] and branch while not zero. (R298) -/
  | loop (x : Fin 64) (rs : BitVec 5) (off : BitVec 16)
  /-- Do nothing. (R299) -/
  | nop (x : Fin 64)
  /-- End a periodic block or wait for the next boundary in a free task. (R250) -/
  | waittick (x : Fin 64)
  /-- Give the rest of the tick to lower-priority contexts. (R250) -/
  | yield (x : Fin 64)
  /-- Clear ECAUSE[31] and resume at EPC. (R299) -/
  | eret (x : Fin 64)
  /-- Invalidate one instruction-cache line. (R299) -/
  | icinv (x : Fin 64) (rs : BitVec 5)
  /-- Invalidate the core's whole instruction cache. (R299) -/
  | icinva (x : Fin 64)
  /-- Read FSR. (R299) -/
  | fsrr (x : Fin 64) (rd : BitVec 5)
  /-- Write FSR. (R299) -/
  | fsrw (x : Fin 64) (rs : BitVec 5)
  /-- Start a TLB invalidation and retire when complete. (R300) -/
  | tlbinv (x : Fin 64) (rs rt : BitVec 5)
  /-- Change the context's ASID. (R300) -/
  | setasid (x : Fin 64) (rs : BitVec 5)
  /-- Send a DMA command to a channel. (R300) -/
  | dmak (x : Fin 64) (rs : BitVec 5)
  /-- Read a register as a host access would. (R301) -/
  | rdreg (x : Fin 64) (rd rs : BitVec 5)
  /-- Write a register as a host access would. (R301) -/
  | wrreg (x : Fin 64) (rs rt : BitVec 5)
  /-- Write the Laminate command register. (R300) -/
  | lamop (x : Fin 64) (rs : BitVec 5)
  /-- Issuing an undefined word faults with cause 9 ILLEGAL. (R267) -/
  | illegalInstruction (x : Fin 64) (w : Word)
  /-- A ROUTE[e] write becomes the entry's pending binding with its captured mode and boundary. (R306) -/
  | routeWrite (e : BitVec 15) (v : Word) (late : Bool)
  /-- Pending bindings due at a boundary are judged together and accepted or refused. (R308) -/
  | routeApply
  /-- A packet of a parked queue is popped and discarded at the end of its arrival tick. (R311) -/
  | parkedDiscard (q : Fin 4096)
  /-- A RUN write of 1 arms an OFF gang. (R332) -/
  | gangRun (k : Fin 32)
  /-- A RUN write of 0 sends an armed or held gang OFF or makes a stop pending. (R335) -/
  | gangStop (k : Fin 32) (late : Bool)
  /-- A CLEAR write releases a LATCHED gang to ARMED or OFF. (R332) -/
  | gangClear (k : Fin 32)
  /-- An armed gang is released at half duty at a carrier cycle start once all conditions hold. (R333) -/
  | gangRelease (k : Fin 32)
  /-- A released gang enters PLAYING one tick after release. (R334) -/
  | gangPlay (k : Fin 32)
  /-- At the stop boundary the gang enters STOPPING with zero input. (R335) -/
  | gangStopping (k : Fin 32)
  /-- At the gates-off point each member's gates go off and the gang goes OFF or ARMED. (R335) -/
  | gangGatesOff (k : Fin 32)
  /-- 64 CLK_PORT cycles after an output tick boundary the Drive Engine fetches each gang's packet or substitutes
  zeros. (R16) -/
  | gangFetch
  /-- A group carrier cycle starts, taking V_rail and running the compensator and the members' edge schedules.
  (R322) -/
  | carrierCycleStart (g : Fin 8) (bits : List Bool) (late : Bool) (edge : Nat) (errs : List Nat)
  /-- A debounced FLT assertion turns off the gang's gates and sends it to FAULT_HOLD or LATCHED. (R336) -/
  | faultDecided (levels : BitVec 32)
  /-- At the restart boundary the gang returns to ARMED, goes OFF or fails its retry. (R337) -/
  | faultRestart (k : Fin 32)
  /-- A group's delay-tap calibration leaves its range, clearing CAL_OK. (R331) -/
  | calLoss (g : Fin 8)
  /-- A write to a group's carrier or configuration is applied or refused with CFG_DENIED. (R344) -/
  | grpConfigWrite (g : Fin 8) (reg : Fin 4) (v : Word)
  /-- A boost EN rise is refused or enters START. (R357) -/
  | bstEnable (g : Fin 8)
  /-- A boost EN write of 0 sends the controller OFF or is refused. (R357) -/
  | bstDisable (g : Fin 8)
  /-- A CLEAR write releases a LATCHED controller. (R354) -/
  | bstClear (g : Fin 8)
  /-- A write to a boost limit or loop register is applied or refused with CFG_DENIED. (R357) -/
  | bstConfigWrite (g : Fin 8) (reg : Fin 11) (v : Word)
  /-- After 16 settled carrier cycles the controller enters RUN and sets READY. (R354) -/
  | bstReady (g : Fin 8)
  /-- The peak-current comparator trips and ends the boost gate's on-time. (R348) -/
  | isnsTrip (g : Fin 8) (level t : Nat)
  /-- MAXD elapses and ends the boost gate's on-time. (R348) -/
  | maxOnTime (g : Fin 8) (t : Nat)
  /-- A rail sample above OVP latches the controller and holds its gangs. (R355) -/
  | bstOvervoltage (g : Fin 8) (bits : List Bool)
  /-- UV, ILIM, FREQ or drain stops the controller and holds its gangs. (R355) -/
  | bstStop (g : Fin 8) (cause : Fin 4)
  /-- A constant VSNS stream for 1024 cycles marks the sense lost and stops the controller. (R347) -/
  | senseLost (g : Fin 8)
  /-- After RESTART_MS a stopped controller returns to START. (R354) -/
  | bstRestart (g : Fin 8)
  /-- An HB_IN edge is time-stamped and may reveal a dual hold. (R372) -/
  | hbInEdge (stamp : Nat) (level : Bool)
  /-- A heartbeat deadline is evaluated, moving the standby toward a claim or a take. (R372) -/
  | hbDeadline (time : Nat)
  /-- BATON high for 32 cycles moves a standby to CONFIRM. (R374) -/
  | batonConfirmed (high : BatonHigh)
  /-- A holder seeing BATON high for 8 cycles releases and sets BATON_FAULT. (R373) -/
  | batonLost
  /-- After BATON high for 2 or 16 ticks a chip in INIT takes the baton. (R375) -/
  | initialClaim (edge : Nat)
  /-- A claim unanswered for 8 ticks returns the chip to STANDBY with CLAIM_FAIL. (R375) -/
  | claimTimeout
  /-- A holder whose HB_IN stays high for 256 ring cycles releases. (R378) -/
  | holderYield
  /-- The ring-oscillator watchdog releases drive when CLK_PORT or the tick stops. (R380) -/
  | watchdogFire
  /-- The chip sends one STATE frame per output tick. (R370) -/
  | stateFrameSend
  /-- A good STATE frame updates partner status and corrects the standby's compensators. (R370) -/
  | stateFrameReceive (ws : List Word)
  /-- A DATA frame delivers layer image or Saltern page data. (R370) -/
  | dataFrameReceive (ws : List Word)
  /-- A JOIN frame advances or aborts a warm join. (R383) -/
  | joinFrameReceive (ws : List Word)
  /-- Block lock and 16 good STATE frames raise QLINK_UP. (R369) -/
  | qlinkUp
  /-- Loss of block lock or 4 ticks without a good STATE lowers QLINK_UP. (R369) -/
  | qlinkDown (lost : Bool)
  /-- The standby compares its PCRC with the holder's for a proof channel. (R384) -/
  | proofCompare (i : Fin 8)
  /-- A guarded FORCE.TAKE takes the baton or is blocked. (R375) -/
  | forceTake (edge : Nat)
  /-- A guarded FORCE.RELEASE releases permission and inhibits the claim. (R375) -/
  | forceRelease
  /-- A guarded FORCE.HANDOVER schedules a handover 8 ticks ahead or is denied. (R387) -/
  | forceHandover
  /-- At the handover boundary the holder releases to the standby. (R387) -/
  | handoverRelease
  /-- TWIN.JOIN.START begins a warm join. (R383) -/
  | joinStart
  /-- TWIN.JOIN.ABORT sends JOIN 5 and ends the join. (R383) -/
  | joinAbort
  /-- At the end of CONVERGE.TICKS CONVERGED rises or the count restarts. (R383) -/
  | convergeCountEnd
  /-- LAM LOAD reads the staged header and checks its format. (R394) -/
  | load
  /-- LAM VERIFY starts the checks of the staged image. (R396) -/
  | verify
  /-- VERIFY completes with VERIFY_OK or VERIFY_FAIL and a result code. (R396) -/
  | verifyDone
  /-- LAM ARM chooses the switch boundary and begins EARLY copies. (R397) -/
  | arm
  /-- LAM DISARM drops the staged image. (R394) -/
  | disarm
  /-- LAM CONFIRM closes the confirm window and enters STEADY. (R401) -/
  | confirm
  /-- LAM SAVE writes the current image to a flash slot or is refused. (R403) -/
  | save
  /-- A guarded GCMD.ROLLBACK switches back to the previous layer or is refused. (R402) -/
  | rollback
  /-- A guarded GCMD.ERASE erases a flash slot or is refused. (R403) -/
  | erase (slot : Fin 2)
  /-- The EARLY data copies of an armed layer complete. (R398) -/
  | earlyCopyDone
  /-- At the switch boundary tasks, DMA, flows and ports stop and gangs play half duty. (R399) -/
  | switchDrainStart
  /-- At B + 2 ticks the new layer is in force and SWITCHED is set. (R399) -/
  | switchDrainEnd
  /-- The confirm window expires and triggers an automatic rollback or lapses. (R401) -/
  | confirmWindowExpire
  /-- A SAVE or ERASE finishes with SAVE_DONE or SAVE_FAIL. (R403) -/
  | flashDone (ok : Bool)
  /-- QSPI command 0x02 writes words on one lane. (R407) -/
  | write (addr : BitVec 24) (bytes : List Byte)
  /-- QSPI command 0x0B reads words with wait and ready token. (R408) `got` is how many words the host takes, and whether
  it abandons a further one that was read for it (R410). -/
  | read (addr : BitVec 24) (got : Nat × Bool)
  /-- QSPI command 0x32 writes words on four lanes. (R407) -/
  | qwrite (addr : BitVec 24) (bytes : List Byte)
  /-- QSPI command 0xEB reads words on four lanes with wait and token. (R408) `got` as for READ. -/
  | qread (addr : BitVec 24) (got : Nat × Bool)
  /-- QSPI command 0x05 returns HQ_STAT without side effects. (R407) -/
  | status
  /-- An unknown command code is ignored until HQ_CS_N rises and sets BAD_CMD. (R407) -/
  | badCmd (code : BitVec 8)
  /-- Data not ready by wait cycle 1024 sends zeros and sets RD_TIMEOUT. (R410) `got` is how many words came in time
  before it, and how many words of zeros the host clocks. -/
  | readTimeout (addr : BitVec 24) (got : Nat × Nat)
  /-- A buffered write is performed at its target in order of arrival. (R413) -/
  | postedWritePerform
  /-- A write to a register with no row of its own applies its fields by type. (R420) -/
  | registerWrite (r : Fin 65) (addr v : Word)
  /-- A read of an RC field returns its value and resets it. (R420) -/
  | rcRead (r : Fin 65) (addr : Word)
  /-- A write of SYS.IND_DATA writes the named indirect register and advances OFFSET. (R418) -/
  | indDataWrite (r : Fin 65) (v : Word)
  /-- A read of SYS.IND_DATA reads the named indirect register and advances OFFSET. (R418) -/
  | indDataRead (r : Fin 65)
  /-- A write of SYS.UNLOCK arms the requester's guard or counts a bad key. (R422) -/
  | unlock (r : Fin 65) (v : Word)
  /-- A mailbox read request snapshots an MB register into the data registers. (R425) -/
  | mbxReadReq
  /-- A mailbox write request applies the data registers to an MB register. (R425) -/
  | mbxWriteReq
  /-- The Saltern scrub completes and the boot ROM starts on C0.X1. (R435) -/
  | scrubDone
  /-- At Update-DR the named unit is reset at its reset point with its boundary settled. (R441) -/
  | unitReset (kind : BitVec 4) (index : BitVec 10)
  /-- 256 cycles after the reset point the unit reset completes and DONE captures 1. (R442) -/
  | unitResetDone (kind : BitVec 4) (index : BitVec 10)
  /-- JTAG EXTEST cuts the functional logic from the pins with PH, gate and BATON pins high-Z. (R463) -/
  | extest
  /-- JTAG IDCODE selects the 32-bit identification register. (R462) -/
  | idcode
  /-- JTAG SAMPLE/PRELOAD selects the boundary scan register without cutting the pins. (R462) -/
  | samplePreload
  /-- JTAG HIGHZ cuts the functional logic and makes outputs high-Z. (R463) -/
  | highz
  /-- JTAG CLAMP cuts the functional logic and holds boundary values. (R463) -/
  | clamp
  /-- JTAG BYPASS selects the one-bit bypass register. (R462) -/
  | bypass
  /-- A PAD[i] write sets drive and slew or is refused with DENIED while its pins are in use. (R454) -/
  | padWrite (i : Fin 48) (v : Word)
  /-- VDD_CORE and VDD_IO18 return above their monitor thresholds, and the internal monitor stops holding the chip
  in reset. (R430) -/
  | supplyRestored
  /-- BATON is seen low after its synchroniser, which sends a chip in CONFIRM back to STANDBY before its deadline
  evaluation. (R375) -/
  | batonFalls
  /-- A group's delay-tap calibration returns within its range and CAL_OK is set again, which allows gang releases
  under R333. (R331) -/
  | calOkRestored (g : Fin 8)
  /-- A die-temperature measurement completes every 1 ms and updates PLL.TEMP; VALID is set after the first one.
  (R55) -/
  | tempMeasurement (t : Int)
  /-- The TAP enters Test-Logic-Reset through TRST_N or TMS, selects IDCODE and returns the pins to the functional
  logic. (R462) -/
  | testLogicReset
  deriving DecidableEq, Repr

end Sys2Proof
end

