-- ==== Sys2Proof/Decode.lean ====
section
/-! DEFINITION. Words that spell a command. The command table gives no row any bits: a command is an event with
operands and no word, so that no word spells one. The processors' 32-bit instruction words are fields of Saltern's
memory, and which of them are defined is `Sys2Proof.Machine.isaDefined`. -/

namespace Sys2Proof

/-- The command that a word spells by the table's bits: none, as every row's list of bits is empty. -/
def decodeTableWord (_nbits _w : Nat) : Option Instr := none

end Sys2Proof
end

