-- ==== Sys2Proof/Config.lean ====
section
/-! DEFINITION. What the spec leaves to the implementation or does not state: constants with no body, so that no proof
can rest on a value of them. Each is applied to the state's counter of free values or to the operands it depends on. -/

namespace Sys2Proof.Config

/-- The number of the silicon step that SYS.ID.STEP reads (R428): the spec gives no number. -/
opaque siliconStep : Nat

/-- A fresh free value for the `n`-th use: what it stands for is said where it is used. -/
opaque free : Nat → Nat

/-- How many CLK_ENG cycles a block ran (X[x].RUNTIME): timing, which this model leaves out. -/
opaque blockCycles : Nat → Nat

/-- How many descriptors ahead a DMA channel prefetches at its `n`-th fetch (R233: up to two). -/
opaque dmaPrefetch : Nat → Nat

/-- Where the free lists' share of the cell region begins: the spec does not say which cells a list receives (R195). -/
opaque firstCell : Nat

/-- The payload and sign of the NaN that an operation on quiet NaN operands gives (R241 states none). -/
opaque nanPayload : Nat → Nat → Nat

/-- Which of two zeros of unlike sign FMIN and FMAX give (R277 states none). -/
opaque zeroPick : Nat → Nat → Bool

/-- The FIR stage of a PDM (false) or SENSE (true) decimator for so many bits in an output period: its coefficients
from the outermost to the middle, and how far its gain at zero frequency is from 1, in 10⁻⁸ (R164 publishes neither). -/
opaque decimTap : Bool → Nat → Nat → Int
opaque decimGain : Bool → Nat → Int

/-- The taps of a gang's interpolator in 2^-32, by its rate code and their place in points of 6.144 MHz after a
sample's time point (R326 does not publish its coefficients). -/
opaque interp : Nat → Int → Int

/-- The weights, in 2^-16, of a noise shaper's last three errors, and its errors after a half-cycle of zero input (R329
publishes neither). -/
opaque shaperTap : Nat → Int
opaque shaperRest : List Int → List Int

/-- Which of R2's rates, 48, 96 or 192 kHz, WCLK_OUT.RATE 3 drives: the table reserves the code. -/
opaque reservedRate : Nat

/-- How much longer CLK_SYS cycles last at the `n`-th CLK_TIME cycle while their clock is spread (R33 states the range
of its rate and not where in it a wait falls). -/
opaque spread : Nat → Nat

/-- The length of the boundary-scan register, whose cells the spec does not number, and the bits of its update latches
(R462). -/
opaque scanLength : Nat
opaque scanLatch : Nat → Bool

end Sys2Proof.Config
end

