-- ==== Sys2Proof/Machine/Sparse.lean ====
section
/-! DEFINITION. Maps from numbers held as plain lists in one canonical form: keys strictly rising, and no entry
equal to what an unlisted key reads as. The register-field file, the queues and Saltern's bytes are held so. -/

namespace Sys2Proof.Machine

/-- The value at key `k`; `d k` where the list has no entry. -/
def Sparse.get {α : Type} (d : Nat → α) : List (Nat × α) → Nat → α
  | [], k => d k
  | (j, v) :: r, k => if j = k then v else Sparse.get d r k

/-- Put `v` at key `k`, in rising order of keys. -/
def Sparse.insert {α : Type} : List (Nat × α) → Nat → α → List (Nat × α)
  | [], k, v => [(k, v)]
  | (j, w) :: r, k, v =>
    if j < k then (j, w) :: Sparse.insert r k v
    else if j = k then (k, v) :: r
    else (k, v) :: (j, w) :: r

/-- Remove every entry of key `k`. -/
def Sparse.erase {α : Type} : List (Nat × α) → Nat → List (Nat × α)
  | [], _ => []
  | (j, w) :: r, k => if j = k then Sparse.erase r k else (j, w) :: Sparse.erase r k

/-- Make key `k` read `v`; an entry equal to the default is not listed. -/
def Sparse.set {α : Type} [DecidableEq α] (d : Nat → α) (m : List (Nat × α)) (k : Nat) (v : α) : List (Nat × α) :=
  if v = d k then Sparse.erase m k else Sparse.insert m k v

/-- The canonical form: keys strictly rising from above `lo`, no entry equal to the default. -/
def Sparse.wfFrom {α : Type} [DecidableEq α] (d : Nat → α) : Option Nat → List (Nat × α) → Bool
  | _, [] => true
  | lo, (j, v) :: r => (match lo with | none => true | some l => decide (l < j)) && decide (v ≠ d j)
      && Sparse.wfFrom d (some j) r

/-- The canonical form of a whole map. -/
def Sparse.wf {α : Type} [DecidableEq α] (d : Nat → α) (m : List (Nat × α)) : Bool := Sparse.wfFrom d none m

end Sys2Proof.Machine
end

