-- ==== Sys2Proof/Machine/PartsDrive.lean ====
section
/-! DEFINITION. The Drive Engine's state that no register field holds: gangs, groups and rail controllers
(R317 to R358). -/

namespace Sys2Proof.Machine

/-- How the gates of a gang that has left its switching states end (R335, R341): at once; at the members' cycles of
the next carrier cycle; at those of the running one. -/
inductive GateEnd where
  | atOnce | next | running
  deriving DecidableEq, Repr

/-- A half-cycle that is not computed yet (R325): of the carrier cycle `age` cycles before the running one, of member
`m`, the second of its cycle or the first, driven by the input at `at_`, or by zero where `quiet` (R334), with the
reference voltage, V_rail and calibration of its carrier cycle (R327, R331). -/
structure HalfCycle where
  age    : Nat
  m      : Nat
  second : Bool
  at_    : Int
  quiet  : Bool
  vref   : Nat
  num    : Nat
  den    : Nat
  calOk  : Bool
  deriving DecidableEq, Repr

/-- A gang (R318, R332): the rate taken at release, the tick of its release, the boundary of a stop that is pending or
playing out, the look-ahead of a stop that a switch began (R341), the times of its recorded faults in ns of corrected
time (R338), its restart boundary (R337), the accepted samples by output tick (R324, R325), the input inversion in
force and the tick from which the register's value counts (R325), the last errors of each member's noise shaper,
newest first, in 2^-32 of an eighth of a CLK_EDGE cycle (R329), and each member's commanded edges of the running
carrier cycle and of the three before it, newest first, rise and fall, in eighths of a CLK_EDGE cycle from the start
of the group's cycle (R328, R329). `ends` tells how its gates go off, `relEdge` the CLK_EDGE time of its release
(R334) and `faultRaw` RAW at its last fault decision (R343). `due` tells that every condition of a release held at the
last tick boundary (R333), `clipped` that a cycle clipped since that boundary (R327); `todo` holds the half-cycles that
wait for a fetch, whose edges stand at half duty until it comes, and `counted` the ages of the carrier cycles that have
been counted as clipped. -/
structure Gang where
  rate      : Nat
  relTick   : Nat
  stopAt    : Option Nat
  stopLa    : Option Nat
  hist      : List Int
  restartAt : Nat
  samples   : List (Nat × List Int)
  invNow    : Bool
  invFrom   : Nat
  shapers   : List (List Int)
  edges     : List (Nat × Nat)
  before    : List (List (Nat × Nat))
  ends      : GateEnd
  relEdge   : Int
  faultRaw  : Option Nat
  due       : Bool
  clipped   : Bool
  todo      : List HalfCycle
  counted   : List Nat
  deriving DecidableEq, Repr

/-- A gang at reset. -/
def Gang.init : Gang := ⟨0, 0, none, none, [], 0, [], false, 0, [], [], [], .atOnce, 0, none, false, false, [], []⟩

/-- A group (R317): the reference voltage in force before a write of it counts and the tick from which the register's
value does (R327), how many ticks the running carrier stands off its grid (R323), how many of its cycles have started
since the last tick boundary (R322), a new layer's records for the group that wait for its last gates-off point
(R341), and whether that layer keeps its DIV and OFS (R356). -/
structure Group where
  vrefNow  : Nat
  vrefFrom : Nat
  slip     : Nat
  count    : Nat
  waiting  : List (Nat × Nat)
  same     : Bool
  deriving DecidableEq, Repr

/-- A group at reset. -/
def Group.init : Group := ⟨12288, 0, 0, 0, [], false⟩

/-- The settings of a rail controller, as its registers of R359 name them. -/
structure BstCfg where
  mode     : Nat
  phase    : Nat
  min      : Nat
  max      : Nat
  ovp      : Nat
  uvMargin : Nat
  uvCyc    : Nat
  ilim     : Nat
  ilimCyc  : Nat
  slew     : Nat
  kp       : Nat
  ki       : Nat
  maxd     : Nat
  leb      : Nat
  slope    : Nat
  fs       : Nat
  headroom : Nat
  restart  : Nat
  deriving DecidableEq, Repr

/-- The reset values of R359. -/
def BstCfg.init : BstCfg := ⟨0, 8, 12288, 12288, 13568, 8, 64, 800, 32, 200, 0, 0, 218, 40, 0, 16384, 282, 100⟩

/-- A write of CTL that takes effect at the next carrier cycle start (R357): EN to 1, EN to 0, CLEAR. -/
inductive BstOrder where
  | enable | disable | clear
  deriving DecidableEq, Repr

/-- An on-time of the boost switch (R348): its turn-on, its end, if that has come, and the end that MAXD sets it, in
eighths of a CLK_EDGE cycle from the start of the running carrier cycle, and its threshold code. -/
structure OnTime where
  start : Int
  stop  : Option Int
  last  : Int
  code  : Nat
  deriving DecidableEq, Repr

/-- A rail controller (R347 to R358): V_rail of the last cycle as a quotient in 1/256 V, the compensator's command
with 16 fractional bits and its last error (R349), the reference with 16 fractional bits (R352), the target waiting to
become the goal and the ENV target of the present tick (R350), the follower's peaks by tick (R351), the lengths of the
runs of settled, under-voltage and clamped cycles (R354, R355), the on-times of the gate in the running carrier cycle,
RAW at the last stop, the settings in force and the orders that wait for the next carrier cycle start (R357). `marks`
holds c at the first carrier cycle start at or after recent ticks (R370), `corr` the holder's c that a standby has yet
to take over with its tick (R367), `past` V_rail by the CLK_EDGE time at which its cycle ended, and `held` tells that
the running cycle stands under R376's hold. `stream` holds the last 190 bits of BSTg_VSNS, newest first, `run` how many
of the last bits were alike, up to 1024, and `rails` the ones densities, in 2^-18, of the rail samples whose windows
ended in the running cycle (R347). -/
structure Bst where
  vNum    : Nat
  vDen    : Nat
  ovSeen  : Bool
  cmd     : Nat
  ePrev   : Int
  ref     : Nat
  due     : Option Nat
  env     : Option Nat
  peaks   : List (Nat × Nat)
  settled : Nat
  uvRun   : Nat
  ilRun   : Nat
  ons     : List OnTime
  stopRaw : Nat
  marks   : List (Nat × Nat)
  corr    : Option (Nat × Nat)
  past    : List (Nat × Nat × Nat)
  held    : Bool
  cfg     : BstCfg
  orders  : List BstOrder
  stream  : List Bool
  run     : Nat
  rails   : List Nat
  deriving DecidableEq, Repr

/-- A controller at reset. -/
def Bst.init : Bst := ⟨0, 1, false, 0, 0, 0, none, none, [], 0, 0, 0, [], 0, [], none, [], false, BstCfg.init, [], [], 0, []⟩

/-- The Drive Engine: FLT levels after debounce (R336), the output tick last fetched plus one, and the tick at which a
drain of two half-duty ticks began (R341). -/
structure Drive where
  flt     : Nat
  fetched : Nat
  drain   : Option Nat
  gangs   : List (Nat × Gang)
  groups  : List (Nat × Group)
  bsts    : List (Nat × Bst)
  deriving DecidableEq, Repr

/-- The Drive Engine at reset. -/
def Drive.init : Drive := ⟨0, 0, none, [], [], []⟩

end Sys2Proof.Machine
end

