-- ==== Sys2Proof/Machine/PartsEngine.lean ====
section
/-! DEFINITION. The Engine domain's state that no register field holds: queues, translation buffers, contexts,
DMA channels and pending routes (R193 to R313). -/

namespace Sys2Proof.Machine

/-- A word stored in a queue (R193). Every stored word has V = 1, so V is not kept. -/
structure QWord where
  data : Word
  e    : Bool
  k    : Nat
  deriving DecidableEq, Repr

/-- A closed packet (R199). `arrival` is the tick in whose span it entered its consumer's view and `ord` its place
among that tick's packets (R251, R252); both are unset while it is still crossing or held (R202, R254). `begun` tells
that a pop has taken some of its words (R443), and `gap` is the number of words behind it, up to the next packet
stored, that have been popped before it (R252). -/
structure Packet where
  words   : List QWord
  hold    : Option Nat
  arrival : Option Nat
  ord     : Nat
  begun   : Bool
  gap     : Nat
  deriving DecidableEq, Repr

/-- A queue (R194, R199 to R208). `head` is the number of words already popped from the first cell held; `chain` the
cells held, by their numbers; `crossing` the cells back on the common list whose credit has not reached the producer
(R202); `discard` tells that the rest of the producer's packet is thrown away to its end mark (R198, R204, R208);
`arrTick` and `arrCount` count the arrivals of the present tick; `asked` counts the written resets that wait for their
reset points. -/
structure Queue where
  packets    : List Packet
  openWords  : List QWord
  discard    : Bool
  head       : Nat
  chain      : List Nat
  crossing   : Nat
  epoch      : Nat
  remembered : Nat
  err        : Bool
  parked     : Bool
  arrTick    : Nat
  arrCount   : Nat
  asked      : Nat
  deriving DecidableEq, Repr

/-- A queue as the layer leaves it: empty, epoch 0. -/
def Queue.init : Queue := ⟨[], [], false, 0, [], 0, 0, 0, false, false, 0, 0, 0⟩

/-- Cells of the chain. -/
def Queue.alloc (q : Queue) : Nat := q.chain.length

/-- Whose a cell is, as its metadata entry's OWNER names it (R194): a free list, a queue, a port's ring. -/
inductive CellOwner where
  | free
  | queue (q : Nat)
  | ring (p : Nat)
  deriving DecidableEq, Repr

/-- A cell's metadata entry: OWNER, and NEXT, the number of the following cell (R194). -/
structure CellMeta where
  owner : CellOwner
  next  : Nat
  deriving DecidableEq, Repr

/-- What the manager last did to a queue's packet count: the queue, its count before the CLK_ENG cycle and after, its
HI_EV and LO_EV before that cycle, and RAW at the move (R205, R209). -/
structure CountMove where
  queue : Nat
  was   : Nat
  now   : Nat
  hi    : Bool
  lo    : Bool
  raw   : Nat
  deriving DecidableEq, Repr

/-- The cell pool beside the cells' data, which lies in Saltern: the metadata entries by cell number, the tags by word
(64 × cell + place), the words that the command in progress has put into cells, with their byte addresses, until they
are in Saltern (R190, R193, R194), how many cells each port's list received at the last rebuild (R195), and the last
move of a packet count (R209). -/
structure Pool where
  cells : List (Nat × CellMeta)
  tags  : List (Nat × Nat)
  out   : List (Nat × Nat)
  split : List Nat
  move  : Option CountMove
  deriving DecidableEq, Repr

/-- The pool at reset: every cell is free and every tag zero. -/
def Pool.init : Pool := ⟨[], [], [], [], none⟩

/-- Whose cells the rake returns: a queue's after a reset, the same after a forced reset (by owner scan), a queue's
abandoned cells, or a port ring's released frame (R195, R200, R206, R208). -/
inductive RakeOwner where
  | reset (q : Nat)
  | scan (q : Nat)
  | abandon (q : Nat)
  | ring (p : Nat)
  deriving DecidableEq, Repr

/-- One entry of the rake's work, in the order of the reset points (R206): the chain it walks. An owner scan has none
(R208). -/
structure RakeJob where
  owner : RakeOwner
  cells : List Nat
  deriving DecidableEq, Repr

/-- A translation held by a TLB (R218). -/
structure TlbEntry where
  vpn  : Nat
  asid : Nat
  g    : Bool
  ppn  : Nat
  r    : Bool
  w    : Bool
  x    : Bool
  l    : Bool
  s    : Bool
  d    : Bool
  leaf : Nat
  deriving DecidableEq, Repr

/-- An invalidation in progress (R220); `waiter` is the context whose TLBINV waits for it, with its core's generation
(R442). -/
structure InvReq where
  op     : Nat
  asid   : Nat
  va     : Nat
  waiter : Option (Nat × Nat)
  deriving DecidableEq, Repr

/-- One entry of a task's input or output list (R243). -/
structure ListEntry where
  queue : Nat
  ppt   : Nat
  plain : Bool
  deriving DecidableEq, Repr

/-- One stream pointer of a task descriptor (R242). -/
structure PtrInit where
  base  : Nat
  len   : Nat
  index : Nat
  wb    : Bool
  deriving DecidableEq, Repr

/-- A task descriptor as the dispatcher holds it (R242, R244). -/
structure Task where
  free    : Bool
  auto    : Bool
  n       : Nat
  phase   : Nat
  asid    : Nat
  entry   : Nat
  handler : Nat
  ins     : List ListEntry
  outs    : List ListEntry
  ptrs    : List PtrInit
  desc    : Nat
  deriving DecidableEq, Repr

/-- What the dispatcher last read at a context's descriptor (R244). -/
inductive DescCopy where
  | unread
  | refused
  | good (t : Task)
  deriving DecidableEq, Repr

/-- Progress of a block on one input queue (R252): slots reached so far, and whether the last of them still has words. -/
structure InSlot where
  reached : Nat
  inSlot  : Bool
  deriving DecidableEq, Repr

/-- Progress of a block on one output queue (R254, R255): packets begun, packets closed, and what becomes of the
words of the packet now being pushed. -/
structure OutSlot where
  begun  : Nat
  closed : Nat
  isOpen : Bool
  excess : Bool
  lost   : Bool
  deriving DecidableEq, Repr

/-- The run states of R248. HALTED is any state but OFF under a set HALT bit, and RUNNING is READY and highest on its
core; neither is held here. -/
inductive RunState where
  | off | idle | ready | yielded | tickwait | faulted
  deriving DecidableEq, Repr

/-- A DMA fault delivered to its owner as an exception: the channel and the record's words W0 to W3, W3 the time at
which the channel recorded it (R225, R231). -/
structure DmaExc where
  ch    : Nat
  words : List Nat
  deriving DecidableEq, Repr

/-- A context's architectural state (R240) and its task's progress. The register files are sparse maps that read 0:
`g` by register, `a` and `aov` by accumulator, `v` by 8 × register + lane, `p` by 3 × pointer + field. `restart` tells
that the task is to begin at a boundary to come (R248, R444). `popping` are the plain queues of which the context has
popped a part of a packet, `made` the queues to which it has pushed (R443); `mixing` holds the PC of a MIX that has yet
to discard the rest of its input's packet (R291). -/
structure Ctx where
  g       : List (Nat × Word)
  a       : List (Nat × BitVec 72)
  aov     : List (Nat × Bool)
  v       : List (Nat × Word)
  p       : List (Nat × Nat)
  pc      : Nat
  asid    : Nat
  fsr     : Nat
  epc     : Nat
  ecause  : Nat
  run     : RunState
  stall   : Bool
  task    : Option Task
  copy    : DescCopy
  inSlots : List (Nat × InSlot)
  outSlots : List (Nat × OutSlot)
  release : Nat
  lastRel : Option Nat
  dmaExc  : List DmaExc
  restart : Bool
  popping : List Nat
  made    : List Nat
  mixing  : List Nat
  deriving DecidableEq, Repr

/-- A context before any layer enables it. -/
def Ctx.init : Ctx :=
  ⟨[], [], [], [], [], 0, 0, 0, 0, 0, .off, false, none, .unread, [], [], 0, none, [], false, [], [], []⟩

/-- A DMA channel's state beside its registers: the current descriptor's words W0 to W6, the prefetched copies by their
address (R227, R233), the code and end mark of a transfer that has ended while its W6 is still to be written, the queues
at which a mode-1 packet is open (R229), and the words of the last fault's record (R225). -/
structure Dma where
  cur      : List Nat
  prefetch : List (Nat × List Nat)
  ended    : Option (Nat × Bool)
  opens    : List Nat
  fault    : List Nat
  deriving DecidableEq, Repr

/-- A channel that has done nothing. -/
def Dma.init : Dma := ⟨[], [], none, [], []⟩

/-- A channel between chains: the packets it left open stay open, and its last fault's record stands. -/
def Dma.rest (m : Dma) : Dma := { Dma.init with opens := m.opens, fault := m.fault }

/-- What a pending ROUTE[e] write captured (R306): the binding, the timed boundary if any, and the first boundary
that lies 64 CLK_ENG cycles after the write. -/
structure RoutePend where
  q     : Nat
  off   : Bool
  timed : Option Nat
  after : Nat
  deriving DecidableEq, Repr

end Sys2Proof.Machine
end

