-- ==== Sys2Proof/Machine/PartsNet.lean ====
section
/-! DEFINITION. The state of the Ethernet ports and of the flow engine that no register field holds (R92 to R150). -/

namespace Sys2Proof.Machine

/-- A gate control list in force or pending (R115, R116): mask and interval of each entry, the cycle and BASE_TIME in
ns of corrected time, and the cycle start from which it is the operating list. -/
structure Gcl where
  entries : List (Nat × Nat)
  cycle   : Nat
  base    : Int
  start   : Int
  deriving DecidableEq, Repr

/-- A class-6 frame that the packetiser has built: its bytes without FCS, its launch time in ns of corrected time, its
flow and its path (R144, R149). -/
structure TxFrame where
  bytes  : List Byte
  launch : Int
  flow   : Nat
  path   : Nat
  deriving DecidableEq, Repr

/-- The frame on the line: its class, its bytes with FCS, its transmit stamp in 1/16 ns (R72), the flow and path of a
class-6 frame; `desc` is the descriptor's address once a flush has taken it out of its ring, `buf` the place and
length of a descriptor's buffer. -/
structure OnLine where
  cls   : Nat
  bytes : List Byte
  stamp : Int
  src   : Option (Nat × Nat)
  desc  : Option Nat
  buf   : Option (Nat × Nat)
  deriving DecidableEq, Repr

/-- A frame that a receive ring holds: its ring, its descriptor's index, the chain of its cells and its words as R104
stores them there. -/
structure RxFrame where
  ring  : Nat
  idx   : Nat
  cells : List Nat
  words : List Nat
  deriving DecidableEq, Repr

/-- A MAC port: AN_EN as taken at the rise of EN (R94), a disable that waits for the frame on the line (R123), the end
of a pause in units of 0.1 ns of RAW time (R114), the frames the receive rings hold and the count of frames written to
each (R103), the launch instant of each ring class's head (R119), the class-6 queue, the frames that a TEU has
released in each class (R87), the gate lists and BASE_TIME (R116), and RAW when the line fell idle and when an LPI
wake ends (R122). `last` is the last frame sent, as it ended on the line (R112), and `ripe` holds the classes whose
head was eligible before its late limit passed (R120). `rose` and `fell` are RAW at the last rise and at the last fall
of EN (R123), and `tails` the recent TAIL writes of the receive rings, newest first: RAW, the ring, and TAIL before
the write (R107). -/
structure Mac where
  anEn    : Bool
  closing : Bool
  line    : Option OnLine
  pause   : Nat
  rx      : List RxFrame
  seq0    : Nat
  seq1    : Nat
  heads   : List (Nat × Option Int)
  c6      : List TxFrame
  rel     : List (Nat × Nat)
  gclOp   : Option Gcl
  gclPend : Option Gcl
  gclBase : Nat
  idleRaw : Nat
  wakeRaw : Nat
  last    : Option OnLine
  ripe    : List Nat
  rose    : Nat
  fell    : Nat
  tails   : List (Nat × Nat × Nat)
  deriving DecidableEq, Repr

/-- A MAC port at reset. -/
def Mac.init : Mac := ⟨false, false, none, 0, [], 0, 0, [], [], [], none, none, 0, 0, 0, none, [], 0, 0, []⟩

/-- A frame that waits for the flow engine (R109, R138): the flow it hit, the path, its bytes with any tag stripped and
without FCS, its receive stamp in 1/16 ns, its port, and the tick in which it hit (R136). -/
structure FlowFrame where
  flow  : Nat
  path  : Nat
  bytes : List Byte
  stamp : Int
  port  : Nat
  tick  : Nat
  deriving DecidableEq, Repr

/-- What a receive flow takes at its EN rise (R148). -/
structure RxCfg where
  fmt    : Nat
  rate   : Nat
  ch     : Nat
  group  : Nat
  port   : Nat
  dual   : Bool
  ssrcEn : Bool
  ticks  : Nat
  vidEn  : Bool
  keyA   : Nat × Nat
  keyB   : Nat × Nat
  pt     : Nat
  ssrc   : Nat
  link   : Nat
  ring   : Nat
  qbase  : Nat
  rtpOff : Nat
  deriving DecidableEq, Repr

/-- One path of a receive flow (R143): the largest media stamp accepted, the deadline awaiting evaluation beside the
stamp it was set from, all in 1/16 ns, whether a packet stamped after that deadline has been accepted, and the last
sequence number (R128). -/
structure Path where
  sLast : Option Int
  due   : Option (Int × Int)
  later : Bool
  seq   : Option Nat
  deriving DecidableEq, Repr

/-- A path that has accepted nothing. -/
def Path.init : Path := ⟨none, none, false, none⟩

/-- A receive flow: its configuration while it is enabled, the first tick from which it accepts packets (R136), and its
paths. -/
structure RxFlow where
  cfg   : Option RxCfg
  since : Nat
  a     : Path
  b     : Path
  deriving DecidableEq, Repr

/-- A receive flow that is not enabled. -/
def RxFlow.init : RxFlow := ⟨none, 0, Path.init, Path.init⟩

/-- What a transmit flow takes at its EN rise (R148). -/
structure TxCfg where
  fmt    : Nat
  rate   : Nat
  m      : Nat
  ch     : Nat
  port   : Nat
  dual   : Bool
  csum   : Bool
  hdrA   : Nat × Nat
  hdrB   : Nat × Nat
  launch : Nat
  rtpOff : Nat
  pres   : Nat
  deriving DecidableEq, Repr

/-- A packet being gathered (R144): MEDIA_COUNT and the corrected time in ns at its first boundary, and each tick's
samples, one list per channel; `sent` tells that the chip had the right to send at that boundary (R366). -/
structure Gather where
  count : Nat
  sent  : Bool
  time  : Int
  ticks : List (List (List Nat))
  deriving DecidableEq, Repr

/-- A transmit flow: its configuration while it is enabled, the first tick at which it may start, its packet, and the
next IPv4 identification (R147). -/
structure TxFlow where
  cfg   : Option TxCfg
  since : Nat
  cur   : Option Gather
  ipid  : Nat
  deriving DecidableEq, Repr

/-- A transmit flow that is not enabled. -/
def TxFlow.init : TxFlow := ⟨none, 0, none, 0⟩

/-- The network side; `draining` tells that a SWITCH drain holds the control rings, the flow engine and transmission
stopped (R399). -/
structure Net where
  draining : Bool
  macs    : List (Nat × Mac)
  ingress : List FlowFrame
  rxs     : List (Nat × RxFlow)
  txs     : List (Nat × TxFlow)
  deriving DecidableEq, Repr

/-- The network side at reset. -/
def Net.init : Net := ⟨false, [], [], [], []⟩

end Sys2Proof.Machine
end

