-- ==== Sys2Proof/Machine/PartsPort.lean ====
section
/-! DEFINITION. The state of the serial audio ports that no register field holds (R167 to R187). Sample boundaries are
numbered 6k × tick + j, for the j-th boundary of a tick at a rate of k samples per 48 kHz sample. -/

namespace Sys2Proof.Machine

/-- Whether a port runs (R186, R187). -/
inductive PortRun where
  | off | starting | running
  deriving DecidableEq, Repr

/-- The lock states of R185; a port in Locking locks at the first boundary after tick `since`. -/
inductive PortLock where
  | unlocked | locking (since : Nat) | locked
  deriving DecidableEq, Repr

/-- The packet of an input frame whose slots are complete: its time point, its words before any mute, and whether the
frame holds a burst (R173, R183). -/
structure InPacket where
  point : Nat
  words : List Nat
  burst : Bool
  deriving DecidableEq, Repr

/-- One data lane: the next time point it has not served, the mask a frame start captures now (a write that came too
late for the next frame start waits in the register, R174), the time points and masks of input frames whose slots are
not complete yet, the packets that wait for the port's other lane (R183), those that wait for the boundary of their
time point, the queues that the lane has left with the tick before whose boundary they were bound and whether they
were OFF, oldest first (R307), the packets taken for later frames, what the frame in progress and the one before it
show in their slots (a slot may run over into the next frame, R170), and the inputs +1 and −1 of the two decimators,
newest first (R164, R178). -/
structure Lane where
  next   : Nat
  cap    : Nat
  frames : List (Nat × Nat)
  ready  : List InPacket
  held   : List (Nat × List Nat)
  olds   : List (Nat × Nat × Bool)
  taken  : List (Nat × List Nat)
  shown  : List (Option Nat)
  before : List (Option Nat)
  rise   : List Int
  fall   : List Int
  deriving DecidableEq, Repr

/-- A port (R167): the fields taken at its EN rise, its first time point (R186), its frame and block counters, the
lock and the measuring window with the tolerance that its end judges by (R184, R185), the error and non-audio counters
(R180, R183), and the channel status being sent (R182). -/
structure Sap where
  run      : PortRun
  stopping : Bool
  mode     : Nat
  master   : Bool
  rate     : Nat
  slots    : Nat
  width    : Nat
  aOut     : Bool
  bOut     : Bool
  idle     : Bool
  naPcm    : Bool
  delay    : Bool
  fsPol    : Bool
  bckPol   : Bool
  bckDiv   : Nat
  clkSel   : Bool
  started  : Nat
  first    : Nat
  frame    : Nat
  zpos     : Nat
  lock     : PortLock
  p0       : Nat
  winFirst : Option Nat
  winOk    : Bool
  lastPh   : Nat
  tol      : Nat
  bpBad    : Nat
  bpGood   : Nat
  naSince  : Nat
  csTx     : List Nat
  laneA    : Lane
  laneB    : Lane
  deriving DecidableEq, Repr

/-- An idle lane; 3 is the reset value of the masks (R188). -/
def Lane.init : Lane := ⟨0, 3, [], [], [], [], [], [], [], [], []⟩

/-- A port that has never been enabled. -/
def Sap.init : Sap :=
  ⟨.off, false, 0, false, 0, 2, 24, false, false, false, false, false, false, false, 3, false, 0, 0, 0, 0, .unlocked, 0, none, true, 0, 500, 0, 0, 0, [],
   Lane.init, Lane.init⟩

end Sys2Proof.Machine
end

