-- ==== Sys2Proof/Machine/PartsSystem.lean ====
section
/-! DEFINITION. The state of the twin logic, Laminate, the host interface, start-up and the test access port that no
register field holds (R360 to R464). -/

namespace Sys2Proof.Machine

/-- The level that a chip gives an output: high-Z, low or high. -/
inductive PinLevel where
  | z | low | high
  deriving DecidableEq, Repr

/-- The twin logic (R360 to R387). `released` tells that a solo chip gave permission away (R364); `confirmed` and
`force` that BATON is confirmed high (R374) and that a FORCE.TAKE waits for that; `since` is the tick and the CLK_EDGE
time at which BATON was first seen high; `hbIn` the level of HB_IN, `edges` the stamps of its last edges, `arrived`
those that no deadline has judged, `deadline` the last deadline, `misses` the run of missed ones; `claim` the tick of
a claim; `seq` the STATE number; `partner` the words of the partner's last good STATE with the tick of its arrival,
`blockLock` that the Q-link's lane has block lock and `goodRun` the run of good STATE frames since then (R12, R369),
`states` the recent ones of a holder by TICK, `own` this chip's PCRCs by TICK (R384);
`proofs` the proof gangs that count in this tick; `frameOk`, `bad` and `run` serve convergence (R383); `layerAt` is
where the first layer DATA of a join lies, `joinFrom` the tick from which convergence counts; `pages` the twin pages;
`handover` the announced tick; `hbOut` the level of HB_OUT; `undriven` the groups whose pins have not started since
the take; `holdSince` and `holdUntil` serve R376, `sclkFrom` is the CLK_EDGE time from which BST_SCLK is driven;
`holderVer` the VERSION of the last good STATE from a holder (R382); `due` the deadlines not yet judged (R372); `out`
the words of the frames given to the Q-link (R370). -/
structure Twin where
  released  : Bool
  confirmed : Bool
  force     : Bool
  since     : Option (Nat × Nat)
  hbIn      : Bool
  edges     : List Nat
  arrived   : List Nat
  deadline  : Option Nat
  misses    : Nat
  claim     : Nat
  seq       : Nat
  partner   : Option (List Nat × Nat)
  blockLock : Bool
  goodRun   : Nat
  states    : List (Nat × List Nat)
  own       : List (Nat × List (Option (Nat × Option Nat)))
  proofs    : List (Option Nat)
  frameOk   : Bool
  bad       : Bool
  run       : Nat
  layerAt   : Option Nat
  joinFrom  : Nat
  pages     : List (Nat × Nat)
  handover  : Option Nat
  hbOut     : PinLevel
  undriven  : List Nat
  holdSince : Nat
  holdUntil : Nat
  sclkFrom  : Nat
  holderVer : Option Nat
  due       : List Nat
  out       : List (List Nat)
  deriving DecidableEq, Repr

/-- The twin logic at reset: every output high-Z (R432). -/
def Twin.init : Twin :=
  ⟨false, false, false, none, false, [], [], none, 0, 0, 0, none, false, 0, [], [], [], false, false, 0, none, 0, [], none, .z,
   [], 0, 0, 0, none, [], []⟩

/-- A layer that Laminate holds: its address, VERSION, LENGTH and CRC (R393, R402). -/
structure Layer where
  addr    : Nat
  version : Nat
  length  : Nat
  crc     : Nat
  deriving DecidableEq, Repr

/-- What ARM captured (R397): TIMED with SWITCH_AT, the tick of the command, the tick in which the EARLY copies ended. -/
structure Arming where
  timed : Option Nat
  asked : Nat
  early : Option Nat
  deriving DecidableEq, Repr

/-- Why a switch runs: a staged layer, or a rollback, explicit or automatic, asked for in a tick (R394, R402). -/
inductive SwitchKind where
  | staged
  | rollback (auto : Bool) (asked : Nat)
  deriving DecidableEq, Repr

/-- Laminate (R389 to R405): the three layers, the state before LOAD, what ARM captured, the switch that waits or
drains with its boundary and with whether its record step is done, RAW at the end of the confirm window, the flash
operation in progress (its slot, and for SAVE the layer that was current when it was accepted), and whether a warm
join or the boot ROM drives the commit (R383, R439). -/
structure Lam where
  cur    : Option Layer
  prev   : Option Layer
  staged : Option Layer
  prior  : Nat
  arm    : Option Arming
  switch : SwitchKind
  drain  : Option Nat
  recorded : Bool
  window : Option Nat
  flash  : Option (Nat × Option Layer)
  auto   : Bool
  boot   : Option (List Nat)
  deriving DecidableEq, Repr

/-- Laminate at reset. -/
def Lam.init : Lam := ⟨none, none, none, 0, none, .staged, none, false, none, none, false, none⟩

/-- A requester of registers: the host is 0, context x is x + 1. Its guard (R422) and its indirect pair (R418). -/
structure Requester where
  armed   : Bool
  offset  : Nat
  space   : Nat
  autoinc : Bool
  err     : Bool
  deriving DecidableEq, Repr

/-- A requester at reset. -/
def Requester.init : Requester := ⟨false, 0, 0, true, false⟩

/-- A host write that waits in the buffer (R413): a register word, or up to four bytes of the Saltern window. -/
inductive Posted where
  | word (addr data : Nat)
  | bytes (addr : Nat) (bs : List (BitVec 8))
  deriving DecidableEq, Repr

/-- The host interface: the write buffer, the run of IND_DATA writes in quad form since it was last empty (R413), the
words that the last read put on the bus, CMD4 as it stands for the present
transaction (R407), the requesters, and the mailbox request in progress with its requester's override (R425). -/
structure HostIf where
  buf  : List Posted
  run  : Nat
  out  : List Nat
  cmd4 : Bool
  reqs : List (Nat × Requester)
  mbx  : Option (Nat × Bool)
  deriving DecidableEq, Repr

/-- The host interface at reset. -/
def HostIf.init : HostIf := ⟨[], 0, [], false, [], none⟩

/-- The JTAG instructions of R462. -/
inductive JtagIr where
  | extest | idcode | samplePreload | highz | clamp | unitReset | bypass
  deriving DecidableEq, Repr

/-- The test access port and the unit resets (R441, R442, R462): the instruction, the last KIND and INDEX written with
DONE and REFUSED, the units in reset, and the 4-bit generations by 1024 × KIND + INDEX. -/
structure Jtag where
  ir      : JtagIr
  kind    : Nat
  index   : Nat
  done    : Bool
  refused : Bool
  busy    : List (Nat × Nat)
  gens    : List (Nat × Nat)
  deriving DecidableEq, Repr

/-- The port after Test-Logic-Reset. -/
def Jtag.init : Jtag := ⟨.idcode, 0, 0, false, false, [], []⟩

/-- The supplies whose absence the monitor of R430 does not see (R429, R446). -/
inductive Supply where
  | sram | sd09 | sd18 | pll18
  deriving DecidableEq, Repr

/-- The system side: twin, Laminate, host, test port, and whether the Saltern scrub has ended (R435). -/
structure Sys where
  twin     : Twin
  lam      : Lam
  host     : HostIf
  jtag     : Jtag
  scrubbed : Bool
  deriving DecidableEq, Repr

/-- The system side at reset. -/
def Sys.init : Sys := ⟨Twin.init, Lam.init, HostIf.init, Jtag.init, false⟩

end Sys2Proof.Machine
end

