-- ==== Sys2Proof/Machine/PartsTime.lean ====
section
/-! DEFINITION. The state of TIME, the PLLs and the time event units that no register field holds (R30 to R90). -/

namespace Sys2Proof.Machine

/-- Where a realignment stands (R52): none, commanded in a tick and waiting for a boundary after it, draining since a
tick, acquiring. -/
inductive Realign where
  | none | waiting (asked : Nat) | draining (since : Nat) | acquiring
  deriving DecidableEq, Repr

/-- An OFFSET write of one CLK_TIME cycle (R67): the cycle, the value and override written, and what it found:
corrected time in 2^-40 ns, OFFSET with its fraction, the flags it may move, and the realignment; `added` is what
RESIDUAL took. -/
structure OffsetStep where
  raw      : Nat
  value    : Int
  override : Bool
  corr     : Int
  offset   : Int
  frac     : Nat
  added    : Int
  flags    : List Nat
  realign  : Realign
  deriving DecidableEq, Repr

/-- TIME (R56 to R71): the counter, the fold of R57, the tick grid's phase in corrected nanoseconds modulo one tick,
and the media count with the write that waits for its tick. `residual` is R54's signed 64-bit value in 1/16 ns and
`residFrac` what R47's clamp has accrued below it, in 2^-40 ns; `slewRaw` is RAW at the last slew step and `servoRaw`
RAW at the last servo write. `tickAt` is the media time of the last tick boundary in 1/16 ns, and `mediaSub` how many
base-rate sample boundaries have been seen to pass since (R70). `step` is the last OFFSET write (R67). -/
structure TimeSt where
  running    : Bool
  raw        : Nat
  rawR       : Nat
  offset     : Int
  frac       : Nat
  servoRaw   : Nat
  grid       : Nat
  mediaCount : Nat
  mediaHeld  : Option Nat
  mediaLoaded : Bool
  residual   : Int
  residFrac  : Nat
  slewRaw    : Nat
  tickAt     : Int
  mediaSub   : Nat
  step       : Option OffsetStep
  deriving DecidableEq, Repr

/-- Where MEDPLL stands in an acquisition (R36, R40, R52): none, waiting for lock, or locked and waiting for the tick
mark. -/
inductive Acq where
  | none | lock | mark
  deriving DecidableEq, Repr

/-- A reference choice: REF_SEL, REF_PORT, WCLK_RATE (R34). -/
structure RefChoice where
  sel  : Nat
  port : Nat
  rate : Nat
  deriving DecidableEq, Repr

/-- The PLLs (R31 to R53, R472): the acquisition and the realignment in progress, the reference in use and one that
waits for a boundary after the tick in which it was written (R41) and whether that is a fall-back (R42), whether the
next tick mark of the reference is to be measured (R51), an offset that was refused, whether lock was lost and the
next tick mark after its return is to be measured (R472), whether the dividers have ever been loaded and the coming
boundary is a load's (R245), the run of good frequency checks (R37), and the measurement of PLL.CAL in progress (band,
voltage). -/
structure ClkSt where
  acq         : Acq
  realign     : Realign
  active      : RefChoice
  pending     : Option (RefChoice × Nat)
  fallback    : Bool
  measure     : Bool
  refused     : Option Int
  relock      : Bool
  relockMark  : Bool
  everLoaded  : Bool
  atMark      : Bool
  freqGood    : Nat
  cal         : Option (Nat × Nat)
  deriving DecidableEq, Repr

/-- A time event unit (R80 to R88): the settings taken at the rise of EN, the next event in 1/256 ns of its time base,
and the values of RAW from which its pin is active and at which it returns to inactive. -/
structure Teu where
  nextE     : Int
  periodic  : Bool
  pinAct    : Bool
  launchAct : Bool
  base      : Nat
  pin       : Nat
  pol       : Bool
  period    : Nat
  width     : Nat
  port      : Nat
  cls       : Nat
  pinFrom   : Nat
  pinUntil  : Option Nat
  deriving DecidableEq, Repr

/-- A unit before its first rise of EN. -/
def Teu.init : Teu := ⟨0, false, false, false, 0, 0, false, 0, 0, 0, 0, 0, none⟩

/-- TIME at reset (R56): the counter waits for SYSPLL's first lock. -/
def TimeSt.init : TimeSt := ⟨false, 0, 0, 0, 0, 0, 0, 0, none, false, 0, 0, 0, 0, 0, none⟩

/-- The PLLs at reset. -/
def ClkSt.init : ClkSt :=
  ⟨.none, .none, ⟨0, 0, 0⟩, none, false, false, none, false, false, false, false, 0, none⟩

end Sys2Proof.Machine
end

