-- ==== Sys2Proof/Machine/RegFields.lean ====
section
/-! DEFINITION. The register fields of the Kairus, one name for each field of the spec's register tables
(R55, R91, R124, R151, R188, R210, R236, R265, R316, R345, R359, R388, R405, R428, R453). A field is named as
BLOCK_REGISTER_FIELD; the index of an array register is an argument. Its register address is the one R301 gives
RDREG: direct addresses as they stand, indirect space s at (s + 1) * 2^28. -/

namespace Sys2Proof.Machine

/-- A register field: the R301 address of its register, its lowest bit and its width. -/
structure Fld where
  reg   : Nat
  lo    : Nat
  width : Nat
  deriving DecidableEq, Repr

/-- The key of a field in the register file: two fields of one register differ in their lowest bit. -/
def Fld.id (f : Fld) : Nat := f.reg * 32 + f.lo

namespace F

/-- SYSPLL.STATUS (R55). -/
def SYSPLL_STATUS : Nat := 0x20000000
def SYSPLL_STATUS_LOCK : Fld := ⟨SYSPLL_STATUS, 0, 1⟩
def SYSPLL_STATUS_REF_LOST : Fld := ⟨SYSPLL_STATUS, 1, 1⟩
def SYSPLL_STATUS_VT_LOW : Fld := ⟨SYSPLL_STATUS, 2, 1⟩
def SYSPLL_STATUS_VT_HIGH : Fld := ⟨SYSPLL_STATUS, 3, 1⟩
def SYSPLL_STATUS_BAND : Fld := ⟨SYSPLL_STATUS, 4, 5⟩
def SYSPLL_STATUS_BAND_SEARCHED : Fld := ⟨SYSPLL_STATUS, 9, 1⟩
def SYSPLL_STATUS_BAND_ENTRY : Fld := ⟨SYSPLL_STATUS, 10, 4⟩

/-- SYSPLL.EVENTS (R55). -/
def SYSPLL_EVENTS : Nat := 0x20000004
def SYSPLL_EVENTS_LOCK_LOST : Fld := ⟨SYSPLL_EVENTS, 0, 1⟩
def SYSPLL_EVENTS_REF_LOST_EV : Fld := ⟨SYSPLL_EVENTS, 1, 1⟩
def SYSPLL_EVENTS_VT_EV : Fld := ⟨SYSPLL_EVENTS, 2, 1⟩
def SYSPLL_EVENTS_REACQUIRED : Fld := ⟨SYSPLL_EVENTS, 3, 1⟩

/-- SYSPLL.SPREAD (R55). -/
def SYSPLL_SPREAD : Nat := 0x20000008
def SYSPLL_SPREAD_EN : Fld := ⟨SYSPLL_SPREAD, 0, 1⟩
def SYSPLL_SPREAD_ACTIVE : Fld := ⟨SYSPLL_SPREAD, 1, 1⟩

/-- SYSPLL.BANDTAB[i].A (R55). -/
def SYSPLL_BANDTAB_A (i : Nat) : Nat := 0x20000040 + 8 * i
def SYSPLL_BANDTAB_A_T_LO (i : Nat) : Fld := ⟨SYSPLL_BANDTAB_A i, 0, 8⟩
def SYSPLL_BANDTAB_A_T_HI (i : Nat) : Fld := ⟨SYSPLL_BANDTAB_A i, 8, 8⟩
def SYSPLL_BANDTAB_A_BAND (i : Nat) : Fld := ⟨SYSPLL_BANDTAB_A i, 16, 5⟩
def SYSPLL_BANDTAB_A_VALID (i : Nat) : Fld := ⟨SYSPLL_BANDTAB_A i, 31, 1⟩

/-- MEDPLL.BANDTAB[i].A (R55). -/
def MEDPLL_BANDTAB_A (i : Nat) : Nat := 0x20000140 + 8 * i
def MEDPLL_BANDTAB_A_T_LO (i : Nat) : Fld := ⟨MEDPLL_BANDTAB_A i, 0, 8⟩
def MEDPLL_BANDTAB_A_T_HI (i : Nat) : Fld := ⟨MEDPLL_BANDTAB_A i, 8, 8⟩
def MEDPLL_BANDTAB_A_BAND (i : Nat) : Fld := ⟨MEDPLL_BANDTAB_A i, 16, 5⟩
def MEDPLL_BANDTAB_A_VALID (i : Nat) : Fld := ⟨MEDPLL_BANDTAB_A i, 31, 1⟩

/-- SYSPLL.BANDTAB[i].B (R55). -/
def SYSPLL_BANDTAB_B (i : Nat) : Nat := 0x20000044 + 8 * i
def SYSPLL_BANDTAB_B_F_LO (i : Nat) : Fld := ⟨SYSPLL_BANDTAB_B i, 0, 16⟩
def SYSPLL_BANDTAB_B_F_HI (i : Nat) : Fld := ⟨SYSPLL_BANDTAB_B i, 16, 16⟩

/-- MEDPLL.BANDTAB[i].B (R55). -/
def MEDPLL_BANDTAB_B (i : Nat) : Nat := 0x20000144 + 8 * i
def MEDPLL_BANDTAB_B_F_LO (i : Nat) : Fld := ⟨MEDPLL_BANDTAB_B i, 0, 16⟩
def MEDPLL_BANDTAB_B_F_HI (i : Nat) : Fld := ⟨MEDPLL_BANDTAB_B i, 16, 16⟩

/-- MEDPLL.CTL (R55). -/
def MEDPLL_CTL : Nat := 0x20000100
def MEDPLL_CTL_MODE : Fld := ⟨MEDPLL_CTL, 0, 1⟩
def MEDPLL_CTL_REF_SEL : Fld := ⟨MEDPLL_CTL, 1, 2⟩
def MEDPLL_CTL_REF_PORT : Fld := ⟨MEDPLL_CTL, 3, 5⟩
def MEDPLL_CTL_WCLK_RATE : Fld := ⟨MEDPLL_CTL, 8, 2⟩
def MEDPLL_CTL_FALLBACK : Fld := ⟨MEDPLL_CTL, 10, 1⟩
def MEDPLL_CTL_MCLK_EN : Fld := ⟨MEDPLL_CTL, 11, 1⟩
def MEDPLL_CTL_MCLK_DIV : Fld := ⟨MEDPLL_CTL, 12, 1⟩
def MEDPLL_CTL_OPEN_BAND : Fld := ⟨MEDPLL_CTL, 13, 5⟩

/-- MEDPLL.STATUS (R55). -/
def MEDPLL_STATUS : Nat := 0x20000104
def MEDPLL_STATUS_LOCK : Fld := ⟨MEDPLL_STATUS, 0, 1⟩
def MEDPLL_STATUS_REF_VALID : Fld := ⟨MEDPLL_STATUS, 1, 1⟩
def MEDPLL_STATUS_COAST : Fld := ⟨MEDPLL_STATUS, 2, 1⟩
def MEDPLL_STATUS_SLEWING : Fld := ⟨MEDPLL_STATUS, 3, 1⟩
def MEDPLL_STATUS_REF_JUMP_REFUSED : Fld := ⟨MEDPLL_STATUS, 4, 1⟩
def MEDPLL_STATUS_REALIGN_PENDING : Fld := ⟨MEDPLL_STATUS, 5, 1⟩
def MEDPLL_STATUS_VT_LOW : Fld := ⟨MEDPLL_STATUS, 6, 1⟩
def MEDPLL_STATUS_VT_HIGH : Fld := ⟨MEDPLL_STATUS, 7, 1⟩
def MEDPLL_STATUS_SMR_RANGE : Fld := ⟨MEDPLL_STATUS, 8, 1⟩
def MEDPLL_STATUS_FREQ_ALARM : Fld := ⟨MEDPLL_STATUS, 9, 1⟩
def MEDPLL_STATUS_BAND : Fld := ⟨MEDPLL_STATUS, 10, 5⟩
def MEDPLL_STATUS_BAND_SEARCHED : Fld := ⟨MEDPLL_STATUS, 15, 1⟩
def MEDPLL_STATUS_BAND_ENTRY : Fld := ⟨MEDPLL_STATUS, 16, 4⟩
def MEDPLL_STATUS_REF_ACTIVE : Fld := ⟨MEDPLL_STATUS, 20, 2⟩
def MEDPLL_STATUS_RESIDUAL_WIDE : Fld := ⟨MEDPLL_STATUS, 22, 1⟩

/-- MEDPLL.EVENTS (R55). -/
def MEDPLL_EVENTS : Nat := 0x20000108
def MEDPLL_EVENTS_LOCK_LOST : Fld := ⟨MEDPLL_EVENTS, 0, 1⟩
def MEDPLL_EVENTS_LOCKED : Fld := ⟨MEDPLL_EVENTS, 1, 1⟩
def MEDPLL_EVENTS_REF_LOST : Fld := ⟨MEDPLL_EVENTS, 2, 1⟩
def MEDPLL_EVENTS_REF_RETURNED : Fld := ⟨MEDPLL_EVENTS, 3, 1⟩
def MEDPLL_EVENTS_JUMP_REFUSED_EV : Fld := ⟨MEDPLL_EVENTS, 4, 1⟩
def MEDPLL_EVENTS_REALIGN_DONE : Fld := ⟨MEDPLL_EVENTS, 5, 1⟩
def MEDPLL_EVENTS_FREQ_ALARM_EV : Fld := ⟨MEDPLL_EVENTS, 6, 1⟩
def MEDPLL_EVENTS_MODE_DENIED : Fld := ⟨MEDPLL_EVENTS, 7, 1⟩
def MEDPLL_EVENTS_REALIGN_DENIED : Fld := ⟨MEDPLL_EVENTS, 8, 1⟩
def MEDPLL_EVENTS_VT_EV : Fld := ⟨MEDPLL_EVENTS, 9, 1⟩

/-- MEDPLL.REF_MEAS (R55). -/
def MEDPLL_REF_MEAS : Nat := 0x2000010c
def MEDPLL_REF_MEAS_OFFSET_PPM : Fld := ⟨MEDPLL_REF_MEAS, 0, 24⟩

/-- MEDPLL.SLEW (R55). -/
def MEDPLL_SLEW : Nat := 0x20000110
def MEDPLL_SLEW_SLEW_MAX : Fld := ⟨MEDPLL_SLEW, 0, 8⟩

/-- MEDPLL.RESIDUAL (R55). -/
def MEDPLL_RESIDUAL : Nat := 0x20000114
def MEDPLL_RESIDUAL_RESIDUAL : Fld := ⟨MEDPLL_RESIDUAL, 0, 32⟩

/-- MEDPLL.REALIGN (R55). -/
def MEDPLL_REALIGN : Nat := 0x20000118
def MEDPLL_REALIGN_GO : Fld := ⟨MEDPLL_REALIGN, 0, 1⟩
def MEDPLL_REALIGN_ACCEPT : Fld := ⟨MEDPLL_REALIGN, 1, 1⟩

/-- PLL.TEMP (R55). -/
def PLL_TEMP : Nat := 0x20000200
def PLL_TEMP_TEMP : Fld := ⟨PLL_TEMP, 0, 8⟩
def PLL_TEMP_VALID : Fld := ⟨PLL_TEMP, 8, 1⟩

/-- PLL.CAL (R55). -/
def PLL_CAL : Nat := 0x20000204
def PLL_CAL_START : Fld := ⟨PLL_CAL, 0, 1⟩
def PLL_CAL_DONE : Fld := ⟨PLL_CAL, 1, 1⟩
def PLL_CAL_BAND : Fld := ⟨PLL_CAL, 2, 5⟩
def PLL_CAL_VT : Fld := ⟨PLL_CAL, 7, 2⟩

/-- PLL.CAL_COUNT (R55). -/
def PLL_CAL_COUNT : Nat := 0x20000208
def PLL_CAL_COUNT_COUNT : Fld := ⟨PLL_CAL_COUNT, 0, 24⟩

/-- TIME.CTL (R91). -/
def TIME_CTL : Nat := 0x10000000
def TIME_CTL_LOCK : Fld := ⟨TIME_CTL, 0, 1⟩
def TIME_CTL_COAST : Fld := ⟨TIME_CTL, 1, 1⟩

/-- TIME.STATUS (R91). -/
def TIME_STATUS : Nat := 0x10000004
def TIME_STATUS_STATE : Fld := ⟨TIME_STATUS, 0, 2⟩
def TIME_STATUS_JUMP_REFUSED : Fld := ⟨TIME_STATUS, 2, 1⟩
def TIME_STATUS_RATE_CLAMPED : Fld := ⟨TIME_STATUS, 3, 1⟩
def TIME_STATUS_ANCHOR_VALID : Fld := ⟨TIME_STATUS, 4, 1⟩
def TIME_STATUS_ANCHOR_CHECK : Fld := ⟨TIME_STATUS, 5, 1⟩
def TIME_STATUS_ANCHOR_REFUSED : Fld := ⟨TIME_STATUS, 6, 1⟩
def TIME_STATUS_MEDIA_VALID : Fld := ⟨TIME_STATUS, 7, 1⟩
def TIME_STATUS_MEDIA_PENDING : Fld := ⟨TIME_STATUS, 8, 1⟩

/-- TIME.EVENTS (R91). -/
def TIME_EVENTS : Nat := 0x10000008
def TIME_EVENTS_JUMP_REFUSED_EV : Fld := ⟨TIME_EVENTS, 0, 1⟩
def TIME_EVENTS_STEP_ACCEPTED : Fld := ⟨TIME_EVENTS, 1, 1⟩
def TIME_EVENTS_COAST_ENTERED : Fld := ⟨TIME_EVENTS, 2, 1⟩
def TIME_EVENTS_RATE_CLAMP_EV : Fld := ⟨TIME_EVENTS, 3, 1⟩
def TIME_EVENTS_WRAP : Fld := ⟨TIME_EVENTS, 4, 1⟩
def TIME_EVENTS_ANCHOR_REFUSED_EV : Fld := ⟨TIME_EVENTS, 5, 1⟩
def TIME_EVENTS_MEDIA_LOADED : Fld := ⟨TIME_EVENTS, 6, 1⟩

/-- TIME.INT_EN (R91). -/
def TIME_INT_EN : Nat := 0x1000000c
def TIME_INT_EN_EN : Fld := ⟨TIME_INT_EN, 0, 7⟩

/-- TIME.NOW_NS (R91). -/
def TIME_NOW_NS : Nat := 0x10000010
def TIME_NOW_NS_NS : Fld := ⟨TIME_NOW_NS, 0, 32⟩

/-- TIME.RATE (R91). -/
def TIME_RATE : Nat := 0x10000014
def TIME_RATE_RATE : Fld := ⟨TIME_RATE, 0, 32⟩

/-- TIME.JUMP_LIMIT (R91). -/
def TIME_JUMP_LIMIT : Nat := 0x10000018
def TIME_JUMP_LIMIT_LIMIT : Fld := ⟨TIME_JUMP_LIMIT, 0, 32⟩

/-- TIME.SERVO_TIMEOUT (R91). -/
def TIME_SERVO_TIMEOUT : Nat := 0x1000001c
def TIME_SERVO_TIMEOUT_MS : Fld := ⟨TIME_SERVO_TIMEOUT, 0, 16⟩

/-- TIME.TICK_ANCHOR (R91). -/
def TIME_TICK_ANCHOR : Nat := 0x10000020
def TIME_TICK_ANCHOR_NS : Fld := ⟨TIME_TICK_ANCHOR, 0, 32⟩

/-- TIME.TICK_PHASE (R91). -/
def TIME_TICK_PHASE : Nat := 0x10000024
def TIME_TICK_PHASE_NS : Fld := ⟨TIME_TICK_PHASE, 0, 17⟩

/-- TIME.FREE (R91). -/
def TIME_FREE : Nat := 0x10000028
def TIME_FREE_GO : Fld := ⟨TIME_FREE, 0, 1⟩

/-- TIME.WCLK_OUT (R91). -/
def TIME_WCLK_OUT : Nat := 0x1000002c
def TIME_WCLK_OUT_EN : Fld := ⟨TIME_WCLK_OUT, 0, 1⟩
def TIME_WCLK_OUT_RATE : Fld := ⟨TIME_WCLK_OUT, 1, 2⟩
def TIME_WCLK_OUT_POL : Fld := ⟨TIME_WCLK_OUT, 3, 1⟩

/-- TIME.PORT[p].INGRESS_LAT (R91). -/
def TIME_PORT_INGRESS_LAT (p : Nat) : Nat := 0x10000100 + 0x10 * p
def TIME_PORT_INGRESS_LAT_LAT (p : Nat) : Fld := ⟨TIME_PORT_INGRESS_LAT p, 0, 16⟩

/-- TIME.PORT[p].EGRESS_LAT (R91). -/
def TIME_PORT_EGRESS_LAT (p : Nat) : Nat := 0x10000104 + 0x10 * p
def TIME_PORT_EGRESS_LAT_LAT (p : Nat) : Fld := ⟨TIME_PORT_EGRESS_LAT p, 0, 16⟩

/-- TIME.PORT[p].ASYM (R91). -/
def TIME_PORT_ASYM (p : Nat) : Nat := 0x10000108 + 0x10 * p
def TIME_PORT_ASYM_ASYM (p : Nat) : Fld := ⟨TIME_PORT_ASYM p, 0, 24⟩

/-- TIME.PORT[p].PTP_CTL (R91). -/
def TIME_PORT_PTP_CTL (p : Nat) : Nat := 0x1000010c + 0x10 * p
def TIME_PORT_PTP_CTL_ASYM_EN (p : Nat) : Fld := ⟨TIME_PORT_PTP_CTL p, 0, 1⟩
def TIME_PORT_PTP_CTL_ONESTEP_EN (p : Nat) : Fld := ⟨TIME_PORT_PTP_CTL p, 1, 1⟩

/-- TEU[u].CTL (R91). -/
def TEU_CTL (u : Nat) : Nat := 0x10000400 + 0x20 * u
def TEU_CTL_EN (u : Nat) : Fld := ⟨TEU_CTL u, 0, 1⟩
def TEU_CTL_PERIODIC (u : Nat) : Fld := ⟨TEU_CTL u, 1, 1⟩
def TEU_CTL_PIN_ACT (u : Nat) : Fld := ⟨TEU_CTL u, 2, 1⟩
def TEU_CTL_LAUNCH_ACT (u : Nat) : Fld := ⟨TEU_CTL u, 3, 1⟩
def TEU_CTL_IRQ (u : Nat) : Fld := ⟨TEU_CTL u, 4, 1⟩
def TEU_CTL_BASE (u : Nat) : Fld := ⟨TEU_CTL u, 5, 1⟩
def TEU_CTL_PIN (u : Nat) : Fld := ⟨TEU_CTL u, 6, 3⟩
def TEU_CTL_POL (u : Nat) : Fld := ⟨TEU_CTL u, 9, 1⟩

/-- TEU[u].START_NS (R91). -/
def TEU_START_NS (u : Nat) : Nat := 0x10000404 + 0x20 * u
def TEU_START_NS_NS (u : Nat) : Fld := ⟨TEU_START_NS u, 0, 32⟩

/-- TEU[u].PERIOD_NS (R91). -/
def TEU_PERIOD_NS (u : Nat) : Nat := 0x10000408 + 0x20 * u
def TEU_PERIOD_NS_NS (u : Nat) : Fld := ⟨TEU_PERIOD_NS u, 0, 32⟩

/-- TEU[u].PERIOD_FRAC (R91). -/
def TEU_PERIOD_FRAC (u : Nat) : Nat := 0x1000040c + 0x20 * u
def TEU_PERIOD_FRAC_FRAC (u : Nat) : Fld := ⟨TEU_PERIOD_FRAC u, 0, 8⟩

/-- TEU[u].WIDTH (R91). -/
def TEU_WIDTH (u : Nat) : Nat := 0x10000410 + 0x20 * u
def TEU_WIDTH_NS (u : Nat) : Fld := ⟨TEU_WIDTH u, 0, 24⟩

/-- TEU[u].TARGET (R91). -/
def TEU_TARGET (u : Nat) : Nat := 0x10000414 + 0x20 * u
def TEU_TARGET_PORT (u : Nat) : Fld := ⟨TEU_TARGET u, 0, 2⟩
def TEU_TARGET_CLASS (u : Nat) : Fld := ⟨TEU_TARGET u, 2, 3⟩

/-- TEU[u].STATUS (R91). -/
def TEU_STATUS (u : Nat) : Nat := 0x10000418 + 0x20 * u
def TEU_STATUS_ARMED (u : Nat) : Fld := ⟨TEU_STATUS u, 0, 1⟩
def TEU_STATUS_PIN_HELD (u : Nat) : Fld := ⟨TEU_STATUS u, 1, 1⟩
def TEU_STATUS_PIN_DENIED (u : Nat) : Fld := ⟨TEU_STATUS u, 2, 1⟩
def TEU_STATUS_LAUNCH_DENIED (u : Nat) : Fld := ⟨TEU_STATUS u, 3, 1⟩
def TEU_STATUS_MISSED (u : Nat) : Fld := ⟨TEU_STATUS u, 8, 8⟩
def TEU_STATUS_FIRED (u : Nat) : Fld := ⟨TEU_STATUS u, 16, 16⟩

/-- TEU[u].EVENTS (R91). -/
def TEU_EVENTS (u : Nat) : Nat := 0x1000041c + 0x20 * u
def TEU_EVENTS_FIRED_EV (u : Nat) : Fld := ⟨TEU_EVENTS u, 0, 1⟩
def TEU_EVENTS_LATE (u : Nat) : Fld := ⟨TEU_EVENTS u, 1, 1⟩
def TEU_EVENTS_PIN_DENIED_EV (u : Nat) : Fld := ⟨TEU_EVENTS u, 2, 1⟩
def TEU_EVENTS_LAUNCH_DENIED_EV (u : Nat) : Fld := ⟨TEU_EVENTS u, 3, 1⟩
def TEU_EVENTS_LAUNCH_EMPTY (u : Nat) : Fld := ⟨TEU_EVENTS u, 4, 1⟩
def TEU_EVENTS_WIDTH_CLIPPED (u : Nat) : Fld := ⟨TEU_EVENTS u, 5, 1⟩
def TEU_EVENTS_CONFIG_ERR (u : Nat) : Fld := ⟨TEU_EVENTS u, 6, 1⟩

/-- MAC[p].CTL (R124). -/
def MAC_CTL (p : Nat) : Nat := 0x100000 + 0x10000 * p
def MAC_CTL_EN (p : Nat) : Fld := ⟨MAC_CTL p, 0, 1⟩
def MAC_CTL_MODE (p : Nat) : Fld := ⟨MAC_CTL p, 1, 1⟩
def MAC_CTL_AN_EN (p : Nat) : Fld := ⟨MAC_CTL p, 2, 1⟩
def MAC_CTL_DELIVER_BAD (p : Nat) : Fld := ⟨MAC_CTL p, 3, 1⟩
def MAC_CTL_BCAST_ACCEPT (p : Nat) : Fld := ⟨MAC_CTL p, 4, 1⟩
def MAC_CTL_PAUSE_IGNORE (p : Nat) : Fld := ⟨MAC_CTL p, 5, 1⟩

/-- MAC[p].STATUS (R124). -/
def MAC_STATUS (p : Nat) : Nat := 0x100004 + 0x10000 * p
def MAC_STATUS_LINK_UP (p : Nat) : Fld := ⟨MAC_STATUS p, 0, 1⟩
def MAC_STATUS_BLOCK_LOCK (p : Nat) : Fld := ⟨MAC_STATUS p, 1, 1⟩
def MAC_STATUS_HI_BER (p : Nat) : Fld := ⟨MAC_STATUS p, 2, 1⟩
def MAC_STATUS_LOCAL_FAULT (p : Nat) : Fld := ⟨MAC_STATUS p, 3, 1⟩
def MAC_STATUS_REMOTE_FAULT (p : Nat) : Fld := ⟨MAC_STATUS p, 4, 1⟩
def MAC_STATUS_AN_DONE (p : Nat) : Fld := ⟨MAC_STATUS p, 5, 1⟩
def MAC_STATUS_MODE_ACTIVE (p : Nat) : Fld := ⟨MAC_STATUS p, 6, 1⟩
def MAC_STATUS_PAUSED (p : Nat) : Fld := ⟨MAC_STATUS p, 7, 1⟩
def MAC_STATUS_LPI_TX (p : Nat) : Fld := ⟨MAC_STATUS p, 8, 1⟩
def MAC_STATUS_LPI_RX (p : Nat) : Fld := ⟨MAC_STATUS p, 9, 1⟩

/-- MAC[p].EVENTS (R124). -/
def MAC_EVENTS (p : Nat) : Nat := 0x100008 + 0x10000 * p
def MAC_EVENTS_LINK_CHG (p : Nat) : Fld := ⟨MAC_EVENTS p, 0, 1⟩
def MAC_EVENTS_RXR0_FRAME (p : Nat) : Fld := ⟨MAC_EVENTS p, 1, 1⟩
def MAC_EVENTS_RXR1_FRAME (p : Nat) : Fld := ⟨MAC_EVENTS p, 2, 1⟩
def MAC_EVENTS_TX_DONE (p : Nat) : Fld := ⟨MAC_EVENTS p, 3, 1⟩
def MAC_EVENTS_NOBUF (p : Nat) : Fld := ⟨MAC_EVENTS p, 4, 1⟩
def MAC_EVENTS_OVF (p : Nat) : Fld := ⟨MAC_EVENTS p, 5, 1⟩
def MAC_EVENTS_RING_FULL (p : Nat) : Fld := ⟨MAC_EVENTS p, 6, 1⟩
def MAC_EVENTS_LATE_DROP (p : Nat) : Fld := ⟨MAC_EVENTS p, 7, 1⟩
def MAC_EVENTS_GATE_ERR (p : Nat) : Fld := ⟨MAC_EVENTS p, 8, 1⟩
def MAC_EVENTS_RING_ERR (p : Nat) : Fld := ⟨MAC_EVENTS p, 9, 1⟩

/-- MAC[p].INT_EN (R124). -/
def MAC_INT_EN (p : Nat) : Nat := 0x10000c + 0x10000 * p
def MAC_INT_EN_EN (p : Nat) : Fld := ⟨MAC_INT_EN p, 0, 10⟩

/-- MAC[p].MAX_LEN (R124). -/
def MAC_MAX_LEN (p : Nat) : Nat := 0x100010 + 0x10000 * p
def MAC_MAX_LEN_LEN (p : Nat) : Fld := ⟨MAC_MAX_LEN p, 0, 14⟩

/-- MAC[p].AN (R124). -/
def MAC_AN (p : Nat) : Nat := 0x100014 + 0x10000 * p
def MAC_AN_ADV (p : Nat) : Fld := ⟨MAC_AN p, 0, 16⟩
def MAC_AN_LP (p : Nat) : Fld := ⟨MAC_AN p, 16, 16⟩

/-- MAC[p].LATE_LIMIT (R124). -/
def MAC_LATE_LIMIT (p : Nat) : Nat := 0x100018 + 0x10000 * p
def MAC_LATE_LIMIT_NS (p : Nat) : Fld := ⟨MAC_LATE_LIMIT p, 0, 32⟩

/-- MAC[p].EEE (R124). -/
def MAC_EEE (p : Nat) : Nat := 0x10001c + 0x10000 * p
def MAC_EEE_EN (p : Nat) : Fld := ⟨MAC_EEE p, 0, 1⟩

/-- MAC[p].EEE_TW (R124). -/
def MAC_EEE_TW (p : Nat) : Nat := 0x100020 + 0x10000 * p
def MAC_EEE_TW_NS (p : Nat) : Fld := ⟨MAC_EEE_TW p, 0, 16⟩

/-- MAC[p].POOL (R124). -/
def MAC_POOL (p : Nat) : Nat := 0x100024 + 0x10000 * p
def MAC_POOL_CELLS (p : Nat) : Fld := ⟨MAC_POOL p, 0, 16⟩
def MAC_POOL_FREE (p : Nat) : Fld := ⟨MAC_POOL p, 16, 16⟩

/-- MAC[p].FILT[i].LO (R124). -/
def MAC_FILT_LO (p i : Nat) : Nat := 0x100100 + 0x10000 * p + 8 * i
def MAC_FILT_LO_ADDR_LO (p i : Nat) : Fld := ⟨MAC_FILT_LO p i, 0, 32⟩

/-- MAC[p].FILT[i].HI (R124). -/
def MAC_FILT_HI (p i : Nat) : Nat := 0x100104 + 0x10000 * p + 8 * i
def MAC_FILT_HI_ADDR_HI (p i : Nat) : Fld := ⟨MAC_FILT_HI p i, 0, 16⟩
def MAC_FILT_HI_EN (p i : Nat) : Fld := ⟨MAC_FILT_HI p i, 31, 1⟩

/-- MAC[p].RXR[r].CFG (R124). -/
def MAC_RXR_CFG (p r : Nat) : Nat := 0x100200 + 0x10000 * p + 0x10 * r
def MAC_RXR_CFG_BASE (p r : Nat) : Fld := ⟨MAC_RXR_CFG p r, 0, 26⟩
def MAC_RXR_CFG_SIZE (p r : Nat) : Fld := ⟨MAC_RXR_CFG p r, 28, 4⟩

/-- MAC[p].TXR[c].CFG (R124). -/
def MAC_TXR_CFG (p cl : Nat) : Nat := 0x100300 + 0x10000 * p + 0x10 * cl
def MAC_TXR_CFG_BASE (p cl : Nat) : Fld := ⟨MAC_TXR_CFG p cl, 0, 26⟩
def MAC_TXR_CFG_SIZE (p cl : Nat) : Fld := ⟨MAC_TXR_CFG p cl, 28, 4⟩

/-- MAC[p].RXR[r].PTR (R124). -/
def MAC_RXR_PTR (p r : Nat) : Nat := 0x100204 + 0x10000 * p + 0x10 * r
def MAC_RXR_PTR_HEAD (p r : Nat) : Fld := ⟨MAC_RXR_PTR p r, 0, 12⟩
def MAC_RXR_PTR_TAIL (p r : Nat) : Fld := ⟨MAC_RXR_PTR p r, 16, 12⟩

/-- MAC[p].TXR[c].PTR (R124). -/
def MAC_TXR_PTR (p cl : Nat) : Nat := 0x100304 + 0x10000 * p + 0x10 * cl
def MAC_TXR_PTR_HEAD (p cl : Nat) : Fld := ⟨MAC_TXR_PTR p cl, 0, 12⟩
def MAC_TXR_PTR_TAIL (p cl : Nat) : Fld := ⟨MAC_TXR_PTR p cl, 16, 12⟩

/-- MAC[p].GCL.CTL (R124). -/
def MAC_GCL_CTL (p : Nat) : Nat := 0x100400 + 0x10000 * p
def MAC_GCL_CTL_EN (p : Nat) : Fld := ⟨MAC_GCL_CTL p, 0, 1⟩
def MAC_GCL_CTL_LOAD (p : Nat) : Fld := ⟨MAC_GCL_CTL p, 1, 1⟩
def MAC_GCL_CTL_COUNT (p : Nat) : Fld := ⟨MAC_GCL_CTL p, 2, 7⟩

/-- MAC[p].GCL.CYCLE (R124). -/
def MAC_GCL_CYCLE (p : Nat) : Nat := 0x100404 + 0x10000 * p
def MAC_GCL_CYCLE_NS (p : Nat) : Fld := ⟨MAC_GCL_CYCLE p, 0, 30⟩

/-- MAC[p].GCL.STATUS (R124). -/
def MAC_GCL_STATUS (p : Nat) : Nat := 0x100408 + 0x10000 * p
def MAC_GCL_STATUS_PENDING (p : Nat) : Fld := ⟨MAC_GCL_STATUS p, 0, 1⟩
def MAC_GCL_STATUS_ENTRY (p : Nat) : Fld := ⟨MAC_GCL_STATUS p, 1, 6⟩

/-- MAC[p].GCL.ENTRY[i].MASK (R124). -/
def MAC_GCL_ENTRY_MASK (p i : Nat) : Nat := 0x100800 + 0x10000 * p + 8 * i
def MAC_GCL_ENTRY_MASK_GATES (p i : Nat) : Fld := ⟨MAC_GCL_ENTRY_MASK p i, 0, 8⟩

/-- MAC[p].GCL.ENTRY[i].INTERVAL (R124). -/
def MAC_GCL_ENTRY_INTERVAL (p i : Nat) : Nat := 0x100804 + 0x10000 * p + 8 * i
def MAC_GCL_ENTRY_INTERVAL_NS (p i : Nat) : Fld := ⟨MAC_GCL_ENTRY_INTERVAL p i, 0, 32⟩

/-- MAC[p].CNT[k] (R124). -/
def MAC_CNT (p k : Nat) : Nat := 0x100c00 + 0x10000 * p + 4 * k
def MAC_CNT_COUNT (p k : Nat) : Fld := ⟨MAC_CNT p k, 0, 32⟩

/-- RXF[f].CTL (R151). -/
def RXF_CTL (f : Nat) : Nat := 0x180000 + 0x80 * f
def RXF_CTL_EN (f : Nat) : Fld := ⟨RXF_CTL f, 0, 1⟩
def RXF_CTL_FORMAT (f : Nat) : Fld := ⟨RXF_CTL f, 1, 3⟩
def RXF_CTL_RATE (f : Nat) : Fld := ⟨RXF_CTL f, 4, 2⟩
def RXF_CTL_CHANNELS (f : Nat) : Fld := ⟨RXF_CTL f, 6, 7⟩
def RXF_CTL_GROUP (f : Nat) : Fld := ⟨RXF_CTL f, 13, 4⟩
def RXF_CTL_PORT (f : Nat) : Fld := ⟨RXF_CTL f, 17, 2⟩
def RXF_CTL_DUAL (f : Nat) : Fld := ⟨RXF_CTL f, 19, 1⟩
def RXF_CTL_SSRC_EN (f : Nat) : Fld := ⟨RXF_CTL f, 20, 1⟩
def RXF_CTL_RING_TICKS (f : Nat) : Fld := ⟨RXF_CTL f, 21, 3⟩
def RXF_CTL_VID_EN (f : Nat) : Fld := ⟨RXF_CTL f, 24, 1⟩

/-- RXF[f].KEY_A0 (R151). -/
def RXF_KEY_A0 (f : Nat) : Nat := 0x180004 + 0x80 * f
def RXF_KEY_A0_ADDR (f : Nat) : Fld := ⟨RXF_KEY_A0 f, 0, 32⟩

/-- RXF[f].KEY_A1 (R151). -/
def RXF_KEY_A1 (f : Nat) : Nat := 0x180008 + 0x80 * f
def RXF_KEY_A1_UDP_PORT (f : Nat) : Fld := ⟨RXF_KEY_A1 f, 0, 16⟩
def RXF_KEY_A1_VID (f : Nat) : Fld := ⟨RXF_KEY_A1 f, 16, 12⟩
def RXF_KEY_A1_VID_HI (f : Nat) : Fld := ⟨RXF_KEY_A1 f, 28, 4⟩

/-- RXF[f].KEY_B0 (R151). -/
def RXF_KEY_B0 (f : Nat) : Nat := 0x18000c + 0x80 * f
def RXF_KEY_B0_ADDR (f : Nat) : Fld := ⟨RXF_KEY_B0 f, 0, 32⟩

/-- RXF[f].KEY_B1 (R151). -/
def RXF_KEY_B1 (f : Nat) : Nat := 0x180010 + 0x80 * f
def RXF_KEY_B1_UDP_PORT (f : Nat) : Fld := ⟨RXF_KEY_B1 f, 0, 16⟩
def RXF_KEY_B1_VID (f : Nat) : Fld := ⟨RXF_KEY_B1 f, 16, 12⟩
def RXF_KEY_B1_VID_HI (f : Nat) : Fld := ⟨RXF_KEY_B1 f, 28, 4⟩

/-- RXF[f].RTP (R151). -/
def RXF_RTP (f : Nat) : Nat := 0x180014 + 0x80 * f
def RXF_RTP_PT (f : Nat) : Fld := ⟨RXF_RTP f, 0, 7⟩

/-- RXF[f].SSRC (R151). -/
def RXF_SSRC (f : Nat) : Nat := 0x180018 + 0x80 * f
def RXF_SSRC_SSRC (f : Nat) : Fld := ⟨RXF_SSRC f, 0, 32⟩

/-- RXF[f].LINK_OFFSET (R151). -/
def RXF_LINK_OFFSET (f : Nat) : Nat := 0x18001c + 0x80 * f
def RXF_LINK_OFFSET_SAMPLES (f : Nat) : Fld := ⟨RXF_LINK_OFFSET f, 0, 13⟩

/-- RXF[f].RING_BASE (R151). -/
def RXF_RING_BASE (f : Nat) : Nat := 0x180020 + 0x80 * f
def RXF_RING_BASE_BASE (f : Nat) : Fld := ⟨RXF_RING_BASE f, 0, 26⟩

/-- RXF[f].QBASE (R151). -/
def RXF_QBASE (f : Nat) : Nat := 0x180024 + 0x80 * f
def RXF_QBASE_Q (f : Nat) : Fld := ⟨RXF_QBASE f, 0, 12⟩

/-- RXF[f].TIMEOUT (R151). -/
def RXF_TIMEOUT (f : Nat) : Nat := 0x180028 + 0x80 * f
def RXF_TIMEOUT_TICKS (f : Nat) : Fld := ⟨RXF_TIMEOUT f, 0, 8⟩

/-- RXF[f].STATUS (R151). -/
def RXF_STATUS (f : Nat) : Nat := 0x18002c + 0x80 * f
def RXF_STATUS_STATE_A (f : Nat) : Fld := ⟨RXF_STATUS f, 0, 2⟩
def RXF_STATUS_STATE_B (f : Nat) : Fld := ⟨RXF_STATUS f, 2, 2⟩
def RXF_STATUS_STATE (f : Nat) : Fld := ⟨RXF_STATUS f, 4, 2⟩
def RXF_STATUS_READY (f : Nat) : Fld := ⟨RXF_STATUS f, 6, 1⟩
def RXF_STATUS_SHADOWED (f : Nat) : Fld := ⟨RXF_STATUS f, 7, 1⟩

/-- RXF[f].EVENTS (R151). -/
def RXF_EVENTS (f : Nat) : Nat := 0x180030 + 0x80 * f
def RXF_EVENTS_LOST_EV (f : Nat) : Fld := ⟨RXF_EVENTS f, 0, 1⟩
def RXF_EVENTS_RESUMED_EV (f : Nat) : Fld := ⟨RXF_EVENTS f, 1, 1⟩
def RXF_EVENTS_LATE_EV (f : Nat) : Fld := ⟨RXF_EVENTS f, 2, 1⟩
def RXF_EVENTS_EARLY_EV (f : Nat) : Fld := ⟨RXF_EVENTS f, 3, 1⟩
def RXF_EVENTS_HDR_EV (f : Nat) : Fld := ⟨RXF_EVENTS f, 4, 1⟩
def RXF_EVENTS_SHADOW_EV (f : Nat) : Fld := ⟨RXF_EVENTS f, 5, 1⟩
def RXF_EVENTS_CFG_ERR (f : Nat) : Fld := ⟨RXF_EVENTS f, 6, 1⟩
def RXF_EVENTS_CSF_EV (f : Nat) : Fld := ⟨RXF_EVENTS f, 7, 1⟩

/-- RXF[f].RTP_OFFSET (R151). -/
def RXF_RTP_OFFSET (f : Nat) : Nat := 0x180034 + 0x80 * f
def RXF_RTP_OFFSET_OFFSET (f : Nat) : Fld := ⟨RXF_RTP_OFFSET f, 0, 32⟩

/-- RXF[f].CNT[k] (R151). -/
def RXF_CNT (f k : Nat) : Nat := 0x180040 + 0x80 * f + 4 * k
def RXF_CNT_COUNT (f k : Nat) : Fld := ⟨RXF_CNT f k, 0, 32⟩

/-- TXF[f].CTL (R151). -/
def TXF_CTL (f : Nat) : Nat := 0x184000 + 0x80 * f
def TXF_CTL_EN (f : Nat) : Fld := ⟨TXF_CTL f, 0, 1⟩
def TXF_CTL_FORMAT (f : Nat) : Fld := ⟨TXF_CTL f, 1, 3⟩
def TXF_CTL_RATE (f : Nat) : Fld := ⟨TXF_CTL f, 4, 2⟩
def TXF_CTL_PTIME (f : Nat) : Fld := ⟨TXF_CTL f, 6, 2⟩
def TXF_CTL_CHANNELS (f : Nat) : Fld := ⟨TXF_CTL f, 8, 7⟩
def TXF_CTL_PORT (f : Nat) : Fld := ⟨TXF_CTL f, 15, 2⟩
def TXF_CTL_DUAL (f : Nat) : Fld := ⟨TXF_CTL f, 17, 1⟩
def TXF_CTL_UDP_CSUM (f : Nat) : Fld := ⟨TXF_CTL f, 18, 1⟩

/-- TXF[f].HDR_A (R151). -/
def TXF_HDR_A (f : Nat) : Nat := 0x184004 + 0x80 * f
def TXF_HDR_A_ADDR (f : Nat) : Fld := ⟨TXF_HDR_A f, 0, 26⟩

/-- TXF[f].HDR_B (R151). -/
def TXF_HDR_B (f : Nat) : Nat := 0x184008 + 0x80 * f
def TXF_HDR_B_ADDR (f : Nat) : Fld := ⟨TXF_HDR_B f, 0, 26⟩

/-- TXF[f].HDR_LEN (R151). -/
def TXF_HDR_LEN (f : Nat) : Nat := 0x18400c + 0x80 * f
def TXF_HDR_LEN_LEN_A (f : Nat) : Fld := ⟨TXF_HDR_LEN f, 0, 6⟩
def TXF_HDR_LEN_LEN_B (f : Nat) : Fld := ⟨TXF_HDR_LEN f, 8, 6⟩

/-- TXF[f].QBASE (R151). -/
def TXF_QBASE (f : Nat) : Nat := 0x184010 + 0x80 * f
def TXF_QBASE_Q (f : Nat) : Fld := ⟨TXF_QBASE f, 0, 12⟩

/-- TXF[f].LAUNCH_OFFSET (R151). -/
def TXF_LAUNCH_OFFSET (f : Nat) : Nat := 0x184014 + 0x80 * f
def TXF_LAUNCH_OFFSET_NS (f : Nat) : Fld := ⟨TXF_LAUNCH_OFFSET f, 0, 17⟩

/-- TXF[f].RTP_OFFSET (R151). -/
def TXF_RTP_OFFSET (f : Nat) : Nat := 0x184018 + 0x80 * f
def TXF_RTP_OFFSET_VALUE (f : Nat) : Fld := ⟨TXF_RTP_OFFSET f, 0, 32⟩

/-- TXF[f].PRES_OFFSET (R151). -/
def TXF_PRES_OFFSET (f : Nat) : Nat := 0x18401c + 0x80 * f
def TXF_PRES_OFFSET_VALUE (f : Nat) : Fld := ⟨TXF_PRES_OFFSET f, 0, 32⟩

/-- TXF[f].SEQ (R151). -/
def TXF_SEQ (f : Nat) : Nat := 0x184020 + 0x80 * f
def TXF_SEQ_NEXT (f : Nat) : Fld := ⟨TXF_SEQ f, 0, 16⟩

/-- TXF[f].STATUS (R151). -/
def TXF_STATUS (f : Nat) : Nat := 0x184024 + 0x80 * f
def TXF_STATUS_RUNNING (f : Nat) : Fld := ⟨TXF_STATUS f, 0, 1⟩

/-- TXF[f].EVENTS (R151). -/
def TXF_EVENTS (f : Nat) : Nat := 0x184028 + 0x80 * f
def TXF_EVENTS_UNDERRUN_EV (f : Nat) : Fld := ⟨TXF_EVENTS f, 0, 1⟩
def TXF_EVENTS_FORM_EV (f : Nat) : Fld := ⟨TXF_EVENTS f, 1, 1⟩
def TXF_EVENTS_LATE_EV (f : Nat) : Fld := ⟨TXF_EVENTS f, 2, 1⟩
def TXF_EVENTS_CFG_ERR (f : Nat) : Fld := ⟨TXF_EVENTS f, 3, 1⟩

/-- TXF[f].CNT[k] (R151). -/
def TXF_CNT (f k : Nat) : Nat := 0x184040 + 0x80 * f + 4 * k
def TXF_CNT_COUNT (f k : Nat) : Fld := ⟨TXF_CNT f k, 0, 32⟩

/-- GRP[g].STATUS (R151). -/
def GRP_STATUS (g : Nat) : Nat := 0x188000 + 0x20 * g
def GRP_STATUS_GAP_NOW (g : Nat) : Fld := ⟨GRP_STATUS g, 0, 1⟩
def GRP_STATUS_OFFSET_MISMATCH (g : Nat) : Fld := ⟨GRP_STATUS g, 1, 1⟩
def GRP_STATUS_MEMBERS (g : Nat) : Fld := ⟨GRP_STATUS g, 2, 8⟩

/-- GRP[g].OFFSET_CYC (R151). -/
def GRP_OFFSET_CYC (g : Nat) : Nat := 0x188004 + 0x20 * g
def GRP_OFFSET_CYC_CYCLES (g : Nat) : Fld := ⟨GRP_OFFSET_CYC g, 0, 24⟩

/-- GRP[g].GAP_TICKS (R151). -/
def GRP_GAP_TICKS (g : Nat) : Nat := 0x188008 + 0x20 * g
def GRP_GAP_TICKS_COUNT (g : Nat) : Fld := ⟨GRP_GAP_TICKS g, 0, 32⟩

/-- GRP[g].EVENTS (R151). -/
def GRP_EVENTS (g : Nat) : Nat := 0x18800c + 0x20 * g
def GRP_EVENTS_GAP_EV (g : Nat) : Fld := ⟨GRP_EVENTS g, 0, 1⟩
def GRP_EVENTS_MISMATCH_EV (g : Nat) : Fld := ⟨GRP_EVENTS g, 1, 1⟩

/-- FLOW.STATUS (R151). -/
def FLOW_STATUS : Nat := 0x18c000
def FLOW_STATUS_RX_CH : Fld := ⟨FLOW_STATUS, 0, 11⟩
def FLOW_STATUS_TX_CH : Fld := ⟨FLOW_STATUS, 11, 11⟩
def FLOW_STATUS_TIME_OK : Fld := ⟨FLOW_STATUS, 22, 1⟩

/-- FLOW.INT_EN (R151). -/
def FLOW_INT_EN : Nat := 0x18c004
def FLOW_INT_EN_RX : Fld := ⟨FLOW_INT_EN, 0, 8⟩
def FLOW_INT_EN_TX : Fld := ⟨FLOW_INT_EN, 8, 4⟩
def FLOW_INT_EN_GRP : Fld := ⟨FLOW_INT_EN, 12, 2⟩

/-- FLOW.RX_PEND[i] (R151). -/
def FLOW_RX_PEND (i : Nat) : Nat := 0x18c010 + 4 * i
def FLOW_RX_PEND_PEND (i : Nat) : Fld := ⟨FLOW_RX_PEND i, 0, 32⟩

/-- FLOW.TX_PEND[i] (R151). -/
def FLOW_TX_PEND (i : Nat) : Nat := 0x18c020 + 4 * i
def FLOW_TX_PEND_PEND (i : Nat) : Fld := ⟨FLOW_TX_PEND i, 0, 32⟩

/-- FLOW.GRP_PEND (R151). -/
def FLOW_GRP_PEND : Nat := 0x18c030
def FLOW_GRP_PEND_PEND : Fld := ⟨FLOW_GRP_PEND, 0, 16⟩

/-- PORT[n].CTL (R188). -/
def PORT_CTL (n : Nat) : Nat := 0x30000000 + 0x100 * n
def PORT_CTL_EN (n : Nat) : Fld := ⟨PORT_CTL n, 0, 1⟩
def PORT_CTL_MODE (n : Nat) : Fld := ⟨PORT_CTL n, 1, 3⟩
def PORT_CTL_MASTER (n : Nat) : Fld := ⟨PORT_CTL n, 4, 1⟩
def PORT_CTL_RATE (n : Nat) : Fld := ⟨PORT_CTL n, 5, 2⟩
def PORT_CTL_DA_DIR (n : Nat) : Fld := ⟨PORT_CTL n, 7, 1⟩
def PORT_CTL_DB_DIR (n : Nat) : Fld := ⟨PORT_CTL n, 8, 1⟩
def PORT_CTL_IDLE (n : Nat) : Fld := ⟨PORT_CTL n, 9, 1⟩
def PORT_CTL_NA_PCM_EN (n : Nat) : Fld := ⟨PORT_CTL n, 10, 1⟩

/-- PORT[n].FMT (R188). -/
def PORT_FMT (n : Nat) : Nat := 0x30000004 + 0x100 * n
def PORT_FMT_SLOTS (n : Nat) : Fld := ⟨PORT_FMT n, 0, 5⟩
def PORT_FMT_WIDTH (n : Nat) : Fld := ⟨PORT_FMT n, 5, 2⟩
def PORT_FMT_DELAY (n : Nat) : Fld := ⟨PORT_FMT n, 7, 1⟩
def PORT_FMT_FS_POL (n : Nat) : Fld := ⟨PORT_FMT n, 8, 1⟩
def PORT_FMT_BCK_POL (n : Nat) : Fld := ⟨PORT_FMT n, 9, 1⟩
def PORT_FMT_BCK_DIV (n : Nat) : Fld := ⟨PORT_FMT n, 10, 3⟩
def PORT_FMT_CLK_SEL (n : Nat) : Fld := ⟨PORT_FMT n, 13, 1⟩

/-- PORT[n].QUEUES (R188). -/
def PORT_QUEUES (n : Nat) : Nat := 0x30000008 + 0x100 * n
def PORT_QUEUES_Q_DA (n : Nat) : Fld := ⟨PORT_QUEUES n, 0, 12⟩
def PORT_QUEUES_Q_DB (n : Nat) : Fld := ⟨PORT_QUEUES n, 16, 12⟩

/-- PORT[n].MASK_DA (R188). -/
def PORT_MASK_DA (n : Nat) : Nat := 0x3000000c + 0x100 * n
def PORT_MASK_DA_MASK (n : Nat) : Fld := ⟨PORT_MASK_DA n, 0, 32⟩

/-- PORT[n].MASK_DB (R188). -/
def PORT_MASK_DB (n : Nat) : Nat := 0x30000010 + 0x100 * n
def PORT_MASK_DB_MASK (n : Nat) : Fld := ⟨PORT_MASK_DB n, 0, 32⟩

/-- PORT[n].MASK_EPOCH (R188). -/
def PORT_MASK_EPOCH (n : Nat) : Nat := 0x30000014 + 0x100 * n
def PORT_MASK_EPOCH_EPOCH (n : Nat) : Fld := ⟨PORT_MASK_EPOCH n, 0, 16⟩

/-- PORT[n].RATE (R188). -/
def PORT_RATE (n : Nat) : Nat := 0x30000018 + 0x100 * n
def PORT_RATE_MEAS (n : Nat) : Fld := ⟨PORT_RATE n, 0, 22⟩
def PORT_RATE_CLASS (n : Nat) : Fld := ⟨PORT_RATE n, 22, 3⟩

/-- PORT[n].DEV (R188). -/
def PORT_DEV (n : Nat) : Nat := 0x3000001c + 0x100 * n
def PORT_DEV_DEV_PPM (n : Nat) : Fld := ⟨PORT_DEV n, 0, 16⟩
def PORT_DEV_PHASE (n : Nat) : Fld := ⟨PORT_DEV n, 16, 11⟩

/-- PORT[n].RATE_TOL (R188). -/
def PORT_RATE_TOL (n : Nat) : Nat := 0x30000020 + 0x100 * n
def PORT_RATE_TOL_PPM (n : Nat) : Fld := ⟨PORT_RATE_TOL n, 0, 12⟩

/-- PORT[n].STATUS (R188). -/
def PORT_STATUS (n : Nat) : Nat := 0x30000024 + 0x100 * n
def PORT_STATUS_RUNNING (n : Nat) : Fld := ⟨PORT_STATUS n, 0, 1⟩
def PORT_STATUS_LOCKED (n : Nat) : Fld := ⟨PORT_STATUS n, 1, 1⟩
def PORT_STATUS_NA_MUTE (n : Nat) : Fld := ⟨PORT_STATUS n, 2, 1⟩
def PORT_STATUS_BP_MUTE (n : Nat) : Fld := ⟨PORT_STATUS n, 3, 1⟩
def PORT_STATUS_DEV_HIGH (n : Nat) : Fld := ⟨PORT_STATUS n, 4, 1⟩
def PORT_STATUS_PRO (n : Nat) : Fld := ⟨PORT_STATUS n, 5, 1⟩

/-- PORT[n].EVENTS (R188). -/
def PORT_EVENTS (n : Nat) : Nat := 0x30000028 + 0x100 * n
def PORT_EVENTS_CLASS_EV (n : Nat) : Fld := ⟨PORT_EVENTS n, 0, 1⟩
def PORT_EVENTS_DEV_EV (n : Nat) : Fld := ⟨PORT_EVENTS n, 1, 1⟩
def PORT_EVENTS_LOCK_EV (n : Nat) : Fld := ⟨PORT_EVENTS n, 2, 1⟩
def PORT_EVENTS_UNLOCK_EV (n : Nat) : Fld := ⟨PORT_EVENTS n, 3, 1⟩
def PORT_EVENTS_NA_EV (n : Nat) : Fld := ⟨PORT_EVENTS n, 4, 1⟩
def PORT_EVENTS_BP_EV (n : Nat) : Fld := ⟨PORT_EVENTS n, 5, 1⟩
def PORT_EVENTS_FRAME_EV (n : Nat) : Fld := ⟨PORT_EVENTS n, 6, 1⟩
def PORT_EVENTS_UNDERRUN_EV (n : Nat) : Fld := ⟨PORT_EVENTS n, 7, 1⟩
def PORT_EVENTS_FORM_EV (n : Nat) : Fld := ⟨PORT_EVENTS n, 8, 1⟩
def PORT_EVENTS_CS_EV (n : Nat) : Fld := ⟨PORT_EVENTS n, 9, 1⟩
def PORT_EVENTS_CFG_ERR (n : Nat) : Fld := ⟨PORT_EVENTS n, 10, 1⟩

/-- PORT[n].INT_EN (R188). -/
def PORT_INT_EN (n : Nat) : Nat := 0x3000002c + 0x100 * n
def PORT_INT_EN_EN (n : Nat) : Fld := ⟨PORT_INT_EN n, 0, 11⟩

/-- PORT[n].APPLIED_DA (R188). -/
def PORT_APPLIED_DA (n : Nat) : Nat := 0x30000030 + 0x100 * n
def PORT_APPLIED_DA_MASK (n : Nat) : Fld := ⟨PORT_APPLIED_DA n, 0, 32⟩

/-- PORT[n].APPLIED_DB (R188). -/
def PORT_APPLIED_DB (n : Nat) : Nat := 0x30000034 + 0x100 * n
def PORT_APPLIED_DB_MASK (n : Nat) : Fld := ⟨PORT_APPLIED_DB n, 0, 32⟩

/-- PORT[n].CS_RX[i] (R188). -/
def PORT_CS_RX (n i : Nat) : Nat := 0x30000040 + 0x100 * n + 4 * i
def PORT_CS_RX_BYTES (n i : Nat) : Fld := ⟨PORT_CS_RX n i, 0, 32⟩

/-- PORT[n].CS_TX[i] (R188). -/
def PORT_CS_TX (n i : Nat) : Nat := 0x30000060 + 0x100 * n + 4 * i
def PORT_CS_TX_BYTES (n i : Nat) : Fld := ⟨PORT_CS_TX n i, 0, 32⟩

/-- PORT[n].CNT[k] (R188). -/
def PORT_CNT (n k : Nat) : Nat := 0x30000080 + 0x100 * n + 4 * k
def PORT_CNT_COUNT (n k : Nat) : Fld := ⟨PORT_CNT n k, 0, 32⟩

/-- PORT.CAP (R188). -/
def PORT_CAP : Nat := 0x30002000
def PORT_CAP_IN_CH : Fld := ⟨PORT_CAP, 0, 10⟩
def PORT_CAP_OUT_CH : Fld := ⟨PORT_CAP, 10, 10⟩

/-- PORT.PEND (R188). -/
def PORT_PEND : Nat := 0x30002004
def PORT_PEND_PEND : Fld := ⟨PORT_PEND, 0, 32⟩

/-- Q[n].CFG (R210). -/
def Q_CFG (n : Nat) : Nat := 0x200000 + 0x10 * n
def Q_CFG_EN (n : Nat) : Fld := ⟨Q_CFG n, 0, 1⟩
def Q_CFG_PROD_DOM (n : Nat) : Fld := ⟨Q_CFG n, 1, 2⟩
def Q_CFG_CONS_DOM (n : Nat) : Fld := ⟨Q_CFG n, 3, 2⟩
def Q_CFG_IRQ_EN (n : Nat) : Fld := ⟨Q_CFG n, 5, 1⟩
def Q_CFG_GRANT (n : Nat) : Fld := ⟨Q_CFG n, 16, 16⟩

/-- Q[n].WM (R210). -/
def Q_WM (n : Nat) : Nat := 0x200004 + 0x10 * n
def Q_WM_LOW (n : Nat) : Fld := ⟨Q_WM n, 0, 16⟩
def Q_WM_HIGH (n : Nat) : Fld := ⟨Q_WM n, 16, 16⟩

/-- Q[n].STAT (R210). -/
def Q_STAT (n : Nat) : Nat := 0x200008 + 0x10 * n
def Q_STAT_PKTCNT (n : Nat) : Fld := ⟨Q_STAT n, 0, 16⟩
def Q_STAT_CELLS (n : Nat) : Fld := ⟨Q_STAT n, 16, 16⟩

/-- Q[n].EV (R210). -/
def Q_EV (n : Nat) : Nat := 0x20000c + 0x10 * n
def Q_EV_HI_EV (n : Nat) : Fld := ⟨Q_EV n, 0, 1⟩
def Q_EV_LO_EV (n : Nat) : Fld := ⟨Q_EV n, 1, 1⟩
def Q_EV_QERR_EV (n : Nat) : Fld := ⟨Q_EV n, 2, 1⟩
def Q_EV_OVF_EV (n : Nat) : Fld := ⟨Q_EV n, 3, 1⟩
def Q_EV_HI_LIVE (n : Nat) : Fld := ⟨Q_EV n, 4, 1⟩
def Q_EV_LO_LIVE (n : Nat) : Fld := ⟨Q_EV n, 5, 1⟩
def Q_EV_ERR (n : Nat) : Fld := ⟨Q_EV n, 6, 1⟩
def Q_EV_OPEN (n : Nat) : Fld := ⟨Q_EV n, 7, 1⟩
def Q_EV_RESET (n : Nat) : Fld := ⟨Q_EV n, 8, 1⟩
def Q_EV_EPOCH (n : Nat) : Fld := ⟨Q_EV n, 16, 16⟩

/-- QM.REGION (R210). -/
def QM_REGION : Nat := 0x210000
def QM_REGION_CELLS : Fld := ⟨QM_REGION, 0, 17⟩

/-- QM.FREE (R210). -/
def QM_FREE : Nat := 0x210004
def QM_FREE_COMMON : Fld := ⟨QM_FREE, 0, 17⟩

/-- QM.EVENTS (R210). -/
def QM_EVENTS : Nat := 0x210008
def QM_EVENTS_QERR_ANY : Fld := ⟨QM_EVENTS, 0, 1⟩
def QM_EVENTS_OVF_ANY : Fld := ⟨QM_EVENTS, 1, 1⟩
def QM_EVENTS_ECC_CORR_EV : Fld := ⟨QM_EVENTS, 2, 1⟩
def QM_EVENTS_ECC_UNCORR_EV : Fld := ⟨QM_EVENTS, 3, 1⟩
def QM_EVENTS_CELL_WRITE : Fld := ⟨QM_EVENTS, 4, 1⟩

/-- QM.INT_EN (R210). -/
def QM_INT_EN : Nat := 0x21000c
def QM_INT_EN_EN : Fld := ⟨QM_INT_EN, 0, 5⟩
def QM_INT_EN_PEND_EN : Fld := ⟨QM_INT_EN, 5, 1⟩

/-- QM.QERR (R210). -/
def QM_QERR : Nat := 0x210010
def QM_QERR_Q : Fld := ⟨QM_QERR, 0, 12⟩
def QM_QERR_CAUSE : Fld := ⟨QM_QERR, 12, 3⟩
def QM_QERR_COUNT : Fld := ⟨QM_QERR, 16, 16⟩

/-- QM.OVF (R210). -/
def QM_OVF : Nat := 0x210014
def QM_OVF_Q : Fld := ⟨QM_OVF, 0, 12⟩
def QM_OVF_COUNT : Fld := ⟨QM_OVF, 16, 16⟩

/-- QM.ECC (R210). -/
def QM_ECC : Nat := 0x210018
def QM_ECC_CORR : Fld := ⟨QM_ECC, 0, 16⟩
def QM_ECC_UNCORR : Fld := ⟨QM_ECC, 16, 16⟩

/-- QM.ECC_ADDR (R210). -/
def QM_ECC_ADDR : Nat := 0x21001c
def QM_ECC_ADDR_ADDR : Fld := ⟨QM_ECC_ADDR, 0, 26⟩
def QM_ECC_ADDR_AREA : Fld := ⟨QM_ECC_ADDR, 26, 2⟩

/-- QM.RAKE (R210). -/
def QM_RAKE : Nat := 0x210020
def QM_RAKE_BUSY : Fld := ⟨QM_RAKE, 0, 1⟩
def QM_RAKE_PENDING : Fld := ⟨QM_RAKE, 1, 13⟩
def QM_RAKE_SCAN : Fld := ⟨QM_RAKE, 14, 1⟩

/-- QM.PEND[i] (R210). -/
def QM_PEND (i : Nat) : Nat := 0x210100 + 4 * i
def QM_PEND_PEND (i : Nat) : Fld := ⟨QM_PEND i, 0, 32⟩

/-- MMU.STEWARD (R236). -/
def MMU_STEWARD : Nat := 0x280000
def MMU_STEWARD_CORE : Fld := ⟨MMU_STEWARD, 0, 4⟩
def MMU_STEWARD_CTX : Fld := ⟨MMU_STEWARD, 4, 2⟩

/-- MMU.FAULTQ (R236). -/
def MMU_FAULTQ : Nat := 0x280004
def MMU_FAULTQ_Q : Fld := ⟨MMU_FAULTQ, 0, 12⟩
def MMU_FAULTQ_EN : Fld := ⟨MMU_FAULTQ, 31, 1⟩

/-- MMU.EVENTS (R236). -/
def MMU_EVENTS : Nat := 0x280008
def MMU_EVENTS_FAULT_EV : Fld := ⟨MMU_EVENTS, 0, 1⟩
def MMU_EVENTS_FAULTQ_LOST : Fld := ⟨MMU_EVENTS, 1, 1⟩
def MMU_EVENTS_LOCK_FULL : Fld := ⟨MMU_EVENTS, 2, 1⟩
def MMU_EVENTS_INV_DONE : Fld := ⟨MMU_EVENTS, 3, 1⟩
def MMU_EVENTS_INV_DENIED : Fld := ⟨MMU_EVENTS, 4, 1⟩
def MMU_EVENTS_CRES_STALE : Fld := ⟨MMU_EVENTS, 5, 1⟩

/-- MMU.INT_EN (R236). -/
def MMU_INT_EN : Nat := 0x28000c
def MMU_INT_EN_EN : Fld := ⟨MMU_INT_EN, 0, 6⟩
def MMU_INT_EN_DMA_EN : Fld := ⟨MMU_INT_EN, 6, 1⟩

/-- MMU.INV (R236). -/
def MMU_INV : Nat := 0x280010
def MMU_INV_OP : Fld := ⟨MMU_INV, 0, 2⟩
def MMU_INV_ASID : Fld := ⟨MMU_INV, 2, 8⟩
def MMU_INV_GO : Fld := ⟨MMU_INV, 10, 1⟩
def MMU_INV_BUSY : Fld := ⟨MMU_INV, 11, 1⟩

/-- MMU.INV_VA (R236). -/
def MMU_INV_VA : Nat := 0x280014
def MMU_INV_VA_VA : Fld := ⟨MMU_INV_VA, 0, 32⟩

/-- MMU.FAULT_CNT (R236). -/
def MMU_FAULT_CNT : Nat := 0x280018
def MMU_FAULT_CNT_CORE : Fld := ⟨MMU_FAULT_CNT, 0, 16⟩
def MMU_FAULT_CNT_DMA : Fld := ⟨MMU_FAULT_CNT, 16, 16⟩

/-- MMU.CRES (R236). -/
def MMU_CRES : Nat := 0x280020
def MMU_CRES_CORE : Fld := ⟨MMU_CRES, 0, 4⟩
def MMU_CRES_CTX : Fld := ⟨MMU_CRES, 4, 2⟩
def MMU_CRES_RESUME : Fld := ⟨MMU_CRES, 6, 1⟩
def MMU_CRES_ABORT : Fld := ⟨MMU_CRES, 7, 1⟩

/-- MMU.ROOT[a] (R236). -/
def MMU_ROOT (a : Nat) : Nat := 0x280400 + 4 * a
def MMU_ROOT_V (a : Nat) : Fld := ⟨MMU_ROOT a, 0, 1⟩
def MMU_ROOT_PPN (a : Nat) : Fld := ⟨MMU_ROOT a, 18, 14⟩

/-- DMA[ch].CTL (R236). -/
def DMA_CTL (ch : Nat) : Nat := 0x281000 + 0x40 * ch
def DMA_CTL_ASID (ch : Nat) : Fld := ⟨DMA_CTL ch, 0, 8⟩
def DMA_CTL_OWNER_CORE (ch : Nat) : Fld := ⟨DMA_CTL ch, 8, 4⟩
def DMA_CTL_OWNER_CTX (ch : Nat) : Fld := ⟨DMA_CTL ch, 12, 2⟩

/-- DMA[ch].DESC (R236). -/
def DMA_DESC (ch : Nat) : Nat := 0x281004 + 0x40 * ch
def DMA_DESC_VA (ch : Nat) : Fld := ⟨DMA_DESC ch, 0, 32⟩

/-- DMA[ch].CMD (R236). -/
def DMA_CMD (ch : Nat) : Nat := 0x281008 + 0x40 * ch
def DMA_CMD_KICK (ch : Nat) : Fld := ⟨DMA_CMD ch, 0, 1⟩
def DMA_CMD_FENCE (ch : Nat) : Fld := ⟨DMA_CMD ch, 1, 1⟩
def DMA_CMD_RESUME (ch : Nat) : Fld := ⟨DMA_CMD ch, 2, 1⟩
def DMA_CMD_ABORT (ch : Nat) : Fld := ⟨DMA_CMD ch, 3, 1⟩

/-- DMA[ch].STATUS (R236). -/
def DMA_STATUS (ch : Nat) : Nat := 0x28100c + 0x40 * ch
def DMA_STATUS_STATE (ch : Nat) : Fld := ⟨DMA_STATUS ch, 0, 3⟩
def DMA_STATUS_CAUSE (ch : Nat) : Fld := ⟨DMA_STATUS ch, 4, 4⟩
def DMA_STATUS_WHERE (ch : Nat) : Fld := ⟨DMA_STATUS ch, 8, 2⟩
def DMA_STATUS_DELIVERED (ch : Nat) : Fld := ⟨DMA_STATUS ch, 10, 2⟩
def DMA_STATUS_OPEN (ch : Nat) : Fld := ⟨DMA_STATUS ch, 12, 1⟩

/-- DMA[ch].FAULT_VA (R236). -/
def DMA_FAULT_VA (ch : Nat) : Nat := 0x281010 + 0x40 * ch
def DMA_FAULT_VA_VA (ch : Nat) : Fld := ⟨DMA_FAULT_VA ch, 0, 32⟩

/-- DMA[ch].DONE_BYTES (R236). -/
def DMA_DONE_BYTES (ch : Nat) : Nat := 0x281014 + 0x40 * ch
def DMA_DONE_BYTES_BYTES (ch : Nat) : Fld := ⟨DMA_DONE_BYTES ch, 0, 24⟩

/-- DMA[ch].CUR (R236). -/
def DMA_CUR (ch : Nat) : Nat := 0x281018 + 0x40 * ch
def DMA_CUR_VA (ch : Nat) : Fld := ⟨DMA_CUR ch, 0, 32⟩

/-- DMA[ch].EVENTS (R236). -/
def DMA_EVENTS (ch : Nat) : Nat := 0x28101c + 0x40 * ch
def DMA_EVENTS_DONE_EV (ch : Nat) : Fld := ⟨DMA_EVENTS ch, 0, 1⟩
def DMA_EVENTS_FAULT_EV (ch : Nat) : Fld := ⟨DMA_EVENTS ch, 1, 1⟩
def DMA_EVENTS_ERR_EV (ch : Nat) : Fld := ⟨DMA_EVENTS ch, 2, 1⟩
def DMA_EVENTS_CHAIN_END (ch : Nat) : Fld := ⟨DMA_EVENTS ch, 3, 1⟩
def DMA_EVENTS_CMD_IGNORED (ch : Nat) : Fld := ⟨DMA_EVENTS ch, 4, 1⟩

/-- DMA[ch].INT_EN (R236). -/
def DMA_INT_EN (ch : Nat) : Nat := 0x281020 + 0x40 * ch
def DMA_INT_EN_EN (ch : Nat) : Fld := ⟨DMA_INT_EN ch, 0, 5⟩

/-- DMA[ch].CNT (R236). -/
def DMA_CNT (ch : Nat) : Nat := 0x281024 + 0x40 * ch
def DMA_CNT_DESCS (ch : Nat) : Fld := ⟨DMA_CNT ch, 0, 32⟩

/-- DMA.PEND (R236). -/
def DMA_PEND : Nat := 0x282000
def DMA_PEND_PEND : Fld := ⟨DMA_PEND, 0, 32⟩

/-- CORE[c].CFG (R265). -/
def CORE_CFG (c : Nat) : Nat := 0x300000 + 0x1000 * c
def CORE_CFG_CTX_EN (c : Nat) : Fld := ⟨CORE_CFG c, 0, 4⟩
def CORE_CFG_PRIV (c : Nat) : Fld := ⟨CORE_CFG c, 4, 4⟩

/-- CORE[c].HALT (R265). -/
def CORE_HALT (c : Nat) : Nat := 0x300004 + 0x1000 * c
def CORE_HALT_HALT (c : Nat) : Fld := ⟨CORE_HALT c, 0, 4⟩
def CORE_HALT_HALTED (c : Nat) : Fld := ⟨CORE_HALT c, 4, 4⟩

/-- CORE[c].PEND (R265). -/
def CORE_PEND (c : Nat) : Nat := 0x300008 + 0x1000 * c
def CORE_PEND_PEND (c : Nat) : Fld := ⟨CORE_PEND c, 0, 4⟩

/-- X[x].DESC (R265). -/
def X_DESC (c x : Nat) : Nat := 0x300100 + 0x1000 * c + 0x100 * x
def X_DESC_ADDR (c x : Nat) : Fld := ⟨X_DESC c x, 0, 26⟩

/-- X[x].CMD (R265). -/
def X_CMD (c x : Nat) : Nat := 0x300104 + 0x1000 * c + 0x100 * x
def X_CMD_START (c x : Nat) : Fld := ⟨X_CMD c x, 0, 1⟩
def X_CMD_STOP (c x : Nat) : Fld := ⟨X_CMD c x, 1, 1⟩

/-- X[x].STATE (R265). -/
def X_STATE (c x : Nat) : Nat := 0x300108 + 0x1000 * c + 0x100 * x
def X_STATE_STATE (c x : Nat) : Fld := ⟨X_STATE c x, 0, 4⟩
def X_STATE_IN_EXC (c x : Nat) : Fld := ⟨X_STATE c x, 4, 1⟩
def X_STATE_ASID (c x : Nat) : Fld := ⟨X_STATE c x, 8, 8⟩
def X_STATE_TICKNUM (c x : Nat) : Fld := ⟨X_STATE c x, 16, 3⟩

/-- X[x].PC (R265). -/
def X_PC (c x : Nat) : Nat := 0x30010c + 0x1000 * c + 0x100 * x
def X_PC_PC (c x : Nat) : Fld := ⟨X_PC c x, 0, 32⟩

/-- X[x].EVENTS (R265). -/
def X_EVENTS (c x : Nat) : Nat := 0x300110 + 0x1000 * c + 0x100 * x
def X_EVENTS_OVERRUN_EV (c x : Nat) : Fld := ⟨X_EVENTS c x, 0, 1⟩
def X_EVENTS_FAULT_EV (c x : Nat) : Fld := ⟨X_EVENTS c x, 1, 1⟩
def X_EVENTS_LEFTOVER_EV (c x : Nat) : Fld := ⟨X_EVENTS c x, 2, 1⟩
def X_EVENTS_ABANDON_EV (c x : Nat) : Fld := ⟨X_EVENTS c x, 3, 1⟩
def X_EVENTS_EXCESS_EV (c x : Nat) : Fld := ⟨X_EVENTS c x, 4, 1⟩
def X_EVENTS_SHORT_EV (c x : Nat) : Fld := ⟨X_EVENTS c x, 5, 1⟩
def X_EVENTS_DMAEXC_EV (c x : Nat) : Fld := ⟨X_EVENTS c x, 6, 1⟩
def X_EVENTS_DESC_ERR (c x : Nat) : Fld := ⟨X_EVENTS c x, 7, 1⟩

/-- X[x].INT_EN (R265). -/
def X_INT_EN (c x : Nat) : Nat := 0x300114 + 0x1000 * c + 0x100 * x
def X_INT_EN_EN (c x : Nat) : Fld := ⟨X_INT_EN c x, 0, 8⟩

/-- X[x].RUNTIME (R265). -/
def X_RUNTIME (c x : Nat) : Nat := 0x300118 + 0x1000 * c + 0x100 * x
def X_RUNTIME_LAST (c x : Nat) : Fld := ⟨X_RUNTIME c x, 0, 16⟩
def X_RUNTIME_MAX (c x : Nat) : Fld := ⟨X_RUNTIME c x, 16, 16⟩

/-- X[x].RSEL (R265). -/
def X_RSEL (c x : Nat) : Nat := 0x30011c + 0x1000 * c + 0x100 * x
def X_RSEL_INDEX (c x : Nat) : Fld := ⟨X_RSEL c x, 0, 5⟩
def X_RSEL_FILE (c x : Nat) : Fld := ⟨X_RSEL c x, 5, 3⟩
def X_RSEL_WORD (c x : Nat) : Fld := ⟨X_RSEL c x, 8, 3⟩

/-- X[x].RDATA (R265). -/
def X_RDATA (c x : Nat) : Nat := 0x300120 + 0x1000 * c + 0x100 * x
def X_RDATA_DATA (c x : Nat) : Fld := ⟨X_RDATA c x, 0, 32⟩

/-- X[x].CNT[k] (R265). -/
def X_CNT (c x k : Nat) : Nat := 0x300140 + 0x1000 * c + 0x100 * x + 4 * k
def X_CNT_COUNT (c x k : Nat) : Fld := ⟨X_CNT c x k, 0, 32⟩

/-- X[x].PERF[k] (R265). -/
def X_PERF (c x k : Nat) : Nat := 0x300160 + 0x1000 * c + 0x100 * x + 4 * k
def X_PERF_COUNT (c x k : Nat) : Fld := ⟨X_PERF c x k, 0, 32⟩

/-- ROUTE.CTL (R316). -/
def ROUTE_CTL : Nat := 0x210400
def ROUTE_CTL_TIMED : Fld := ⟨ROUTE_CTL, 0, 1⟩

/-- ROUTE.APPLY_AT (R316). -/
def ROUTE_APPLY_AT : Nat := 0x210404
def ROUTE_APPLY_AT_TICK : Fld := ⟨ROUTE_APPLY_AT, 0, 32⟩

/-- ROUTE.STATUS (R316). -/
def ROUTE_STATUS : Nat := 0x210408
def ROUTE_STATUS_PENDING : Fld := ⟨ROUTE_STATUS, 0, 1⟩

/-- ROUTE.EVENTS (R316). -/
def ROUTE_EVENTS : Nat := 0x21040c
def ROUTE_EVENTS_APPLIED_EV : Fld := ⟨ROUTE_EVENTS, 0, 1⟩
def ROUTE_EVENTS_DENIED_EV : Fld := ⟨ROUTE_EVENTS, 1, 1⟩
def ROUTE_EVENTS_LATE_EV : Fld := ⟨ROUTE_EVENTS, 2, 1⟩
def ROUTE_EVENTS_STALE_EV : Fld := ⟨ROUTE_EVENTS, 3, 1⟩
def ROUTE_EVENTS_PARK_EV : Fld := ⟨ROUTE_EVENTS, 4, 1⟩

/-- ROUTE.INT_EN (R316). -/
def ROUTE_INT_EN : Nat := 0x210410
def ROUTE_INT_EN_EN : Fld := ⟨ROUTE_INT_EN, 0, 5⟩

/-- ROUTE.DENIED (R316). -/
def ROUTE_DENIED : Nat := 0x210414
def ROUTE_DENIED_ENDPOINT : Fld := ⟨ROUTE_DENIED, 0, 15⟩
def ROUTE_DENIED_CAUSE : Fld := ⟨ROUTE_DENIED, 16, 2⟩

/-- ROUTE.CNT[k] (R316). -/
def ROUTE_CNT (k : Nat) : Nat := 0x210420 + 4 * k
def ROUTE_CNT_COUNT (k : Nat) : Fld := ⟨ROUTE_CNT k, 0, 32⟩

/-- ROUTE[e] (R316). -/
def ROUTE_E (e : Nat) : Nat := 0x218000 + 4 * e
def ROUTE_E_Q (e : Nat) : Fld := ⟨ROUTE_E e, 0, 12⟩
def ROUTE_E_OFF (e : Nat) : Fld := ⟨ROUTE_E e, 12, 1⟩
def ROUTE_E_PENDING (e : Nat) : Fld := ⟨ROUTE_E e, 14, 1⟩
def ROUTE_E_DENIED (e : Nat) : Fld := ⟨ROUTE_E e, 15, 1⟩
def ROUTE_E_Q_ACTIVE (e : Nat) : Fld := ⟨ROUTE_E e, 16, 12⟩
def ROUTE_E_OFF_ACTIVE (e : Nat) : Fld := ⟨ROUTE_E e, 28, 1⟩

/-- MOD.GRP[g].CARRIER (R345). -/
def MOD_GRP_CARRIER (g : Nat) : Nat := 0x40000000 + 0x20 * g
def MOD_GRP_CARRIER_DIV (g : Nat) : Fld := ⟨MOD_GRP_CARRIER g, 0, 12⟩
def MOD_GRP_CARRIER_OFS (g : Nat) : Fld := ⟨MOD_GRP_CARRIER g, 16, 12⟩

/-- MOD.GRP[g].CFG (R345). -/
def MOD_GRP_CFG (g : Nat) : Nat := 0x40000004 + 0x20 * g
def MOD_GRP_CFG_LAYOUT (g : Nat) : Fld := ⟨MOD_GRP_CFG g, 0, 3⟩
def MOD_GRP_CFG_LA (g : Nat) : Fld := ⟨MOD_GRP_CFG g, 4, 7⟩
def MOD_GRP_CFG_DT (g : Nat) : Fld := ⟨MOD_GRP_CFG g, 11, 8⟩
def MOD_GRP_CFG_PIN_EN (g : Nat) : Fld := ⟨MOD_GRP_CFG g, 19, 1⟩

/-- MOD.GRP[g].VREF (R345). -/
def MOD_GRP_VREF (g : Nat) : Nat := 0x40000008 + 0x20 * g
def MOD_GRP_VREF_V (g : Nat) : Fld := ⟨MOD_GRP_VREF g, 0, 16⟩

/-- MOD.GRP[g].PROT (R345). -/
def MOD_GRP_PROT (g : Nat) : Nat := 0x4000000c + 0x20 * g
def MOD_GRP_PROT_HOLDOFF_MS (g : Nat) : Fld := ⟨MOD_GRP_PROT g, 0, 16⟩
def MOD_GRP_PROT_RETRY_MAX (g : Nat) : Fld := ⟨MOD_GRP_PROT g, 16, 4⟩
def MOD_GRP_PROT_RETRY_WIN_S (g : Nat) : Fld := ⟨MOD_GRP_PROT g, 20, 8⟩

/-- MOD.GRP[g].STATUS (R345). -/
def MOD_GRP_STATUS (g : Nat) : Nat := 0x40000010 + 0x20 * g
def MOD_GRP_STATUS_CARRIER_RUN (g : Nat) : Fld := ⟨MOD_GRP_STATUS g, 0, 1⟩
def MOD_GRP_STATUS_EPOCH_SLIP (g : Nat) : Fld := ⟨MOD_GRP_STATUS g, 1, 1⟩
def MOD_GRP_STATUS_ALL_DOWN (g : Nat) : Fld := ⟨MOD_GRP_STATUS g, 2, 1⟩
def MOD_GRP_STATUS_CAL_OK (g : Nat) : Fld := ⟨MOD_GRP_STATUS g, 3, 1⟩
def MOD_GRP_STATUS_RAIL_READY (g : Nat) : Fld := ⟨MOD_GRP_STATUS g, 4, 1⟩
def MOD_GRP_STATUS_HOLD (g : Nat) : Fld := ⟨MOD_GRP_STATUS g, 5, 1⟩

/-- MOD.GRP[g].EVENTS (R345). -/
def MOD_GRP_EVENTS (g : Nat) : Nat := 0x40000014 + 0x20 * g
def MOD_GRP_EVENTS_CFG_DENIED (g : Nat) : Fld := ⟨MOD_GRP_EVENTS g, 0, 1⟩
def MOD_GRP_EVENTS_ALL_DOWN_EV (g : Nat) : Fld := ⟨MOD_GRP_EVENTS g, 1, 1⟩
def MOD_GRP_EVENTS_SLIP_EV (g : Nat) : Fld := ⟨MOD_GRP_EVENTS g, 2, 1⟩
def MOD_GRP_EVENTS_CAL_EV (g : Nat) : Fld := ⟨MOD_GRP_EVENTS g, 3, 1⟩

/-- MOD.GRP[g].INT_EN (R345). -/
def MOD_GRP_INT_EN (g : Nat) : Nat := 0x40000018 + 0x20 * g
def MOD_GRP_INT_EN_EN (g : Nat) : Fld := ⟨MOD_GRP_INT_EN g, 0, 4⟩

/-- MOD.GRP[g].RAIL (R345). -/
def MOD_GRP_RAIL (g : Nat) : Nat := 0x4000001c + 0x20 * g
def MOD_GRP_RAIL_V (g : Nat) : Fld := ⟨MOD_GRP_RAIL g, 0, 16⟩

/-- MOD.GANG[k].CTL (R345). -/
def MOD_GANG_CTL (k : Nat) : Nat := 0x40000400 + 0x40 * k
def MOD_GANG_CTL_RUN (k : Nat) : Fld := ⟨MOD_GANG_CTL k, 0, 1⟩
def MOD_GANG_CTL_CLEAR (k : Nat) : Fld := ⟨MOD_GANG_CTL k, 1, 1⟩
def MOD_GANG_CTL_INV (k : Nat) : Fld := ⟨MOD_GANG_CTL k, 2, 1⟩
def MOD_GANG_CTL_FLT_MASK (k : Nat) : Fld := ⟨MOD_GANG_CTL k, 4, 4⟩

/-- MOD.GANG[k].CFG (R345). -/
def MOD_GANG_CFG (k : Nat) : Nat := 0x40000404 + 0x40 * k
def MOD_GANG_CFG_RATE (k : Nat) : Fld := ⟨MOD_GANG_CFG k, 0, 2⟩

/-- MOD.GANG[k].STATUS (R345). -/
def MOD_GANG_STATUS (k : Nat) : Nat := 0x40000408 + 0x40 * k
def MOD_GANG_STATUS_STATE (k : Nat) : Fld := ⟨MOD_GANG_STATUS k, 0, 3⟩
def MOD_GANG_STATUS_DRAINING (k : Nat) : Fld := ⟨MOD_GANG_STATUS k, 3, 1⟩
def MOD_GANG_STATUS_FLT_LIVE (k : Nat) : Fld := ⟨MOD_GANG_STATUS k, 4, 4⟩
def MOD_GANG_STATUS_RECENT (k : Nat) : Fld := ⟨MOD_GANG_STATUS k, 8, 4⟩
def MOD_GANG_STATUS_CLIP_NOW (k : Nat) : Fld := ⟨MOD_GANG_STATUS k, 12, 1⟩

/-- MOD.GANG[k].EVENTS (R345). -/
def MOD_GANG_EVENTS (k : Nat) : Nat := 0x4000040c + 0x40 * k
def MOD_GANG_EVENTS_FAULT_EV (k : Nat) : Fld := ⟨MOD_GANG_EVENTS k, 0, 1⟩
def MOD_GANG_EVENTS_LATCH_EV (k : Nat) : Fld := ⟨MOD_GANG_EVENTS k, 1, 1⟩
def MOD_GANG_EVENTS_RESTART_EV (k : Nat) : Fld := ⟨MOD_GANG_EVENTS k, 2, 1⟩
def MOD_GANG_EVENTS_MISSING_EV (k : Nat) : Fld := ⟨MOD_GANG_EVENTS k, 3, 1⟩
def MOD_GANG_EVENTS_CLIP_EV (k : Nat) : Fld := ⟨MOD_GANG_EVENTS k, 4, 1⟩
def MOD_GANG_EVENTS_HELD_EV (k : Nat) : Fld := ⟨MOD_GANG_EVENTS k, 5, 1⟩
def MOD_GANG_EVENTS_CFG_ERR (k : Nat) : Fld := ⟨MOD_GANG_EVENTS k, 6, 1⟩

/-- MOD.GANG[k].INT_EN (R345). -/
def MOD_GANG_INT_EN (k : Nat) : Nat := 0x40000410 + 0x40 * k
def MOD_GANG_INT_EN_EN (k : Nat) : Fld := ⟨MOD_GANG_INT_EN k, 0, 7⟩

/-- MOD.GANG[k].FAULT_NS (R345). -/
def MOD_GANG_FAULT_NS (k : Nat) : Nat := 0x40000414 + 0x40 * k
def MOD_GANG_FAULT_NS_NS (k : Nat) : Fld := ⟨MOD_GANG_FAULT_NS k, 0, 32⟩

/-- MOD.GANG[k].FAULT_SRC (R345). -/
def MOD_GANG_FAULT_SRC (k : Nat) : Nat := 0x40000418 + 0x40 * k
def MOD_GANG_FAULT_SRC_PAIRS (k : Nat) : Fld := ⟨MOD_GANG_FAULT_SRC k, 0, 4⟩
def MOD_GANG_FAULT_SRC_KIND (k : Nat) : Fld := ⟨MOD_GANG_FAULT_SRC k, 4, 2⟩

/-- MOD.GANG[k].CNT[c] (R345). -/
def MOD_GANG_CNT (k c : Nat) : Nat := 0x40000420 + 0x40 * k + 4 * c
def MOD_GANG_CNT_COUNT (k c : Nat) : Fld := ⟨MOD_GANG_CNT k c, 0, 32⟩

/-- MOD.STATUS (R345). -/
def MOD_STATUS : Nat := 0x40000c00
def MOD_STATUS_FREQ_HOLD : Fld := ⟨MOD_STATUS, 0, 1⟩
def MOD_STATUS_PERMIT : Fld := ⟨MOD_STATUS, 1, 1⟩
def MOD_STATUS_DRAIN : Fld := ⟨MOD_STATUS, 2, 1⟩

/-- MOD.GANG_PEND (R345). -/
def MOD_GANG_PEND : Nat := 0x40000c04
def MOD_GANG_PEND_PEND : Fld := ⟨MOD_GANG_PEND, 0, 32⟩

/-- MOD.GRP_PEND (R345). -/
def MOD_GRP_PEND : Nat := 0x40000c08
def MOD_GRP_PEND_PEND : Fld := ⟨MOD_GRP_PEND, 0, 8⟩

/-- BST[g].CTL (R359). -/
def BST_CTL (g : Nat) : Nat := 0x50000000 + 0x80 * g
def BST_CTL_EN (g : Nat) : Fld := ⟨BST_CTL g, 0, 1⟩
def BST_CTL_MODE (g : Nat) : Fld := ⟨BST_CTL g, 1, 2⟩
def BST_CTL_PHASE (g : Nat) : Fld := ⟨BST_CTL g, 3, 4⟩
def BST_CTL_CLEAR (g : Nat) : Fld := ⟨BST_CTL g, 7, 1⟩

/-- BST[g].RAIL_LIM (R359). -/
def BST_RAIL_LIM (g : Nat) : Nat := 0x50000004 + 0x80 * g
def BST_RAIL_LIM_MIN (g : Nat) : Fld := ⟨BST_RAIL_LIM g, 0, 16⟩
def BST_RAIL_LIM_MAX (g : Nat) : Fld := ⟨BST_RAIL_LIM g, 16, 16⟩

/-- BST[g].OVP (R359). -/
def BST_OVP (g : Nat) : Nat := 0x50000008 + 0x80 * g
def BST_OVP_V (g : Nat) : Fld := ⟨BST_OVP g, 0, 16⟩

/-- BST[g].UV (R359). -/
def BST_UV (g : Nat) : Nat := 0x5000000c + 0x80 * g
def BST_UV_MARGIN (g : Nat) : Fld := ⟨BST_UV g, 0, 8⟩
def BST_UV_CYC (g : Nat) : Fld := ⟨BST_UV g, 8, 8⟩

/-- BST[g].ILIM (R359). -/
def BST_ILIM (g : Nat) : Nat := 0x50000010 + 0x80 * g
def BST_ILIM_CODE (g : Nat) : Fld := ⟨BST_ILIM g, 0, 10⟩
def BST_ILIM_CYC (g : Nat) : Fld := ⟨BST_ILIM g, 16, 8⟩

/-- BST[g].SLEW (R359). -/
def BST_SLEW (g : Nat) : Nat := 0x50000014 + 0x80 * g
def BST_SLEW_V_PER_MS (g : Nat) : Fld := ⟨BST_SLEW g, 0, 10⟩

/-- BST[g].LOOP (R359). -/
def BST_LOOP (g : Nat) : Nat := 0x50000018 + 0x80 * g
def BST_LOOP_KP (g : Nat) : Fld := ⟨BST_LOOP g, 0, 16⟩
def BST_LOOP_KI (g : Nat) : Fld := ⟨BST_LOOP g, 16, 16⟩

/-- BST[g].PWM (R359). -/
def BST_PWM (g : Nat) : Nat := 0x5000001c + 0x80 * g
def BST_PWM_MAXD (g : Nat) : Fld := ⟨BST_PWM g, 0, 8⟩
def BST_PWM_LEB (g : Nat) : Fld := ⟨BST_PWM g, 8, 8⟩
def BST_PWM_SLOPE (g : Nat) : Fld := ⟨BST_PWM g, 16, 10⟩

/-- BST[g].SENSE (R359). -/
def BST_SENSE (g : Nat) : Nat := 0x50000020 + 0x80 * g
def BST_SENSE_FS (g : Nat) : Fld := ⟨BST_SENSE g, 0, 16⟩

/-- BST[g].FOLLOW (R359). -/
def BST_FOLLOW (g : Nat) : Nat := 0x50000024 + 0x80 * g
def BST_FOLLOW_HEADROOM (g : Nat) : Fld := ⟨BST_FOLLOW g, 0, 16⟩

/-- BST[g].RESTART (R359). -/
def BST_RESTART (g : Nat) : Nat := 0x50000028 + 0x80 * g
def BST_RESTART_MS (g : Nat) : Fld := ⟨BST_RESTART g, 0, 16⟩

/-- BST[g].TARGET (R359). -/
def BST_TARGET (g : Nat) : Nat := 0x5000002c + 0x80 * g
def BST_TARGET_GOAL (g : Nat) : Fld := ⟨BST_TARGET g, 0, 16⟩
def BST_TARGET_REF (g : Nat) : Fld := ⟨BST_TARGET g, 16, 16⟩

/-- BST[g].MEAS (R359). -/
def BST_MEAS (g : Nat) : Nat := 0x50000030 + 0x80 * g
def BST_MEAS_V (g : Nat) : Fld := ⟨BST_MEAS g, 0, 16⟩
def BST_MEAS_C (g : Nat) : Fld := ⟨BST_MEAS g, 16, 10⟩

/-- BST[g].STATUS (R359). -/
def BST_STATUS (g : Nat) : Nat := 0x50000034 + 0x80 * g
def BST_STATUS_STATE (g : Nat) : Fld := ⟨BST_STATUS g, 0, 3⟩
def BST_STATUS_READY (g : Nat) : Fld := ⟨BST_STATUS g, 3, 1⟩
def BST_STATUS_FORCED_MIN (g : Nat) : Fld := ⟨BST_STATUS g, 4, 1⟩
def BST_STATUS_SENSE_OK (g : Nat) : Fld := ⟨BST_STATUS g, 5, 1⟩
def BST_STATUS_CAUSE (g : Nat) : Fld := ⟨BST_STATUS g, 6, 3⟩

/-- BST[g].EVENTS (R359). -/
def BST_EVENTS (g : Nat) : Nat := 0x50000038 + 0x80 * g
def BST_EVENTS_READY_EV (g : Nat) : Fld := ⟨BST_EVENTS g, 0, 1⟩
def BST_EVENTS_STOP_EV (g : Nat) : Fld := ⟨BST_EVENTS g, 1, 1⟩
def BST_EVENTS_OV_EV (g : Nat) : Fld := ⟨BST_EVENTS g, 2, 1⟩
def BST_EVENTS_MULTI_EV (g : Nat) : Fld := ⟨BST_EVENTS g, 3, 1⟩
def BST_EVENTS_CFG_ERR (g : Nat) : Fld := ⟨BST_EVENTS g, 4, 1⟩
def BST_EVENTS_CFG_DENIED (g : Nat) : Fld := ⟨BST_EVENTS g, 5, 1⟩

/-- BST[g].INT_EN (R359). -/
def BST_INT_EN (g : Nat) : Nat := 0x5000003c + 0x80 * g
def BST_INT_EN_EN (g : Nat) : Fld := ⟨BST_INT_EN g, 0, 6⟩

/-- BST[g].CNT[c] (R359). -/
def BST_CNT (g c : Nat) : Nat := 0x50000040 + 0x80 * g + 4 * c
def BST_CNT_COUNT (g c : Nat) : Fld := ⟨BST_CNT g c, 0, 32⟩

/-- BST.PEND (R359). -/
def BST_PEND : Nat := 0x50000400
def BST_PEND_PEND : Fld := ⟨BST_PEND, 0, 8⟩

/-- TWIN.CFG (R388). -/
def TWIN_CFG : Nat := 0x380000
def TWIN_CFG_MODE : Fld := ⟨TWIN_CFG, 0, 2⟩
def TWIN_CFG_TX_HOLDER : Fld := ⟨TWIN_CFG, 2, 1⟩
def TWIN_CFG_AUTO_JOIN : Fld := ⟨TWIN_CFG, 3, 1⟩
def TWIN_CFG_ROLE : Fld := ⟨TWIN_CFG, 4, 1⟩

/-- TWIN.STATUS (R388). -/
def TWIN_STATUS : Nat := 0x380004
def TWIN_STATUS_STATE : Fld := ⟨TWIN_STATUS, 0, 3⟩
def TWIN_STATUS_PERMIT : Fld := ⟨TWIN_STATUS, 3, 1⟩
def TWIN_STATUS_BATON : Fld := ⟨TWIN_STATUS, 4, 1⟩
def TWIN_STATUS_FIT : Fld := ⟨TWIN_STATUS, 5, 1⟩
def TWIN_STATUS_CONVERGED : Fld := ⟨TWIN_STATUS, 6, 1⟩
def TWIN_STATUS_QLINK_UP : Fld := ⟨TWIN_STATUS, 7, 1⟩
def TWIN_STATUS_HB_OK : Fld := ⟨TWIN_STATUS, 8, 1⟩
def TWIN_STATUS_PARTNER_HOLDER : Fld := ⟨TWIN_STATUS, 9, 1⟩
def TWIN_STATUS_PARTNER_FIT : Fld := ⟨TWIN_STATUS, 10, 1⟩
def TWIN_STATUS_INHIBIT : Fld := ⟨TWIN_STATUS, 11, 1⟩
def TWIN_STATUS_JOIN_STATE : Fld := ⟨TWIN_STATUS, 12, 3⟩
def TWIN_STATUS_UNFIT_CAUSE : Fld := ⟨TWIN_STATUS, 15, 3⟩
def TWIN_STATUS_ROLE_CLASH : Fld := ⟨TWIN_STATUS, 18, 1⟩

/-- TWIN.EVENTS (R388). -/
def TWIN_EVENTS : Nat := 0x380008
def TWIN_EVENTS_TOOK : Fld := ⟨TWIN_EVENTS, 0, 1⟩
def TWIN_EVENTS_RELEASED : Fld := ⟨TWIN_EVENTS, 1, 1⟩
def TWIN_EVENTS_HB_LOST : Fld := ⟨TWIN_EVENTS, 2, 1⟩
def TWIN_EVENTS_CLAIM_SENT : Fld := ⟨TWIN_EVENTS, 3, 1⟩
def TWIN_EVENTS_CLAIM_FAIL : Fld := ⟨TWIN_EVENTS, 4, 1⟩
def TWIN_EVENTS_YIELDED : Fld := ⟨TWIN_EVENTS, 5, 1⟩
def TWIN_EVENTS_WDOG : Fld := ⟨TWIN_EVENTS, 6, 1⟩
def TWIN_EVENTS_BATON_FAULT : Fld := ⟨TWIN_EVENTS, 7, 1⟩
def TWIN_EVENTS_QLINK_UP_EV : Fld := ⟨TWIN_EVENTS, 8, 1⟩
def TWIN_EVENTS_QLINK_DOWN_EV : Fld := ⟨TWIN_EVENTS, 9, 1⟩
def TWIN_EVENTS_FIT_EV : Fld := ⟨TWIN_EVENTS, 10, 1⟩
def TWIN_EVENTS_UNFIT_EV : Fld := ⟨TWIN_EVENTS, 11, 1⟩
def TWIN_EVENTS_TAKE_BLOCKED : Fld := ⟨TWIN_EVENTS, 12, 1⟩
def TWIN_EVENTS_MISMATCH_EV : Fld := ⟨TWIN_EVENTS, 13, 1⟩
def TWIN_EVENTS_LOOP_ERR_EV : Fld := ⟨TWIN_EVENTS, 14, 1⟩
def TWIN_EVENTS_HANDOVER_DENIED : Fld := ⟨TWIN_EVENTS, 15, 1⟩
def TWIN_EVENTS_JOIN_DONE : Fld := ⟨TWIN_EVENTS, 16, 1⟩
def TWIN_EVENTS_DUAL_HOLD : Fld := ⟨TWIN_EVENTS, 17, 1⟩

/-- TWIN.INT_EN (R388). -/
def TWIN_INT_EN : Nat := 0x38000c
def TWIN_INT_EN_EN : Fld := ⟨TWIN_INT_EN, 0, 18⟩

/-- TWIN.FORCE (R388). -/
def TWIN_FORCE : Nat := 0x380010
def TWIN_FORCE_TAKE : Fld := ⟨TWIN_FORCE, 0, 1⟩
def TWIN_FORCE_RELEASE : Fld := ⟨TWIN_FORCE, 1, 1⟩
def TWIN_FORCE_HANDOVER : Fld := ⟨TWIN_FORCE, 2, 1⟩

/-- TWIN.HB (R388). -/
def TWIN_HB : Nat := 0x380014
def TWIN_HB_DELAY : Fld := ⟨TWIN_HB, 0, 8⟩
def TWIN_HB_WIN : Fld := ⟨TWIN_HB, 8, 8⟩

/-- TWIN.SHARE_SAP (R388). -/
def TWIN_SHARE_SAP : Nat := 0x380018
def TWIN_SHARE_SAP_PORTS : Fld := ⟨TWIN_SHARE_SAP, 0, 32⟩

/-- TWIN.SHARE_MISC (R388). -/
def TWIN_SHARE_MISC : Nat := 0x38001c
def TWIN_SHARE_MISC_TE : Fld := ⟨TWIN_SHARE_MISC, 0, 8⟩
def TWIN_SHARE_MISC_MCLK : Fld := ⟨TWIN_SHARE_MISC, 8, 1⟩

/-- TWIN.CONVERGE (R388). -/
def TWIN_CONVERGE : Nat := 0x380020
def TWIN_CONVERGE_TICKS : Fld := ⟨TWIN_CONVERGE, 0, 16⟩

/-- TWIN.VERSION (R388). -/
def TWIN_VERSION : Nat := 0x380024
def TWIN_VERSION_PARTNER : Fld := ⟨TWIN_VERSION, 0, 32⟩

/-- TWIN.TAKE_NS (R388). -/
def TWIN_TAKE_NS : Nat := 0x380028
def TWIN_TAKE_NS_NS : Fld := ⟨TWIN_TAKE_NS, 0, 32⟩

/-- TWIN.GAP (R388). -/
def TWIN_GAP : Nat := 0x38002c
def TWIN_GAP_CYCLES : Fld := ⟨TWIN_GAP, 0, 20⟩

/-- TWIN.HANDOVER_AT (R388). -/
def TWIN_HANDOVER_AT : Nat := 0x380030
def TWIN_HANDOVER_AT_TICK : Fld := ⟨TWIN_HANDOVER_AT, 0, 32⟩

/-- TWIN.JOIN (R388). -/
def TWIN_JOIN : Nat := 0x380034
def TWIN_JOIN_START : Fld := ⟨TWIN_JOIN, 0, 1⟩
def TWIN_JOIN_ABORT : Fld := ⟨TWIN_JOIN, 1, 1⟩

/-- TWIN.CNT[k] (R388). -/
def TWIN_CNT (k : Nat) : Nat := 0x380080 + 4 * k
def TWIN_CNT_COUNT (k : Nat) : Fld := ⟨TWIN_CNT k, 0, 32⟩

/-- TWIN.PROOF[i].CFG (R388). -/
def TWIN_PROOF_CFG (i : Nat) : Nat := 0x380100 + 0x20 * i
def TWIN_PROOF_CFG_GANG (i : Nat) : Fld := ⟨TWIN_PROOF_CFG i, 0, 5⟩
def TWIN_PROOF_CFG_EN (i : Nat) : Fld := ⟨TWIN_PROOF_CFG i, 7, 1⟩

/-- TWIN.PROOF[i].BLOCKS (R388). -/
def TWIN_PROOF_BLOCKS (i : Nat) : Nat := 0x380104 + 0x20 * i
def TWIN_PROOF_BLOCKS_COUNT (i : Nat) : Fld := ⟨TWIN_PROOF_BLOCKS i, 0, 32⟩

/-- TWIN.PROOF[i].MISMATCH (R388). -/
def TWIN_PROOF_MISMATCH (i : Nat) : Nat := 0x380108 + 0x20 * i
def TWIN_PROOF_MISMATCH_COUNT (i : Nat) : Fld := ⟨TWIN_PROOF_MISMATCH i, 0, 32⟩

/-- TWIN.PROOF[i].LOOP_ERR (R388). -/
def TWIN_PROOF_LOOP_ERR (i : Nat) : Nat := 0x380110 + 0x20 * i
def TWIN_PROOF_LOOP_ERR_COUNT (i : Nat) : Fld := ⟨TWIN_PROOF_LOOP_ERR i, 0, 32⟩

/-- TWIN.PROOF[i].LINK_MISS (R388). -/
def TWIN_PROOF_LINK_MISS (i : Nat) : Nat := 0x380114 + 0x20 * i
def TWIN_PROOF_LINK_MISS_COUNT (i : Nat) : Fld := ⟨TWIN_PROOF_LINK_MISS i, 0, 32⟩

/-- TWIN.PROOF[i].LAST_TICK (R388). -/
def TWIN_PROOF_LAST_TICK (i : Nat) : Nat := 0x38010c + 0x20 * i
def TWIN_PROOF_LAST_TICK_TICK (i : Nat) : Fld := ⟨TWIN_PROOF_LAST_TICK i, 0, 32⟩

/-- LAM.CMD (R405). -/
def LAM_CMD : Nat := 0x3c0000
def LAM_CMD_OP : Fld := ⟨LAM_CMD, 0, 4⟩

/-- LAM.GCMD (R405). -/
def LAM_GCMD : Nat := 0x3c0004
def LAM_GCMD_ROLLBACK : Fld := ⟨LAM_GCMD, 0, 1⟩
def LAM_GCMD_ERASE : Fld := ⟨LAM_GCMD, 1, 1⟩
def LAM_GCMD_SLOT : Fld := ⟨LAM_GCMD, 2, 1⟩

/-- LAM.STATUS (R405). -/
def LAM_STATUS : Nat := 0x3c0008
def LAM_STATUS_STATE : Fld := ⟨LAM_STATUS, 0, 3⟩
def LAM_STATUS_BUSY : Fld := ⟨LAM_STATUS, 3, 1⟩
def LAM_STATUS_PREV_VALID : Fld := ⟨LAM_STATUS, 4, 1⟩
def LAM_STATUS_BY_ROLLBACK : Fld := ⟨LAM_STATUS, 5, 1⟩
def LAM_STATUS_FLASH_BUSY : Fld := ⟨LAM_STATUS, 6, 1⟩

/-- LAM.EVENTS (R405). -/
def LAM_EVENTS : Nat := 0x3c000c
def LAM_EVENTS_VERIFY_OK : Fld := ⟨LAM_EVENTS, 0, 1⟩
def LAM_EVENTS_VERIFY_FAIL : Fld := ⟨LAM_EVENTS, 1, 1⟩
def LAM_EVENTS_SWITCHED : Fld := ⟨LAM_EVENTS, 2, 1⟩
def LAM_EVENTS_CONFIRMED : Fld := ⟨LAM_EVENTS, 3, 1⟩
def LAM_EVENTS_ROLLED_BACK : Fld := ⟨LAM_EVENTS, 4, 1⟩
def LAM_EVENTS_AUTO_ROLLBACK : Fld := ⟨LAM_EVENTS, 5, 1⟩
def LAM_EVENTS_ROLLBACK_FAIL : Fld := ⟨LAM_EVENTS, 6, 1⟩
def LAM_EVENTS_LATE_EV : Fld := ⟨LAM_EVENTS, 7, 1⟩
def LAM_EVENTS_CMD_DENIED : Fld := ⟨LAM_EVENTS, 8, 1⟩
def LAM_EVENTS_CONFIRM_LAPSED : Fld := ⟨LAM_EVENTS, 9, 1⟩
def LAM_EVENTS_SAVE_DONE : Fld := ⟨LAM_EVENTS, 10, 1⟩
def LAM_EVENTS_SAVE_FAIL : Fld := ⟨LAM_EVENTS, 11, 1⟩

/-- LAM.INT_EN (R405). -/
def LAM_INT_EN : Nat := 0x3c0010
def LAM_INT_EN_EN : Fld := ⟨LAM_INT_EN, 0, 12⟩

/-- LAM.STAGE_ADDR (R405). -/
def LAM_STAGE_ADDR : Nat := 0x3c0014
def LAM_STAGE_ADDR_ADDR : Fld := ⟨LAM_STAGE_ADDR, 0, 26⟩

/-- LAM.CUR_ADDR (R405). -/
def LAM_CUR_ADDR : Nat := 0x3c0018
def LAM_CUR_ADDR_ADDR : Fld := ⟨LAM_CUR_ADDR, 0, 26⟩

/-- LAM.PREV_ADDR (R405). -/
def LAM_PREV_ADDR : Nat := 0x3c001c
def LAM_PREV_ADDR_ADDR : Fld := ⟨LAM_PREV_ADDR, 0, 26⟩

/-- LAM.CTL (R405). -/
def LAM_CTL : Nat := 0x3c0020
def LAM_CTL_TIMED : Fld := ⟨LAM_CTL, 0, 1⟩

/-- LAM.SWITCH_AT (R405). -/
def LAM_SWITCH_AT : Nat := 0x3c0024
def LAM_SWITCH_AT_TICK : Fld := ⟨LAM_SWITCH_AT, 0, 32⟩

/-- LAM.WINDOW (R405). -/
def LAM_WINDOW : Nat := 0x3c0028
def LAM_WINDOW_S : Fld := ⟨LAM_WINDOW, 0, 16⟩

/-- LAM.REMAIN (R405). -/
def LAM_REMAIN : Nat := 0x3c002c
def LAM_REMAIN_MS : Fld := ⟨LAM_REMAIN, 0, 26⟩

/-- LAM.VER_CUR (R405). -/
def LAM_VER_CUR : Nat := 0x3c0030
def LAM_VER_CUR_VERSION : Fld := ⟨LAM_VER_CUR, 0, 32⟩

/-- LAM.VER_PREV (R405). -/
def LAM_VER_PREV : Nat := 0x3c0034
def LAM_VER_PREV_VERSION : Fld := ⟨LAM_VER_PREV, 0, 32⟩

/-- LAM.VER_STAGED (R405). -/
def LAM_VER_STAGED : Nat := 0x3c0038
def LAM_VER_STAGED_VERSION : Fld := ⟨LAM_VER_STAGED, 0, 32⟩

/-- LAM.VER_REJECTED (R405). -/
def LAM_VER_REJECTED : Nat := 0x3c003c
def LAM_VER_REJECTED_VERSION : Fld := ⟨LAM_VER_REJECTED, 0, 32⟩

/-- LAM.RESULT (R405). -/
def LAM_RESULT : Nat := 0x3c0040
def LAM_RESULT_CODE : Fld := ⟨LAM_RESULT, 0, 8⟩
def LAM_RESULT_SECTION : Fld := ⟨LAM_RESULT, 8, 8⟩
def LAM_RESULT_RECORD : Fld := ⟨LAM_RESULT, 16, 16⟩

/-- LAM.RESULT_OTHER (R405). -/
def LAM_RESULT_OTHER : Nat := 0x3c0044
def LAM_RESULT_OTHER_CODE : Fld := ⟨LAM_RESULT_OTHER, 0, 8⟩
def LAM_RESULT_OTHER_SECTION : Fld := ⟨LAM_RESULT_OTHER, 8, 8⟩
def LAM_RESULT_OTHER_RECORD : Fld := ⟨LAM_RESULT_OTHER, 16, 16⟩

/-- LAM.FLASH (R405). -/
def LAM_FLASH : Nat := 0x3c0048
def LAM_FLASH_SLOT : Fld := ⟨LAM_FLASH, 0, 1⟩

/-- LAM.SLOT_VER[s] (R405). -/
def LAM_SLOT_VER (s : Nat) : Nat := 0x3c0050 + 4 * s
def LAM_SLOT_VER_VERSION (s : Nat) : Fld := ⟨LAM_SLOT_VER s, 0, 32⟩

/-- LAM.CNT[k] (R405). -/
def LAM_CNT (k : Nat) : Nat := 0x3c0060 + 4 * k
def LAM_CNT_COUNT (k : Nat) : Fld := ⟨LAM_CNT k, 0, 32⟩

/-- SYS.ID (R428). -/
def SYS_ID : Nat := 0x0
def SYS_ID_PART : Fld := ⟨SYS_ID, 0, 16⟩
def SYS_ID_STEP : Fld := ⟨SYS_ID, 16, 8⟩

/-- SYS.STRAPS (R428). -/
def SYS_STRAPS : Nat := 0x4
def SYS_STRAPS_ROLE : Fld := ⟨SYS_STRAPS, 0, 1⟩
def SYS_STRAPS_BOOT : Fld := ⟨SYS_STRAPS, 1, 1⟩
def SYS_STRAPS_HQ_MODE : Fld := ⟨SYS_STRAPS, 2, 1⟩
def SYS_STRAPS_XTAL_BYPASS : Fld := ⟨SYS_STRAPS, 3, 1⟩

/-- SYS.HQ_CFG (R428). -/
def SYS_HQ_CFG : Nat := 0x8
def SYS_HQ_CFG_DUMMY : Fld := ⟨SYS_HQ_CFG, 0, 6⟩
def SYS_HQ_CFG_CMD4 : Fld := ⟨SYS_HQ_CFG, 8, 1⟩

/-- SYS.HQ_STAT (R428). -/
def SYS_HQ_STAT : Nat := 0xc
def SYS_HQ_STAT_PARTIAL : Fld := ⟨SYS_HQ_STAT, 0, 1⟩
def SYS_HQ_STAT_BAD_CMD : Fld := ⟨SYS_HQ_STAT, 1, 1⟩
def SYS_HQ_STAT_RD_TIMEOUT : Fld := ⟨SYS_HQ_STAT, 2, 1⟩
def SYS_HQ_STAT_RD_ABORT : Fld := ⟨SYS_HQ_STAT, 3, 1⟩
def SYS_HQ_STAT_RD_ECC : Fld := ⟨SYS_HQ_STAT, 4, 1⟩
def SYS_HQ_STAT_WOVF : Fld := ⟨SYS_HQ_STAT, 5, 1⟩
def SYS_HQ_STAT_UNMAPPED : Fld := ⟨SYS_HQ_STAT, 6, 1⟩
def SYS_HQ_STAT_GUARD_EV : Fld := ⟨SYS_HQ_STAT, 7, 1⟩
def SYS_HQ_STAT_WBUF : Fld := ⟨SYS_HQ_STAT, 8, 6⟩

/-- SYS.HQ_LASTRD (R428). -/
def SYS_HQ_LASTRD : Nat := 0x10
def SYS_HQ_LASTRD_DATA : Fld := ⟨SYS_HQ_LASTRD, 0, 32⟩

/-- SYS.BAD_ADDR (R428). -/
def SYS_BAD_ADDR : Nat := 0x14
def SYS_BAD_ADDR_ADDR : Fld := ⟨SYS_BAD_ADDR, 0, 24⟩

/-- SYS.UNLOCK (R428). -/
def SYS_UNLOCK : Nat := 0x20
def SYS_UNLOCK_KEY : Fld := ⟨SYS_UNLOCK, 0, 32⟩

/-- SYS.GUARD (R428). -/
def SYS_GUARD : Nat := 0x24
def SYS_GUARD_ARMED : Fld := ⟨SYS_GUARD, 0, 1⟩
def SYS_GUARD_BAD_KEY : Fld := ⟨SYS_GUARD, 8, 8⟩
def SYS_GUARD_DENIED : Fld := ⟨SYS_GUARD, 16, 16⟩

/-- SYS.IND_ADDR (R428). -/
def SYS_IND_ADDR : Nat := 0x30
def SYS_IND_ADDR_OFFSET : Fld := ⟨SYS_IND_ADDR, 0, 16⟩
def SYS_IND_ADDR_SPACE : Fld := ⟨SYS_IND_ADDR, 16, 3⟩

/-- SYS.IND_DATA (R428). -/
def SYS_IND_DATA : Nat := 0x34
def SYS_IND_DATA_DATA : Fld := ⟨SYS_IND_DATA, 0, 32⟩

/-- SYS.IND_CTL (R428). -/
def SYS_IND_CTL : Nat := 0x38
def SYS_IND_CTL_BUSY : Fld := ⟨SYS_IND_CTL, 0, 1⟩
def SYS_IND_CTL_AUTOINC : Fld := ⟨SYS_IND_CTL, 1, 1⟩
def SYS_IND_CTL_ERR : Fld := ⟨SYS_IND_CTL, 2, 1⟩

/-- SYS.MBX_REQ (R428). -/
def SYS_MBX_REQ : Nat := 0x40
def SYS_MBX_REQ_ADDR : Fld := ⟨SYS_MBX_REQ, 0, 24⟩
def SYS_MBX_REQ_SEL : Fld := ⟨SYS_MBX_REQ, 24, 4⟩
def SYS_MBX_REQ_WRITE : Fld := ⟨SYS_MBX_REQ, 28, 1⟩
def SYS_MBX_REQ_OVERRIDE : Fld := ⟨SYS_MBX_REQ, 29, 1⟩

/-- SYS.MBX_STAT (R428). -/
def SYS_MBX_STAT : Nat := 0x44
def SYS_MBX_STAT_BUSY : Fld := ⟨SYS_MBX_STAT, 0, 1⟩
def SYS_MBX_STAT_VALID : Fld := ⟨SYS_MBX_STAT, 1, 1⟩
def SYS_MBX_STAT_ERR : Fld := ⟨SYS_MBX_STAT, 2, 1⟩
def SYS_MBX_STAT_COLLIDE : Fld := ⟨SYS_MBX_STAT, 3, 1⟩

/-- SYS.MBX_D[i] (R428). -/
def SYS_MBX_D (i : Nat) : Nat := 0x48 + 4 * i
def SYS_MBX_D_DATA (i : Nat) : Fld := ⟨SYS_MBX_D i, 0, 32⟩

/-- SYS.WIN_BANK (R428). -/
def SYS_WIN_BANK : Nat := 0x60
def SYS_WIN_BANK_BANK : Fld := ⟨SYS_WIN_BANK, 0, 3⟩

/-- SYS.INT_STAT (R428). -/
def SYS_INT_STAT : Nat := 0x80
def SYS_INT_STAT_SYS : Fld := ⟨SYS_INT_STAT, 0, 1⟩
def SYS_INT_STAT_TIME : Fld := ⟨SYS_INT_STAT, 1, 1⟩
def SYS_INT_STAT_TEU : Fld := ⟨SYS_INT_STAT, 2, 1⟩
def SYS_INT_STAT_PLL : Fld := ⟨SYS_INT_STAT, 3, 1⟩
def SYS_INT_STAT_MAC : Fld := ⟨SYS_INT_STAT, 4, 4⟩
def SYS_INT_STAT_FLOW : Fld := ⟨SYS_INT_STAT, 8, 1⟩
def SYS_INT_STAT_QM : Fld := ⟨SYS_INT_STAT, 9, 1⟩
def SYS_INT_STAT_ROUTE : Fld := ⟨SYS_INT_STAT, 10, 1⟩
def SYS_INT_STAT_MMU : Fld := ⟨SYS_INT_STAT, 11, 1⟩
def SYS_INT_STAT_CORE : Fld := ⟨SYS_INT_STAT, 12, 1⟩
def SYS_INT_STAT_PORT : Fld := ⟨SYS_INT_STAT, 13, 1⟩
def SYS_INT_STAT_MOD : Fld := ⟨SYS_INT_STAT, 14, 1⟩
def SYS_INT_STAT_BST : Fld := ⟨SYS_INT_STAT, 15, 1⟩
def SYS_INT_STAT_TWIN : Fld := ⟨SYS_INT_STAT, 16, 1⟩
def SYS_INT_STAT_LAM : Fld := ⟨SYS_INT_STAT, 17, 1⟩

/-- SYS.INT_EN (R428). -/
def SYS_INT_EN : Nat := 0x84
def SYS_INT_EN_EN : Fld := ⟨SYS_INT_EN, 0, 18⟩

/-- SYS.TEU_PEND (R428). -/
def SYS_TEU_PEND : Nat := 0x88
def SYS_TEU_PEND_PEND : Fld := ⟨SYS_TEU_PEND, 0, 16⟩

/-- SYS.CORE_PEND (R428). -/
def SYS_CORE_PEND : Nat := 0x8c
def SYS_CORE_PEND_PEND : Fld := ⟨SYS_CORE_PEND, 0, 16⟩

/-- SYS.PLL_INT_EN (R428). -/
def SYS_PLL_INT_EN : Nat := 0x90
def SYS_PLL_INT_EN_SYSPLL : Fld := ⟨SYS_PLL_INT_EN, 0, 4⟩
def SYS_PLL_INT_EN_MEDPLL : Fld := ⟨SYS_PLL_INT_EN, 16, 10⟩

/-- PAD[i] (R453). -/
def PAD (i : Nat) : Nat := 0x20000300 + 4 * i
def PAD_DRIVE (i : Nat) : Fld := ⟨PAD i, 0, 2⟩
def PAD_SLEW (i : Nat) : Fld := ⟨PAD i, 2, 2⟩
def PAD_DENIED (i : Nat) : Fld := ⟨PAD i, 31, 1⟩

end F

end Sys2Proof.Machine
end

