-- ==== Sys2Proof/Machine/RegTable.lean ====
section
/-! DEFINITION. The register tables as data: for every register its address, its array dimensions, and each
field's bits, type code (R420) and reset value (R9). Bits that no entry names are reserved (R8). -/

namespace Sys2Proof.Machine

/-- The type codes of R420. MB registers are reached only through the mailbox and have no entry. -/
inductive RegTy where
  | rw | ro | rc | w1c | wo | kw
  deriving DecidableEq, Repr

/-- One field of a register: lowest bit, width, type code and reset value. -/
structure FieldD where
  lo    : Nat
  width : Nat
  ty    : RegTy
  reset : Nat
  deriving DecidableEq, Repr

/-- One register or array of registers: base address, (stride, count) of each index, fields. -/
structure RegD where
  base   : Nat
  dims   : List (Nat × Nat)
  fields : List FieldD
  deriving DecidableEq, Repr

/-- Does the offset `o` from a register's base fall on an element of the array with these dimensions? -/
def dimsHit : List (Nat × Nat) → Nat → Bool
  | [], o => o == 0
  | (stride, count) :: ds, o => decide (o / stride < count) && dimsHit ds (o % stride)

/-- Does the description cover the register at address `a`? -/
def RegD.covers (d : RegD) (a : Nat) : Bool := decide (d.base ≤ a) && dimsHit d.dims (a - d.base)

/-- The registers of SYS. -/
def sysRegs : List RegD := [
  ⟨0x0, [], [⟨0, 16, .ro, 25650⟩, ⟨16, 8, .ro, 0⟩]⟩, -- SYS.ID
  ⟨0x4, [], [⟨0, 1, .ro, 0⟩, ⟨1, 1, .ro, 0⟩, ⟨2, 1, .ro, 0⟩, ⟨3, 1, .ro, 0⟩]⟩, -- SYS.STRAPS
  ⟨0x8, [], [⟨0, 6, .rw, 24⟩, ⟨8, 1, .rw, 0⟩]⟩, -- SYS.HQ_CFG
  ⟨0xc, [], [⟨0, 1, .w1c, 0⟩, ⟨1, 1, .w1c, 0⟩, ⟨2, 1, .w1c, 0⟩, ⟨3, 1, .w1c, 0⟩, ⟨4, 1, .w1c, 0⟩, ⟨5, 1, .w1c, 0⟩, ⟨6, 1, .w1c, 0⟩, ⟨7, 1, .w1c, 0⟩, ⟨8, 6, .ro, 0⟩]⟩, -- SYS.HQ_STAT
  ⟨0x10, [], [⟨0, 32, .ro, 0⟩]⟩, -- SYS.HQ_LASTRD
  ⟨0x14, [], [⟨0, 24, .ro, 0⟩]⟩, -- SYS.BAD_ADDR
  ⟨0x20, [], [⟨0, 32, .wo, 0⟩]⟩, -- SYS.UNLOCK
  ⟨0x24, [], [⟨0, 1, .ro, 0⟩, ⟨8, 8, .rc, 0⟩, ⟨16, 16, .rc, 0⟩]⟩, -- SYS.GUARD
  ⟨0x30, [], [⟨0, 16, .rw, 0⟩, ⟨16, 3, .rw, 0⟩]⟩, -- SYS.IND_ADDR
  ⟨0x34, [], [⟨0, 32, .rw, 0⟩]⟩, -- SYS.IND_DATA
  ⟨0x38, [], [⟨0, 1, .ro, 0⟩, ⟨1, 1, .rw, 1⟩, ⟨2, 1, .w1c, 0⟩]⟩, -- SYS.IND_CTL
  ⟨0x40, [], [⟨0, 24, .rw, 0⟩, ⟨24, 4, .rw, 0⟩, ⟨28, 1, .rw, 0⟩, ⟨29, 1, .rw, 0⟩]⟩, -- SYS.MBX_REQ
  ⟨0x44, [], [⟨0, 1, .ro, 0⟩, ⟨1, 1, .ro, 0⟩, ⟨2, 1, .w1c, 0⟩, ⟨3, 1, .w1c, 0⟩]⟩, -- SYS.MBX_STAT
  ⟨0x48, [(0x4, 4)], [⟨0, 32, .rw, 0⟩]⟩, -- SYS.MBX_D[i]
  ⟨0x60, [], [⟨0, 3, .rw, 0⟩]⟩, -- SYS.WIN_BANK
  ⟨0x80, [], [⟨0, 1, .ro, 0⟩, ⟨1, 1, .ro, 0⟩, ⟨2, 1, .ro, 0⟩, ⟨3, 1, .ro, 0⟩, ⟨4, 4, .ro, 0⟩, ⟨8, 1, .ro, 0⟩, ⟨9, 1, .ro, 0⟩, ⟨10, 1, .ro, 0⟩, ⟨11, 1, .ro, 0⟩, ⟨12, 1, .ro, 0⟩, ⟨13, 1, .ro, 0⟩, ⟨14, 1, .ro, 0⟩, ⟨15, 1, .ro, 0⟩, ⟨16, 1, .ro, 0⟩, ⟨17, 1, .ro, 0⟩]⟩, -- SYS.INT_STAT
  ⟨0x84, [], [⟨0, 18, .rw, 0⟩]⟩, -- SYS.INT_EN
  ⟨0x88, [], [⟨0, 16, .ro, 0⟩]⟩, -- SYS.TEU_PEND
  ⟨0x8c, [], [⟨0, 16, .ro, 0⟩]⟩, -- SYS.CORE_PEND
  ⟨0x90, [], [⟨0, 4, .rw, 0⟩, ⟨16, 10, .rw, 0⟩]⟩] -- SYS.PLL_INT_EN

/-- The registers of MAC[p], part 1. -/
def macRegs1 : List RegD := [
  ⟨0x100000, [(0x10000, 2)], [⟨0, 1, .rw, 0⟩, ⟨1, 1, .rw, 0⟩, ⟨2, 1, .rw, 1⟩, ⟨3, 1, .rw, 0⟩, ⟨4, 1, .rw, 0⟩, ⟨5, 1, .rw, 1⟩]⟩, -- MAC[0..1].CTL
  ⟨0x120000, [(0x10000, 2)], [⟨0, 1, .rw, 0⟩, ⟨1, 1, .rw, 1⟩, ⟨2, 1, .rw, 1⟩, ⟨3, 1, .rw, 0⟩, ⟨4, 1, .rw, 0⟩, ⟨5, 1, .rw, 1⟩]⟩, -- MAC[2..3].CTL
  ⟨0x100004, [(0x10000, 4)], [⟨0, 1, .ro, 0⟩, ⟨1, 1, .ro, 0⟩, ⟨2, 1, .ro, 0⟩, ⟨3, 1, .ro, 0⟩, ⟨4, 1, .ro, 0⟩, ⟨5, 1, .ro, 0⟩, ⟨6, 1, .ro, 0⟩, ⟨7, 1, .ro, 0⟩, ⟨8, 1, .ro, 0⟩, ⟨9, 1, .ro, 0⟩]⟩, -- MAC[p].STATUS
  ⟨0x100008, [(0x10000, 4)], [⟨0, 1, .w1c, 0⟩, ⟨1, 1, .w1c, 0⟩, ⟨2, 1, .w1c, 0⟩, ⟨3, 1, .w1c, 0⟩, ⟨4, 1, .w1c, 0⟩, ⟨5, 1, .w1c, 0⟩, ⟨6, 1, .w1c, 0⟩, ⟨7, 1, .w1c, 0⟩, ⟨8, 1, .w1c, 0⟩, ⟨9, 1, .w1c, 0⟩]⟩, -- MAC[p].EVENTS
  ⟨0x10000c, [(0x10000, 4)], [⟨0, 10, .rw, 0⟩]⟩, -- MAC[p].INT_EN
  ⟨0x100010, [(0x10000, 4)], [⟨0, 14, .rw, 1522⟩]⟩, -- MAC[p].MAX_LEN
  ⟨0x100014, [(0x10000, 4)], [⟨0, 16, .rw, 32⟩, ⟨16, 16, .ro, 0⟩]⟩, -- MAC[p].AN
  ⟨0x100018, [(0x10000, 4)], [⟨0, 32, .rw, 20000⟩]⟩, -- MAC[p].LATE_LIMIT
  ⟨0x10001c, [(0x10000, 4)], [⟨0, 1, .rw, 0⟩]⟩, -- MAC[p].EEE
  ⟨0x100020, [(0x10000, 4)], [⟨0, 16, .rw, 16500⟩]⟩, -- MAC[p].EEE_TW
  ⟨0x100024, [(0x10000, 4)], [⟨0, 16, .ro, 0⟩, ⟨16, 16, .ro, 0⟩]⟩, -- MAC[p].POOL
  ⟨0x100100, [(0x10000, 4), (0x8, 32)], [⟨0, 32, .rw, 0⟩]⟩, -- MAC[p].FILT[i].LO
  ⟨0x100104, [(0x10000, 4), (0x8, 32)], [⟨0, 16, .rw, 0⟩, ⟨31, 1, .rw, 0⟩]⟩, -- MAC[p].FILT[i].HI
  ⟨0x100200, [(0x10000, 4), (0x10, 2)], [⟨0, 26, .rw, 0⟩, ⟨28, 4, .rw, 4⟩]⟩, -- MAC[p].RXR[r].CFG
  ⟨0x100300, [(0x10000, 4), (0x10, 8)], [⟨0, 26, .rw, 0⟩, ⟨28, 4, .rw, 4⟩]⟩, -- MAC[p].TXR[c].CFG
  ⟨0x100204, [(0x10000, 4), (0x10, 2)], [⟨0, 12, .ro, 0⟩, ⟨16, 12, .rw, 0⟩]⟩, -- MAC[p].RXR[r].PTR
  ⟨0x100304, [(0x10000, 4), (0x10, 8)], [⟨0, 12, .ro, 0⟩, ⟨16, 12, .rw, 0⟩]⟩, -- MAC[p].TXR[c].PTR
  ⟨0x100400, [(0x10000, 4)], [⟨0, 1, .rw, 0⟩, ⟨1, 1, .wo, 0⟩, ⟨2, 7, .rw, 1⟩]⟩, -- MAC[p].GCL.CTL
  ⟨0x100404, [(0x10000, 4)], [⟨0, 30, .rw, 125000⟩]⟩, -- MAC[p].GCL.CYCLE
  ⟨0x100408, [(0x10000, 4)], [⟨0, 1, .ro, 0⟩, ⟨1, 6, .ro, 0⟩]⟩, -- MAC[p].GCL.STATUS
  ⟨0x100800, [(0x10000, 4), (0x8, 64)], [⟨0, 8, .rw, 255⟩]⟩] -- MAC[p].GCL.ENTRY[i].MASK

/-- The registers of MAC[p], part 2. -/
def macRegs2 : List RegD := [
  ⟨0x100804, [(0x10000, 4), (0x8, 64)], [⟨0, 32, .rw, 0⟩]⟩, -- MAC[p].GCL.ENTRY[i].INTERVAL
  ⟨0x100c00, [(0x10000, 4), (0x4, 23)], [⟨0, 32, .rc, 0⟩]⟩] -- MAC[p].CNT[k]

/-- The registers of MAC[p]. -/
def macRegs : List RegD := macRegs1 ++ macRegs2

/-- The registers of FLOW, part 1. -/
def flowRegs1 : List RegD := [
  ⟨0x180000, [(0x80, 128)], [⟨0, 1, .rw, 0⟩, ⟨1, 3, .rw, 0⟩, ⟨4, 2, .rw, 0⟩, ⟨6, 7, .rw, 1⟩, ⟨13, 4, .rw, 0⟩, ⟨17, 2, .rw, 0⟩, ⟨19, 1, .rw, 0⟩, ⟨20, 1, .rw, 0⟩, ⟨21, 3, .rw, 0⟩, ⟨24, 1, .rw, 0⟩]⟩, -- RXF[f].CTL
  ⟨0x180004, [(0x80, 128)], [⟨0, 32, .rw, 0⟩]⟩, -- RXF[f].KEY_A0
  ⟨0x180008, [(0x80, 128)], [⟨0, 16, .rw, 0⟩, ⟨16, 12, .rw, 0⟩, ⟨28, 4, .rw, 0⟩]⟩, -- RXF[f].KEY_A1
  ⟨0x18000c, [(0x80, 128)], [⟨0, 32, .rw, 0⟩]⟩, -- RXF[f].KEY_B0
  ⟨0x180010, [(0x80, 128)], [⟨0, 16, .rw, 0⟩, ⟨16, 12, .rw, 0⟩, ⟨28, 4, .rw, 0⟩]⟩, -- RXF[f].KEY_B1
  ⟨0x180014, [(0x80, 128)], [⟨0, 7, .rw, 97⟩]⟩, -- RXF[f].RTP
  ⟨0x180018, [(0x80, 128)], [⟨0, 32, .rw, 0⟩]⟩, -- RXF[f].SSRC
  ⟨0x18001c, [(0x80, 128)], [⟨0, 13, .rw, 6⟩]⟩, -- RXF[f].LINK_OFFSET
  ⟨0x180020, [(0x80, 128)], [⟨0, 26, .rw, 0⟩]⟩, -- RXF[f].RING_BASE
  ⟨0x180024, [(0x80, 128)], [⟨0, 12, .rw, 0⟩]⟩, -- RXF[f].QBASE
  ⟨0x180028, [(0x80, 128)], [⟨0, 8, .rw, 8⟩]⟩, -- RXF[f].TIMEOUT
  ⟨0x18002c, [(0x80, 128)], [⟨0, 2, .ro, 0⟩, ⟨2, 2, .ro, 0⟩, ⟨4, 2, .ro, 0⟩, ⟨6, 1, .ro, 0⟩, ⟨7, 1, .ro, 0⟩]⟩, -- RXF[f].STATUS
  ⟨0x180030, [(0x80, 128)], [⟨0, 1, .w1c, 0⟩, ⟨1, 1, .w1c, 0⟩, ⟨2, 1, .w1c, 0⟩, ⟨3, 1, .w1c, 0⟩, ⟨4, 1, .w1c, 0⟩, ⟨5, 1, .w1c, 0⟩, ⟨6, 1, .w1c, 0⟩, ⟨7, 1, .w1c, 0⟩]⟩, -- RXF[f].EVENTS
  ⟨0x180034, [(0x80, 128)], [⟨0, 32, .rw, 0⟩]⟩, -- RXF[f].RTP_OFFSET
  ⟨0x180040, [(0x80, 128), (0x4, 14)], [⟨0, 32, .rc, 0⟩]⟩, -- RXF[f].CNT[k]
  ⟨0x184000, [(0x80, 128)], [⟨0, 1, .rw, 0⟩, ⟨1, 3, .rw, 0⟩, ⟨4, 2, .rw, 0⟩, ⟨6, 2, .rw, 0⟩, ⟨8, 7, .rw, 1⟩, ⟨15, 2, .rw, 0⟩, ⟨17, 1, .rw, 0⟩, ⟨18, 1, .rw, 0⟩]⟩, -- TXF[f].CTL
  ⟨0x184004, [(0x80, 128)], [⟨0, 26, .rw, 0⟩]⟩, -- TXF[f].HDR_A
  ⟨0x184008, [(0x80, 128)], [⟨0, 26, .rw, 0⟩]⟩, -- TXF[f].HDR_B
  ⟨0x18400c, [(0x80, 128)], [⟨0, 6, .rw, 54⟩, ⟨8, 6, .rw, 54⟩]⟩, -- TXF[f].HDR_LEN
  ⟨0x184010, [(0x80, 128)], [⟨0, 12, .rw, 0⟩]⟩] -- TXF[f].QBASE

/-- The registers of FLOW, part 2. -/
def flowRegs2 : List RegD := [
  ⟨0x184014, [(0x80, 128)], [⟨0, 17, .rw, 2000⟩]⟩, -- TXF[f].LAUNCH_OFFSET
  ⟨0x184018, [(0x80, 128)], [⟨0, 32, .rw, 0⟩]⟩, -- TXF[f].RTP_OFFSET
  ⟨0x18401c, [(0x80, 128)], [⟨0, 32, .rw, 0⟩]⟩, -- TXF[f].PRES_OFFSET
  ⟨0x184020, [(0x80, 128)], [⟨0, 16, .rw, 0⟩]⟩, -- TXF[f].SEQ
  ⟨0x184024, [(0x80, 128)], [⟨0, 1, .ro, 0⟩]⟩, -- TXF[f].STATUS
  ⟨0x184028, [(0x80, 128)], [⟨0, 1, .w1c, 0⟩, ⟨1, 1, .w1c, 0⟩, ⟨2, 1, .w1c, 0⟩, ⟨3, 1, .w1c, 0⟩]⟩, -- TXF[f].EVENTS
  ⟨0x184040, [(0x80, 128), (0x4, 5)], [⟨0, 32, .rc, 0⟩]⟩, -- TXF[f].CNT[k]
  ⟨0x188000, [(0x20, 16)], [⟨0, 1, .ro, 0⟩, ⟨1, 1, .ro, 0⟩, ⟨2, 8, .ro, 0⟩]⟩, -- GRP[g].STATUS
  ⟨0x188004, [(0x20, 16)], [⟨0, 24, .ro, 0⟩]⟩, -- GRP[g].OFFSET_CYC
  ⟨0x188008, [(0x20, 16)], [⟨0, 32, .rc, 0⟩]⟩, -- GRP[g].GAP_TICKS
  ⟨0x18800c, [(0x20, 16)], [⟨0, 1, .w1c, 0⟩, ⟨1, 1, .w1c, 0⟩]⟩, -- GRP[g].EVENTS
  ⟨0x18c000, [], [⟨0, 11, .ro, 0⟩, ⟨11, 11, .ro, 0⟩, ⟨22, 1, .ro, 0⟩]⟩, -- FLOW.STATUS
  ⟨0x18c004, [], [⟨0, 8, .rw, 0⟩, ⟨8, 4, .rw, 0⟩, ⟨12, 2, .rw, 0⟩]⟩, -- FLOW.INT_EN
  ⟨0x18c010, [(0x4, 4)], [⟨0, 32, .ro, 0⟩]⟩, -- FLOW.RX_PEND[i]
  ⟨0x18c020, [(0x4, 4)], [⟨0, 32, .ro, 0⟩]⟩, -- FLOW.TX_PEND[i]
  ⟨0x18c030, [], [⟨0, 16, .ro, 0⟩]⟩] -- FLOW.GRP_PEND

/-- The registers of FLOW. -/
def flowRegs : List RegD := flowRegs1 ++ flowRegs2

/-- The registers of QM and ROUTE, part 1. -/
def qmRegs1 : List RegD := [
  ⟨0x200000, [(0x10, 4096)], [⟨0, 1, .ro, 0⟩, ⟨1, 2, .ro, 0⟩, ⟨3, 2, .ro, 0⟩, ⟨5, 1, .rw, 0⟩, ⟨16, 16, .ro, 0⟩]⟩, -- Q[n].CFG
  ⟨0x200004, [(0x10, 4096)], [⟨0, 16, .rw, 0⟩, ⟨16, 16, .rw, 65535⟩]⟩, -- Q[n].WM
  ⟨0x200008, [(0x10, 4096)], [⟨0, 16, .ro, 0⟩, ⟨16, 16, .ro, 0⟩]⟩, -- Q[n].STAT
  ⟨0x20000c, [(0x10, 4096)], [⟨0, 1, .w1c, 0⟩, ⟨1, 1, .w1c, 0⟩, ⟨2, 1, .w1c, 0⟩, ⟨3, 1, .w1c, 0⟩, ⟨4, 1, .ro, 0⟩, ⟨5, 1, .ro, 1⟩, ⟨6, 1, .ro, 0⟩, ⟨7, 1, .ro, 0⟩, ⟨8, 1, .wo, 0⟩, ⟨16, 16, .ro, 0⟩]⟩, -- Q[n].EV
  ⟨0x210000, [], [⟨0, 17, .ro, 4096⟩]⟩, -- QM.REGION
  ⟨0x210004, [], [⟨0, 17, .ro, 4096⟩]⟩, -- QM.FREE
  ⟨0x210008, [], [⟨0, 1, .w1c, 0⟩, ⟨1, 1, .w1c, 0⟩, ⟨2, 1, .w1c, 0⟩, ⟨3, 1, .w1c, 0⟩, ⟨4, 1, .w1c, 0⟩]⟩, -- QM.EVENTS
  ⟨0x21000c, [], [⟨0, 5, .rw, 0⟩, ⟨5, 1, .rw, 0⟩]⟩, -- QM.INT_EN
  ⟨0x210010, [], [⟨0, 12, .ro, 0⟩, ⟨12, 3, .ro, 0⟩, ⟨16, 16, .rc, 0⟩]⟩, -- QM.QERR
  ⟨0x210014, [], [⟨0, 12, .ro, 0⟩, ⟨16, 16, .rc, 0⟩]⟩, -- QM.OVF
  ⟨0x210018, [], [⟨0, 16, .rc, 0⟩, ⟨16, 16, .rc, 0⟩]⟩, -- QM.ECC
  ⟨0x21001c, [], [⟨0, 26, .ro, 0⟩, ⟨26, 2, .ro, 0⟩]⟩, -- QM.ECC_ADDR
  ⟨0x210020, [], [⟨0, 1, .ro, 0⟩, ⟨1, 13, .ro, 0⟩, ⟨14, 1, .ro, 0⟩]⟩, -- QM.RAKE
  ⟨0x210100, [(0x4, 128)], [⟨0, 32, .ro, 0⟩]⟩, -- QM.PEND[i]
  ⟨0x210400, [], [⟨0, 1, .rw, 0⟩]⟩, -- ROUTE.CTL
  ⟨0x210404, [], [⟨0, 32, .rw, 0⟩]⟩, -- ROUTE.APPLY_AT
  ⟨0x210408, [], [⟨0, 1, .ro, 0⟩]⟩, -- ROUTE.STATUS
  ⟨0x21040c, [], [⟨0, 1, .w1c, 0⟩, ⟨1, 1, .w1c, 0⟩, ⟨2, 1, .w1c, 0⟩, ⟨3, 1, .w1c, 0⟩, ⟨4, 1, .w1c, 0⟩]⟩, -- ROUTE.EVENTS
  ⟨0x210410, [], [⟨0, 5, .rw, 0⟩]⟩, -- ROUTE.INT_EN
  ⟨0x210414, [], [⟨0, 15, .ro, 0⟩, ⟨16, 2, .ro, 0⟩]⟩] -- ROUTE.DENIED

/-- The registers of QM and ROUTE, part 2. -/
def qmRegs2 : List RegD := [
  ⟨0x210420, [(0x4, 4)], [⟨0, 32, .rc, 0⟩]⟩, -- ROUTE.CNT[k]
  ⟨0x218000, [(0x4, 24576)], [⟨0, 12, .rw, 0⟩, ⟨12, 1, .rw, 1⟩, ⟨14, 1, .ro, 0⟩, ⟨15, 1, .ro, 0⟩, ⟨16, 12, .ro, 0⟩, ⟨28, 1, .ro, 1⟩]⟩] -- ROUTE[e]

/-- The registers of QM and ROUTE. -/
def qmRegs : List RegD := qmRegs1 ++ qmRegs2

/-- The registers of MMU and DMA. -/
def mmuRegs : List RegD := [
  ⟨0x280000, [], [⟨0, 4, .rw, 0⟩, ⟨4, 2, .rw, 1⟩]⟩, -- MMU.STEWARD
  ⟨0x280004, [], [⟨0, 12, .rw, 0⟩, ⟨31, 1, .rw, 0⟩]⟩, -- MMU.FAULTQ
  ⟨0x280008, [], [⟨0, 1, .w1c, 0⟩, ⟨1, 1, .w1c, 0⟩, ⟨2, 1, .w1c, 0⟩, ⟨3, 1, .w1c, 0⟩, ⟨4, 1, .w1c, 0⟩, ⟨5, 1, .w1c, 0⟩]⟩, -- MMU.EVENTS
  ⟨0x28000c, [], [⟨0, 6, .rw, 0⟩, ⟨6, 1, .rw, 0⟩]⟩, -- MMU.INT_EN
  ⟨0x280010, [], [⟨0, 2, .rw, 0⟩, ⟨2, 8, .rw, 0⟩, ⟨10, 1, .wo, 0⟩, ⟨11, 1, .ro, 0⟩]⟩, -- MMU.INV
  ⟨0x280014, [], [⟨0, 32, .rw, 0⟩]⟩, -- MMU.INV_VA
  ⟨0x280018, [], [⟨0, 16, .rc, 0⟩, ⟨16, 16, .rc, 0⟩]⟩, -- MMU.FAULT_CNT
  ⟨0x280020, [], [⟨0, 4, .rw, 0⟩, ⟨4, 2, .rw, 0⟩, ⟨6, 1, .wo, 0⟩, ⟨7, 1, .wo, 0⟩]⟩, -- MMU.CRES
  ⟨0x280400, [(0x4, 256)], [⟨0, 1, .rw, 0⟩, ⟨18, 14, .rw, 0⟩]⟩, -- MMU.ROOT[a]
  ⟨0x281000, [(0x40, 32)], [⟨0, 8, .rw, 0⟩, ⟨8, 4, .rw, 0⟩, ⟨12, 2, .rw, 0⟩]⟩, -- DMA[ch].CTL
  ⟨0x281004, [(0x40, 32)], [⟨0, 32, .rw, 0⟩]⟩, -- DMA[ch].DESC
  ⟨0x281008, [(0x40, 32)], [⟨0, 1, .wo, 0⟩, ⟨1, 1, .wo, 0⟩, ⟨2, 1, .wo, 0⟩, ⟨3, 1, .wo, 0⟩]⟩, -- DMA[ch].CMD
  ⟨0x28100c, [(0x40, 32)], [⟨0, 3, .ro, 0⟩, ⟨4, 4, .ro, 0⟩, ⟨8, 2, .ro, 0⟩, ⟨10, 2, .ro, 0⟩, ⟨12, 1, .ro, 0⟩]⟩, -- DMA[ch].STATUS
  ⟨0x281010, [(0x40, 32)], [⟨0, 32, .ro, 0⟩]⟩, -- DMA[ch].FAULT_VA
  ⟨0x281014, [(0x40, 32)], [⟨0, 24, .ro, 0⟩]⟩, -- DMA[ch].DONE_BYTES
  ⟨0x281018, [(0x40, 32)], [⟨0, 32, .ro, 0⟩]⟩, -- DMA[ch].CUR
  ⟨0x28101c, [(0x40, 32)], [⟨0, 1, .w1c, 0⟩, ⟨1, 1, .w1c, 0⟩, ⟨2, 1, .w1c, 0⟩, ⟨3, 1, .w1c, 0⟩, ⟨4, 1, .w1c, 0⟩]⟩, -- DMA[ch].EVENTS
  ⟨0x281020, [(0x40, 32)], [⟨0, 5, .rw, 0⟩]⟩, -- DMA[ch].INT_EN
  ⟨0x281024, [(0x40, 32)], [⟨0, 32, .rc, 0⟩]⟩, -- DMA[ch].CNT
  ⟨0x282000, [], [⟨0, 32, .ro, 0⟩]⟩] -- DMA.PEND

/-- The registers of CORE[c]. -/
def coreRegs : List RegD := [
  ⟨0x300000, [(0x1000, 16)], [⟨0, 4, .ro, 0⟩, ⟨4, 4, .ro, 0⟩]⟩, -- CORE[c].CFG
  ⟨0x300004, [(0x1000, 16)], [⟨0, 4, .rw, 0⟩, ⟨4, 4, .ro, 0⟩]⟩, -- CORE[c].HALT
  ⟨0x300008, [(0x1000, 16)], [⟨0, 4, .ro, 0⟩]⟩, -- CORE[c].PEND
  ⟨0x300100, [(0x1000, 16), (0x100, 4)], [⟨0, 26, .rw, 0⟩]⟩, -- X[x].DESC
  ⟨0x300104, [(0x1000, 16), (0x100, 4)], [⟨0, 1, .wo, 0⟩, ⟨1, 1, .wo, 0⟩]⟩, -- X[x].CMD
  ⟨0x300108, [(0x1000, 16), (0x100, 4)], [⟨0, 4, .ro, 0⟩, ⟨4, 1, .ro, 0⟩, ⟨8, 8, .ro, 0⟩, ⟨16, 3, .ro, 0⟩]⟩, -- X[x].STATE
  ⟨0x30010c, [(0x1000, 16), (0x100, 4)], [⟨0, 32, .ro, 0⟩]⟩, -- X[x].PC
  ⟨0x300110, [(0x1000, 16), (0x100, 4)], [⟨0, 1, .w1c, 0⟩, ⟨1, 1, .w1c, 0⟩, ⟨2, 1, .w1c, 0⟩, ⟨3, 1, .w1c, 0⟩, ⟨4, 1, .w1c, 0⟩, ⟨5, 1, .w1c, 0⟩, ⟨6, 1, .w1c, 0⟩, ⟨7, 1, .w1c, 0⟩]⟩, -- X[x].EVENTS
  ⟨0x300114, [(0x1000, 16), (0x100, 4)], [⟨0, 8, .rw, 0⟩]⟩, -- X[x].INT_EN
  ⟨0x300118, [(0x1000, 16), (0x100, 4)], [⟨0, 16, .ro, 0⟩, ⟨16, 16, .rc, 0⟩]⟩, -- X[x].RUNTIME
  ⟨0x30011c, [(0x1000, 16), (0x100, 4)], [⟨0, 5, .rw, 0⟩, ⟨5, 3, .rw, 0⟩, ⟨8, 3, .rw, 0⟩]⟩, -- X[x].RSEL
  ⟨0x300120, [(0x1000, 16), (0x100, 4)], [⟨0, 32, .ro, 0⟩]⟩, -- X[x].RDATA
  ⟨0x300140, [(0x1000, 16), (0x100, 4), (0x4, 8)], [⟨0, 32, .rc, 0⟩]⟩, -- X[x].CNT[k]
  ⟨0x300160, [(0x1000, 16), (0x100, 4), (0x4, 4)], [⟨0, 32, .rw, 0⟩]⟩] -- X[x].PERF[k]

/-- The registers of TWIN, part 1. -/
def twinRegs1 : List RegD := [
  ⟨0x380000, [], [⟨0, 2, .ro, 0⟩, ⟨2, 1, .ro, 0⟩, ⟨3, 1, .ro, 0⟩, ⟨4, 1, .ro, 0⟩]⟩, -- TWIN.CFG
  ⟨0x380004, [], [⟨0, 3, .ro, 0⟩, ⟨3, 1, .ro, 0⟩, ⟨4, 1, .ro, 0⟩, ⟨5, 1, .ro, 0⟩, ⟨6, 1, .ro, 0⟩, ⟨7, 1, .ro, 0⟩, ⟨8, 1, .ro, 0⟩, ⟨9, 1, .ro, 0⟩, ⟨10, 1, .ro, 0⟩, ⟨11, 1, .ro, 0⟩, ⟨12, 3, .ro, 0⟩, ⟨15, 3, .ro, 0⟩, ⟨18, 1, .ro, 0⟩]⟩, -- TWIN.STATUS
  ⟨0x380008, [], [⟨0, 1, .w1c, 0⟩, ⟨1, 1, .w1c, 0⟩, ⟨2, 1, .w1c, 0⟩, ⟨3, 1, .w1c, 0⟩, ⟨4, 1, .w1c, 0⟩, ⟨5, 1, .w1c, 0⟩, ⟨6, 1, .w1c, 0⟩, ⟨7, 1, .w1c, 0⟩, ⟨8, 1, .w1c, 0⟩, ⟨9, 1, .w1c, 0⟩, ⟨10, 1, .w1c, 0⟩, ⟨11, 1, .w1c, 0⟩, ⟨12, 1, .w1c, 0⟩, ⟨13, 1, .w1c, 0⟩, ⟨14, 1, .w1c, 0⟩, ⟨15, 1, .w1c, 0⟩, ⟨16, 1, .w1c, 0⟩, ⟨17, 1, .w1c, 0⟩]⟩, -- TWIN.EVENTS
  ⟨0x38000c, [], [⟨0, 18, .rw, 0⟩]⟩, -- TWIN.INT_EN
  ⟨0x380010, [], [⟨0, 1, .kw, 0⟩, ⟨1, 1, .kw, 0⟩, ⟨2, 1, .kw, 0⟩]⟩, -- TWIN.FORCE
  ⟨0x380014, [], [⟨0, 8, .rw, 8⟩, ⟨8, 8, .rw, 32⟩]⟩, -- TWIN.HB
  ⟨0x380018, [], [⟨0, 32, .ro, 0⟩]⟩, -- TWIN.SHARE_SAP
  ⟨0x38001c, [], [⟨0, 8, .ro, 0⟩, ⟨8, 1, .ro, 0⟩]⟩, -- TWIN.SHARE_MISC
  ⟨0x380020, [], [⟨0, 16, .rw, 8192⟩]⟩, -- TWIN.CONVERGE
  ⟨0x380024, [], [⟨0, 32, .ro, 0⟩]⟩, -- TWIN.VERSION
  ⟨0x380028, [], [⟨0, 32, .ro, 0⟩]⟩, -- TWIN.TAKE_NS
  ⟨0x38002c, [], [⟨0, 20, .ro, 0⟩]⟩, -- TWIN.GAP
  ⟨0x380030, [], [⟨0, 32, .ro, 0⟩]⟩, -- TWIN.HANDOVER_AT
  ⟨0x380034, [], [⟨0, 1, .wo, 0⟩, ⟨1, 1, .wo, 0⟩]⟩, -- TWIN.JOIN
  ⟨0x380080, [(0x4, 8)], [⟨0, 32, .rc, 0⟩]⟩, -- TWIN.CNT[k]
  ⟨0x380100, [(0x20, 8)], [⟨0, 5, .rw, 0⟩, ⟨7, 1, .rw, 0⟩]⟩, -- TWIN.PROOF[i].CFG
  ⟨0x380104, [(0x20, 8)], [⟨0, 32, .rc, 0⟩]⟩, -- TWIN.PROOF[i].BLOCKS
  ⟨0x380108, [(0x20, 8)], [⟨0, 32, .rc, 0⟩]⟩, -- TWIN.PROOF[i].MISMATCH
  ⟨0x380110, [(0x20, 8)], [⟨0, 32, .rc, 0⟩]⟩, -- TWIN.PROOF[i].LOOP_ERR
  ⟨0x380114, [(0x20, 8)], [⟨0, 32, .rc, 0⟩]⟩] -- TWIN.PROOF[i].LINK_MISS

/-- The registers of TWIN, part 2. -/
def twinRegs2 : List RegD := [
  ⟨0x38010c, [(0x20, 8)], [⟨0, 32, .ro, 0⟩]⟩] -- TWIN.PROOF[i].LAST_TICK

/-- The registers of TWIN. -/
def twinRegs : List RegD := twinRegs1 ++ twinRegs2

/-- The registers of LAM, part 1. -/
def lamRegs1 : List RegD := [
  ⟨0x3c0000, [], [⟨0, 4, .wo, 0⟩]⟩, -- LAM.CMD
  ⟨0x3c0004, [], [⟨0, 1, .kw, 0⟩, ⟨1, 1, .kw, 0⟩, ⟨2, 1, .kw, 0⟩]⟩, -- LAM.GCMD
  ⟨0x3c0008, [], [⟨0, 3, .ro, 0⟩, ⟨3, 1, .ro, 0⟩, ⟨4, 1, .ro, 0⟩, ⟨5, 1, .ro, 0⟩, ⟨6, 1, .ro, 0⟩]⟩, -- LAM.STATUS
  ⟨0x3c000c, [], [⟨0, 1, .w1c, 0⟩, ⟨1, 1, .w1c, 0⟩, ⟨2, 1, .w1c, 0⟩, ⟨3, 1, .w1c, 0⟩, ⟨4, 1, .w1c, 0⟩, ⟨5, 1, .w1c, 0⟩, ⟨6, 1, .w1c, 0⟩, ⟨7, 1, .w1c, 0⟩, ⟨8, 1, .w1c, 0⟩, ⟨9, 1, .w1c, 0⟩, ⟨10, 1, .w1c, 0⟩, ⟨11, 1, .w1c, 0⟩]⟩, -- LAM.EVENTS
  ⟨0x3c0010, [], [⟨0, 12, .rw, 0⟩]⟩, -- LAM.INT_EN
  ⟨0x3c0014, [], [⟨0, 26, .rw, 0⟩]⟩, -- LAM.STAGE_ADDR
  ⟨0x3c0018, [], [⟨0, 26, .ro, 0⟩]⟩, -- LAM.CUR_ADDR
  ⟨0x3c001c, [], [⟨0, 26, .ro, 0⟩]⟩, -- LAM.PREV_ADDR
  ⟨0x3c0020, [], [⟨0, 1, .rw, 0⟩]⟩, -- LAM.CTL
  ⟨0x3c0024, [], [⟨0, 32, .rw, 0⟩]⟩, -- LAM.SWITCH_AT
  ⟨0x3c0028, [], [⟨0, 16, .rw, 30⟩]⟩, -- LAM.WINDOW
  ⟨0x3c002c, [], [⟨0, 26, .ro, 0⟩]⟩, -- LAM.REMAIN
  ⟨0x3c0030, [], [⟨0, 32, .ro, 0⟩]⟩, -- LAM.VER_CUR
  ⟨0x3c0034, [], [⟨0, 32, .ro, 0⟩]⟩, -- LAM.VER_PREV
  ⟨0x3c0038, [], [⟨0, 32, .ro, 0⟩]⟩, -- LAM.VER_STAGED
  ⟨0x3c003c, [], [⟨0, 32, .ro, 0⟩]⟩, -- LAM.VER_REJECTED
  ⟨0x3c0040, [], [⟨0, 8, .ro, 0⟩, ⟨8, 8, .ro, 0⟩, ⟨16, 16, .ro, 0⟩]⟩, -- LAM.RESULT
  ⟨0x3c0044, [], [⟨0, 8, .ro, 0⟩, ⟨8, 8, .ro, 0⟩, ⟨16, 16, .ro, 0⟩]⟩, -- LAM.RESULT_OTHER
  ⟨0x3c0048, [], [⟨0, 1, .rw, 0⟩]⟩, -- LAM.FLASH
  ⟨0x3c0050, [(0x4, 2)], [⟨0, 32, .ro, 0⟩]⟩] -- LAM.SLOT_VER[s]

/-- The registers of LAM, part 2. -/
def lamRegs2 : List RegD := [
  ⟨0x3c0060, [(0x4, 4)], [⟨0, 32, .rc, 0⟩]⟩] -- LAM.CNT[k]

/-- The registers of LAM. -/
def lamRegs : List RegD := lamRegs1 ++ lamRegs2

/-- The registers of space 0 (TIME, TEU), part 1. -/
def timeRegs1 : List RegD := [
  ⟨0x10000000, [], [⟨0, 1, .wo, 0⟩, ⟨1, 1, .wo, 0⟩]⟩, -- TIME.CTL
  ⟨0x10000004, [], [⟨0, 2, .ro, 0⟩, ⟨2, 1, .ro, 0⟩, ⟨3, 1, .ro, 0⟩, ⟨4, 1, .ro, 0⟩, ⟨5, 1, .ro, 0⟩, ⟨6, 1, .ro, 0⟩, ⟨7, 1, .ro, 0⟩, ⟨8, 1, .ro, 0⟩]⟩, -- TIME.STATUS
  ⟨0x10000008, [], [⟨0, 1, .w1c, 0⟩, ⟨1, 1, .w1c, 0⟩, ⟨2, 1, .w1c, 0⟩, ⟨3, 1, .w1c, 0⟩, ⟨4, 1, .w1c, 0⟩, ⟨5, 1, .w1c, 0⟩, ⟨6, 1, .w1c, 0⟩]⟩, -- TIME.EVENTS
  ⟨0x1000000c, [], [⟨0, 7, .rw, 0⟩]⟩, -- TIME.INT_EN
  ⟨0x10000010, [], [⟨0, 32, .ro, 0⟩]⟩, -- TIME.NOW_NS
  ⟨0x10000014, [], [⟨0, 32, .rw, 0⟩]⟩, -- TIME.RATE
  ⟨0x10000018, [], [⟨0, 32, .kw, 10000⟩]⟩, -- TIME.JUMP_LIMIT
  ⟨0x1000001c, [], [⟨0, 16, .rw, 2000⟩]⟩, -- TIME.SERVO_TIMEOUT
  ⟨0x10000020, [], [⟨0, 32, .rw, 0⟩]⟩, -- TIME.TICK_ANCHOR
  ⟨0x10000024, [], [⟨0, 17, .ro, 0⟩]⟩, -- TIME.TICK_PHASE
  ⟨0x10000028, [], [⟨0, 1, .kw, 0⟩]⟩, -- TIME.FREE
  ⟨0x1000002c, [], [⟨0, 1, .rw, 0⟩, ⟨1, 2, .rw, 0⟩, ⟨3, 1, .rw, 0⟩]⟩, -- TIME.WCLK_OUT
  ⟨0x10000100, [(0x10, 4)], [⟨0, 16, .rw, 0⟩]⟩, -- TIME.PORT[p].INGRESS_LAT
  ⟨0x10000104, [(0x10, 4)], [⟨0, 16, .rw, 0⟩]⟩, -- TIME.PORT[p].EGRESS_LAT
  ⟨0x10000108, [(0x10, 4)], [⟨0, 24, .rw, 0⟩]⟩, -- TIME.PORT[p].ASYM
  ⟨0x1000010c, [(0x10, 4)], [⟨0, 1, .rw, 0⟩, ⟨1, 1, .rw, 0⟩]⟩, -- TIME.PORT[p].PTP_CTL
  ⟨0x10000400, [(0x20, 16)], [⟨0, 1, .rw, 0⟩, ⟨1, 1, .rw, 0⟩, ⟨2, 1, .rw, 0⟩, ⟨3, 1, .rw, 0⟩, ⟨4, 1, .rw, 0⟩, ⟨5, 1, .rw, 0⟩, ⟨6, 3, .rw, 0⟩, ⟨9, 1, .rw, 0⟩]⟩, -- TEU[u].CTL
  ⟨0x10000404, [(0x20, 16)], [⟨0, 32, .rw, 0⟩]⟩, -- TEU[u].START_NS
  ⟨0x10000408, [(0x20, 16)], [⟨0, 32, .rw, 0⟩]⟩, -- TEU[u].PERIOD_NS
  ⟨0x1000040c, [(0x20, 16)], [⟨0, 8, .rw, 0⟩]⟩] -- TEU[u].PERIOD_FRAC

/-- The registers of space 0 (TIME, TEU), part 2. -/
def timeRegs2 : List RegD := [
  ⟨0x10000410, [(0x20, 16)], [⟨0, 24, .rw, 4⟩]⟩, -- TEU[u].WIDTH
  ⟨0x10000414, [(0x20, 16)], [⟨0, 2, .rw, 0⟩, ⟨2, 3, .rw, 0⟩]⟩, -- TEU[u].TARGET
  ⟨0x10000418, [(0x20, 16)], [⟨0, 1, .ro, 0⟩, ⟨1, 1, .ro, 0⟩, ⟨2, 1, .ro, 0⟩, ⟨3, 1, .ro, 0⟩, ⟨8, 8, .rc, 0⟩, ⟨16, 16, .ro, 0⟩]⟩, -- TEU[u].STATUS
  ⟨0x1000041c, [(0x20, 16)], [⟨0, 1, .w1c, 0⟩, ⟨1, 1, .w1c, 0⟩, ⟨2, 1, .w1c, 0⟩, ⟨3, 1, .w1c, 0⟩, ⟨4, 1, .w1c, 0⟩, ⟨5, 1, .w1c, 0⟩, ⟨6, 1, .w1c, 0⟩]⟩] -- TEU[u].EVENTS

/-- The registers of space 0 (TIME, TEU). -/
def timeRegs : List RegD := timeRegs1 ++ timeRegs2

/-- The registers of space 1 (PLL, PAD). -/
def pllRegs : List RegD := [
  ⟨0x20000000, [], [⟨0, 1, .ro, 0⟩, ⟨1, 1, .ro, 0⟩, ⟨2, 1, .ro, 0⟩, ⟨3, 1, .ro, 0⟩, ⟨4, 5, .ro, 0⟩, ⟨9, 1, .ro, 0⟩, ⟨10, 4, .ro, 0⟩]⟩, -- SYSPLL.STATUS
  ⟨0x20000004, [], [⟨0, 1, .w1c, 0⟩, ⟨1, 1, .w1c, 0⟩, ⟨2, 1, .w1c, 0⟩, ⟨3, 1, .w1c, 0⟩]⟩, -- SYSPLL.EVENTS
  ⟨0x20000008, [], [⟨0, 1, .rw, 0⟩, ⟨1, 1, .ro, 0⟩]⟩, -- SYSPLL.SPREAD
  ⟨0x20000040, [(0x8, 16)], [⟨0, 8, .kw, 0⟩, ⟨8, 8, .kw, 0⟩, ⟨16, 5, .kw, 0⟩, ⟨31, 1, .kw, 0⟩]⟩, -- SYSPLL.BANDTAB[i].A
  ⟨0x20000140, [(0x8, 16)], [⟨0, 8, .kw, 0⟩, ⟨8, 8, .kw, 0⟩, ⟨16, 5, .kw, 0⟩, ⟨31, 1, .kw, 0⟩]⟩, -- MEDPLL.BANDTAB[i].A
  ⟨0x20000044, [(0x8, 16)], [⟨0, 16, .kw, 0⟩, ⟨16, 16, .kw, 0⟩]⟩, -- SYSPLL.BANDTAB[i].B
  ⟨0x20000144, [(0x8, 16)], [⟨0, 16, .kw, 0⟩, ⟨16, 16, .kw, 0⟩]⟩, -- MEDPLL.BANDTAB[i].B
  ⟨0x20000100, [], [⟨0, 1, .rw, 0⟩, ⟨1, 2, .rw, 0⟩, ⟨3, 5, .rw, 0⟩, ⟨8, 2, .rw, 0⟩, ⟨10, 1, .rw, 0⟩, ⟨11, 1, .rw, 0⟩, ⟨12, 1, .rw, 0⟩, ⟨13, 5, .rw, 16⟩]⟩, -- MEDPLL.CTL
  ⟨0x20000104, [], [⟨0, 1, .ro, 0⟩, ⟨1, 1, .ro, 0⟩, ⟨2, 1, .ro, 0⟩, ⟨3, 1, .ro, 0⟩, ⟨4, 1, .ro, 0⟩, ⟨5, 1, .ro, 0⟩, ⟨6, 1, .ro, 0⟩, ⟨7, 1, .ro, 0⟩, ⟨8, 1, .ro, 0⟩, ⟨9, 1, .ro, 0⟩, ⟨10, 5, .ro, 16⟩, ⟨15, 1, .ro, 0⟩, ⟨16, 4, .ro, 0⟩, ⟨20, 2, .ro, 0⟩, ⟨22, 1, .ro, 0⟩]⟩, -- MEDPLL.STATUS
  ⟨0x20000108, [], [⟨0, 1, .w1c, 0⟩, ⟨1, 1, .w1c, 0⟩, ⟨2, 1, .w1c, 0⟩, ⟨3, 1, .w1c, 0⟩, ⟨4, 1, .w1c, 0⟩, ⟨5, 1, .w1c, 0⟩, ⟨6, 1, .w1c, 0⟩, ⟨7, 1, .w1c, 0⟩, ⟨8, 1, .w1c, 0⟩, ⟨9, 1, .w1c, 0⟩]⟩, -- MEDPLL.EVENTS
  ⟨0x2000010c, [], [⟨0, 24, .ro, 0⟩]⟩, -- MEDPLL.REF_MEAS
  ⟨0x20000110, [], [⟨0, 8, .rw, 20⟩]⟩, -- MEDPLL.SLEW
  ⟨0x20000114, [], [⟨0, 32, .ro, 0⟩]⟩, -- MEDPLL.RESIDUAL
  ⟨0x20000118, [], [⟨0, 1, .wo, 0⟩, ⟨1, 1, .wo, 0⟩]⟩, -- MEDPLL.REALIGN
  ⟨0x20000200, [], [⟨0, 8, .ro, 0⟩, ⟨8, 1, .ro, 0⟩]⟩, -- PLL.TEMP
  ⟨0x20000204, [], [⟨0, 1, .wo, 0⟩, ⟨1, 1, .ro, 0⟩, ⟨2, 5, .rw, 0⟩, ⟨7, 2, .rw, 0⟩]⟩, -- PLL.CAL
  ⟨0x20000208, [], [⟨0, 24, .ro, 0⟩]⟩, -- PLL.CAL_COUNT
  ⟨0x20000300, [(0x4, 48)], [⟨0, 2, .rw, 1⟩, ⟨2, 2, .rw, 0⟩, ⟨31, 1, .w1c, 0⟩]⟩] -- PAD[i]

/-- The registers of space 2 (PORT). -/
def portRegs : List RegD := [
  ⟨0x30000000, [(0x100, 32)], [⟨0, 1, .rw, 0⟩, ⟨1, 3, .rw, 0⟩, ⟨4, 1, .rw, 0⟩, ⟨5, 2, .rw, 0⟩, ⟨7, 1, .rw, 0⟩, ⟨8, 1, .rw, 0⟩, ⟨9, 1, .rw, 0⟩, ⟨10, 1, .rw, 0⟩]⟩, -- PORT[n].CTL
  ⟨0x30000004, [(0x100, 32)], [⟨0, 5, .rw, 1⟩, ⟨5, 2, .rw, 1⟩, ⟨7, 1, .rw, 0⟩, ⟨8, 1, .rw, 0⟩, ⟨9, 1, .rw, 0⟩, ⟨10, 3, .rw, 3⟩, ⟨13, 1, .rw, 0⟩]⟩, -- PORT[n].FMT
  ⟨0x30000008, [(0x100, 32)], [⟨0, 12, .rw, 0⟩, ⟨16, 12, .rw, 0⟩]⟩, -- PORT[n].QUEUES
  ⟨0x3000000c, [(0x100, 32)], [⟨0, 32, .rw, 3⟩]⟩, -- PORT[n].MASK_DA
  ⟨0x30000010, [(0x100, 32)], [⟨0, 32, .rw, 3⟩]⟩, -- PORT[n].MASK_DB
  ⟨0x30000014, [(0x100, 32)], [⟨0, 16, .ro, 0⟩]⟩, -- PORT[n].MASK_EPOCH
  ⟨0x30000018, [(0x100, 32)], [⟨0, 22, .ro, 0⟩, ⟨22, 3, .ro, 0⟩]⟩, -- PORT[n].RATE
  ⟨0x3000001c, [(0x100, 32)], [⟨0, 16, .ro, 0⟩, ⟨16, 11, .ro, 0⟩]⟩, -- PORT[n].DEV
  ⟨0x30000020, [(0x100, 32)], [⟨0, 12, .rw, 500⟩]⟩, -- PORT[n].RATE_TOL
  ⟨0x30000024, [(0x100, 32)], [⟨0, 1, .ro, 0⟩, ⟨1, 1, .ro, 0⟩, ⟨2, 1, .ro, 0⟩, ⟨3, 1, .ro, 0⟩, ⟨4, 1, .ro, 0⟩, ⟨5, 1, .ro, 0⟩]⟩, -- PORT[n].STATUS
  ⟨0x30000028, [(0x100, 32)], [⟨0, 1, .w1c, 0⟩, ⟨1, 1, .w1c, 0⟩, ⟨2, 1, .w1c, 0⟩, ⟨3, 1, .w1c, 0⟩, ⟨4, 1, .w1c, 0⟩, ⟨5, 1, .w1c, 0⟩, ⟨6, 1, .w1c, 0⟩, ⟨7, 1, .w1c, 0⟩, ⟨8, 1, .w1c, 0⟩, ⟨9, 1, .w1c, 0⟩, ⟨10, 1, .w1c, 0⟩]⟩, -- PORT[n].EVENTS
  ⟨0x3000002c, [(0x100, 32)], [⟨0, 11, .rw, 0⟩]⟩, -- PORT[n].INT_EN
  ⟨0x30000030, [(0x100, 32)], [⟨0, 32, .ro, 3⟩]⟩, -- PORT[n].APPLIED_DA
  ⟨0x30000034, [(0x100, 32)], [⟨0, 32, .ro, 3⟩]⟩, -- PORT[n].APPLIED_DB
  ⟨0x30000040, [(0x100, 32), (0x4, 6)], [⟨0, 32, .ro, 0⟩]⟩, -- PORT[n].CS_RX[i]
  ⟨0x30000060, [(0x100, 32), (0x4, 6)], [⟨0, 32, .rw, 0⟩]⟩, -- PORT[n].CS_TX[i]
  ⟨0x30000080, [(0x100, 32), (0x4, 8)], [⟨0, 32, .rc, 0⟩]⟩, -- PORT[n].CNT[k]
  ⟨0x30002000, [], [⟨0, 10, .ro, 0⟩, ⟨10, 10, .ro, 0⟩]⟩, -- PORT.CAP
  ⟨0x30002004, [], [⟨0, 32, .ro, 0⟩]⟩] -- PORT.PEND

/-- The registers of space 3 (MOD). -/
def modRegs : List RegD := [
  ⟨0x40000000, [(0x20, 8)], [⟨0, 12, .kw, 2048⟩, ⟨16, 12, .kw, 0⟩]⟩, -- MOD.GRP[g].CARRIER
  ⟨0x40000004, [(0x20, 8)], [⟨0, 3, .kw, 0⟩, ⟨4, 7, .kw, 0⟩, ⟨11, 8, .kw, 16⟩, ⟨19, 1, .kw, 0⟩]⟩, -- MOD.GRP[g].CFG
  ⟨0x40000008, [(0x20, 8)], [⟨0, 16, .kw, 12288⟩]⟩, -- MOD.GRP[g].VREF
  ⟨0x4000000c, [(0x20, 8)], [⟨0, 16, .kw, 200⟩, ⟨16, 4, .kw, 3⟩, ⟨20, 8, .kw, 10⟩]⟩, -- MOD.GRP[g].PROT
  ⟨0x40000010, [(0x20, 8)], [⟨0, 1, .ro, 0⟩, ⟨1, 1, .ro, 0⟩, ⟨2, 1, .ro, 0⟩, ⟨3, 1, .ro, 0⟩, ⟨4, 1, .ro, 0⟩, ⟨5, 1, .ro, 0⟩]⟩, -- MOD.GRP[g].STATUS
  ⟨0x40000014, [(0x20, 8)], [⟨0, 1, .w1c, 0⟩, ⟨1, 1, .w1c, 0⟩, ⟨2, 1, .w1c, 0⟩, ⟨3, 1, .w1c, 0⟩]⟩, -- MOD.GRP[g].EVENTS
  ⟨0x40000018, [(0x20, 8)], [⟨0, 4, .rw, 0⟩]⟩, -- MOD.GRP[g].INT_EN
  ⟨0x4000001c, [(0x20, 8)], [⟨0, 16, .ro, 0⟩]⟩, -- MOD.GRP[g].RAIL
  ⟨0x40000400, [(0x40, 32)], [⟨0, 1, .kw, 0⟩, ⟨1, 1, .kw, 0⟩, ⟨2, 1, .rw, 0⟩, ⟨4, 4, .kw, 0⟩]⟩, -- MOD.GANG[k].CTL
  ⟨0x40000404, [(0x40, 32)], [⟨0, 2, .rw, 0⟩]⟩, -- MOD.GANG[k].CFG
  ⟨0x40000408, [(0x40, 32)], [⟨0, 3, .ro, 0⟩, ⟨3, 1, .ro, 0⟩, ⟨4, 4, .ro, 0⟩, ⟨8, 4, .ro, 0⟩, ⟨12, 1, .ro, 0⟩]⟩, -- MOD.GANG[k].STATUS
  ⟨0x4000040c, [(0x40, 32)], [⟨0, 1, .w1c, 0⟩, ⟨1, 1, .w1c, 0⟩, ⟨2, 1, .w1c, 0⟩, ⟨3, 1, .w1c, 0⟩, ⟨4, 1, .w1c, 0⟩, ⟨5, 1, .w1c, 0⟩, ⟨6, 1, .w1c, 0⟩]⟩, -- MOD.GANG[k].EVENTS
  ⟨0x40000410, [(0x40, 32)], [⟨0, 7, .rw, 0⟩]⟩, -- MOD.GANG[k].INT_EN
  ⟨0x40000414, [(0x40, 32)], [⟨0, 32, .ro, 0⟩]⟩, -- MOD.GANG[k].FAULT_NS
  ⟨0x40000418, [(0x40, 32)], [⟨0, 4, .ro, 0⟩, ⟨4, 2, .ro, 0⟩]⟩, -- MOD.GANG[k].FAULT_SRC
  ⟨0x40000420, [(0x40, 32), (0x4, 6)], [⟨0, 32, .rc, 0⟩]⟩, -- MOD.GANG[k].CNT[c]
  ⟨0x40000c00, [], [⟨0, 1, .ro, 0⟩, ⟨1, 1, .ro, 0⟩, ⟨2, 1, .ro, 0⟩]⟩, -- MOD.STATUS
  ⟨0x40000c04, [], [⟨0, 32, .ro, 0⟩]⟩, -- MOD.GANG_PEND
  ⟨0x40000c08, [], [⟨0, 8, .ro, 0⟩]⟩] -- MOD.GRP_PEND

/-- The registers of space 4 (BST). -/
def bstRegs : List RegD := [
  ⟨0x50000000, [(0x80, 8)], [⟨0, 1, .kw, 0⟩, ⟨1, 2, .rw, 0⟩, ⟨3, 4, .rw, 8⟩, ⟨7, 1, .kw, 0⟩]⟩, -- BST[g].CTL
  ⟨0x50000004, [(0x80, 8)], [⟨0, 16, .kw, 12288⟩, ⟨16, 16, .kw, 12288⟩]⟩, -- BST[g].RAIL_LIM
  ⟨0x50000008, [(0x80, 8)], [⟨0, 16, .kw, 13568⟩]⟩, -- BST[g].OVP
  ⟨0x5000000c, [(0x80, 8)], [⟨0, 8, .kw, 8⟩, ⟨8, 8, .kw, 64⟩]⟩, -- BST[g].UV
  ⟨0x50000010, [(0x80, 8)], [⟨0, 10, .kw, 800⟩, ⟨16, 8, .kw, 32⟩]⟩, -- BST[g].ILIM
  ⟨0x50000014, [(0x80, 8)], [⟨0, 10, .kw, 200⟩]⟩, -- BST[g].SLEW
  ⟨0x50000018, [(0x80, 8)], [⟨0, 16, .rw, 0⟩, ⟨16, 16, .rw, 0⟩]⟩, -- BST[g].LOOP
  ⟨0x5000001c, [(0x80, 8)], [⟨0, 8, .rw, 218⟩, ⟨8, 8, .rw, 40⟩, ⟨16, 10, .rw, 0⟩]⟩, -- BST[g].PWM
  ⟨0x50000020, [(0x80, 8)], [⟨0, 16, .kw, 16384⟩]⟩, -- BST[g].SENSE
  ⟨0x50000024, [(0x80, 8)], [⟨0, 16, .rw, 282⟩]⟩, -- BST[g].FOLLOW
  ⟨0x50000028, [(0x80, 8)], [⟨0, 16, .kw, 100⟩]⟩, -- BST[g].RESTART
  ⟨0x5000002c, [(0x80, 8)], [⟨0, 16, .ro, 0⟩, ⟨16, 16, .ro, 0⟩]⟩, -- BST[g].TARGET
  ⟨0x50000030, [(0x80, 8)], [⟨0, 16, .ro, 0⟩, ⟨16, 10, .ro, 0⟩]⟩, -- BST[g].MEAS
  ⟨0x50000034, [(0x80, 8)], [⟨0, 3, .ro, 0⟩, ⟨3, 1, .ro, 0⟩, ⟨4, 1, .ro, 0⟩, ⟨5, 1, .ro, 0⟩, ⟨6, 3, .ro, 0⟩]⟩, -- BST[g].STATUS
  ⟨0x50000038, [(0x80, 8)], [⟨0, 1, .w1c, 0⟩, ⟨1, 1, .w1c, 0⟩, ⟨2, 1, .w1c, 0⟩, ⟨3, 1, .w1c, 0⟩, ⟨4, 1, .w1c, 0⟩, ⟨5, 1, .w1c, 0⟩]⟩, -- BST[g].EVENTS
  ⟨0x5000003c, [(0x80, 8)], [⟨0, 6, .rw, 0⟩]⟩, -- BST[g].INT_EN
  ⟨0x50000040, [(0x80, 8), (0x4, 5)], [⟨0, 32, .rc, 0⟩]⟩, -- BST[g].CNT[c]
  ⟨0x50000400, [], [⟨0, 8, .ro, 0⟩]⟩] -- BST.PEND

/-- The register table that can hold address `a` (R10, R415, R419). -/
def blockRegs (a : Nat) : List RegD :=
  if a < 0x100000 then sysRegs
  else if a < 0x140000 then macRegs
  else if a < 0x200000 then flowRegs
  else if a < 0x280000 then qmRegs
  else if a < 0x300000 then mmuRegs
  else if a < 0x380000 then coreRegs
  else if a < 0x3c0000 then twinRegs
  else if a < 0x400000 then lamRegs
  else if a < 0x10000000 then []
  else if a < 0x20000000 then timeRegs
  else if a < 0x30000000 then pllRegs
  else if a < 0x40000000 then portRegs
  else if a < 0x50000000 then modRegs
  else if a < 0x60000000 then bstRegs
  else []

/-- Endpoint codes that R304 lists: ROUTE[e] of any other code is no register. -/
def isEndpoint (e : Nat) : Bool :=
  decide (e < 0x2040) || (decide (0x2080 ≤ e) && decide (e < 0x20a0)) || (decide (0x4000 ≤ e) && decide (e < 0x6000))

/-- PAD[i] codes that R453 lists. -/
def isPad (i : Nat) : Bool := decide (i < 10) || (decide (16 ≤ i) && decide (i < 48))

/-- The fields of the register at address `a`; none where no register lies there (R416). -/
def regFields (a : Nat) : Option (List FieldD) :=
  if 0x218000 ≤ a ∧ a < 0x230000 ∧ isEndpoint ((a - 0x218000) / 4) = false then none
  else if 0x20000300 ≤ a ∧ a < 0x200003c0 ∧ isPad ((a - 0x20000300) / 4) = false then none
  else ((blockRegs a).find? (·.covers a)).map (·.fields)

/-- The reset value of the field with key `i` (R9); 0 for a key that names no field. -/
def fieldReset (i : Nat) : Nat :=
  match regFields (i / 32) with
  | none => 0
  | some fs => match fs.find? (fun f => f.lo == i % 32) with
    | none => 0
    | some f => f.reset

end Sys2Proof.Machine
end

