-- ==== Sys2Proof/Machine/Chip.lean ====
section
/-! DEFINITION. The chip's state as plain data: the register-field file, the state that no register field holds,
and the memories; with the reads and writes of registers and memory that every meaning is built from. -/

namespace Sys2Proof.Machine

/-- Everything but the memories: registers (R9) and the hidden state of every block. -/
structure Dev where
  regs     : List (Nat × Nat)
  resetN   : Bool
  supplyOk : Bool
  missing  : List Supply
  freeCtr  : Nat
  tick     : Nat
  tickNum  : Nat
  queues   : List (Nat × Queue)
  rake     : List RakeJob
  pool     : Pool
  tlbs     : List (Nat × List TlbEntry)
  inv      : List InvReq
  ctxs     : List (Nat × Ctx)
  dmas     : List (Nat × Dma)
  icache   : List (Nat × List (Nat × Nat))
  badRows  : List Nat
  perf     : List (Nat × Nat)
  routePend : List (Nat × Option RoutePend)
  routeFresh : List (Nat × Bool)
  txOld    : List (Nat × Option (Nat × Bool))
  envs     : List ((Nat × Nat) × (Nat × Nat))
  time     : TimeSt
  clk      : ClkSt
  teus     : List (Nat × Teu)
  saps     : List (Nat × Sap)
  drive    : Drive
  net      : Net
  sys      : Sys
  deriving DecidableEq, Repr

/-- The memories. `cells` holds Saltern's bytes at keys below 2^26 and core c's pan memory at
2^26 + c × 2^18 + offset (R189, R211, R237); a byte nothing has written reads 0. `flash` holds the image flash, whose
bytes read 0xFF where nothing is listed (R403). -/
structure Mem where
  cells : List Host.Cell
  flash : List Host.Cell
  deriving DecidableEq, Repr

/-- The machine without its command queue. -/
structure Chip where
  dev : Dev
  mem : Mem
  deriving DecidableEq, Repr

/-- What an unlisted byte of Saltern or pan memory reads as: R435 has the scrub write zeros to Saltern. -/
def Mem.unlisted : Nat → Byte := fun _ => 0

/-- What an unlisted byte of the flash reads as: the erased state. -/
def Mem.erased : Nat → Byte := fun _ => 0xFF

/-- One byte of Saltern or pan memory. -/
def Mem.byte (m : Mem) (a : Nat) : Byte := Sparse.get Mem.unlisted m.cells a

/-- Store one byte of Saltern or pan memory. -/
def Mem.setByte (m : Mem) (a : Nat) (b : Byte) : Mem := { m with cells := Sparse.set Mem.unlisted m.cells a b }

/-- One byte of the flash. -/
def Mem.flashByte (m : Mem) (a : Nat) : Byte := Sparse.get Mem.erased m.flash a

/-- Store one byte of the flash. -/
def Mem.setFlash (m : Mem) (a : Nat) (b : Byte) : Mem := { m with flash := Sparse.set Mem.erased m.flash a b }

/-- Both memories are in their canonical form. -/
def Mem.wf (m : Mem) : Bool := Sparse.wf Mem.unlisted m.cells && Sparse.wf Mem.erased m.flash

/-- `n` bytes from `a` as one number, the first byte the most significant (R266). -/
def Mem.load (m : Mem) (a : Nat) : Nat → Nat
  | 0 => 0
  | n + 1 => (m.byte a).toNat * 256 ^ n + Mem.load m (a + 1) n

/-- Store the low `n` bytes of `v` at `a`, most significant first (R266). -/
def Mem.store (m : Mem) (a : Nat) : Nat → Nat → Mem
  | 0, _ => m
  | n + 1, v => Mem.store (m.setByte a (BitVec.ofNat 8 (v / 256 ^ n))) (a + 1) n v

/-- Store a list of bytes from `a` upward. -/
def Mem.storeBytes (m : Mem) (a : Nat) : List Byte → Mem
  | [] => m
  | b :: bs => Mem.storeBytes (m.setByte a b) (a + 1) bs

/-- `n` bytes from `a` upward. -/
def Mem.loadBytes (m : Mem) (a : Nat) : Nat → List Byte
  | 0 => []
  | n + 1 => m.byte a :: Mem.loadBytes m (a + 1) n

/-- Read a register field. -/
def Dev.rd (d : Dev) (f : Fld) : Nat := Sparse.get fieldReset d.regs f.id

/-- Write a register field; the value is cut to the field's width. -/
def Dev.wr (d : Dev) (f : Fld) (v : Nat) : Dev :=
  { d with regs := Sparse.set fieldReset d.regs f.id (v % 2 ^ f.width) }

/-- A one-bit field as a truth value. -/
def Dev.on (d : Dev) (f : Fld) : Bool := d.rd f == 1

/-- Set a one-bit field (an event bit, a status bit). -/
def Dev.set (d : Dev) (f : Fld) : Dev := d.wr f 1

/-- Clear a field. -/
def Dev.clr (d : Dev) (f : Fld) : Dev := d.wr f 0

/-- Add to a counter field, saturating at its largest value. -/
def Dev.bump (d : Dev) (f : Fld) (n : Nat) : Dev := d.wr f (min (d.rd f + n) (2 ^ f.width - 1))

/-- Write a list of fields in order. -/
def Dev.wrs (d : Dev) (l : List (Fld × Nat)) : Dev := l.foldl (fun d p => d.wr p.1 p.2) d

/-- Apply `f` when `b` holds. -/
def Dev.when (d : Dev) (b : Bool) (f : Dev → Dev) : Dev := if b then f d else d

/-- A fresh free value and the device with its counter advanced. -/
def Dev.fresh (d : Dev) : Nat × Dev := (Config.free d.freeCtr, { d with freeCtr := d.freeCtr + 1 })

/-- A queue's state. -/
def Dev.q (d : Dev) (n : Nat) : Queue := Sparse.get (fun _ => Queue.init) d.queues n
def Dev.setQ (d : Dev) (n : Nat) (q : Queue) : Dev :=
  { d with queues := Sparse.set (fun _ => Queue.init) d.queues n q }

/-- A context's state; contexts are numbered 4 × core + context. -/
def Dev.ctx (d : Dev) (x : Nat) : Ctx := Sparse.get (fun _ => Ctx.init) d.ctxs x
def Dev.setCtx (d : Dev) (x : Nat) (c : Ctx) : Dev :=
  { d with ctxs := Sparse.set (fun _ => Ctx.init) d.ctxs x c }

/-- A DMA channel's state. -/
def Dev.dma (d : Dev) (n : Nat) : Dma := Sparse.get (fun _ => Dma.init) d.dmas n
def Dev.setDma (d : Dev) (n : Nat) (c : Dma) : Dev :=
  { d with dmas := Sparse.set (fun _ => Dma.init) d.dmas n c }

/-- The translations of a TLB: keys 0 to 15 are the cores', 16 is the DMA channels'. -/
def Dev.tlb (d : Dev) (n : Nat) : List TlbEntry := Sparse.get (fun _ => []) d.tlbs n
def Dev.setTlb (d : Dev) (n : Nat) (l : List TlbEntry) : Dev :=
  { d with tlbs := Sparse.set (fun _ => []) d.tlbs n l }

/-- The lines of a core's instruction cache, most recently used first: (ASID, virtual address / 64). -/
def Dev.lines (d : Dev) (core : Nat) : List (Nat × Nat) := Sparse.get (fun _ => []) d.icache core
def Dev.setLines (d : Dev) (core : Nat) (l : List (Nat × Nat)) : Dev :=
  { d with icache := Sparse.set (fun _ => []) d.icache core l }

/-- A route entry's captured pending write, and whether its next take is the first under its binding (R310). -/
def Dev.pendOf (d : Dev) (e : Nat) : Option RoutePend := Sparse.get (fun _ => none) d.routePend e
def Dev.setPend (d : Dev) (e : Nat) (p : Option RoutePend) : Dev :=
  { d with routePend := Sparse.set (fun _ => none) d.routePend e p }
def Dev.firstTake (d : Dev) (e : Nat) : Bool := Sparse.get (fun _ => false) d.routeFresh e
def Dev.setFirstTake (d : Dev) (e : Nat) (b : Bool) : Dev :=
  { d with routeFresh := Sparse.set (fun _ => false) d.routeFresh e b }

/-- A time event unit's state. -/
def Dev.teu (d : Dev) (u : Nat) : Teu := Sparse.get (fun _ => Teu.init) d.teus u
def Dev.setTeu (d : Dev) (u : Nat) (t : Teu) : Dev :=
  { d with teus := Sparse.set (fun _ => Teu.init) d.teus u t }

/-- The binding a transmit channel keeps until its flow's packet boundary (R307). -/
def Dev.oldBind (d : Dev) (e : Nat) : Option (Nat × Bool) := Sparse.get (fun _ => none) d.txOld e
def Dev.setOldBind (d : Dev) (e : Nat) (b : Option (Nat × Bool)) : Dev :=
  { d with txOld := Sparse.set (fun _ => none) d.txOld e b }

/-- A serial port's state. -/
def Dev.sap (d : Dev) (n : Nat) : Sap := Sparse.get (fun _ => Sap.init) d.saps n
def Dev.setSap (d : Dev) (n : Nat) (p : Sap) : Dev :=
  { d with saps := Sparse.set (fun _ => Sap.init) d.saps n p }

/-- A MAC port's state, a receive flow's and a transmit flow's. -/
def Dev.mac (d : Dev) (p : Nat) : Mac := Sparse.get (fun _ => Mac.init) d.net.macs p
def Dev.setMac (d : Dev) (p : Nat) (m : Mac) : Dev :=
  { d with net := { d.net with macs := Sparse.set (fun _ => Mac.init) d.net.macs p m } }
def Dev.rxf (d : Dev) (f : Nat) : RxFlow := Sparse.get (fun _ => RxFlow.init) d.net.rxs f
def Dev.setRxf (d : Dev) (f : Nat) (r : RxFlow) : Dev :=
  { d with net := { d.net with rxs := Sparse.set (fun _ => RxFlow.init) d.net.rxs f r } }
def Dev.txf (d : Dev) (f : Nat) : TxFlow := Sparse.get (fun _ => TxFlow.init) d.net.txs f
def Dev.setTxf (d : Dev) (f : Nat) (t : TxFlow) : Dev :=
  { d with net := { d.net with txs := Sparse.set (fun _ => TxFlow.init) d.net.txs f t } }

/-- A gang's, a group's and a rail controller's state. -/
def Dev.gang (d : Dev) (k : Nat) : Gang := Sparse.get (fun _ => Gang.init) d.drive.gangs k
def Dev.setGang (d : Dev) (k : Nat) (g : Gang) : Dev :=
  { d with drive := { d.drive with gangs := Sparse.set (fun _ => Gang.init) d.drive.gangs k g } }
def Dev.group (d : Dev) (g : Nat) : Group := Sparse.get (fun _ => Group.init) d.drive.groups g
def Dev.setGroup (d : Dev) (g : Nat) (v : Group) : Dev :=
  { d with drive := { d.drive with groups := Sparse.set (fun _ => Group.init) d.drive.groups g v } }
def Dev.bst (d : Dev) (g : Nat) : Bst := Sparse.get (fun _ => Bst.init) d.drive.bsts g
def Dev.setBst (d : Dev) (g : Nat) (b : Bst) : Dev :=
  { d with drive := { d.drive with bsts := Sparse.set (fun _ => Bst.init) d.drive.bsts g b } }

/-- Change the twin logic's state, Laminate's, the host interface's or the test port's. -/
def Dev.modTwin (d : Dev) (f : Twin → Twin) : Dev := { d with sys := { d.sys with twin := f d.sys.twin } }
def Dev.modLam (d : Dev) (f : Lam → Lam) : Dev := { d with sys := { d.sys with lam := f d.sys.lam } }
def Dev.modHost (d : Dev) (f : HostIf → HostIf) : Dev := { d with sys := { d.sys with host := f d.sys.host } }
def Dev.modJtag (d : Dev) (f : Jtag → Jtag) : Dev := { d with sys := { d.sys with jtag := f d.sys.jtag } }

/-- Is the functional logic cut from the pins (R463)? -/
def Dev.cut (d : Dev) : Bool :=
  d.sys.jtag.ir == .extest || d.sys.jtag.ir == .highz || d.sys.jtag.ir == .clamp

/-- May the functional logic drive no pin, since it is cut from them (R463) or a supply is absent (R429)? -/
def Dev.pinsOff (d : Dev) : Bool := d.cut || !d.missing.isEmpty

/-- The `n` values below `m` that the pins bring in as `vs`: free ones while the functional logic is cut from the pins,
since R463 does not say what it sees then. -/
def Dev.pinValues (d : Dev) (m : Nat) : List Nat → List Nat × Dev
  | [] => ([], d)
  | v :: vs =>
    let r := if d.cut then (d.fresh.1 % m, d.fresh.2) else (v, d)
    let s := Dev.pinValues r.2 m vs
    (r.1 :: s.1, s.2)

/-- The same for bits. -/
def Dev.pinBits (d : Dev) (bs : List Bool) : List Bool × Dev :=
  if d.cut then
    let r := d.pinValues 2 (bs.map bit)
    (r.1.map (· == 1), r.2)
  else (bs, d)

/-- A requester of registers (R418, R422). -/
def Dev.req (d : Dev) (r : Nat) : Requester := Sparse.get (fun _ => Requester.init) d.sys.host.reqs r
def Dev.setReq (d : Dev) (r : Nat) (q : Requester) : Dev :=
  d.modHost fun h => { h with reqs := Sparse.set (fun _ => Requester.init) h.reqs r q }

/-- The device right after RESET_N has risen (R9, R431, R435): every register at its reset value, nothing held. -/
def Dev.reset : Dev where
  regs := []
  resetN := true
  supplyOk := true
  missing := []
  freeCtr := 0
  tick := 0
  tickNum := 0
  queues := []
  rake := []
  pool := Pool.init
  tlbs := []
  inv := []
  ctxs := []
  dmas := []
  icache := []
  badRows := []
  perf := []
  routePend := []
  routeFresh := []
  txOld := []
  envs := []
  time := TimeSt.init
  clk := ClkSt.init
  teus := []
  saps := []
  drive := Drive.init
  net := Net.init
  sys := Sys.init

/-- The chip right after RESET_N has risen, with an erased flash. -/
def Chip.reset : Chip := ⟨Dev.reset, ⟨[], []⟩⟩

/-- The words that a command has put into cells are in Saltern when it ends (R192, R194). -/
def Chip.settleCells (c : Chip) : Chip :=
  if c.dev.pool.out = [] then c
  else
    ⟨{ c.dev with pool := { c.dev.pool with out := [] } }, c.dev.pool.out.foldl (fun m p => m.store p.1 4 p.2) c.mem⟩

/-- Apply a change of the device alone. -/
def Chip.onDev (c : Chip) (f : Dev → Dev) : Chip := { c with dev := f c.dev }

/-- Fold a change over a list of numbers. -/
def Dev.each (d : Dev) (l : List Nat) (f : Dev → Nat → Dev) : Dev := l.foldl f d

end Sys2Proof.Machine
end

