-- ==== Sys2Proof/Machine/TimeBase.lean ====
section
/-! DEFINITION. Corrected time, its views and the tick numbers (R56, R57, R60, R61, R68, R245). -/

namespace Sys2Proof.Machine

/-- TIME.RATE as a signed number. -/
def Dev.rate (d : Dev) : Int := signedOf 32 (d.rd F.TIME_RATE_RATE)

/-- The rate term of R57 in 2^-40 ns at RAW = `raw`. -/
def Dev.rateTerm (d : Dev) (raw : Nat) : Int := d.rate * ((raw : Int) - d.time.rawR) * 2

/-- Corrected time at RAW = `raw`, exact, in 2^-40 ns (R57). -/
def Dev.corrAt (d : Dev) (raw : Nat) : Int :=
  ((raw : Int) * 2 + d.time.offset) * 2 ^ 40 + d.time.frac + d.rateTerm raw

/-- Corrected time now in whole nanoseconds, truncated (R57). -/
def Dev.nowWide (d : Dev) : Int := d.corrAt d.time.raw / 2 ^ 40

/-- TIME.NOW_NS: the low 32 bits of corrected time (R60). -/
def Dev.nowNs (d : Dev) : Nat := lowOf 32 d.nowWide

/-- Corrected time now in 1/16 ns, truncated (R57). -/
def Dev.now16 (d : Dev) : Int := d.corrAt d.time.raw / 2 ^ 36

/-- Media time at RAW = `raw`, exact, in 2^-40 ns: corrected time less the whole of RESIDUAL, what the clamp of R47 has
accrued below 1/16 ns included (R46, R47). -/
def Dev.mediaAt (d : Dev) (raw : Nat) : Int := d.corrAt raw - (d.time.residual * 2 ^ 36 + d.time.residFrac)

/-- Media time now in 1/16 ns, truncated. -/
def Dev.media16 (d : Dev) : Int := d.mediaAt d.time.raw / 2 ^ 36

/-- CLK_TIME cycles since media time stood at `t` (1/16 ns), at the present rate. -/
def Dev.cyclesSince (d : Dev) (t : Int) : Int := (d.mediaAt d.time.raw - t * 2 ^ 36) / (2 ^ 41 + 2 * d.rate)

/-- The CLK_TIME cycles, of 2 ns, in which `n` CLK_SYS cycles pass: 3.2 ns each, and while their clock is spread up to
1/199 more, how much is free (R7, R33; DEDUCED: notes/assumptions/222.md). -/
def Dev.sysCycles (d : Dev) (n : Nat) : Nat :=
  n * 8 / 5 + (if d.on F.SYSPLL_SPREAD_ACTIVE then Config.spread d.time.raw % (n * 8 / 5 / 199 + 1) else 0)

/-- Corrected time now in 1/256 ns, truncated. -/
def Dev.now256 (d : Dev) : Int := d.corrAt d.time.raw / 2 ^ 32

/-- The instant whose low 32 bits are `v` within (-2^31, +2^31] ns of `near` (R61). -/
def instantNear (near : Int) (v : Nat) : Int :=
  let x := ((v : Int) - near) % 2 ^ 32
  near + (if x ≤ 2 ^ 31 then x else x - 2 ^ 32)

/-- TIME.TICK_PHASE: corrected nanoseconds since the last tick boundary of the grid (R68). -/
def Dev.tickPhase (d : Dev) : Nat := ((d.nowWide - d.time.grid) % 125000).toNat

/-- The tick count of the present boundary for timed routes (R306): ⌊MEDIA_COUNT / 6⌋ modulo 2^32. -/
def Dev.mediaTick (d : Dev) : Nat := d.time.mediaCount / 6 % 2 ^ 32

/-- The tick index of R322: from MEDIA_COUNT once it has been loaded. -/
def Dev.tickIndex (d : Dev) : Nat := if d.time.mediaLoaded then d.time.mediaCount / 6 else d.tickNum

/-- The tick number of R245 modulo 8: from MEDIA_COUNT once it has been loaded, before that counted from the first
divider load. -/
def Dev.tickNo (d : Dev) : Nat :=
  if d.time.mediaLoaded then d.time.mediaCount / 6 % 8 else d.tickNum % 8

end Sys2Proof.Machine
end

