-- ==== Sys2Proof/Machine/Boundary.lean ====
section
/-! DEFINITION. Laminate's states and the boundary at which its switch begins (R392, R397, R399, R402), which a
realignment shares (R53). -/

namespace Sys2Proof.Machine

/-- The states of LAM.STATUS.STATE (R394, R405). -/
def lNone : Nat := 0
def lSteady : Nat := 1
def lLoaded : Nat := 2
def lVerified : Nat := 3
def lArmed : Nat := 4
def lDraining : Nat := 5
def lProbation : Nat := 6

/-- The state, and a move to one. -/
def Dev.lstate (d : Dev) : Nat := d.rd F.LAM_STATUS_STATE
def Dev.lamTo (d : Dev) (s : Nat) : Dev := d.wr F.LAM_STATUS_STATE s

/-- Is the present boundary that of the armed switch (R397)? -/
def Dev.armDue (d : Dev) : Bool :=
  match d.sys.lam.arm with
  | none => false
  | some a => match a.early with
    | none => false
    | some e => match a.timed with
      | some at_ => decide (at_ = d.mediaTick)
      | none => decide (a.asked + 2 ≤ d.tick) && decide (e < d.tick)

/-- Does the armed layer's switch take the present boundary? -/
def Dev.commitDue (d : Dev) : Bool := d.lstate == lArmed && d.armDue

/-- Is the present boundary that of a rollback (R402)? -/
def Dev.rollbackDue (d : Dev) : Bool :=
  d.lstate == lDraining && d.sys.lam.drain.isNone && match d.sys.lam.switch with
  | .rollback _ asked => decide (asked + 2 ≤ d.tick)
  | .staged => false

/-- The layer that a switch brings in. -/
def Dev.incoming (d : Dev) : Option Layer :=
  match d.sys.lam.switch with
  | .staged => d.sys.lam.staged
  | .rollback _ _ => d.sys.lam.prev

/-- Does a switch begin at the present boundary? It waits for a realignment's drain in progress. -/
def Dev.switchDue (d : Dev) : Bool := (d.commitDue || d.rollbackDue) && d.incoming.isSome && d.drive.drain.isNone

/-- Does a realignment's drain begin at the present boundary (R52, R53)? -/
def Dev.realignDue (d : Dev) : Bool := match d.clk.realign with
  | .waiting asked => decide (asked < d.tick) && d.drive.drain.isNone && !d.switchDue
  | _ => false

/-- A realignment runs from its boundary B until MEDPLL, locked again, loads the dividers: "Audio resumes from B + 2
ticks plus the acquisition time" (R52). No packet is sent in it (R144). -/
def Dev.realigning (d : Dev) : Bool := d.realignDue || match d.clk.realign with
  | .draining _ => true
  | .acquiring => d.on F.MEDPLL_CTL_MODE
  | _ => false

end Sys2Proof.Machine
end

