-- ==== Sys2Proof/Machine/Queues.lean ====
section
/-! DEFINITION. Saltern's queues: pushes, pops, credit, visibility, resets, the rake and the watermarks
(R193 to R209). -/

namespace Sys2Proof.Machine

/-- Is the job one of queue `n`'s? -/
def RakeJob.ofQueue (j : RakeJob) (n : Nat) : Bool :=
  match j.owner with
  | .reset q | .scan q | .abandon q => q == n
  | .ring _ => false

/-- Is the job an owner scan (of queue `n`)? -/
def RakeJob.isScan (j : RakeJob) : Bool := match j.owner with | .scan _ => true | _ => false

/-- Does the job count in QM.RAKE.PENDING: a reset not yet fully raked (R206)? -/
def RakeJob.isReset (j : RakeJob) : Bool := match j.owner with | .reset _ | .scan _ => true | _ => false

/-! ### Cells -/

/-- A cell's metadata entry. -/
def Dev.cell (d : Dev) (c : Nat) : CellMeta := Sparse.get (fun _ => ⟨.free, 0⟩) d.pool.cells c
def Dev.setCell (d : Dev) (c : Nat) (m : CellMeta) : Dev :=
  { d with pool := { d.pool with cells := Sparse.set (fun _ => ⟨.free, 0⟩) d.pool.cells c m } }

/-- A cell goes back to the free list it belongs to. -/
def Dev.freeCell (d : Dev) (c : Nat) : Dev := d.setCell c ⟨.free, 0⟩

/-- Cells that the port lists before port `p` received at the last rebuild (R195). -/
def Dev.poolsBelow (d : Dev) (p : Nat) : Nat := (d.pool.split.take p).sum

/-- The free lists of R195: the common one, and one for each port. -/
inductive FreeList where
  | common
  | port (p : Nat)
  deriving DecidableEq, Repr

/-- The cells of a free list, as the place of its first one and their number: the lists share the region out in the
order of the ports, from a place that the spec does not name (DESIGN CHOICE: notes/assumptions/163.md). -/
def Dev.listCells (d : Dev) : FreeList → Nat × Nat
  | .port p => (d.poolsBelow p, d.pool.split.getD p 0)
  | .common => (d.poolsBelow 4, d.rd F.QM_REGION_CELLS - d.poolsBelow 4)

/-- The first free cell of a list at or after its `i`-th. -/
def Dev.freeFrom (d : Dev) (l : FreeList) : Nat → Nat → Nat
  | 0, i => i % max 1 (d.rd F.QM_REGION_CELLS)
  | n + 1, i =>
    let r := d.listCells l
    let c := (Config.firstCell + r.1 + i % max 1 r.2) % max 1 (d.rd F.QM_REGION_CELLS)
    if (d.cell c).owner = .free then c else Dev.freeFrom d l n (i + 1)

/-- A cell is taken from a list for a new owner, behind the cell `prev` of its chain if there is one (R194, R196). Which
of the list's free cells it is, the spec leaves open. -/
def Dev.takeCell (d : Dev) (l : FreeList) (o : CellOwner) (prev : Option Nat) : Nat × Dev :=
  let r := d.fresh
  let c := r.2.freeFrom l (d.pool.cells.length + 1) r.1
  let d := r.2.setCell c ⟨o, 0⟩
  (c, match prev with
    | none => d
    | some b => d.setCell b { d.cell b with next := c })

/-- Put a word and its tag into place `i` of cell `c` (R193, R194): V is 1. A bad row that is written is good again
(DESIGN CHOICE, log 206). -/
def Dev.putWord (d : Dev) (c i : Nat) (w : QWord) : Dev :=
  { d with
    badRows := d.badRows.filter (· != (256 * c + 4 * i) / 8 * 8)
    pool := { d.pool with
      tags := Sparse.set (fun _ => 0) d.pool.tags (64 * c + i) (1 + 2 * bit w.e + 4 * w.k),
      out := d.pool.out ++ [(256 * c + 4 * i, w.data.toNat)] } }

/-- A chain of `n` cells is taken from a list (R194). -/
def Dev.takeCells (d : Dev) (l : FreeList) (o : CellOwner) : Nat → List Nat × Dev
  | 0 => ([], d)
  | n + 1 =>
    let r := Dev.takeCells d l o n
    let t := r.2.takeCell l o r.1.getLast?
    (r.1 ++ [t.1], t.2)

/-- A frame's words fill the chain in order with K = 01, the last one with E = 1 (R104). -/
def Dev.putFrame (d : Dev) (chain : List Nat) : Nat → List Nat → Dev
  | _, [] => d
  | i, w :: ws =>
    Dev.putFrame (d.putWord (chain.getD (i / 64) 0) (i % 64) ⟨BitVec.ofNat 32 w, ws.isEmpty, 1⟩) chain (i + 1) ws

/-- Cell `c` is rewritten with zero data, a zero tag and correct check bits (R190). -/
def Dev.zeroCell (d : Dev) (c : Nat) : Dev :=
  { d with
    badRows := d.badRows.filter fun a => a / 256 != c
    pool := { d.pool with
      tags := d.pool.tags.filter fun p => p.1 / 64 != c,
      out := d.pool.out ++ (List.range 64).map fun i => (256 * c + 4 * i, 0) } }

/-- The cells whose OWNER names queue `n`: those it holds, those that await the rake included (R196, R208). -/
def Dev.cellsOf (d : Dev) (n : Nat) : List Nat :=
  (d.pool.cells.filter fun p => p.2.owner == .queue n).map (·.1)
def Dev.held (d : Dev) (n : Nat) : Nat := (d.cellsOf n).length

/-! ### Packets -/

/-- The producer's credit in its own view (R196, R202): it may fall below zero (R282). -/
def Dev.credit (d : Dev) (n : Nat) : Int :=
  (d.rd (F.Q_CFG_GRANT n) : Int) - d.held n - (d.q n).crossing

/-- Packets in the consumer's view (R202). -/
def Dev.viewCount (d : Dev) (n : Nat) : Nat := ((d.q n).packets.filter (·.arrival.isSome)).length

/-- Does a move of queue `n`'s packet count from `o` share its CLK_ENG cycle, of 2.54 ns, with the last move? It may
where RAW, of 2 ns, has gone on by two at the most; there the sender of the commands does not say, and a free value
does (log 174). -/
def Dev.sameMove (d : Dev) (n o : Nat) : Option CountMove × Dev :=
  let r := d.fresh
  (match d.pool.move with
    | some m => if m.queue = n ∧ m.now = o ∧ d.time.raw ≤ m.raw + 2 ∧ r.1 % 2 = 1 then some m else none
    | none => none, r.2)

/-- The watermark rules for a change of queue `n`'s packet count from `o` to `c` (R209). Both events are judged on the
net change of a CLK_ENG cycle: what an earlier move of the cycle set is judged anew with this one (R205). -/
def Dev.recount (d : Dev) (n o c : Nat) : Dev :=
  if o = c then d
  else
    let s := d.sameMove n o
    let d := s.2
    let m := s.1.getD ⟨n, o, c, d.on (F.Q_EV_HI_EV n), d.on (F.Q_EV_LO_EV n), d.time.raw⟩
    let hi := d.rd (F.Q_WM_HIGH n)
    let lo := d.rd (F.Q_WM_LOW n)
    { d with pool := { d.pool with move := some { m with now := c } } }.wrs
      [(F.Q_EV_HI_EV n, bit (d.on (F.Q_EV_HI_EV n) && m.hi || decide (m.was < hi ∧ hi ≤ c))),
       (F.Q_EV_LO_EV n, bit (d.on (F.Q_EV_LO_EV n) && m.lo || decide (lo < m.was ∧ c ≤ lo))),
       (F.Q_EV_HI_LIVE n, bit (decide (hi ≤ c))), (F.Q_EV_LO_LIVE n, bit (decide (c ≤ lo)))]

/-- The live watermark bits recomputed for count `c`, with no event (R204). -/
def Dev.relive (d : Dev) (n c : Nat) : Dev :=
  (d.wr (F.Q_EV_HI_LIVE n) (bit (decide (d.rd (F.Q_WM_HIGH n) ≤ c)))).wr
    (F.Q_EV_LO_LIVE n) (bit (decide (c ≤ d.rd (F.Q_WM_LOW n))))

/-- Places that packets and what is popped behind each of them take in the cells (R194). -/
def spanOf (ps : List Packet) : Nat := (ps.map fun p => p.words.length + p.gap).sum

/-- Places from the first word not popped to the tail: those of closed packets and of the open one. -/
def Queue.stored (q : Queue) : Nat := spanOf q.packets + q.openWords.length

/-- Queue `q` with its `i`-th packet's next `n` words popped, and the packet gone where `out`: a cell holds its place
until every word before it is popped too (R194, R252). -/
def Queue.take (q : Queue) (i n : Nat) (out : Bool) : Queue :=
  match q.packets[i]? with
  | none => q
  | some p =>
    let free := if out then p.words.length + p.gap else n
    let ps := if out then q.packets.eraseIdx i else q.packets.set i { p with words := p.words.drop n, begun := true }
    if i = 0 then { q with packets := ps, head := q.head + free }
    else { q with packets := ps.modify (i - 1) fun b => { b with gap := b.gap + free } }

/-- Leading cells whose last word is popped and that the producer has left (R194). -/
def Queue.doneCells (q : Queue) : Nat := min (q.head / 64) (q.alloc - 1)

/-- Cells done with leave the queue: they are back on the common list and their credit crosses (R194, R202). -/
def Dev.settle (d : Dev) (n : Nat) : Dev :=
  let q := d.q n
  let r := q.doneCells
  if r = 0 then d
  else
    let d := d.setQ n { q with head := q.head - 64 * r, chain := q.chain.drop r, crossing := q.crossing + r }
    (d.each (q.chain.take r) Dev.freeCell).wr F.QM_FREE_COMMON (d.rd F.QM_FREE_COMMON + r)

/-- Add a job to the rake's work. -/
def Dev.addRake (d : Dev) (o : RakeOwner) (cells : List Nat) : Dev := { d with rake := d.rake ++ [⟨o, cells⟩] }

/-- Abandon queue `n`'s open packet: the tail moves back and whole cells beyond it go to the rake (R200). -/
def Dev.abandonOpen (d : Dev) (n : Nat) : Dev :=
  let q := d.q n
  let keep := (q.head + spanOf q.packets + 63) / 64
  let d := d.setQ n { q with openWords := [], discard := false, chain := q.chain.take keep }
  d.when (decide (keep < q.alloc)) (·.addRake (.abandon n) (q.chain.drop keep))

/-- A packet is lost for lack of credit: its stored words are abandoned, the rest is discarded, and it is counted
(R198). -/
def Dev.overflow (d : Dev) (n : Nat) (e : Bool) : Dev :=
  let d := d.abandonOpen n
  let d := d.setQ n { d.q n with discard := !e }
  ((((d.set (F.Q_EV_OVF_EV n)).bump F.QM_OVF_COUNT 1).wr F.QM_OVF_Q n).set F.QM_EVENTS_OVF_ANY)

/-- Does the next word pushed need a new cell? -/
def Queue.needsCell (q : Queue) : Bool := decide (64 * q.alloc ≤ q.head + q.stored)

/-- What a push did with the word. -/
inductive PushRes where
  | stored | closed | dropped
  deriving DecidableEq, Repr

/-- A producer pushes one word to queue `n`; a packet that it closes is held for boundary `hold` if one is given
(R198 to R200, R208, R254, R281). -/
def Dev.push (d : Dev) (n : Nat) (w : QWord) (hold : Option Nat) : Dev × PushRes :=
  let q := d.q n
  if d.rd (F.Q_CFG_EN n) = 0 then (d, .dropped)
  else if q.err || q.discard then (d.setQ n { q with discard := !w.e }, .dropped)
  else if q.needsCell && decide (d.credit n ≤ 0) then (d.overflow n w.e, .dropped)
  else
    let d0 := d.when q.needsCell (fun d => d.wr F.QM_FREE_COMMON (d.rd F.QM_FREE_COMMON - 1))
    let t := if q.needsCell then d0.takeCell .common (.queue n) q.chain.getLast? else (0, d0)
    let chain := if q.needsCell then q.chain ++ [t.1] else q.chain
    let at_ := q.head + q.stored
    let d1 := t.2.putWord (chain.getD (at_ / 64) 0) (at_ % 64) w
    if w.e then
      let q' := { q with chain := chain, openWords := [],
                         packets := q.packets ++ [⟨q.openWords ++ [w], hold, none, 0, false, 0⟩] }
      (((d1.setQ n q').recount n q.packets.length (q.packets.length + 1)).settle n, .closed)
    else
      ((d1.setQ n { q with chain := chain, openWords := q.openWords ++ [w] }).settle n, .stored)

/-- Push the words of one packet, the last with its end mark. -/
def Dev.pushPacket (d : Dev) (n : Nat) (k : Nat) (ws : List Nat) : Dev :=
  match ws with
  | [] => d
  | [w] => (d.push n ⟨BitVec.ofNat 32 w, true, k⟩ none).1
  | w :: ws => Dev.pushPacket (d.push n ⟨BitVec.ofNat 32 w, false, k⟩ none).1 n k ws

/-- Label the packet with the tick in whose span it enters the view, and its place there (R251). -/
def Queue.label (q : Queue) (t : Nat) (p : Packet) : Packet × Queue :=
  let c := if q.arrTick = t then q.arrCount else 0
  ({ p with arrival := some t, ord := c }, { q with arrTick := t, arrCount := c + 1 })

/-- The first packet not yet in view enters it, if its hold allows (R202, R254). -/
def Queue.showFirst (q : Queue) (t : Nat) : List Packet → Option (List Packet × Queue)
  | [] => none
  | p :: ps =>
    if p.arrival.isSome then (Queue.showFirst q t ps).map (fun r => (p :: r.1, r.2))
    else if (match p.hold with | none => true | some h => decide (h ≤ t)) then
      some ((q.label t p).1 :: ps, (q.label t p).2)
    else none

/-- A closed packet of queue `n` crosses to the consumer (R202). -/
def Dev.packetVisible (d : Dev) (n : Nat) : Dev :=
  match (d.q n).showFirst d.tick (d.q n).packets with
  | none => d
  | some (ps, q) => d.setQ n { q with packets := ps }

/-- At boundary `t` every packet closed by then, and every packet held for it, enters its consumer's view
(R16, R24, R254). -/
def Queue.showAll (q : Queue) (t : Nat) : List Packet → List Packet × Queue
  | [] => ([], q)
  | p :: ps =>
    if p.arrival.isSome then
      let r := Queue.showAll q t ps
      (p :: r.1, r.2)
    else if (match p.hold with | none => true | some h => decide (h ≤ t)) then
      let l := q.label t p
      let r := Queue.showAll l.2 t ps
      (l.1 :: r.1, r.2)
    else (p :: ps, q)

/-- `Queue.showAll` on every queue that holds anything. A packet closed before the boundary whose crossing has not
been seen to end enters the view at the boundary, with its tick as label: DESIGN CHOICE (log 192). -/
def Dev.showQueues (d : Dev) (t : Nat) : Dev :=
  d.each (d.queues.map (·.1)) fun d n =>
    let r := (d.q n).showAll t (d.q n).packets
    d.setQ n { r.2 with packets := r.1 }

/-- A released cell's credit reaches the producer of queue `n` (R202). -/
def Dev.creditReturn (d : Dev) (n : Nat) : Dev :=
  d.setQ n { d.q n with crossing := (d.q n).crossing - 1 }

/-- The word and tag a read returns: valid bit, data, end mark, K (R193, R201). -/
structure Popped where
  v    : Bool
  data : Word
  e    : Bool
  k    : Nat
  deriving DecidableEq, Repr

/-- The reason of a not-valid read of queue `n` (R201). -/
def Dev.emptyReason (d : Dev) (n : Nat) : Nat :=
  if (d.q n).err || decide (d.rd (F.Q_CFG_EN n) = 0) then 2
  else if (d.q n).epoch ≠ (d.q n).remembered then 1 else 0

/-- A not-valid read with the given reason; reasons 0 and 1 set the remembered epoch (R201). -/
def Dev.notValid (d : Dev) (n reason : Nat) : Dev × Popped :=
  (d.when (decide (reason < 2)) (fun d => d.setQ n { d.q n with remembered := (d.q n).epoch }),
   ⟨false, BitVec.ofNat 32 (reason + (d.q n).epoch % 65536 * 65536), false, 0⟩)

/-- Take the next word of the `i`-th closed packet of queue `n` (R199, R201). -/
def Dev.takeWord (d : Dev) (n i : Nat) : Dev × Popped :=
  let q := d.q n
  match q.packets[i]? with
  | none => d.notValid n (d.emptyReason n)
  | some p => match p.words with
    | [] => d.notValid n (d.emptyReason n)
    | w :: _ =>
      let q' := q.take i 1 w.e
      let d1 := d.setQ n { q' with remembered := q.epoch }
      ((d1.recount n q.packets.length q'.packets.length).settle n, ⟨true, w.data, w.e, w.k⟩)

/-- A plain pop: the next word of the first packet in the consumer's view, or a not-valid read (R199, R201). -/
def Dev.pop (d : Dev) (n : Nat) : Dev × Popped :=
  if (d.q n).err || decide (d.rd (F.Q_CFG_EN n) = 0) then d.notValid n 2
  else match (d.q n).packets with
    | p :: _ => if p.arrival.isSome then d.takeWord n 0 else d.notValid n (d.emptyReason n)
    | [] => d.notValid n (d.emptyReason n)

/-- Pop a whole packet from the front, its words in order; empty where none is in view. A sink endpoint's take. -/
def Dev.popPacket (d : Dev) (n : Nat) : Dev × List QWord :=
  match (d.q n).packets with
  | [] => ((d.pop n).1, [])
  | p :: ps =>
    if (d.q n).err || decide (d.rd (F.Q_CFG_EN n) = 0) || p.arrival.isNone then ((d.pop n).1, [])
    else
      let q := d.q n
      let d1 := d.setQ n { q.take 0 0 true with remembered := q.epoch }
      ((d1.recount n q.packets.length ps.length).settle n, p.words)

/-- Pop and discard every packet of queue `n` that satisfies `f`; also says how many (R253, R256, R310, R311). -/
def Dev.dropPackets (d : Dev) (n : Nat) (f : Packet → Bool) : Dev × Nat :=
  let q := d.q n
  let gone := q.packets.filter f
  let rest := q.packets.filter (fun p => !f p)
  if gone = [] then (d, 0)
  else
    let out := q.packets.zipIdx.reverse.filter fun p => f p.1
    let d1 := d.setQ n { out.foldl (fun q p => q.take p.2 0 true) q with remembered := q.epoch }
    ((d1.recount n q.packets.length rest.length).settle n, gone.length)

/-- The reset point of queue `n` (R204). -/
def Dev.resetQ (d : Dev) (n : Nat) (forced : Bool) : Dev :=
  let q := d.q n
  let d1 := d.setQ n { q with packets := [], openWords := [], head := 0, chain := [], crossing := 0,
                              discard := q.discard || decide (q.openWords ≠ []),
                              epoch := (q.epoch + 1) % 65536, err := q.err || forced }
  let d2 := if forced then d1.addRake (.scan n) []
            else d1.when (decide (0 < q.alloc)) (·.addRake (.reset n) q.chain)
  d2.relive n 0

/-- The written resets of queue `n` reach their reset points one by one, each in its turn (R203, R204). -/
def Dev.askedReset (d : Dev) (n : Nat) : Dev :=
  if (d.q n).asked = 0 then d
  else
    let d := d.resetQ n false
    d.setQ n { d.q n with asked := (d.q n).asked - 1 }

/-- An uncorrectable error: its count, its event, its address and its area, 0 cell data, 1 a tag or metadata entry, 2
the page region (R190). -/
def Dev.eccFail (d : Dev) (addr area : Nat) : Dev :=
  (((d.bump F.QM_ECC_UNCORR 1).set F.QM_EVENTS_ECC_UNCORR_EV).wr F.QM_ECC_ADDR_ADDR addr).wr F.QM_ECC_ADDR_AREA area

/-- A row with an uncorrectable error in its data: it is counted, and the row fails its readers (R190, R417). -/
def Dev.rowFail (d : Dev) (row area : Nat) : Dev :=
  { d.eccFail row area with badRows := if d.badRows.contains row then d.badRows else row :: d.badRows }

/-- Does the rake serve a chain of queue `n`? -/
def Dev.rakes (d : Dev) (n : Nat) : Bool :=
  match d.rake with
  | [] => false
  | j :: _ => j.ofQueue n && !j.isScan

/-- A forced reset and its cause: 1 the pointers' copies, 2 a cell's data, 3 its tag or metadata, 4 a broken chain
(R207, R208). -/
def Dev.forceReset (d : Dev) (n cause : Nat) : Dev :=
  (((((d.resetQ n true).set (F.Q_EV_QERR_EV n)).set F.QM_EVENTS_QERR_ANY).wr F.QM_QERR_Q n).wr
    F.QM_QERR_CAUSE cause).bump F.QM_QERR_COUNT 1

/-- An uncorrectable error in the data of the cell at byte address `addr` (area 0) or in its tag or metadata entry
(area 1), with the consequence of R190 for the cell's owner: a forced reset of the queue that holds it, a free cell
rewritten with zeros; a ring's frame has its FCS flag from its receipt. -/
def Dev.cellFail (d : Dev) (addr area : Nat) : Dev :=
  let d := if area = 1 then d.eccFail (addr / 256 * 256) 1 else d.rowFail (addr / 8 * 8) 0
  match (d.cell (addr / 256)).owner with
  | .queue n => d.forceReset n (2 + area)
  | .ring _ => d
  | .free => d.zeroCell (addr / 256)

/-- Does the rake, walking the chain of queue `n`, meet a cell of another owner, or an end or a link that is not the
chain's (R207)? -/
def Dev.chainBroken (d : Dev) (n : Nat) : List Nat → Bool
  | [] => false
  | [c] => (d.cell c).owner != .queue n
  | c :: b :: _ => (d.cell c).owner != .queue n || (d.cell c).next != b

/-- A chain that the rake finds broken is left to the owner scan of a forced reset (R207, R208). -/
def Dev.brokenChain (d : Dev) (n : Nat) : Dev := { d with rake := d.rake.drop 1 }.forceReset n 4

/-- FORCED_RESET of queue `n` (R207, R208): cause 1 stands for an upset of the pointers' second copy, which the
command itself is; 2 and 3 for an uncorrectable error in the cell at `addr`, judged by the cell's owner; 4 for a
broken chain. -/
def Dev.forcedReset (d : Dev) (n cause addr : Nat) : Dev :=
  match cause with
  | 1 => d.forceReset n 1
  | 2 => d.cellFail addr 0
  | 3 => d.cellFail addr 1
  | _ => if d.rakes n then d.brokenChain n else d

/-- Cells of queue `n` go back to the common list, and their credit crosses (R196, R202). -/
def Dev.returnCells (d : Dev) (n : Nat) (l : List Nat) : Dev :=
  let d := d.setQ n { d.q n with crossing := (d.q n).crossing + l.length }
  (d.each l Dev.freeCell).wr F.QM_FREE_COMMON (d.rd F.QM_FREE_COMMON + l.length)

/-- The owner scan of queue `n` that the rake serves ends: every cell whose OWNER names the queue is returned, and ERR
clears once no scan of the queue remains (R208). -/
def Dev.ownerScanEnd (d : Dev) (n : Nat) : Dev :=
  match d.rake with
  | [] => d
  | j :: js =>
    if j.owner ≠ .scan n then d
    else
      let again := js.any (fun j => j.owner == .scan n)
      let d := { d with rake := js.filter fun i => i.isScan || !i.ofQueue n }
      let d := d.setQ n { d.q n with err := again }
      d.returnCells n (d.cellsOf n)

/-- The rake returns one cell of the job it serves, unless it finds the chain broken (R195, R206, R207). -/
def Dev.rakeCell (d : Dev) : Dev :=
  match d.rake with
  | [] => d
  | j :: js =>
    let rest := if j.cells.length ≤ 1 then js else { j with cells := j.cells.drop 1 } :: js
    match j.owner with
    | .scan n => d.returnCells n ((d.cellsOf n).take 1)
    | .ring p => (({ d with rake := rest }.each (j.cells.take 1) Dev.freeCell)).wr (F.MAC_POOL_FREE p)
        (d.rd (F.MAC_POOL_FREE p) + (j.cells.take 1).length)
    | .reset n | .abandon n =>
      if d.chainBroken n j.cells then d.brokenChain n else { d with rake := rest }.returnCells n (j.cells.take 1)

/-- Every queue is reset, as a realignment drain and a switch drain ask (R52, R203). -/
def Dev.resetAllQueues (d : Dev) : Dev := d.each (List.range 4096) fun d n => d.resetQ n false

/-- The manager rebuilds every free list from the split and the pools in force (R195, R206). -/
def Dev.rebuildLists (d : Dev) : Dev :=
  let d := { d with rake := [], pool := { d.pool with cells := [],
                                                      split := [0, 1, 2, 3].map fun p => d.rd (F.MAC_POOL_CELLS p) } }
  let d := d.each (d.queues.map (·.1)) fun d n => d.setQ n { d.q n with err := false, crossing := 0, chain := [] }
  let pool := fun p => d.rd (F.MAC_POOL_CELLS p)
  (d.each [0, 1, 2, 3] fun d p => d.wr (F.MAC_POOL_FREE p) (d.rd (F.MAC_POOL_CELLS p))).wr
    F.QM_FREE_COMMON (d.rd F.QM_REGION_CELLS - (pool 0 + pool 1 + pool 2 + pool 3))

/-- The row at byte address `addr` is read, by the patrol scrubber or by an access that uses it: `found` is 0 for a
clean row, 1 for a single-bit error, which any use corrects and counts (log 176), 2 for an uncorrectable one, 3 for
one in the tag or metadata entry of the row's cell. The read changes no queue (R191); an uncorrectable error has the
consequence of R190. -/
def Dev.patrol (d : Dev) (addr found : Nat) : Dev :=
  let row := addr / 8 * 8
  let cells := d.rd F.QM_REGION_CELLS * 256
  match found with
  | 0 => d
  | 1 => (d.bump F.QM_ECC_CORR 1).set F.QM_EVENTS_ECC_CORR_EV
  | 2 => if cells ≤ row then d.rowFail row 2 else d.cellFail row 0
  | _ => if cells ≤ row then d else d.cellFail row 1

end Sys2Proof.Machine
end

