-- ==== Sys2Proof/Machine/Paging.lean ====
section
/-! DEFINITION. Address spaces, page tables, TLBs and faults (R211 to R226). -/

namespace Sys2Proof.Machine

/-- The kind of an access, coded as ACCESS of R225: load or read, store or write, fetch, descriptor fetch. -/
inductive Access where
  | load | store | fetch | desc
  deriving DecidableEq, Repr

/-- ACCESS of a fault record (R225). -/
def Access.code : Access → Nat
  | .load => 0
  | .store => 1
  | .fetch => 2
  | .desc => 3

/-- Who makes an access: the TLB it uses, its ASID, the core whose pan memory it reaches, if any, and the context that
counts its TLB misses, if any (R211, R213, R265). -/
structure Who where
  tlb  : Nat
  asid : Nat
  pan  : Option Nat
  ctx  : Option Nat
  deriving DecidableEq, Repr

/-- Does an uncorrectable error lie in the 8-byte row of this byte (R190)? -/
def Dev.badRow (d : Dev) (a : Nat) : Bool := d.badRows.contains (a / 8 * 8)

/-- Does the PPN name the cell region (R216)? -/
def Dev.inCells (d : Dev) (ppn : Nat) : Bool := decide (ppn < d.rd F.QM_REGION_CELLS / 16)

/-- Does the access find its permission in R, W, X (R221 cause 6)? -/
def Access.allowed (k : Access) (r w x : Bool) : Bool :=
  match k with
  | .load | .desc => r
  | .store => w
  | .fetch => x

/-- The index of the last unlocked entry of a TLB list, the one replacement chooses (R219). -/
def dropLastUnlocked (l : List TlbEntry) : List TlbEntry :=
  match l.reverse.find? (fun e => !e.l) with
  | some v => l.erase v
  | none => l

/-- How many entries a TLB holds, and how many of them may be locked (R218, R219). -/
def tlbSize (n : Nat) : Nat := if n < 16 then 64 else 32
def tlbLocks (n : Nat) : Nat := if n < 16 then 16 else 8

/-- Put an entry into TLB `n`, most recently used first (R219). -/
def Dev.tlbFill (d : Dev) (n : Nat) (e : TlbEntry) : Dev :=
  let l := d.tlb n
  let full := e.l && decide (tlbLocks n ≤ (l.filter (·.l)).length)
  let e := if full then { e with l := false } else e
  let l := if tlbSize n ≤ l.length then dropLastUnlocked l else l
  (d.when full (·.set F.MMU_EVENTS_LOCK_FULL)).setTlb n (e :: l)

/-- Set one bit of the leaf at byte address `leaf` if it still has V = 1 and the same PPN (R217). -/
def Chip.setLeafBit (c : Chip) (leaf ppn b : Nat) : Chip :=
  let v := c.mem.load leaf 4
  if bitAt v 0 && bitsAt v 18 14 == ppn && !bitAt v b then
    { c with mem := c.mem.store leaf 4 (v + 2 ^ b) } else c

/-- A translated access that reads row `a` with its uncorrectable error: the error is counted, and the accessor is
told by cause 7 (R190, R221). -/
def Chip.eccFault {α : Type} (c : Chip) (a : Nat) : Chip × Except Nat α :=
  (c.onDev (·.eccFail (a / 8 * 8) 2), .error 7)

/-- A TLB miss of the context that makes the access is counted (R265). -/
def Dev.tlbMiss (d : Dev) (w : Who) : Dev :=
  match w.ctx with
  | none => d
  | some x => d.wr (F.X_PERF_COUNT (x / 4) (x % 4) 3) (d.rd (F.X_PERF_COUNT (x / 4) (x % 4) 3) + 1)

/-- The two-level walk (R212, R214 to R217): the entry it fills, or the cause of its fault. A leaf whose A is 0 gets A
set; nothing is filled when the walk faults. -/
def Chip.walk (c : Chip) (w : Who) (va : Nat) (k : Access) : Chip × Except Nat TlbEntry :=
  let d := c.dev
  let vpn := va / 4096
  let rootPpn := d.rd (F.MMU_ROOT_PPN w.asid)
  let a1 := rootPpn * 4096 + vpn / 1024 * 4
  let e1 := c.mem.load a1 4
  let a0 := bitsAt e1 18 14 * 4096 + vpn % 1024 * 4
  let e0 := c.mem.load a0 4
  let ppn := bitsAt e0 18 14
  let r := bitAt e0 1
  let wr := bitAt e0 2
  let x := bitAt e0 3
  if d.rd (F.MMU_ROOT_V w.asid) = 0 then (c, .error 1)
  else if d.inCells rootPpn then (c, .error 4)
  else if d.badRow a1 then c.eccFault a1
  else if !bitAt e1 0 then (c, .error 1)
  else if bitAt e1 1 || bitAt e1 2 || bitAt e1 3 then (c, .error 3)
  else if d.inCells (bitsAt e1 18 14) then (c, .error 4)
  else if d.badRow a0 then c.eccFault a0
  else if !bitAt e0 0 then (c, .error 2)
  else if (wr && !r) || (!r && !wr && !x) then (c, .error 3)
  else if d.inCells ppn then (c, .error 4)
  else if !k.allowed r wr x then (c, .error 6)
  else
    let e : TlbEntry := ⟨vpn, w.asid, bitAt e0 8, ppn, r, wr, x, bitAt e0 4, bitAt e0 5, bitAt e0 7, a0⟩
    (((c.setLeafBit a0 ppn 6).onDev (·.tlbFill w.tlb e)), .ok e)

/-- Translate one page-region address: a TLB hit, or a walk (R218). -/
def Chip.translate (c : Chip) (w : Who) (va : Nat) (k : Access) : Chip × Except Nat TlbEntry :=
  let l := c.dev.tlb w.tlb
  match l.find? (fun e => e.vpn == va / 4096 && (e.g || e.asid == w.asid)) with
  | some e =>
    if k.allowed e.r e.w e.x then (c.onDev (·.setTlb w.tlb (e :: l.erase e)), .ok e) else (c, .error 6)
  | none => (c.onDev (·.tlbMiss w)).walk w va k

/-- Does a write through the entry have to read a leaf that holds an uncorrectable error (R217, R221)? -/
def Dev.badLeaf (d : Dev) (e : TlbEntry) (k : Access) : Bool := k == .store && !e.d && d.badRow e.leaf

/-- Where an access lands: the key of its first byte in the memories, and the entry that translated it. -/
structure Place where
  key   : Nat
  entry : Option TlbEntry
  deriving DecidableEq, Repr

/-- Key of offset `off` of core `core`'s pan memory. -/
def panKey (core off : Nat) : Nat := 2 ^ 26 + core * 2 ^ 18 + off

/-- Make every check of one access of `size` bytes at `va` (R211, R213, R221): the place, or the lowest cause. -/
def Chip.reach (c : Chip) (w : Who) (va size : Nat) (k : Access) : Chip × Except Nat Place :=
  if 0xF0000000 ≤ va then
    match w.pan with
    | none => (c, .error 5)
    | some core =>
      if 0xF0040000 ≤ va then (c, .error 5)
      else if va % size ≠ 0 then (c, .error 8)
      else (c, .ok ⟨panKey core (va - 0xF0000000), none⟩)
  else
    match c.translate w va k with
    | (c, .error e) => (c, .error e)
    | (c, .ok e) =>
      let a := e.ppn * 4096 + va % 4096
      if k ≠ .store ∧ c.dev.badRow a then c.eccFault a
      else if c.dev.badLeaf e k then c.eccFault e.leaf
      else if va % size ≠ 0 then (c, .error 8)
      else (c, .ok ⟨a, some e⟩)

/-- `Chip.reach` for a list of addresses in order: the places, or the first fault with its address. -/
def Chip.reachAll (c : Chip) (w : Who) (size : Nat) (k : Access) : List Nat → Chip × Except (Nat × Nat) (List Place)
  | [] => (c, .ok [])
  | va :: vas =>
    match c.reach w va size k with
    | (c, .error e) => (c, .error (e, va))
    | (c, .ok p) =>
      match Chip.reachAll c w size k vas with
      | (c, .error e) => (c, .error e)
      | (c, .ok ps) => (c, .ok (p :: ps))

/-- The D bit is set before the first write through an entry whose D is 0 (R217). -/
def Chip.markDirty (c : Chip) (w : Who) (p : Place) : Chip :=
  match p.entry with
  | none => c
  | some e =>
    if e.d then c
    else
      let l := c.dev.tlb w.tlb
      (c.setLeafBit e.leaf e.ppn 7).onDev
        (·.setTlb w.tlb (l.map fun t => if t.vpn == e.vpn && t.asid == e.asid then { t with d := true } else t))

/-- Store `size` bytes at a place that `Chip.reach` answered. -/
def Chip.storeAt (c : Chip) (w : Who) (p : Place) (size v : Nat) : Chip :=
  let c := c.markDirty w p
  { c with mem := c.mem.store p.key size v }

/-- The number of words `ws` that reach the fault queue, as one packet of control words whose last carries the time
stamp and the end mark (R225). -/
def Dev.pushRecord (d : Dev) (q : Nat) (w0 w1 w2 w3 : Nat) : Dev × Bool :=
  let push := fun (d : Dev) (v : Nat) (e : Bool) (k : Nat) => d.push q ⟨BitVec.ofNat 32 v, e, k⟩ none
  let r0 := push d w0 false 1
  let r1 := push r0.1 w1 false 1
  let r2 := push r1.1 w2 false 1
  let r3 := push r2.1 w3 true 2
  (r3.1, r3.2 == .closed)

/-- Send a fault record to FAULTQ (R225, R226): `w3` is the time at which the fault was recorded. -/
def Dev.faultRecord (d : Dev) (w0 w1 w2 w3 : Nat) : Dev :=
  if d.rd F.MMU_FAULTQ_EN = 0 then d.set F.MMU_EVENTS_FAULTQ_LOST
  else
    let r := d.pushRecord (d.rd F.MMU_FAULTQ_Q) w0 w1 w2 w3
    if r.2 then r.1.set F.MMU_EVENTS_FAULT_EV else r.1.set F.MMU_EVENTS_FAULTQ_LOST

/-- The accesses of context `x` = 4 × core + context (R212, R213). -/
def Dev.whoCtx (d : Dev) (x : Nat) : Who := ⟨x / 4, (d.ctx x).asid, some (x / 4), some x⟩

/-- Context `x` faults precisely: it stops FAULTED with its record sent, and nothing else of the instruction happens
(R222, R224, R226, R262). -/
def Dev.ctxFault (d : Dev) (x cause : Nat) (k : Access) (va : Nat) : Dev :=
  let c := d.ctx x
  let d := d.setCtx x { c with run := .faulted }
  let d := (((d.set (F.X_EVENTS_FAULT_EV (x / 4) (x % 4))).bump (F.X_CNT_COUNT (x / 4) (x % 4) 7) 1).bump
    F.MMU_FAULT_CNT_CORE 1)
  d.faultRecord (cause + k.code * 16 + x / 4 * 4096 + x % 4 * 65536 + c.asid * 2 ^ 20) va c.pc d.nowNs

/-- Which entries an invalidation removes (R220). -/
def InvReq.hits (i : InvReq) (e : TlbEntry) : Bool :=
  match i.op with
  | 1 => e.vpn == i.va / 4096 && (e.g || e.asid == i.asid)
  | 2 => !e.g && e.asid == i.asid
  | 3 => true
  | _ => false

/-- The generation of a unit, which its requests carry and their replies return (R442). -/
def Dev.generation (d : Dev) (kind index : Nat) : Nat := Sparse.get (fun _ => 0) d.sys.jtag.gens (1024 * kind + index)

/-- Start an invalidation (R220); OP 0 does nothing. -/
def Dev.invStart (d : Dev) (op asid va : Nat) (waiter : Option Nat) : Dev :=
  { d.set F.MMU_INV_BUSY with inv := d.inv ++ [⟨op, asid, va, waiter.map fun x => (x, d.generation 4 (x / 4))⟩] }

/-- A write of MMU.INV.GO with the registers' scope (R220). -/
def Dev.invGo (d : Dev) : Dev :=
  if d.inv ≠ [] then d.set F.MMU_EVENTS_INV_DENIED
  else if d.rd F.MMU_INV_OP = 0 then d
  else d.invStart (d.rd F.MMU_INV_OP) (d.rd F.MMU_INV_ASID) (d.rd F.MMU_INV_VA_VA) none

/-- The invalidation in progress completes: every matching entry of every TLB is gone; a waiting TLBINV retires
(R220, R302). -/
def Dev.invDone (d : Dev) : Dev :=
  match d.inv with
  | [] => d
  | i :: is =>
    let d := d.each (List.range 17) fun d n => d.setTlb n ((d.tlb n).filter (fun e => !i.hits e))
    let d := { d with inv := is }
    let d := (d.wr F.MMU_INV_BUSY (bit (decide (is ≠ [])))).set F.MMU_EVENTS_INV_DONE
    match i.waiter with
    | none => d
    | some (x, gen) =>
      if (d.ctx x).stall ∧ d.generation 4 (x / 4) = gen then
        d.setCtx x { d.ctx x with stall := false, pc := ((d.ctx x).pc + 4) % 2 ^ 32 }
      else d

/-- Is context `x` enabled by the layer, and is it privileged (R237, CORE[c].CFG)? -/
def Dev.ctxEnabled (d : Dev) (x : Nat) : Bool := bitAt (d.rd (F.CORE_CFG_CTX_EN (x / 4))) (x % 4)
def Dev.ctxPriv (d : Dev) (x : Nat) : Bool := bitAt (d.rd (F.CORE_CFG_PRIV (x / 4))) (x % 4)

/-- Is context `x` HALTED: its HALT bit set and its state any but OFF (R248)? -/
def Dev.halted (d : Dev) (x : Nat) : Bool :=
  bitAt (d.rd (F.CORE_HALT_HALT (x / 4))) (x % 4) && (d.ctx x).run != .off

/-- Is the unit of this KIND and INDEX held in a unit reset (R442)? -/
def Dev.unitHeld (d : Dev) (kind index : Nat) : Bool := d.sys.jtag.busy.contains (kind, index)

/-- May context `x` issue an instruction: READY or RUNNING, not halted, not waiting on a TLBINV, and its core not in
reset (R238, R302, R442)? -/
def Dev.canIssue (d : Dev) (x : Nat) : Bool :=
  (d.ctx x).run == .ready && !d.halted x && !(d.ctx x).stall && !d.unitHeld 4 (x / 4)

/-- A walk for context `x` at `va` completes: a fill that sets A, or, where the access is architectural, the fault;
a speculative walk that fails is abandoned and reports nothing (R217, R221, R235). -/
def Chip.ctxWalk (c : Chip) (x va : Nat) (k : Access) (spec : Bool) : Chip :=
  if 0xF0000000 ≤ va then c
  else
    let c := c.onDev fun d => d.tlbMiss (d.whoCtx x)
    match c.walk (c.dev.whoCtx x) va k with
    | (c', .ok _) => c'
    | (c', .error e) =>
      if spec || !c.dev.canIssue x then c
      else c'.onDev (·.ctxFault x e k va)

end Sys2Proof.Machine
end

