-- ==== Sys2Proof/Machine/Tasks.lean ====
section
/-! DEFINITION. Contexts, tasks and the block boundary rule (R237 to R263). -/

namespace Sys2Proof.Machine

/-- Replace a context's state by a change of it. -/
def Dev.modCtx (d : Dev) (x : Nat) (f : Ctx → Ctx) : Dev := d.setCtx x (f (d.ctx x))

/-- A context counter: 0 RELEASES, 1 COMPLETED, 2 OVERRUN, 3 LEFTOVER, 4 ABANDON, 5 EXCESS, 6 SHORT, 7 FAULTS (R265). -/
def Dev.ctxCount (d : Dev) (x k n : Nat) : Dev := d.bump (F.X_CNT_COUNT (x / 4) (x % 4) k) n

/-- One word of Saltern at a byte address. -/
def Chip.word (c : Chip) (a : Nat) : Nat := c.mem.load a 4

/-- A list entry word (R243). -/
def listEntry (w : Nat) : ListEntry :=
  ⟨w % 4096, (match bitsAt w 12 2 with | 0 => 1 | 1 => 6 | 2 => 12 | _ => 24), bitAt w 14⟩

/-- Read and judge the task descriptor of context `x` (R242 to R244). -/
def Chip.readDesc (c : Chip) (x : Nat) : DescCopy :=
  let a := c.dev.rd (F.X_DESC_ADDR (x / 4) (x % 4)) / 128 * 128
  let page := c.dev.rd F.QM_REGION_CELLS * 256
  let w := fun i => c.word (a + 4 * i)
  let free := bitAt (w 0) 5
  let n := 2 ^ (w 0 % 4)
  let inA := w 3 % 2 ^ 26
  let inN := bitsAt (w 4) 0 9
  let outN := bitsAt (w 4) 16 9
  let outA := w 5 % 2 ^ 26
  let inW := (List.range inN).map fun i => c.word (inA + 4 * i)
  let outW := (List.range outN).map fun i => c.word (outA + 4 * i)
  let badList := fun (la ln : Nat) (ws : List Nat) =>
    decide (256 < ln) || decide (la % 4 ≠ 0) || (decide (0 < ln) && decide (la < page)) ||
      decide (2 ^ 26 < la + 4 * ln) || ws.any (fun v => decide (2 ^ 15 ≤ v))
  if a < page then .refused
  else if bitAt (w 0) 7 || decide (2 ^ 16 ≤ w 0) || decide (w 6 ≠ 0) || decide (w 7 ≠ 0) then .refused
  else if !free && (decide (n ≤ bitsAt (w 0) 2 3) || badList inA inN inW || badList outA outN outW) then .refused
  else .good
    { free := free, auto := bitAt (w 0) 6, n := n, phase := bitsAt (w 0) 2 3, asid := bitsAt (w 0) 8 8,
      entry := w 1, handler := w 2,
      ins := if free then [] else inW.map listEntry, outs := if free then [] else outW.map listEntry,
      ptrs := (List.range 8).map fun i =>
        ⟨w (8 + 3 * i), w (9 + 3 * i) % 2 ^ 24, w (10 + 3 * i) % 2 ^ 24, bitAt (w (10 + 3 * i)) 31⟩,
      desc := a }

/-- The stream pointers a release loads (R240). -/
def loadPtrs : Nat → List PtrInit → List (Nat × Nat)
  | _, [] => []
  | i, p :: ps =>
    (if p.base = 0 then [] else [(3 * i, p.base)]) ++ (if p.len = 0 then [] else [(3 * i + 1, p.len)]) ++
      (if p.index = 0 then [] else [(3 * i + 2, p.index)]) ++ loadPtrs (i + 1) ps

/-- Is queue `q` a block input (a block output) of the context's periodic task (R279)? -/
def Ctx.blockIn (c : Ctx) (q : Nat) : Option ListEntry :=
  match c.task with
  | some t => if t.free then none else t.ins.find? (fun e => e.queue == q && !e.plain)
  | none => none
def Ctx.blockOut (c : Ctx) (q : Nat) : Option ListEntry :=
  match c.task with
  | some t => if t.free then none else t.outs.find? (fun e => e.queue == q && !e.plain)
  | none => none

/-- BLOCK_TICKS of the context's task. -/
def Ctx.n (c : Ctx) : Nat := match c.task with | some t => t.n | none => 1

/-- The context zeroed under R240 for task `t`, at its entry (R247). -/
def Ctx.zeroed (c : Ctx) (t : Task) : Ctx :=
  { Ctx.init with p := loadPtrs 0 t.ptrs, pc := t.entry, asid := t.asid, run := .ready, task := some t, copy := c.copy,
                  outSlots := c.outSlots.filter (fun s => s.2.isOpen && (c.blockOut s.1).isNone),
                  lastRel := c.lastRel, popping := c.popping, made := c.made }

/-- Progress on a block input, on an output. -/
def Ctx.inSlot (c : Ctx) (q : Nat) : InSlot := Sparse.get (fun _ => ⟨0, false⟩) c.inSlots q
def Ctx.setInSlot (c : Ctx) (q : Nat) (s : InSlot) : Ctx :=
  { c with inSlots := Sparse.set (fun _ => ⟨0, false⟩) c.inSlots q s }
def Ctx.outSlot (c : Ctx) (q : Nat) : OutSlot := Sparse.get (fun _ => ⟨0, 0, false, false, false⟩) c.outSlots q
def Ctx.setOutSlot (c : Ctx) (q : Nat) (s : OutSlot) : Ctx :=
  { c with outSlots := Sparse.set (fun _ => ⟨0, 0, false, false, false⟩) c.outSlots q s,
           made := if c.made.contains q then c.made else q :: c.made }

/-- Count packets popped by the dispatcher in LEFTOVER (R253, R256). -/
def Dev.leftover (d : Dev) (x n : Nat) : Dev :=
  if n = 0 then d else (d.ctxCount x 3 n).set (F.X_EVENTS_LEFTOVER_EV (x / 4) (x % 4))

/-- Pop every packet of context `x`'s block inputs that arrived before tick `t` (R253, R256). -/
def Dev.popLeftovers (d : Dev) (x t : Nat) (ins : List ListEntry) : Dev :=
  ins.foldl (fun d e =>
    if e.plain then d
    else
      let r := d.dropPackets e.queue (fun p => match p.arrival with | some a => decide (a < t) | none => false)
      r.1.leftover x r.2) d

/-- A periodic task is released at the present boundary (R245, R247, R253). -/
def Dev.release (d : Dev) (x : Nat) (t : Task) : Dev :=
  let d := d.modCtx x fun c => { c.zeroed t with release := d.tick, lastRel := some d.tick }
  let d := (d.ctxCount x 0 1).wr (F.X_STATE_TICKNUM (x / 4) (x % 4)) d.tickNo
  d.popLeftovers x (d.tick - t.n) t.ins

/-- Is context `x` due for release at the present boundary (R245, R246)? -/
def Dev.dueRelease (d : Dev) (x : Nat) : Option Task :=
  let c := d.ctx x
  match c.copy with
  | .good t =>
    if !t.free && d.ctxEnabled x && c.run == .idle && !d.unitHeld 4 (x / 4) && d.tickNo % t.n == t.phase &&
        (match c.lastRel with | none => true | some l => decide (l + t.n ≤ d.tick)) then some t else none
  | _ => none

/-- Is a block of a periodic task running on context `x`? -/
def Dev.blockRunning (d : Dev) (x : Nat) : Bool :=
  let c := d.ctx x
  (match c.task with | some t => !t.free | none => false) &&
    (c.run == .ready || c.run == .yielded || c.run == .faulted)

/-- The record of a fault of channel `ch` with its four words goes to FAULTQ (R225, R231). -/
def Dev.dmaRecord (d : Dev) (ch : Nat) (r : List Nat) : Dev :=
  (d.faultRecord (r.getD 0 0) (r.getD 1 0) (r.getD 2 0) (r.getD 3 0)).wr (F.DMA_STATUS_DELIVERED ch) 2

/-- DMA-fault exceptions that the task did not take are sent as records as it ends (R231). -/
def Dev.flushDmaExc (d : Dev) (x : Nat) : Dev :=
  ((d.ctx x).dmaExc.foldl (fun d e => d.dmaRecord e.ch e.words) d).modCtx x fun c => { c with dmaExc := [] }

/-- Abandon the open packets of the task's block outputs, counting each (R256). -/
def Dev.abandonOutputs (d : Dev) (x : Nat) (outs : List ListEntry) : Dev :=
  outs.foldl (fun d e =>
    if e.plain || !((d.ctx x).outSlot e.queue).isOpen then d
    else
      let had := decide ((d.q e.queue).openWords ≠ [])
      let d := if ((d.ctx x).outSlot e.queue).excess then d else d.abandonOpen e.queue
      let d := d.modCtx x fun c => c.setOutSlot e.queue { c.outSlot e.queue with isOpen := false }
      d.when had fun d => (d.ctxCount x 4 1).set (F.X_EVENTS_ABANDON_EV (x / 4) (x % 4))) d

/-- End actions 1 and 2 of R256, and the exceptions of R231. -/
def Dev.endActions (d : Dev) (x : Nat) : Dev :=
  let c := d.ctx x
  match c.task with
  | none => d
  | some t => ((d.popLeftovers x c.release t.ins).abandonOutputs x t.outs).flushDmaExc x

/-- Count SHORT for each block output closed fewer than N × PPT times (R255). -/
def Dev.countShort (d : Dev) (x : Nat) (t : Task) : Dev :=
  t.outs.foldl (fun d e =>
    if !e.plain && decide (((d.ctx x).outSlot e.queue).closed < t.n * e.ppt) then
      (d.ctxCount x 6 1).set (F.X_EVENTS_SHORT_EV (x / 4) (x % 4))
    else d) d

/-- Write back the stream indices whose WB is 1: into the descriptor and into the dispatcher's copy (R259). -/
def Chip.writeBack (c : Chip) (x : Nat) (t : Task) : Chip :=
  let idx := fun i => Sparse.get (fun _ => 0) (c.dev.ctx x).p (3 * i + 2)
  let mem := (List.range 8).foldl (fun m i =>
    match t.ptrs[i]? with
    | some p => if p.wb then Mem.store m (t.desc + 4 * (10 + 3 * i)) 4 (idx i + 2 ^ 31) else m
    | none => m) c.mem
  let d := c.dev.modCtx x fun k => { k with copy := match k.copy with
    | .good u => if u.desc = t.desc then
        .good { u with ptrs := u.ptrs.mapIdx fun i q =>
          if (t.ptrs[i]?).any (·.wb) then { q with index := idx i } else q }
      else .good u
    | o => o }
  ⟨d, mem⟩

/-- A periodic block completes by WAITTICK (R256, R257, R259). -/
def Chip.complete (c : Chip) (x : Nat) : Chip :=
  match (c.dev.ctx x).task with
  | none => c
  | some t =>
    let c := (c.onDev fun d => (d.endActions x).countShort x t).writeBack x t
    c.onDev fun d =>
      let run := min (Config.blockCycles d.freeCtr) 0xFFFF
      let d := { d with freeCtr := d.freeCtr + 1 }
      let d := (d.ctxCount x 1 1).wr (F.X_RUNTIME_LAST (x / 4) (x % 4)) run
      let d := d.wr (F.X_RUNTIME_MAX (x / 4) (x % 4)) (max run (d.rd (F.X_RUNTIME_MAX (x / 4) (x % 4))))
      d.modCtx x fun k => { k with run := .idle }

/-- A periodic task that has not completed at its deadline is stopped and counted (R258). -/
def Dev.overrun (d : Dev) (x : Nat) : Dev :=
  let d := (d.ctxCount x 2 1).set (F.X_EVENTS_OVERRUN_EV (x / 4) (x % 4))
  let d := (d.wr (F.X_RUNTIME_MAX (x / 4) (x % 4)) 0xFFFF).endActions x
  d.modCtx x fun k => { k with run := .idle, stall := false }

/-- The deadline of context `x`'s block: it acts on a block that still runs (R257, R258). -/
def Dev.taskDeadline (d : Dev) (x : Nat) : Dev := if d.blockRunning x then d.overrun x else d

/-- A drain ends a running block with end actions 1 and 2 and counts nothing (R52). -/
def Dev.drainBlock (d : Dev) (x : Nat) : Dev :=
  if d.blockRunning x then (d.endActions x).modCtx x fun k => { k with run := .idle, stall := false } else d

/-- X[x].CMD.START (R248): a free task starts from OFF, zeroed; a refused descriptor sets DESC_ERR (R244). -/
def Chip.taskStart (c : Chip) (x : Nat) : Chip :=
  if !c.dev.ctxEnabled x || (c.dev.ctx x).run != .off then c
  else match c.readDesc x with
    | .good t => if t.free then c.onDev fun d => d.modCtx x fun k => k.zeroed t else c
    | _ => c.onDev fun d => d.set (F.X_EVENTS_DESC_ERR (x / 4) (x % 4))

/-- X[x].CMD.STOP (R248): a free task goes OFF from any state and its open packets are abandoned. -/
def Dev.taskStop (d : Dev) (x : Nat) : Dev :=
  let c := d.ctx x
  if (match c.task with | some t => t.free | none => false) && c.run != .off then
    let d := (c.outSlots.filter (·.2.isOpen)).foldl (fun d s => d.abandonOpen s.1) d
    (d.flushDmaExc x).modCtx x fun k => { k with run := .off, outSlots := [], stall := false }
  else d

/-- MMU.CRES.RESUME (R224). -/
def Dev.ctxResume (d : Dev) (x : Nat) : Dev :=
  if (d.ctx x).run == .faulted && !d.halted x then d.modCtx x fun k => { k with run := .ready }
  else d.set F.MMU_EVENTS_CRES_STALE

/-- MMU.CRES.ABORT (R224, R248). -/
def Dev.ctxAbort (d : Dev) (x : Nat) : Dev :=
  if (d.ctx x).run == .faulted && !d.halted x then
    let free := match (d.ctx x).task with | some t => t.free | none => true
    (d.endActions x).modCtx x fun k => { k with run := if free then .off else .idle }
  else d.set F.MMU_EVENTS_CRES_STALE

/-- At a boundary, contexts in TICKWAIT and YIELDED become ready; a halted one keeps the state it had (R248). -/
def Dev.wake (d : Dev) (x : Nat) : Dev :=
  if d.halted x then d
  else d.modCtx x fun k => if k.run == .tickwait || k.run == .yielded then { k with run := .ready } else k

/-- The dispatcher reads context `x`'s descriptor into its copy; `told` has a refusal set DESC_ERR (R244). -/
def Chip.dispatchRead (c : Chip) (x : Nat) (told : Bool) : Chip :=
  if c.dev.ctxEnabled x then
    let t := c.readDesc x
    c.onDev fun d => (d.modCtx x fun k => { k with copy := t }).when (told && t == .refused)
      (·.set (F.X_EVENTS_DESC_ERR (x / 4) (x % 4)))
  else c

/-- Would context `x` be released at the next boundary, by the PERIOD and PHASE that its descriptor now names (R245,
R246)? Where they name no boundary, every boundary counts (DESIGN CHOICE: notes/assumptions/158.md). -/
def Chip.nextRelease (c : Chip) (x : Nat) : Bool :=
  let w := c.word (c.dev.rd (F.X_DESC_ADDR (x / 4) (x % 4)) / 128 * 128)
  let n := 2 ^ (w % 4)
  let ph := bitsAt w 2 3
  (decide (n ≤ ph) || (c.dev.tickNo + 1) % n == ph) &&
    match (c.dev.ctx x).lastRel with
    | none => true
    | some l => decide (l + n ≤ c.dev.tick + 1)

/-- Does context `x` wait for the releases of a periodic task, or run one? A free task's descriptor is read at its start
alone. -/
def Ctx.periodic (k : Ctx) : Bool :=
  k.restart || (k.run != .off && match k.task with | some t => !t.free | none => true)

/-- The reads of the tick that begins: each periodic task's descriptor and lists as they stand at the boundary, which
the release at the next one takes (R244). A refusal is told in the tick before a release. -/
def Chip.reads (c : Chip) : Chip :=
  (List.range 64).foldl (fun c x => if (c.dev.ctx x).periodic then c.dispatchRead x (c.nextRelease x) else c) c

/-- Every context in order of number. -/
def allCtx : List Nat := List.range 64

/-- A context under a new layer, or after its core's reset (R248, R444): a periodic task waits in IDLE for its release,
and a free task with AUTO starts. -/
def Ctx.begin (k : Ctx) : Ctx :=
  match k.copy with
  | .good t => if t.free then (if t.auto then k.zeroed t else { k with restart := false })
               else { k with run := .idle, restart := false }
  | _ => k

/-- The deadline check of every block released before the boundary whose number is `d.tick` (R23, R257, R258). -/
def Dev.deadlines (d : Dev) : Dev :=
  d.each allCtx fun d x => if d.blockRunning x && decide ((d.ctx x).release < d.tick) then d.overrun x else d

/-- The releases of the boundary whose number is `d.tick`, and the reads for the next one (R23, R244, R247, R248). A
context that its core's reset stopped restarts from its descriptor as it stands (R442, R444). -/
def Chip.releases (c : Chip) : Chip :=
  let c := c.onDev fun d => d.each allCtx fun d x =>
    match d.dueRelease x with
    | some t => d.release x t
    | none => d
  let c := allCtx.foldl (fun c x =>
    if (c.dev.ctx x).restart && !c.dev.unitHeld 4 (x / 4) then
      (c.dispatchRead x true).onDev fun d => d.modCtx x Ctx.begin
    else c) c
  c.reads

/-- Note whether context `x` stands inside a packet of the plain queue `q` after popping the word `w` (R443). -/
def Ctx.notePop (c : Ctx) (q : Nat) (w : Popped) : Ctx :=
  if w.v then { c with popping := (c.popping.filter (· != q)) ++ (if w.e then [] else [q]) } else c

/-- A pop by context `x` (R252, R279, R280). -/
def Dev.ctxPop (d : Dev) (x q : Nat) : Dev × Popped :=
  let c := d.ctx x
  match c.blockIn q with
  | none =>
    let r := d.pop q
    (r.1.modCtx x fun c => c.notePop q r.2, r.2)
  | some e =>
    let s := c.inSlot q
    let dead := (d.q q).err || decide (d.rd (F.Q_CFG_EN q) = 0)
    let find := fun (k : Nat) => (d.q q).packets.findIdx? fun p =>
      match p.arrival with
      | some a => a + c.n == c.release + k / e.ppt && p.ord == k % e.ppt
      | none => false
    let k := if s.inSlot then s.reached - 1 else s.reached
    if !s.inSlot && decide (c.n * e.ppt ≤ s.reached) then d.notValid q (if dead then 2 else 0)
    else
      let r := if dead then d.notValid q 2
               else match find k with
                 | some i => d.takeWord q i
                 | none => d.notValid q (d.emptyReason q)
      (r.1.modCtx x fun c => c.setInSlot q ⟨k + 1, r.2.v && !r.2.e⟩, r.2)

/-- PKTCNT's count for context `x` (R252, R282): filled slots not yet reached, or the consumer's view. -/
def Dev.ctxCountOf (d : Dev) (x q : Nat) : Nat :=
  let c := d.ctx x
  match c.blockIn q with
  | none => min (d.viewCount q) 0xFFFF
  | some e => ((d.q q).packets.filter fun p => match p.arrival with
      | some a => decide (a < c.release) && decide (c.release ≤ a + c.n) && decide (p.ord < e.ppt) &&
          decide ((c.inSlot q).reached ≤ (a + c.n - c.release) * e.ppt + p.ord)
      | none => false).length

/-- A push by context `x` (R254, R255, R279, R281). -/
def Dev.ctxPush (d : Dev) (x q : Nat) (w : QWord) : Dev :=
  let c := d.ctx x
  let s := c.outSlot q
  match c.blockOut q with
  | none =>
    ((d.push q w none).1).modCtx x fun c => c.setOutSlot q { s with isOpen := !w.e }
  | some e =>
    let fresh := !s.isOpen
    let excess := if fresh then decide (c.n * e.ppt ≤ s.begun) else s.excess
    let begun := if fresh && !excess then s.begun + 1 else s.begun
    if excess then
      let d := d.when fresh fun d => (d.ctxCount x 5 1).set (F.X_EVENTS_EXCESS_EV (x / 4) (x % 4))
      d.modCtx x fun c => c.setOutSlot q { s with isOpen := !w.e, excess := true }
    else
      let r := d.push q w (some (c.release + 1 + (begun - 1) / e.ppt))
      r.1.modCtx x fun c => c.setOutSlot q
        { begun := begun, closed := if r.2 == .closed then s.closed + 1 else s.closed, isOpen := !w.e,
          excess := false, lost := r.2 == .dropped }

/-- The DMA-fault exception (R263): taken at an instruction boundary by a context that has a handler and is in none. -/
def Dev.dmaException (d : Dev) (x : Nat) : Dev :=
  let c := d.ctx x
  let h := match c.task with | some t => t.handler | none => 0
  match c.dmaExc with
  | [] => d
  | e :: rest =>
    if !d.canIssue x || bitAt c.ecause 31 || h == 0 then d
    else (d.modCtx x fun c => { c with epc := c.pc, ecause := c.ecause / 32 % 2 ^ 26 * 32 + e.ch + 2 ^ 31,
                                       pc := h, dmaExc := rest }).set (F.X_EVENTS_DMAEXC_EV (x / 4) (x % 4))

/-- The fetch of the instruction at context `x`'s PC (R213, R266, R298, R303): the chip and whether it succeeded. A
line of the instruction cache needs no translation; a line fetched fills it. EPC holds a misaligned target. -/
def Chip.fetchWord (c : Chip) (x : Nat) : Chip × Bool :=
  let k := c.dev.ctx x
  let core := x / 4
  let line := (k.asid, k.pc / 64)
  let ls := c.dev.lines core
  if k.pc % 4 = 0 ∧ ls.contains line then (c.onDev fun d => d.setLines core (line :: ls.erase line), true)
  else
    match c.reach (c.dev.whoCtx x) k.pc 4 .fetch with
    | (c, .error e) =>
      let c := if e = 8 then c.onDev fun d => d.modCtx x fun k => { k with epc := k.pc } else c
      (c.onDev fun d => d.ctxFault x e .fetch k.pc, false)
    | (c, .ok p) =>
      (if p.entry.isSome then c.onDev fun d => d.setLines core ((line :: ls).take 1024) else c, true)

/-- An issue of context `x` counts in its performance counters 0 to 2, by amounts that are free (R265, `perfAdds`): the
place of each is kept until the counter is written or reset. -/
def Dev.perfIssue (d : Dev) (x : Nat) : Dev :=
  { d with perf := [(4 * x, d.freeCtr), (4 * x + 1, d.freeCtr), (4 * x + 2, d.freeCtr)] ++ d.perf,
           freeCtr := d.freeCtr + 2 }

/-- Fetch the instruction at context `x`'s PC, counting the issue of one fetched. -/
def Chip.fetch (c : Chip) (x : Nat) : Chip × Bool :=
  match c.fetchWord x with
  | (c, true) => (c.onDev (·.perfIssue x), true)
  | (c, false) => (c, false)

/-- Is context `x` running: the highest of its core's contexts that may issue, and not FAULTED (R231, R238, R248)? -/
def Dev.running (d : Dev) (x : Nat) : Bool :=
  d.canIssue x && (List.range (x % 4)).all fun i => !d.canIssue (x / 4 * 4 + i)

/-- Does context `x` get the cycle (R238)? The highest ready one does; one below it only where all above it are
stalled for that cycle, which the spec allows for any cause: a free value (log 172). -/
def Dev.getsCycle (d : Dev) (x : Nat) : Bool × Dev :=
  if d.running x then (true, d)
  else if d.canIssue x then (d.fresh.1 % 2 == 1, d.fresh.2)
  else (false, d)

/-- Issue one instruction of context `x`: it acts only if the context gets the cycle and its fetch does not fault. -/
def Chip.issue (c : Chip) (x : Nat) (f : Chip → Chip) : Chip :=
  let g := c.dev.getsCycle x
  let c := { c with dev := g.2 }
  if g.1 then
    match c.fetch x with
    | (c, true) => f c
    | (c, false) => c
  else c

end Sys2Proof.Machine
end

