-- ==== Sys2Proof/Machine/DmaEngine.lean ====
section
/-! DEFINITION. DMA channels: descriptors, transfers, commands and the delivery of faults (R227 to R234). -/

namespace Sys2Proof.Machine

/-- Channel states of STATUS.STATE (R231). -/
def dmaIdle : Nat := 0
def dmaRunning : Nat := 1
def dmaFaulted : Nat := 2
def dmaError : Nat := 3

/-- A channel's state. -/
def Dev.dmaState (d : Dev) (ch : Nat) : Nat := d.rd (F.DMA_STATUS_STATE ch)

/-- The fields of a descriptor (R227). -/
structure Desc where
  mode    : Nat
  endE    : Bool
  k       : Nat
  stopE   : Bool
  irq     : Bool
  last    : Bool
  pan     : Option Nat
  asid    : Nat
  src     : Nat
  dst     : Nat
  len     : Nat
  queue   : Nat
  next    : Nat
  deriving DecidableEq, Repr

/-- Read a descriptor's words (R227). -/
def Desc.of (ws : List Nat) : Desc :=
  let w := fun i => ws.getD i 0
  { mode := bitsAt (w 0) 0 2, endE := bitAt (w 0) 2, k := bitsAt (w 0) 3 2, stopE := bitAt (w 0) 5,
    irq := bitAt (w 0) 6, last := bitAt (w 0) 7,
    pan := if bitAt (w 0) 8 then some (bitsAt (w 0) 9 4) else none, asid := bitsAt (w 0) 16 8,
    src := w 1, dst := w 2, len := w 3 % 2 ^ 24, queue := w 4 % 4096, next := w 5 }

/-- Is the descriptor refused (R228)? -/
def Desc.refused (t : Desc) : Bool :=
  t.mode == 3 || t.k == 3 || t.len == 0 || (decide (t.mode ≠ 0) && decide (t.len % 4 ≠ 0)) ||
    (t.mode == 1 && decide (t.src % 4 ≠ 0)) || (t.mode == 2 && decide (t.dst % 4 ≠ 0))

/-- Who fetches a channel's descriptors, and who makes its data accesses (R228). -/
def Dev.whoDesc (d : Dev) (ch : Nat) : Who := ⟨16, d.rd (F.DMA_CTL_ASID ch), none, none⟩
def Desc.who (t : Desc) : Who := ⟨16, t.asid, t.pan, none⟩

/-- The words of the record of a channel's fault with its cause, place and address, W3 the time of the fault (R225): a
fault in the store of W6 is a write at the descriptor. -/
def Dev.dmaFaultWords (d : Dev) (ch cause place va : Nat) : List Nat :=
  let m := d.dma ch
  let asid := if place = 0 then d.rd (F.DMA_CTL_ASID ch) else bitsAt (m.cur.headD 0) 16 8
  let acc := match place with | 0 => (if m.ended.isSome then 1 else 3) | 1 => 0 | _ => 1
  [cause + acc * 16 + 64 + ch * 128 + place * 2 ^ 18 + asid * 2 ^ 20, va, d.rd (F.DMA_DONE_BYTES_BYTES ch), d.nowNs]

/-- A channel faults (R231): its registers, the delivery to a running owner or to FAULTQ. -/
def Dev.dmaFault (d : Dev) (ch cause place va : Nat) : Dev :=
  let words := d.dmaFaultWords ch cause place va
  let d := d.setDma ch { d.dma ch with fault := words }
  let d := (((d.wr (F.DMA_STATUS_STATE ch) dmaFaulted).wr (F.DMA_STATUS_CAUSE ch) cause).wr
    (F.DMA_STATUS_WHERE ch) place).wr (F.DMA_FAULT_VA_VA ch) va
  let d := (d.set (F.DMA_EVENTS_FAULT_EV ch)).bump F.MMU_FAULT_CNT_DMA 1
  let owner := d.rd (F.DMA_CTL_OWNER_CORE ch) * 4 + d.rd (F.DMA_CTL_OWNER_CTX ch)
  if d.running owner then
    (d.modCtx owner fun c => { c with dmaExc := c.dmaExc ++ [⟨ch, words⟩] }).wr (F.DMA_STATUS_DELIVERED ch) 1
  else d.dmaRecord ch words

/-- Load the eight words of the descriptor at `va` (R227, R228). -/
def Chip.readDescriptor (c : Chip) (ch va : Nat) : Chip × Except (Nat × Nat) (List Nat × Bool) :=
  if va % 32 ≠ 0 then
    match c.reach (c.dev.whoDesc ch) va 1 .desc with
    | (c, .error e) => (c, .error (e, va))
    | (c, .ok _) => (c, .error (8, va))
  else
    match c.reachAll (c.dev.whoDesc ch) 4 .desc ((List.range 8).map fun i => va + 4 * i) with
    | (c, .error e) => (c, .error e)
    | (c, .ok ps) =>
      (c, .ok (ps.map fun p => c.mem.load p.key 4,
        ps.any fun p => match p.entry with | some e => e.s | none => false))

/-- Fetch up to `n` descriptors ahead along NEXT, never from an S page nor past a LAST one; a failing prefetch is not
reported (R233). -/
def Chip.prefetch (ch : Nat) : Nat → Desc → Chip → Chip
  | 0, _, c => c
  | n + 1, t, c =>
    if t.last then c
    else match c.readDescriptor ch t.next with
      | (_, .error _) => c
      | (c', .ok (ws, s)) =>
        if s then c
        else
          let c'' := c'.onDev fun d =>
            d.setDma ch { d.dma ch with prefetch := (d.dma ch).prefetch ++ [(t.next, ws)] }
          Chip.prefetch ch n (Desc.of ws) c''

/-- Write W6 of the current descriptor (R227); the channel's answer says whether its page took it. -/
def Chip.writeW6 (c : Chip) (ch bytes : Nat) (endedE : Bool) (code : Nat) : Chip × Except Nat Unit :=
  let va := c.dev.rd (F.DMA_CUR_VA ch) + 24
  match c.reach (c.dev.whoDesc ch) va 4 .store with
  | (c, .error e) => (c, .error e)
  | (c, .ok p) =>
    (c.storeAt (c.dev.whoDesc ch) p 4 (bytes + bit endedE * 2 ^ 24 + code * 2 ^ 25 + 2 ^ 31), .ok ())

/-- The channel fetches its current descriptor: a fault, a refusal with CODE 2, or the start of its work
(R228, R231, R233). -/
def Chip.dmaFetch (c : Chip) (ch : Nat) : Chip :=
  let m := c.dev.dma ch
  if c.dev.dmaState ch ≠ dmaRunning ∨ m.cur ≠ [] then c
  else
    let va := c.dev.rd (F.DMA_CUR_VA ch)
    let got := match m.prefetch.find? (fun p => p.1 == va) with
      | some p => (c, Except.ok (p.2, false))
      | none => c.readDescriptor ch va
    match got with
    | (c, .error e) => c.onDev fun d => (d.wr (F.DMA_DONE_BYTES_BYTES ch) 0).dmaFault ch e.1 0 e.2
    | (c, .ok (ws, _)) =>
      let t := Desc.of ws
      let c := c.onDev fun d =>
        (d.setDma ch { d.dma ch with prefetch := (d.dma ch).prefetch.filter (fun p => p.1 != va) }).wr
          (F.DMA_DONE_BYTES_BYTES ch) 0
      if t.refused then
        (c.writeW6 ch 0 false 2).1.onDev fun d =>
          (d.wr (F.DMA_STATUS_STATE ch) dmaError).set (F.DMA_EVENTS_ERR_EV ch)
      else
        let n := Config.dmaPrefetch c.dev.freeCtr % 3
        let c := c.onDev fun d =>
          { d.setDma ch { d.dma ch with cur := ws } with freeCtr := d.freeCtr + 1 }
        if m.prefetch = [] then c.prefetch ch n t else c

/-- How the transfer of a descriptor ends: finished with a code and whether on an end mark, a fault, or an empty
queue. -/
inductive DmaEnd where
  | finished (code : Nat) (endedE : Bool)
  | fault (cause place va : Nat)
  | empty
  deriving DecidableEq, Repr

/-- A mode-1 word has gone to queue `q`: its packet is open there until an end mark (R229, STATUS.OPEN). -/
def Dev.dmaOpen (d : Dev) (ch q : Nat) (e : Bool) : Dev :=
  let l := (d.dma ch).opens.filter (· != q)
  let l := if e then l else q :: l
  (d.setDma ch { d.dma ch with opens := l }).wr (F.DMA_STATUS_OPEN ch) (bit (decide (l ≠ [])))

/-- Move the rest of a descriptor's data: `n` units (bytes in mode 0, words in modes 1 and 2) from byte `off` on
(R229, R230). -/
def Chip.dmaMove (ch : Nat) (t : Desc) : Nat → Nat → Chip → Chip × DmaEnd
  | 0, _, c => (c, .finished 0 false)
  | n + 1, off, c =>
    let adv := fun (c : Chip) (b : Nat) => c.onDev fun d => d.wr (F.DMA_DONE_BYTES_BYTES ch) (off + b)
    match t.mode with
    | 0 =>
      let sva := (t.src + off) % 2 ^ 32
      let dva := (t.dst + off) % 2 ^ 32
      match c.reach t.who sva 1 .load with
      | (c, .error e) => (c, .fault e 1 sva)
      | (c, .ok p) =>
        match c.reach t.who dva 1 .store with
        | (c, .error e) => (c, .fault e 2 dva)
        | (c, .ok q) => Chip.dmaMove ch t n (off + 1) (adv (c.storeAt t.who q 1 (c.mem.load p.key 1)) 1)
    | 1 =>
      let sva := (t.src + off) % 2 ^ 32
      match c.reach t.who sva 4 .load with
      | (c, .error e) => (c, .fault e 1 sva)
      | (c, .ok p) =>
        let e := t.endE && n == 0
        let w : QWord := ⟨BitVec.ofNat 32 (c.mem.load p.key 4), e, t.k⟩
        let c := c.onDev fun d => ((d.push t.queue w none).1).dmaOpen ch t.queue e
        Chip.dmaMove ch t n (off + 4) (adv c 4)
    | _ =>
      let dva := (t.dst + off) % 2 ^ 32
      match c.reach t.who dva 4 .store with
      | (c, .error e) => (c, .fault e 2 dva)
      | (c, .ok q) =>
        let r := c.dev.pop t.queue
        let c := { c with dev := r.1 }
        if r.2.v then
          let c := adv (c.storeAt t.who q 4 r.2.data.toNat) 4
          if t.stopE && r.2.e then (c, .finished 0 true)
          else if n = 0 then (c, .finished 0 r.2.e)
          else Chip.dmaMove ch t n (off + 4) c
        else if r.2.data.toNat % 256 = 0 then (c, .empty)
        else (c, .finished 3 false)

/-- Run the current descriptor from DONE_BYTES on, unless its transfer has ended already and only W6 is to be written
(R229, R232). -/
def Chip.dmaRun (c : Chip) (ch : Nat) : Chip × DmaEnd :=
  let t := Desc.of (c.dev.dma ch).cur
  let off := c.dev.rd (F.DMA_DONE_BYTES_BYTES ch)
  match (c.dev.dma ch).ended with
  | some (code, e) => (c, .finished code e)
  | none => Chip.dmaMove ch t ((t.len - off) / (if t.mode = 0 then 1 else 4)) off c

/-- Does the channel hold a descriptor to run? -/
def Dev.dmaBusy (d : Dev) (ch : Nat) : Bool := decide (d.dmaState ch = dmaRunning) && decide ((d.dma ch).cur ≠ [])

/-- The descriptor is done with: W6 written, then on to NEXT or IDLE (R231); a page that refuses W6 faults the channel,
which keeps how the transfer ended. -/
def Chip.dmaFinish (c : Chip) (ch code : Nat) (endedE : Bool) : Chip :=
  let t := Desc.of (c.dev.dma ch).cur
  let va := c.dev.rd (F.DMA_CUR_VA ch) + 24
  match c.writeW6 ch (c.dev.rd (F.DMA_DONE_BYTES_BYTES ch)) endedE code with
  | (c, .error e) => c.onDev fun d =>
      (d.setDma ch { d.dma ch with ended := some (code, endedE) }).dmaFault ch e 0 va
  | (c, .ok _) => c.onDev fun d =>
      let d := (d.when t.irq (·.set (F.DMA_EVENTS_DONE_EV ch))).when (code == 0) (·.bump (F.DMA_CNT_DESCS ch) 1)
      let d := d.setDma ch { d.dma ch with cur := [], ended := none }
      if t.last then
        (((d.wr (F.DMA_STATUS_STATE ch) dmaIdle).set (F.DMA_EVENTS_CHAIN_END ch)).wr (F.DMA_DESC_VA ch) 0).setDma ch
          (d.dma ch).rest
      else (d.wr (F.DMA_CUR_VA ch) t.next).wr (F.DMA_DONE_BYTES_BYTES ch) 0

/-- A descriptor finishes (R229, R231): it acts when the transfer comes to its end. -/
def Chip.dmaDescComplete (c : Chip) (ch : Nat) : Chip :=
  if c.dev.dmaBusy ch then
    match c.dmaRun ch with
    | (c', .finished code e) => c'.dmaFinish ch code e
    | _ => c
  else c

/-- A channel faults in its transfer (R231): it acts when the transfer meets a fault. -/
def Chip.dmaFaultNow (c : Chip) (ch : Nat) : Chip :=
  if c.dev.dmaBusy ch then
    match c.dmaRun ch with
    | (c', .fault cause place va) => c'.onDev fun d => d.dmaFault ch cause place va
    | _ => c
  else c

/-- A mode-2 channel retries the pop of an empty queue (R229): what could be moved has been, and it waits again. -/
def Chip.dmaPopRetry (c : Chip) (ch : Nat) : Chip :=
  if c.dev.dmaBusy ch then
    match c.dmaRun ch with
    | (c', .empty) => c'
    | _ => c
  else c

/-- A command was ignored (R231). -/
def Dev.dmaIgnored (d : Dev) (ch : Nat) : Dev := d.set (F.DMA_EVENTS_CMD_IGNORED ch)

/-- KICK (R231, R233). -/
def Dev.dmaKick (d : Dev) (ch : Nat) : Dev :=
  if d.dmaState ch = dmaIdle then
    (((d.wr (F.DMA_STATUS_STATE ch) dmaRunning).wr (F.DMA_CUR_VA ch) (d.rd (F.DMA_DESC_VA ch) / 32 * 32)).wr
      (F.DMA_DONE_BYTES_BYTES ch) 0).setDma ch (d.dma ch).rest
  else if d.dmaState ch = dmaRunning then d.setDma ch { d.dma ch with prefetch := [] }
  else d.dmaIgnored ch

/-- FENCE (R231, R233). -/
def Dev.dmaFence (d : Dev) (ch : Nat) : Dev :=
  if d.dmaState ch = dmaRunning then d.setDma ch { d.dma ch with prefetch := [] } else d.dmaIgnored ch

/-- RESUME (R231, R232). -/
def Dev.dmaResume (d : Dev) (ch : Nat) : Dev :=
  if d.dmaState ch = dmaFaulted then d.wr (F.DMA_STATUS_STATE ch) dmaRunning else d.dmaIgnored ch

/-- ABORT (R231, R234). -/
def Chip.dmaAbort (c : Chip) (ch : Nat) : Chip :=
  let st := c.dev.dmaState ch
  if st = dmaRunning ∨ st = dmaFaulted then
    ((c.writeW6 ch (c.dev.rd (F.DMA_DONE_BYTES_BYTES ch)) false 1).1).onDev fun d =>
      let d := (d.each (d.dma ch).opens Dev.abandonOpen).wr (F.DMA_STATUS_OPEN ch) 0
      (d.wr (F.DMA_STATUS_STATE ch) dmaIdle).setDma ch { (d.dma ch).rest with opens := [] }
  else if st = dmaError then c.onDev fun d =>
    ((d.wr (F.DMA_STATUS_STATE ch) dmaIdle).wr (F.DMA_EVENTS_ERR_EV ch) 0).setDma ch (d.dma ch).rest
  else c

/-- The commands of DMA[ch].CMD in bits 3..0 (R231): ABORT takes effect over the others, which are ignored. -/
def Chip.dmaCmd (c : Chip) (ch v : Nat) : Chip :=
  if bitAt v 3 then (c.dmaAbort ch).onDev fun d => d.when (decide (v % 8 ≠ 0)) (·.dmaIgnored ch)
  else c.onDev fun d =>
    ((d.when (bitAt v 0) (·.dmaKick ch)).when (bitAt v 1) (·.dmaFence ch)).when (bitAt v 2) (·.dmaResume ch)

end Sys2Proof.Machine
end

