-- ==== Sys2Proof/Machine/Formats.lean ====
section
/-! DEFINITION. Rounding, the compact sample formats and the auto-scale reciprocals (R129, R152 to R163). -/

namespace Sys2Proof.Machine

/-- Round-half-even of `x / 2^e` (R154, R162). -/
def rhe (x : Int) (e : Nat) : Int :=
  if e = 0 then x
  else
    let q := x / 2 ^ e
    let r := x % 2 ^ e
    if r > 2 ^ (e - 1) ∨ (r = 2 ^ (e - 1) ∧ q % 2 = 1) then q + 1 else q

/-- Does `x` lie outside the signed range of `w` bits? -/
def outOf (w : Nat) (x : Int) : Bool := decide (x < -(2 ^ (w - 1)) ∨ 2 ^ (w - 1) - 1 < x)

/-- The nearest value in the signed range of `w` bits. -/
def satTo (w : Nat) (x : Int) : Int := clampInt (-(2 ^ (w - 1))) (2 ^ (w - 1) - 1) x

/-- A Q1.31 word rounded to its top `b` bits, as a `b`-bit integer that saturates (R129, R162). -/
def roundQ (b : Nat) (w : Int) : Int := satTo b (rhe w (32 - b))

/-- Integer square root by bits: the largest r with r * r ≤ n, built from bit `k` down. -/
def isqrtFrom (n : Nat) : Nat → Nat → Nat
  | 0, r => r
  | k + 1, r =>
    let t := r + 2 ^ k
    isqrtFrom n k (if t * t ≤ n then t else r)

/-- Integer square root of a number below 2^80. -/
def isqrt (n : Nat) : Nat := isqrtFrom n 40 0

/-- Mantissa width, largest exponent and block size of CSF-16 (false) and CSF-12 (true) (R153). -/
def csfM (f : Bool) : Nat := if f then 12 else 16
def csfEmax (f : Bool) : Nat := if f then 12 else 8
def csfBytes (f : Bool) : Nat := if f then 10 else 13

/-- Do all six mantissas fit at exponent `e` (R154)? -/
def csfFits (f : Bool) (xs : List Int) (e : Nat) : Bool := xs.all fun x => !outOf (csfM f) (rhe x e)

/-- The smallest exponent that fits, or the largest there is (R154). -/
def csfExp (f : Bool) (xs : List Int) : Nat :=
  ((List.range (csfEmax f + 1)).find? (csfFits f xs)).getD (csfEmax f)

/-- Bits of a number, most significant first. -/
def bitsMsb (n : Nat) : Nat → List Bool
  | 0 => []
  | w + 1 => bitAt n w :: bitsMsb n w

/-- Gather bits, most significant first, into bytes. -/
def bytesOfBits : Nat → List Bool → List Nat
  | 0, _ => []
  | n + 1, bs => ((bs.take 8).foldl (fun a b => 2 * a + bit b) 0) :: bytesOfBits n (bs.drop 8)

/-- The bits of a list of bytes, most significant first. -/
def bitsOfBytes (bs : List Nat) : List Bool := (bs.map fun b => bitsMsb b 8).flatten

/-- One step of the CRC-4 (R156). -/
def crc4Step (crc : Nat) (b : Bool) : Nat :=
  let fb := xor (bitAt crc 3) b
  let c := crc * 2 % 16
  if fb then Nat.xor c 3 else c

/-- The CRC-4 over the mantissa bytes (R156). -/
def crc4 (bs : List Nat) : Nat := (bitsOfBytes bs).foldl crc4Step 15

/-- Encode six 24-bit samples as a CSF block (R153, R154). -/
def csfEncode (f : Bool) (xs : List Int) : List Nat :=
  let m := csfM f
  let e := csfExp f xs
  let ms := xs.map fun x => min (rhe x e) (2 ^ (m - 1) - 1)
  let body := bytesOfBits (csfBytes f - 1) ((ms.map fun v => bitsMsb (lowOf m v) m).flatten)
  (e * 16 + crc4 body) :: body

/-- Cut a list of bits into signed mantissas of `m` bits. -/
def mantissas (m : Nat) : Nat → List Bool → List Int
  | 0, _ => []
  | n + 1, bs => signedOf m ((bs.take m).foldl (fun a b => 2 * a + bit b) 0) :: mantissas m n (bs.drop m)

/-- Does the block fail: a wrong CRC-4 or an exponent above the largest (R157)? -/
def csfFailed (f : Bool) (bs : List Nat) : Bool :=
  let h := bs.headD 0
  h % 16 != crc4 (bs.drop 1) || decide (csfEmax f < h / 16)

/-- Decode a CSF block into six 24-bit samples, zeros where it fails (R157). -/
def csfDecode (f : Bool) (bs : List Nat) : List Int :=
  if csfFailed f bs then [0, 0, 0, 0, 0, 0]
  else (mantissas (csfM f) 6 (bitsOfBytes (bs.drop 1))).map fun m => m * 2 ^ (bs.headD 0 / 16)

/-- The smallest s with base ^ s at least n, up to 6. -/
def shiftFor (base n : Nat) : Nat := ((List.range 7).find? fun s => decide (n ≤ base ^ s)).getD 7

/-- 65536 + F and 16 + s of the reciprocal 1/n (mode 1) or 1/√n (mode 2) (R163). -/
def reciprocal (mode n : Nat) : Nat × Nat :=
  if mode = 1 then
    let s := shiftFor 2 n
    let x := 65536 * 2 ^ s
    let q := x / n
    let r := x % n
    (if 2 * r > n ∨ (2 * r = n ∧ q % 2 = 1) then q + 1 else q, 16 + s)
  else
    let s := shiftFor 4 n
    let x := 2 ^ (32 + 2 * s)
    let q := isqrt (x / n)
    let l := (2 * q + 1) * (2 * q + 1) * n
    (if l < 4 * x ∨ (l = 4 * x ∧ q % 2 = 1) then q + 1 else q, 16 + s)

end Sys2Proof.Machine
end

