-- ==== Sys2Proof/Machine/Routes.lean ====
section
/-! DEFINITION. The route table: endpoints, pending bindings, their judgement, takes and parked queues
(R304 to R313, R473). -/

namespace Sys2Proof.Machine

/-- How many phases gang `k` has under its group's layout; 0 where `k` names no gang (R318, R319). -/
def Dev.gangSize (d : Dev) (k : Nat) : Nat :=
  match d.rd (F.MOD_GRP_CFG_LAYOUT (k / 4)), k % 4 with
  | 0, _ => 2
  | 1, 0 => 4
  | 1, 2 => 2
  | 1, 3 => 2
  | 2, 0 => 2
  | 2, 1 => 2
  | 2, 2 => 4
  | 3, 0 => 4
  | 3, 2 => 4
  | 4, 0 => 8
  | _, _ => 0

/-- The endpoint codes of R304. -/
def epRx (f c : Nat) : Nat := 64 * f + c
def epLane (n : Nat) (b : Bool) : Nat := 0x2000 + 2 * n + bit b
def epGang (k : Nat) : Nat := 0x2080 + k
def epTx (f c : Nat) : Nat := 0x4000 + 64 * f + c

/-- Is the lane of endpoint code `e` an output? -/
def Dev.laneOut (d : Dev) (e : Nat) : Bool :=
  let p := d.sap ((e - 0x2000) / 2)
  if e % 2 = 0 then p.aOut else p.bOut

/-- Is endpoint `e` a sink (R304)? -/
def Dev.isSink (d : Dev) (e : Nat) : Bool :=
  if e < 0x2000 then false else if e < 0x2040 then d.laneOut e else true

/-- The clock domain code of the endpoint's interface (R304; Q[n].CFG codes its domains 0 CLK_SYS, 1 CLK_ENG,
2 CLK_PORT). -/
def epDomain (e : Nat) : Nat := if 0x4000 ≤ e then 0 else 2

/-- Is entry `e` live (R473)? -/
def Dev.epLive (d : Dev) (e : Nat) : Bool :=
  if e < 0x2000 then
    match (d.rxf (e / 64)).cfg with
    | some c => decide (e % 64 < c.ch)
    | none => false
  else if e < 0x2040 then d.on (F.PORT_CTL_EN ((e - 0x2000) / 2))
  else if e < 0x20A0 then decide (0 < d.gangSize (e - 0x2080))
  else
    match (d.txf ((e - 0x4000) / 64)).cfg with
    | some c => decide (e % 64 < c.ch)
    | none => false

/-- The binding in force: none where OFF_ACTIVE is 1 (R309). -/
def Dev.bound (d : Dev) (e : Nat) : Option Nat :=
  if d.rd (F.ROUTE_E_OFF_ACTIVE e) = 1 then none else some (d.rd (F.ROUTE_E_Q_ACTIVE e))

/-- The codes of the entries that are not OFF, read off the register file. -/
def Dev.boundCodes (d : Dev) : List Nat :=
  d.regs.filterMap fun p =>
    if p.1 % 32 = 28 ∧ 0x218000 ≤ p.1 / 32 ∧ p.1 / 32 < 0x230000 ∧ p.2 = 0 then some ((p.1 / 32 - 0x218000) / 4)
    else none

/-- Does a live endpoint other than `e`, of the same kind, hold queue `q` (R305, R308, R473)? -/
def Dev.heldBy (d : Dev) (e q : Nat) : Bool :=
  d.boundCodes.any fun x => x != e && d.epLive x && d.isSink x == d.isSink e && d.bound x == some q

/-- Record a refusal (R305, R308). -/
def Dev.routeDenied (d : Dev) (e cause : Nat) : Dev :=
  (((d.set (F.ROUTE_E_DENIED e)).set F.ROUTE_EVENTS_DENIED_EV).wr F.ROUTE_DENIED_ENDPOINT e).wr
    F.ROUTE_DENIED_CAUSE cause

/-- ROUTE.STATUS.PENDING follows the entries. -/
def Dev.routeStatus (d : Dev) : Dev :=
  d.wr F.ROUTE_STATUS_PENDING (bit (d.routePend.any (fun p => p.2.isSome) || d.txOld.any (fun p => p.2.isSome)))

/-- The entry's pending write is discarded. -/
def Dev.dropPend (d : Dev) (e : Nat) : Dev :=
  (((d.setPend e none).setOldBind e none).clr (F.ROUTE_E_PENDING e)).routeStatus

/-- Queue `q` gets a sink, and is parked no longer (R311). -/
def Dev.unpark (d : Dev) (q : Nat) : Dev := d.setQ q { d.q q with parked := false }

/-- Put a binding into force. -/
def Dev.bind (d : Dev) (e q : Nat) (off : Bool) : Dev :=
  let d := (d.wr (F.ROUTE_E_Q_ACTIVE e) q).wr (F.ROUTE_E_OFF_ACTIVE e) (bit off)
  if d.isSink e then (d.setFirstTake e true).when (!off) (·.unpark q) else d

/-- Load entry `e` from a unit's own queue field at its EN rise, or from a layer's record (R305). -/
def Dev.routeLoad (d : Dev) (e q : Nat) (off : Bool) : Dev :=
  let d := ((d.dropPend e).wr (F.ROUTE_E_Q e) q).clr (F.ROUTE_E_DENIED e)
  if !off && d.heldBy e q then ((d.wr (F.ROUTE_E_OFF e) 1).bind e q true).routeDenied e 3
  else (d.wr (F.ROUTE_E_OFF e) (bit off)).bind e q off

/-- The entries of a unit's endpoints are loaded together at its EN rise: what they held while the unit was off counts
for none of them (R305, R473). -/
def Dev.routeLoads (d : Dev) (l : List (Nat × Nat)) : Dev :=
  let d := d.each (l.map (·.1)) fun d e => d.set (F.ROUTE_E_OFF_ACTIVE e)
  l.foldl (fun d p => d.routeLoad p.1 p.2 false) d

/-- A ROUTE[e] write (R306, R473): `late` tells that the next boundary's deadline check falls less than 64 CLK_ENG
cycles after the write. -/
def Dev.routeWrite (d : Dev) (e v : Nat) (late : Bool) : Dev :=
  if !isEndpoint e then d
  else
    let q := v % 4096
    let off := bitAt v 12
    let d := ((d.wr (F.ROUTE_E_Q e) q).wr (F.ROUTE_E_OFF e) (bit off)).clr (F.ROUTE_E_DENIED e)
    if !d.epLive e then d
    else
      let ahead := 1 + bit late
      let after := d.tick + ahead
      let at_ := d.rd F.ROUTE_APPLY_AT_TICK
      let timed := d.on F.ROUTE_CTL_TIMED
      let missed := timed && decide (2 ^ 31 ≤ (at_ + 2 ^ 32 - (d.mediaTick + ahead) % 2 ^ 32) % 2 ^ 32)
      let d := d.setPend e (some ⟨q, off, if timed && !missed then some at_ else none, after⟩)
      ((d.set (F.ROUTE_E_PENDING e)).when missed (·.set F.ROUTE_EVENTS_LATE_EV)).routeStatus

/-- Is a pending binding due at the present boundary (R306)? -/
def RoutePend.due (p : RoutePend) (tick media : Nat) : Bool :=
  decide (p.after ≤ tick) && (match p.timed with | none => true | some m => m == media)

/-- The causes 1 and 2 of R308; none where the binding passes both. -/
def Dev.routeCause (d : Dev) (e q : Nat) (off : Bool) : Option Nat :=
  if off then none
  else if d.rd (F.Q_CFG_EN q) = 0 then some 1
  else if (if d.isSink e then d.rd (F.Q_CFG_CONS_DOM q) else d.rd (F.Q_CFG_PROD_DOM q)) ≠ epDomain e then some 2
  else none

/-- One round of R308 cause 3 on the accepted bindings `l`: those that no other live endpoint of the same kind would
duplicate after the boundary. -/
def Dev.routeRound (d : Dev) (l : List (Nat × RoutePend)) : List (Nat × RoutePend) :=
  let kept := d.boundCodes.filter fun x => d.epLive x && !(l.any (fun p => p.1 == x))
  l.filter fun p =>
    p.2.off ||
      !(l.any (fun o => o.1 != p.1 && !o.2.off && o.2.q == p.2.q && d.isSink o.1 == d.isSink p.1) ||
        kept.any (fun x => d.isSink x == d.isSink p.1 && d.bound x == some p.2.q))

/-- Rounds until nothing more is refused: a refused entry keeps its old queue, which may refuse another. -/
def Dev.routeSettle (d : Dev) : Nat → List (Nat × RoutePend) → List (Nat × RoutePend)
  | 0, l => l
  | n + 1, l => Dev.routeSettle d n (d.routeRound l)

/-- A sink endpoint has left queue `q`: it is parked unless a sink endpoint holds it (R311). -/
def Dev.parkIfFree (d : Dev) (q : Nat) : Dev :=
  if d.boundCodes.any (fun x => d.epLive x && d.isSink x && d.bound x == some q) then d
  else (d.setQ q { d.q q with parked := true }).set F.ROUTE_EVENTS_PARK_EV

/-- An input lane leaves the binding `old` at the present boundary: its time points before the boundary still go there
(R307). -/
def Dev.laneLeaves (d : Dev) (e : Nat) (old : Nat × Bool) : Dev :=
  let n := (e - 0x2000) / 2
  let f := fun (l : Lane) => { l with olds := l.olds ++ [(d.tick, old)] }
  let p := d.sap n
  d.setSap n (if e % 2 = 0 then { p with laneA := f p.laneA } else { p with laneB := f p.laneB })

/-- Accept a due binding (R307, R308). A transmit channel keeps taking from its old queue until its flow's packet
boundary, and its PENDING stays 1 until then; an input lane keeps its old queue for the time points before the
boundary. -/
def Dev.routeAccept (d : Dev) (p : Nat × RoutePend) : Dev :=
  let e := p.1
  let old := (d.rd (F.ROUTE_E_Q_ACTIVE e), d.on (F.ROUTE_E_OFF_ACTIVE e))
  let d := ((d.setPend e none).bind e p.2.q p.2.off).bump (F.ROUTE_CNT_COUNT 0) 1
  let d := d.set F.ROUTE_EVENTS_APPLIED_EV
  if 0x4000 ≤ e then (d.setOldBind e (some ((d.oldBind e).getD old)))
  else (d.when (decide (0x2000 ≤ e ∧ e < 0x2040) && !d.isSink e) (·.laneLeaves e old)).clr (F.ROUTE_E_PENDING e)

/-- Refuse a due binding (R308). -/
def Dev.routeRefuse (d : Dev) (e cause : Nat) : Dev :=
  (((d.setPend e none).wr (F.ROUTE_E_PENDING e) (bit (d.oldBind e).isSome)).routeDenied e cause).bump
    (F.ROUTE_CNT_COUNT 1) 1

/-- All pending bindings due at the present boundary are judged together (R308); one whose entry has ceased to be live
takes no part and is discarded (R304, R473). -/
def Dev.routeApply (d : Dev) : Dev :=
  let all := d.routePend.filterMap fun p => match p.2 with
    | some r => if r.due d.tick d.mediaTick then some (p.1, r) else none
    | none => none
  let d := d.each ((all.filter fun p => !d.epLive p.1).map (·.1)) Dev.dropPend
  let due := all.filter fun p => d.epLive p.1
  let bad := due.filterMap fun p => (d.routeCause p.1 p.2.q p.2.off).map fun c => (p.1, c)
  let cand := due.filter fun p => (d.routeCause p.1 p.2.q p.2.off).isNone
  let good := d.routeSettle cand.length cand
  let dup := cand.filter fun p => !good.contains p
  let left := good.filterMap fun p => if d.isSink p.1 then d.bound p.1 else none
  let d := bad.foldl (fun d p => d.routeRefuse p.1 p.2) d
  let d := dup.foldl (fun d p => d.routeRefuse p.1 3) d
  let d := good.foldl (fun d p => d.routeAccept p) d
  (left.foldl (fun d q => d.parkIfFree q) d).routeStatus

/-- A parked queue's packets are discarded at the end of their arrival tick (R311), but for those of a queue that a
transmit channel still takes from, which comes to them at its flow's packet boundary (R307). -/
def Dev.parkedDiscard (d : Dev) (q : Nat) : Dev :=
  if (d.q q).parked && !d.txOld.any fun p => p.2 == some (q, false) then
    let r := d.dropPackets q fun p => match p.arrival with | some a => decide (a ≤ d.tick) | none => false
    r.1.bump (F.ROUTE_CNT_COUNT 3) r.2
  else d

/-- A sink endpoint's take for tick `t` from queue `q` (R309, R310): the packet's words, empty where the read is not
valid. The first take under a binding discards what arrived for earlier ticks. -/
def Dev.takeFrom (d : Dev) (e q t : Nat) : Dev × List QWord :=
  if d.firstTake e then
    let r := d.dropPackets q fun p => match p.arrival with | some a => decide (a < t) | none => false
    let d := (r.1.bump (F.ROUTE_CNT_COUNT 2) r.2).when (decide (0 < r.2)) (·.set F.ROUTE_EVENTS_STALE_EV)
    (d.setFirstTake e false).popPacket q
  else d.popPacket q

/-- A sink endpoint's take for tick `t` (R309). -/
def Dev.sinkTake (d : Dev) (e t : Nat) : Dev × List QWord :=
  match d.bound e with
  | none => (d, [])
  | some q => d.takeFrom e q t

/-- A transmit channel's take: from the old queue while its flow is short of a packet boundary (R307). -/
def Dev.txTake (d : Dev) (e t : Nat) : Dev × List QWord :=
  match d.oldBind e with
  | none => d.sinkTake e t
  | some (q, off) => if off then (d, []) else d.popPacket q

/-- At its flow's packet boundary a transmit channel's accepted binding takes effect (R307). -/
def Dev.txSwitch (d : Dev) (e : Nat) : Dev :=
  if (d.oldBind e).isNone then d
  else ((d.setOldBind e none).wr (F.ROUTE_E_PENDING e) (bit (d.pendOf e).isSome)).routeStatus

/-- A source endpoint pushes one packet: an OFF one pushes nothing (R309). -/
def Dev.sourcePush (d : Dev) (e k : Nat) (ws : List Nat) : Dev :=
  match d.bound e with
  | none => d
  | some q => d.pushPacket q k ws

end Sys2Proof.Machine
end

