-- ==== Sys2Proof/Machine/Drive.lean ====
section
/-! DEFINITION. The Drive Engine: gangs, faults, holds, fetches and the carrier (R317 to R344). -/

namespace Sys2Proof.Machine

/-- The gang states of R332. -/
def gOff : Nat := 0
def gArmed : Nat := 1
def gHalf : Nat := 2
def gPlaying : Nat := 3
def gStopping : Nat := 4
def gHeld : Nat := 5
def gFaultHold : Nat := 6
def gLatched : Nat := 7

/-- A gang's state. -/
def Dev.gstate (d : Dev) (k : Nat) : Nat := d.rd (F.MOD_GANG_STATUS_STATE k)

/-- Are the gang's gates switching (R332)? -/
def Dev.switching (d : Dev) (k : Nat) : Bool :=
  d.gstate k == gHalf || d.gstate k == gPlaying || d.gstate k == gStopping

/-- The gangs of group `g` that exist, and all that exist (R318). -/
def Dev.members (d : Dev) (g : Nat) : List Nat :=
  [4 * g, 4 * g + 1, 4 * g + 2, 4 * g + 3].filter fun k => decide (0 < d.gangSize k)
def Dev.allGangs (d : Dev) : List Nat := (List.range 32).filter fun k => decide (0 < d.gangSize k)

/-- Is any gang released, and is any gang of group `g` switching (R39, R323)? -/
def Dev.anyReleased (d : Dev) : Bool := d.allGangs.any d.switching
def Dev.groupSwitching (d : Dev) (g : Nat) : Bool := (d.members g).any d.switching

/-- Is every gang of group `g` OFF or LATCHED (R344)? -/
def Dev.groupQuiet (d : Dev) (g : Nat) : Bool :=
  (d.members g).all fun k => d.gstate k == gOff || d.gstate k == gLatched

/-- ALL_DOWN of group `g` follows its gangs (R339). -/
def Dev.allDown (d : Dev) (g : Nat) : Dev :=
  let active := (d.members g).filter fun k => d.gstate k != gOff
  let down := decide (active ≠ []) && active.all fun k => d.gstate k == gFaultHold || d.gstate k == gLatched
  let d' := d.when (down && !d.on (F.MOD_GRP_STATUS_ALL_DOWN g)) (·.set (F.MOD_GRP_EVENTS_ALL_DOWN_EV g))
  d'.wr (F.MOD_GRP_STATUS_ALL_DOWN g) (bit down)

/-- Move gang `k` to a state; outside HALF, PLAYING and STOPPING its gates are off at once. A release waits for the
conditions of a boundary to come. -/
def Dev.toState (d : Dev) (k s : Nat) : Dev :=
  let d := d.wr (F.MOD_GANG_STATUS_STATE k) s
  let d := d.setGang k { d.gang k with due := false }
  let d := if s = gHalf ∨ s = gPlaying ∨ s = gStopping then d
           else d.setGang k { d.gang k with stopAt := none, stopLa := none, edges := [], before := [], ends := .atOnce,
                                            todo := [], counted := [] }
  d.allDown (k / 4)

/-- Gang `k` moves to a state in which it does not switch at the start of the running carrier cycle: each member's
gates go off at the start of its own displaced cycle (R335). -/
def Dev.endRunning (d : Dev) (k s : Nat) : Dev :=
  let old := (d.gang k).before
  let d := d.toState k s
  d.setGang k { d.gang k with before := old, ends := .running }

/-- Gang `k` moves to such a state before the carrier cycle whose members' starts end its gates (R341). -/
def Dev.endNext (d : Dev) (k s : Nat) : Dev :=
  let g := d.gang k
  let d := d.toState k s
  d.setGang k { d.gang k with edges := g.edges, before := g.before, ends := .next }

/-- A gang counter: 0 MISSING, 1 CLIP, 2 FAULTS, 3 RESTARTS, 4 LATCHES, 5 RELEASES (R345). -/
def Dev.gangCount (d : Dev) (k c : Nat) : Dev := d.bump (F.MOD_GANG_CNT_COUNT k c) 1

/-- The debounced levels of the gang's pairs, and those that are not masked (R336). -/
def Dev.fltLive (d : Dev) (k : Nat) : Nat := bitsAt d.drive.flt k (d.gangSize k / 2)
def Dev.fltOpen (d : Dev) (k : Nat) : Nat := Nat.land (d.fltLive k) (15 - d.rd (F.MOD_GANG_CTL_FLT_MASK k))

/-- The faults of a history that lie in the window before `now` (R338). -/
def Dev.inWindow (d : Dev) (k : Nat) (now : Int) : List Int :=
  (d.gang k).hist.filter fun t => decide (now - (d.rd (F.MOD_GRP_PROT_RETRY_WIN_S (k / 4)) : Int) * 1000000000 ≤ t)

/-- The longest window that RETRY_WIN_S can state: what the history keeps. -/
def keepsFault (now t : Int) : Bool := decide (now - 255 * 1000000000 ≤ t)

/-- A fault of gang `k` in the tick `bf`: 1 a debounced assertion, 2 a failed retry (R336 to R338). -/
def Dev.gangFault (d : Dev) (k kind bf : Nat) : Dev :=
  let now := d.nowWide
  let recent := d.inWindow k now
  let latch := decide (d.rd (F.MOD_GRP_PROT_RETRY_MAX (k / 4)) ≤ recent.length)
  let d := ((d.set (F.MOD_GANG_EVENTS_FAULT_EV k)).gangCount k 2).wr (F.MOD_GANG_FAULT_NS_NS k) d.nowNs
  let d := (d.wr (F.MOD_GANG_FAULT_SRC_PAIRS k) (d.fltLive k)).wr (F.MOD_GANG_FAULT_SRC_KIND k) kind
  let d := d.setGang k { d.gang k with hist := ((d.gang k).hist.filter (keepsFault now)) ++ [now],
                                       faultRaw := if kind = 1 then some d.time.raw else none,
                                       restartAt := bf + 8 * d.rd (F.MOD_GRP_PROT_HOLDOFF_MS (k / 4)) }
  let d := d.wr (F.MOD_GANG_STATUS_RECENT k) (min 15 (recent.length + 1))
  if latch then ((d.set (F.MOD_GANG_EVENTS_LATCH_EV k)).gangCount k 4).toState k gLatched
  else d.toState k gFaultHold

/-- The debounced FLT levels become `lv`: every line that rises faults the gang that holds its pair, unless masked
(R336). -/
def Dev.faultDecided (d : Dev) (lv : Nat) : Dev :=
  let rise := Nat.land lv (2 ^ 32 - 1 - d.drive.flt)
  let d := { d with drive := { d.drive with flt := lv } }
  d.each d.allGangs fun d k =>
    let hit := Nat.land (bitsAt rise k (d.gangSize k / 2)) (15 - d.rd (F.MOD_GANG_CTL_FLT_MASK k))
    let s := d.gstate k
    d.when (decide (hit ≠ 0) && (s == gArmed || s == gHalf || s == gPlaying || s == gStopping || s == gHeld))
      fun d => d.gangFault k 1 d.tick

/-- The release conditions of R333, but for RATE; while a new layer's records for the group wait, its carrier is not
yet the one that they state (R323, R341). -/
def Dev.mayRelease (d : Dev) (k : Nat) : Bool :=
  let g := k / 4
  decide (0 < d.gangSize k) && d.on F.MEDPLL_STATUS_LOCK && !d.on F.MEDPLL_STATUS_FREQ_ALARM &&
    d.on (F.MOD_GRP_STATUS_CARRIER_RUN g) && !d.on (F.MOD_GRP_STATUS_EPOCH_SLIP g) &&
    d.on (F.MOD_GRP_STATUS_CAL_OK g) && d.fltOpen k == 0 && d.on (F.MOD_GRP_STATUS_RAIL_READY g) &&
    d.drive.drain == none && (d.group g).waiting == []

/-- Whether gang `k` may be released in the tick that begins is judged at its boundary (R333); a HELD gang whose RUN
is 0 goes OFF there instead, where RATE holds an accepted code too (R340). -/
def Dev.gangDue (d : Dev) (k : Nat) : Dev :=
  let s := d.gstate k
  if s == gHeld && !d.on (F.MOD_GANG_CTL_RUN k) && d.mayRelease k && decide (d.rd (F.MOD_GANG_CFG_RATE k) ≠ 3) then
    d.toState k gOff
  else d.setGang k { d.gang k with due := (s == gArmed || s == gHeld) && d.mayRelease k }

/-- The same for every gang that exists. -/
def Dev.gangsDue (d : Dev) : Dev := d.each d.allGangs Dev.gangDue

/-- The restart boundary of gang `k` (R332, R337), which may be the boundary of its release as well. RUN 0 sends it OFF
with FLT asserted too (DEDUCED: notes/assumptions/228.md). -/
def Dev.faultRestart (d : Dev) (k : Nat) : Dev :=
  let g := d.gang k
  if d.gstate k ≠ gFaultHold ∨ d.tick < g.restartAt then d
  else if !d.on (F.MOD_GANG_CTL_RUN k) then d.toState k gOff
  else if d.fltOpen k ≠ 0 then d.gangFault k 2 g.restartAt
  else (((d.set (F.MOD_GANG_EVENTS_RESTART_EV k)).gangCount k 3).toState k gArmed).gangDue k

/-- A RUN write of 1 (R332). -/
def Dev.gangRun (d : Dev) (k : Nat) : Dev :=
  if d.gangSize k = 0 then d
  else
    let d := d.set (F.MOD_GANG_CTL_RUN k)
    if d.gstate k = gOff then d.toState k gArmed else d

/-- A RUN write of 0 (R332, R335): `late` tells that fewer than 64 CLK_PORT cycles remain before the next boundary. In
the CLK_EDGE cycle of a fault the fault comes first, and the gang stays in FAULT_HOLD (R343): that a write with the
fault's RAW fell into its cycle is a free choice (log 177). -/
def Dev.gangStop (d : Dev) (k : Nat) (late : Bool) : Dev :=
  if d.gangSize k = 0 then d
  else
    let d := d.clr (F.MOD_GANG_CTL_RUN k)
    let s := d.gstate k
    if s = gFaultHold ∧ (d.gang k).faultRaw = some d.time.raw then
      if d.fresh.1 % 2 = 1 then d.fresh.2 else d.fresh.2.toState k gOff
    else if s = gArmed ∨ s = gHeld ∨ s = gFaultHold then d.toState k gOff
    else if (s = gHalf ∨ s = gPlaying) ∧ (d.gang k).stopAt = none then
      d.setGang k { d.gang k with stopAt := some (d.tick + 1 + bit late) }
    else d

/-- A CLEAR write (R332). -/
def Dev.gangClear (d : Dev) (k : Nat) : Dev :=
  if d.gangSize k = 0 ∨ d.gstate k ≠ gLatched then d
  else
    let d := (d.setGang k { d.gang k with hist := [] }).wr (F.MOD_GANG_STATUS_RECENT k) 0
    d.toState k (if d.on (F.MOD_GANG_CTL_RUN k) then gArmed else gOff)

/-- How far member `m` of `n` runs its cycles behind the group's, in eighths of a CLK_EDGE cycle; exact, as no gang
has more than 8 members (R328). -/
def displacement (div n m : Nat) : Nat := 8 * m * div / n

/-- The half-duty edges of a member's cycle: a quarter and three quarters of it (R165, R329). -/
def halfEdges (div n m : Nat) : Nat × Nat := (displacement div n m + 2 * div, displacement div n m + 6 * div)

/-- A gang's edges at half duty. -/
def Dev.halfDuty (d : Dev) (k : Nat) : List (Nat × Nat) :=
  (List.range (d.gangSize k)).map fun m => halfEdges (d.rd (F.MOD_GRP_CARRIER_DIV (k / 4))) (d.gangSize k) m

/-- How many ticks lie between a group's epochs (R322). -/
def Dev.epochTicks (d : Dev) (g : Nat) : Nat :=
  let v := d.rd (F.MOD_GRP_CARRIER_DIV g)
  v / Nat.gcd v 98304

/-- Where the first cycle of group `g`'s running carrier starts that lies in the present tick, in CLK_EDGE cycles
after its boundary (R322); a carrier off its grid keeps the place it had (R323). -/
def Dev.gridFirst (d : Dev) (g : Nat) : Nat :=
  let m := max 1 (d.epochTicks g)
  let t := (d.tickIndex + (m - (d.group g).slip % m)) % m
  (((d.rd (F.MOD_GRP_CARRIER_OFS g) : Int) - 98304 * t) % (max 1 (d.rd (F.MOD_GRP_CARRIER_DIV g)) : Nat)).toNat

/-- The start of the carrier cycle of group `g` that follows those counted in this tick, in CLK_EDGE cycles after its
boundary (R322). -/
def Dev.cycleStart (d : Dev) (g : Nat) : Nat := d.gridFirst g + (d.group g).count * d.rd (F.MOD_GRP_CARRIER_DIV g)

/-- The start of the running carrier cycle of group `g`, in CLK_EDGE cycles from the start of tick 0. -/
def Dev.runStart (d : Dev) (g : Nat) : Int :=
  (d.tick * 98304 + d.cycleStart g : Nat) - (d.rd (F.MOD_GRP_CARRIER_DIV g) : Int)

/-- A release at a carrier cycle start, the first at or after a boundary at which the conditions held (R333), and in no
drain. -/
def Dev.gangRelease (d : Dev) (k : Nat) : Dev :=
  let s := d.gstate k
  if !(s == gArmed || (s == gHeld && d.on (F.MOD_GANG_CTL_RUN k))) || !(d.gang k).due || d.drive.drain.isSome then d
  else if d.rd (F.MOD_GANG_CFG_RATE k) = 3 then d.set (F.MOD_GANG_EVENTS_CFG_ERR k)
  else
    let d := d.setGang k { d.gang k with rate := d.rd (F.MOD_GANG_CFG_RATE k), relTick := d.tick, stopAt := none, stopLa := none,
                                         samples := [], edges := d.halfDuty k, before := [], relEdge := d.runStart (k / 4),
                                         ends := .atOnce, todo := [], counted := [],
                                         shapers := List.replicate (d.gangSize k) [0, 0, 0] }
    (d.gangCount k 5).toState k gHalf

/-- The tick after the release (R334); DRAINING is 1 in PLAYING during a drain (R341). -/
def Dev.gangPlay (d : Dev) (k : Nat) : Dev :=
  let g := d.gang k
  if d.gstate k == gHalf && decide (g.relTick < d.tick) &&
      (match g.stopAt with | none => true | some b => decide (d.tick < b)) then
    (d.toState k gPlaying).wr (F.MOD_GANG_STATUS_DRAINING k) (bit d.drive.drain.isSome)
  else d

/-- The boundary of a pending stop (R335). -/
def Dev.gangStopping (d : Dev) (k : Nat) : Dev :=
  match (d.gang k).stopAt with
  | none => d
  | some b => if (d.gstate k = gHalf ∨ d.gstate k = gPlaying) ∧ b ≤ d.tick then d.toState k gStopping else d

/-- Write a list of register fields that a new layer left waiting for a group (R341). -/
def Dev.wrWords (d : Dev) (l : List (Nat × Nat)) : Dev :=
  l.foldl (fun d p => match regFields p.1 with
    | none => d
    | some fs => fs.foldl (fun d f =>
        if f.ty = .ro then d else d.wr ⟨p.1, f.lo, f.width⟩ (bitsAt p.2 f.lo f.width)) d) d

/-- The records that waited for the group take effect (R341): a new LAYOUT sends its gangs OFF with their history
cleared (one that still plays out goes OFF at its gates-off point), and RUN arms those that exist. -/
def Dev.groupTake (d : Dev) (g : Nat) : Dev :=
  let ws := (d.group g).waiting
  let lay := d.rd (F.MOD_GRP_CFG_LAYOUT g)
  let d := d.wrWords ws
  let d := d.setGroup g { d.group g with waiting := [], vrefNow := d.rd (F.MOD_GRP_VREF_V g), vrefFrom := 0 }
  let d := if d.rd (F.MOD_GRP_CFG_LAYOUT g) = lay then d
    else d.each [4 * g, 4 * g + 1, 4 * g + 2, 4 * g + 3] fun d k =>
      let d := (d.setGang k { d.gang k with hist := [] }).wr (F.MOD_GANG_STATUS_RECENT k) 0
      if (d.gang k).stopLa.isSome then d else d.toState k gOff
  d.each (d.members g) fun d k =>
    if d.gstate k = gOff ∧ d.on (F.MOD_GANG_CTL_RUN k) then d.toState k gArmed else d

/-- The look-ahead of the stop of gang `k` (R335, R341): the group's, or the old layer's where a switch began it. -/
def Dev.stopLa (d : Dev) (k : Nat) : Nat :=
  match (d.gang k).stopLa with
  | some v => v
  | none => d.rd (F.MOD_GRP_CFG_LA (k / 4))

/-- The gates-off point of a stop (R335): the first carrier cycle start at or after the boundary plus a tick and the
look-ahead. -/
def Dev.gangGatesOff (d : Dev) (k : Nat) : Dev :=
  match (d.gang k).stopAt with
  | none => d
  | some b =>
    if d.gstate k = gStopping ∧ ((b + 1) * 98304 + 16384 * d.stopLa k : Nat) ≤ d.runStart (k / 4) then
      d.endRunning k (if d.on (F.MOD_GANG_CTL_RUN k) ∧ 0 < d.gangSize k then gArmed else gOff)
    else d

/-- A hold of R340: gates off, HELD. -/
def Dev.gangHold (d : Dev) (k : Nat) : Dev :=
  if d.switching k then (d.set (F.MOD_GANG_EVENTS_HELD_EV k)).toState k gHeld else d

/-- The end of a realignment's drain holds a gang, whose gates end with the first carrier cycle that follows (R341). -/
def Dev.gangHoldNext (d : Dev) (k : Nat) : Dev :=
  if d.switching k then (d.set (F.MOD_GANG_EVENTS_HELD_EV k)).endNext k gHeld else d

/-- Hold every switching gang of group `g`, and GRP[g].STATUS.HOLD shows whether a condition is in force (R340). -/
def Dev.holdGroup (d : Dev) (g : Nat) : Dev :=
  (d.each (d.members g) fun d k => d.gangHold k).set (F.MOD_GRP_STATUS_HOLD g)

/-- HOLD of group `g` recomputed from FREQ_ALARM and its rail controller's state (R340): 3 STOPPED, 4 LATCHED. -/
def Dev.holdBit (d : Dev) (g : Nat) : Dev :=
  let st := d.rd (F.BST_STATUS_STATE g)
  d.wr (F.MOD_GRP_STATUS_HOLD g) (bit (d.on F.MEDPLL_STATUS_FREQ_ALARM || st == 3 || st == 4))

/-- FREQ_ALARM rises (R37, R340). -/
def Dev.freqHold (d : Dev) : Dev :=
  let any := d.anyReleased
  let d := d.each (List.range 8) fun d g => d.holdGroup g
  d.wr F.MOD_STATUS_FREQ_HOLD (bit any)

/-- FREQ_ALARM clears. -/
def Dev.freqFree (d : Dev) : Dev :=
  (d.each (List.range 8) fun d g => d.holdBit g).wr F.MOD_STATUS_FREQ_HOLD 0

/-- Tap calibration leaves its range; tap calibration holds again (R331). -/
def Dev.calLoss (d : Dev) (g : Nat) : Dev :=
  (d.when (d.on (F.MOD_GRP_STATUS_CAL_OK g)) (·.set (F.MOD_GRP_EVENTS_CAL_EV g))).clr (F.MOD_GRP_STATUS_CAL_OK g)
def Dev.calRestored (d : Dev) (g : Nat) : Dev := d.set (F.MOD_GRP_STATUS_CAL_OK g)

/-- The tick index has moved by `t` ticks: a group's grid moves with it unless the shift is a whole number of epochs; a
group that is switching keeps its running cycles and slips (R323). -/
def Dev.gridShift (d : Dev) (t : Int) : Dev :=
  d.each (List.range 8) fun d g =>
    let s := (((d.group g).slip : Int) + t) % (max 1 (d.epochTicks g) : Nat)
    if d.groupSwitching g then
      let d := d.when (decide (s ≠ 0) && !d.on (F.MOD_GRP_STATUS_EPOCH_SLIP g)) (·.set (F.MOD_GRP_EVENTS_SLIP_EV g))
      (d.setGroup g { d.group g with slip := s.toNat }).wr (F.MOD_GRP_STATUS_EPOCH_SLIP g) (bit (decide (s ≠ 0)))
    else (d.setGroup g { d.group g with slip := 0 }).clr (F.MOD_GRP_STATUS_EPOCH_SLIP g)

/-- The inversion in force for output tick `d.tick` (R325). -/
def Dev.invOf (d : Dev) (k : Nat) : Bool :=
  if (d.gang k).invFrom ≤ d.tick then d.on (F.MOD_GANG_CTL_INV k) else (d.gang k).invNow

/-- The reference voltage in force (R327). -/
def Dev.vrefOf (d : Dev) (g : Nat) : Nat :=
  if (d.group g).vrefFrom ≤ d.tick then d.rd (F.MOD_GRP_VREF_V g) else (d.group g).vrefNow

/-- The largest magnitude of a list of samples. -/
def peakOf (l : List Int) : Nat := l.foldl (fun m x => max m x.natAbs) 0

/-- One gang's fetch for the present output tick (R16, R324). A tick whose packet is missing has zeros, and so has one
of a drain (R341): no samples are held for it. -/
def Dev.fetchGang (d : Dev) (k : Nat) : Dev :=
  let r := d.sinkTake (epGang k) d.tick
  let d := r.1
  let g := d.gang k
  let old := g.samples.filter fun p => decide (d.tick < p.1 + 32)
  if d.gstate k ≠ gPlaying then d
  else if r.2.length = 6 * 2 ^ g.rate then
    let xs := r.2.map fun w => if d.invOf k then -w.data.toInt else w.data.toInt
    d.setGang k { g with samples := if d.drive.drain = none then (d.tick, xs) :: old else old }
  else ((d.setGang k { g with samples := old }).set (F.MOD_GANG_EVENTS_MISSING_EV k)).gangCount k 0

/-- The held samples of gang `k` with their output time points between two instants, in eighths of a CLK_EDGE cycle
from the start of tick 0: zeros for a fetched tick that has none (R324). -/
def Dev.points (d : Dev) (k : Nat) (lo hi : Int) : List (Int × Int) :=
  let g := d.gang k
  let n := 6 * 2 ^ g.rate
  let ticks := (List.range (min 32 (d.tick + 1))).map fun i => d.tick - min 31 d.tick + i
  (((ticks.filter fun t => decide (t < d.drive.fetched)).map fun t =>
    (List.range n).map fun i =>
      (((t * 98304 + i * (98304 / n)) * 8 : Nat),
        match g.samples.find? (·.1 == t) with | some s => s.2.getD i 0 | none => 0)).flatten.map
      fun (p : Nat × Int) => ((p.1 : Int), p.2)).filter fun p => decide (lo ≤ p.1) && decide (p.1 ≤ hi)

/-- The instant whose reconstructed input drives a half-cycle of member `m` in the carrier cycle now starting (R325):
its midpoint less the pipeline and the look-ahead, in eighths of a CLK_EDGE cycle from the start of tick 0. LA stands
while the gang switches (R344). -/
def Dev.inputInstant (d : Dev) (k m : Nat) (half : Bool) : Int :=
  let div := d.rd (F.MOD_GRP_CARRIER_DIV (k / 4))
  ((((d.tick * 98304 + d.cycleStart (k / 4)) * 8 + displacement div (d.gangSize k) m + (if half then 6 else 2) * div : Nat)) : Int)
    - 8 * (12583 + 16384 * d.rd (F.MOD_GRP_CFG_LA (k / 4)) : Nat)

/-- The places of the interpolator's taps (R326), in points of 6.144 MHz after a sample's time point: a causal filter
whose centroid delay is 10 752 CLK_EDGE cycles, 84 points (R325), reaches 84 points ahead in x̂'s time and 1.5 ms
back. -/
def interpPlaces : List Int := (List.range 9301).map fun i => (i : Int) - 84

/-- Points of 6.144 MHz in an input sample's period (R326). -/
def interpStep (r : Nat) : Int := 128 / 2 ^ r

/-- A tap of the interpolator outside the first sample period, in 2^-32: free but for the one at the next sample's
place, which puts the centroid of the response exactly at its time point (R324). -/
def interpSide (r : Nat) (i : Int) : Int :=
  let p := interpStep r
  if i = p then
    -(2 ^ 31 * (p - 1)) - ((interpPlaces.filter fun j => j != p && j / p != 0).map fun j => j / p * Config.interp r j).sum
  else Config.interp r i

/-- A tap of the interpolator (R326): those of the first sample period make each phase's gain at DC exactly 1. -/
def interpTap (r : Nat) (i : Int) : Int :=
  let p := interpStep r
  if 0 ≤ i ∧ i < p then
    2 ^ 32 - ((interpPlaces.filter fun j => j != i && j % p == i).map fun j => interpSide r j).sum
  else interpSide r i

/-- The interpolator's output at point `n` of 6.144 MHz, from samples with their time points in eighths of a CLK_EDGE
cycle (R326). -/
def interpPoint (r : Nat) (ps : List (Int × Int)) (n : Int) : Int :=
  rhe ((ps.filter fun q => decide (-84 ≤ n - q.1 / 1024) && decide (n - q.1 / 1024 < 9217)).map fun q =>
    interpTap r (n - q.1 / 1024) * q.2).sum 32

/-- The last instant whose samples x̂ at `t` may depend on: the reach of the interpolator's taps at the points of 6.144
MHz around it (R325, R326). -/
def inputReach (t : Int) : Int := (t / 1024 + 85) * 1024

/-- Have all of those samples been fetched (R16)? -/
def Dev.knows (d : Dev) (t : Int) : Bool := decide (inputReach t < (8 * 98304 * d.drive.fetched : Nat))

/-- x̂ at an instant (R326): linear between the interpolator's points of 6.144 MHz, within 1.3 times the largest
magnitude of the samples from 1.5 ms before it to the reach of its taps; a constant is given as it is. -/
def Dev.xhatAt (d : Dev) (k : Nat) (t : Int) : Int :=
  let g := d.gang k
  let ps := d.points k (t - 8 * 1179648) (inputReach t)
  let b : Int := (13 * peakOf (ps.map (·.2)) / 10 : Nat)
  match ps with
  | [] => 0
  | p :: l =>
    if l.all (fun q => q.2 == p.2) then p.2
    else
      let all := d.points k (t - 8 * 1179648 - 1024) (inputReach t)
      let n := t / 1024
      clampInt (-b) b (rhe (interpPoint g.rate all n * (1024 - t % 1024) + interpPoint g.rate all (n + 1) * (t % 1024)) 10)

/-- Does a half-cycle of member `m` in the carrier cycle now starting lie in the tick and 12 583 cycles after the gang's
release, through which it switches at half duty (R334)? -/
def Dev.halfQuiet (d : Dev) (k m : Nat) (half : Bool) : Bool :=
  let div := d.rd (F.MOD_GRP_CARRIER_DIV (k / 4))
  let from_ : Int := ((d.tick * 98304 + d.cycleStart (k / 4)) * 8 + displacement div (d.gangSize k) m +
    (if half then 4 * div else 0) : Nat)
  decide (from_ < 8 * ((d.gang k).relEdge + 98304 + 12583))

/-- The input of a half-cycle at an instant: zero where it is quiet and where the gang holds no samples. -/
def Dev.halfInput (d : Dev) (k : Nat) (t : Int) (quiet : Bool) : Int :=
  if (d.gang k).samples = [] || quiet then 0 else d.xhatAt k t

/-- x̂ of a half-cycle of member `m` in the carrier cycle now starting (R325, R326). -/
def Dev.xhat (d : Dev) (k m : Nat) (half : Bool) : Int :=
  d.halfInput k (d.inputInstant k m half) (d.halfQuiet k m half)

/-- The clip limit 0.98 in 2^-79. -/
def uMax : Int := 98 * 2 ^ 79 / 100

/-- The quotient VREF / V_rail in 2^-48, rounded down (R152, R327); `num / den` is V_rail in 1/256 V. -/
def quotient (vref num den : Nat) : Nat := vref * den * 2 ^ 48 / num

/-- The modulation x × VREF / V_rail in 2^-79, before the clip (R327). -/
def modulation (x : Int) (vref num den : Nat) : Int := x * quotient vref num den

/-- One commanded edge through a member's noise shaper (R329, R331): the half-cycle begins `base` eighths of a
CLK_EDGE cycle after the group's cycle, the edge is wanted at the fraction `f / 2^80` of it and falls on a grid of
`2^lg` eighths, at least 0.005 × D cycles from the half's ends. The weights of the last three errors are not
published. -/
def shaped (div lg base : Nat) (f : Int) (errs : List Int) : Nat × List Int :=
  let grid := 2 ^ lg
  let want := (base * 2 ^ 32 : Nat) + 4 * (div : Int) * f / 2 ^ 48
  let v := want - ((List.range 3).map fun i => Config.shaperTap i * errs.getD i 0 / 2 ^ 16).sum
  let q := rhe v (32 + lg) * grid
  let m := (4 * div + 99) / 100
  let lo := (base + m + grid - 1) / grid * grid
  let hi := (base + 4 * div - m) / grid * grid
  let e := (clampInt lo hi q).toNat
  (e, ((e * 2 ^ 32 : Nat) - v) :: errs.take 2)

/-- One edge of a half-cycle: exactly half duty on zero input while calibration holds (R165), else through the shaper. -/
def oneEdge (div : Nat) (calOk : Bool) (base : Nat) (s u : Int) (errs : List Int) : Nat × List Int :=
  if u = 0 ∧ calOk then (base + 2 * div, (Config.shaperRest errs).take 3)
  else shaped div (if calOk then 0 else 3) base (2 ^ 79 + s * u) errs

/-- The commanded edge of a half-cycle with the modulation `u`: even members drive the load's positive terminal, odd
ones its negative one (R328, R329). -/
def HalfCycle.edge (h : HalfCycle) (div n : Nat) (u : Int) (errs : List Int) : Nat × List Int :=
  let s : Int := if (h.m % 2 == 0) == h.second then 1 else -1
  oneEdge div h.calOk (displacement div n h.m + if h.second then 4 * div else 0) s u errs

/-- An edge takes its place among those of its cycle, a rise in the first half and a fall in the second. -/
def Gang.putEdge (g : Gang) (h : HalfCycle) (e : Nat) : Gang :=
  let put := fun (l : List (Nat × Nat)) => l.modify h.m fun p => if h.second then (p.1, e) else (e, p.2)
  if h.age = 0 then { g with edges := put g.edges } else { g with before := g.before.modify (h.age - 1) put }

/-- The gates of a gang that has left its switching states, as a carrier cycle starts (R335, R341). -/
def Gang.endCycle (g : Gang) : Gang :=
  match g.ends with
  | .next => { g with before := (g.edges :: g.before).take 3, edges := [], ends := .running }
  | _ => { g with before := [], edges := [], ends := .atOnce }

/-- May a half-cycle be computed: its samples have been fetched, or it needs none? -/
def Dev.halfReady (d : Dev) (h : HalfCycle) : Bool := h.quiet || d.knows h.at_

/-- A half-cycle's modulation before the clip (R327). -/
def Dev.halfRaw (d : Dev) (k : Nat) (h : HalfCycle) : Int :=
  modulation (d.halfInput k h.at_ h.quiet) h.vref h.num h.den

/-- The half-cycles of gang `k` whose samples have been fetched are computed, in order: their clips, counted once for
each carrier cycle, their edges and their members' shapers (R327 to R329). -/
def Dev.gangHalves (d : Dev) (k : Nat) : Dev :=
  let div := d.rd (F.MOD_GRP_CARRIER_DIV (k / 4))
  let n := d.gangSize k
  let ready := (d.gang k).todo.filter d.halfReady
  if ready = [] then d
  else
    let g := ready.foldl (fun (g : Gang) h =>
      let e := h.edge div n (clampInt (-uMax) uMax (d.halfRaw k h)) (g.shapers.getD h.m [])
      { g.putEdge h e.1 with shapers := (List.range n).map fun m => if m = h.m then e.2 else g.shapers.getD m [] })
      (d.gang k)
    let clips := (ready.filter fun h => decide (uMax < (d.halfRaw k h).natAbs)).map (·.age)
    let new := clips.dedup.filter fun a => !g.counted.contains a
    let d := d.setGang k { g with todo := g.todo.filter fun h => !d.halfReady h, counted := g.counted ++ new,
                                  clipped := g.clipped || decide (clips ≠ []) }
    d.when (decide (clips ≠ [])) fun d =>
      ((d.bump (F.MOD_GANG_CNT_COUNT k 1) new.length).set (F.MOD_GANG_EVENTS_CLIP_EV k)).set (F.MOD_GANG_STATUS_CLIP_NOW k)

/-- A gang's part of a carrier cycle start: the half-cycles of the cycle, each computed now or when its samples have
been fetched (R325). -/
def Dev.gangCycle (d : Dev) (k vNum vDen : Nat) : Dev :=
  if !d.switching k then d.setGang k (d.gang k).endCycle
  else
    let g := d.gang k
    let halves := ((List.range (d.gangSize k)).map fun m => [false, true].map fun h =>
      (⟨0, m, h, d.inputInstant k m h, d.halfQuiet k m h, d.vrefOf (k / 4), vNum, vDen,
        d.on (F.MOD_GRP_STATUS_CAL_OK (k / 4))⟩ : HalfCycle)).flatten
    let old := (g.todo.map fun h => { h with age := h.age + 1 }).filter fun h => decide (h.age ≤ 3)
    (d.setGang k { g with edges := d.halfDuty k, before := (g.edges :: g.before).take 3, todo := old ++ halves,
                          counted := (g.counted.map (· + 1)).filter (decide <| · ≤ 3) }).gangHalves k

/-- An output tick that ends without a clip clears CLIP_NOW (R327). -/
def Dev.clipTick (d : Dev) : Dev :=
  d.each d.allGangs fun d k =>
    (d.when (!(d.gang k).clipped) (·.clr (F.MOD_GANG_STATUS_CLIP_NOW k))).setGang k { d.gang k with clipped := false }

/-- A write to GRP[g] at offset `off` (R320, R322, R344): 0x00 CARRIER, 0x04 CFG, 0x08 VREF, 0x0C PROT. -/
def Dev.grpWrite (d : Dev) (g off v : Nat) : Dev :=
  let deny := d.set (F.MOD_GRP_EVENTS_CFG_DENIED g)
  match off with
  | 0x00 =>
    if !d.groupQuiet g then deny
    else
      let div := bitsAt v 0 12
      let ok := decide (1573 ≤ div) && decide (div ≤ 2621)
      let d := if ok then d.wr (F.MOD_GRP_CARRIER_DIV g) div else deny
      let now := d.rd (F.MOD_GRP_CARRIER_DIV g)
      d.wr (F.MOD_GRP_CARRIER_OFS g) (min (bitsAt v 16 12) (now - 1))
  | 0x04 =>
    let lay := bitsAt v 0 3
    let la := bitsAt v 4 7
    let dt := bitsAt v 11 8
    let pin := bitsAt v 19 1
    let changes := decide (lay ≠ d.rd (F.MOD_GRP_CFG_LAYOUT g)) || decide (la ≠ d.rd (F.MOD_GRP_CFG_LA g)) ||
      decide (dt ≠ d.rd (F.MOD_GRP_CFG_DT g))
    if 4 < lay ∨ 96 < la ∨ ((changes || pin == 0) && !d.groupQuiet g) then deny
    else
      let d := if lay = d.rd (F.MOD_GRP_CFG_LAYOUT g) then d
               else d.each (d.members g) fun d k =>
                 ((d.setGang k { d.gang k with hist := [] }).wr (F.MOD_GANG_STATUS_RECENT k) 0).toState k gOff
      (((d.wr (F.MOD_GRP_CFG_LAYOUT g) lay).wr (F.MOD_GRP_CFG_LA g) la).wr (F.MOD_GRP_CFG_DT g) dt).wr
        (F.MOD_GRP_CFG_PIN_EN g) pin
  | 0x08 =>
    (d.setGroup g { d.group g with vrefNow := d.vrefOf g, vrefFrom := d.tick + 1 }).wr (F.MOD_GRP_VREF_V g)
      (bitsAt v 0 16)
  | 0x0C =>
    ((d.wr (F.MOD_GRP_PROT_HOLDOFF_MS g) (max 1 (bitsAt v 0 16))).wr (F.MOD_GRP_PROT_RETRY_MAX g)
      (bitsAt v 16 4)).wr (F.MOD_GRP_PROT_RETRY_WIN_S g) (max 1 (bitsAt v 20 8))
  | _ => d

/-- A write of GANG[k].CTL.INV (R325). -/
def Dev.invWrite (d : Dev) (k v : Nat) (late : Bool) : Dev :=
  (d.setGang k { d.gang k with invNow := d.invOf k, invFrom := d.tick + 1 + bit late }).wr (F.MOD_GANG_CTL_INV k) v

/-- The half-duty ticks of a drain begin (R341), and no gang is released in it (R333). -/
def Dev.driveDrain (d : Dev) : Dev :=
  let d := { d with drive := { d.drive with drain := some d.tick } }
  let d := d.each d.allGangs fun d k => d.setGang k { d.gang k with due := false }
  (d.each d.allGangs fun d k => d.wr (F.MOD_GANG_STATUS_DRAINING k) (bit (d.gstate k == gPlaying))).set
    F.MOD_STATUS_DRAIN

/-- They end. -/
def Dev.driveUndrain (d : Dev) : Dev :=
  let d := { d with drive := { d.drive with drain := none } }
  (d.each (List.range 32) fun d k => d.clr (F.MOD_GANG_STATUS_DRAINING k)).clr F.MOD_STATUS_DRAIN

/-- A tick begins: no carrier cycle has started in it. -/
def Dev.cyclesZero (d : Dev) : Dev :=
  d.each (List.range 8) fun d g => d.setGroup g { d.group g with count := 0 }

/-- The end of a realignment drain: every switching gang is held (R341). -/
def Dev.driveRealigned (d : Dev) : Dev := (d.each d.allGangs fun d k => d.gangHoldNext k).driveUndrain

end Sys2Proof.Machine
end

