-- ==== Sys2Proof/Machine/Boost.lean ====
section
/-! DEFINITION. The rail controllers BST0 to BST7, and what a carrier cycle start and an output tick's fetch do with
them (R346 to R358). -/

namespace Sys2Proof.Machine

/-- The controller states of R354. -/
def bOff : Nat := 0
def bStart : Nat := 1
def bRun : Nat := 2
def bStopped : Nat := 3
def bLatched : Nat := 4

/-- A controller's state. -/
def Dev.bstate (d : Dev) (g : Nat) : Nat := d.rd (F.BST_STATUS_STATE g)

/-- A controller counter: 0 NO_TARGET, 1 ENV_IGNORED, 2 CLAMP, 3 STOPS, 4 ILIM (R359). -/
def Dev.bstCount (d : Dev) (g c n : Nat) : Dev := d.bump (F.BST_CNT_COUNT g c) n

/-- Move controller `g` to a state; READY and its mirror RAIL_READY are 1 in RUN alone, and the gate is low outside
START and RUN (R346, R354). -/
def Dev.bstTo (d : Dev) (g s : Nat) : Dev :=
  let d := (d.wr (F.BST_STATUS_STATE g) s).wr (F.BST_STATUS_READY g) (bit (s == bRun))
  let d := d.wr (F.MOD_GRP_STATUS_RAIL_READY g) (bit (s == bRun))
  let d := d.setBst g { d.bst g with ons := if s = bStart ∨ s = bRun then (d.bst g).ons else [] }
  d.holdBit g

/-- The settings as the registers of controller `g` hold them (R359). -/
def Dev.bstRegs (d : Dev) (g : Nat) : BstCfg :=
  { mode := d.rd (F.BST_CTL_MODE g), phase := d.rd (F.BST_CTL_PHASE g), min := d.rd (F.BST_RAIL_LIM_MIN g),
    max := d.rd (F.BST_RAIL_LIM_MAX g), ovp := d.rd (F.BST_OVP_V g), uvMargin := d.rd (F.BST_UV_MARGIN g),
    uvCyc := d.rd (F.BST_UV_CYC g), ilim := d.rd (F.BST_ILIM_CODE g), ilimCyc := d.rd (F.BST_ILIM_CYC g),
    slew := d.rd (F.BST_SLEW_V_PER_MS g), kp := d.rd (F.BST_LOOP_KP g), ki := d.rd (F.BST_LOOP_KI g),
    maxd := d.rd (F.BST_PWM_MAXD g), leb := d.rd (F.BST_PWM_LEB g), slope := d.rd (F.BST_PWM_SLOPE g),
    fs := d.rd (F.BST_SENSE_FS g), headroom := d.rd (F.BST_FOLLOW_HEADROOM g), restart := d.rd (F.BST_RESTART_MS g) }

/-- The settings in force: those that the registers held at the last carrier cycle start (R357). -/
def Dev.bstCfg (d : Dev) (g : Nat) : BstCfg := (d.bst g).cfg

/-- The conditions that EN needs (R357). -/
def Dev.bstOk (d : Dev) (g : Nat) : Bool :=
  decide (d.rd (F.BST_RAIL_LIM_MIN g) ≤ d.rd (F.BST_RAIL_LIM_MAX g)) &&
    decide (d.rd (F.BST_RAIL_LIM_MAX g) < d.rd (F.BST_OVP_V g)) &&
    decide (d.rd (F.BST_OVP_V g) < d.rd (F.BST_SENSE_FS g)) && decide (d.rd (F.BST_LOOP_KI g) ≠ 0) &&
    decide (d.rd (F.BST_PWM_MAXD g) ≠ 0) && decide (d.rd (F.BST_CTL_MODE g) ≠ 3)

/-- The reference as TARGET shows it. -/
def Dev.bstShow (d : Dev) (g : Nat) : Dev := d.wr (F.BST_TARGET_REF g) ((d.bst g).ref / 65536)

/-- Entry into START, with the compensator at zero (R349, R354). -/
def Dev.bstEnter (d : Dev) (g : Nat) : Dev :=
  (d.setBst g { d.bst g with cmd := 0, ePrev := 0, due := none, settled := 0, uvRun := 0, ilRun := 0 }).bstTo g bStart

/-- Entry into START from OFF or STOPPED: ref = V_rail, goal RAIL_MIN (R354). -/
def Dev.bstStart (d : Dev) (g : Nat) : Dev :=
  let b := d.bst g
  let d := d.setBst g { b with ref := b.vNum * 65536 / b.vDen }
  ((d.wr (F.BST_TARGET_GOAL g) (d.bstCfg g).min).bstShow g).bstEnter g

/-- A write of CTL waits for the next carrier cycle start (R357). -/
def Dev.bstOrder (d : Dev) (g : Nat) (o : BstOrder) : Dev :=
  d.setBst g { d.bst g with orders := (d.bst g).orders ++ [o] }

/-- An EN rise (R354, R357). -/
def Dev.bstEnable (d : Dev) (g : Nat) : Dev :=
  if d.on (F.BST_CTL_EN g) then d
  else if !d.bstOk g then d.set (F.BST_EVENTS_CFG_ERR g)
  else (d.set (F.BST_CTL_EN g)).bstOrder g .enable

/-- An EN write of 0 (R354, R357). -/
def Dev.bstDisable (d : Dev) (g : Nat) : Dev :=
  if !d.groupQuiet g then d.set (F.BST_EVENTS_CFG_DENIED g)
  else (d.clr (F.BST_CTL_EN g)).bstOrder g .disable

/-- A CLEAR write (R354). -/
def Dev.bstClear (d : Dev) (g : Nat) : Dev := d.bstOrder g .clear

/-- A CTL order takes effect (R354, R358): the follower's history is zero at an EN rise (R351); a CLEAR is ignored
while the last rail sample lies above OVP, and finds ref and goal as they are. -/
def Dev.bstTake (d : Dev) (g : Nat) (o : BstOrder) : Dev :=
  match o with
  | .enable =>
    let d := d.setBst g { d.bst g with peaks := [], env := none }
    if d.bstate g = bOff then d.bstStart g else d
  | .disable => if d.bstate g = bLatched then d else d.bstTo g bOff
  | .clear =>
    if d.bstate g ≠ bLatched ∨ (d.bst g).ovSeen then d
    else if d.on (F.BST_CTL_EN g) then d.bstEnter g else d.bstTo g bOff

/-- The writes since the last carrier cycle start take effect, in their order (R357, R358). -/
def Dev.bstTakes (d : Dev) (g : Nat) : Dev :=
  let os := (d.bst g).orders
  os.foldl (fun d o => d.bstTake g o) (d.setBst g { d.bst g with cfg := d.bstRegs g, orders := [] })

/-- A write to BST[g] at offset `off`, from 0x00 CTL (MODE and PHASE) to 0x28 RESTART (R357, R359). -/
def Dev.bstWrite (d : Dev) (g off v : Nat) : Dev :=
  let new := match off with
    | 0x00 => (d.wr (F.BST_CTL_MODE g) (bitsAt v 1 2)).wr (F.BST_CTL_PHASE g) (bitsAt v 3 4)
    | 0x04 => (d.wr (F.BST_RAIL_LIM_MIN g) (bitsAt v 0 16)).wr (F.BST_RAIL_LIM_MAX g) (bitsAt v 16 16)
    | 0x08 => d.wr (F.BST_OVP_V g) (bitsAt v 0 16)
    | 0x0C => (d.wr (F.BST_UV_MARGIN g) (bitsAt v 0 8)).wr (F.BST_UV_CYC g) (bitsAt v 8 8)
    | 0x10 => (d.wr (F.BST_ILIM_CODE g) (bitsAt v 0 10)).wr (F.BST_ILIM_CYC g) (bitsAt v 16 8)
    | 0x14 => d.wr (F.BST_SLEW_V_PER_MS g) (max 1 (bitsAt v 0 10))
    | 0x18 => (d.wr (F.BST_LOOP_KP g) (bitsAt v 0 16)).wr (F.BST_LOOP_KI g) (bitsAt v 16 16)
    | 0x1C => ((d.wr (F.BST_PWM_MAXD g) (bitsAt v 0 8)).wr (F.BST_PWM_LEB g) (bitsAt v 8 8)).wr
        (F.BST_PWM_SLOPE g) (bitsAt v 16 10)
    | 0x20 => d.wr (F.BST_SENSE_FS g) (bitsAt v 0 16)
    | 0x24 => d.wr (F.BST_FOLLOW_HEADROOM g) (bitsAt v 0 16)
    | 0x28 => d.wr (F.BST_RESTART_MS g) (max 1 (bitsAt v 0 16))
    | _ => d
  if d.on (F.BST_CTL_EN g) && !new.bstOk g then d.set (F.BST_EVENTS_CFG_DENIED g) else new

/-- After 16 settled carrier cycles (R354). -/
def Dev.bstReady (d : Dev) (g : Nat) : Dev :=
  if d.bstate g = bStart ∧ 16 ≤ (d.bst g).settled then (d.set (F.BST_EVENTS_READY_EV g)).bstTo g bRun else d

/-- A stop with its cause (R354, R355); the end of a realignment drain is not counted in STOPS (R356). -/
def Dev.bstStopNow (d : Dev) (g cause : Nat) : Dev :=
  let d := (d.set (F.BST_EVENTS_STOP_EV g)).wr (F.BST_STATUS_CAUSE g) cause
  let d := d.when (cause != 6) (·.bstCount g 3 1)
  ((d.setBst g { d.bst g with stopRaw := d.time.raw }).bstTo g bStopped).holdGroup g

/-- Does the condition of a cause hold (R355)? Cause 6 belongs to the end of a drain alone. -/
def Dev.bstCond (d : Dev) (g cause : Nat) : Bool :=
  let s := d.bstate g
  let b := d.bst g
  let live := s == bStart || s == bRun
  match cause with
  | 2 => s == bRun && decide ((d.bstCfg g).uvCyc ≤ b.uvRun) && decide (0 < b.uvRun)
  | 3 => live && decide ((d.bstCfg g).ilimCyc ≤ b.ilRun) && decide (0 < b.ilRun)
  | 4 => live && decide (1024 ≤ b.run) && !b.held
  | 5 => live && d.on F.MEDPLL_STATUS_FREQ_ALARM
  | _ => false

/-- A stop condition stops the controller. -/
def Dev.bstStop (d : Dev) (g cause : Nat) : Dev := if d.bstCond g cause then d.bstStopNow g cause else d

/-- The VSNS stream has been constant for 1024 cycles (R347, R355); the test is suspended in the hold of R376. -/
def Dev.senseLost (d : Dev) (g : Nat) : Dev :=
  if decide ((d.bst g).run < 1024) || (d.bst g).held then d else (d.clr (F.BST_STATUS_SENSE_OK g)).bstStop g 4

/-- A rail sample of ones density `n / 2^18` in 1/256 V, rounded down, and whether it lies above OVP (R347, R355). -/
def Dev.railSample (d : Dev) (g n : Nat) : Nat × Bool :=
  let fs := (d.bstCfg g).fs
  (n * fs / 2 ^ 18, decide ((d.bstCfg g).ovp * 2 ^ 18 < n * fs))

/-- MEAS.V of a rail sample whose fraction the register cannot show: the whole value below or above it. -/
def Dev.showSample (d : Dev) (g n : Nat) : Dev :=
  let r := d.railSample g n
  let exact := n * (d.bstCfg g).fs % 2 ^ 18 == 0
  let f := d.fresh
  let d := f.2.wr (F.BST_MEAS_V g) (if exact then r.1 else r.1 + f.1 % 2)
  d.setBst g { d.bst g with ovSeen := r.2 }

/-- A rail sample of ones density `n` is tested for over-voltage (R354, R355). -/
def Dev.bstTest (d : Dev) (g n : Nat) : Dev :=
  let s := d.bstate g
  if (d.railSample g n).2 && (s == bStart || s == bRun || s == bStopped) then
    (((d.set (F.BST_EVENTS_OV_EV g)).wr (F.BST_STATUS_CAUSE g) 1).bstTo g bLatched).holdGroup g
  else d

/-- The weight of the bit `i` BST_SCLK cycles before the newest in a third-order sinc filter of length 64: in how many
ways `i` is a sum of three numbers below 64 (R347). -/
def sincWeight (i : Nat) : Nat :=
  (i + 2) * (i + 1) / 2 + 3 * ((i - 126) * (i - 127) / 2) - 3 * ((i - 62) * (i - 63) / 2)

/-- The ones density of the filter's window that ends now, in 2^-18, over the last 190 bits, newest first (R347). -/
def sinc3 (bits : List Bool) : Nat := ((bits.zipIdx).map fun p => if p.1 then sincWeight p.2 else 0).sum

/-- A bit of the VSNS stream arrives: its rail sample joins the cycle's and is tested for over-voltage, and the sense is
lost while the stream has held one level for 1024 bits (R347, R355), a test that the hold of R376 suspends. -/
def Dev.railBit (d : Dev) (g : Nat) (v : Bool) : Dev :=
  let b := d.bst g
  let stream := (v :: b.stream).take 190
  let n := sinc3 stream
  let run := if b.stream.head? = some v then min 1024 (b.run + 1) else 1
  let d := d.setBst g { b with stream := stream, run := run, rails := b.rails ++ [n] }
  let d := d.when (b.stream.head? == some !v) (·.set (F.BST_STATUS_SENSE_OK g))
  let d := d.when (decide (run = 1024) && !b.held) (·.clr (F.BST_STATUS_SENSE_OK g))
  d.bstTest g n

/-- Bits of the stream, the last of whose rail samples MEAS shows (R347). -/
def Dev.railBits (d : Dev) (g : Nat) (bs : List Bool) : Dev :=
  let d := bs.foldl (fun d v => d.railBit g v) d
  if bs = [] then d else d.showSample g (sinc3 (d.bst g).stream)

/-- A restart (R354, R356): RESTART_MS of RAW time after the stop with the condition gone, or after a drain once
MEDPLL has reacquired. -/
def Dev.bstRestart (d : Dev) (g : Nat) : Dev :=
  let cause := d.rd (F.BST_STATUS_CAUSE g)
  let waited := decide ((d.bst g).stopRaw + (d.bstCfg g).restart * 500000 ≤ d.time.raw)
  let gone := if cause = 6 then d.on F.MEDPLL_STATUS_LOCK && d.clk.realign == .none && d.clk.acq == .none
              else waited && !(cause == 4 && !d.on (F.BST_STATUS_SENSE_OK g)) &&
                !(cause == 5 && d.on F.MEDPLL_STATUS_FREQ_ALARM)
  if d.bstate g = bStopped ∧ gone then d.bstStart g else d

/-- Is the boost switch on, `x` eighths of a CLK_EDGE cycle after the start of the running carrier cycle (R346, R348)? -/
def Bst.gateAt (b : Bst) (x : Int) : Bool := b.ons.any fun o => decide (o.start ≤ x) && decide (x < o.stop.getD o.last)

/-- The on-time that has not ended yet, the earlier of two. -/
def Bst.open (b : Bst) : Option OnTime := b.ons.find? fun o => o.stop.isNone

/-- That on-time ends, `t` CLK_EDGE cycles after its turn-on or with MAXD, at the first of the two (R348). -/
def endFirst (t : Nat) : List OnTime → List OnTime
  | [] => []
  | o :: l => if o.stop.isNone then { o with stop := some (min (o.start + 8 * t) o.last) } :: l else o :: endFirst t l
def Dev.endOn (d : Dev) (g t : Nat) : Dev := d.setBst g { d.bst g with ons := endFirst t (d.bst g).ons }

/-- The comparator trips at `level` codes, `t` CLK_EDGE cycles after turn-on, or MAXD elapses (R348). DESIGN CHOICE:
R359's tables have no field for the trip, and the model shows it in no status field and no event
(notes/assumptions/165.md). -/
def Dev.isnsTrip (d : Dev) (g level t : Nat) : Dev :=
  let div := d.rd (F.MOD_GRP_CARRIER_DIV g)
  let above := fun (c : Nat) => decide (c * div < level * div + (d.bstCfg g).slope * t) && decide (0 < level)
  match (d.bst g).open with
  | none => d
  | some o => if decide ((d.bstCfg g).leb ≤ t) && above o.code then d.endOn g t else d
def Dev.maxOnTime (d : Dev) (g t : Nat) : Dev :=
  match (d.bst g).open with
  | none => d
  | some o => if o.last ≤ o.start + 8 * t then d.endOn g t else d

/-- Is the goal forced to RAIL_MIN (R352)? -/
def Dev.forcedMin (d : Dev) (g : Nat) : Bool :=
  d.on (F.MOD_GRP_STATUS_ALL_DOWN g) || !d.groupSwitching g || d.drive.drain != none

/-- The goal for this carrier cycle (R350, R352): `late` tells that 128 CLK_PORT cycles of the tick have passed. A
target whose cycle this is does not become the goal where it is forced, and one that waits for a later cycle goes on
waiting (R358). -/
def Dev.bstGoal (d : Dev) (g : Nat) (late : Bool) : Dev :=
  let b := d.bst g
  let forced := d.forcedMin g
  let d := d.wr (F.BST_STATUS_FORCED_MIN g) (bit forced)
  if forced then (d.wr (F.BST_TARGET_GOAL g) (d.bstCfg g).min).setBst g { b with due := if late then none else b.due }
  else match b.due with
    | some v => if late then (d.wr (F.BST_TARGET_GOAL g) v).setBst g { b with due := none } else d
    | none => d

/-- The reference's step toward the goal (R352). -/
def Dev.refStep (d : Dev) (g : Nat) : Nat :=
  let step := (d.bstCfg g).slew * d.rd (F.MOD_GRP_CARRIER_DIV g) * 65536 / 3072
  let goal := d.rd (F.BST_TARGET_GOAL g) * 65536
  let r := (d.bst g).ref
  if r ≤ goal then (if goal - r < step then goal else r + step)
  else (if r - goal < step then goal else r - step)

/-- A quotient rounded half to even. -/
def rheDiv (num den : Nat) : Nat :=
  let q := num / den
  let r := num % den
  if 2 * r < den then q else if den < 2 * r then q + 1 else q + q % 2

/-- The under-voltage run of a cycle (R355); the hold of R376 suspends the test. -/
def Dev.bstLow (d : Dev) (g vNum vDen : Nat) (held : Bool) : Dev :=
  let b := d.bst g
  let low := decide (d.bstate g = bRun ∧ (vNum + (d.bstCfg g).uvMargin * 256 * vDen) * 65536 < b.ref * vDen)
  d.setBst g { b with vNum := vNum, vDen := vDen, held := held,
                      uvRun := if held then b.uvRun else if low then b.uvRun + 1 else 0 }

/-- A controller that the end of a realignment's drain stopped returns to START with the first carrier cycle on the
new grid (R356). -/
def Dev.bstRegrid (d : Dev) (g : Nat) : Dev :=
  if d.bstate g = bStopped ∧ d.rd (F.BST_STATUS_CAUSE g) = 6 then d.bstRestart g else d

/-- The compensator and the switching cycle of START and RUN, with the reference at `ref` (R348, R349, R354): the
switch turns on PHASE sixteenths of a cycle after the carrier cycle start unless the code is 0, and the end that MAXD
sets is rounded to the grid of the turn-on (DESIGN CHOICE: notes/assumptions/4.md). Under the hold of R376 c stands. -/
def Dev.bstComp (d : Dev) (g ref vNum vDen : Nat) (held : Bool) : Dev :=
  let b := d.bst g
  let k := d.bstCfg g
  let div := d.rd (F.MOD_GRP_CARRIER_DIV g)
  let e : Int := (ref / 65536 : Nat) - (rheDiv vNum vDen : Int)
  let lim : Int := k.ilim * 65536
  let raw := (b.cmd : Int) + k.kp * (e - b.ePrev) + k.ki * e
  let c := if held then b.cmd else (clampInt 0 lim raw).toNat
  let code := rheDiv c 65536
  let atLim := decide (lim ≤ raw) && !held
  let goal := d.rd (F.BST_TARGET_GOAL g) * 65536
  let err := ((vNum : Int) * 65536 - ref * vDen).natAbs
  let ok := decide (d.bstate g = bStart ∧ ref = goal ∧ err ≤ max (256 * 65536) (ref / 50) * vDen)
  let back := fun (o : OnTime) =>
    (⟨o.start - 8 * div, o.stop.map (· - 8 * (div : Int)), o.last - 8 * div, o.code⟩ : OnTime)
  let old := (b.ons.map back).filter fun o => decide (0 < o.stop.getD o.last)
  let start := rheDiv (k.phase * div) 2
  let d := d.setBst g { b with ref := ref, cmd := c, ePrev := e,
                               ons := if code = 0 then old else old ++ [⟨start, none, start + rheDiv (k.maxd * div) 32, code⟩],
                               ilRun := if held then b.ilRun else if atLim then b.ilRun + 1 else 0,
                               settled := if ok then b.settled + 1 else 0 }
  (d.when atLim (·.bstCount g 4 1)).wr (F.BST_MEAS_C g) code

/-- The conditions other than over-voltage that a carrier cycle tests (R355, R358). -/
def Dev.bstStops (d : Dev) (g : Nat) : Dev := d.each [2, 3, 4, 5] fun d cause => d.bstStop g cause

/-- The controller's work at a carrier cycle start with V_rail = vNum / vDen, in R358's order: the stop conditions, the
goal, the writes that take effect; then the reference's step (R352), and in START and RUN the compensator,
from the cycle after the one that enters START. -/
def Dev.bstCycle (d : Dev) (g vNum vDen : Nat) (late held : Bool) : Dev :=
  let d := (((d.bstLow g vNum vDen held).bstStops g).bstRegrid g).bstGoal g late
  let s := d.bstate g
  let d := d.bstTakes g
  if d.bstate g = bStart ∧ s ≠ bStart then d
  else
    let ref := d.refStep g
    let d := if d.bstate g = bStart ∨ d.bstate g = bRun then d.bstComp g ref vNum vDen held
      else d.setBst g { d.bst g with ref := ref }
    d.bstShow g

/-- V_rail of the cycle that has just ended as a quotient in 1/256 V (R347): the mean of its rail samples. -/
def Dev.railMean (d : Dev) (g : Nat) : Nat × Nat :=
  let ns := (d.bst g).rails
  if ns = [] then ((d.bst g).vNum, (d.bst g).vDen) else (ns.sum * (d.bstCfg g).fs, ns.length * 2 ^ 18)

/-- A carrier cycle of group `g` starts (R322, R323, R327, R347). `hold` is the V_rail that R376 puts in the place of
the mean over the cycle that has ended. -/
def Dev.carrierCycle (d : Dev) (g : Nat) (late : Bool) (hold : Option (Nat × Nat)) : Dev :=
  let v := hold.getD (d.railMean g)
  let vNum := v.1
  let vDen := v.2
  let low := decide (vNum < 256 * vDen)
  let uNum := if low then 256 else vNum
  let uDen := if low then 1 else vDen
  let d := d.set (F.MOD_GRP_STATUS_CARRIER_RUN g)
  let d := if d.groupSwitching g then d
           else (d.setGroup g { d.group g with slip := 0 }).clr (F.MOD_GRP_STATUS_EPOCH_SLIP g)
  let d := d.setBst g { d.bst g with rails := [] }
  let d := d.wr (F.MOD_GRP_RAIL_V g) (rheDiv uNum uDen)
  let d := d.bstCycle g vNum vDen late hold.isSome
  let d := d.each (d.members g) fun d k => d.gangCycle k uNum uDen
  d.setGroup g { d.group g with count := (d.group g).count + 1 }

/-- The follower's target for the present output tick (R351). -/
def Dev.follower (d : Dev) (g : Nat) : Nat :=
  let w := (d.rd (F.MOD_GRP_CFG_LA g) + 5) / 6
  let p := ((d.bst g).peaks.filter fun q => decide (d.tick ≤ q.1 + w)).foldl (fun m q => max m q.2) 0
  ((d.bstCfg g).headroom * d.vrefOf g * p * 100 + 98 * 256 * 2 ^ 31 - 1) / (98 * 256 * 2 ^ 31)

/-- The target of the present output tick (R350): it waits for the first carrier cycle at or after T + 128 cycles. -/
def Dev.bstTarget (d : Dev) (g : Nat) : Dev :=
  let b := d.bst g
  let d := d.setBst g { b with env := none }
  if !d.on (F.BST_CTL_EN g) then d
  else
    let fol := d.follower g
    let t := match (d.bstCfg g).mode, b.env with
      | 0, e => e
      | 1, _ => some fol
      | _, none => some fol
      | _, some e => some (max e fol)
    match t with
    | none => d.bstCount g 0 1
    | some v =>
      let lo := (d.bstCfg g).min
      let hi := (d.bstCfg g).max
      let c := if v < lo then lo else if hi < v then hi else v
      (d.when (decide (c ≠ v)) (·.bstCount g 2 1)).setBst g { d.bst g with due := some c }

/-- The ENV targets of the present tick are delivered (R297, R350). -/
def Dev.deliverEnv (d : Dev) : Dev :=
  let now := d.envs.filter fun e => e.2.1 == d.tick
  let d := { d with envs := d.envs.filter fun e => decide (d.tick < e.2.1) }
  d.each (List.range 8) fun d g =>
    let mine := now.filter fun e => e.1.2 == g
    if mine = [] then d
    else if (d.bstCfg g).mode = 1 then d.bstCount g 1 mine.length
    else
      let v := mine.foldl (fun m e => max m e.2.2) 0
      (d.when (decide (1 < mine.length)) (·.set (F.BST_EVENTS_MULTI_EV g))).setBst g { d.bst g with env := some v }

/-- The Drive Engine's fetch for the present output tick, once (R16, R324, R350, R351). -/
def Dev.gangFetch (d : Dev) : Dev :=
  if d.drive.fetched = d.tick + 1 then d
  else
    let d := { d with drive := { d.drive with fetched := d.tick + 1 } }
    let d := d.each d.allGangs fun d k => (d.fetchGang k).gangHalves k
    d.each (List.range 8) fun d g =>
      let mine := (d.members g).filter fun k => d.gstate k == gPlaying
      let ps := (mine.map fun k => ((d.gang k).samples.filter fun s => s.1 == d.tick).map (·.2)).flatten
      let b := d.bst g
      let keep := b.peaks.filter fun q => decide (d.tick < q.1 + 32)
      (d.setBst g { b with peaks := if ps = [] then keep else (d.tick, peakOf ps.flatten) :: keep }).bstTarget g

/-- The controllers at the end of a realignment drain (R356). -/
def Dev.bstRealigned (d : Dev) : Dev :=
  let d := { d with envs := [] }
  d.each (List.range 8) fun d g =>
    let d := d.setBst g { d.bst g with peaks := [], due := none, env := none }
    if d.bstate g = bRun then d.bstStopNow g 6 else d

end Sys2Proof.Machine
end

