-- ==== Sys2Proof/Machine/Clocks.lean ====
section
/-! DEFINITION. SYSPLL, MEDPLL with its references and realignments, and TIME's writes (R28 to R71, R472). -/

namespace Sys2Proof.Machine

/-- Change the PLLs' hidden state, and TIME's. -/
def Dev.modClk (d : Dev) (f : ClkSt → ClkSt) : Dev := { d with clk := f d.clk }
def Dev.modTime (d : Dev) (f : TimeSt → TimeSt) : Dev := { d with time := f d.time }

/-- 200 ppm of CLK_TIME in 2^-40 (R47). -/
def smrLimit : Int := 219902325

/-- 500 ppm in 2^-40: the largest RATE (R59). -/
def rateLimit : Int := 549755813

/-- SLEW_MAX in 2^-40, rounded down. -/
def Dev.slewMax (d : Dev) : Int := (d.rd F.MEDPLL_SLEW_SLEW_MAX * 2 ^ 40 / 1000000 : Nat)

/-- The slew that moves RESIDUAL towards zero, in 2^-40 of elapsed time (R50). -/
def Dev.slew (d : Dev) : Int :=
  if d.time.residual = 0 then 0 else if 0 < d.time.residual then d.slewMax else -d.slewMax

/-- Does the clamp of R47 act? The sum of the rate and the slew exceeds 200 ppm. -/
def Dev.smrClamped (d : Dev) : Bool := decide (smrLimit < (d.rate + d.slew).natAbs)

/-- The part of the rate that the clamp removes (R47): a slew in the rate's direction is reduced first, to nothing, and
the rate after it; an opposing slew stands (notes/assumptions/23.md). -/
def Dev.clampExcess (d : Dev) : Int :=
  let sum := if 0 ≤ d.rate * d.slew then d.rate else d.rate + d.slew
  sum - clampInt (-smrLimit) smrLimit sum

/-- RESIDUAL's views and SMR_RANGE follow the 64-bit value, the rate and the slew limit (R47, R50, R54). -/
def Dev.showResidual (d : Dev) : Dev :=
  let r := d.time.residual
  let wide := outOf 32 r
  (((d.wr F.MEDPLL_RESIDUAL_RESIDUAL (lowOf 32 (satTo 32 r))).wr F.MEDPLL_STATUS_RESIDUAL_WIDE (bit wide)).wr
    F.MEDPLL_STATUS_SLEWING (bit (decide (r ≠ 0)))).wr F.MEDPLL_STATUS_SMR_RANGE (bit d.smrClamped)

/-- A realignment is commanded (R52, R53, R64). -/
def Dev.realignGo (d : Dev) : Dev :=
  if d.on F.MEDPLL_STATUS_REALIGN_PENDING then d
  else if !d.on F.MEDPLL_STATUS_REF_VALID || !d.on F.MEDPLL_CTL_MODE then d.set F.MEDPLL_EVENTS_REALIGN_DENIED
  else (d.modClk fun k => { k with realign := .waiting d.tick }).set F.MEDPLL_STATUS_REALIGN_PENDING

/-- RESIDUAL's magnitude exceeds 100 ms (R53, R54). -/
def Dev.residualFar (d : Dev) : Bool := decide (1600000000 < d.time.residual.natAbs)

/-- A step in 1/16 ns joins RESIDUAL, and beyond 100 ms a realignment is commanded (R50, R53, R54). -/
def Dev.addResidual (d : Dev) (s : Int) : Dev :=
  let d := d.modTime fun t => { t with residual := t.residual + s,
                                       slewRaw := if t.residual = 0 then t.raw else t.slewRaw }
  d.showResidual.when d.residualFar (·.realignGo)

/-- The part of the rate that the clamp removes accrues in RESIDUAL over one CLK_TIME cycle (R47); the cycle that
carries it beyond 100 ms commands a realignment (R54). -/
def Dev.clampCycle (d : Dev) : Dev :=
  let excess := d.clampExcess
  if excess = 0 then d
  else
    let far := d.residualFar
    let t := (d.time.residFrac : Int) + 2 * excess
    let d := (d.modTime fun x =>
      { x with residFrac := (t % 2 ^ 36).toNat, residual := x.residual + t / 2 ^ 36 }).showResidual
    d.when (d.residualFar && !far) (·.realignGo)

/-- Does the next CLK_TIME cycle carry the low 32 bits of corrected time from 2^32 − 1 to 0 (R60)? -/
def Dev.wrapsNext (d : Dev) : Bool :=
  d.time.running && decide (d.nowWide / 2 ^ 32 < d.corrAt (d.time.raw + 1) / 2 ^ 72)

/-- One CLK_TIME cycle passes (R56, R60). -/
def Dev.timeCycle (d : Dev) : Dev :=
  if !d.time.running then d
  else
    let d := d.when d.wrapsNext (·.set F.TIME_EVENTS_WRAP)
    (d.modTime fun t => { t with raw := (t.raw + 1) % 2 ^ 64 }).clampCycle

/-- RESIDUAL moves one step towards zero: enough RAW time must have passed at SLEW_MAX and at the rate that the clamp
leaves to the slew (R47, R50). -/
def Dev.slewStep (d : Dev) : Dev :=
  let r := d.time.residual
  let n := d.time.raw - d.time.slewRaw
  let room := if 0 < r then smrLimit - d.rate else smrLimit + d.rate
  if r = 0 ∨ n * d.rd F.MEDPLL_SLEW_SLEW_MAX < 31250 ∨ (n : Int) * room * 32 < 2 ^ 40 then d
  else
    let d := d.modTime fun t => { t with residual := if 0 < r then r - 1 else r + 1, slewRaw := t.raw }
    d.showResidual

/-- The band of an acquisition: the lowest-index entry that matches, or what the hardware search finds (R43). `free` is
what the search would give. -/
def Dev.bandOf (d : Dev) (med : Bool) (free : Nat) : Nat × Bool × Nat :=
  let t := signedOf 8 (d.rd F.PLL_TEMP_TEMP)
  let o := signedOf 24 (d.rd F.MEDPLL_REF_MEAS_OFFSET_PPM)
  let hit := fun i =>
    if med then
      d.on (F.MEDPLL_BANDTAB_A_VALID i) && decide (signedOf 8 (d.rd (F.MEDPLL_BANDTAB_A_T_LO i)) ≤ t) &&
        decide (t ≤ signedOf 8 (d.rd (F.MEDPLL_BANDTAB_A_T_HI i))) &&
        decide (signedOf 16 (d.rd (F.MEDPLL_BANDTAB_B_F_LO i)) ≤ o) &&
        decide (o ≤ signedOf 16 (d.rd (F.MEDPLL_BANDTAB_B_F_HI i)))
    else
      d.on (F.SYSPLL_BANDTAB_A_VALID i) && decide (signedOf 8 (d.rd (F.SYSPLL_BANDTAB_A_T_LO i)) ≤ t) &&
        decide (t ≤ signedOf 8 (d.rd (F.SYSPLL_BANDTAB_A_T_HI i)))
  match (List.range 16).find? hit with
  | some i => (d.rd (if med then F.MEDPLL_BANDTAB_A_BAND i else F.SYSPLL_BANDTAB_A_BAND i), false, i)
  | none => (free % 32, true, 0)

/-- SYSPLL selects its band. -/
def Dev.sysBand (d : Dev) : Dev :=
  let r := d.fresh
  let b := r.2.bandOf false r.1
  ((r.2.wr F.SYSPLL_STATUS_BAND b.1).wr F.SYSPLL_STATUS_BAND_SEARCHED (bit b.2.1)).wr F.SYSPLL_STATUS_BAND_ENTRY b.2.2

/-- The selected reference becomes valid or stops being so (R35); its loss falls back or coasts (R42, R49). The
fall-back replaces a change that waits for its boundary (DESIGN CHOICE: notes/assumptions/194.md). -/
def Dev.setValid (d : Dev) (b : Bool) : Dev :=
  if b == d.on F.MEDPLL_STATUS_REF_VALID then d
  else if b then (d.set F.MEDPLL_STATUS_REF_VALID).set F.MEDPLL_EVENTS_REF_RETURNED
  else
    let d := (d.clr F.MEDPLL_STATUS_REF_VALID).set F.MEDPLL_EVENTS_REF_LOST
    if d.clk.active.sel = 0 ∨ !d.on F.MEDPLL_CTL_MODE then d
    else
      let d := (d.clr F.MEDPLL_STATUS_REF_JUMP_REFUSED).modClk fun k => { k with refused := none, measure := false }
      if d.on F.MEDPLL_CTL_FALLBACK then d.modClk fun k => { k with pending := some (⟨0, 0, 0⟩, d.tick), fallback := true }
      else d.set F.MEDPLL_STATUS_COAST

/-- The SMR's validity follows SYSPLL's lock (R35). -/
def Dev.smrValid (d : Dev) : Dev := if d.clk.active.sel = 0 then d.setValid (d.on F.SYSPLL_STATUS_LOCK) else d

/-- SYSPLL declares lock; the first time its clocks and RAW start (R30, R31, R56). -/
def Dev.sysLock (d : Dev) : Dev :=
  let first := !d.time.running
  let d := (d.when first fun d => (d.modTime fun t => { t with running := true }).sysBand).set F.SYSPLL_STATUS_LOCK
  d.smrValid

/-- SYSPLL declares lock lost (R30). -/
def Dev.sysLockLost (d : Dev) : Dev :=
  if !d.on F.SYSPLL_STATUS_LOCK then d
  else ((d.clr F.SYSPLL_STATUS_LOCK).set F.SYSPLL_EVENTS_LOCK_LOST).smrValid

/-- No XTAL_IN edge for 8 PFD periods; edges again for 1024 of them (R32). -/
def Dev.sysRefLost (d : Dev) : Dev :=
  if d.on F.SYSPLL_STATUS_REF_LOST then d else (d.set F.SYSPLL_STATUS_REF_LOST).set F.SYSPLL_EVENTS_REF_LOST_EV
def Dev.sysReacquire (d : Dev) : Dev :=
  if !d.on F.SYSPLL_STATUS_REF_LOST then d
  else ((d.clr F.SYSPLL_STATUS_REF_LOST).sysBand).set F.SYSPLL_EVENTS_REACQUIRED

/-- The spread that SPREAD.EN asks for takes effect (R33). -/
def Dev.spreadApply (d : Dev) : Dev := d.wr F.SYSPLL_SPREAD_ACTIVE (d.rd F.SYSPLL_SPREAD_EN)

/-- A PLL's tuning voltage is compared in closed mode (R45). -/
def Dev.vtChange (d : Dev) (med low high : Bool) : Dev :=
  if med then
    if !d.on F.MEDPLL_CTL_MODE then d
    else
      let moved := low != d.on F.MEDPLL_STATUS_VT_LOW || high != d.on F.MEDPLL_STATUS_VT_HIGH
      ((d.when moved (·.set F.MEDPLL_EVENTS_VT_EV)).wr F.MEDPLL_STATUS_VT_LOW (bit low)).wr
        F.MEDPLL_STATUS_VT_HIGH (bit high)
  else if !d.time.running then d
  else
    let moved := low != d.on F.SYSPLL_STATUS_VT_LOW || high != d.on F.SYSPLL_STATUS_VT_HIGH
    ((d.when moved (·.set F.SYSPLL_EVENTS_VT_EV)).wr F.SYSPLL_STATUS_VT_LOW (bit low)).wr
      F.SYSPLL_STATUS_VT_HIGH (bit high)

/-- Does the AES3 port `n` give a usable frame rate (R35)? Classes 1 to 3 are 48k, 96k and 192k. A port that is not in
mode 4 recovers none (DEDUCED: notes/assumptions/221.md). -/
def Dev.aesGood (d : Dev) (n : Nat) : Bool :=
  (d.sap n).mode == 4 && decide (1 ≤ d.rd (F.PORT_RATE_CLASS n)) && decide (d.rd (F.PORT_RATE_CLASS n) ≤ 3) &&
    !d.on (F.PORT_STATUS_BP_MUTE n)

/-- An AES3 reference falls with its port (R35). -/
def Dev.aesCheck (d : Dev) : Dev :=
  if d.clk.active.sel = 2 ∧ !d.aesGood d.clk.active.port then d.setValid false else d

/-- What the table of R34 gives for a reference: its nominal rate in Hz, MEDPLL's feedback divider N and its
charge-pump current in µA; none for WCLK_RATE 3, which is reserved, and for a port whose class is no rate of R2. -/
def Dev.refRow (d : Dev) (r : RefChoice) : Option (Nat × Nat × Nat) :=
  let row := fun k => (48000 * 2 ^ k, 65536 / 2 ^ k, 400 / 2 ^ k)
  match r.sel with
  | 0 => some (768000, 4096, 25)
  | 1 => if r.rate ≤ 2 then some (row r.rate) else none
  | _ =>
    let cls := d.rd (F.PORT_RATE_CLASS r.port)
    if 1 ≤ cls ∧ cls ≤ 3 then some (row (cls - 1)) else none

/-- MEDPLL's feedback divider N and its charge-pump current in µA, which scales with N: those of the reference in use;
the charge pump is off in open mode (R34). -/
def Dev.pump (d : Dev) : Option (Nat × Nat) :=
  if d.on F.MEDPLL_CTL_MODE then (d.refRow d.clk.active).map fun x => x.2 else none

/-- Can the external reference `r` be valid (R35)? A word clock under the reserved WCLK_RATE 3 names no rate, so it
never is (R2; DESIGN CHOICE: notes/assumptions/219.md). -/
def Dev.refUsable (d : Dev) (r : RefChoice) : Bool :=
  (d.refRow r).isSome && (r.sel != 2 || d.aesGood r.port)

/-- A measurement of the selected reference in 1/64 ppm (R35). OFFSET_PPM shows the low 24 bits of an offset that its
signed field does not hold (DESIGN CHOICE: notes/assumptions/154.md). -/
def Dev.refMeasured (d : Dev) (o : Int) : Dev :=
  let d := d.wr F.MEDPLL_REF_MEAS_OFFSET_PPM (lowOf 24 o)
  let k := d.clk.active
  if k.sel = 0 then d
  else if !d.refUsable k ∨ 16000 < o.natAbs then d.setValid false
  else if o.natAbs ≤ 12800 then d.setValid true
  else d

/-- No edge of the selected external reference for 4 periods (R35, R42). -/
def Dev.refLost (d : Dev) : Dev := if d.clk.active.sel = 0 then d else d.setValid false

/-- A phase error in 1/16 ns is absorbed or refused (R51, R472): `Return with a phase jump`. -/
def Dev.phaseJump (d : Dev) (o : Int) : Dev :=
  if o.natAbs ≤ 16 * d.rd F.TIME_JUMP_LIMIT_LIMIT then d.addResidual o
  else
    let d := d.modClk fun k => { k with refused := some o }
    (d.when (!d.on F.MEDPLL_STATUS_REF_JUMP_REFUSED) (·.set F.MEDPLL_EVENTS_JUMP_REFUSED_EV)).set
      F.MEDPLL_STATUS_REF_JUMP_REFUSED

/-- The first valid tick mark of a reference that returns or is new (R41, R49, R51). A change to the
SMR whose phase is refused ends coasting, since the SMR is valid (DESIGN CHOICE: notes/assumptions/220.md). -/
def Dev.refReturn (d : Dev) (o : Int) : Dev :=
  if !d.clk.measure || !d.on F.MEDPLL_CTL_MODE || !d.on F.MEDPLL_STATUS_REF_VALID then d
  else
    let fits := decide (o.natAbs ≤ 16 * d.rd F.TIME_JUMP_LIMIT_LIMIT)
    let d := d.modClk fun k => { k with measure := false }
    (d.wr F.MEDPLL_STATUS_COAST (bit (!fits && d.clk.active.sel != 0))).phaseJump o

/-- A write of REALIGN.ACCEPT (R51, R472). -/
def Dev.realignAccept (d : Dev) : Dev :=
  match d.clk.refused with
  | none => d
  | some o =>
    let d := d.modClk fun k => { k with refused := none }
    ((d.clr F.MEDPLL_STATUS_REF_JUMP_REFUSED).clr F.MEDPLL_STATUS_COAST).addResidual o

/-- MEDPLL declares lock (R36, R40, R472). -/
def Dev.medLock (d : Dev) : Dev :=
  if !d.on F.MEDPLL_CTL_MODE || d.on F.MEDPLL_STATUS_LOCK then d
  else
    let d := (d.set F.MEDPLL_STATUS_LOCK).set F.MEDPLL_EVENTS_LOCKED
    d.modClk fun k => { k with acq := if k.acq = .lock then .mark else k.acq,
                               relock := false, relockMark := k.relock && k.acq = .none }

/-- MEDPLL declares lock lost (R36). -/
def Dev.medLockLost (d : Dev) : Dev :=
  if !d.on F.MEDPLL_CTL_MODE || !d.on F.MEDPLL_STATUS_LOCK then d
  else
    let d := (d.clr F.MEDPLL_STATUS_LOCK).set F.MEDPLL_EVENTS_LOCK_LOST
    d.modClk fun k => { k with acq := if k.acq = .mark then .lock else k.acq, relock := k.acq = .none,
                               relockMark := false }

/-- The offset of the first tick mark after a regained lock (R472). -/
def Dev.lockReturn (d : Dev) (o : Int) : Dev :=
  if !d.clk.relockMark then d else (d.modClk fun k => { k with relockMark := false }).phaseJump o

/-- The per-tick frequency check: `n` CLK_PORT cycles in a tick of CLK_TIME (R37). -/
def Dev.freqCheck (d : Dev) (n : Nat) : Dev :=
  let off := ((n : Int) - 12288).natAbs
  if !d.on F.MEDPLL_STATUS_FREQ_ALARM then
    if 12288 < off * 1000 then
      (((d.modClk fun k => { k with freqGood := 0 }).set F.MEDPLL_STATUS_FREQ_ALARM).set
        F.MEDPLL_EVENTS_FREQ_ALARM_EV).freqHold
    else d
  else
    let g := if off * 2000 ≤ 12288 then d.clk.freqGood + 1 else 0
    let d := d.modClk fun k => { k with freqGood := if g = 8 then 0 else g }
    if g = 8 then (d.clr F.MEDPLL_STATUS_FREQ_ALARM).freqFree else d

/-- The reference that MEDPLL.CTL names. -/
def Dev.refAsked (d : Dev) : RefChoice :=
  ⟨d.rd F.MEDPLL_CTL_REF_SEL, d.rd F.MEDPLL_CTL_REF_PORT, d.rd F.MEDPLL_CTL_WCLK_RATE⟩

/-- A reference comes into use: the SMR's validity is known at once. Another external one counts as not valid, without
an event, until its next measurement, and its loss before that changes nothing (DESIGN CHOICE:
notes/assumptions/151.md). A change of any field of the choice makes it another one, also of a field that its source
does not read (DESIGN CHOICE: notes/assumptions/193.md). -/
def Dev.useRef (d : Dev) (r : RefChoice) : Dev :=
  let same := r == d.clk.active
  let d := (d.modClk fun k => { k with active := r, pending := none, fallback := false }).wr F.MEDPLL_STATUS_REF_ACTIVE r.sel
  if r.sel = 0 then d.setValid (d.on F.SYSPLL_STATUS_LOCK)
  else if same then d else d.clr F.MEDPLL_STATUS_REF_VALID

/-- An acquisition starts: band, loop, wait for lock; LOCK falls in silence (R36, R40, R43). -/
def Dev.acquire (d : Dev) : Dev :=
  let r := d.fresh
  let b := r.2.bandOf true r.1
  let d := (((r.2.wr F.MEDPLL_STATUS_BAND b.1).wr F.MEDPLL_STATUS_BAND_SEARCHED (bit b.2.1)).wr
    F.MEDPLL_STATUS_BAND_ENTRY b.2.2).clr F.MEDPLL_STATUS_LOCK
  let d := (d.clr F.MEDPLL_STATUS_COAST).clr F.MEDPLL_STATUS_REF_JUMP_REFUSED
  d.modClk fun k => { k with acq := .lock, relock := false, relockMark := false, refused := none, measure := false }

/-- A write to MEDPLL.CTL (R39 to R42). REF_SEL 3 is written as 0. A change of reference that waits is replaced by one
to the reference written, or withdrawn where that is in use; a fall-back that waits stands unless another reference is
named (R42). The reserved WCLK_RATE 3 is stored as written and names no rate (DESIGN CHOICE: notes/assumptions/219.md).
MODE written to 0 leaves VT_LOW and VT_HIGH as they were, and a realignment that was reacquiring stays
pending until a later acquisition ends it (DESIGN CHOICE: notes/assumptions/152.md, 153.md). -/
def Dev.medCtlWrite (d : Dev) (v : Nat) : Dev :=
  let mode := bitsAt v 0 1
  let ob := bitsAt v 13 5
  let sel := if bitsAt v 1 2 = 3 then 0 else bitsAt v 1 2
  let old := d.rd F.MEDPLL_CTL_MODE
  let denied := d.anyReleased && ((old == 1 && mode == 0) || (old == 0 && ob != d.rd F.MEDPLL_CTL_OPEN_BAND))
  let d := d.wrs [(F.MEDPLL_CTL_REF_SEL, sel), (F.MEDPLL_CTL_REF_PORT, bitsAt v 3 5),
    (F.MEDPLL_CTL_WCLK_RATE, bitsAt v 8 2), (F.MEDPLL_CTL_FALLBACK, bitsAt v 10 1),
    (F.MEDPLL_CTL_MCLK_EN, bitsAt v 11 1), (F.MEDPLL_CTL_MCLK_DIV, bitsAt v 12 1)]
  let d := if denied then d.set F.MEDPLL_EVENTS_MODE_DENIED
           else (d.wr F.MEDPLL_CTL_MODE mode).wr F.MEDPLL_CTL_OPEN_BAND ob
  let r := d.refAsked
  let now := d.rd F.MEDPLL_CTL_MODE
  if now = 1 ∧ old = 0 then (d.useRef r).acquire
  else if now = 1 then
    let again := d.on F.MEDPLL_STATUS_COAST || d.on F.MEDPLL_STATUS_REF_JUMP_REFUSED
    let stays := r == d.clk.active && !again
    d.modClk fun k => { k with pending := if stays then (if k.fallback then k.pending else none) else some (r, d.tick),
                               fallback := stays && k.fallback }
  else
    let d := if old = 1 then
        let d := ((d.clr F.MEDPLL_STATUS_LOCK).clr F.MEDPLL_STATUS_COAST).clr F.MEDPLL_STATUS_REF_JUMP_REFUSED
        d.modClk fun k => { k with acq := .none, relock := false, relockMark := false, refused := none,
                                   measure := false }
      else d
    let d := (d.wr F.MEDPLL_STATUS_BAND (d.rd F.MEDPLL_CTL_OPEN_BAND)).wrs
      [(F.MEDPLL_STATUS_BAND_SEARCHED, 0), (F.MEDPLL_STATUS_BAND_ENTRY, 0)]
    d.useRef r

/-- A reference change takes effect at a tick boundary (R41). -/
def Dev.refChange (d : Dev) : Dev :=
  match d.clk.pending with
  | none => d
  | some (r, t) =>
    if !d.on F.MEDPLL_CTL_MODE || decide (d.tick ≤ t) then d
    else
      let d := (d.clr F.MEDPLL_STATUS_REF_JUMP_REFUSED).modClk fun k => { k with refused := none, measure := true }
      d.useRef r

/-- The dividers are loaded on a tick mark (R40); after a realignment it is done, and MEDIA_COUNT moves by 6 `k`
(R52, R71). -/
def Dev.dividerLoad (d : Dev) (k : Int) : Dev :=
  if d.clk.acq ≠ .mark ∨ !d.on F.MEDPLL_STATUS_LOCK then d
  else
    let done := decide (d.clk.realign = .acquiring)
    let d := (d.modClk fun c => { c with acq := .none, atMark := true,
                                         realign := if done then .none else c.realign }).modTime
      fun t => { t with mediaCount := if done then lowOf 64 (t.mediaCount + 6 * k) else t.mediaCount }
    let d := d.when (done && d.time.mediaLoaded) (·.gridShift k)
    d.when done fun d => (d.clr F.MEDPLL_STATUS_REALIGN_PENDING).set F.MEDPLL_EVENTS_REALIGN_DONE

/-- A write of PLL.CAL (R38, R39): START is refused while any gang is released, and measures in open mode alone. A START
during a measurement begins again, MODE written to 1 leaves the measurement running, and STATUS.BAND does not show its
band (DESIGN CHOICE: notes/assumptions/155.md). The reserved VT 3 is stored and measured as it stands (DESIGN CHOICE:
notes/assumptions/219.md). -/
def Dev.calWrite (d : Dev) (v : Nat) : Dev :=
  let d := (d.wr F.PLL_CAL_BAND (bitsAt v 2 5)).wr F.PLL_CAL_VT (bitsAt v 7 2)
  if bitsAt v 0 1 = 0 then d
  else if d.anyReleased then d.set F.MEDPLL_EVENTS_MODE_DENIED
  else if d.on F.MEDPLL_CTL_MODE then d
  else (d.clr F.PLL_CAL_DONE).modClk fun k => { k with cal := some (bitsAt v 2 5, bitsAt v 7 2) }

/-- The measurement ends with a count (R38). -/
def Dev.calDone (d : Dev) (n : Nat) : Dev :=
  if d.clk.cal = none then d
  else ((d.modClk fun k => { k with cal := none }).wr F.PLL_CAL_COUNT_COUNT n).set F.PLL_CAL_DONE

/-- A die-temperature measurement completes. -/
def Dev.tempMeasured (d : Dev) (t : Int) : Dev := (d.wr F.PLL_TEMP_TEMP (lowOf 8 t)).set F.PLL_TEMP_VALID

/-- The boundary of a commanded realignment (R52, R53): a SWITCH drain in progress is waited for, and a SWITCH that is
due at the same boundary serves the realignment with its own drain. -/
def Dev.realignStart (d : Dev) : Dev :=
  match d.clk.realign with
  | .waiting _ => if d.realignDue then (d.modClk fun k => { k with realign := .draining d.tick }).driveDrain else d
  | _ => d

/-- What the end of a realignment's drain does (R52, R341, R356). -/
def Dev.realignEndNow (d : Dev) : Dev :=
  let d := (d.modTime fun t => { t with residual := 0, residFrac := 0 }).showResidual
  let d := d.each allCtx fun d x => d.drainBlock x
  let d := d.driveRealigned.bstRealigned.resetAllQueues
  if d.on F.MEDPLL_CTL_MODE then (d.acquire).modClk fun k => { k with realign := .acquiring }
  else ((d.modClk fun k => { k with realign := .none }).clr F.MEDPLL_STATUS_REALIGN_PENDING).set
    F.MEDPLL_EVENTS_REALIGN_DONE

/-- Is the present boundary at or past the end of a realignment's drain, B + 2 ticks (R52)? -/
def Dev.realignEnds (d : Dev) : Bool :=
  match d.clk.realign with
  | .draining b => decide (b + 2 ≤ d.tick)
  | _ => false

/-- B + 2 ticks (R52): the drain ends, and the releases of that boundary follow. -/
def Chip.realignEnd (c : Chip) : Chip :=
  if c.dev.realignEnds then (c.onDev fun d => d.realignEndNow).releases else c

/-- TIME.CTL.LOCK (R62). -/
def Dev.timeLock (d : Dev) : Dev :=
  if d.rd F.TIME_STATUS_STATE = 1 then d
  else (d.wr F.TIME_STATUS_STATE 1).modTime fun t => { t with servoRaw := t.raw }

/-- TIME.CTL.COAST (R62). -/
def Dev.timeCoast (d : Dev) : Dev :=
  if d.rd F.TIME_STATUS_STATE ≠ 1 then d else (d.wr F.TIME_STATUS_STATE 2).set F.TIME_EVENTS_COAST_ENTERED

/-- A TIME.CTL write: both bits together are ignored (R62). -/
def Dev.timeCtl (d : Dev) (v : Nat) : Dev :=
  match bitsAt v 0 2 with
  | 1 => d.timeLock
  | 2 => d.timeCoast
  | _ => d

/-- The servo timeout (R62): SERVO_TIMEOUT ms of RAW time, 500 000 cycles each, without a servo write. -/
def Dev.servoTimeout (d : Dev) : Dev :=
  let ms := d.rd F.TIME_SERVO_TIMEOUT_MS
  if ms = 0 ∨ d.time.raw < d.time.servoRaw + ms * 500000 then d else d.timeCoast

/-- TIME.FREE.GO (R62, R66, R69, R70). -/
def Dev.timeFree (d : Dev) : Dev :=
  if d.rd F.TIME_STATUS_STATE = 0 then d
  else d.wrs [(F.TIME_STATUS_STATE, 0), (F.TIME_STATUS_JUMP_REFUSED, 0), (F.TIME_STATUS_ANCHOR_REFUSED, 0),
    (F.TIME_STATUS_MEDIA_VALID, 0)]

/-- An accepted OFFSET write (R63, R64). -/
def Dev.offsetTake (d : Dev) (v : Int) : Dev :=
  let locked := d.rd F.TIME_STATUS_STATE == 1
  let d := d.modTime fun t => { t with offset := v, frac := 0, servoRaw := if locked then t.raw else t.servoRaw }
  ((d.set F.TIME_EVENTS_STEP_ACCEPTED).set F.TIME_STATUS_ANCHOR_CHECK).clr F.TIME_STATUS_JUMP_REFUSED

/-- A TIME.RATE write: fold, then clamp (R58, R59). -/
def Dev.rateFold (d : Dev) (v : Nat) : Dev :=
  let r := signedOf 32 v
  let c := clampInt (-rateLimit) rateLimit r
  let total := d.time.offset * 2 ^ 40 + d.time.frac + d.rateTerm d.time.raw
  let locked := d.rd F.TIME_STATUS_STATE == 1
  let d := d.modTime fun t => { t with offset := total / 2 ^ 40, frac := (total % 2 ^ 40).toNat, rawR := t.raw,
                                       servoRaw := if locked then t.raw else t.servoRaw }
  let d := (d.wr F.TIME_RATE_RATE (lowOf 32 c)).wr F.TIME_STATUS_RATE_CLAMPED (bit (decide (c ≠ r)))
  (d.when (decide (c ≠ r)) (·.set F.TIME_EVENTS_RATE_CLAMP_EV)).showResidual

/-- An OFFSET write of the signed 64-bit value `v`; `override` is the guarded override of R65 (R63 to R66). -/
def Dev.offsetJudge (d : Dev) (v : Int) (override : Bool) : Dev :=
  let step := v - d.time.offset
  if d.rd F.TIME_STATUS_STATE = 0 then
    (d.offsetTake v).when (d.on F.MEDPLL_CTL_MODE && d.rd F.MEDPLL_CTL_REF_SEL == 0) (·.realignGo)
  else if override || decide (step.natAbs ≤ d.rd F.TIME_JUMP_LIMIT_LIMIT) then
    (d.offsetTake v).addResidual (16 * step)
  else (d.set F.TIME_STATUS_JUMP_REFUSED).set F.TIME_EVENTS_JUMP_REFUSED_EV

/-- The flags that an OFFSET write may move: two of TIME.STATUS and one of MEDPLL.STATUS, then three events. -/
def stepFlags : List Fld :=
  [F.TIME_STATUS_JUMP_REFUSED, F.TIME_STATUS_ANCHOR_CHECK, F.MEDPLL_STATUS_REALIGN_PENDING]
def stepEvents : List Fld :=
  [F.TIME_EVENTS_STEP_ACCEPTED, F.TIME_EVENTS_JUMP_REFUSED_EV, F.MEDPLL_EVENTS_REALIGN_DENIED]

/-- An OFFSET write, with a record of what it found (R63 to R67). -/
def Dev.offsetWrite (d : Dev) (v : Int) (override : Bool) : Dev :=
  let e := d.offsetJudge v override
  let s : OffsetStep :=
    { raw := d.time.raw, value := v, override := override, corr := d.corrAt d.time.raw, offset := d.time.offset,
      frac := d.time.frac, added := e.time.residual - d.time.residual,
      flags := (stepFlags ++ stepEvents).map d.rd, realign := d.clk.realign }
  e.modTime fun t => { t with step := some s }

/-- The OFFSET write that the present cycle has seen, if any. -/
def Dev.stepNow (d : Dev) : Option OffsetStep := d.time.step.filter fun s => s.raw == d.time.raw

/-- The device as if the cycle's OFFSET write had not come yet (R67). -/
def Dev.unstep (d : Dev) (s : OffsetStep) : Dev :=
  let d := (d.modTime fun t => { t with offset := s.offset, frac := s.frac, residual := t.residual - s.added }).modClk
    fun k => { k with realign := s.realign }
  let d := d.wrs ((stepFlags.zip s.flags) ++ (stepEvents.zip (s.flags.drop 3)).map fun p => (p.1, min p.2 (d.rd p.1)))
  d.showResidual

/-- A TIME.RATE write: the fold comes before an OFFSET write of the same cycle, whichever reached TIME first (R58, R59,
R67). -/
def Dev.rateWrite (d : Dev) (v : Nat) : Dev :=
  match d.stepNow with
  | none => d.rateFold v
  | some s => ((d.unstep s).rateFold v).offsetWrite s.value s.override

/-- Corrected time in 2^-40 ns as a snapshot of the present cycle shows it: before the cycle's writes (R67). -/
def Dev.snapCorr (d : Dev) : Int :=
  match d.stepNow with
  | none => d.corrAt d.time.raw
  | some s => s.corr

/-- A TICK_ANCHOR write; `guarded` is the slot of R422 (R68, R69). The grid phase is TICK_PHASE, which a later
boundary makes smaller, so that RESIDUAL keeps the running tick marks where they are (notes/assumptions/191.md). -/
def Dev.anchorWrite (d : Dev) (ns : Nat) (guarded : Bool) : Dev :=
  let g := (instantNear d.nowWide ns % 125000).toNat
  let m := (d.time.grid - (g : Int)) % 125000
  let dd := if m ≤ 62500 then m else m - 125000
  if dd = 0 ∨ guarded ∨ d.rd F.TIME_STATUS_STATE = 0 ∨ dd.natAbs ≤ d.rd F.TIME_JUMP_LIMIT_LIMIT then
    let d := (d.modTime fun t => { t with grid := g }).wrs [(F.TIME_TICK_ANCHOR_NS, ns),
      (F.TIME_STATUS_ANCHOR_CHECK, 0), (F.TIME_STATUS_ANCHOR_VALID, 1), (F.TIME_STATUS_ANCHOR_REFUSED, 0)]
    if dd = 0 then d else d.addResidual (16 * dd)
  else (d.set F.TIME_STATUS_ANCHOR_REFUSED).set F.TIME_EVENTS_ANCHOR_REFUSED_EV

/-- A mailbox write of MEDIA_COUNT is held (R70). -/
def Dev.mediaWrite (d : Dev) (v : Nat) : Dev :=
  (d.modTime fun t => { t with mediaHeld := some (v % 2 ^ 64) }).set F.TIME_STATUS_MEDIA_PENDING

/-- A held MEDIA_COUNT is loaded as the count of the present boundary (R70). -/
def Dev.mediaTake (d : Dev) : Dev :=
  match d.time.mediaHeld with
  | none => d
  | some v =>
    let d := d.modTime fun t => { t with mediaCount := v, mediaSub := 0, mediaHeld := none, mediaLoaded := true }
    d.wrs [(F.TIME_STATUS_MEDIA_PENDING, 0), (F.TIME_STATUS_MEDIA_VALID, 1), (F.TIME_EVENTS_MEDIA_LOADED, 1)]

/-- Before MEDIA_COUNT is read inside a tick: the base-rate sample boundaries that have passed, a free number from those
seen before up to the tick's last (R70; notes/assumptions/157.md). -/
def Dev.mediaStep (d : Dev) : Dev :=
  if d.tick = 0 then d
  else
    let r := d.fresh
    r.2.modTime fun t => { t with mediaSub := t.mediaSub + r.1 % (6 - t.mediaSub) }

/-- MEDIA_COUNT as a read shows it (R70). -/
def Dev.mediaShown (d : Dev) : Nat := (d.time.mediaCount + d.time.mediaSub) % 2 ^ 64

end Sys2Proof.Machine
end

