-- ==== Sys2Proof/Machine/Ports.lean ====
section
/-! DEFINITION. The serial audio ports (R167 to R187). Sample boundaries are numbered as PartsPort says. -/

namespace Sys2Proof.Machine

/-- Change port `n`'s hidden state; a lane's (false DA, true DB). -/
def Dev.modSap (d : Dev) (n : Nat) (f : Sap → Sap) : Dev := d.setSap n (f (d.sap n))
def Sap.lane (p : Sap) (b : Bool) : Lane := if b then p.laneB else p.laneA
def Sap.setLane (p : Sap) (b : Bool) (l : Lane) : Sap := if b then { p with laneB := l } else { p with laneA := l }
def Sap.out (p : Sap) (b : Bool) : Bool := if b then p.bOut else p.aOut
def Dev.modLane (d : Dev) (n : Nat) (b : Bool) (f : Lane → Lane) : Dev :=
  d.modSap n fun p => p.setLane b (f (p.lane b))

/-- The registers of a lane: pending mask, applied mask, queue. -/
def maskOf (n : Nat) (b : Bool) : Fld := if b then F.PORT_MASK_DB_MASK n else F.PORT_MASK_DA_MASK n
def appliedOf (n : Nat) (b : Bool) : Fld := if b then F.PORT_APPLIED_DB_MASK n else F.PORT_APPLIED_DA_MASK n
def queueOf (n : Nat) (b : Bool) : Fld := if b then F.PORT_QUEUES_Q_DB n else F.PORT_QUEUES_Q_DA n

/-- A port counter (R188). -/
def Dev.portCount (d : Dev) (n k c : Nat) : Dev := d.bump (F.PORT_CNT_COUNT n k) c

/-- Samples of the port's rate in a tick, and CLK_PORT cycles in a sample period. -/
def Sap.spt (p : Sap) : Nat := 6 * 2 ^ p.rate
def Sap.period (p : Sap) : Nat := 2048 / 2 ^ p.rate

/-- Is the port a master under R176 and R179; does it have a slave's framing lane? -/
def Sap.slave (p : Sap) : Bool := p.mode == 4 || (decide (p.mode ≤ 2) && !p.master)

/-- The selected slots of a mask, in ascending order (R173). -/
def Sap.selected (p : Sap) (mask : Nat) : List Nat := (List.range p.slots).filter fun s => bitAt mask s

/-- What a port takes at its EN rise (R186), before it runs. -/
def Dev.sapCfg (d : Dev) (n : Nat) : Sap :=
  let mode := d.rd (F.PORT_CTL_MODE n)
  let w := d.rd (F.PORT_FMT_WIDTH n)
  { Sap.init with
    run := .starting, mode := mode, master := d.on (F.PORT_CTL_MASTER n), rate := d.rd (F.PORT_CTL_RATE n),
    slots := if mode = 2 then d.rd (F.PORT_FMT_SLOTS n) + 1 else 2, width := if 3 ≤ mode then 24 else 16 + 8 * w,
    aOut := decide (mode ≤ 2) && d.on (F.PORT_CTL_DA_DIR n),
    bOut := mode == 4 || (decide (mode ≤ 2) && d.on (F.PORT_CTL_DB_DIR n)), idle := d.on (F.PORT_CTL_IDLE n),
    naPcm := d.on (F.PORT_CTL_NA_PCM_EN n), delay := d.on (F.PORT_FMT_DELAY n), fsPol := d.on (F.PORT_FMT_FS_POL n),
    bckPol := d.on (F.PORT_FMT_BCK_POL n), bckDiv := d.rd (F.PORT_FMT_BCK_DIV n), clkSel := d.on (F.PORT_FMT_CLK_SEL n),
    started := d.tick, tol := d.rd (F.PORT_RATE_TOL_PPM n),
    laneA := { Lane.init with cap := d.rd (F.PORT_MASK_DA_MASK n) },
    laneB := { Lane.init with cap := d.rd (F.PORT_MASK_DB_MASK n) } }

/-- Slots in and out of a port, and the same times its rate (R168). -/
def Sap.load (p : Sap) : Nat × Nat × Nat × Nat :=
  let i := p.slots * (bit (!p.aOut) + bit (!p.bOut))
  let o := p.slots * (bit p.aOut + bit p.bOut)
  (i, o, i * 2 ^ p.rate, o * 2 ^ p.rate)
def Dev.portLoad (d : Dev) (l : List Sap) : Nat × Nat × Nat × Nat :=
  (((List.range 32).filter fun n => d.on (F.PORT_CTL_EN n)).map (fun n => (d.sap n).load) ++ l.map (·.load)).foldl
    (fun s x => (s.1 + x.1, s.2.1 + x.2.1, s.2.2.1 + x.2.2.1, s.2.2.2 + x.2.2.2)) (0, 0, 0, 0)

/-- PORT.CAP follows the enabled ports. -/
def Dev.portCap (d : Dev) : Dev :=
  let l := d.portLoad []
  (d.wr F.PORT_CAP_IN_CH l.1).wr F.PORT_CAP_OUT_CH l.2.1

/-- Are the settings refused (R169, R178, R186), the port's share of R168's limits apart? -/
def Dev.portCode (d : Dev) (n : Nat) (p : Sap) : Bool :=
  let div := d.rd (F.PORT_FMT_BCK_DIV n)
  let sel := d.rd (F.PORT_FMT_CLK_SEL n)
  let f := 2048 / (2 ^ p.rate * 2 ^ (div + 2))
  decide (5 < p.mode) || decide (p.rate = 3) || decide (d.rd (F.PORT_FMT_WIDTH n) = 3) || decide (5 < div) ||
    (p.mode == 2 && p.slots == 1) || (decide (p.mode ≤ 2) && p.master && decide (f < p.slots * p.width)) ||
    (p.mode == 3 && !(p.rate == 0 || (sel == 1 && p.rate == 1))) ||
    (p.mode == 5 && !((sel == 0 && decide (p.rate ≤ 1)) || (sel == 1 && decide (1 ≤ p.rate))))

/-- Is an EN rise refused (R168, R186)? -/
def Dev.portBad (d : Dev) (n : Nat) (p : Sap) : Bool :=
  let l := d.portLoad [p]
  d.portCode n p || decide (512 < l.1) || decide (512 < l.2.1) || decide (1024 < l.2.2.1) || decide (1024 < l.2.2.2)

/-- The mutes end with the port's run (DESIGN CHOICE, log 205): R180 and R183 count frames of the port that set them. -/
def Dev.mutesEnd (d : Dev) (n : Nat) : Dev := d.wrs [(F.PORT_STATUS_BP_MUTE n, 0), (F.PORT_STATUS_NA_MUTE n, 0)]

/-- Port `n` takes its settings and waits for the first boundary after tick `since` (R186); DEV.PHASE is 0 for a
master (R188). A port that is still stopping stops at once, its pins high-Z, and starts afresh (DESIGN CHOICE:
notes/assumptions/226.md). -/
def Dev.portOpen (d : Dev) (n since : Nat) : Dev :=
  let d := (d.setSap n { d.sapCfg n with started := since }).wrs
    [(F.PORT_CTL_EN n, 1), (F.PORT_STATUS_RUNNING n, 0), (F.PORT_STATUS_LOCKED n, 0)]
  let d := (d.mutesEnd n).portCap
  if (d.sap n).slave then d else d.wr (F.PORT_DEV_PHASE n) 0

/-- An EN rise (R186, R305). -/
def Dev.portEnable (d : Dev) (n : Nat) : Dev :=
  if d.on (F.PORT_CTL_EN n) then d
  else if d.portBad n (d.sapCfg n) then d.set (F.PORT_EVENTS_CFG_ERR n)
  else
    let d := d.portOpen n d.tick
    let qs := [false, true].map fun b => (epLane n b, d.rd (queueOf n b))
    (d.each (qs.map (·.2)) fun d q => d.resetQ q false).routeLoads qs

/-- The tick boundary at which the port starts (R186). -/
def Dev.portStart (d : Dev) (n : Nat) : Dev :=
  let p := d.sap n
  if p.run ≠ .starting ∨ d.tick ≤ p.started then d
  else
    let first := p.spt * (d.tick + 1)
    let d := d.setSap n { p with run := .running, frame := p.spt * d.tick, first := first,
                                 laneA := { p.laneA with next := first }, laneB := { p.laneB with next := first },
                                 tol := d.rd (F.PORT_RATE_TOL_PPM n) }
    (d.set (F.PORT_STATUS_RUNNING n)).wr (F.PORT_STATUS_LOCKED n) (bit (!p.slave))

/-- The port has stopped: its pins are high-Z (R187). -/
def Dev.portOff (d : Dev) (n : Nat) : Dev := ((d.setSap n Sap.init).wrs
  [(F.PORT_STATUS_RUNNING n, 0), (F.PORT_STATUS_LOCKED n, 0)]).mutesEnd n

/-- An EN fall (R187): it stops at the next frame start, and a frame in progress pushes nothing. A slave is no longer
locked; a master reads LOCKED as long as it runs (R185). -/
def Dev.portDisable (d : Dev) (n : Nat) : Dev :=
  if !d.on (F.PORT_CTL_EN n) then d
  else
    let d := (d.clr (F.PORT_CTL_EN n)).portCap
    let d := d.when (d.sap n).slave (·.clr (F.PORT_STATUS_LOCKED n))
    if (d.sap n).run = .running then
      d.modSap n fun p => { p with stopping := true, lock := .unlocked,
                                   laneA := { p.laneA with frames := [], ready := [], held := [], taken := [] },
                                   laneB := { p.laneB with frames := [], ready := [], held := [], taken := [] } }
    else d.portOff n

/-- A write of MASK_DA or MASK_DB; `late` tells that it reaches the port less than three cycles before the next frame
start (R174). -/
def Dev.maskWrite (d : Dev) (n : Nat) (b : Bool) (mask : Nat) (late : Bool) : Dev :=
  (d.wr (maskOf n b) mask).modLane n b fun l => if late then l else { l with cap := mask % 2 ^ 32 }

/-- A frame start captures the masks of the lanes in the list (R174). -/
def Dev.capture (d : Dev) (n : Nat) (bs : List Bool) : Dev :=
  let moved := bs.any fun b => ((d.sap n).lane b).cap != d.rd (appliedOf n b)
  let d := bs.foldl (fun d b => (d.wr (appliedOf n b) ((d.sap n).lane b).cap).modLane n b fun l =>
    { l with cap := d.rd (maskOf n b) }) d
  if moved then d.wr (F.PORT_MASK_EPOCH_EPOCH n) (d.rd (F.PORT_MASK_EPOCH_EPOCH n) + 1) else d

/-- An input lane's frame begins, with its time point and mask (R176). -/
def Dev.inFrame (d : Dev) (n : Nat) (b : Bool) (tp : Nat) : Dev :=
  d.modLane n b fun l => { l with frames := l.frames ++ [(tp, d.rd (appliedOf n b))] }

/-- What an output lane shows in the frame that carries time point `tp` (R170, R173, R182): selected slots take the
packet's words rounded to the slot's width, others are zero or high-Z as IDLE says. -/
def Dev.outFrame (d : Dev) (n : Nat) (b : Bool) (tp : Option Nat) : Dev :=
  let p := d.sap n
  let mask := d.rd (appliedOf n b)
  let sel := p.selected mask
  let words := match tp with
    | none => []
    | some t => match (p.lane b).taken.find? fun (x : Nat × List Nat) => x.1 == t with
      | some x => x.2
      | none => []
  let rest := if p.mode = 4 ∨ !p.idle then some 0 else none
  let slots := (List.range p.slots).map fun s =>
    if sel.contains s then
      some (lowOf p.width (roundQ p.width (signedOf 32 (words.getD (sel.filter (· < s)).length 0))))
    else rest
  d.modLane n b fun l => { l with before := l.shown, shown := slots, taken := match tp with
    | none => l.taken
    | some t => l.taken.filter fun (x : Nat × List Nat) => decide (t < x.1) }

/-- The channel-status CRCC of AES3 over 23 bytes, as byte 23. -/
def crcc (bs : List Nat) : Nat :=
  (bs.take 23).foldl (fun c x => (List.range 8).foldl (fun c i =>
    if (c + x / 2 ^ i) % 2 = 1 then Nat.xor (c / 2) 0xB8 else c / 2) c) 0xFF

/-- The block that DB sends, latched at its Z preamble (R182). -/
def Dev.csOut (d : Dev) (n : Nat) : List Nat :=
  let bs := (List.range 24).map fun i => bitsAt (d.rd (F.PORT_CS_TX_BYTES n (i / 4))) (8 * (i % 4)) 8
  if (bs.getD 0 0) % 2 = 1 then bs.take 23 ++ [crcc bs] else bs

/-- A frame starts at a sample boundary: a master port's, or DB's in mode 4 (R169, R170, R174, R176, R182). A mode-4
port stops as a whole at whichever of DA's and DB's frame starts comes first (DESIGN CHOICE:
notes/assumptions/226.md). -/
def Dev.portFrame (d : Dev) (n : Nat) : Dev :=
  let p := d.sap n
  if p.run ≠ .running ∨ (p.slave ∧ p.mode ≠ 4) ∨ p.spt * (d.tick + 1) ≤ p.frame then d
  else if p.stopping then d.portOff n
  else
    let aes := p.mode == 4
    let d := d.capture n (if aes then [true] else [false, true])
    let d := d.modSap n fun p => { p with frame := p.frame + 1, zpos := (p.zpos + 1) % 192,
                                          csTx := if aes && p.zpos == 0 then d.csOut n else p.csTx }
    let d := if aes then d else d.portCount n 0 1
    (if aes then [true] else [false, true]).foldl (fun d b =>
      if p.out b then d.outFrame n b (if p.frame = 0 then none else some (p.frame - 1))
      else d.inFrame n b (p.frame + 1)) d

/-- Distance of two phases on a circle of `t` cycles. -/
def phaseGap (t a b : Nat) : Nat :=
  let x := (a + t - b % t) % t
  min x (t - x)

/-- A locked port loses its lock (R185); the output of a mode-4 port runs on as a master's does (R182). -/
def Dev.unlock (d : Dev) (n : Nat) : Dev :=
  ((d.modSap n fun p => { p with lock := .unlocked, laneA := { p.laneA with taken := [] },
                                 laneB := if p.mode = 4 then p.laneB else { p.laneB with taken := [] } }).clr (F.PORT_STATUS_LOCKED n)).set
    (F.PORT_EVENTS_UNLOCK_EV n)

/-- A frame of an unlocked port has no time point, which 0 stands for: no lane's first time point is 0. A slave's
frame start, `phase` cycles after the `j`-th sample boundary of the tick; `short` tells that the frame before it ended
early (R171, R174, R176, R177, R185). -/
def Dev.slaveFrame (d : Dev) (n j phase : Nat) (short : Bool) : Dev :=
  let p := d.sap n
  if p.run ≠ .running ∨ !p.slave ∨ p.spt ≤ j ∨ p.period ≤ phase then d
  else if p.stopping then d.portOff n
  else
    let t := p.period
    let lanes := if p.mode = 4 then [false] else [false, true]
    let d := (d.capture n lanes).portCount n 0 1
    let d := d.when short fun d => (d.portCount n 1 1).set (F.PORT_EVENTS_FRAME_EV n)
    let d := d.modSap n fun p => { p with
      winOk := p.winOk && (match p.winFirst with | none => true | some f => decide (phaseGap t phase f ≤ 8)),
      winFirst := some (p.winFirst.getD phase), lastPh := phase }
    let gap := phaseGap t phase p.p0
    let d := match p.lock with
      | .locking _ => if 8 < gap then d.modSap n fun p => { p with lock := .unlocked } else d
      | .locked => if t < 4 * gap then (d.unlock n).portCount n 7 1 else d
      | .unlocked => d
    let at0 := ((p.spt * d.tick + j) * t + phase + t - p.p0 + t / 2) / t - 1
    let locked := (d.sap n).lock == .locked
    lanes.foldl (fun d b =>
      if p.out b then d.outFrame n b (if locked && decide (0 < at0) then some (at0 - 1) else none)
      else d.inFrame n b (if (d.sap n).lock = .unlocked then 0 else at0 + 2)) d

/-- Does the frame hold a burst preamble (R183)? Slot values are `w` bits wide. -/
def hasPreamble (w : Nat) : List (Option Nat) → Bool
  | some a :: some b :: rest =>
    (a / 2 ^ (w - 16) == 0xF872 && b / 2 ^ (w - 16) == 0x4E1F) || hasPreamble w rest
  | _ :: _ :: rest => hasPreamble w rest
  | _ => false

/-- The nearest integer to `a / b`, ties to even (R152). -/
def rndDiv (a b : Int) : Int :=
  let q := a / b
  let r := a % b
  if b < 2 * r ∨ (2 * r = b ∧ q % 2 = 1) then q + 1 else q

/-- The packet of a lane's time point goes to the binding that governs the point: the first one left at a boundary
after it, else the one in force (R307, R309). Bindings that no later point needs are forgotten. -/
def Dev.pushBound (d : Dev) (n : Nat) (b : Bool) (tp : Nat) (words : List Nat) : Dev :=
  let olds := ((d.sap n).lane b).olds.filter fun o => decide (tp < (d.sap n).spt * o.1)
  let d := d.modLane n b fun l => { l with olds := olds }
  match olds with
  | [] => d.sourcePush (epLane n b) 0 words
  | (_, q, off) :: _ => if off then d else d.pushPacket q 0 words

/-- Push one packet of a lane at its time point. One that is complete before the boundary that begins its tick waits for
that boundary while a change of the lane's route is pending, which governs it from there (R307). -/
def Dev.pushLane (d : Dev) (n : Nat) (b : Bool) (tp : Nat) (words : List Nat) : Dev :=
  let early := decide ((d.sap n).spt * (d.tick + 1) ≤ tp)
  if early && ((d.pendOf (epLane n b)).isSome || ((d.sap n).lane b).held != []) then
    d.modLane n b fun l => { l with held := l.held ++ [(tp, words)] }
  else d.pushBound n b tp words

/-- The packets that waited for the present boundary are pushed (R307). -/
def Dev.releaseHeld (d : Dev) (n : Nat) : Dev :=
  [false, true].foldl (init := d) fun d b =>
    let l := (d.sap n).lane b
    (l.held.foldl (fun d x => d.pushBound n b x.1 x.2) d).modLane n b fun l => { l with held := [] }

/-- Push a lane's packet for time point `tp`, with packets of zeros for the points before it that a slave has missed
(R173, R176). -/
def Dev.pushPoint (d : Dev) (n : Nat) (b : Bool) (tp : Nat) (words : List Nat) : Dev :=
  let l := (d.sap n).lane b
  let d := d.each (List.range (tp - l.next)) fun d i =>
    d.pushLane n b (l.next + i) (((d.sap n).selected (d.rd (appliedOf n b))).map fun _ => 0)
  (d.pushLane n b tp words).modLane n b fun l => { l with next := tp + 1 }

/-- Does the port's detector watch its input lanes; does it watch two of them (R183)? -/
def Sap.detects (p : Sap) : Bool := p.mode == 4 || (decide (p.mode ≤ 2) && p.naPcm)
def Sap.pairs (p : Sap) : Bool := decide (p.mode ≤ 2) && p.naPcm && !p.aOut && !p.bOut

/-- The mute of a frame's errors (R180): `errs` of its subframes are in error. -/
def Dev.bpFrame (d : Dev) (n errs : Nat) : Dev :=
  let p := d.sap n
  let bad := if errs = 0 then 0 else p.bpBad + 1
  let mute := decide (8 ≤ bad) && !d.on (F.PORT_STATUS_BP_MUTE n)
  let d := (d.portCount n 4 errs).modSap n fun p =>
    { p with bpBad := bad, bpGood := if errs = 0 then p.bpGood + 1 else 0 }
  (d.when mute fun d => (d.set (F.PORT_STATUS_BP_MUTE n)).set (F.PORT_EVENTS_BP_EV n)).aesCheck

/-- The non-audio hold of a frame (R183): `burst` tells that one of its lanes holds a burst. -/
def Dev.naFrame (d : Dev) (n : Nat) (burst : Bool) : Dev :=
  let d := d.modSap n fun p => { p with naSince := if burst then 0 else p.naSince + 1 }
  let d := d.when (burst && !d.on (F.PORT_STATUS_NA_MUTE n)) fun d =>
    (d.set (F.PORT_STATUS_NA_MUTE n)).set (F.PORT_EVENTS_NA_EV n)
  d.portCount n 6 (bit (d.on (F.PORT_STATUS_NA_MUTE n) && decide ((d.sap n).naSince < 4096)))

/-- Are the port's words muted (R180, R183)? -/
def Dev.inMuted (d : Dev) (n : Nat) : Bool :=
  (d.on (F.PORT_STATUS_NA_MUTE n) && decide ((d.sap n).naSince < 4096)) ||
    ((d.sap n).mode == 4 && d.on (F.PORT_STATUS_BP_MUTE n))

/-- An input frame's packet of lane `b` is pushed: not before the lane's first time point, not while the port is
unlocked, and not for a time point already served (R176, R186). -/
def Dev.packetOut (d : Dev) (n : Nat) (b : Bool) (x : InPacket) : Dev :=
  let p := d.sap n
  if x.point < p.first ∨ (p.slave ∧ p.lock ≠ .locked) then d
  else if x.point < (p.lane b).next then d.portCount n 7 1
  else d.pushPoint n b x.point (x.words.map fun w => if d.inMuted n then 0 else w)

/-- The packets of one frame that are ready in the lanes of the list leave together, once each of these lanes has one. -/
def Dev.framesOut (d : Dev) (n : Nat) (bs : List Bool) : Dev :=
  let xs := bs.filterMap fun b => (((d.sap n).lane b).ready.head?).map fun x => (b, x)
  if xs.length < bs.length then d
  else
    let d := bs.foldl (init := d) fun d b => d.modLane n b fun l => { l with ready := l.ready.drop 1 }
    let d := d.naFrame n (xs.any fun x => x.2.burst)
    xs.foldl (fun d x => d.packetOut n x.1 x.2) d

/-- Modulator bits in an output sample period (R178): the divider of SAPn_BCK is 32, 16 or 8. -/
def Sap.bits (p : Sap) : Nat := p.period / ((if p.mode = 3 then 32 else 16) / (if p.clkSel then 2 else 1))

/-- The sums of `n` consecutive values, from each place on. -/
def boxSums (n : Nat) (l : List Int) : List Int :=
  let s := l.foldl (fun (a : Int × List Int) v => (a.1 + v, (a.1 + v) :: a.2)) (0, [])
  let t := (0 :: s.2.reverse)
  (t.zip (t.drop n)).map fun x => x.2 - x.1

/-- The fifth-order CIC stage that decimates by `r`: one value for each `r` inputs, scaled by r^5 (R164). -/
def cic (r : Nat) (l : List Int) : List Int :=
  let s := boxSums r (boxSums r (boxSums r (boxSums r (boxSums r l))))
  (List.range ((s.length + r - 1) / r)).map fun i => s.getD (i * r) 0

/-- A decimator's output from its inputs, newest first (R164): the CIC stage, then a linear-phase FIR stage whose
coefficients the spec does not publish, symmetric about 16 output periods (PDM) or 8 (SENSE) before the newest input;
a constant input is scaled within the passband ripple, whatever the coefficients; the output is rounded to 24 bits. -/
def decimated (sense : Bool) (bits : Nat) (hist : List Int) : Int :=
  let r := bits / 4
  let taps := if sense then 60 else 124
  let inputs := (List.range ((if sense then 16 else 32) * bits)).map fun i => hist.getD i 0
  let tap := fun (i : Nat) => Config.decimTap sense bits (min i (taps - 1 - i))
  let zero := ((List.range taps).map tap).sum = 0
  let f := fun (i : Nat) => if zero ∧ min i (taps - 1 - i) + 1 = taps / 2 then tap i + 1 else tap i
  let sum := (((cic r (inputs.drop 2)).take taps).mapIdx fun i c => f i * c).sum
  let gain := ((List.range taps).map f).sum * r ^ 5
  let ripple := clampInt (if sense then -115063 else -57548) (if sense then 115196 else 57582) (Config.decimGain sense bits)
  satTo 24 (rndDiv (2 ^ 23 * sum * (10 ^ 8 + ripple)) (gain * 10 ^ 8))

/-- A frame's bits `v`, first in bit 0, in front of the older inputs of a stream (R178). -/
def streamIn (bits keep v : Nat) (hist : List Int) : List Int :=
  (((List.range bits).map fun i => if bitAt v i then (1 : Int) else -1).reverse ++ hist).take keep

/-- The decimators of a PDM or SENSE lane take a frame's bits, `slots` giving those of the rising edge and those of the
falling edge (R178, R179). -/
def Dev.decimate (d : Dev) (n : Nat) (b : Bool) (slots : List (Option Nat)) : Dev :=
  let p := d.sap n
  let keep := (if p.mode = 5 then 16 else 32) * p.bits
  let v := fun i => (slots.getD i none).getD 0
  d.modLane n b fun l => { l with rise := streamIn p.bits keep (v 0) l.rise, fall := streamIn p.bits keep (v 1) l.fall }

/-- The value of slot `s` of a frame that is complete (R172, R178): what its bits spell, or its stream's decimated
sample; BCK_POL swaps the streams. -/
def Sap.slotValue (p : Sap) (b : Bool) (slots : List (Option Nat)) (s : Nat) : Nat :=
  if p.mode = 3 ∨ p.mode = 5 then
    let l := p.lane b
    lowOf 24 (decimated (p.mode == 5) p.bits (if (s == 0) == p.bckPol then l.fall else l.rise))
  else match slots.getD s none with
    | some v => v % 2 ^ p.width
    | none => 0

/-- The last selected slot of a lane's oldest frame is complete (R172, R173, R176, R179, R180, R183): `slots` holds each
slot's value, none where it is incomplete or in error, or in modes 3 and 5 the bits of the two edges; `status` is the
frame's channel-status bit of R183. In modes 3 and 5 the packet is the decimators' output at the frame's start S, whose
time point is S + T, so its newest input is the last bit before S; the frame's own bits follow it (R179). -/
def Dev.inputPush (d : Dev) (n : Nat) (b : Bool) (slots : List (Option Nat)) (status : Bool) : Dev :=
  let p := d.sap n
  match (p.lane b).frames with
  | [] => d
  | (tp, mask) :: rest =>
    if p.run ≠ .running ∨ p.out b then d
    else
      let words := (p.selected mask).map fun s => p.slotValue b slots s * 2 ^ (32 - p.width)
      let d := d.modLane n b fun l => { l with frames := rest }
      let d := if p.mode = 3 ∨ p.mode = 5 then d.decimate n b slots else d
      let d := if p.mode ≠ 4 then d
        else d.bpFrame n ((List.range 2).filter fun s => (slots.getD s none).isNone).length
      let burst := (p.mode == 4 && status) || (p.detects && hasPreamble p.width slots)
      if !p.detects then d.packetOut n b ⟨tp, words, false⟩
      else
        let d := d.modLane n b fun l => { l with ready := l.ready ++ [⟨tp, words, burst⟩] }
        d.framesOut n (if p.pairs then [false, true] else [b])

/-- The slots that a frame brings in: free ones while the functional logic is cut from the pins (R463). -/
def Dev.pinSlots (d : Dev) (slots : List (Option Nat)) : List (Option Nat) × Dev :=
  if !d.cut then (slots, d)
  else
    let r := d.pinValues (2 ^ 32 + 1) (slots.map fun _ => 0)
    (r.1.map fun v => if v = 0 then none else some (v - 1), r.2)

/-- An unlocked input lane's packet of zeros for its next time point (R176). -/
def Dev.synthPush (d : Dev) (n : Nat) (b : Bool) : Dev :=
  let p := d.sap n
  let t := (p.lane b).next
  if p.run ≠ .running ∨ p.stopping ∨ !p.slave ∨ p.lock = .locked ∨ p.out b ∨ p.spt * (d.tick + 1) ≤ t then d
  else d.pushPoint n b t ((p.selected (d.rd (appliedOf n b))).map fun _ => 0)

/-- An output lane takes the packet of its next time point (R173, R175, R177). -/
def Dev.outputTake (d : Dev) (n : Nat) (b : Bool) : Dev :=
  let p := d.sap n
  let t := (p.lane b).next
  let early := if p.slave && p.mode != 4 then decide (p.spt * (d.tick + 1) ≤ t) else decide (p.frame ≤ t)
  if p.run ≠ .running ∨ p.stopping ∨ !p.out b ∨ early then d
  else
    let n' := (p.selected (d.rd (appliedOf n b))).length
    let d := d.modLane n b fun l => { l with next := t + 1 }
    if n' = 0 then d
    else
      let r := d.sinkTake (epLane n b) d.tick
      let ws := r.2.map fun w => w.data.toNat
      let d := if ws = [] then (r.1.portCount n 2 1).set (F.PORT_EVENTS_UNDERRUN_EV n)
        else if ws.length ≠ n' then (r.1.portCount n 3 1).set (F.PORT_EVENTS_FORM_EV n)
        else r.1
      if p.slave && p.mode != 4 && p.lock != .locked then d
      else d.modLane n b fun l => { l with taken := l.taken ++ [(t, ws.take n' ++ List.replicate (n' - ws.length) 0)] }

/-- The rate class of a measurement in Hz × 16 (R184). -/
def rateClass (m : Nat) : Nat :=
  match [1, 2, 3].find? fun i =>
    let r := 16 * 48000 * 2 ^ (i - 1)
    decide (((m : Int) - r).natAbs * 100 ≤ r) with
  | some i => i
  | none => 4

/-- The rate class changes (R184). -/
def Dev.setClass (d : Dev) (n c : Nat) : Dev :=
  (d.when (d.rd (F.PORT_RATE_CLASS n) != c) (·.set (F.PORT_EVENTS_CLASS_EV n))).wr (F.PORT_RATE_CLASS n) c

/-- A measuring window begins. RATE_TOL as it stands now judges its end, so a write within it counts from the next
window on (R185; DEDUCED: notes/assumptions/227.md). -/
def Dev.windowStart (d : Dev) (n : Nat) : Dev :=
  d.modSap n fun p => { p with winFirst := none, winOk := true, tol := d.rd (F.PORT_RATE_TOL_PPM n) }

/-- A measuring window of 256 frames ends with `c` CLK_TIME and `m` CLK_PORT cycles (R184, R185). A rate beyond the
field of MEAS shows a free value. -/
def Dev.rateWindow (d : Dev) (n c m : Nat) : Dev :=
  let p := d.sap n
  if p.run ≠ .running ∨ c = 0 ∨ m = 0 then d
  else
    let meas := (rndDiv 2048000000000 c).toNat
    let r := d.fresh
    let d := if meas < 2 ^ 22 then d.wr (F.PORT_RATE_MEAS n) meas else r.2.wr (F.PORT_RATE_MEAS n) r.1
    let km : Int := (2 ^ p.rate * m : Nat)
    let dev := satTo 16 (rndDiv (16000000 * (524288 - km)) km)
    let high := decide (16 * p.tol < dev.natAbs)
    let d := (d.setClass n (rateClass meas)).wr (F.PORT_DEV_DEV_PPM n) (lowOf 16 dev)
    let d := (d.when (high && !d.on (F.PORT_STATUS_DEV_HIGH n)) (·.set (F.PORT_EVENTS_DEV_EV n))).wr
      (F.PORT_STATUS_DEV_HIGH n) (bit high)
    let good := rateClass meas == p.rate + 1 && !high
    let d := if !p.slave then d
      else match p.lock with
        | .unlocked =>
          if good && p.winOk && p.winFirst.isSome && !p.stopping then
            (d.modSap n fun p => { p with lock := .locking d.tick, p0 := p.lastPh }).wr (F.PORT_DEV_PHASE n) p.lastPh
          else d
        | .locking _ => d
        | .locked => if good then d else d.unlock n
    (d.windowStart n).aesCheck

/-- No frame start for 1 ms (R184, R185). -/
def Dev.rateAbsent (d : Dev) (n : Nat) : Dev :=
  let p := d.sap n
  if p.run ≠ .running ∨ !p.slave then d
  else
    let d := ((d.wr (F.PORT_RATE_MEAS n) 0).setClass n 0).windowStart n
    (if p.lock = .locked then d.unlock n else d).aesCheck

/-- A port in Locking meets its tick boundary (R185). -/
def Dev.portLock (d : Dev) (n : Nat) : Dev :=
  match (d.sap n).lock with
  | .locking t =>
    if d.tick ≤ t then d
    else ((d.modSap n fun p => { p with lock := .locked }).set (F.PORT_STATUS_LOCKED n)).set (F.PORT_EVENTS_LOCK_EV n)
  | _ => d

/-- 256 frames without an error (R180). -/
def Dev.bpUnmute (d : Dev) (n : Nat) : Dev :=
  if 256 ≤ (d.sap n).bpGood then d.clr (F.PORT_STATUS_BP_MUTE n) else d

/-- A channel-status block of 24 bytes ends (R181). -/
def Dev.csBlock (d : Dev) (n : Nat) (bs : List Nat) : Dev :=
  let pro := bs.getD 0 0 % 2 == 1
  if (d.sap n).run ≠ .running ∨ (d.sap n).mode ≠ 4 then d
  else if pro && bs.getD 23 0 % 256 != crcc bs then d.portCount n 5 1
  else
    let word := fun i => (List.range 4).foldl (fun w k => w + bs.getD (4 * i + k) 0 % 256 * 2 ^ (8 * k)) 0
    let new := (List.range 6).any fun i => d.rd (F.PORT_CS_RX_BYTES n i) != word i
    let d := d.each (List.range 6) fun d i => d.wr (F.PORT_CS_RX_BYTES n i) (word i)
    (d.wr (F.PORT_STATUS_PRO n) (bit pro)).when new (·.set (F.PORT_EVENTS_CS_EV n))

/-- 4096 frames after the last burst frame (R183). -/
def Dev.naExpire (d : Dev) (n : Nat) : Dev :=
  if 4096 ≤ (d.sap n).naSince then d.clr (F.PORT_STATUS_NA_MUTE n) else d

end Sys2Proof.Machine
end

