-- ==== Sys2Proof/Machine/Frames.lean ====
section
/-! DEFINITION. Bytes of frames: fields, the FCS, checksums and the header forms (R97, R100, R101, R126). -/

namespace Sys2Proof.Machine

/-- A list of bytes as one number, the first byte the most significant. -/
def beNat (l : List Byte) : Nat := l.foldl (fun a b => a * 256 + b.toNat) 0

/-- `n` bytes of a frame from offset `o` as one number. -/
def fieldAt (fr : List Byte) (o n : Nat) : Nat := beNat ((fr.drop o).take n)

/-- A number as `n` bytes, most significant first. -/
def beBytes (n v : Nat) : List Byte := (List.range n).map fun i => BitVec.ofNat 8 (v / 256 ^ (n - 1 - i))

/-- A frame with the bytes from offset `o` replaced. -/
def patch (fr : List Byte) (o : Nat) (new : List Byte) : List Byte :=
  fr.take o ++ new ++ fr.drop (o + new.length)

/-- One bit of the reflected CRC-32 of IEEE 802.3. -/
def crc32Step (c : Nat) : Nat := if c % 2 = 1 then Nat.xor (c / 2) 0xEDB88320 else c / 2

/-- The CRC-32 that IEEE 802.3 defines for the FCS, as a number (R369): of the nine characters 123456789 it is
0xCBF43926. -/
def crc32 (bs : List Byte) : Nat :=
  0xFFFFFFFF - bs.foldl (fun c b => (List.range 8).foldl (fun c _ => crc32Step c) (Nat.xor c b.toNat)) 0xFFFFFFFF

/-- The FCS as the four bytes that follow the frame, in the order of the line (R97). -/
def fcsOf (fr : List Byte) : List Byte := (beBytes 4 (crc32 fr)).reverse

/-- The one's-complement sum of the 16-bit words of a list of bytes, odd tails padded with zero. -/
def onesSum : List Byte → Nat → Nat
  | a :: b :: r, s => onesSum r (s + a.toNat * 256 + b.toNat)
  | [a], s => s + a.toNat * 256
  | [], s => s

/-- Fold a sum into 16 bits, twice over: enough for every sum that a frame can give. -/
def fold16 (s : Nat) : Nat :=
  let t := s % 65536 + s / 65536
  let u := t % 65536 + t / 65536
  u % 65536 + u / 65536

/-- A UDP checksum updated for a field changed from `old` to `new`; zero is sent as all ones. -/
def checksumUpdate (c : Nat) (old new : List Byte) : Nat :=
  let s := fold16 ((65535 - c) + onesSum (old.map fun b => ~~~b) 0 + onesSum new 0)
  if s = 65535 then 65535 else 65535 - s

/-- The EtherType of an untagged frame. -/
def etherType (fr : List Byte) : Nat := fieldAt fr 12 2

/-- Is the frame IPv4 that is not a fragment and carries UDP (R101)? A UDP header that the frame's end cuts short does
not count (DESIGN CHOICE: notes/assumptions/162.md). -/
def isUdp (fr : List Byte) : Bool :=
  etherType fr == 0x0800 && fieldAt fr 14 1 / 16 == 4 && decide (5 ≤ fieldAt fr 14 1 % 16) &&
    fieldAt fr 20 2 % 0x4000 == 0 && fieldAt fr 23 1 == 17 &&
    decide (14 + 4 * (fieldAt fr 14 1 % 16) + 8 ≤ fr.length)

/-- Where the UDP header of an IPv4 frame begins. -/
def udpAt (fr : List Byte) : Nat := 14 + 4 * (fieldAt fr 14 1 % 16)

/-- Where the PTP message of a frame of R101's rule 2 begins. -/
def ptpAt (fr : List Byte) : Option Nat :=
  if etherType fr = 0x88F7 then some 14
  else if isUdp fr && (fieldAt fr (udpAt fr + 2) 2 == 319 || fieldAt fr (udpAt fr + 2) 2 == 320) then
    some (udpAt fr + 8)
  else none

/-- Replace the 8-byte correctionField of the PTP message at `o`, with the UDP checksum if there is one (R74, R77). -/
def setCorrection (fr : List Byte) (o : Nat) (v : Nat) : List Byte :=
  let new := beBytes 8 v
  let old := (fr.drop (o + 8)).take 8
  let fr' := patch fr (o + 8) new
  let c := fieldAt fr (o - 2) 2
  if etherType fr = 0x88F7 ∨ c = 0 then fr' else patch fr' (o - 2) (beBytes 2 (checksumUpdate c old new))

/-- A list of bytes as 32-bit words from bits [31:24] down, the last padded with zeros (R104). -/
def wordsOf : Nat → List Byte → List Nat
  | 0, _ => []
  | n + 1, l => beNat ((l ++ [0, 0, 0, 0]).take 4) :: wordsOf n (l.drop 4)

end Sys2Proof.Machine
end

