-- ==== Sys2Proof/Machine/Teus.lean ====
section
/-! DEFINITION. The time event units (R80 to R90). -/

namespace Sys2Proof.Machine

/-- The time base of a unit at RAW in 2^-40 ns: corrected time, or media time (R81). -/
def Dev.baseAt (d : Dev) (base : Nat) : Int :=
  if base = 1 then d.mediaAt d.time.raw else d.corrAt d.time.raw

/-- An event time in 1/256 ns as 2^-40 ns. -/
def fine (e : Int) : Int := e * 2 ^ 32

/-- Has the unit's next event been reached (R80)? -/
def Dev.teuDue (d : Dev) (u : Nat) : Bool :=
  d.on (F.TEU_STATUS_ARMED u) && decide (fine (d.teu u).nextE ≤ d.baseAt (d.teu u).base)

/-- Descriptors in transmit ring `c` of port `p`. -/
def Dev.txQueued (d : Dev) (p c : Nat) : Nat :=
  let n := 2 ^ d.rd (F.MAC_TXR_CFG_SIZE p c)
  (d.rd (F.MAC_TXR_PTR_TAIL p c) + n - d.rd (F.MAC_TXR_PTR_HEAD p c) % n) % n

/-- Does enabled unit `u` target class `c` of port `p` (R87)? Class 6, latched or written to TARGET since, leaves its
launch action ineffective (R88). -/
def Dev.teuTargets (d : Dev) (u p c : Nat) : Bool :=
  let t := d.teu u
  d.on (F.TEU_CTL_EN u) && t.launchAct && t.port == p && t.cls == c && c != 6 && d.rd (F.TEU_TARGET_CLASS u) != 6

/-- Is class `c` of port `p` held by some unit? -/
def Dev.classHeld (d : Dev) (p c : Nat) : Bool := (List.range 16).any fun u => d.teuTargets u p c

/-- LAUNCH_DENIED of every unit: the target register names class 6, or a lower-numbered enabled unit holds the class
(R88). -/
def Dev.launchDenials (d : Dev) : Dev :=
  d.each (List.range 16) fun d u =>
    let t := d.teu u
    let held := d.on (F.TEU_CTL_EN u) && t.launchAct &&
      (t.cls == 6 || (List.range u).any fun v => d.teuTargets v t.port t.cls)
    let deny := held || d.rd (F.TEU_TARGET_CLASS u) == 6
    let rose := deny && !d.on (F.TEU_STATUS_LAUNCH_DENIED u)
    (d.when rose (·.set (F.TEU_EVENTS_LAUNCH_DENIED_EV u))).wr (F.TEU_STATUS_LAUNCH_DENIED u) (bit deny)

/-- A rise of EN (R80 to R82): the settings are taken and the first event time found. -/
def Dev.teuEnable (d : Dev) (u : Nat) : Dev :=
  let per := d.on (F.TEU_CTL_PERIODIC u)
  let period := d.rd (F.TEU_PERIOD_NS_NS u) * 256 + d.rd (F.TEU_PERIOD_FRAC_FRAC u)
  if d.on (F.TEU_CTL_EN u) then d
  else if per && decide (period < 256000) then d.set (F.TEU_EVENTS_CONFIG_ERR u)
  else
    let base := d.rd (F.TEU_CTL_BASE u)
    let now := d.baseAt base
    let e0 := 256 * instantNear (now / 2 ^ 40) (d.rd (F.TEU_START_NS_NS u))
    let past := decide (fine e0 < now)
    let skipped : Nat := if past && per then ((now - fine e0 + fine period - 1) / fine period).toNat else 0
    let d := (d.set (F.TEU_CTL_EN u)).set (F.TEU_STATUS_ARMED u)
    let d := d.setTeu u
      { nextE := e0 + skipped * period, periodic := per, pinAct := d.on (F.TEU_CTL_PIN_ACT u),
        launchAct := d.on (F.TEU_CTL_LAUNCH_ACT u), base := base, pin := d.rd (F.TEU_CTL_PIN u),
        pol := d.on (F.TEU_CTL_POL u), period := period, width := d.rd (F.TEU_WIDTH_NS u),
        port := d.rd (F.TEU_TARGET_PORT u), cls := d.rd (F.TEU_TARGET_CLASS u), pinFrom := 0, pinUntil := none }
    let d := d.bump (F.TEU_STATUS_MISSED u) skipped
    (d.when past (·.set (F.TEU_EVENTS_LATE u))).launchDenials

/-- CLK_TIME cycles by which the unit's base reaches `e` (1/256 ns) from now at the present rate, to the nearest edge
with ties to the later one (R85). -/
def Dev.edgeIn (d : Dev) (base : Nat) (e : Int) : Int :=
  let y := 2 ^ 41 + 2 * d.rate
  (2 * (fine e - d.baseAt base) + y) / (2 * y)

/-- The pin action of an event at `e` whose successor is at `next` (R85, R86). The owner of the pin keeps it; WCLK_OUT
comes first among those that contend. An odd WIDTH is rounded up to whole cycles, and the pulse of an event that lies
further back than one cycle starts at the cycle before the present one (DESIGN CHOICE: notes/assumptions/156.md,
195.md). -/
def Dev.teuPin (d : Dev) (u : Nat) (e : Int) (next : Option Int) : Dev :=
  let t := d.teu u
  let other := (List.range 16).any fun v => v != u && (d.teu v).pin == t.pin &&
    (d.on (F.TEU_STATUS_PIN_HELD v) || (decide (v < u) && (d.teu v).pinAct && d.teuDue v))
  let mine := d.on (F.TEU_STATUS_PIN_HELD u)
  if !mine && (other || (t.pin == 7 && d.on F.TIME_WCLK_OUT_EN)) then
    let rose := !d.on (F.TEU_STATUS_PIN_DENIED u)
    (((d.when rose (·.set (F.TEU_EVENTS_PIN_DENIED_EV u))).set (F.TEU_STATUS_PIN_DENIED u)).clr
      (F.TEU_STATUS_PIN_HELD u)).setTeu u { t with pinUntil := none }
  else
    let at0 : Int := max (d.time.raw - 1 : Int) (d.time.raw + d.edgeIn t.base e)
    let w : Nat := max 2 ((t.width + 1) / 2)
    let cut := match next with
      | none => false
      | some n => decide ((d.time.raw : Int) + d.edgeIn t.base n ≤ at0 + w)
    let stop := match next with
      | none => at0 + w
      | some n => if cut then d.time.raw + d.edgeIn t.base n - 1 else at0 + w
    let d := d.when cut (·.set (F.TEU_EVENTS_WIDTH_CLIPPED u))
    ((d.set (F.TEU_STATUS_PIN_HELD u)).clr (F.TEU_STATUS_PIN_DENIED u)).setTeu u
      { t with pinFrom := at0.toNat, pinUntil := some stop.toNat }

/-- Is the descriptor of the frame on the line still the first in ring `c`? -/
def Mac.onLine (m : Mac) (c : Nat) : Bool :=
  match m.line with
  | none => false
  | some l => l.cls == c && l.desc.isNone

/-- Frames of class `c` that no start has taken: the descriptor of a frame on the line is still in its ring. -/
def Dev.txWaiting (d : Dev) (p c : Nat) : Nat := d.txQueued p c - bit ((d.mac p).onLine c)

/-- The launch action: one frame of the class is released (R87). -/
def Dev.teuLaunch (d : Dev) (u : Nat) : Dev :=
  let t := d.teu u
  if d.on (F.TEU_STATUS_LAUNCH_DENIED u) then d
  else
    let m := d.mac t.port
    let r := Sparse.get (fun _ => 0) m.rel t.cls
    if r < d.txWaiting t.port t.cls then
      d.setMac t.port { m with rel := Sparse.set (fun _ => 0) m.rel t.cls (r + 1) }
    else d.set (F.TEU_EVENTS_LAUNCH_EMPTY u)

/-- An event fires (R80, R83, R85 to R89). -/
def Dev.teuFire (d : Dev) (u : Nat) : Dev :=
  if !d.teuDue u then d
  else
    let t := d.teu u
    let lateBy := d.baseAt t.base - fine t.nextE
    let more : Nat := if t.periodic then (lateBy / fine t.period).toNat else 0
    let e := t.nextE + more * t.period
    let next := if t.periodic then some (e + t.period) else none
    let d := (d.wr (F.TEU_STATUS_FIRED u) (d.rd (F.TEU_STATUS_FIRED u) + 1)).bump (F.TEU_STATUS_MISSED u) more
    let d := d.when (d.on (F.TEU_CTL_IRQ u)) (·.set (F.TEU_EVENTS_FIRED_EV u))
    let d := d.when t.pinAct fun d => d.teuPin u e next
    let d := d.when t.launchAct fun d => d.teuLaunch u
    match next with
    | some n => d.setTeu u { d.teu u with nextE := n }
    | none => d.clr (F.TEU_STATUS_ARMED u)

/-- The pin returns to its inactive level (R85). -/
def Dev.teuPinEnd (d : Dev) (u : Nat) : Dev :=
  match (d.teu u).pinUntil with
  | some r => if r ≤ d.time.raw then d.setTeu u { d.teu u with pinUntil := none } else d
  | none => d

/-- What a TE_OUT pin carries: no function owns it, a TEU's level, or the word clock of WCLK_OUT (R85, R86, R91). -/
inductive TeOut where
  | highZ
  | level (high : Bool)
  | wordClock (hz : Nat) (inverted : Bool)
  deriving DecidableEq, Repr

/-- The rate of the word clock on TE_OUT7: WCLK_OUT.RATE 3, which the table reserves, gives one of the three rates of
R2, which one is free (DESIGN CHOICE: notes/assumptions/196.md). -/
def Dev.wclkHz (d : Dev) : Nat :=
  let r := d.rd F.TIME_WCLK_OUT_RATE
  48000 * 2 ^ (if r ≤ 2 then r else Config.reservedRate % 3)

/-- The pin TE_OUT[`n`] in the CLK_TIME cycle RAW = `t`, the present one or the one before it, which an event may still
have as its nearest edge (R85): its owner's level, active while an event's pulse lasts, with POL 1 making the active
level low; the word clock of WCLK_OUT on TE_OUT7 where no unit owns it, with a rising edge on each sample boundary of
the media clock, or a falling one under POL (R85, R86, R91). -/
def Dev.teOut (d : Dev) (n t : Nat) : TeOut :=
  match (List.range 16).find? fun u => d.on (F.TEU_STATUS_PIN_HELD u) && (d.teu u).pin == n with
  | some u => .level (((d.teu u).pinUntil.isSome && decide ((d.teu u).pinFrom ≤ t)) != (d.teu u).pol)
  | none =>
    if n = 7 ∧ d.on F.TIME_WCLK_OUT_EN then
      .wordClock d.wclkHz (d.on F.TIME_WCLK_OUT_POL)
    else .highZ

/-- The releases of a class that no unit holds are void (R87). -/
def Dev.freeClass (d : Dev) (p c : Nat) : Dev :=
  if d.classHeld p c then d
  else d.setMac p { d.mac p with rel := Sparse.set (fun _ => 0) (d.mac p).rel c 0 }

/-- A write of 0 to EN: an event that is due has fired (R84). -/
def Dev.teuDisable (d : Dev) (u : Nat) : Dev :=
  if !d.on (F.TEU_CTL_EN u) then d
  else
    let d := d.teuFire u
    let t := d.teu u
    let d := d.wrs [(F.TEU_CTL_EN u, 0), (F.TEU_STATUS_ARMED u, 0), (F.TEU_STATUS_PIN_HELD u, 0),
      (F.TEU_STATUS_PIN_DENIED u, 0)]
    let d := d.setTeu u { t with pinUntil := none, pinAct := false, launchAct := false }
    (d.when t.launchAct (·.freeClass t.port t.cls)).launchDenials

/-- A write of TEU[u].TARGET (R81, R88). -/
def Dev.teuTarget (d : Dev) (u v : Nat) : Dev :=
  let t := d.teu u
  let d := (d.wr (F.TEU_TARGET_PORT u) (bitsAt v 0 2)).wr (F.TEU_TARGET_CLASS u) (bitsAt v 2 3)
  (d.when (d.on (F.TEU_CTL_EN u) && t.launchAct) (·.freeClass t.port t.cls)).launchDenials

/-- A write of TEU[u].CTL (R80, R81, R84). -/
def Dev.teuCtl (d : Dev) (u v : Nat) : Dev :=
  let d := d.when (bitsAt v 0 1 == 0) fun d => d.teuDisable u
  let d := d.wrs [(F.TEU_CTL_PERIODIC u, bitsAt v 1 1), (F.TEU_CTL_PIN_ACT u, bitsAt v 2 1),
    (F.TEU_CTL_LAUNCH_ACT u, bitsAt v 3 1), (F.TEU_CTL_IRQ u, bitsAt v 4 1), (F.TEU_CTL_BASE u, bitsAt v 5 1),
    (F.TEU_CTL_PIN u, bitsAt v 6 3), (F.TEU_CTL_POL u, bitsAt v 9 1)]
  d.when (bitsAt v 0 1 == 1) fun d => d.teuEnable u

end Sys2Proof.Machine
end

