-- ==== Sys2Proof/Machine/Ethernet.lean ====
section
/-! DEFINITION. The receive side of the MAC ports: acceptance, classification and the control rings (R92 to R110). -/

namespace Sys2Proof.Machine

/-- Change port `p`'s hidden state. -/
def Dev.modMac (d : Dev) (p : Nat) (f : Mac → Mac) : Dev := d.setMac p (f (d.mac p))

/-- Count in a port counter (R124). -/
def Dev.macCount (d : Dev) (p k : Nat) : Dev := d.bump (F.MAC_CNT_COUNT p k) 1

/-- First byte address of the page region (R192). -/
def Dev.pageBase (d : Dev) : Nat := d.rd F.QM_REGION_CELLS * 256

/-- Do `n` bytes from `a` lie wholly in the page region? -/
def Dev.inPages (d : Dev) (a n : Nat) : Bool := decide (d.pageBase ≤ a) && decide (a + n ≤ 2 ^ 26)

/-- Does the flow's key `b` (false A, true B) match the stripped frame (R126)? -/
def RxCfg.keyHit (c : RxCfg) (b : Bool) (fr : List Byte) (vid : Option Nat) : Bool :=
  let k := if b then c.keyB else c.keyA
  if c.fmt = 2 ∨ c.fmt = 3 ∨ c.fmt = 4 then
    etherType fr == 0x22F0 && fieldAt fr 14 1 == 2 && decide (128 ≤ fieldAt fr 15 1) && decide (26 ≤ fr.length) &&
      fieldAt fr 18 4 == k.1 && fieldAt fr 22 4 == k.2
  else
    isUdp fr && fieldAt fr 14 1 % 16 == 5 && fieldAt fr 30 4 == k.1 && fieldAt fr 36 2 == k.2 % 65536 &&
      (!c.vidEn || vid == some (bitsAt k.2 16 12))

/-- Which path of flow `f` a frame on port `p` hits (R126, R142). -/
def Dev.flowPath (d : Dev) (f p : Nat) (fr : List Byte) (vid : Option Nat) : Option Nat :=
  match (d.rxf f).cfg with
  | none => none
  | some c =>
    if c.dual then
      if p = 0 ∧ c.keyHit false fr vid then some 0 else if p = 1 ∧ c.keyHit true fr vid then some 1 else none
    else if p = c.port ∧ c.keyHit false fr vid then some 0 else none

/-- The lowest-numbered flow that the frame hits, with its path (R127). -/
def Dev.flowHit (d : Dev) (p : Nat) (fr : List Byte) (vid : Option Nat) : Option (Nat × Nat) :=
  ((List.range 128).filterMap fun f => (d.flowPath f p fr vid).map fun b => (f, b)).head?

/-- The lowest filter entry that holds the destination address (R99, R103). -/
def Dev.filtHit (d : Dev) (p : Nat) (fr : List Byte) : Option Nat :=
  (List.range 32).find? fun i => d.on (F.MAC_FILT_HI_EN p i) &&
    d.rd (F.MAC_FILT_HI_ADDR_HI p i) == fieldAt fr 0 2 && d.rd (F.MAC_FILT_LO_ADDR_LO p i) == fieldAt fr 2 4

/-- Number of entries of a receive ring. -/
def Dev.rxSize (d : Dev) (p r : Nat) : Nat := 2 ^ d.rd (F.MAC_RXR_CFG_SIZE p r)

/-- TAIL of receive ring `r` as it stood at RAW = `t`. -/
def Dev.tailAt (d : Dev) (p r t : Nat) : Nat :=
  match ((d.mac p).tails.filter fun e => e.2.1 == r && decide (t < e.1)).getLast? with
  | some e => e.2.2
  | none => d.rd (F.MAC_RXR_PTR_TAIL p r)

/-- Is receive ring `r` full for a frame that began at RAW = `began`: then, or now (R107)? -/
def Dev.ringFull (d : Dev) (p r began : Nat) : Bool :=
  let n := d.rxSize p r
  let next := (d.rd (F.MAC_RXR_PTR_HEAD p r) % n + 1) % n
  next == d.tailAt p r began % n || next == d.rd (F.MAC_RXR_PTR_TAIL p r) % n

/-- A frame that began at RAW = `began` is written to receive ring `r`, or dropped whole (R103 to R108): `w2` holds
the descriptor's tag and flag bits, `w3` its filter bits. SEQ counts the frame itself, and a frame whose descriptor
would lie outside the page region is dropped in no counter (DESIGN CHOICE: notes/assumptions/159.md, 160.md). -/
def Chip.toRing (c : Chip) (p r : Nat) (bytes : List Byte) (raw : Bool) (began : Nat) (stamp : Int) (w2 w3 : Nat) :
    Chip :=
  let d := c.dev
  let n := d.rxSize p r
  let head := d.rd (F.MAC_RXR_PTR_HEAD p r) % n
  let need := (bytes.length + 255) / 256
  let a := d.rd (F.MAC_RXR_CFG_BASE p r) + 16 * head
  if d.ringFull p r began ∨ d.net.draining then
    c.onDev fun d => (d.macCount p 9).set (F.MAC_EVENTS_RING_FULL p)
  else if d.rd (F.MAC_POOL_FREE p) < need then c.onDev fun d => (d.macCount p 8).set (F.MAC_EVENTS_NOBUF p)
  else if !d.inPages a 16 then c.onDev fun d => d.set (F.MAC_EVENTS_RING_ERR p)
  else
    let m := d.mac p
    let seq := ((if r = 0 then m.seq0 else m.seq1) + 1) % 65536
    let words := wordsOf ((bytes.length + 3) / 4) bytes
    let got := d.takeCells (.port p) (.ring p) need
    let w0 := got.1.headD 0 + bytes.length * 65536 + bit raw * 2 ^ 30 + 2 ^ 31
    let mem := Mem.store c.mem (a + 4) 12
      ((lowOf 32 (stamp / 16) * 2 ^ 32 + (lowOf 4 stamp + w2)) * 2 ^ 32 + (w3 + seq * 65536))
    let mem := Mem.store mem a 4 w0
    let d := (got.2.putFrame got.1 0 words).setMac p
      { m with rx := m.rx ++ [⟨r, head, got.1, words⟩], seq0 := if r = 0 then seq else m.seq0,
               seq1 := if r = 0 then m.seq1 else seq }
    let d := (d.wr (F.MAC_POOL_FREE p) (d.rd (F.MAC_POOL_FREE p) - need)).wr (F.MAC_RXR_PTR_HEAD p r) ((head + 1) % n)
    ⟨d.set (if r = 0 then F.MAC_EVENTS_RXR0_FRAME p else F.MAC_EVENTS_RXR1_FRAME p), mem⟩

/-- A PAUSE frame of `q` quanta ends now (R114). -/
def Dev.pause (d : Dev) (p q : Nat) : Dev :=
  if d.on (F.MAC_CTL_PAUSE_IGNORE p) then d
  else
    let unit := if d.on (F.MAC_STATUS_MODE_ACTIVE p) then 5120 else 512
    (d.modMac p fun m => { m with pause := d.time.raw * 20 + q * unit }).wr (F.MAC_STATUS_PAUSED p)
      (bit (decide (0 < q)))

/-- The pause's time has run out (R114). -/
def Dev.pauseExpire (d : Dev) (p : Nat) : Dev :=
  if d.on (F.MAC_STATUS_PAUSED p) && decide ((d.mac p).pause ≤ d.time.raw * 20) then
    d.clr (F.MAC_STATUS_PAUSED p) else d

/-- The asymmetry of R74 on a PTP message at `o`: the frame, and whether it was added. A sum outside the field's range
is not stated; `free` stands for it. A frame that ends before its correctionField does is left as it is (DESIGN CHOICE:
notes/assumptions/223.md). -/
def Dev.asymmetry (d : Dev) (p : Nat) (fr : List Byte) (o free : Nat) : List Byte × Bool :=
  let kind := fieldAt fr o 1 % 16
  if !d.on (F.TIME_PORT_PTP_CTL_ASYM_EN p) || !(kind == 0 || kind == 3) || decide (fr.length < o + 16) then (fr, false)
  else
    let v := signedOf 64 (fieldAt fr (o + 8) 8) + signedOf 24 (d.rd (F.TIME_PORT_ASYM_ASYM p)) * 4096
    (setCorrection fr o (if outOf 64 v then free % 2 ^ 64 else lowOf 64 v), true)

/-- A good frame, its tag stripped, is classified (R100, R101). RX_PTP and RX_CTL count the frames of their rings, those
that are then dropped included (DESIGN CHOICE: notes/assumptions/161.md). -/
def Chip.classify (c : Chip) (p : Nat) (fr : List Byte) (odd : Bool) (tag : Option Nat) (hit : Option (Nat × Nat))
    (w3 began : Nat) (stamp : Int) (ecc : Nat) : Chip :=
  let w2 := ecc + match tag with
    | none => 0
    | some t => bitsAt t 0 12 * 16 + bitsAt t 13 3 * 65536 + bitsAt t 12 1 * 2 ^ 19 + 2 ^ 20
  let toCtl := fun (c : Chip) => (c.onDev fun d => d.macCount p 16).toRing p 1 fr false began stamp w2 w3
  if odd then toCtl c
  else if etherType fr = 0x8808 then
    c.onDev fun d =>
      match fieldAt fr 14 2 with
      | 1 => (d.macCount p 11).pause p (fieldAt fr 16 2)
      | 0x0101 => d.macCount p 12
      | _ => d.macCount p 13
  else match ptpAt fr, hit with
    | some o, _ =>
      let free := c.dev.fresh
      let r := free.2.asymmetry p fr o free.1
      let c := { c with dev := free.2.macCount p 14 }
      c.toRing p 0 r.1 false began stamp (w2 + bit r.2 * 2 ^ 21) w3
    | none, some (f, b) =>
      c.onDev fun d =>
        if d.net.draining then d.macCount p 9
        else
          let d := d.macCount p 15
          { d with net := { d.net with ingress := d.net.ingress ++ [⟨f, b, fr, stamp, p, d.tick⟩] } }
    | none, none => toCtl c

/-- Bytes that port `p`'s ingress buffer holds: its frames that wait for the flow engine (R109). -/
def Dev.ingressFill (d : Dev) (p : Nat) : Nat :=
  ((d.net.ingress.filter fun x => x.port == p).map fun x => x.bytes.length).sum

/-- A good frame: filter, then classify (R99 to R101, R109). `w2` holds the FCS flag of R190's ring cell. `ovf` tells
that frames whose words Saltern had not yet taken filled the ingress buffer; beside those that wait for the flow
engine the frame must fit into 32 KiB (notes/assumptions/164.md). -/
def Chip.goodFrame (c : Chip) (p : Nat) (fr : List Byte) (ovf : Bool) (began : Nat) (stamp : Int) (ecc : Nat) : Chip :=
  let d := c.dev
  let tagged := etherType fr == 0x8100 && decide (18 ≤ fr.length)
  let tag := if tagged then some (fieldAt fr 14 2) else none
  let inner := if tagged then fr.take 12 ++ fr.drop 16 else fr
  let odd := etherType inner == 0x88A8 || etherType inner == 0x8100
  let hit := if odd then none else d.flowHit p inner (tag.map fun t => bitsAt t 0 12)
  let filt := d.filtHit p fr
  let bcast := fieldAt fr 0 6 == 2 ^ 48 - 1 && d.on (F.MAC_CTL_BCAST_ACCEPT p)
  if filt.isNone && !bcast && hit.isNone then c.onDev fun d => d.macCount p 7
  else if ovf || decide (32768 < d.ingressFill p + fr.length) then c.onDev fun d => (d.macCount p 10).set (F.MAC_EVENTS_OVF p)
  else
    let w3 := (match filt with | some i => i + 32 | none => 0) + bit bcast * 64
    (c.onDev fun d => d.macCount p 0).classify p inner odd tag hit w3 began stamp ecc

/-- Is a frame that began at RAW = `began` received on port `p`: one that began since EN rose, while EN is 1, and the
one in progress when it falls (R123)? -/
def Dev.receives (d : Dev) (p began : Nat) : Bool :=
  decide ((d.mac p).rose ≤ began) && (d.on (F.MAC_CTL_EN p) || decide (began < (d.mac p).fell))

/-- A frame ends on port `p` (R96 to R101): its bytes with the FCS, the PCS errors, whether the ingress buffer filled,
whether an uncorrectable error lies in a cell that it takes (R190: FCS is set and LEN unchanged), and how long ago, in
1/16 ns, its delimiter crossed the PCS boundary (R72); with that it began. One that began before EN fell is still
received (R123). -/
def Chip.frameEnd (c : Chip) (p : Nat) (bytes : List Byte) (symbol align ovf : Bool) (bad : Option Nat) (ago : Nat) : Chip :=
  let d := c.dev
  let ecc := bit bad.isSome * 2 ^ 22
  let len := bytes.length
  let fr := bytes.take (len - 4)
  let maxLen := d.rd (F.MAC_MAX_LEN_LEN p)
  let fcs := bytes.drop (len - 4) != fcsOf fr
  let runt := decide (len ≤ 63)
  let giant := decide (maxLen < len)
  let stamp := d.now16 - ago - signedOf 16 (d.rd (F.TIME_PORT_INGRESS_LAT_LAT p))
  let began := d.time.raw - ago / 32
  if !d.receives p began then c
  else if len < 14 then c.onDev fun d => d.macCount p 1
  else if symbol || align || fcs || runt || giant then
    let k := if symbol then 6 else if align then 5 else if fcs then 4 else if runt then 2 else 3
    let c := c.onDev fun d => d.macCount p k
    if !d.on (F.MAC_CTL_DELIVER_BAD p) then c
    else
      let w2 := bit (fcs || bad.isSome) * 2 ^ 22 + bit align * 2 ^ 23 + bit symbol * 2 ^ 24 + bit runt * 2 ^ 25 + bit giant * 2 ^ 26
      c.toRing p 1 (bytes.take maxLen) true began stamp w2 0
  else c.goodFrame p fr ovf began stamp ecc

/-- A frame ends on port `p`; an uncorrectable error in a cell that it takes, at the byte address `bad`, is counted
(R190). -/
def Chip.receive (c : Chip) (p : Nat) (bytes : List Byte) (symbol align ovf : Bool) (bad : Option Nat) (ago : Nat) : Chip :=
  let r := c.frameEnd p bytes symbol align ovf bad ago
  match bad with
  | none => r
  | some a => if c.dev.receives p (c.dev.time.raw - ago / 32) then r.onDev fun d => d.rowFail (a / 8 * 8) 0 else r

/-- A write of RXR[r].PTR.TAIL (R106). The write is kept for as long as a frame that began before it may last (R107). -/
def Dev.rxTail (d : Dev) (p r tail : Nat) : Dev :=
  let n := d.rxSize p r
  let old := d.rd (F.MAC_RXR_PTR_TAIL p r) % n
  let held := (d.rd (F.MAC_RXR_PTR_HEAD p r) + n - old) % n
  let moved := (tail + n - old) % n
  if n ≤ tail ∨ held < moved then d.set (F.MAC_EVENTS_RING_ERR p)
  else
    let gone := fun (x : RxFrame) => x.ring == r && decide ((x.idx + n - old) % n < moved)
    let m := d.mac p
    let d := (m.rx.filter gone).foldl (fun d x => d.addRake (.ring p) x.cells) d
    let kept := m.tails.filter fun e => decide (d.time.raw ≤ e.1 + 2 ^ 17)
    (d.setMac p { m with rx := m.rx.filter fun x => !gone x, tails := (d.time.raw, r, old) :: kept }).wr (F.MAC_RXR_PTR_TAIL p r) tail

/-- LINK_UP follows its conditions (R95). -/
def Dev.linkView (d : Dev) (p : Nat) : Dev :=
  let lock := d.on (F.MAC_STATUS_BLOCK_LOCK p)
  let up := if d.on (F.MAC_STATUS_MODE_ACTIVE p) then lock && (!(d.mac p).anEn || d.on (F.MAC_STATUS_AN_DONE p))
    else lock && !d.on (F.MAC_STATUS_HI_BER p) && !d.on (F.MAC_STATUS_LOCAL_FAULT p) &&
      !d.on (F.MAC_STATUS_REMOTE_FAULT p)
  if up == d.on (F.MAC_STATUS_LINK_UP p) then d
  else (d.wr (F.MAC_STATUS_LINK_UP p) (bit up)).set (F.MAC_EVENTS_LINK_CHG p)

/-- The line's condition changes (R95): block lock or synchronisation, HI_BER, local fault, remote fault, the partner's
LPI, and a restart of auto-negotiation, in bits 0 to 5. -/
def Dev.linkChange (d : Dev) (p bits : Nat) : Dev :=
  if !d.on (F.MAC_CTL_EN p) then d
  else
    let one := d.on (F.MAC_STATUS_MODE_ACTIVE p)
    let ten := fun i => if one then 0 else bitsAt bits i 1
    let d := d.wrs [(F.MAC_STATUS_BLOCK_LOCK p, bitsAt bits 0 1), (F.MAC_STATUS_HI_BER p, ten 1),
      (F.MAC_STATUS_LOCAL_FAULT p, ten 2), (F.MAC_STATUS_REMOTE_FAULT p, ten 3),
      (F.MAC_STATUS_LPI_RX p, bitsAt bits 4 1)]
    (d.when (!bitAt bits 0 || bitAt bits 5) (·.clr (F.MAC_STATUS_AN_DONE p))).linkView p

/-- The base page that clause 37 auto-negotiation sends: AN.ADV with full duplex, bit 5, at 1 and half duplex, bit 6,
at 0 (R93). -/
def Dev.anPage (d : Dev) (p : Nat) : Nat :=
  let v := d.rd (F.MAC_AN_ADV p)
  v - bitsAt v 5 2 * 32 + 32

/-- What port `p`'s transmitter sends while no frame is on the line. -/
inductive LineOut where
  | off
  | remoteFault
  | basePage (v : Nat)
  | lowPowerIdle
  | idle
  | frame
  deriving DecidableEq, Repr

/-- What port `p`'s transmitter sends (R93, R95, R122, R429): nothing while a supply is absent, remote fault while its
RS receives local fault in 10GBASE-R, the base page until auto-negotiation is complete in 1000BASE-X, low-power idle,
a frame, or idle. -/
def Dev.lineOut (d : Dev) (p : Nat) : LineOut :=
  let m := d.mac p
  if (!d.on (F.MAC_CTL_EN p) && m.line.isNone) || !d.missing.isEmpty then .off
  else if !d.on (F.MAC_STATUS_MODE_ACTIVE p) && d.on (F.MAC_STATUS_LOCAL_FAULT p) then .remoteFault
  else if d.on (F.MAC_STATUS_MODE_ACTIVE p) && m.anEn && !d.on (F.MAC_STATUS_AN_DONE p) then .basePage (d.anPage p)
  else if d.on (F.MAC_STATUS_LPI_TX p) then .lowPowerIdle
  else if m.line.isSome then .frame
  else .idle

/-- Clause 37 auto-negotiation completes with the partner's base page (R95). -/
def Dev.anComplete (d : Dev) (p lp : Nat) : Dev :=
  if d.on (F.MAC_CTL_EN p) && d.on (F.MAC_STATUS_MODE_ACTIVE p) && (d.mac p).anEn && d.on (F.MAC_STATUS_BLOCK_LOCK p) then
    ((d.wr (F.MAC_AN_LP p) lp).set (F.MAC_STATUS_AN_DONE p)).linkView p
  else d

end Sys2Proof.Machine
end

