-- ==== Sys2Proof/Machine/Transmit.lean ====
section
/-! DEFINITION. The transmit side of the MAC ports: rings, gates, launches and low-power idle (R77, R78, R111 to
R123). -/

namespace Sys2Proof.Machine

/-- The gate list entry in force at phase `ph` of a cycle of `cyc`, in units of 0.1 ns, its mask and how long it still
holds; the last entry holds to the cycle's end, where every entry is cut (R115). -/
def gateAt (cyc ph : Nat) : Nat → Nat → List (Nat × Nat) → Nat × Nat × Nat
  | _, i, [] => (i, 255, cyc - ph)
  | _, i, [(m, _)] => (i, m, cyc - ph)
  | t, i, (m, w) :: rest => if ph < t + w * 10 then (i, m, min (t + w * 10) cyc - ph) else gateAt cyc ph (t + w * 10) (i + 1) rest

/-- The list's entry, mask and remaining time at the instant `t` (0.1 ns of corrected time). -/
def Gcl.sample (g : Gcl) (t : Int) : Nat × Nat × Nat :=
  gateAt (g.cycle * 10) ((t - g.base * 10) % (g.cycle * 10)).toNat 0 0 g.entries

/-- Corrected time now in 0.1 ns, rounded down. -/
def Dev.now10 (d : Dev) : Int := d.corrAt d.time.raw * 10 / 2 ^ 40

/-- The list in force at instant `t`, if gates are in force (R115, R116). -/
def Dev.gclAt (d : Dev) (p : Nat) (t : Int) : Option Gcl :=
  if !d.on (F.MAC_GCL_CTL_EN p) then none
  else
    let m := d.mac p
    match m.gclPend with
    | some g => if g.start * 10 ≤ t then some g else m.gclOp
    | none => m.gclOp

/-- Is class `c`'s gate open at instant `t`, and for how long does the list's entry hold from then, in 0.1 ns; none: for
ever (R115, R116)? Until a first list takes over every gate is open (DESIGN CHOICE: notes/assumptions/199.md). -/
def Dev.gateNow (d : Dev) (p c : Nat) (t : Int) : Bool × Option Nat :=
  let toPend := match if d.on (F.MAC_GCL_CTL_EN p) then (d.mac p).gclPend else none with
    | some n => if t < n.start * 10 then some (n.start * 10 - t).toNat else none
    | none => none
  match d.gclAt p t with
  | none => (true, toPend)
  | some g =>
    let s := g.sample t
    (bitAt s.2.1 c, some (match toPend with | some n => min s.2.2 n | none => s.2.2))

/-- Is class `c`'s gate open from `t` for `need`, both in 0.1 ns (R117)? The fuel exceeds the entries that the longest
frame can span. -/
def Dev.openFor (d : Dev) (p c : Nat) : Nat → Int → Nat → Bool
  | 0, _, _ => false
  | k + 1, t, need =>
    match d.gateNow p c t with
    | (false, _) => false
    | (true, none) => true
    | (true, some left) => if need ≤ left then true else Dev.openFor d p c k (t + max 1 left) (need - max 1 left)

/-- The entries of one cycle as (mask, length in 0.1 ns), cut at the cycle's end, the last one held to it (R115). -/
def cycleOf (cyc : Nat) : Nat → List (Nat × Nat) → List (Nat × Nat)
  | _, [] => []
  | t, [(m, _)] => [(m, cyc - t)]
  | t, (m, w) :: rest => (m, min (w * 10) (cyc - t)) :: cycleOf cyc (min cyc (t + w * 10)) rest

/-- The longest run of class `c`'s bit: none if the gate never closes (R118). -/
def Gcl.longest (g : Gcl) (c : Nat) : Option Nat :=
  let l := cycleOf (g.cycle * 10) 0 g.entries
  if l.all fun e => bitAt e.1 c || e.2 == 0 then none
  else some ((l ++ l).foldl (fun (best : Nat × Nat) e =>
    if e.2 = 0 then best else if bitAt e.1 c then (best.1 + e.2, max best.2 (best.1 + e.2)) else (0, best.2)) (0, 0)).2

/-- Time of `n` bytes on port `p`'s line, in 0.1 ns (R117). -/
def Dev.byteTime (d : Dev) (p n : Nat) : Nat := n * (if d.on (F.MAC_STATUS_MODE_ACTIVE p) then 80 else 8)

/-- Address of the descriptor at the head of ring `c`. -/
def Dev.txDesc (d : Dev) (p c : Nat) : Nat :=
  d.rd (F.MAC_TXR_CFG_BASE p c) + 32 * (d.rd (F.MAC_TXR_PTR_HEAD p c) % 2 ^ d.rd (F.MAC_TXR_CFG_SIZE p c))

/-- The frame at the head of a class: from its descriptor, or from the packetiser (R111, R144). -/
inductive Head where
  | none
  | ring (words : List Nat) (launch : Option Int)
  | flow (f : TxFrame)
  deriving DecidableEq, Repr

/-- The descriptor at the head of class `c` is taken up: its launch time is read at this moment (R119). -/
def Chip.takeHead (c : Chip) (p cl : Nat) : Chip :=
  let d := c.dev
  let m := d.mac p
  if cl = 6 ∨ d.txQueued p cl = 0 ∨ (m.heads.any fun h => h.1 == cl) = true then c
  else
    let a := d.txDesc p cl
    if !d.inPages a 32 then c.onDev fun d => d.set (F.MAC_EVENTS_RING_ERR p)
    else
      let w1 := c.mem.load (a + 4) 4
      let l := if bitAt w1 16 then some (instantNear d.nowWide (c.mem.load (a + 12) 4)) else none
      c.onDev fun d => d.setMac p { m with heads := (cl, l) :: m.heads }

/-- The head of class `cl`: a descriptor whose frame is on the line heads its ring no longer. -/
def Chip.head (c : Chip) (p cl : Nat) : Head :=
  let m := c.dev.mac p
  if cl = 6 then match m.c6 with | [] => .none | f :: _ => .flow f
  else if m.onLine cl then .none
  else match m.heads.find? fun h => h.1 == cl with
    | none => .none
    | some h => .ring ((List.range 8).map fun i => c.mem.load (c.dev.txDesc p cl + 4 * i) 4) h.2

def Head.launch : Head → Option Int
  | .none => Option.none
  | .ring _ l => l
  | .flow f => some f.launch

/-- Bytes of a ring head's frame on the line before one-step insertion, FCS included (R111, R112). -/
def Chip.ringFrame (c : Chip) (w : List Nat) : List Byte :=
  let w1 := w.getD 1 0
  let b := c.mem.loadBytes (bitsAt (w.getD 0 0) 0 26) (bitsAt w1 0 14)
  let b := if bitAt w1 17 then b.take 12 ++ beBytes 4 (0x81000000 + bitsAt (w.getD 2 0) 12 3 * 8192 +
      bitsAt (w.getD 2 0) 15 1 * 4096 + bitsAt (w.getD 2 0) 0 12) ++ b.drop 12 else b
  if bitAt w1 18 then b
  else
    let b := b ++ List.replicate (60 - b.length) 0
    b ++ fcsOf b

/-- The frame of a head with its FCS. -/
def Chip.headBytes (c : Chip) : Head → List Byte
  | .none => []
  | .ring w _ => c.ringFrame w
  | .flow f =>
    let b := f.bytes ++ List.replicate (60 - f.bytes.length) 0
    b ++ fcsOf b

/-- The status with which a head is refused before it can start: 3 for its length, 4 for its buffer, 2 for its gate
(R112, R118). The spec gives no order between the first two (DESIGN CHOICE: notes/assumptions/200.md). -/
def Chip.headRefused (c : Chip) (p cl : Nat) (h : Head) : Option Nat :=
  let d := c.dev
  let len := (c.headBytes h).length
  let short := match h with | .ring w _ => bitAt (w.getD 1 0) 18 && decide (len < 64) | _ => false
  let place := match h with
    | .ring w _ => !d.inPages (bitsAt (w.getD 0 0) 0 26) (bitsAt (w.getD 1 0) 0 14)
    | _ => false
  if h = .none then Option.none
  else if d.rd (F.MAC_MAX_LEN_LEN p) < len || short then some 3
  else if place then some 4
  else match d.gclAt p d.now10 with
    | Option.none => Option.none
    | some g => match g.longest cl with
      | Option.none => Option.none
      | some n => if n < d.byteTime p (8 + len) then some 2 else Option.none

/-- The conditions of R119 other than the launch time and the link. -/
def Chip.clearToStart (c : Chip) (p cl : Nat) (h : Head) : Bool :=
  let d := c.dev
  (!d.classHeld p cl || decide (0 < Sparse.get (fun _ => 0) (d.mac p).rel cl)) &&
    !(d.on (F.MAC_STATUS_PAUSED p) && decide (cl ≤ 3)) &&
    d.openFor p cl 6000 d.now10 (d.byteTime p (8 + (c.headBytes h).length))

/-- Has the launch time been reached (R119)? -/
def Chip.launched (c : Chip) (h : Head) : Bool :=
  match h.launch with
  | none => true
  | some l => decide (l * 2 ^ 40 ≤ c.dev.corrAt c.dev.time.raw)
/-- Was the head of class `cl`, with a launch time, not eligible before corrected time lay more than LATE_LIMIT past
it, and does it lie so now (R120)? -/
def Chip.tooLate (c : Chip) (p cl : Nat) (h : Head) : Bool :=
  !(c.dev.mac p).ripe.contains cl &&
  match h.launch with
  | none => false
  | some l => decide ((l + c.dev.rd (F.MAC_LATE_LIMIT_NS p)) * 2 ^ 40 < c.dev.corrAt c.dev.time.raw)

/-- The descriptor at `a` is completed (R111): W5 and the fraction hold a stamp that was requested, else `free`. One
that a later write of the ring's base or of the cell region has put outside the page region is not written (R192). -/
def Chip.completeAt (c : Chip) (p a status : Nat) (stamp : Option Int) : Chip :=
  let d := c.dev
  if !d.inPages a 32 then c.onDev fun d => d.set (F.MAC_EVENTS_RING_ERR p) else
  let w1 := c.mem.load (a + 4) 4
  let f := d.fresh
  let s := match stamp with
    | some s => if bitAt w1 14 then s else f.1
    | none => f.1
  let mem := Mem.store c.mem (a + 20) 8 (lowOf 32 (s / 16) * 2 ^ 32 + status * 16 + lowOf 4 s)
  let mem := Mem.store mem (a + 4) 4 (w1 % 2 ^ 31 + 2 ^ 31)
  ⟨f.2.when (bitAt w1 19) (·.set (F.MAC_EVENTS_TX_DONE p)), mem⟩

/-- A ring head is completed, and the descriptor behind it becomes the head (R111, R119; DESIGN CHOICE:
notes/assumptions/201.md). -/
def Chip.complete6 (c : Chip) (p cl status : Nat) (stamp : Option Int) : Chip :=
  let c := c.completeAt p (c.dev.txDesc p cl) status stamp
  let d := c.dev
  let n := 2 ^ d.rd (F.MAC_TXR_CFG_SIZE p cl)
  let d := d.wr (F.MAC_TXR_PTR_HEAD p cl) ((d.rd (F.MAC_TXR_PTR_HEAD p cl) + 1) % n)
  let d := d.modMac p fun m => { m with heads := m.heads.filter fun h => h.1 != cl,
                                        ripe := m.ripe.filter (· != cl) }
  ({ c with dev := d } : Chip).takeHead p cl

/-- The head of class `cl` leaves it, and with it the release that a TEU gave it (R87, R119). -/
def Dev.useRelease (d : Dev) (p cl : Nat) : Dev :=
  d.modMac p fun m => { m with rel := Sparse.set (fun _ => 0) m.rel cl (Sparse.get (fun _ => 0) m.rel cl - 1) }

/-- A head leaves its class unsent (R111, R112, R118, R120, R123). -/
def Chip.dropHead (c : Chip) (p cl status : Nat) : Chip :=
  let c := c.onDev fun d =>
    match status with
    | 1 => (d.macCount p 18).set (F.MAC_EVENTS_LATE_DROP p)
    | 2 => (d.macCount p 19).set (F.MAC_EVENTS_GATE_ERR p)
    | 3 => d.macCount p 20
    | _ => d
  let c := c.onDev fun d => d.useRelease p cl
  if cl ≠ 6 then c.complete6 p cl status none
  else match (c.dev.mac p).c6 with
    | [] => c
    | f :: rest =>
      c.onDev fun d =>
        let d := d.modMac p fun m => { m with c6 := rest, ripe := m.ripe.filter (· != 6) }
        d.when (status == 1) fun d => (d.bump (F.TXF_CNT_COUNT f.flow 4) 1).set (F.TXF_EVENTS_LATE_EV f.flow)

/-- One-step insertion on the frame that leaves with stamp `e` (R77, R78): the frame, and whether the request could
not be served. A fragment of a UDP datagram, the first one too, is no UDP frame (DESIGN CHOICE:
notes/assumptions/223.md). -/
def Chip.oneStep (c : Chip) (p : Nat) (w : List Nat) (fr : List Byte) (e : Int) : List Byte × Bool :=
  let body := fr.take (fr.length - 4)
  let tagged := bitAt (w.getD 1 0) 17
  let flat := if tagged then body.take 12 ++ body.drop 16 else body
  let l2 := etherType flat == 0x88F7
  let ip := isUdp flat && fieldAt flat 14 1 % 16 == 5 && fieldAt flat 36 2 == 319
  let o := if l2 then 14 else 42
  if !bitAt (w.getD 1 0) 15 then (fr, false)
  else if !c.dev.on (F.TIME_PORT_PTP_CTL_ONESTEP_EN p) || !(l2 || ip) || decide (flat.length < o + 16) then (fr, true)
  else
    let diff := signedOf 36 (lowOf 36 (e - 16 * (w.getD 4 0 : Int)))
    let v := signedOf 64 (fieldAt flat (o + 8) 8) + diff * 4096
    let out := setCorrection flat o (if outOf 64 v then 2 ^ 63 - 1 else lowOf 64 v)
    let out := if tagged then out.take 12 ++ (body.drop 12).take 4 ++ out.drop 12 else out
    (out ++ fcsOf out, false)

/-- May port `p` start a frame at all (R113, R122, R123)? -/
def Dev.mayStart (d : Dev) (p : Nat) : Bool :=
  let m := d.mac p
  d.on (F.MAC_CTL_EN p) && !m.closing && m.line.isNone && d.on (F.MAC_STATUS_LINK_UP p) && decide (m.wakeRaw ≤ d.time.raw) &&
    !d.on (F.MAC_STATUS_LPI_TX p) && !d.net.draining

/-- What the head of class `cl` allows now: a status to complete it with, or a start. -/
def Chip.headMove (c : Chip) (p cl : Nat) : Option (Option Nat) :=
  let h := c.head p cl
  if h = .none then none
  else match c.headRefused p cl h with
    | some s => some (some s)
    | none => if c.clearToStart p cl h && c.launched h then some (if c.tooLate p cl h then some 1 else none) else none

/-- The frame of class `cl` starts on the line; its delimiter crosses the PCS boundary `sfd` sixteenths of a ns from
now (R72, R113). -/
def Chip.startHead (c : Chip) (p cl sfd : Nat) : Chip :=
  let h := c.head p cl
  let d := c.dev
  let stamp := d.now16 + sfd + signedOf 16 (d.rd (F.TIME_PORT_EGRESS_LAT_LAT p))
  let d := (d.useRelease p cl).modMac p fun m => { m with ripe := m.ripe.filter (· != cl) }
  match h with
  | .none => c
  | .ring w _ =>
    let r := c.oneStep p w (c.headBytes h) stamp
    let buf := (bitsAt (w.getD 0 0) 0 26, bitsAt (w.getD 1 0) 0 14)
    let d := d.modMac p fun m => { m with line := some ⟨cl, r.1, stamp, none, none, some buf⟩ }
    { c with dev := d.when r.2 (·.macCount p 21) }
  | .flow f =>
    let fr := c.headBytes h
    let d := d.modMac p fun m => { m with c6 := m.c6.drop 1, line := some ⟨6, fr, stamp, some (f.flow, f.path), none, none⟩ }
    { c with dev := d.bump (F.TXF_CNT_COUNT f.flow f.path) 1 }

/-- FRAME_TRANSMIT_START: the highest class whose head can move does (R113). -/
def Chip.transmitStart (c : Chip) (p sfd : Nat) : Chip :=
  if !c.dev.mayStart p then c
  else match [7, 6, 5, 4, 3, 2, 1, 0].find? fun cl => (c.headMove p cl).isSome with
    | none => c
    | some cl => match c.headMove p cl with
      | some (some s) => c.dropHead p cl s
      | _ => c.startHead p cl sfd

/-- Every queued descriptor is completed with status 5, and the packetiser's frames are dropped (R123, R399). The
descriptor of a frame on the line leaves its ring and is completed when the frame ends. The fuel is the largest ring's
size. -/
def Chip.flushRing (p cl : Nat) : Nat → Chip → Chip
  | 0, c => c
  | n + 1, c => if c.dev.txQueued p cl = 0 then c else Chip.flushRing p cl n (c.complete6 p cl 5 none)

/-- The descriptor of the frame on the line leaves its ring. -/
def Dev.detachLine (d : Dev) (p : Nat) : Dev :=
  match (d.mac p).line with
  | none => d
  | some l =>
    if l.cls = 6 ∨ l.desc.isSome then d
    else
      let n := 2 ^ d.rd (F.MAC_TXR_CFG_SIZE p l.cls)
      (d.modMac p fun m => { m with line := some { l with desc := some (d.txDesc p l.cls) },
                                    heads := m.heads.filter fun h => h.1 != l.cls }).wr
        (F.MAC_TXR_PTR_HEAD p l.cls) ((d.rd (F.MAC_TXR_PTR_HEAD p l.cls) + 1) % n)

/-- Every queued descriptor is completed with status 5 (R123). Those of a ring that does not lie wholly in the page
region stay as they are, with HEAD unmoved: nothing there is fetched (DESIGN CHOICE: notes/assumptions/224.md). -/
def Chip.flushTx (c : Chip) (p : Nat) : Chip :=
  let c := c.onDev fun d => d.detachLine p
  let c := [7, 5, 4, 3, 2, 1, 0].foldl (fun c cl =>
    if c.dev.inPages (c.dev.rd (F.MAC_TXR_CFG_BASE p cl)) (32 * 2 ^ c.dev.rd (F.MAC_TXR_CFG_SIZE p cl)) then
      Chip.flushRing p cl 4096 c else c) c
  c.onDev fun d => d.modMac p fun m => { m with c6 := [], rel := [], ripe := [] }

/-- A frame cut after `n` bytes and ended with the inverse of the FCS of what was sent (R112, R444). -/
def cutFrame (bs : List Byte) (n : Nat) : List Byte :=
  let b := bs.take (n % (bs.length - 3))
  b ++ (fcsOf b).map fun x => ~~~x

/-- The row of the page region where an uncorrectable error cut a frame short (R190): a free place in its buffer, or
for a packet's frame anywhere in the region, since the spec does not name the words that such a frame is read from. -/
def Dev.failedRow (d : Dev) (l : OnLine) (free : Nat) : Nat :=
  let first := d.rd F.QM_REGION_CELLS * 256
  match l.buf with
  | some b => (b.1 + free % max 1 b.2) / 8 * 8
  | none => (first + free % max 1 (2 ^ 26 - first)) / 8 * 8

/-- A row of the frame's buffer that is known to hold an uncorrectable error (R190). -/
def Dev.badIn (d : Dev) (l : OnLine) : Option Nat :=
  match l.buf with
  | some b => d.badRows.find? fun r => decide (r < b.1 + b.2) && decide (b.1 < r + 8)
  | none => none

/-- The frame on the line ends; `ecc` tells that an uncorrectable error cut it short, at a place the spec leaves open,
as one that is known in its buffer does: it is counted as R190 says (R111, R112, R123). -/
def Chip.transmitDone (c : Chip) (p : Nat) (ecc : Bool) : Chip :=
  match (c.dev.mac p).line with
  | none => c
  | some l =>
    let r := c.dev.fresh
    let hit := c.dev.badIn l
    let ecc := ecc || hit.isSome
    let sent := if ecc then { l with bytes := cutFrame l.bytes r.1 } else l
    let c := { c with dev := r.2.when ecc fun d => d.rowFail (hit.getD (d.failedRow l r.1)) 2 }
    let c := c.onDev fun d => d.modMac p fun m => { m with line := none, last := some sent, idleRaw := d.time.raw }
    let c := if ecc then c else c.onDev fun d => d.macCount p 17
    let status := if ecc then 4 else 0
    let c := match l.desc with
      | some a => c.completeAt p a status (some l.stamp)
      | none => if l.cls = 6 then c else c.complete6 p l.cls status (some l.stamp)
    if (c.dev.mac p).closing then
      (c.flushTx p).onDev fun d => d.modMac p fun m => { m with closing := false }
    else c

/-- A class's launch time is reached: past the late limit its head is dropped, if nothing else holds it or the link is
down (R120, R123). -/
def Chip.launchReached (c : Chip) (p cl : Nat) : Chip :=
  let h := c.head p cl
  let d := c.dev
  if d.on (F.MAC_CTL_EN p) && (h != .none) && c.tooLate p cl h &&
      (!d.on (F.MAC_STATUS_LINK_UP p) || (d.mayStart p && c.clearToStart p cl h)) then c.dropHead p cl 1 else c

/-- The classes of port `p` whose heads are eligible now (R119): one that was so before its late limit passed stays so
until it is no longer eligible; one that becomes so later is dropped (R120). -/
def Chip.ripen (c : Chip) (p : Nat) : Chip :=
  let ok := [7, 6, 5, 4, 3, 2, 1, 0].filter fun cl =>
    let h := c.head p cl
    h != .none && c.dev.on (F.MAC_STATUS_LINK_UP p) && c.launched h && c.clearToStart p cl h && !c.tooLate p cl h
  if ok = (c.dev.mac p).ripe then c else c.onDev fun d => d.modMac p fun m => { m with ripe := ok }

/-- What is eligible on every port is judged anew. -/
def Chip.ripenAll (c : Chip) : Chip := ([0, 1, 2, 3] : List Nat).foldl (fun c p => c.ripen p) c

/-- A write of TXR[c].PTR.TAIL (R111). -/
def Chip.txTail (c : Chip) (p cl tail : Nat) : Chip :=
  if cl = 6 then c else (c.onDev fun d => d.wr (F.MAC_TXR_PTR_TAIL p cl) tail).takeHead p cl

/-- A rise of CTL.EN (R94). A frame that began before it is not received (DESIGN CHOICE: notes/assumptions/197.md). -/
def Dev.macEnable (d : Dev) (p : Nat) : Dev :=
  if d.on (F.MAC_CTL_EN p) then d
  else
    let mode := if 2 ≤ p then 1 else d.rd (F.MAC_CTL_MODE p)
    let d := (d.set (F.MAC_CTL_EN p)).wr (F.MAC_STATUS_MODE_ACTIVE p) mode
    (d.modMac p fun m => { m with anEn := d.on (F.MAC_CTL_AN_EN p) && mode == 1, rose := d.time.raw }).clr (F.MAC_STATUS_AN_DONE p)

/-- A fall of CTL.EN (R123): the link's fields fall with it, and line changes while EN is 0 are not seen (DESIGN CHOICE:
notes/assumptions/197.md). -/
def Chip.macDisable (c : Chip) (p : Nat) : Chip :=
  if !c.dev.on (F.MAC_CTL_EN p) then c
  else
    let c := c.onDev fun d => (d.clr (F.MAC_CTL_EN p)).wrs [(F.MAC_STATUS_BLOCK_LOCK p, 0), (F.MAC_STATUS_AN_DONE p, 0)]
    let c := c.onDev fun d => d.modMac p fun m => { m with fell := d.time.raw }
    let c := c.onDev fun d => d.linkView p
    if (c.dev.mac p).line = none then c.flushTx p
    else c.onDev fun d => d.modMac p fun m => { m with closing := true }

/-- The list and cycle of the registers become the pending list (R115, R116), each cut to its range (DESIGN CHOICE:
notes/assumptions/198.md). -/
def Dev.gclLoad (d : Dev) (p : Nat) : Dev :=
  let n := min 64 (max 1 (d.rd (F.MAC_GCL_CTL_COUNT p)))
  let cyc := min 1000000000 (max 1000 (d.rd (F.MAC_GCL_CYCLE_NS p)))
  let base := signedOf 64 (d.mac p).gclBase
  let now := -((-(d.corrAt d.time.raw)) / 2 ^ 40)
  let start := if now ≤ base then base else base + -((base - now) / cyc) * cyc
  let list := (List.range n).map fun i => (d.rd (F.MAC_GCL_ENTRY_MASK_GATES p i), d.rd (F.MAC_GCL_ENTRY_INTERVAL_NS p i))
  (d.modMac p fun m => { m with gclPend := some ⟨list, cyc, base, start⟩ }).set (F.MAC_GCL_STATUS_PENDING p)

/-- A rise or a fall of GCL.CTL.EN (R115, R116). -/
def Dev.gclEnable (d : Dev) (p : Nat) : Dev :=
  if d.on (F.MAC_GCL_CTL_EN p) then d else (d.set (F.MAC_GCL_CTL_EN p)).gclLoad p
def Dev.gclDisable (d : Dev) (p : Nat) : Dev :=
  if !d.on (F.MAC_GCL_CTL_EN p) then d
  else ((d.clr (F.MAC_GCL_CTL_EN p)).modMac p fun m => { m with gclOp := none, gclPend := none }).wrs
    [(F.MAC_GCL_STATUS_PENDING p, 0), (F.MAC_GCL_STATUS_ENTRY p, 0)]

/-- The operating entry follows corrected time (R115). -/
def Dev.gclEntry (d : Dev) (p : Nat) : Dev :=
  match (d.mac p).gclOp with
  | none => d
  | some g => if d.on (F.MAC_GCL_CTL_EN p) then d.wr (F.MAC_GCL_STATUS_ENTRY p) (g.sample d.now10).1 else d

/-- The pending list takes over at its cycle start (R116), with EN 0 too, where it opens and closes no gate (DEDUCED:
notes/assumptions/89.md). -/
def Dev.gclSwitch (d : Dev) (p : Nat) : Dev :=
  match (d.mac p).gclPend with
  | none => d
  | some g =>
    if g.start * 2 ^ 40 ≤ d.corrAt d.time.raw then
      ((d.modMac p fun m => { m with gclOp := some g, gclPend := none }).clr (F.MAC_GCL_STATUS_PENDING p)).gclEntry p
    else d

/-- When the packetiser next launches on port `p`, in 0.1 ns, for each transmit flow enabled there: the packet being
gathered, and the one that begins at the next packet boundary (R122, R144). -/
def Dev.flowLaunches (d : Dev) (p : Nat) : List Int :=
  (List.range 128).flatMap fun f =>
    match (d.txf f).cfg with
    | none => []
    | some c =>
      if (c.dual && decide (p < 2)) || (!c.dual && c.port == p) then
        let ahead := c.m - (d.time.mediaCount / 6) % c.m
        let at_ := fun (n : Nat) => 10 * (d.time.tickAt / 16 + d.time.residual / 16 + 125000 * n + c.launch)
        let next := at_ (ahead + c.m - 1)
        if (d.txf f).cur.any (·.sent) then [at_ (ahead - 1), next] else [next]
      else []

/-- Does class `c`'s gate open within `lim` of now, in 0.1 ns (R122)? -/
def Dev.opensWithin (d : Dev) (p c : Nat) : Nat → Int → Int → Bool
  | 0, _, _ => false
  | k + 1, t, stop =>
    match d.gateNow p c t with
    | (_, none) => false
    | (isOpen, some left) =>
      let u := t + max 1 left
      if stop < u then false
      else if !isOpen && (d.gateNow p c u).1 then true
      else Dev.opensWithin d p c k u stop

/-- Is nothing eligible, and nothing due within EEE_TW + 1000 ns (R122)? Class 6 counts as non-empty while a transmit
flow of the port is enabled. -/
def Chip.quiet (c : Chip) (p : Nat) : Bool :=
  let d := c.dev
  let lim : Int := 10 * (d.rd (F.MAC_EEE_TW_NS p) + 1000)
  let now := d.now10
  let soon := fun (t : Int) => decide (now ≤ t) && decide (t ≤ now + lim)
  (List.range 8).all fun cl =>
    let h := c.head p cl
    let flows := if cl = 6 then d.flowLaunches p else []
    let teu := (List.range 16).any fun u => d.teuTargets u p cl && d.on (F.TEU_STATUS_ARMED u) &&
      decide ((fine (d.teu u).nextE - d.baseAt (d.teu u).base) * 10 ≤ lim * 2 ^ 40)
    if h = .none ∧ flows = [] then true
    else !(h != .none && c.clearToStart p cl h && c.launched h) && !flows.any soon && !teu &&
      !(match h.launch with | none => false | some l => soon (10 * l)) && !d.opensWithin p cl 6000 now (now + lim)

/-- Entry into low-power idle (R122). -/
def Chip.lpiEnter (c : Chip) (p : Nat) : Chip :=
  let d := c.dev
  let m := d.mac p
  if d.on (F.MAC_CTL_EN p) && d.on (F.MAC_EEE_EN p) && !d.on (F.MAC_STATUS_LPI_TX p) && m.line.isNone &&
      decide (m.idleRaw + 500 ≤ d.time.raw) && c.quiet p then
    c.onDev fun d => (d.set (F.MAC_STATUS_LPI_TX p)).macCount p 22
  else c

/-- Exit from it: no frame starts until EEE_TW later (R122). -/
def Chip.lpiExit (c : Chip) (p : Nat) : Chip :=
  if c.dev.on (F.MAC_STATUS_LPI_TX p) && (!c.dev.on (F.MAC_EEE_EN p) || !c.quiet p) then
    c.onDev fun d => (d.clr (F.MAC_STATUS_LPI_TX p)).modMac p fun m =>
      { m with wakeRaw := d.time.raw + (d.rd (F.MAC_EEE_TW_NS p) + 1) / 2 }
  else c

end Sys2Proof.Machine
end

