-- ==== Sys2Proof/Machine/Flows.lean ====
section
/-! DEFINITION. The receive flows: enabling, packets, jitter rings, playout and loss (R125 to R143, R148). -/

namespace Sys2Proof.Machine

/-- Change flow `f`'s hidden state. -/
def Dev.modRx (d : Dev) (f : Nat) (g : RxFlow → RxFlow) : Dev := d.setRxf f (g (d.rxf f))

/-- Samples per tick at a rate code (R134), and the rate's multiple of 48 kHz. -/
def spt (rate : Nat) : Nat := 6 * 2 ^ rate
def RxCfg.k (c : RxCfg) : Nat := 2 ^ c.rate
def RxCfg.len (c : RxCfg) : Nat := c.ticks * spt c.rate

/-- Bytes per sample of the formats that are not compact (R129). -/
def bytesPer (fmt : Nat) : Nat :=
  match fmt with
  | 0 => 3 | 1 => 2 | 2 => 2 | 3 => 3 | _ => 4

/-- Is the format AAF; is it compact (R129)? -/
def isAaf (fmt : Nat) : Bool := fmt == 2 || fmt == 3 || fmt == 4
def isCsf (fmt : Nat) : Bool := fmt == 5 || fmt == 6

/-- FLOW.STATUS.TIME_OK (R132). -/
def Dev.timeOk (d : Dev) : Bool := d.on F.TIME_STATUS_MEDIA_VALID && d.time.mediaCount % 6 == 0

/-- Receive flows that are enabled, in ascending order, with their settings. -/
def Dev.rxOn (d : Dev) : List (Nat × RxCfg) := (List.range 128).filterMap fun f => (d.rxf f).cfg.map fun c => (f, c)

/-- Channels and channels times rate that the enabled receive flows carry (R131). -/
def rxLoad (l : List (Nat × RxCfg)) : Nat × Nat := ((l.map fun p => p.2.ch).sum, (l.map fun p => p.2.ch * p.2.k).sum)

/-- Is there a frame on one port that matches both flows' keys (R126, R127)? A flow whose VID_EN is 0 matches every
VID. -/
def RxCfg.sameKey (a b : RxCfg) : Bool :=
  let keys := fun (c : RxCfg) => if c.dual then [(0, c.keyA), (1, c.keyB)] else [(c.port, c.keyA)]
  let meet := fun (x y : Nat × Nat) =>
    if isAaf a.fmt then x == y
    else x.1 == y.1 && x.2 % 65536 == y.2 % 65536 && (!(a.vidEn && b.vidEn) || bitsAt x.2 16 12 == bitsAt y.2 16 12)
  isAaf a.fmt == isAaf b.fmt && (keys a).any fun x => (keys b).any fun y => x.1 == y.1 && meet x.2 y.2

/-- SHADOWED of every flow (R127). -/
def Dev.shadows (d : Dev) : Dev :=
  let on := d.rxOn
  d.each (List.range 128) fun d f =>
    let hid := match (d.rxf f).cfg with
      | none => false
      | some c => on.any fun p => decide (p.1 < f) && c.sameKey p.2
    let rose := hid && !d.on (F.RXF_STATUS_SHADOWED f)
    (d.when rose (·.set (F.RXF_EVENTS_SHADOW_EV f))).wr (F.RXF_STATUS_SHADOWED f) (bit hid)

/-- The alignment groups' members and offsets (R140). OFFSET_CYC of a group without an enabled member shows 0: DESIGN
CHOICE (log 203). -/
def Dev.groups (d : Dev) : Dev :=
  let on := d.rxOn
  d.each (List.range 16) fun d g =>
    let offs := (on.filter fun p => p.2.group == g).map fun p => p.2.link * 2048 / p.2.k
    let first := offs.headD 0
    let bad := offs.any fun o => o != first
    let rose := bad && !d.on (F.GRP_STATUS_OFFSET_MISMATCH g)
    (d.when rose (·.set (F.GRP_EVENTS_MISMATCH_EV g))).wrs [(F.GRP_STATUS_OFFSET_MISMATCH g, bit bad),
      (F.GRP_STATUS_MEMBERS g, offs.length), (F.GRP_OFFSET_CYC_CYCLES g, first)]

/-- The flow's state from its paths' (R143): 0 OFF, 1 WAITING, 2 RUNNING, 3 LOST. -/
def Dev.flowState (d : Dev) (f : Nat) : Dev :=
  let a := d.rd (F.RXF_STATUS_STATE_A f)
  let b := d.rd (F.RXF_STATUS_STATE_B f)
  d.wr (F.RXF_STATUS_STATE f) (if a = 2 ∨ b = 2 then 2 else if a = 3 ∨ b = 3 then 3 else max a b)

/-- A path's state field. -/
def pathState (f b : Nat) : Fld := if b = 0 then F.RXF_STATUS_STATE_A f else F.RXF_STATUS_STATE_B f
def Dev.setPath (d : Dev) (f b s : Nat) : Dev := (d.wr (pathState f b) s).flowState f

/-- The settings that a receive flow takes at its EN rise (R148). -/
def Dev.rxCfg (d : Dev) (f : Nat) : RxCfg :=
  let key := fun (r : Fld) (p v h : Fld) => (d.rd r, d.rd p + d.rd v * 65536 + d.rd h * 2 ^ 28)
  { fmt := d.rd (F.RXF_CTL_FORMAT f), rate := d.rd (F.RXF_CTL_RATE f), ch := d.rd (F.RXF_CTL_CHANNELS f),
    group := d.rd (F.RXF_CTL_GROUP f), port := d.rd (F.RXF_CTL_PORT f), dual := d.on (F.RXF_CTL_DUAL f),
    ssrcEn := d.on (F.RXF_CTL_SSRC_EN f), ticks := 4 * 2 ^ d.rd (F.RXF_CTL_RING_TICKS f),
    vidEn := d.on (F.RXF_CTL_VID_EN f),
    keyA := key (F.RXF_KEY_A0_ADDR f) (F.RXF_KEY_A1_UDP_PORT f) (F.RXF_KEY_A1_VID f) (F.RXF_KEY_A1_VID_HI f),
    keyB := key (F.RXF_KEY_B0_ADDR f) (F.RXF_KEY_B1_UDP_PORT f) (F.RXF_KEY_B1_VID f) (F.RXF_KEY_B1_VID_HI f),
    pt := d.rd (F.RXF_RTP_PT f), ssrc := d.rd (F.RXF_SSRC_SSRC f), link := d.rd (F.RXF_LINK_OFFSET_SAMPLES f),
    ring := d.rd (F.RXF_RING_BASE_BASE f), qbase := d.rd (F.RXF_QBASE_Q f), rtpOff := d.rd (F.RXF_RTP_OFFSET_OFFSET f) }

/-- Are the settings of receive flow `f` refused (R148), its share of R131's limits apart? -/
def Dev.rxBad (d : Dev) (f : Nat) : Bool :=
  let c := d.rxCfg f
  decide (c.fmt = 7) || decide (c.rate = 3) || decide (c.ch < 1) || decide (64 < c.ch) ||
    decide (5 < d.rd (F.RXF_CTL_RING_TICKS f)) || decide ((c.ticks - 3) * spt c.rate < c.link) ||
    !d.inPages c.ring (4 * c.len * c.ch) || decide (4096 < c.qbase + c.ch)

/-- Receive flow `f` is refused or takes its settings (R131, R136, R148). -/
def Dev.rxOpen (d : Dev) (f : Nat) : Dev :=
  let c := d.rxCfg f
  let load := rxLoad ((f, c) :: d.rxOn)
  let bad := d.rxBad f || decide (1024 < load.1) || decide (2048 < load.2)
  if (d.rxf f).cfg.isSome then d
  else if bad then (d.clr (F.RXF_CTL_EN f)).set (F.RXF_EVENTS_CFG_ERR f)
  else
    let d := (d.set (F.RXF_CTL_EN f)).setRxf f { RxFlow.init with cfg := some c }
    (d.wr F.FLOW_STATUS_RX_CH load.1).shadows.groups

/-- A direct EN rise also loads the flow's route entries (R305). -/
def Dev.rxEnable (d : Dev) (f : Nat) : Dev :=
  if (d.rxf f).cfg.isSome then d
  else
    let d := d.rxOpen f
    match (d.rxf f).cfg with
    | none => d
    | some c => d.routeLoads ((List.range c.ch).map fun i => (epRx f i, c.qbase + i))

/-- The ring is clear: every V is 0, READY rises and the paths wait (R136). -/
def Chip.rxReady (c : Chip) (f : Nat) : Chip :=
  match (c.dev.rxf f).cfg with
  | none => c
  | some k =>
    if c.dev.on (F.RXF_STATUS_READY f) then c
    else
      let mem := (List.range (k.len * k.ch)).foldl (fun m i =>
        let a := k.ring + 4 * i + 3
        m.setByte a (m.byte a &&& 0x7F)) c.mem
      let d := (c.dev.set (F.RXF_STATUS_READY f)).modRx f fun r => { r with since := c.dev.tick + 1 }
      let d := (d.setPath f 0 1).when k.dual fun d => d.setPath f 1 1
      ⟨d, mem⟩

/-- An EN fall (R143). -/
def Dev.rxDisable (d : Dev) (f : Nat) : Dev :=
  if (d.rxf f).cfg.isNone then d.clr (F.RXF_CTL_EN f)
  else
    let d := (d.setRxf f RxFlow.init).wrs [(F.RXF_CTL_EN f, 0), (F.RXF_STATUS_READY f, 0), (F.RXF_STATUS_STATE_A f, 0),
      (F.RXF_STATUS_STATE_B f, 0), (F.RXF_STATUS_STATE f, 0)]
    (d.wr F.FLOW_STATUS_RX_CH (rxLoad d.rxOn).1).shadows.groups

/-- A packet of a flow as R128 reads it: its number and the number space, its time stamp, its payload. -/
structure Parsed where
  seq   : Nat
  space : Nat
  ts    : Nat
  body  : List Byte
  deriving DecidableEq, Repr

/-- The RTP packet of a stripped frame, where every check of R128 passes. -/
def RxCfg.parseRtp (c : RxCfg) (fr : List Byte) : Option Parsed :=
  let udp := fieldAt fr 38 2
  let b0 := fieldAt fr 42 1
  let csrc := 4 * (b0 % 16)
  let ext := if bitAt b0 4 then 4 + 4 * fieldAt fr (42 + 12 + csrc + 2) 2 else 0
  let stop := 34 + udp
  let pad := if bitAt b0 5 then fieldAt fr (stop - 1) 1 else 0
  let start := 42 + 12 + csrc + ext
  if fr.length < stop ∨ stop < start + pad ∨ b0 / 64 ≠ 2 ∨ fieldAt fr 43 1 % 128 ≠ c.pt ∨
      (c.ssrcEn ∧ fieldAt fr 50 4 ≠ c.ssrc) ∨ (bitAt b0 5 ∧ pad = 0) then none
  else some ⟨fieldAt fr 44 2, 65536, fieldAt fr 46 4, (fr.drop start).take (stop - pad - start)⟩

/-- The AAF packet of a stripped frame, where every check of R128 passes. -/
def RxCfg.parseAaf (c : RxCfg) (fr : List Byte) : Option Parsed :=
  let len := fieldAt fr 34 2
  let w := fieldAt fr 30 4
  let nsr := if c.rate = 0 then 5 else if c.rate = 1 then 7 else 9
  if fr.length < 38 + len ∨ fieldAt fr 15 1 % 2 ≠ 1 ∨ w / 2 ^ 24 ≠ 6 - c.fmt ∨ bitsAt w 20 4 ≠ nsr ∨
      bitsAt w 8 10 ≠ c.ch ∨ w % 256 ≠ 8 * bytesPer c.fmt ∨ bitAt (fieldAt fr 36 1) 4 then none
  else some ⟨fieldAt fr 16 1, 256, fieldAt fr 26 4, (fr.drop 38).take len⟩

/-- Cut a list of bytes into pieces of `n`. -/
def pieces (n : Nat) : Nat → List Byte → List (List Byte)
  | 0, _ => []
  | k + 1, l => l.take n :: pieces n k (l.drop n)

/-- A received sample as a 24-bit value (R129). -/
def sampleIn (fmt : Nat) (b : List Byte) : Int :=
  let v := signedOf (8 * bytesPer fmt) (beNat b)
  match fmt with
  | 1 | 2 => v * 256
  | 4 => roundQ 24 v
  | _ => v

/-- The sample frames of a payload, each a list of CHANNELS samples, with the number of blocks that failed; none where
it is no whole number of sample frames from 1 to 192 (R128, R129). -/
def payloadIn (fmt ch : Nat) (body : List Byte) : Option (List (List Int) × Nat) :=
  if isCsf fmt then
    let f := fmt == 6
    let size := csfBytes f * ch
    let n := body.length / size
    if body.length % size ≠ 0 ∨ n = 0 ∨ 32 < n then none
    else
      let groups := (List.range n).map fun j => (pieces (csfBytes f) ch (body.drop (j * size))).map fun b => b.map (·.toNat)
      let bad := (groups.map fun g => (g.filter fun b => csfFailed f b).length).sum
      some ((groups.map fun g =>
        let ds := g.map fun b => csfDecode f b
        (List.range 6).map fun i => ds.map fun x => x.getD i 0).flatten, bad)
  else
    let size := bytesPer fmt * ch
    let n := body.length / size
    if body.length % size ≠ 0 ∨ n = 0 ∨ 192 < n then none
    else some ((List.range n).map fun j => (pieces (bytesPer fmt) ch (body.drop (j * size))).map (sampleIn fmt), 0)

/-- MEDIA_COUNT at a media instant in 1/16 ns, by the last boundary (R133). -/
def Dev.countAt (d : Dev) (s : Int) : Int := d.time.mediaCount + (s - d.time.tickAt) * 3 / 1000000

/-- The sample index of a packet's first sample (R133); `corr` is its stamp in corrected 1/16 ns. -/
def Dev.sampleIndex (d : Dev) (c : RxCfg) (p : Parsed) (corr : Int) : Int :=
  let k : Int := c.k
  if isAaf c.fmt then
    let m := 16 * instantNear (corr / 16) p.ts - d.time.residual
    k * d.time.mediaCount + ((m - d.time.tickAt) * 6 * k + 1000000) / 2000000
  else
    let near := k * d.countAt (corr - d.time.residual)
    instantNear near (lowOf 32 ((p.ts : Int) - c.rtpOff))

/-- One sample frame's fate (R137): 0 late, 1 early, 2 duplicate, 3 written. -/
def Mem.placeFrame (m : Mem) (c : RxCfg) (w q : Int) (xs : List Int) : Mem × Nat :=
  let tag := lowOf 7 (q / spt c.rate)
  let a := c.ring + 4 * ((q % (c.len : Int)).toNat * c.ch)
  if q < w then (m, 0)
  else if w + ((c.ticks - 2) * spt c.rate : Nat) ≤ q then (m, 1)
  else if (m.byte (a + 3)).toNat = 128 + tag then (m, 2)
  else (m.storeBytes a ((xs.map fun x => beBytes 4 (lowOf 24 x * 256 + 128 + tag)).flatten), 3)

/-- Write a packet's sample frames in order and tell each one's fate. -/
def Mem.placeAll (c : RxCfg) (w : Int) : Int → List (List Int) → Mem → Mem × List Nat
  | _, [], m => (m, [])
  | q, xs :: rest, m =>
    let r := m.placeFrame c w q xs
    let t := Mem.placeAll c w (q + 1) rest r.1
    (t.1, r.2 :: t.2)

/-- A path accepts a packet with media stamp `s` (R143). -/
def Dev.pathAccept (d : Dev) (f b : Nat) (s : Int) : Dev :=
  let r := d.rxf f
  let p := if b = 0 then r.a else r.b
  let last : Int := match p.sLast with | none => s | some l => max l s
  let ticks := d.rd (F.RXF_TIMEOUT_TICKS f)
  let fresh : Option (Int × Int) := if ticks = 0 then none else some (last, last + ticks * 2000000)
  let running := d.rd (pathState f b) == 2
  let p' : Path := match running, p.due with
    | true, some (s0, dl) =>
      if dl < s then { p with sLast := some last, later := true }
      else if s0 < s then { p with sLast := some last, later := false, due := fresh }
      else { p with sLast := some last }
    | _, _ => { p with sLast := some last, later := false, due := fresh }
  let d := d.when (d.rd (pathState f b) == 3) (·.set (F.RXF_EVENTS_RESUMED_EV f))
  (d.modRx f fun r => if b = 0 then { r with a := p' } else { r with b := p' }).setPath f b 2

/-- The flow engine processes the first frame that waits; one that hit its flow before the flow's first tick is dropped
(R128, R132 to R137). While TIME_OK is 0 every frame counts NOTIME alone, one that fails R128 too: DESIGN CHOICE (log
202). -/
def Chip.flowAccept (c : Chip) : Chip :=
  match c.dev.net.ingress with
  | [] => c
  | x :: rest =>
    let c := c.onDev fun d => { d with net := { d.net with ingress := rest } }
    let d := c.dev
    let f := x.flow
    match (d.rxf f).cfg with
    | none => c
    | some k =>
      if !d.on (F.RXF_STATUS_READY f) || decide (x.tick < (d.rxf f).since) then c
      else if !d.timeOk then c.onDev fun d => d.bump (F.RXF_CNT_COUNT f 3) 1
      else
        let refuse := c.onDev fun d => (d.bump (F.RXF_CNT_COUNT f 2) 1).set (F.RXF_EVENTS_HDR_EV f)
        match if isAaf k.fmt then k.parseAaf x.bytes else k.parseRtp x.bytes with
        | none => refuse
        | some p => match payloadIn k.fmt k.ch p.body with
          | none => refuse
          | some (frames, bad) =>
            let s := x.stamp - d.time.residual
            let j := -((d.time.tickAt - s - 128000) / 2000000)
            let w : Int := k.k * (d.time.mediaCount + 6 * j)
            let r := Mem.placeAll k w (d.sampleIndex k p x.stamp + k.link) frames c.mem
            let n := fun v => (r.2.filter (· == v)).length
            let path := if x.path = 0 then (d.rxf f).a else (d.rxf f).b
            let gap := match path.seq with
              | none => 0
              | some o =>
                let g := (p.seq + p.space - o) % p.space
                if 1 ≤ g ∧ g ≤ p.space / 2 then g - 1 else 0
            let d := (d.bump (F.RXF_CNT_COUNT f x.path) 1).bump (F.RXF_CNT_COUNT f (4 + x.path)) gap
            let d := (d.bump (F.RXF_CNT_COUNT f (6 + x.path)) (n 0)).bump (F.RXF_CNT_COUNT f (8 + x.path)) (n 1)
            let d := (d.bump (F.RXF_CNT_COUNT f 10) (n 2)).bump (F.RXF_CNT_COUNT f 12) bad
            let d := (d.when (decide (0 < n 0)) (·.set (F.RXF_EVENTS_LATE_EV f))).when (decide (0 < n 1))
              (·.set (F.RXF_EVENTS_EARLY_EV f))
            let d := d.when (decide (0 < bad)) (·.set (F.RXF_EVENTS_CSF_EV f))
            let d := d.modRx f fun r =>
              if x.path = 0 then { r with a := { r.a with seq := some p.seq } }
              else { r with b := { r.b with seq := some p.seq } }
            ⟨d.pathAccept f x.path s, r.1⟩

/-- The evaluation of a path's deadline, 2480 CLK_SYS cycles after it, once no frame stamped by then waits (R138,
R143). -/
def Dev.pathDeadline (d : Dev) (f b : Nat) : Dev :=
  let p := if b = 0 then (d.rxf f).a else (d.rxf f).b
  match p.due with
  | none => d
  | some (_, dl) =>
    let waits := d.net.ingress.any fun x => x.flow == f && x.path == b && decide (x.stamp - d.time.residual ≤ dl)
    if d.cyclesSince dl < d.sysCycles 2480 ∨ waits ∨ d.rd (pathState f b) ≠ 2 then d
    else
      let d := (d.set (F.RXF_EVENTS_LOST_EV f)).bump (F.RXF_CNT_COUNT f 13) 1
      let ticks := d.rd (F.RXF_TIMEOUT_TICKS f)
      let last : Int := p.sLast.getD 0
      let due : Option (Int × Int) := if p.later && decide (0 < ticks) then some (last, last + ticks * 2000000) else none
      let d := d.modRx f fun r =>
        if b = 0 then { r with a := { r.a with due := due, later := false } }
        else { r with b := { r.b with due := due, later := false } }
      if p.later then (d.set (F.RXF_EVENTS_RESUMED_EV f)).setPath f b 2 else d.setPath f b 3

/-- Playout of one flow at the present boundary (R139): also whether it leaves a gap (R141). -/
def Chip.playFlow (c : Chip) (f : Nat) (k : RxCfg) : Chip × Bool :=
  let d := c.dev
  if !d.on (F.RXF_STATUS_READY f) then (c, true)
  else
    let t := d.time.mediaCount / 6
    let n := spt k.rate
    let addr := fun i ch => k.ring + 4 * ((t * n + i) % k.len * k.ch + ch)
    let running := d.rd (F.RXF_STATUS_STATE f) == 2
    let good := fun (w : Nat) => w % 256 == 128 + t % 128
    let word := fun i ch => c.mem.load (addr i ch) 4
    let missing := if running then ((List.range n).filter fun i => !good (word i 0)).length else 0
    let d := if running then
        (d.each (List.range k.ch) fun d ch => d.sourcePush (epRx f ch) 0
          ((List.range n).map fun i => let w := word i ch; if good w then w / 256 * 256 else 0)).bump
            (F.RXF_CNT_COUNT f 11) missing
      else d
    let mem := (List.range n).foldl (fun m i => (List.range k.ch).foldl (fun m ch =>
      m.setByte (addr i ch + 3) (m.byte (addr i ch + 3) &&& 0x7F)) m) c.mem
    (⟨d, mem⟩, !running || decide (0 < missing))

/-- Playout at a tick boundary (R139, R141). -/
def Chip.playout (c : Chip) : Chip :=
  let r := c.dev.rxOn.foldl (fun (s : Chip × List Nat) p =>
    let x := s.1.playFlow p.1 p.2
    (x.1, if x.2 then p.2.group :: s.2 else s.2)) (c, [])
  r.1.onDev fun d => d.each (List.range 16) fun d g =>
    if r.2.contains g then
      ((d.set (F.GRP_STATUS_GAP_NOW g)).bump (F.GRP_GAP_TICKS_COUNT g) 1).set (F.GRP_EVENTS_GAP_EV g)
    else d.clr (F.GRP_STATUS_GAP_NOW g)

end Sys2Proof.Machine
end

