-- ==== Sys2Proof/Machine/TxFlows.lean ====
section
/-! DEFINITION. The transmit flows: enabling, the packetiser and its frames (R129, R144 to R149, R366). -/

namespace Sys2Proof.Machine

/-- Change flow `f`'s hidden state. -/
def Dev.modTx (d : Dev) (f : Nat) (g : TxFlow → TxFlow) : Dev := d.setTxf f (g (d.txf f))

/-- Transmit flows that are enabled, in ascending order, with their settings. -/
def Dev.txOn (d : Dev) : List (Nat × TxCfg) := (List.range 128).filterMap fun f => (d.txf f).cfg.map fun c => (f, c)

/-- Channels and channels times rate of a list of transmit flows (R131). -/
def txLoad (l : List (Nat × TxCfg)) : Nat × Nat :=
  ((l.map fun p => p.2.ch).sum, (l.map fun p => p.2.ch * 2 ^ p.2.rate).sum)

/-- The settings that a transmit flow takes at its EN rise (R148). PTIME codes give 1, 2 and 8 ticks (R144). -/
def Dev.txCfg (d : Dev) (f : Nat) : TxCfg :=
  { fmt := d.rd (F.TXF_CTL_FORMAT f), rate := d.rd (F.TXF_CTL_RATE f),
    m := match d.rd (F.TXF_CTL_PTIME f) with | 0 => 1 | 1 => 2 | _ => 8
    ch := d.rd (F.TXF_CTL_CHANNELS f), port := d.rd (F.TXF_CTL_PORT f), dual := d.on (F.TXF_CTL_DUAL f),
    csum := d.on (F.TXF_CTL_UDP_CSUM f), hdrA := (d.rd (F.TXF_HDR_A_ADDR f), d.rd (F.TXF_HDR_LEN_LEN_A f)),
    hdrB := (d.rd (F.TXF_HDR_B_ADDR f), d.rd (F.TXF_HDR_LEN_LEN_B f)),
    launch := d.rd (F.TXF_LAUNCH_OFFSET_NS f), rtpOff := d.rd (F.TXF_RTP_OFFSET_VALUE f),
    pres := d.rd (F.TXF_PRES_OFFSET_VALUE f) }

/-- Bytes of the payload of one packet (R129, R144). -/
def TxCfg.payload (c : TxCfg) : Nat :=
  let n := c.m * spt c.rate
  if isCsf c.fmt then n / 6 * c.ch * csfBytes (c.fmt == 6) else n * c.ch * bytesPer c.fmt

/-- May a template of this length serve the format (R147)? -/
def TxCfg.lenOk (c : TxCfg) (n : Nat) : Bool := if isAaf c.fmt then n == 38 || n == 42 else n == 54 || n == 58

/-- Is the template usable on port `p` (R147, R148)? -/
def Dev.templateOk (d : Dev) (c : TxCfg) (h : Nat × Nat) (p : Nat) : Bool :=
  c.lenOk h.2 && d.inPages h.1 h.2 && decide (h.2 + c.payload + 4 ≤ d.rd (F.MAC_MAX_LEN_LEN p))

/-- Are the settings of transmit flow `f` refused (R147, R148), its share of R131's limits apart? -/
def Dev.txBad (d : Dev) (f : Nat) : Bool :=
  let c := d.txCfg f
  let ports := if c.dual then d.templateOk c c.hdrA 0 && d.templateOk c c.hdrB 1 else d.templateOk c c.hdrA c.port
  decide (c.fmt = 7) || decide (c.rate = 3) || decide (d.rd (F.TXF_CTL_PTIME f) = 3) || decide (c.ch < 1) ||
    decide (64 < c.ch) || !ports || decide (4096 < d.rd (F.TXF_QBASE_Q f) + c.ch) || decide (124999 < c.launch)

/-- Transmit flow `f` is refused or takes its settings (R131, R147, R148). -/
def Dev.txOpen (d : Dev) (f : Nat) : Dev :=
  let c := d.txCfg f
  let load := txLoad ((f, c) :: d.txOn)
  let bad := d.txBad f || decide (1024 < load.1) || decide (2048 < load.2)
  if (d.txf f).cfg.isSome then d
  else if bad then (d.clr (F.TXF_CTL_EN f)).set (F.TXF_EVENTS_CFG_ERR f)
  else
    let r := d.fresh
    let d := (r.2.set (F.TXF_CTL_EN f)).setTxf f ⟨some c, d.tick + 2, none, r.1 % 65536⟩
    d.wr F.FLOW_STATUS_TX_CH load.1

/-- A direct EN rise also loads the flow's route entries (R305). -/
def Dev.txEnable (d : Dev) (f : Nat) : Dev :=
  if (d.txf f).cfg.isSome then d
  else
    let d := d.txOpen f
    match (d.txf f).cfg with
    | none => d
    | some c => d.routeLoads ((List.range c.ch).map fun i => (epTx f i, d.rd (F.TXF_QBASE_Q f) + i))

/-- An EN fall (R148). -/
def Dev.txDisable (d : Dev) (f : Nat) : Dev :=
  let d := (d.setTxf f TxFlow.init).wrs [(F.TXF_CTL_EN f, 0), (F.TXF_STATUS_RUNNING f, 0)]
  d.wr F.FLOW_STATUS_TX_CH (txLoad d.txOn).1

/-- A write of SEQ.NEXT (R146). -/
def Dev.txSeq (d : Dev) (f v : Nat) : Dev := d.wr (F.TXF_SEQ_NEXT f) v

/-- One channel's tick of samples (R145): as many as the tick holds, with what was counted: 0 nothing, 1 an underrun, 2
a packet of the wrong length. -/
def Dev.takeTick (d : Dev) (f ch n : Nat) : Dev × List Nat × Nat :=
  let r := d.txTake (epTx f ch) d.tick
  let ws := r.2.map fun w => w.data.toNat
  if ws = [] then (r.1, List.replicate n 0, 1)
  else (r.1, ws.take n ++ List.replicate (n - ws.length) 0, if ws.length = n then 0 else 2)

/-- Every channel's tick, in order. -/
def Dev.takeTicks (d : Dev) (f n : Nat) : List Nat → Dev × List (List Nat) × List Nat
  | [] => (d, [], [])
  | ch :: rest =>
    let r := d.takeTick f ch n
    let t := Dev.takeTicks r.1 f n rest
    (t.1, r.2.1 :: t.2.1, r.2.2 :: t.2.2)

/-- A queue word as the bytes of a sample (R129). -/
def sampleOut (fmt w : Nat) : List Byte :=
  let v := signedOf 32 w
  let n := bytesPer fmt
  beBytes n (lowOf (8 * n) (if fmt = 4 then v else roundQ (8 * n) v))

/-- The payload of a packet: `chs` holds each channel's words (R129). -/
def payloadOut (fmt : Nat) (chs : List (List Nat)) : List Byte :=
  let n := (chs.headD []).length
  if isCsf fmt then
    ((List.range (n / 6)).map fun j => (chs.map fun ws =>
      (csfEncode (fmt == 6) ((List.range 6).map fun i => roundQ 24 (signedOf 32 (ws.getD (6 * j + i) 0)))).map
        (BitVec.ofNat 8)).flatten).flatten
  else ((List.range n).map fun i => (chs.map fun ws => sampleOut fmt (ws.getD i 0)).flatten).flatten

/-- The frame of a packet from its template (R147): `seq` its number, `ts` its time stamp, `id` the identification. -/
def TxCfg.frame (c : TxCfg) (hdr body : List Byte) (seq ts id : Nat) : List Byte :=
  if isAaf c.fmt then
    let o := hdr.length - 24
    let h := patch hdr (o + 1) [hdr.getD (o + 1) 0 ||| 1]
    let h := patch h (o + 2) (beBytes 1 (seq % 256))
    let h := patch h (o + 12) (beBytes 4 ts)
    patch h (o + 20) (beBytes 2 body.length) ++ body
  else
    let o := hdr.length - 40
    let h := patch hdr (o + 2) (beBytes 2 (40 + body.length))
    let h := patch (patch h (o + 4) (beBytes 2 id)) (o + 10) [0, 0]
    let h := patch h (o + 10) (beBytes 2 (65535 - fold16 (onesSum ((h.drop o).take 20) 0)))
    let h := patch (patch h (o + 24) (beBytes 2 (20 + body.length))) (o + 26) [0, 0]
    let h := patch (patch h (o + 30) (beBytes 2 (seq % 65536))) (o + 32) (beBytes 4 ts)
    let fr := h ++ body
    if c.csum then
      let pseudo := onesSum ((h.drop (o + 12)).take 8) (17 + 20 + body.length)
      let s := 65535 - fold16 (onesSum (fr.drop (o + 20)) pseudo)
      patch fr (o + 26) (beBytes 2 (if s = 0 then 65535 else s))
    else fr

/-- The corrected time of the present tick boundary in ns: its media time plus RESIDUAL (R144). -/
def Dev.tickTime (d : Dev) : Int := (d.time.tickAt + d.time.residual) / 16

/-- A packet is complete: its frames and their ports; SEQ.NEXT advances (R142, R144, R146, R147). -/
def Chip.buildPacket (c : Chip) (f : Nat) (k : TxCfg) (g : Gather) : Chip × List (Nat × TxFrame) :=
  let d := c.dev
  let chs := (List.range k.ch).map fun ch => (g.ticks.map fun t => t.getD ch []).flatten
  let body := payloadOut k.fmt chs
  let seq := d.rd (F.TXF_SEQ_NEXT f)
  let ts := if isAaf k.fmt then lowOf 32 (g.time + k.pres) else (2 ^ k.rate * g.count + k.rtpOff) % 2 ^ 32
  let id := (d.txf f).ipid
  let launch := d.tickTime + k.launch
  let one := fun (h : Nat × Nat) (path i : Nat) =>
    (⟨k.frame (c.mem.loadBytes h.1 h.2) body seq ts ((id + i) % 65536), launch, f, path⟩ : TxFrame)
  let out := if k.dual then [(0, one k.hdrA 0 0), (1, one k.hdrB 1 1)] else [(k.port, one k.hdrA 0 0)]
  let d := (d.wr (F.TXF_SEQ_NEXT f) (seq + 1)).modTx f fun t =>
    { t with cur := none, ipid := (id + out.length) % 65536 }
  let held := d.on F.TWIN_CFG_TX_HOLDER && !(g.sent && d.on F.TWIN_STATUS_PERMIT)
  if held then (⟨d.bump (F.TWIN_CNT_COUNT 7) out.length, c.mem⟩, []) else (⟨d, c.mem⟩, out)

/-- One flow's part of a tick mark (R144, R145, R307): the frames it completes. -/
def Chip.packFlow (c : Chip) (f : Nat) (k : TxCfg) : Chip × List (Nat × TxFrame) :=
  let d := c.dev
  let n := spt k.rate
  let start := d.time.mediaCount % (6 * k.m) == 0 && decide ((d.txf f).since ≤ d.tick)
  let broken := match (d.txf f).cur with
    | none => false
    | some g => g.count + 6 * g.ticks.length != d.time.mediaCount
  let d := if broken then d.modTx f fun t => { t with cur := none } else d
  let d := if start then
      let d := d.each (List.range k.ch) fun d ch => d.txSwitch (epTx f ch)
      (d.set (F.TXF_STATUS_RUNNING f)).modTx f fun t =>
        { t with cur := some ⟨d.time.mediaCount, d.on F.TWIN_STATUS_PERMIT, d.tickTime, []⟩ }
    else d
  if !d.on (F.TXF_STATUS_RUNNING f) then (⟨d, c.mem⟩, [])
  else
    let r := d.takeTicks f n (List.range k.ch)
    let d := r.1
    match (d.txf f).cur with
    | none => (⟨d, c.mem⟩, [])
    | some g =>
      let under := (r.2.2.filter (· == 1)).length
      let form := (r.2.2.filter (· == 2)).length
      let d := (d.bump (F.TXF_CNT_COUNT f 2) under).bump (F.TXF_CNT_COUNT f 3) form
      let d := (d.when (decide (0 < under)) (·.set (F.TXF_EVENTS_UNDERRUN_EV f))).when (decide (0 < form))
        (·.set (F.TXF_EVENTS_FORM_EV f))
      let g := { g with ticks := g.ticks ++ [r.2.1] }
      if g.ticks.length = k.m then Chip.buildPacket ⟨d, c.mem⟩ f k g
      else (⟨d.modTx f fun t => { t with cur := some g }, c.mem⟩, [])

/-- Place a frame behind those that launch no later (R149). -/
def placeFrame (x : TxFrame) : List TxFrame → List TxFrame
  | [] => [x]
  | y :: ys => if x.launch < y.launch then x :: y :: ys else y :: placeFrame x ys

/-- The packetiser at a tick mark: every flow in ascending order, then each port's new frames by launch time (R145,
R149). While a SWITCH drain runs it is stopped (R399), and so it is in a realignment, where R71's adjustment falls and
no packet is sent (R144): a packet that was begun is not sent and not counted (log 204). -/
def Chip.packetise (c : Chip) : Chip :=
  if c.dev.net.draining then c
  else if c.dev.realigning then
    c.onDev fun d => d.each (d.txOn.map (·.1)) fun d f => d.modTx f fun t => { t with cur := none }
  else
    let r := c.dev.txOn.foldl (fun (s : Chip × List (Nat × TxFrame)) p =>
      let x := s.1.packFlow p.1 p.2
      (x.1, s.2 ++ x.2)) (c, [])
    r.1.onDev fun d => d.each [0, 1, 2, 3] fun d p =>
      let new := (r.2.filter fun x => x.1 == p).foldl (fun l x => placeFrame x.2 l) []
      if new = [] then d else d.modMac p fun m => { m with c6 := m.c6 ++ new }

end Sys2Proof.Machine
end

