-- ==== Sys2Proof/Machine/Twin.lean ====
section
/-! DEFINITION. Twin operation: drive permission, the baton, the heartbeat, the Q-link, fitness, warm join and the
proof channels (R360 to R387). -/

namespace Sys2Proof.Machine

/-- The states of TWIN.STATUS.STATE (R375, R388). -/
def tSolo : Nat := 0
def tInit : Nat := 1
def tActive : Nat := 2
def tStandby : Nat := 3
def tConfirm : Nat := 4
def tClaiming : Nat := 5

/-- The state, whether the chip works as one of a pair, and whether it stands by. -/
def Dev.tstate (d : Dev) : Nat := d.rd F.TWIN_STATUS_STATE
def Dev.twinMode (d : Dev) : Bool := d.rd F.TWIN_CFG_MODE == 1
def Dev.isStandby (d : Dev) : Bool :=
  d.twinMode && (d.tstate == tStandby || d.tstate == tConfirm || d.tstate == tClaiming)

/-- A counter of R388. -/
def Dev.twinCount (d : Dev) (k : Nat) : Dev := d.bump (F.TWIN_CNT_COUNT k) 1

/-- The CRC-32 of R369 over words in Saltern order, as a word. -/
def crcWords (ws : List Nat) : Nat := crc32 (ws.map (beBytes 4)).flatten

/-- A word of a frame. -/
def wordOf (ws : List Nat) (i : Nat) : Nat := ws.getD i 0

/-- A Q-link frame whose last word is the CRC of the rest (R369). -/
def linkGood (ws : List Nat) : Bool := decide (2 ≤ ws.length) && ws.getLast? == some (crcWords ws.dropLast)

/-- Give a frame to the Q-link, with its CRC. -/
def Dev.linkSend (d : Dev) (ws : List Nat) : Dev :=
  d.modTwin fun t => { t with out := t.out ++ [ws ++ [crcWords ws]] }

/-- A JOIN frame with a code (R370). -/
def Dev.joinSend (d : Dev) (code : Nat) : Dev := d.linkSend [0x03000000, code]

/-! ### Fitness (R382) -/

/-- The first condition of R382 that fails, as UNFIT_CAUSE names it; 0 for none. The version is that of the last good
STATE from a holder. -/
def Dev.unfitCause (d : Dev) : Nat :=
  if d.sys.twin.holderVer != some (d.rd F.LAM_VER_CUR_VERSION) then 1
  else if !d.on F.TWIN_STATUS_CONVERGED then 2
  else if !d.on F.MEDPLL_STATUS_LOCK || d.on F.MEDPLL_STATUS_FREQ_ALARM || d.on F.MEDPLL_STATUS_REF_JUMP_REFUSED ||
      d.on F.MEDPLL_STATUS_REALIGN_PENDING || d.on F.MEDPLL_STATUS_SMR_RANGE then 3
  else if d.rd F.TIME_STATUS_STATE == 0 || !d.on F.TIME_STATUS_MEDIA_VALID then 4
  else if (List.range 8).any fun g => d.on (F.MOD_GRP_STATUS_EPOCH_SLIP g) then 5
  else 0

/-- Give FIT a value, with its events. -/
def Dev.setFit (d : Dev) (b : Bool) : Dev :=
  let was := d.on F.TWIN_STATUS_FIT
  let d := d.when (b && !was) (·.set F.TWIN_EVENTS_FIT_EV)
  (d.when (!b && was) (·.set F.TWIN_EVENTS_UNFIT_EV)).wr F.TWIN_STATUS_FIT (bit b)

/-- A standby's FIT follows its conditions. -/
def Dev.fitCheck (d : Dev) : Dev :=
  if d.isStandby then (d.wr F.TWIN_STATUS_UNFIT_CAUSE d.unfitCause).setFit (d.unfitCause == 0) else d

/-- A release clears FIT and CONVERGED (R375). -/
def Dev.unfit (d : Dev) : Dev := (d.clr F.TWIN_STATUS_CONVERGED).setFit false

/-! ### Permission (R342, R364, R371, R373, R376) -/

/-- Permission and its mirror in the Drive Engine. -/
def Dev.setPermit (d : Dev) (b : Bool) : Dev := (d.wr F.TWIN_STATUS_PERMIT (bit b)).wr F.MOD_STATUS_PERMIT (bit b)

/-- The heartbeat is judged afresh: no deadline is past and none is due (R372, R375). -/
def Dev.freshHb (d : Dev) : Dev := d.modTwin fun t => { t with misses := 0, deadline := none, arrived := [], due := [] }

/-- Frames that wait in class 6 are withheld when permission is given away (R366). -/
def Dev.withholdSix (d : Dev) : Dev :=
  if !d.on F.TWIN_CFG_TX_HOLDER then d
  else d.each [0, 1, 2, 3] fun d p =>
    let n := (d.mac p).c6.length
    (d.bump (F.TWIN_CNT_COUNT 7) n).modMac p fun m => { m with c6 := [], ripe := m.ripe.filter (· != 6) }

/-- Permission is gained: the chip pulls BATON low, the pins start at each group's next carrier cycle start, TAKE_NS
is recorded; `edge` is the CLK_EDGE time of the take, from whose next BST_SCLK edge the chip drives BST_SCLK and
R376's hold runs for 128 BST_SCLK cycles. -/
def Dev.gain (d : Dev) (edge : Option Nat) : Dev :=
  let d := (d.setPermit true).set F.TWIN_EVENTS_TOOK
  let d := (d.twinCount 0).wr F.TWIN_TAKE_NS_NS d.nowNs
  (d.freshHb).modTwin fun t =>
    { t with confirmed := false, force := false, hbOut := .low, undriven := List.range 8,
             edges := [],
             holdSince := match t.since with | some s => s.2 | none => 0,
             sclkFrom := match edge with | some e => (e / 64 + 1) * 64 | none => 0,
             holdUntil := match edge, t.since with
               | some e, some _ => (e / 64 + 1) * 64 + 8192
               | _, _ => 0 }

/-- A take (R375, R376). -/
def Dev.take (d : Dev) (edge : Option Nat) : Dev := (d.wr F.TWIN_STATUS_STATE tActive).gain edge

/-- Permission is given away: the drive set and HB_OUT go high-Z and BATON is released; its level is seen high once the
pull-up has raised it and the partner leaves it (R371, R373, R388). No packet that has begun is sent, whoever holds
permission at its end (R366). -/
def Dev.giveUp (d : Dev) : Dev :=
  let d := ((d.withholdSix).setPermit false).set F.TWIN_EVENTS_RELEASED
  let d := d.each (List.range 128) fun d f =>
    d.modTx f fun t => { t with cur := t.cur.map fun g => { g with sent := false } }
  (d.twinCount 1).modTwin fun t =>
    { t with hbOut := .z, confirmed := false, force := false, since := none, handover := none, undriven := [],
             holdUntil := 0 }

/-- A release to a state (R375). -/
def Dev.releaseTo (d : Dev) (s : Nat) : Dev := (d.giveUp).wr F.TWIN_STATUS_STATE s

/-- A solo chip gains permission when a layer is applied and MEDPLL is locked, unless it has given it away (R364). -/
def Dev.soloCheck (d : Dev) : Dev :=
  if d.rd F.TWIN_CFG_MODE = 0 ∧ !d.on F.TWIN_STATUS_PERMIT ∧ !d.sys.twin.released ∧
      d.rd F.LAM_VER_CUR_VERSION ≠ 0 ∧ d.on F.MEDPLL_STATUS_LOCK then d.gain none
  else d

/-- The partner's last VERSION equals the chip's own, or no STATE was ever received (R375). -/
def Dev.sameVersion (d : Dev) : Bool :=
  d.sys.twin.partner.isNone || d.rd F.LAM_VER_CUR_VERSION == d.rd F.TWIN_VERSION_PARTNER

/-- The chip's layer differs from VERSION in the last good STATE from a holder, with which it never takes (R382). -/
def Dev.versionClash (d : Dev) : Bool := d.sys.twin.holderVer.any (· != d.rd F.LAM_VER_CUR_VERSION)

/-! ### The warm join (R383) -/

/-- A join is requested. -/
def Dev.joinStart (d : Dev) : Dev :=
  if !d.isStandby then d
  else
    let d := ((d.joinSend 1).clr F.TWIN_STATUS_CONVERGED).wr F.TWIN_STATUS_JOIN_STATE 1
    (d.modTwin fun t => { t with layerAt := none }).fitCheck

/-- What a join still has to send is dropped (R383). -/
def Dev.joinDrop (d : Dev) : Dev :=
  d.modTwin fun t => { t with out := t.out.filter fun ws =>
    !(bitsAt (wordOf ws 0) 24 8 == 2 ||
      (bitsAt (wordOf ws 0) 24 8 == 3 && decide (2 ≤ wordOf ws 1) && decide (wordOf ws 1 ≤ 4))) }

/-- A join ends without CONVERGED. -/
def Dev.joinEnd (d : Dev) : Dev := ((d.joinDrop).clr F.TWIN_STATUS_JOIN_STATE).modTwin fun t => { t with layerAt := none }

/-- TWIN.JOIN.ABORT (R383, R388). -/
def Dev.joinAbort (d : Dev) : Dev := if d.twinMode then (d.joinEnd).joinSend 5 else d

/-- The DATA frames of `n` bytes at `a`, at most 1024 bytes in each (R370). -/
def Mem.dataFrames (m : Mem) (kind a n : Nat) : List (List Nat) :=
  (List.range ((n + 1023) / 1024)).map fun i =>
    let b := a + 1024 * i
    let l := min 1024 (n - 1024 * i)
    let ws := [0x02000000, kind * 2 ^ 31 + b % 2 ^ 26, l] ++
      (List.range (l / 4)).map fun j => beNat (m.loadBytes (b + 4 * j) 4)
    ws ++ [crcWords ws]

/-- What a holder sends on a join request: its layer where the versions differ, then the twin pages, each word as it
stands now (R370, R383). -/
def Chip.joinServe (c : Chip) : Chip :=
  let give := fun (fs : List (List Nat)) (d : Dev) => d.modTwin fun t => { t with out := t.out ++ fs }
  c.onDev fun d =>
    let pages := (d.sys.twin.pages.map fun p => c.mem.dataFrames 1 p.1 p.2).flatten
    let d := if d.sameVersion then d
      else match d.sys.lam.cur with
        | none => d
        | some l => give (c.mem.dataFrames 0 l.addr l.length) (d.joinSend 2)
    (give pages (d.joinSend 3)).joinSend 4

/-- The end of CONVERGE.TICKS (R383). -/
def Dev.convergeEnd (d : Dev) : Dev :=
  if d.rd F.TWIN_STATUS_JOIN_STATE ≠ 4 ∨ d.tick < d.sys.twin.joinFrom + d.rd F.TWIN_CONVERGE_TICKS then d
  else if 64 ≤ d.sys.twin.run then
    (((d.set F.TWIN_STATUS_CONVERGED).set F.TWIN_EVENTS_JOIN_DONE).clr F.TWIN_STATUS_JOIN_STATE).fitCheck
  else d.modTwin fun t => { t with joinFrom := d.tick }

/-! ### Dual hold, heartbeat and baton (R371 to R381) -/

/-- A dual hold (R379). -/
def Dev.dualHold (d : Dev) : Dev :=
  let d := d.set F.TWIN_EVENTS_DUAL_HOLD
  if d.on F.TWIN_CFG_ROLE || d.on F.TWIN_STATUS_ROLE_CLASH then
    ((d.releaseTo tInit).unfit).set F.TWIN_STATUS_INHIBIT
  else d

/-- An HB_IN edge with its stamp in CLK_EDGE cycles of media time (R372, R379). -/
def Dev.hbEdge (d : Dev) (stamp : Nat) (level : Bool) : Dev :=
  if !d.twinMode then d
  else
    let es := (d.sys.twin.edges ++ [stamp]).drop (d.sys.twin.edges.length - 2)
    let d := d.modTwin fun t => { t with hbIn := level, edges := es, arrived := if d.isStandby then t.arrived ++ [stamp] else [] }
    let close := fun (a b : Nat) => decide (a ≤ b) && decide (2 * (b - a) ≤ 3 * d.rd (F.MOD_GRP_CARRIER_DIV 0))
    match es with
    | [a, b, c] => if d.tstate = tActive ∧ close a b ∧ close b c then d.dualHold else d
    | _ => d

/-- Has an edge arrived for the deadline `at_` (R372)? -/
def Dev.hbArrived (d : Dev) (at_ : Nat) : Bool :=
  d.sys.twin.arrived.any fun e => decide (e ≤ at_) &&
    (match d.sys.twin.deadline with | none => true | some p => decide (p < e))

/-- A standby evaluates the deadline `at_` in CLK_EDGE cycles of media time, which one of its group-0 carrier cycle
starts has set (R372, R375). Where ROLE_CLASH is 1 only FORCE.TAKE makes it holder (R379), and never across versions
(R382). -/
def Dev.hbDeadline (d : Dev) (at_ : Nat) : Dev :=
  if !d.isStandby || !d.sys.twin.due.contains at_ then d
  else
    let hit := d.hbArrived at_
    let n := if hit then 0 else d.sys.twin.misses + 1
    let d := (d.modTwin fun t => { t with deadline := some at_, misses := n,
                                          arrived := t.arrived.filter fun e => decide (at_ < e),
                                          due := t.due.filter fun e => decide (at_ < e) }).wr
      F.TWIN_STATUS_HB_OK (bit hit)
    let d := d.when (!hit) (·.twinCount 2)
    let d := (d.when (decide (2 ≤ n)) (·.set F.TWIN_EVENTS_HB_LOST)).fitCheck
    let s := d.tstate
    if s = tConfirm then
      if hit then (d.wr F.TWIN_STATUS_STATE tStandby).set F.TWIN_EVENTS_BATON_FAULT
      else if (d.on F.TWIN_STATUS_FIT && !d.on F.TWIN_STATUS_ROLE_CLASH) ||
          (d.sys.twin.force && d.sameVersion && !d.versionClash) then d.take (some (at_ + 8))
      else (d.wr F.TWIN_STATUS_STATE tStandby).set F.TWIN_EVENTS_TAKE_BLOCKED
    else if s = tClaiming then
      if hit then (d.wr F.TWIN_STATUS_STATE tStandby).modTwin fun t => { t with hbOut := .low } else d
    else if 2 ≤ n ∧ !d.on F.TWIN_STATUS_BATON ∧ d.on F.TWIN_STATUS_FIT then
      (((d.wr F.TWIN_STATUS_STATE tClaiming).set F.TWIN_EVENTS_CLAIM_SENT).twinCount 3).modTwin fun t =>
        { t with hbOut := .high, claim := d.tick }
    else d

/-- FORCE.TAKE; `edge` is the CLK_EDGE time of the write (R364, R375). -/
def Dev.forceTake (d : Dev) (edge : Nat) : Dev :=
  if !d.twinMode then
    if d.on F.TWIN_STATUS_PERMIT then d
    else if !d.on F.MEDPLL_STATUS_LOCK then d.set F.TWIN_EVENTS_TAKE_BLOCKED
    else if d.sys.twin.released then (d.modTwin fun t => { t with released := false }).gain (some edge)
    else d
  else if d.tstate = tActive then d
  else
    let d := d.clr F.TWIN_STATUS_INHIBIT
    if !d.on F.TWIN_STATUS_BATON || !d.sameVersion || (d.isStandby && d.versionClash) then d.set F.TWIN_EVENTS_TAKE_BLOCKED
    else if d.sys.twin.confirmed then d.take (some edge)
    else d.modTwin fun t => { t with force := true }

/-- BATON is seen high from the CLK_EDGE time `since` on (R375, R376, R388). -/
def Dev.batonSeen (d : Dev) (since : Nat) : Dev :=
  let d := d.set F.TWIN_STATUS_BATON
  if d.on F.TWIN_STATUS_PERMIT then d
  else d.modTwin fun t => { t with since := match t.since with | none => some (d.tick, since) | s => s }

/-- BATON has been high for 32 cycles; it was first seen high at `since` in CLK_EDGE cycles (R374, R375). -/
def Dev.batonConfirmed (d : Dev) (since : Nat) : Dev :=
  if d.on F.TWIN_STATUS_PERMIT then d
  else
    let d := (d.batonSeen since).modTwin fun t => { t with confirmed := true }
    if !d.twinMode then d
    else if d.tstate = tStandby ∨ d.tstate = tClaiming then
      (d.wr F.TWIN_STATUS_STATE tConfirm).modTwin fun t => { t with hbOut := .low }
    else if d.tstate = tInit ∧ d.sys.twin.force ∧ d.sameVersion then d.take (some (since + 256))
    else d

/-- BATON is seen low (R375). A new holder, which drives it low itself, still counts its gap from the rise (R376,
R388). -/
def Dev.batonFalls (d : Dev) : Dev :=
  let d := (d.clr F.TWIN_STATUS_BATON).modTwin fun t => 
    { t with confirmed := false, since := if d.on F.TWIN_STATUS_PERMIT then t.since else none, force := false }
  if d.twinMode && d.tstate == tConfirm then d.wr F.TWIN_STATUS_STATE tStandby else d

/-- A holder sees BATON high for 8 cycles while it drives it low (R373). -/
def Dev.batonLost (d : Dev) : Dev :=
  if d.twinMode && d.tstate == tActive then (d.releaseTo tInit).set F.TWIN_EVENTS_BATON_FAULT else d

/-- The claim of a chip in INIT at a CLK_EDGE time (R375, R379). -/
def Dev.initialClaim (d : Dev) (edge : Nat) : Dev :=
  let wait := if d.on F.TWIN_CFG_ROLE then 16 else 2
  let high := match d.sys.twin.since with | some s => decide (s.1 + wait ≤ d.tick) | none => false
  if d.twinMode && d.tstate == tInit && d.on F.TWIN_STATUS_BATON && high && d.on F.MEDPLL_STATUS_LOCK &&
      d.on F.TIME_STATUS_MEDIA_VALID && d.rd F.LAM_VER_CUR_VERSION != 0 && !d.on F.TWIN_STATUS_INHIBIT &&
      !d.on F.TWIN_STATUS_ROLE_CLASH then d.take (some edge)
  else d

/-- Eight ticks in CLAIMING (R375). -/
def Dev.claimTimeout (d : Dev) : Dev :=
  if d.twinMode && d.tstate == tClaiming && decide (d.sys.twin.claim + 8 ≤ d.tick) then
    ((d.wr F.TWIN_STATUS_STATE tStandby).set F.TWIN_EVENTS_CLAIM_FAIL).modTwin fun t => { t with hbOut := .low }
  else d

/-- HB_IN has been high for 256 ring cycles at a holder (R378). -/
def Dev.holderYield (d : Dev) : Dev :=
  if d.twinMode && d.tstate == tActive && d.sys.twin.hbIn then
    ((d.releaseTo tInit).unfit).set F.TWIN_EVENTS_YIELDED
  else d

/-- The holder's watchdog fires (R364, R375, R380). -/
def Dev.watchdog (d : Dev) : Dev :=
  if !d.on F.TWIN_STATUS_PERMIT then d
  else
    let d := (d.set F.TWIN_EVENTS_WDOG).twinCount 4
    if d.twinMode then (d.releaseTo tInit).unfit
    else (d.giveUp).modTwin fun t => { t with released := true }

/-- FORCE.RELEASE (R364, R375). -/
def Dev.forceRelease (d : Dev) : Dev :=
  if !d.twinMode then
    if d.on F.TWIN_STATUS_PERMIT then (d.giveUp).modTwin fun t => { t with released := true } else d
  else if d.tstate = tActive then ((d.releaseTo tInit).unfit).set F.TWIN_STATUS_INHIBIT
  else d

/-- FORCE.HANDOVER (R364, R387). -/
def Dev.forceHandover (d : Dev) : Dev :=
  let ready := match d.sys.twin.partner with
    | some p => bitAt (wordOf p.1 0) 21 && bitAt (wordOf p.1 0) 20
    | none => false
  if d.twinMode && d.tstate == tActive && d.on F.TWIN_STATUS_QLINK_UP && ready then
    let t := (d.mediaTick + 8) % 2 ^ 32
    (d.wr F.TWIN_HANDOVER_AT_TICK t).modTwin fun w => { w with handover := some t }
  else d.set F.TWIN_EVENTS_HANDOVER_DENIED

/-- The first group-0 carrier cycle start at or after the announced boundary (R387): the partner's heartbeat is judged
afresh from there, and its last VERSION is that of the holder that it becomes (R382). -/
def Dev.handoverRelease (d : Dev) : Dev :=
  match d.sys.twin.handover with
  | some t =>
    if d.twinMode && d.tstate == tActive && decide ((d.mediaTick + 2 ^ 32 - t) % 2 ^ 32 < 2 ^ 31) then
      let d := d.modTwin fun w => { w with holderVer := w.partner.map fun p => wordOf p.1 2 }
      ((d.releaseTo tStandby).freshHb).fitCheck
    else d
  | none => d

/-! ### The Q-link (R369, R370, R384) -/

/-- A gang's state in a STATE frame. -/
def stateGang (ws : List Nat) (k : Nat) : Nat := bitsAt (wordOf ws (12 + k / 8)) (4 * (k % 8)) 3

/-- c of group `g` at the first carrier cycle start at or after the boundary of TICK `t`; c now where none has come. -/
def Dev.cMark (d : Dev) (g t : Nat) : Nat :=
  match (d.bst g).marks.find? (·.1 == t) with
  | some m => m.2
  | none => (d.bst g).cmd

/-- The gang of proof channel `i` in TICK `t`, none where the channel was off, and this chip's PCRC of it (R384). -/
def Dev.ownProof (d : Dev) (i t : Nat) : Option (Nat × Option Nat) :=
  match d.sys.twin.own.find? (·.1 == t) with
  | some p => p.2.getD i none
  | none => none
def Dev.ownPcrc (d : Dev) (i t : Nat) : Option Nat := (d.ownProof i t).bind (·.2)

/-- The words W0 to W23 of this tick's STATE frame (R370). -/
def Dev.stateWords (d : Dev) : List Nat :=
  let t := d.mediaTick
  let flags := bit (d.on F.TWIN_CFG_ROLE) * 2 ^ 23 + bit (d.on F.TWIN_STATUS_PERMIT) * 2 ^ 22 +
    bit (d.on F.TWIN_STATUS_FIT) * 2 ^ 21 + bit (d.on F.TWIN_STATUS_CONVERGED) * 2 ^ 20 +
    bit d.sys.twin.handover.isSome * 2 ^ 19
  [2 ^ 24 + flags + d.sys.twin.seq, t, d.rd F.LAM_VER_CUR_VERSION, d.sys.twin.handover.getD 0] ++
    ((List.range 8).map fun i => (d.ownPcrc i t).getD 0) ++
    ((List.range 4).map fun w => ((List.range 8).map fun j => d.gstate (8 * w + j) * 16 ^ j).sum) ++
    ((List.range 8).map fun g => d.bstate g * 2 ^ 26 + d.cMark g t)

/-- Send this tick's STATE frame. -/
def Dev.stateSend (d : Dev) : Dev :=
  if !d.twinMode then d
  else
    let d := d.modTwin fun t => { t with seq := (t.seq + 1) % 65536 }
    d.linkSend d.stateWords

/-- A frame with a bad CRC is discarded and counted; it breaks the run of good STATE frames (R369). -/
def Dev.linkBad (d : Dev) : Dev := (d.twinCount 5).modTwin fun t => { t with goodRun := 0 }

/-- Do the frame's gang and boost states equal the chip's own (R383)? -/
def Dev.statesEqual (d : Dev) (ws : List Nat) : Bool :=
  ((List.range 32).all fun k => stateGang ws k == d.gstate k) &&
    (List.range 8).all fun g => bitsAt (wordOf ws (16 + g)) 26 3 == d.bstate g

/-- A STATE frame, which only a lane with block lock receives (R367, R369, R370, R375, R379, R382). -/
def Dev.stateReceive (d : Dev) (ws : List Nat) : Dev :=
  if !d.twinMode then d
  else if !linkGood ws then d.linkBad
  else if ws.length ≠ 25 ∨ bitsAt (wordOf ws 0) 24 8 ≠ 1 then d
  else
    let w0 := wordOf ws 0
    let holder := bitAt w0 22
    let t := wordOf ws 1
    let d := d.wrs [(F.TWIN_VERSION_PARTNER, wordOf ws 2), (F.TWIN_STATUS_PARTNER_HOLDER, bit holder),
      (F.TWIN_STATUS_PARTNER_FIT, bit (bitAt w0 21)),
      (F.TWIN_STATUS_ROLE_CLASH, bit (bitAt w0 23 == d.on F.TWIN_CFG_ROLE))]
    let d := d.modTwin fun s =>
      { s with partner := some (ws, d.tick), holderVer := if holder then some (wordOf ws 2) else s.holderVer,
               blockLock := true, goodRun := s.goodRun + 1, frameOk := d.statesEqual ws,
               states := if holder then ((t, ws) :: s.states).take 8 else s.states }
    let d := if d.tstate = tActive ∧ holder then d.dualHold
      else if d.tstate = tInit ∧ holder then
        let d := d.wr F.TWIN_STATUS_STATE tStandby
        let d := (d.freshHb).modTwin fun s => { s with hbOut := .low }
        if d.on F.TWIN_CFG_AUTO_JOIN then d.joinStart else d
      else d
    let d := if d.isStandby ∧ holder then
        d.each (List.range 8) fun d g =>
          d.setBst g { d.bst g with corr := some (t, bitsAt (wordOf ws (16 + g)) 0 26) }
      else d
    d.fitCheck

/-- Do `n` bytes at `a` meet an image that Laminate holds (R393)? -/
def Dev.inImage (d : Dev) (a n : Nat) : Bool :=
  let m := d.sys.lam
  [m.cur, m.prev, m.staged].any fun l => match l with
    | some l => decide (a < l.addr + l.length) && decide (l.addr < a + n)
    | none => false

/-- A DATA frame: layer image or Saltern page data for a join in progress (R370, R383). It is stored in the page region
alone (R192), and never in an image range that the chip holds (R393). -/
def Chip.dataReceive (c : Chip) (ws : List Nat) : Chip :=
  let d := c.dev
  if !d.twinMode then c
  else if !linkGood ws then c.onDev fun d => d.linkBad
  else if bitsAt (wordOf ws 0) 24 8 ≠ 2 then c
  else
    let kind := bitsAt (wordOf ws 1) 31 1
    let addr := bitsAt (wordOf ws 1) 0 26
    let len := wordOf ws 2
    let js := d.rd F.TWIN_STATUS_JOIN_STATE
    if len % 4 ≠ 0 ∨ len < 4 ∨ 1024 < len ∨ ws.length ≠ 4 + len / 4 ∨ !d.isStandby ∨ js ≠ (if kind = 0 then 2 else 3) ∨
        !d.inPages addr len ∨ d.inImage addr len then c
    else
      let bytes := ((ws.drop 3).dropLast.map (beBytes 4)).flatten
      let c := { c with mem := c.mem.storeBytes addr bytes }
      if kind = 0 ∧ d.sys.twin.layerAt = none then c.onDev fun d => d.modTwin fun t => { t with layerAt := some addr }
      else c

/-- Block lock and 16 good STATE frames (R369). -/
def Dev.qlinkUp (d : Dev) : Dev :=
  if d.twinMode && !d.on F.TWIN_STATUS_QLINK_UP && d.sys.twin.blockLock && decide (16 ≤ d.sys.twin.goodRun) then
    (d.set F.TWIN_STATUS_QLINK_UP).set F.TWIN_EVENTS_QLINK_UP_EV
  else d

/-- Block lock is lost, or no good STATE frame for 4 ticks (R369, R383). -/
def Dev.qlinkDown (d : Dev) (lost : Bool) : Dev :=
  let old := match d.sys.twin.partner with | some p => decide (p.2 + 4 ≤ d.tick) | none => true
  if !d.twinMode || !(lost || old) then d
  else
    let d := d.modTwin fun t => { t with goodRun := 0, blockLock := t.blockLock && !lost }
    let d := d.when (d.on F.TWIN_STATUS_QLINK_UP) fun d =>
      ((d.clr F.TWIN_STATUS_QLINK_UP).set F.TWIN_EVENTS_QLINK_DOWN_EV).twinCount 6
    if d.rd F.TWIN_STATUS_JOIN_STATE = 0 then d.joinDrop else d.joinEnd

/-- The comparison of proof channel `i` for the previous tick, with the gang that the channel had in it (R384). -/
def Dev.proofCompare (d : Dev) (i : Nat) : Dev :=
  let t := (d.mediaTick + 2 ^ 32 - 1) % 2 ^ 32
  match d.ownProof i t with
  | none => d
  | some (k, own) =>
    if !d.isStandby then d
    else match d.sys.twin.states.find? (·.1 == t) with
    | none => d.bump (F.TWIN_PROOF_LINK_MISS_COUNT i) 1
    | some (_, ws) =>
      match own with
      | none => d
      | some own =>
        if stateGang ws k ≠ 3 then d
        else
          let d := d.bump (F.TWIN_PROOF_BLOCKS_COUNT i) 1
          if own = wordOf ws (4 + i) then d
          else
            let d := (d.bump (F.TWIN_PROOF_MISMATCH_COUNT i) 1).wr (F.TWIN_PROOF_LAST_TICK_TICK i) t
            (d.set F.TWIN_EVENTS_MISMATCH_EV).modTwin fun s => { s with bad := true }

/-- This tick's PCRCs, at the Drive Engine's fetch (R384): `words` gives the words taken for a gang, none where the
packet was substituted. -/
def Dev.pcrcNow (d : Dev) (words : Nat → Option (List Nat)) : Dev :=
  let one := fun (p : Option Nat) => match p with
    | none => none
    | some k => some (k,
      if d.gstate k ≠ gPlaying then none
      else match words k with
        | some ws => some (crc32 ((ws.map (beBytes 4)).flatten ++ [1]))
        | none => some (crc32 ((List.replicate (6 * 2 ^ (d.gang k).rate) (beBytes 4 0)).flatten ++ [0])))
  d.modTwin fun t => { t with own := ((d.mediaTick, t.proofs.map one) :: t.own).take 8 }

/-- The Drive Engine's fetch with the PCRCs of a twin (R16, R324, R384). -/
def Dev.fetchAll (d : Dev) : Dev :=
  if d.drive.fetched = d.tick + 1 then d
  else
    let d := d.gangFetch
    if !d.twinMode then d
    else d.pcrcNow fun k =>
      ((d.gang k).samples.find? (·.1 == d.tick)).map fun s =>
        s.2.map fun x => lowOf 32 (if d.invOf k then -x else x)

/-- A tick boundary for the twin logic: the proof gangs of the new tick, the run of matching ticks (R383, R384), and
HB_OUT, high-Z since a release, which a chip without permission drives low from the next boundary on (R371; DESIGN
CHOICE: notes/assumptions/209.md). -/
def Dev.twinTick (d : Dev) : Dev :=
  if !d.twinMode then d
  else
    let ps := (List.range 8).map fun i =>
      if d.on (F.TWIN_PROOF_CFG_EN i) then some (d.rd (F.TWIN_PROOF_CFG_GANG i)) else none
    (d.modTwin fun t => { t with proofs := ps, run := if t.frameOk && !t.bad then t.run + 1 else 0,
                                 frameOk := false, bad := false,
                                 hbOut := if t.hbOut == .z && !d.on F.TWIN_STATUS_PERMIT then .low else t.hbOut }).fitCheck

/-! ### The carrier (R367, R371, R376, R385) -/

/-- V_rail for a cycle under R376's hold: that of the last cycle that ended at least 2 µs, 1573 CLK_EDGE cycles, before
BATON was first seen high. -/
def Dev.railHold (d : Dev) (g edge : Nat) : Option (Nat × Nat) :=
  let t := d.sys.twin
  if edge < t.holdUntil then
    match (d.bst g).past.find? (fun p => decide (p.1 + 1573 ≤ t.holdSince)) with
    | some p => some p.2
    | none => some ((d.bst g).vNum, (d.bst g).vDen)
  else none

/-- The standby adds the difference of the holder's c to its own (R367). -/
def Dev.correct (d : Dev) (g : Nat) : Dev :=
  match (d.bst g).corr with
  | none => d
  | some (t, c) =>
    let diff : Int := (c : Int) - (d.cMark g t : Int)
    d.setBst g { d.bst g with corr := none, cmd := if d.isStandby then (((d.bst g).cmd : Int) + diff).toNat
                                                   else (d.bst g).cmd }

/-- The pins of group `g` start; with the last group GAP is recorded (R376, R388). -/
def Dev.startPins (d : Dev) (g edge : Nat) : Dev :=
  let t := d.sys.twin
  if !t.undriven.contains g then d
  else
    let left := t.undriven.filter (· != g)
    let d := d.modTwin fun t => { t with undriven := left }
    match t.since with
    | some s =>
      if left = [] then (d.wr F.TWIN_GAP_CYCLES (min (edge - s.2) (2 ^ 20 - 1))).modTwin fun t => { t with since := none }
      else d
    | none => d

/-- The holder toggles HB_OUT at each carrier cycle start of group 0 (R371). -/
def Dev.hbToggle (d : Dev) (g : Nat) : Dev :=
  if g = 0 ∧ d.on F.TWIN_STATUS_PERMIT then
    d.modTwin fun t => { t with hbOut := if t.hbOut = .high then .low else .high }
  else d

/-- Edges of the standby's proof gangs that missed their commands, by proof channel (R385). -/
def Dev.loopErrors (d : Dev) (errs : List Nat) : Dev :=
  if !d.isStandby then d
  else d.each (List.range 8) fun d i =>
    let n := errs.getD i 0
    if n = 0 ∨ !d.on (F.TWIN_PROOF_CFG_EN i) then d
    else (d.bump (F.TWIN_PROOF_LOOP_ERR_COUNT i) n).set F.TWIN_EVENTS_LOOP_ERR_EV

/-- The deadline of the standby's group-0 carrier cycle that starts at a CLK_EDGE time (R372). -/
def Dev.hbExpect (d : Dev) (g edge : Nat) : Dev :=
  if g = 0 ∧ d.isStandby then
    d.modTwin fun t => { t with due := t.due ++ [edge + d.rd F.TWIN_HB_DELAY + d.rd F.TWIN_HB_WIN] }
  else d

/-- The cycles that R376's hold may go back to: none is kept that ended after BATON was seen high, until the hold is
over. -/
def Dev.keepsRail (d : Dev) (edge : Nat) : Bool :=
  !(d.sys.twin.since.isSome && !d.on F.TWIN_STATUS_PERMIT) && decide (d.sys.twin.holdUntil ≤ edge)

/-- A carrier cycle of group `g` starts at a CLK_EDGE time, after the bits of its VSNS stream (R322, R347, R367, R371,
R376, R385, R387). -/
def Dev.carrierStart (d : Dev) (g : Nat) (bits : List Bool) (late : Bool) (edge : Nat) (errs : List Nat) : Dev :=
  let d := d.railBits g bits
  let v := d.railMean g
  let hold := d.railHold g edge
  let past := if d.keepsRail edge then ((edge, v) :: (d.bst g).past).take 16 else (d.bst g).past
  let d := (d.correct g).setBst g { (d.correct g).bst g with past := past }
  let d := d.carrierCycle g late hold
  let b := d.bst g
  let t := d.mediaTick
  let d := if b.marks.any (·.1 == t) then d else d.setBst g { b with marks := ((t, b.cmd) :: b.marks).take 8 }
  let d := if g = 0 then d.handoverRelease else d
  ((((d.startPins g edge).hbToggle g).hbExpect g edge).loopErrors errs).fitCheck

/-! ### Pins (R342, R361, R371, R463) -/

/-- Does the chip drive BATON low (R364, R373, R429, R463)? -/
def Dev.drivesBaton (d : Dev) : Bool := d.on F.TWIN_STATUS_PERMIT && !d.pinsOff

/-- Are the PH pins of group `g` driven (R342, R429, R463)? -/
def Dev.drivesPh (d : Dev) (g : Nat) : Bool :=
  d.on F.TWIN_STATUS_PERMIT && d.on (F.MOD_GRP_CFG_PIN_EN g) && !d.sys.twin.undriven.contains g && !d.pinsOff

end Sys2Proof.Machine
end

