-- ==== Sys2Proof/Machine/Registers.lean ====
section
/-! DEFINITION. Register addresses: blocks, aliases, indirect spaces, and which registers a layer sets
(R10, R301, R391, R392, R415 to R420). -/

namespace Sys2Proof.Machine

/-- The register that a direct address below 0x80_0000 reaches, aliases folded; none outside every block (R415). -/
def canonDirect (a : Nat) : Option Nat :=
  let w := a / 4 * 4
  if a < 0x100000 then some (w % 0x1000)
  else if a < 0x140000 then some (a / 0x10000 * 0x10000 + w % 0x1000)
  else if a < 0x180000 then none
  else if a < 0x200000 then some (0x180000 + w % 0x10000)
  else if a < 0x280000 then some (0x200000 + w % 0x40000)
  else if a < 0x300000 then some (0x280000 + w % 0x4000)
  else if a < 0x380000 then some (0x300000 + w % 0x10000)
  else if a < 0x3C0000 then some (0x380000 + w % 0x1000)
  else if a < 0x400000 then some (0x3C0000 + w % 0x1000)
  else none

/-- The register at an offset of an indirect space, aliases folded (R419): a space's registers lie here from
(space + 1) × 2^28, and space 5 is the view of the time event units in space 0. -/
def canonInd (space off : Nat) : Option Nat :=
  let w := off / 4 * 4
  match space with
  | 0 => some (0x10000000 + w % 0x800)
  | 1 => some (0x20000000 + w % 0x400)
  | 2 => some (0x30000000 + w % 0x4000)
  | 3 => some (0x40000000 + w % 0x1000)
  | 4 => some (0x50000000 + w % 0x800)
  | 5 => some (0x10000400 + w % 0x200)
  | _ => none

/-- The register that the address form of R301 names. -/
def canonForm (w : Nat) : Option Nat :=
  if w / 2 ^ 28 = 0 then (if w % 2 ^ 24 < 0x800000 then canonDirect (w % 2 ^ 24) else none)
  else if w / 2 ^ 28 ≤ 6 then canonInd (w / 2 ^ 28 - 1) (w % 2 ^ 16)
  else none

/-- Is the address that of an MB register (R425)? -/
def isMb (a : Nat) : Bool :=
  a == 0x10000080 || a == 0x10000088 || a == 0x10000098 || a == 0x100000A8 ||
    (decide (0x100000 ≤ a) && decide (a < 0x140000) && a % 0x10000 == 0x410)

/-- The section type whose records may name the register at `a` (R391); 0 for none. -/
def sectionOf (a : Nat) : Nat :=
  if !((regFields a).isSome || isMb a) then 0
  else if 0x100000 ≤ a ∧ a < 0x140000 then 8
  else if 0x180000 ≤ a ∧ a < 0x188000 then 7
  else if a = 0x18C004 then 7
  else if 0x200000 ≤ a ∧ a < 0x210000 ∧ a % 16 < 8 then 4
  else if a = 0x210000 then 4
  else if 0x218000 ≤ a ∧ a < 0x230000 then 5
  else if a = 0x210400 then 5
  else if a = 0x280000 then 1
  else if a = 0x280004 then 3
  else if 0x280400 ≤ a ∧ a < 0x280800 then 3
  else if 0x300000 ≤ a ∧ a < 0x310000 ∧ a % 0x1000 = 0 then 1
  else if 0x300000 ≤ a ∧ a < 0x310000 ∧ 0x100 ≤ a % 0x1000 ∧ a % 0x100 = 0 then 1
  else if a = 0x380000 ∨ a = 0x380014 ∨ a = 0x380018 ∨ a = 0x38001C ∨ a = 0x380020 then 12
  else if 0x380100 ≤ a ∧ a < 0x380200 ∧ a % 0x20 = 0 then 12
  else if 0x10000100 ≤ a ∧ a < 0x10000140 then 8
  else if a = 0x1000002C then 11
  else if 0x10000400 ≤ a ∧ a < 0x10000600 then 11
  else if 0x30000000 ≤ a ∧ a < 0x30002000 then 6
  else if 0x40000000 ≤ a ∧ a < 0x40000C00 then 9
  else if 0x50000000 ≤ a ∧ a < 0x50000400 then 10
  else 0

/-- Is a field that reads as RO set by the layer (R110, R189, R196, R239, R364, R391)? -/
def layerRo (a lo : Nat) : Bool :=
  (decide (0x100000 ≤ a) && decide (a < 0x140000) && a % 0x10000 == 0x24 && lo == 0) ||
    (decide (0x200000 ≤ a) && decide (a < 0x210000) && a % 16 == 0) || a == 0x210000 ||
    (decide (0x300000 ≤ a) && decide (a < 0x310000) && a % 0x1000 == 0) ||
    (a == 0x380000 && decide (lo < 4)) || a == 0x380018 || a == 0x38001C

/-- Does a layer's record set the field (R391, R392)? -/
def FieldD.layerSets (f : FieldD) (a : Nat) : Bool :=
  match f.ty with
  | .rw | .kw => true
  | .ro => layerRo a f.lo
  | _ => false

/-- Is the field with key `i` one that every switch sets (R392)? -/
def layerKey (i : Nat) : Bool :=
  decide (sectionOf (i / 32) ≠ 0) &&
    match regFields (i / 32) with
    | none => false
    | some fs => fs.any fun f => f.lo == i % 32 && f.layerSets (i / 32)

/-- Is a field of the register at `a` reserved as other registers stand: [31:28] of a receive flow's KEY_A1 and KEY_B1
under an RTP format (R151)? -/
def Dev.reservedNow (d : Dev) (a lo : Nat) : Bool :=
  decide (0x180000 ≤ a) && decide (a < 0x184000) && lo == 28 && (a % 0x80 == 0x08 || a % 0x80 == 0x10) &&
    match d.rd (F.RXF_CTL_FORMAT ((a - 0x180000) / 0x80)) with
    | 0 | 1 | 5 | 6 => true
    | _ => false

/-- The fields of the register at `a` that satisfy `p` take their bits of `v`. -/
def Dev.setWord (d : Dev) (a v : Nat) (p : FieldD → Bool) : Dev :=
  match regFields a with
  | none => d
  | some fs => fs.foldl (fun d f => if p f then d.wr ⟨a, f.lo, f.width⟩ (bitsAt v f.lo f.width) else d) d

/-- The bits of the register at `a` as the field file holds them, for the fields that satisfy `p`. -/
def Dev.wordOf (d : Dev) (a : Nat) (p : FieldD → Bool) : Nat :=
  match regFields a with
  | none => 0
  | some fs => (fs.map fun f => if p f then d.rd ⟨a, f.lo, f.width⟩ * 2 ^ f.lo else 0).sum

/-- The bits that a register's table does not show as reserved. -/
def definedBits (a : Nat) : Nat :=
  match regFields a with
  | none => 0
  | some fs => (fs.map fun f => (2 ^ f.width - 1) * 2 ^ f.lo).sum

/-- Small adjustments that a register makes to what it stores, for writes and records alike: MODE of MAC2 and MAC3
stays 1 (R94), low address bits read 0, a carrier's OFS is held below its DIV (R322), and a CLEAR bit is not stored. -/
def storedAs (a v : Nat) : Nat :=
  if a = 0x8 then (if v % 64 < 2 then v / 64 * 64 + 2 else v)
  else if a = 0x380020 then (if v % 65536 = 0 then v + 64 else v)
  else if a = 0x3C0014 then v / 4 * 4
  else if a = 0x120000 ∨ a = 0x130000 then v / 4 * 4 + 2 + v % 2
  else if 0x100000 ≤ a ∧ a < 0x140000 ∧ a % 0x10000 = 0x10 then
    max 1518 (min 9216 (v % 2 ^ 14))
  else if 0x100000 ≤ a ∧ a < 0x140000 ∧ 0x200 ≤ a % 0x10000 ∧ a % 0x10000 < 0x380 ∧ a % 16 = 0 then
    let align := if a % 0x10000 < 0x300 then 16 else 32
    v / align * align % 2 ^ 28 + max 4 (min 12 (v / 2 ^ 28 % 16)) * 2 ^ 28
  else if a = 0x20000110 then v / 256 * 256 + min 200 (v % 256)
  else if 0x180000 ≤ a ∧ a < 0x184000 ∧ a % 0x80 = 0x20 then v / 64 * 64
  else if 0x281000 ≤ a ∧ a < 0x281800 ∧ a % 0x40 = 4 then v / 32 * 32
  else if 0x300000 ≤ a ∧ a < 0x310000 ∧ 0x100 ≤ a % 0x1000 ∧ a % 0x100 = 0 then v / 128 * 128
  else if 0x40000000 ≤ a ∧ a < 0x40000100 ∧ a % 0x20 = 0 then
    v % 65536 + min (bitsAt v 16 12) (v % 4096 - 1) * 65536
  else if 0x40000400 ≤ a ∧ a < 0x40000C00 ∧ a % 0x40 = 0 then v - bitsAt v 1 1 * 2
  else if 0x50000000 ≤ a ∧ a < 0x50000400 ∧ a % 0x80 = 0 then v - bitsAt v 7 1 * 128
  else if 0x40000000 ≤ a ∧ a < 0x40000100 ∧ a % 0x20 = 0xC then
    (if v % 65536 = 0 then v + 1 else v) + (if v / 2 ^ 20 % 256 = 0 then 2 ^ 20 else 0)
  else if 0x50000000 ≤ a ∧ a < 0x50000400 ∧ a % 0x80 = 0x14 then (if v % 1024 = 0 then v + 1 else v)
  else if 0x50000000 ≤ a ∧ a < 0x50000400 ∧ a % 0x80 = 0x28 then (if v % 65536 = 0 then v + 1 else v)
  else v

end Sys2Proof.Machine
end

