-- ==== Sys2Proof/Machine/Layers.lean ====
section
/-! DEFINITION. Layer images: their form, the values the registers take from them, and the checks of VERIFY
(R389 to R392, R396). -/

namespace Sys2Proof.Machine

/-- One entry of the section table, with the number of its records (R389, R390). -/
structure Section where
  idx    : Nat
  ty     : Nat
  early  : Bool
  off    : Nat
  len    : Nat
  target : Nat
  recs   : Nat
  deriving DecidableEq, Repr

/-- One record: its section and index, the address as it stands, the register it reaches, and the value (R390). -/
structure Record where
  sec  : Nat
  idx  : Nat
  ty   : Nat
  reg  : Option Nat
  val  : Nat
  deriving DecidableEq, Repr

/-- A refusal of VERIFY or LOAD (R396): its code, where the fault lies as section and record index, and where the other
item of a conflict lies. -/
structure Verdict where
  code  : Nat
  at_   : Nat × Nat
  other : Option (Nat × Nat)
  deriving DecidableEq, Repr

/-- No section and no record is at fault. -/
def nowhere : Nat × Nat := (0xFF, 0xFFFF)

/-- The bytes and the length of a section's data part. -/
def Section.dataOff (s : Section) : Nat := s.off + 4 + 8 * s.recs
def Section.dataLen (s : Section) : Nat := s.len - (4 + 8 * s.recs)

/-- Do two ranges overlap? -/
def meets (a n b m : Nat) : Bool := decide (a < b + m) && decide (b < a + n) && decide (0 < n) && decide (0 < m)

/-- Section `i` of the image at `a`, as its table entry describes it. -/
def Chip.sectionAt (c : Chip) (a i : Nat) : Section :=
  let e := a + 32 + 16 * i
  let off := c.word (e + 4)
  ⟨i, c.word e % 256, bitAt (c.word e) 8, off, c.word (e + 8), c.word (e + 12) % 2 ^ 26, c.word (a + off)⟩

/-- Does a section's entry fail the format checks of R389, those of LOAD (R394)? -/
def Chip.entryBad (c : Chip) (a length : Nat) (s : Section) : Bool :=
  let e := a + 32 + 16 * s.idx
  decide (c.word e / 2 ^ 9 ≠ 0) || decide (c.word (e + 12) / 2 ^ 26 ≠ 0) || s.ty == 0 || decide (12 < s.ty) ||
    decide (s.off % 4 ≠ 0) || decide (s.len % 4 ≠ 0) || decide (s.len < 4) || decide (length < s.off + s.len) ||
    decide (s.target % 4 ≠ 0)

/-- Is a section's entry refused for FORMAT, given the sections before it (R389 to R391, R396)? -/
def Chip.sectionBad (c : Chip) (a length n : Nat) (before : List Section) (s : Section) : Bool :=
  c.entryBad a length s || decide (s.off < 32 + 16 * n) ||
    before.any (fun t => meets s.off s.len t.off t.len || (t.ty == s.ty && decide (4 ≤ s.ty))) ||
    decide (s.len < 4 + 8 * s.recs) || (s.ty == 2 && decide (0 < s.recs)) ||
    decide (16384 < (before.map (·.recs)).sum + s.recs)

/-- The sections from index `i` on, or the first that is refused. -/
def Chip.sectionsFrom (c : Chip) (a length n : Nat) : Nat → Nat → List Section → Except Nat (List Section)
  | 0, _, acc => .ok acc
  | m + 1, i, acc =>
    let s := c.sectionAt a i
    if c.sectionBad a length n acc s then .error i else Chip.sectionsFrom c a length n m (i + 1) (acc ++ [s])

/-- The layer that the header at `a` gives, with the number of its sections, if the header has the form of R389. -/
def Chip.header (c : Chip) (a : Nat) : Option (Layer × Nat) :=
  let w := fun i => c.word (a + 4 * i)
  let length := w 2
  let n := w 4 % 256
  if a % 4 ≠ 0 ∨ w 0 ≠ 0x4C414D31 ∨ length % 4 ≠ 0 ∨ length < 64 ∨ 2 ^ 24 - 4096 < length ∨ 2 ^ 26 < a + length ∨
      w 4 / 256 ≠ 0 ∨ w 5 ≠ 0 ∨ w 6 ≠ 0 ∨ w 7 ≠ 0 ∨ n = 0 ∨ length < 32 + 16 * n then none
  else some (⟨a, w 1, length, w 3⟩, n)

/-- What LOAD checks: the header and each entry of the section table by itself (R389, R394). The checks that R391 and
R396 name beside them are VERIFY's. -/
def Chip.format (c : Chip) (a : Nat) : Except (Nat × Nat) Layer :=
  match c.header a with
  | none => .error nowhere
  | some (l, n) =>
    match (List.range n).find? fun i => c.entryBad a l.length (c.sectionAt a i) with
    | some i => .error (i, 0xFFFF)
    | none => .ok l

/-- The image at `a`: the layer and its sections, or where its form fails (R389 to R391, R396). -/
def Chip.image (c : Chip) (a : Nat) : Except (Nat × Nat) (Layer × List Section) :=
  match c.header a with
  | none => .error nowhere
  | some (l, n) =>
    match c.sectionsFrom a l.length n n 0 [] with
    | .error i => .error (i, 0xFFFF)
    | .ok ss => .ok (l, ss)

/-- The CRC-32 of the image of `length` bytes at `a`, with W3 taken as zero (R389). -/
def Mem.imageCrc (m : Mem) (a length : Nat) : Nat :=
  let bs := m.loadBytes a length
  crc32 (bs.take 12 ++ [0, 0, 0, 0] ++ bs.drop 16)

/-- The records of a section, in order. -/
def Chip.recordsOf (c : Chip) (a : Nat) (s : Section) : List Record :=
  (List.range s.recs).map fun r =>
    ⟨s.idx, r, s.ty, canonForm (c.word (a + s.off + 4 + 8 * r)), c.word (a + s.off + 8 + 8 * r)⟩

/-- The records of every section, in the order in which they are applied (R392). -/
def Chip.records (c : Chip) (a : Nat) (ss : List Section) : List Record := (ss.map (c.recordsOf a)).flatten

/-- BASE_TIME of port `p` after the records: zero, or what the last record of GCL.BASE and the one after it give
(R390, R392). -/
def gclBaseOf (p : Nat) (rs : List Record) : Nat :=
  (rs.foldl (fun (s : Nat × Bool) r =>
    if r.reg = some (0x100410 + 0x10000 * p) then
      (if s.2 then (s.1 + r.val % 2 ^ 32 * 2 ^ 32, false) else (r.val, true))
    else (s.1, false)) (0, false)).1

/-- Every register that a layer sets at its reset value, overlaid with the records (R392); `stored` has the registers
adjust what they store. -/
def Dev.overlay (d : Dev) (rs : List Record) (stored : Bool) : Dev :=
  let d := { d with regs := d.regs.filter fun p => !layerKey p.1 }
  rs.foldl (fun d r => match r.reg with
    | none => d
    | some a => if isMb a then d
                else d.setWord a (if stored then storedAs a r.val else r.val) fun f => f.layerSets a) d

/-- Where the last record that names register `a` stands. -/
def origin (rs : List Record) (a : Nat) : Nat × Nat :=
  match rs.reverse.find? (fun r => r.reg == some a) with
  | some r => (r.sec, r.idx)
  | none => nowhere

/-- The memory with the data parts of sections, as `src` has them, at their targets (R390). -/
def Mem.copyPart (m src : Mem) (a : Nat) (ss : List Section) : Mem :=
  ss.foldl (fun n s => n.storeBytes s.target (src.loadBytes (a + s.dataOff) s.dataLen)) m

/-- The memory with the data parts of the sections that `f` picks at their targets (R390, R398). -/
def Mem.copyData (m : Mem) (a : Nat) (ss : List Section) (f : Section → Bool) : Mem := m.copyPart m a (ss.filter f)

/-- The image ranges that Laminate holds (R393). -/
def Dev.heldImages (d : Dev) : List Layer :=
  let m := d.sys.lam
  [m.cur, m.prev, m.staged].filterMap id

/-- The memory after the EARLY copies (R398), which write no image range that Laminate holds (R393): of a target in the
previous image, which R396 does not claim, those bytes stay (DEDUCED: notes/assumptions/225.md). -/
def Chip.copyEarly (c : Chip) (a : Nat) (ss : List Section) : Mem :=
  let hit := c.dev.heldImages.filter fun l => ss.any fun s => s.early && meets s.target s.dataLen l.addr l.length
  hit.foldl (fun m l => m.storeBytes l.addr (c.mem.loadBytes l.addr l.length)) (c.mem.copyData a ss fun s => s.early)

/-- The first refusal of a list of judgements. -/
def firstBad : List (Option Verdict) → Option Verdict
  | [] => none
  | some v :: _ => some v
  | none :: r => firstBad r

/-- A refusal if `b` holds. -/
def refuse (b : Bool) (code : Nat) (w : Nat × Nat) : Option Verdict := if b then some ⟨code, w, none⟩ else none

/-! ### The checks, in the order of R396's table -/

/-- RECORD, `d` being the registers that the layer gives: a register that its section may not name, or a 1 in a
reserved bit. -/
def Dev.recordBad (d : Dev) (r : Record) : Bool :=
  match r.reg with
  | none => true
  | some a => sectionOf a != r.ty || (!isMb a && decide (Nat.land r.val (2 ^ 32 - 1 - definedBits a) ≠ 0)) ||
      (d.reservedNow a 28 && decide (r.val / 2 ^ 28 ≠ 0))

/-- Does one data part cover the bytes from `x` (R396)? -/
def covered (ss : List Section) (x n : Nat) : Bool :=
  decide (n = 0) || ss.any fun s => decide (s.target ≤ x) && decide (x + n ≤ s.target + s.dataLen)

/-- The contexts that the layer enables, with their tasks as the image's data parts describe them. -/
def Chip.layerTasks (c : Chip) : List (Nat × DescCopy) :=
  ((List.range 64).filter c.dev.ctxEnabled).map fun x => (x, c.readDesc x)

/-- The address of a context's descriptor, and its lists' addresses and sizes. -/
def Chip.descAt (c : Chip) (x : Nat) : Nat := c.dev.rd (F.X_DESC_ADDR (x / 4) (x % 4)) / 128 * 128
def Chip.listsAt (c : Chip) (x : Nat) : List (Nat × Nat) :=
  let a := c.descAt x
  if bitAt (c.word a) 5 then []
  else [(c.word (a + 12) % 2 ^ 26, 4 * bitsAt (c.word (a + 16)) 0 9),
        (c.word (a + 20) % 2 ^ 26, 4 * bitsAt (c.word (a + 16)) 16 9)].filter fun l => decide (l.2 ≠ 0)

/-- The receive flows, transmit flows and ports that the layer enables. -/
def Dev.layerRx (d : Dev) : List Nat := (List.range 128).filter fun f => d.on (F.RXF_CTL_EN f)
def Dev.layerTx (d : Dev) : List Nat := (List.range 128).filter fun f => d.on (F.TXF_CTL_EN f)
def Dev.layerPorts (d : Dev) : List Nat := (List.range 32).filter fun n => d.on (F.PORT_CTL_EN n)

/-- RANGE: a value that its own rule refuses, a code that a table marks reserved or refused, a descriptor or list that
no data part covers. -/
def Chip.rangeBad (c : Chip) (rs : List Record) (ss : List Section) : Option Verdict :=
  let d := c.dev
  let at_ := fun f : Fld => origin rs (f.id / 32)
  let cells := d.rd F.QM_REGION_CELLS
  let all := fun (n : Nat) (f : Nat → Option Verdict) => firstBad ((List.range n).map f)
  firstBad
    [ refuse (decide (cells < 4096) || decide (65536 < cells) || decide (cells % 16 ≠ 0)) 5 (at_ F.QM_REGION_CELLS),
      all 4 fun p => refuse (decide (d.rd (F.MAC_MAX_LEN_LEN p) < 1518) || decide (9216 < d.rd (F.MAC_MAX_LEN_LEN p))) 5
        (at_ (F.MAC_MAX_LEN_LEN p)),
      all 128 fun f => refuse (decide (d.rd (F.RXF_CTL_FORMAT f) = 7) || decide (d.rd (F.RXF_CTL_RATE f) = 3) ||
        decide (5 < d.rd (F.RXF_CTL_RING_TICKS f)) || (d.on (F.RXF_CTL_EN f) && d.rxBad f)) 5 (at_ (F.RXF_CTL_EN f)),
      all 128 fun f => refuse (decide (d.rd (F.TXF_CTL_FORMAT f) = 7) || decide (d.rd (F.TXF_CTL_RATE f) = 3) ||
        decide (d.rd (F.TXF_CTL_PTIME f) = 3) || (d.on (F.TXF_CTL_EN f) && d.txBad f)) 5 (at_ (F.TXF_CTL_EN f)),
      all 32 fun n => refuse (decide (5 < d.rd (F.PORT_CTL_MODE n)) || decide (d.rd (F.PORT_CTL_RATE n) = 3) ||
        (d.on (F.PORT_CTL_EN n) && d.portCode n (d.sapCfg n))) 5 (at_ (F.PORT_CTL_EN n)),
      all 32 fun n => refuse (decide (d.rd (F.PORT_CTL_MODE n) = 2) && decide (d.rd (F.PORT_FMT_SLOTS n) = 0)) 5
        (at_ (F.PORT_FMT_SLOTS n)),
      all 32 fun n => refuse (decide (d.rd (F.PORT_FMT_WIDTH n) = 3) || decide (5 < d.rd (F.PORT_FMT_BCK_DIV n))) 5
        (at_ (F.PORT_FMT_WIDTH n)),
      firstBad (c.layerTasks.map fun t =>
        refuse (t.2 == .refused || !covered ss (c.descAt t.1) 128 ||
          (c.listsAt t.1).any (fun l => !covered ss l.1 l.2)) 5 (at_ (F.X_DESC_ADDR (t.1 / 4) (t.1 % 4)))),
      all 8 fun g => refuse (decide (d.rd (F.MOD_GRP_CARRIER_DIV g) < 1573) ||
        decide (2621 < d.rd (F.MOD_GRP_CARRIER_DIV g))) 5 (at_ (F.MOD_GRP_CARRIER_DIV g)),
      all 8 fun g => refuse (decide (4 < d.rd (F.MOD_GRP_CFG_LAYOUT g)) || decide (96 < d.rd (F.MOD_GRP_CFG_LA g))) 5
        (at_ (F.MOD_GRP_CFG_LAYOUT g)),
      all 32 fun k => refuse (decide (d.rd (F.MOD_GANG_CFG_RATE k) = 3)) 5 (at_ (F.MOD_GANG_CFG_RATE k)),
      all 8 fun g => refuse (decide (d.rd (F.BST_CTL_MODE g) = 3) || (d.on (F.BST_CTL_EN g) && !d.bstOk g)) 5
        (at_ (F.BST_CTL_EN g)),
      refuse (decide (d.rd F.TIME_WCLK_OUT_RATE = 3)) 5 (at_ F.TIME_WCLK_OUT_RATE) ]

/-- CREDIT (R110, R197). -/
def Dev.creditBad (d : Dev) (rs : List Record) : Option Verdict :=
  let on := (List.range 4096).filter fun q => d.on (F.Q_CFG_EN q)
  let sum := (on.map fun q => d.rd (F.Q_CFG_GRANT q)).sum + ([0, 1, 2, 3].map fun p => d.rd (F.MAC_POOL_CELLS p)).sum
  firstBad [firstBad (on.map fun q => refuse (decide (d.rd (F.Q_CFG_GRANT q) < 2)) 6 (origin rs ((F.Q_CFG_EN q).id / 32))),
    refuse (decide (d.rd F.QM_REGION_CELLS < sum)) 6 nowhere]

/-- A conflict of the first two items of a list that satisfy `clash`, the later one named first. -/
def clashOf (code : Nat) {α : Type} (clash : α → α → Bool) (w : α → Nat × Nat) : List α → Option Verdict
  | [] => none
  | x :: r => match r.find? (clash x) with
    | some y => some ⟨code, w y, some (w x)⟩
    | none => clashOf code clash w r

/-- PIN (R86): the functions that name a TE_OUT pin, WCLK_OUT as unit 16. -/
def Dev.pinBad (d : Dev) (rs : List Record) : Option Verdict :=
  let us := ((List.range 16).filter fun u => d.on (F.TEU_CTL_PIN_ACT u)).map fun u => (u, d.rd (F.TEU_CTL_PIN u))
  let us := if d.on F.TIME_WCLK_OUT_EN then us ++ [(16, 7)] else us
  clashOf 7 (fun a b => a.2 == b.2)
    (fun a => origin rs (if a.1 = 16 then F.TIME_WCLK_OUT_EN.id / 32 else (F.TEU_CTL_PIN a.1).id / 32)) us

/-- TEU (R88). -/
def Dev.teuBad (d : Dev) (rs : List Record) : Option Verdict :=
  let us := ((List.range 16).filter fun u => d.on (F.TEU_CTL_LAUNCH_ACT u)).map fun u =>
    (u, d.rd (F.TEU_TARGET_PORT u), d.rd (F.TEU_TARGET_CLASS u))
  let w := fun (a : Nat × Nat × Nat) => origin rs ((F.TEU_TARGET_CLASS a.1).id / 32)
  firstBad [firstBad (us.map fun a => refuse (decide (a.2.2 = 6)) 8 (w a)), clashOf 8 (fun a b => a.2 == b.2) w us]

/-- A claimed range: where it comes from, its address, its size, and whether data targets must keep off it (R396). -/
structure Claim where
  at_  : Nat × Nat
  base : Nat
  size : Nat
  hard : Bool
  deriving DecidableEq, Repr

/-- Every claimed range of the layer. -/
def Chip.claims (c : Chip) (rs : List Record) (ss : List Section) (img : Layer) (cur : Option Layer) : List Claim :=
  let d := c.dev
  let at_ := fun f : Fld => origin rs (f.id / 32)
  let macs := ([0, 1, 2, 3] : List Nat).filter fun p => d.on (F.MAC_CTL_EN p)
  (d.layerRx.map fun f => ⟨at_ (F.RXF_RING_BASE_BASE f), (d.rxCfg f).ring, 4 * (d.rxCfg f).len * (d.rxCfg f).ch, true⟩) ++
    (macs.map fun p => (([0, 1] : List Nat).filter fun r => decide (d.rd (F.MAC_RXR_CFG_BASE p r) ≠ 0)).map fun r =>
      (⟨at_ (F.MAC_RXR_CFG_BASE p r), d.rd (F.MAC_RXR_CFG_BASE p r), 16 * 2 ^ d.rd (F.MAC_RXR_CFG_SIZE p r), true⟩ : Claim)).flatten ++
    (macs.map fun p => (([0, 1, 2, 3, 4, 5, 7] : List Nat).filter fun k => decide (d.rd (F.MAC_TXR_CFG_BASE p k) ≠ 0)).map fun k =>
      (⟨at_ (F.MAC_TXR_CFG_BASE p k), d.rd (F.MAC_TXR_CFG_BASE p k), 32 * 2 ^ d.rd (F.MAC_TXR_CFG_SIZE p k), true⟩ : Claim)).flatten ++
    (d.layerTx.map fun f =>
      let t := d.txCfg f
      (⟨at_ (F.TXF_HDR_A_ADDR f), t.hdrA.1, t.hdrA.2, false⟩ : Claim) ::
        (if t.dual then [⟨at_ (F.TXF_HDR_B_ADDR f), t.hdrB.1, t.hdrB.2, false⟩] else [])).flatten ++
    (c.layerTasks.map fun t =>
      let w := at_ (F.X_DESC_ADDR (t.1 / 4) (t.1 % 4))
      (⟨w, c.descAt t.1, 128, false⟩ : Claim) :: ((c.listsAt t.1).map fun l => ⟨w, l.1, l.2, false⟩)).flatten ++
    ((ss.filter fun s => s.ty == 3).map fun s => ⟨(s.idx, 0xFFFF), s.target, s.dataLen, true⟩) ++
    (match cur with | some l => [⟨nowhere, l.addr, l.length, true⟩] | none => []) ++
    [⟨nowhere, img.addr, img.length, true⟩]

/-- BUFFER. -/
def Chip.bufferBad (c : Chip) (rs : List Record) (ss : List Section) (img : Layer) (cur : Option Layer) : Option Verdict :=
  let cl := c.claims rs ss img cur
  let data := ss.filter fun s => decide (0 < s.dataLen)
  let soft := data.filter fun s => s.ty != 3
  firstBad
    [ firstBad (cl.map fun k => refuse (decide (0 < k.size) && !c.dev.inPages k.base k.size) 9 k.at_),
      clashOf 9 (fun a b => meets a.base a.size b.base b.size) Claim.at_ cl,
      firstBad (data.map fun s => refuse (!c.dev.inPages s.target s.dataLen) 9 (s.idx, 0xFFFF)),
      firstBad (soft.map fun s =>
        (cl.find? fun k => k.hard && meets k.base k.size s.target s.dataLen).map fun k =>
          ⟨9, (s.idx, 0xFFFF), some k.at_⟩),
      refuse (decide (512 * 1024 < ((data.filter fun s => !s.early).map (·.dataLen)).sum)) 9 nowhere ]

/-- A user of a queue in the layer (R396): the queue, whether it produces, its clock, who it is, where it is set. -/
structure Binding where
  queue : Nat
  prod  : Bool
  dom   : Nat
  who   : Nat
  at_   : Nat × Nat
  deriving DecidableEq, Repr

/-- Is endpoint `e` live under the layer's registers (R473), and does it produce? -/
def Dev.layerLive (d : Dev) (e : Nat) : Bool :=
  if e < 0x2000 then d.on (F.RXF_CTL_EN (e / 64)) && decide (e % 64 < d.rd (F.RXF_CTL_CHANNELS (e / 64)))
  else if e < 0x2040 then d.on (F.PORT_CTL_EN ((e - 0x2000) / 2))
  else if e < 0x20A0 then decide (0 < d.gangSize (e - 0x2080))
  else d.on (F.TXF_CTL_EN ((e - 0x4000) / 64)) && decide (e % 64 < d.rd (F.TXF_CTL_CHANNELS ((e - 0x4000) / 64)))
def Dev.layerSource (d : Dev) (e : Nat) : Bool :=
  if e < 0x2000 then true
  else if e < 0x2040 then
    let p := d.sapCfg ((e - 0x2000) / 2)
    !(if e % 2 = 0 then p.aOut else p.bOut)
  else false

/-- The endpoint codes that the layer's records bind. -/
def routeCodes (rs : List Record) : List Nat :=
  (rs.filterMap fun r => match r.reg with
    | some a => if 0x218000 ≤ a ∧ a < 0x230000 then some ((a - 0x218000) / 4) else none
    | none => none).dedup

/-- Every user of a queue. -/
def Chip.bindings (c : Chip) (rs : List Record) : List Binding :=
  let d := c.dev
  let routes := ((routeCodes rs).filter fun e => d.layerLive e && !d.on (F.ROUTE_E_OFF e)).map fun e =>
    (⟨d.rd (F.ROUTE_E_Q e), d.layerSource e, epDomain e, e, origin rs ((F.ROUTE_E_Q e).id / 32)⟩ : Binding)
  let tasks := (c.layerTasks.map fun t =>
    let w := origin rs ((F.X_DESC_ADDR (t.1 / 4) (t.1 % 4)).id / 32)
    match t.2 with
    | .good k => if k.free then [] else
        (k.ins.map fun l => (⟨l.queue, false, 1, 0x10000 + t.1, w⟩ : Binding)) ++
          (k.outs.map fun l => ⟨l.queue, true, 1, 0x10000 + t.1, w⟩)
    | _ => []).flatten
  let fq := if d.on F.MMU_FAULTQ_EN then
    [(⟨d.rd F.MMU_FAULTQ_Q, true, 1, 0x20000, origin rs (F.MMU_FAULTQ_Q.id / 32)⟩ : Binding)] else []
  routes ++ tasks ++ fq

/-- QUEUE. -/
def Chip.queueBad (c : Chip) (rs : List Record) : Option Verdict :=
  let d := c.dev
  let bs := c.bindings rs
  let keys := d.layerRx.map fun f => (f, d.rxCfg f)
  firstBad
    [ clashOf 10 (fun a b => a.queue == b.queue && a.prod == b.prod && a.who != b.who) Binding.at_ bs,
      firstBad (bs.map fun b => refuse (!d.on (F.Q_CFG_EN b.queue)) 10 b.at_),
      firstBad (bs.map fun b => refuse
        (decide ((if b.prod then d.rd (F.Q_CFG_PROD_DOM b.queue) else d.rd (F.Q_CFG_CONS_DOM b.queue)) ≠ b.dom)) 10 b.at_),
      clashOf 10 (fun a b => a.2.sameKey b.2) (fun a => origin rs ((F.RXF_KEY_A0_ADDR a.1).id / 32)) keys ]

/-- CAPACITY (R131, R168). -/
def Dev.capacityBad (d : Dev) : Option Verdict :=
  let rx := rxLoad (d.layerRx.map fun f => (f, d.rxCfg f))
  let tx := txLoad (d.layerTx.map fun f => (f, d.txCfg f))
  let pl : Nat × Nat × Nat × Nat := (d.layerPorts.map fun n => (d.sapCfg n).load).foldl
    (fun s x => (s.1 + x.1, s.2.1 + x.2.1, s.2.2.1 + x.2.2.1, s.2.2.2 + x.2.2.2)) (0, 0, 0, 0)
  refuse (decide (1024 < rx.1) || decide (2048 < rx.2) || decide (1024 < tx.1) || decide (2048 < tx.2) ||
    decide (512 < pl.1) || decide (512 < pl.2.1) || decide (1024 < pl.2.2.1) || decide (1024 < pl.2.2.2)) 11 nowhere

/-- STEWARD (R239). -/
def Dev.stewardBad (d : Dev) (rs : List Record) : Option Verdict :=
  let x := 4 * d.rd F.MMU_STEWARD_CORE + d.rd F.MMU_STEWARD_CTX
  refuse (!(d.ctxEnabled x && d.ctxPriv x)) 12 (origin rs (F.MMU_STEWARD_CORE.id / 32))

/-- GROUP (R140). -/
def Dev.groupBad (d : Dev) (rs : List Record) : Option Verdict :=
  clashOf 13 (fun (a b : Nat × RxCfg) => a.2.group == b.2.group &&
      decide (a.2.link * 2048 / a.2.k ≠ b.2.link * 2048 / b.2.k))
    (fun a => origin rs ((F.RXF_LINK_OFFSET_SAMPLES a.1).id / 32)) (d.layerRx.map fun f => (f, d.rxCfg f))

/-- The twin page ranges of the layer (R383, R391). -/
def Chip.twinPages (c : Chip) (a : Nat) (ss : List Section) : List (Nat × Nat) :=
  match ss.find? fun s => s.ty == 12 with
  | none => []
  | some s => (List.range (s.dataLen / 8)).map fun i =>
      (c.word (a + s.dataOff + 8 * i), c.word (a + s.dataOff + 8 * i + 4))

/-- TWIN. -/
def Chip.twinBad (c : Chip) (a : Nat) (ss : List Section) : Option Verdict :=
  let w := match ss.find? fun s => s.ty == 12 with | some s => (s.idx, 0xFFFF) | none => nowhere
  let ps := c.twinPages a ss
  refuse (decide (64 < ps.length) || ps.any fun p => decide (p.2 % 4096 ≠ 0) || !c.dev.inPages p.1 p.2) 14 w

/-- VERIFY of the image at `a` (R396): the layer with its sections, or the first refusal. RECORD and RANGE judge the
values that the records ask for; the checks after them judge the registers as the switch stores them. The data stand
as the switch leaves them: the EARLY parts first, the others over them (R398, R399). -/
def Chip.verify (c : Chip) (a : Nat) : Except Verdict (Layer × List Section) :=
  match c.image a with
  | .error w => .error ⟨1, w, none⟩
  | .ok (img, ss) =>
    let rs := c.records a ss
    let asked : Chip := ⟨c.dev.overlay rs false, (c.copyEarly a ss).copyPart c.mem a (ss.filter fun s => !s.early)⟩
    let post : Chip := { asked with dev := c.dev.overlay rs true }
    let cur := c.dev.sys.lam.cur
    let bad := firstBad
      [ refuse (decide (c.mem.imageCrc a img.length ≠ img.crc)) 2 nowhere,
        refuse (decide (img.version = 0) || cur.any (·.version == img.version)) 3 nowhere,
        (rs.find? asked.dev.recordBad).map fun r => ⟨4, (r.sec, r.idx), none⟩,
        asked.rangeBad rs ss, post.dev.creditBad rs, post.dev.pinBad rs, post.dev.teuBad rs,
        post.bufferBad rs ss img cur, post.queueBad rs, post.dev.capacityBad, post.dev.stewardBad rs,
        post.dev.groupBad rs, { c with dev := post.dev }.twinBad a ss ]
    match bad with
    | some v => .error v
    | none => .ok (img, ss)

end Sys2Proof.Machine
end

