-- ==== Sys2Proof/Machine/Laminate.lean ====
section
/-! DEFINITION. Laminate: the commit state machine, the switch and its drain, rollback, and the boot flash slots
(R341, R356, R392 to R405, R437 to R440). -/

namespace Sys2Proof.Machine

/-- A counter: 0 COMMITS, 1 ROLLBACKS, 2 AUTO_ROLLBACKS, 3 VERIFY_FAILS (R405). -/
def Dev.lamCount (d : Dev) (k : Nat) : Dev := d.bump (F.LAM_CNT_COUNT k) 1

/-- A command that the state does not list (R394). -/
def Dev.lamDenied (d : Dev) : Dev := d.set F.LAM_EVENTS_CMD_DENIED

/-- RESULT and RESULT_OTHER of a refusal (R396). -/
def Dev.lamResult (d : Dev) (v : Verdict) : Dev :=
  let o := match v.other with
    | some w => (v.code, w)
    | none => (0, if v.code = 0 then (0, 0) else nowhere)
  d.wrs [(F.LAM_RESULT_CODE, v.code), (F.LAM_RESULT_SECTION, v.at_.1), (F.LAM_RESULT_RECORD, v.at_.2),
    (F.LAM_RESULT_OTHER_CODE, o.1), (F.LAM_RESULT_OTHER_SECTION, o.2.1), (F.LAM_RESULT_OTHER_RECORD, o.2.2)]

/-- A refused LOAD or VERIFY (R394). -/
def Dev.lamFail (d : Dev) (v : Verdict) : Dev := ((d.lamResult v).set F.LAM_EVENTS_VERIFY_FAIL).lamCount 3

/-- LOAD (R389, R394). -/
def Chip.lamLoad (c : Chip) : Chip :=
  let s := c.dev.lstate
  if s ≠ lNone ∧ s ≠ lSteady then c.onDev fun d => d.lamDenied
  else match c.format (c.dev.rd F.LAM_STAGE_ADDR_ADDR) with
    | .error w => c.onDev fun d => d.lamFail ⟨1, w, none⟩
    | .ok l => c.onDev fun d =>
        ((d.modLam fun m => { m with staged := some l, prior := s }).wr F.LAM_VER_STAGED_VERSION l.version).lamTo lLoaded

/-- VERIFY begins (R394, R395). -/
def Dev.lamVerify (d : Dev) : Dev :=
  if d.lstate = lLoaded ∧ !d.on F.LAM_STATUS_BUSY then d.set F.LAM_STATUS_BUSY else d.lamDenied

/-- The staged image is dropped, with what the boot ROM or a warm join meant to do with it, and Laminate returns to the
state before LOAD (R394). -/
def Dev.lamDrop (d : Dev) : Dev :=
  let s := d.sys.lam.prior
  let d := d.modLam fun m => { m with staged := none, arm := none, auto := false, boot := none }
  ((d.clr F.LAM_VER_STAGED_VERSION).clr F.LAM_STATUS_BUSY).lamTo s

/-- DISARM (R394, R398): the table does not list it for LOADED with BUSY, which lasts until VERIFY ends (R395). -/
def Dev.lamDisarm (d : Dev) : Dev :=
  let s := d.lstate
  if (s = lLoaded ∧ !d.on F.LAM_STATUS_BUSY) ∨ s = lVerified ∨ s = lArmed then d.lamDrop else d.lamDenied

/-- Has the tick `at_` of a timed switch passed (R397)? -/
def Dev.tickPassed (d : Dev) (at_ : Nat) : Bool :=
  let x := (at_ + 2 ^ 32 - d.mediaTick) % 2 ^ 32
  decide (x = 0) || decide (2 ^ 31 ≤ x)

/-- The first boundary at or after the present instant (R397, R402). -/
def Dev.nextBoundary (d : Dev) : Nat := if d.media16 = d.time.tickAt then d.tick else d.tick + 1

/-- ARM (R397, R398): TIMED and SWITCH_AT are captured; a boundary that has passed, or that comes within the tick
while EARLY data is still to be copied, makes the switch untimed. -/
def Chip.lamArm (c : Chip) : Chip :=
  let d := c.dev
  if d.lstate ≠ lVerified then c.onDev fun d => d.lamDenied
  else
    let early := match d.sys.lam.staged with
      | some l => match c.image l.addr with
        | .ok (_, ss) => ss.any fun s => s.early && decide (0 < s.dataLen)
        | .error _ => false
      | none => false
    let at_ := d.rd F.LAM_SWITCH_AT_TICK
    let timed := d.on F.LAM_CTL_TIMED
    let soon := decide ((at_ + 2 ^ 32 - d.mediaTick) % 2 ^ 32 = 1)
    let late := timed && (d.tickPassed at_ || (early && soon))
    let a : Arming := { timed := if timed && !late then some at_ else none, asked := d.nextBoundary,
                        early := if early then none else some d.tick }
    c.onDev fun d =>
      ((d.modLam fun m => { m with switch := .staged, arm := some a }).when late
        (fun e => e.set F.LAM_EVENTS_LATE_EV)).lamTo lArmed

/-- The EARLY copies end (R398). -/
def Chip.earlyDone (c : Chip) : Chip :=
  match c.dev.sys.lam.arm, c.dev.sys.lam.staged with
  | some a, some l =>
    if c.dev.lstate ≠ lArmed ∨ a.early.isSome then c
    else match c.image l.addr with
      | .error _ => c
      | .ok (_, ss) =>
        ⟨c.dev.modLam fun m => { m with arm := some { a with early := some c.dev.tick } },
          c.copyEarly l.addr ss⟩
  | _, _ => c

/-- A boundary for a timed switch that waits: one that has passed, or whose copies are late, becomes untimed (R397). -/
def Dev.armTick (d : Dev) : Dev :=
  match d.sys.lam.arm with
  | some a => match a.timed with
    | some at_ =>
      let next := decide ((at_ + 2 ^ 32 - d.mediaTick) % 2 ^ 32 = 1)
      let past := decide ((at_ + 2 ^ 32 - d.mediaTick) % 2 ^ 32 ≥ 2 ^ 31)
      if d.lstate = lArmed ∧ ((next ∧ a.early.isNone) ∨ past) then
        (d.modLam fun m => { m with arm := some { a with timed := none } }).set F.LAM_EVENTS_LATE_EV
      else d
    | none => d
  | none => d

/-! ### The record step (R392) -/

/-- The words that a layer's registers give group `g` (R341). -/
def groupWords (post : Dev) (g : Nat) : List (Nat × Nat) :=
  ([0x00, 0x04, 0x08, 0x0C, 0x18] : List Nat).map fun o =>
    let a := 0x40000000 + 0x20 * g + o
    (a, post.wordOf a fun f => f.layerSets a)

/-- Does gang `k` keep switching across the switch to `post` (R341)? -/
def Dev.keepsGang (d post : Dev) (k : Nat) : Bool :=
  let g := k / 4
  let same := fun f : Fld => d.rd f == post.rd f
  same (F.MOD_GRP_CFG_LAYOUT g) && same (F.MOD_GRP_CARRIER_DIV g) && same (F.MOD_GRP_CARRIER_OFS g) &&
    same (F.MOD_GRP_CFG_DT g) && same (F.MOD_GRP_CFG_LA g) && post.on (F.MOD_GANG_CTL_RUN k)

/-- The switching gangs that a switch to `post` does not keep stop with the drain's start as R335's boundary (R341). -/
def Dev.switchGangs (d post : Dev) (b : Nat) : Dev :=
  d.each (d.allGangs.filter fun k => d.switching k && !d.keepsGang post k) fun d k =>
    (d.setGang k { d.gang k with stopAt := some b, stopLa := some (d.rd (F.MOD_GRP_CFG_LA (k / 4))) }).wr
      (F.MOD_GANG_STATUS_STATE k) gStopping

/-- Does a gang of group `g` still play out the stop that a switch began (R341)? -/
def Dev.playsOut (d : Dev) (g : Nat) : Bool := (d.members g).any fun k => (d.gang k).stopLa.isSome

/-- The gangs of group `g` at the record step (R341): `d` has the old registers, `post` the new. Where a gang plays
out past the drain's end, the old CARRIER and CFG stand, and the group's records wait for its last gates-off point
(R323, R392). -/
def Dev.switchGroup (d post : Dev) (g : Nat) : Dev :=
  let words := groupWords post g
  let same := d.rd (F.MOD_GRP_CARRIER_DIV g) == post.rd (F.MOD_GRP_CARRIER_DIV g) &&
    d.rd (F.MOD_GRP_CARRIER_OFS g) == post.rd (F.MOD_GRP_CARRIER_OFS g)
  let d := d.setGroup g { d.group g with waiting := words, same := same }
  let d := d.each [4 * g, 4 * g + 1, 4 * g + 2, 4 * g + 3] fun d k =>
    let run := post.on (F.MOD_GANG_CTL_RUN k)
    let s := d.gstate k
    let d := d.setGang k { d.gang k with invNow := post.on (F.MOD_GANG_CTL_INV k), invFrom := 0 }
    if !run && (s == gArmed || s == gHeld || s == gFaultHold) then d.toState k gOff
    else d
  if d.playsOut g then d else d.groupTake g

/-- The fields among those that every switch sets which `pick` names take the values of `post` (R392). -/
def Dev.takeRegs (d post : Dev) (pick : Nat → Bool) : Dev :=
  (post.regs.filter fun p => layerKey p.1 && pick p.1).foldl
    (fun d p => { d with regs := Sparse.set fieldReset d.regs p.1 p.2 })
    { d with regs := d.regs.filter fun p => !(layerKey p.1 && pick p.1) }

/-- Is the field with key `i` one of the TEU section (R90, R391)? -/
def teuKey (i : Nat) : Bool := sectionOf (i / 32) == 11

/-- Is it one of a group whose records wait for a gates-off point (R341)? -/
def Dev.waitsKey (d : Dev) (i : Nat) : Bool :=
  (List.range 8).any fun g =>
    decide ((d.group g).waiting ≠ []) && decide ((0x40000000 + 0x20 * g) * 32 ≤ i) &&
      decide (i < (0x40000000 + 0x20 * g + 0x20) * 32)

/-- The settings of the new layer's TEU section, at the switch boundary (R90, R399). -/
def Dev.teuTake (d post : Dev) : Dev :=
  let d := d.takeRegs post teuKey
  (d.each (List.range 16) fun d u =>
    if d.on (F.TEU_CTL_EN u) then (d.clr (F.TEU_CTL_EN u)).teuEnable u else d).launchDenials

/-- The rings of port `p` at the record step: they are empty, HEAD at TAIL; the rebuild gives their cells back (R206). -/
def Dev.emptyRings (d : Dev) (p : Nat) : Dev :=
  let d := d.modMac p fun m => { m with rx := [], heads := [] }
  let d := d.each [0, 1] fun d r => d.wr (F.MAC_RXR_PTR_HEAD p r) (d.rd (F.MAC_RXR_PTR_TAIL p r))
  d.each (List.range 8) fun d k => d.wr (F.MAC_TXR_PTR_HEAD p k) (d.rd (F.MAC_TXR_PTR_TAIL p k))

/-- The flows and the ports stop (R187, R399). -/
def Dev.flowsOff (d : Dev) : Dev :=
  let d := d.each (List.range 128) fun d f => if (d.rxf f).cfg.isSome then d.rxDisable f else d
  let d := d.each (List.range 128) fun d f => if (d.txf f).cfg.isSome then d.txDisable f else d
  d.each (List.range 32) fun d n => d.portDisable n

/-- The flows and the ports stop for a switch. Their EN fields, which the record step sets, stay as they are (R392). -/
def Dev.flowsHalt (d : Dev) : Dev :=
  let e := d
  let d := d.flowsOff
  let d := d.each (List.range 128) fun d f =>
    d.wrs [(F.RXF_CTL_EN f, e.rd (F.RXF_CTL_EN f)), (F.TXF_CTL_EN f, e.rd (F.TXF_CTL_EN f))]
  d.each (List.range 32) fun d n => d.wr (F.PORT_CTL_EN n) (e.rd (F.PORT_CTL_EN n))

/-- The units stop at the boundary of a switch (R187, R200, R234, R399); the frames that wait for the flow engine are
dropped and counted. -/
def Chip.switchStop (c : Chip) : Chip :=
  let c := (List.range 32).foldl (fun c ch => c.dmaAbort ch) c
  let c := c.onDev fun d => d.each allCtx fun d x => (d.taskStop x).drainBlock x
  let c := ([0, 1, 2, 3] : List Nat).foldl (fun c p => c.flushTx p) c
  c.onDev fun d =>
    let d := d.driveDrain.flowsHalt
    let d := d.net.ingress.foldl (fun d x => d.macCount x.port 9) d
    let d := d.each (List.range 16) fun d u => d.teuDisable u
    { d with net := { d.net with draining := true, ingress := [] }, envs := [] }

/-- The new layer's units are enabled for the boundary B + 2 of the switch at boundary `b` (R305, R399). -/
def Chip.switchStart (c : Chip) (old : Dev) (b : Nat) : Chip :=
  let d := c.dev
  let d := d.each [0, 1, 2, 3] fun d p =>
    let d := if d.on (F.MAC_CTL_EN p) && !old.on (F.MAC_CTL_EN p) then (d.clr (F.MAC_CTL_EN p)).macEnable p else d
    let en := d.on (F.MAC_GCL_CTL_EN p)
    if en && !old.on (F.MAC_GCL_CTL_EN p) then (d.clr (F.MAC_GCL_CTL_EN p)).gclEnable p
    else if !en && old.on (F.MAC_GCL_CTL_EN p) then (d.set (F.MAC_GCL_CTL_EN p)).gclDisable p
    else d
  let d := d.each (List.range 128) fun d f => if d.on (F.RXF_CTL_EN f) then d.rxOpen f else d
  let d := d.each (List.range 128) fun d f =>
    if d.on (F.TXF_CTL_EN f) then (d.txOpen f).modTx f fun t => { t with since := b + 2 } else d
  let d := d.each (List.range 32) fun d n =>
    if d.on (F.PORT_CTL_EN n) then (d.clr (F.PORT_CTL_EN n)).portOpen n (b + 1) else d
  let d := d.launchDenials
  let c : Chip := { c with dev := d }
  let c := (List.range 128).foldl (fun c f => c.rxReady f) c
  c.onDev fun d => d.each (List.range 128) fun d f =>
    if (d.rxf f).cfg.isSome then d.modRx f fun r => { r with since := b + 2 } else d

/-- Every route entry is loaded from the layer's table, nothing is pending and no queue stays parked (R305, R311, R313,
R473). -/
def Dev.switchRoutes (d : Dev) (codes : List Nat) : Dev :=
  let d := { d with routePend := [], txOld := [], routeFresh := [] }
  let act := (d.regs.filter fun p => decide (0x218000 * 32 ≤ p.1) && decide (p.1 < 0x230000 * 32)).map
    fun p => (p.1 / 32 - 0x218000) / 4
  let all := (codes ++ act).dedup
  let d := d.each all fun d e => d.wrs [(F.ROUTE_E_PENDING e, 0), (F.ROUTE_E_DENIED e, 0), (F.ROUTE_E_Q_ACTIVE e, 0),
    (F.ROUTE_E_OFF_ACTIVE e, 1)]
  let d := d.clr F.ROUTE_STATUS_PENDING
  let d := d.each (d.queues.map (·.1)) Dev.unpark
  d.each all fun d e => d.routeLoad e (d.rd (F.ROUTE_E_Q e)) (d.on (F.ROUTE_E_OFF e))

/-- The mode of the twin logic follows TWIN.CFG.MODE (R364, R375). -/
def Dev.twinModeSet (d old : Dev) : Dev :=
  if d.rd F.TWIN_CFG_MODE = old.rd F.TWIN_CFG_MODE then d
  else if d.twinMode then
    if d.on F.TWIN_STATUS_PERMIT then d.wr F.TWIN_STATUS_STATE tActive
    else (d.wr F.TWIN_STATUS_STATE tInit).modTwin fun t => { t with hbOut := .low }
  else ((d.wr F.TWIN_STATUS_STATE tSolo).wrs [(F.TWIN_STATUS_FIT, 0), (F.TWIN_STATUS_CONVERGED, 0),
    (F.TWIN_STATUS_QLINK_UP, 0), (F.TWIN_STATUS_JOIN_STATE, 0), (F.TWIN_STATUS_UNFIT_CAUSE, 0)]).modTwin
    fun t => { t with goodRun := 0, handover := none }

/-- The record step for the layer `l` with sections `ss` of the switch at boundary `b`: data, lists, registers, units,
routes (R392, R399), and the reads of the descriptors for the releases of B + 2 ticks (R244). -/
def Chip.recordStep (c : Chip) (l : Layer) (ss : List Section) (b : Nat) : Chip :=
  let rs := c.records l.addr ss
  let old := c.dev
  let post := old.overlay rs true
  let pages := c.twinPages l.addr ss
  let falls := ([0, 1, 2, 3] : List Nat).filter fun p => old.on (F.MAC_CTL_EN p) && !post.on (F.MAC_CTL_EN p)
  let c : Chip := { c with mem := c.mem.copyData l.addr ss fun s => !s.early }
  let c := falls.foldl (fun c p => c.macDisable p) c
  let d := c.dev.flowsOff.resetAllQueues
  let d := d.each (List.range 8) fun d g => d.switchGroup post g
  let d := let e := d; d.takeRegs post fun i => !teuKey i && !e.waitsKey i
  let d := d.each (List.range 8) fun d g =>
    if (d.group g).waiting = [] then
      d.each (d.members g) fun d k =>
        if d.gstate k = gOff ∧ d.on (F.MOD_GANG_CTL_RUN k) then d.toState k gArmed else d
    else d
  let d := d.each [0, 1, 2, 3] fun d p => d.modMac p fun m => { m with gclBase := gclBaseOf p rs }
  let d := { (d.each [0, 1, 2, 3] Dev.emptyRings).clr F.MMU_INV_BUSY with tlbs := [], icache := [], inv := [] }.rebuildLists
  let d := d.each allCtx fun d x => d.modCtx x fun k =>
    { Ctx.init with asid := k.asid, fsr := k.fsr, g := k.g, a := k.a, aov := k.aov, v := k.v, p := k.p }
  let c := ({ c with dev := d } : Chip).switchStart old b
  let c := c.onDev fun d =>
    ((d.switchRoutes (routeCodes rs)).twinModeSet old).modTwin fun t => { t with pages := pages }
  allCtx.foldl (fun c x => c.dispatchRead x true) c

/-- The boundary of a switch (R392, R399): an armed layer or a rollback that is due; a realignment's drain in progress
is waited for, and one that waits for this boundary is served with it (R53). The units stop, and the TEU section takes
effect (R90). -/
def Chip.switchDrain (c : Chip) : Chip :=
  let d := c.dev
  let staged := d.commitDue
  if !d.switchDue then c
  else match d.incoming with
    | none => c
    | some l => match c.image l.addr with
      | .error _ => c
      | .ok (_, ss) =>
        let d := (d.modLam fun m =>
          { m with drain := some d.tick, recorded := false, arm := none, window := none }).lamTo lDraining
        let d := d.when staged (·.lamCount 0)
        let d := match d.clk.realign with
          | .waiting asked => if asked < d.tick then d.modClk fun k => { k with realign := .draining d.tick } else d
          | _ => d
        let c := { c with dev := d }.switchStop
        let post := c.dev.overlay (c.records l.addr ss) true
        (c.onDev fun d => (d.switchGangs post d.tick).teuTake post).ripenAll

/-- The record step of a switch, which the model has at the boundary B + 2 that ends the drain of R399, so that a gang
whose stop ends in the drain ends on its old carrier (R323, R341; DESIGN CHOICE: notes/assumptions/70.md). An image
that the host has spoiled since B gives no records. -/
def Chip.switchRecord (c : Chip) : Chip :=
  match c.dev.sys.lam.drain, c.dev.incoming with
  | some b, some l =>
    if c.dev.sys.lam.recorded ∨ c.dev.tick < b + 2 then c
    else
      let c := c.onDev fun d => d.modLam fun m => { m with recorded := true }
      match c.image l.addr with
      | .error _ => c
      | .ok (_, ss) => c.recordStep l ss b
  | _, _ => c

/-! ### The end of the drain -/

/-- A rail controller at the end of a drain (R351, R356): its targets and its follower's history are gone, its goal is
RAIL_MIN. -/
def Dev.bstDrained (d : Dev) (g : Nat) : Dev :=
  let d := d.setBst g { d.bst g with peaks := [], due := none, env := none }
  d.wr (F.BST_TARGET_GOAL g) (d.rd (F.BST_RAIL_LIM_MIN g))

/-- A rail controller then, or at its group's last gates-off point (R356): it stays in RUN where the new layer keeps
DIV and OFS and sets EN; else it goes OFF and is set up as the layer states. -/
def Dev.switchBst (d : Dev) (g : Nat) : Dev :=
  let en := d.on (F.BST_CTL_EN g)
  if d.bstate g = bRun ∧ (d.group g).same ∧ en then d
  else
    let d := d.bstTo g bOff
    if en then (d.clr (F.BST_CTL_EN g)).bstEnable g else d

/-- The records that waited for the last gates-off point of group `g` take effect once no gang of it plays out
(R341, R356). -/
def Dev.groupFree (d : Dev) (g : Nat) : Dev :=
  if (d.group g).waiting = [] ∨ d.playsOut g then d
  else
    let d := d.groupTake g
    if d.drive.drain = none then d.switchBst g else d

/-- The gates-off point of gang `k` (R335, R341, R356). -/
def Dev.gatesOff (d : Dev) (k : Nat) : Dev := (d.gangGatesOff k).groupFree (k / 4)

/-- A gang that a fault or a hold stopped plays nothing out any more. -/
def Dev.groupsFree (d : Dev) : Dev :=
  if d.drive.drain = none then d.each (List.range 8) fun d g => d.groupFree g else d

/-- VER and ADDR registers and PREV_VALID show the layers that Laminate holds (R393, R405). -/
def Dev.lamShow (d : Dev) : Dev :=
  let m := d.sys.lam
  let v := fun (l : Option Layer) => match l with | some x => x.version | none => 0
  let a := fun (l : Option Layer) => match l with | some x => x.addr | none => 0
  d.wrs [(F.LAM_VER_CUR_VERSION, v m.cur), (F.LAM_VER_PREV_VERSION, v m.prev), (F.LAM_VER_STAGED_VERSION, v m.staged),
    (F.LAM_CUR_ADDR_ADDR, a m.cur), (F.LAM_PREV_ADDR_ADDR, a m.prev), (F.LAM_STATUS_PREV_VALID, bit m.prev.isSome)]

/-- Laminate's part of the end of a drain (R393, R394, R401, R402, R404, R439). -/
def Dev.lamSwitched (d : Dev) : Dev :=
  let m := d.sys.lam
  let win := d.rd F.LAM_WINDOW_S
  match m.switch with
  | .staged =>
    let d := d.modLam fun m => { m with prev := m.cur, cur := m.staged, staged := none, drain := none, auto := false,
                                        boot := none }
    let d := ((d.lamShow).clr F.LAM_STATUS_BY_ROLLBACK).set F.LAM_EVENTS_SWITCHED
    if win = 0 ∨ m.auto then d.lamTo lSteady
    else (d.modLam fun m => { m with window := some (d.time.raw + win * 500000000) }).lamTo lProbation
  | .rollback auto _ =>
    let left := match m.cur with | some l => l.version | none => 0
    let d := d.modLam fun m => { m with cur := m.prev, prev := none, drain := none, switch := .staged }
    let d := ((d.lamShow).set F.LAM_STATUS_BY_ROLLBACK).set F.LAM_EVENTS_SWITCHED
    let d := ((d.wr F.LAM_VER_REJECTED_VERSION left).set F.LAM_EVENTS_ROLLED_BACK).lamCount 1
    let d := d.when auto fun d => (d.set F.LAM_EVENTS_AUTO_ROLLBACK).lamCount 2
    d.lamTo lSteady

/-- B + 2 ticks of a switch (R399): the new layer is in force. The boundary's playout, packets and releases are those
of the new layer. -/
def Chip.switchEnd (c : Chip) : Chip :=
  match c.dev.sys.lam.drain with
  | none => c
  | some b =>
    if c.dev.tick < b + 2 then c
    else
      let c := c.switchRecord
      let d := c.dev
      let both := d.clk.realign == .draining b
      let d := if both then d.realignEndNow else d.driveUndrain
      let d := d.each (List.range 8) fun d g => (d.bstDrained g).when (decide ((d.group g).waiting = [])) (·.switchBst g)
      let d := { d with net := { d.net with draining := false } }
      let d := (d.lamSwitched).soloCheck
      let c := ({ c with dev := d } : Chip).playout.packetise.ripenAll
      let c := c.onDev fun d => d.each allCtx fun d x =>
        if d.ctxEnabled x then d.modCtx x fun k => Ctx.begin { k with restart := true } else d
      c.releases.onDev fun d => d.gangsDue.fitCheck

/-! ### Probation and rollback (R401, R402) -/

/-- CONFIRM (R394, R401). -/
def Dev.lamConfirm (d : Dev) : Dev :=
  if d.lstate = lProbation then
    ((d.modLam fun m => { m with window := none }).set F.LAM_EVENTS_CONFIRMED).lamTo lSteady
  else d.lamDenied

/-- A rollback (R402): refused where the previous image fails its CRC. -/
def Chip.rollback (c : Chip) (auto : Bool) : Chip :=
  let good := match c.dev.sys.lam.prev with
    | some l => decide (c.mem.imageCrc l.addr l.length = l.crc)
    | none => false
  c.onDev fun d =>
    if good then
      (d.modLam fun m => { m with switch := .rollback auto d.nextBoundary, window := none, drain := none }).lamTo lDraining
    else
      let d := (((d.modLam fun m => { m with prev := none }).clr F.LAM_STATUS_PREV_VALID).clr F.LAM_VER_PREV_VERSION).set
        F.LAM_EVENTS_ROLLBACK_FAIL
      let d := d.clr F.LAM_PREV_ADDR_ADDR
      if auto then (d.modLam fun m => { m with window := none }).lamTo lSteady else d

/-- GCMD.ROLLBACK (R394). -/
def Chip.lamRollback (c : Chip) : Chip :=
  let s := c.dev.lstate
  if (s = lProbation ∨ s = lSteady) ∧ c.dev.on F.LAM_STATUS_PREV_VALID then c.rollback false
  else c.onDev fun d => d.lamDenied

/-- The confirm window expires (R394, R401, R402). -/
def Chip.windowExpire (c : Chip) : Chip :=
  match c.dev.sys.lam.window with
  | none => c
  | some e =>
    if c.dev.lstate ≠ lProbation ∨ c.dev.time.raw < e then c
    else if c.dev.on F.LAM_STATUS_PREV_VALID then c.rollback true
    else c.onDev fun d =>
      ((d.modLam fun m => { m with window := none }).set F.LAM_EVENTS_CONFIRM_LAPSED).lamTo lSteady

/-! ### Boot flash (R403, R437) -/

/-- Bytes of a flash slot, the address of its record, and the record's words. -/
def slotBytes : Nat := 2 ^ 24
def slotBase (s : Nat) : Nat := s * slotBytes
def Mem.slotWord (m : Mem) (s i : Nat) : Nat :=
  beNat ((List.range 4).map fun j => m.flashByte (slotBase s + slotBytes - 4096 + 4 * i + j))

/-- `n` bytes of the flash from `a`. -/
def Mem.flashBytes (m : Mem) (a n : Nat) : List Byte := (List.range n).map fun i => m.flashByte (a + i)

/-- The commands that the chip gives its boot flash, at a byte address, with the bytes of a page or the number of bytes
read (R438). -/
inductive FlashCmd where
  | enableReset | reset | wake | status | writeEnable
  | read (a n : Nat)
  | program (a : Nat) (bs : List Byte)
  | erase (a : Nat)
  deriving DecidableEq, Repr

/-- The code of a flash command. -/
def FlashCmd.code : FlashCmd → Nat
  | .enableReset => 0x66
  | .reset => 0x99
  | .wake => 0xAB
  | .read _ _ => 0x6C
  | .status => 0x05
  | .writeEnable => 0x06
  | .program _ _ => 0x12
  | .erase _ => 0xDC

/-- The lanes of its code, address and data, 0 where it has none, and its dummy cycles (R438). -/
def FlashCmd.form : FlashCmd → Nat × Nat × Nat × Nat
  | .read _ _ => (1, 1, 4, 8)
  | .status => (1, 0, 1, 0)
  | .program _ _ => (1, 1, 1, 0)
  | .erase _ => (1, 1, 0, 0)
  | _ => (1, 0, 0, 0)

/-- Bytes written to the flash. -/
def Mem.storeFlash (m : Mem) (a : Nat) (bs : List Byte) : Mem :=
  ((List.range bs.length).zip bs).foldl (fun m p => m.setFlash (a + p.1) p.2) m

/-- What a command does to the flash: a program writes its page, which is erased, and an erase 64 KiB (R438). -/
def Mem.flashDo (m : Mem) : FlashCmd → Mem
  | .program a bs => m.storeFlash a bs
  | .erase a => { m with flash := m.flash.filter fun p => decide (p.1 < a) || decide (a + 65536 ≤ p.1) }
  | _ => m

/-- What a command reads from the flash. -/
def Mem.flashSays (m : Mem) : FlashCmd → List Byte
  | .read a n => m.flashBytes a n
  | _ => []

/-- The commands with which the boot ROM begins (R438). -/
def bootBegins : List FlashCmd := [.enableReset, .reset, .wake]

/-- The commands that erase slot `s`, and those that write bytes at a page's start, page by page (R403, R438). -/
def eraseCmds (s : Nat) : List FlashCmd :=
  ((List.range 256).map fun i => [.writeEnable, .erase (slotBase s + 65536 * i), .status]).flatten
def programCmds (a : Nat) (bs : List Byte) : List FlashCmd :=
  ((List.range ((bs.length + 255) / 256)).map fun i =>
    [.writeEnable, .program (a + 256 * i) ((bs.drop (256 * i)).take 256), .status]).flatten

/-- Is slot `s` valid (R437)? -/
def Mem.slotValid (m : Mem) (s : Nat) : Bool :=
  let len := m.slotWord s 1
  let bs := m.flashBytes (slotBase s) len
  decide (m.slotWord s 0 ≠ 0) && decide (len % 4 = 0) && decide (64 ≤ len) && decide (len ≤ 2 ^ 24 - 4096) &&
    decide (crc32 (bs.take 12 ++ [0, 0, 0, 0] ++ bs.drop 16) = m.slotWord s 2)

/-- SLOT_VER shows the slots' records (R405). -/
def Chip.showSlots (c : Chip) : Chip :=
  let v := fun s => if c.mem.slotValid s then c.mem.slotWord s 0 else 0
  c.onDev fun d => d.wrs [(F.LAM_SLOT_VER_VERSION 0, v 0), (F.LAM_SLOT_VER_VERSION 1, v 1)]

/-- SAVE of the layer that is current, which has left probation (R394, R403). -/
def Dev.lamSave (d : Dev) : Dev :=
  if d.lstate ≠ lSteady then d.lamDenied
  else if d.on F.LAM_STATUS_FLASH_BUSY then d.set F.LAM_EVENTS_SAVE_FAIL
  else (d.set F.LAM_STATUS_FLASH_BUSY).modLam fun m => { m with flash := some (d.rd F.LAM_FLASH_SLOT, m.cur) }

/-- GCMD.ERASE of slot `s` (R394, R403). -/
def Dev.lamErase (d : Dev) (s : Nat) : Dev :=
  if d.on F.LAM_STATUS_FLASH_BUSY then d.set F.LAM_EVENTS_SAVE_FAIL
  else (d.set F.LAM_STATUS_FLASH_BUSY).modLam fun m => { m with flash := some (s % 2, none) }

/-- Slot `s` erased: its bytes read as the erased state. -/
def Mem.eraseSlot (m : Mem) (s : Nat) : Mem := (eraseCmds s).foldl Mem.flashDo m

/-- The current image and its record written to slot `s` (R403). -/
def Mem.saveSlot (m : Mem) (s : Nat) (l : Layer) (seq : Nat) : Mem :=
  let record := ([l.version, l.length, l.crc, seq].map (beBytes 4)).flatten
  (programCmds (slotBase s) (m.loadBytes l.addr l.length) ++ programCmds (slotBase s + slotBytes - 4096) record).foldl
    Mem.flashDo (m.eraseSlot s)

/-- A SAVE or ERASE finishes (R403). An erased slot, whose LENGTH is none that R389 allows, has no SEQ. Of a failure the
spec does not say what it leaves in the slot: it stands as it was or erased. -/
def Chip.flashDone (c : Chip) (ok : Bool) : Chip :=
  match c.dev.sys.lam.flash with
  | none => c
  | some (s, layer) =>
    let seqOf := fun t => if c.mem.slotWord t 1 = 2 ^ 32 - 1 then 0 else c.mem.slotWord t 3
    let d := (c.dev.clr F.LAM_STATUS_FLASH_BUSY).modLam fun m => { m with flash := none }
    if ok then
      let mem := match layer with
        | some l => c.mem.saveSlot s l ((max (seqOf 0) (seqOf 1) + 1) % 2 ^ 32)
        | none => c.mem.eraseSlot s
      Chip.showSlots ⟨d.set F.LAM_EVENTS_SAVE_DONE, mem⟩
    else
      let r := d.fresh
      Chip.showSlots ⟨r.2.set F.LAM_EVENTS_SAVE_FAIL, if r.1 % 2 = 0 then c.mem else c.mem.eraseSlot s⟩

/-- Where the boot ROM puts an image (R437). -/
def bootAddr : Nat := 0x3000000

/-- The boot ROM stages a slot and starts VERIFY (R437, R439); where LOAD refuses it the next slot is tried. -/
def Chip.bootSlots : List Nat → Chip → Chip
  | [], c => c.onDev fun d => d.modLam fun m => { m with boot := none }
  | s :: rest, c =>
    let image := c.mem.flashSays (.read (slotBase s) (c.mem.slotWord s 1))
    let c : Chip := { c with mem := c.mem.storeBytes bootAddr image }
    let c := c.onDev fun d => d.wrs [(F.LAM_STAGE_ADDR_ADDR, bootAddr), (F.LAM_CTL_TIMED, 0), (F.LAM_WINDOW_S, 0)]
    let c := c.lamLoad
    if c.dev.lstate = lLoaded then c.onDev fun d => (d.lamVerify).modLam fun m => { m with boot := some rest }
    else Chip.bootSlots rest c

/-- The scrub ends and the boot ROM starts (R435 to R440). -/
def Chip.scrubDone (c : Chip) : Chip :=
  if c.dev.sys.scrubbed || !c.dev.time.running then c
  else
    let c : Chip := ⟨{ c.dev with sys := { c.dev.sys with scrubbed := true }, badRows := [] },
      { c.mem with cells := c.mem.cells.filter fun p => decide (2 ^ 26 ≤ p.1) }⟩
    let c := c.showSlots
    if c.dev.on F.SYS_STRAPS_BOOT then c
    else
      let c : Chip := { c with mem := bootBegins.foldl Mem.flashDo c.mem }
      let seq := fun s => c.mem.slotWord s 3
      let order : List Nat := if seq 0 < seq 1 then [1, 0] else [0, 1]
      match order.filter c.mem.slotValid with
      | [] => c.onDev fun d => d.lamResult ⟨1, nowhere, none⟩
      | l => c.bootSlots l

/-- VERIFY completes (R394, R396); the boot ROM and a warm join go on by themselves (R383, R437, R439). -/
def Chip.verifyDone (c : Chip) : Chip :=
  match c.dev.sys.lam.staged with
  | none => c
  | some l =>
    if c.dev.lstate ≠ lLoaded ∨ !c.dev.on F.LAM_STATUS_BUSY then c
    else
      let boot := c.dev.sys.lam.boot
      let own := c.dev.sys.lam.auto || boot.isSome
      match c.verify l.addr with
      | .ok (l, _) =>
        let c := c.onDev fun d =>
          let d := d.modLam fun m => { m with staged := some l }
          (((d.lamResult ⟨0, (0, 0), none⟩).clr F.LAM_STATUS_BUSY).set F.LAM_EVENTS_VERIFY_OK).lamTo lVerified
        if own then c.lamArm else c
      | .error v =>
        let c := c.onDev fun d => (d.lamFail v).lamDrop
        match boot with
        | some rest => c.bootSlots rest
        | none => c

/-! ### Commands by register (R394, R405) -/

/-- A write of LAM.CMD.OP (R405). -/
def Chip.lamCmd (c : Chip) (op : Nat) : Chip :=
  match op with
  | 1 => c.lamLoad
  | 2 => c.onDev fun d => d.lamVerify
  | 3 => c.lamArm
  | 4 => c.onDev fun d => d.lamDisarm
  | 5 => c.onDev fun d => d.lamConfirm
  | 6 => c.onDev fun d => d.lamSave
  | _ => c.onDev fun d => d.lamDenied

/-- A JOIN frame (R370, R383): code 1 to a holder; codes 2 to 5 to a standby that joins. -/
def Chip.joinReceive (c : Chip) (ws : List Nat) : Chip :=
  let d := c.dev
  if !d.twinMode then c
  else if !linkGood ws then c.onDev fun d => d.linkBad
  else if ws.length ≠ 3 ∨ bitsAt (wordOf ws 0) 24 8 ≠ 3 then c
  else
    let js := d.rd F.TWIN_STATUS_JOIN_STATE
    match wordOf ws 1 with
    | 1 => if d.tstate = tActive then c.joinServe else c
    | 2 => if d.isStandby ∧ js = 1 then c.onDev fun d => d.wr F.TWIN_STATUS_JOIN_STATE 2 else c
    | 3 =>
      if !d.isStandby || !(js == 1 || js == 2) then c
      else
        let c := c.onDev fun d => d.wr F.TWIN_STATUS_JOIN_STATE 3
        match d.sys.twin.layerAt with
        | none => c
        | some a =>
          let c := (c.onDev fun d => d.wrs [(F.LAM_STAGE_ADDR_ADDR, a), (F.LAM_CTL_TIMED, 0)]).lamLoad
          if c.dev.lstate = lLoaded ∧ !c.dev.on F.LAM_STATUS_BUSY then
            c.onDev fun d => (d.lamVerify).modLam fun m => { m with auto := true }
          else c
    | 4 =>
      if d.isStandby ∧ js = 3 then c.onDev fun d =>
        (d.wr F.TWIN_STATUS_JOIN_STATE 4).modTwin fun t => { t with joinFrom := d.tick }
      else c
    | 5 => c.onDev fun d => if js = 0 then d.joinDrop else d.joinEnd
    | _ => c

/-- LAM.REMAIN (R401): milliseconds of the confirm window that remain, rounded up. -/
def Dev.lamRemain (d : Dev) : Nat :=
  match d.sys.lam.window with
  | some e => (e - d.time.raw + 499999) / 500000
  | none => 0

end Sys2Proof.Machine
end

