-- ==== Sys2Proof/Machine/Fpu.lean ====
section
/-! DEFINITION. The FPU: IEEE 754 binary32, round to nearest even, subnormals flushed to zero of the same sign
(R241, R277), with the sticky flags of R275. -/

namespace Sys2Proof.Machine

/-- Sticky bits of FSR (R275). -/
def fNV : Nat := 1
def fDZ : Nat := 2
def fOF : Nat := 4
def fUF : Nat := 8
def fNX : Nat := 16
def fSAT : Nat := 256
def fCSFE : Nat := 512
def fMIXF : Nat := 1024
def fENVX : Nat := 2048

/-- A binary32 operand: NaN (signalling or not), infinity, or a finite number `m * 2^e` with its sign. A subnormal
reads as zero (R241). -/
inductive Fp where
  | nan (signalling : Bool)
  | inf (neg : Bool)
  | fin (neg : Bool) (m : Nat) (e : Int)
  deriving DecidableEq, Repr

/-- Read a binary32 word. -/
def Fp.of (w : Nat) : Fp :=
  let neg := bitAt w 31
  let ex := bitsAt w 23 8
  let fr := bitsAt w 0 23
  if ex = 255 then (if fr = 0 then .inf neg else .nan (!bitAt w 22))
  else if ex = 0 then .fin neg 0 0
  else .fin neg (2 ^ 23 + fr) ((ex : Int) - 150)

/-- The canonical NaN of an invalid operation (R277). -/
def canonicalNaN : Nat := 0x7FC00000

/-- A quiet NaN whose sign and payload nothing states. -/
def someNaN (a b : Nat) : Nat :=
  let p := Config.nanPayload a b
  p % 2 * 2 ^ 31 + canonicalNaN + p / 2 % 2 ^ 22

def signBit (neg : Bool) : Nat := if neg then 2 ^ 31 else 0
def packInf (neg : Bool) : Nat := signBit neg + 0x7F800000

/-- Number of bits of `m`. -/
def bitLen (m : Nat) : Nat := if m = 0 then 0 else Nat.log2 m + 1

/-- Round `m * 2^e`, with a sticky remainder below it, to binary32: the word and the flags OF, UF, NX (R241, R275). What
rounds to a number below 2^-126 becomes zero (DEDUCED: notes/assumptions/122.md). -/
def packFp (neg : Bool) (m : Nat) (e : Int) (sticky : Bool) : Nat × Nat :=
  if m = 0 then (signBit neg, if sticky then fUF + fNX else 0)
  else
    -- scaled to 27 bits at least, so that one shift rounds with the sticky bit below it
    let up := 27 - bitLen m
    let m := m * 2 ^ up
    let e := e - up
    let m := if sticky ∧ m % 2 = 0 then m + 1 else m
    let sh := bitLen m - 24
    let r := (rhe m sh).toNat
    let inexact := decide (m % 2 ^ sh ≠ 0) || sticky
    let e := e + sh
    let (r, e) := if r = 2 ^ 24 then (2 ^ 23, e + 1) else (r, e)
    let be := e + 150
    if 255 ≤ be then (packInf neg, fOF + fNX)
    else if be ≤ 0 then (signBit neg, fUF + fNX)
    else (signBit neg + be.toNat * 2 ^ 23 + (r - 2 ^ 23), if inexact then fNX else 0)

/-- What two NaN-bearing operands give: NV where one is signalling. -/
def nanResult (a b : Nat) (x y : Fp) : Nat × Nat :=
  if x = .nan true ∨ y = .nan true then (canonicalNaN, fNV) else (someNaN a b, 0)

def Fp.isNaN : Fp → Bool
  | .nan _ => true
  | _ => false

/-- The signed value of a finite number over `2^e0`. -/
def finInt (neg : Bool) (m : Nat) (e e0 : Int) : Int :=
  let v : Int := (m : Int) * 2 ^ (e - e0).toNat
  if neg then -v else v

/-- rs + rt, with rt negated when `sub` (FADD, FSUB). -/
def fpAdd (sub : Bool) (a b : Nat) : Nat × Nat :=
  let x := Fp.of a
  let y := Fp.of b
  if x.isNaN || y.isNaN then nanResult a b x y
  else match x, y with
    | .inf n, .inf n' => if n == xor n' sub then (packInf n, 0) else (canonicalNaN, fNV)
    | .inf n, _ => (packInf n, 0)
    | _, .inf n => (packInf (xor n sub), 0)
    | .fin n m e, .fin n' m' e' =>
      let n' := xor n' sub
      let e0 := min e e'
      -- exact sums: exponents of nonzero operands differ by at most 253
      let e0 := if m = 0 then e' else if m' = 0 then e else e0
      let s := (if m = 0 then 0 else finInt n m e e0) + (if m' = 0 then 0 else finInt n' m' e' e0)
      if s = 0 then (signBit (if m = 0 ∧ m' = 0 then n && n' else false), 0)
      else packFp (decide (s < 0)) s.natAbs e0 false
    | _, _ => (canonicalNaN, 0)

/-- rs × rt. -/
def fpMul (a b : Nat) : Nat × Nat :=
  let x := Fp.of a
  let y := Fp.of b
  if x.isNaN || y.isNaN then nanResult a b x y
  else match x, y with
    | .inf n, .inf n' => (packInf (xor n n'), 0)
    | .inf n, .fin n' m _ => if m = 0 then (canonicalNaN, fNV) else (packInf (xor n n'), 0)
    | .fin n m _, .inf n' => if m = 0 then (canonicalNaN, fNV) else (packInf (xor n n'), 0)
    | .fin n m e, .fin n' m' e' => packFp (xor n n') (m * m') (e + e') false
    | _, _ => (canonicalNaN, 0)

/-- rs / rt. -/
def fpDiv (a b : Nat) : Nat × Nat :=
  let x := Fp.of a
  let y := Fp.of b
  if x.isNaN || y.isNaN then nanResult a b x y
  else match x, y with
    | .inf _, .inf _ => (canonicalNaN, fNV)
    | .inf n, .fin n' _ _ => (packInf (xor n n'), 0)
    | .fin n _ _, .inf n' => (signBit (xor n n'), 0)
    | .fin n m e, .fin n' m' e' =>
      if m' = 0 then (if m = 0 then (canonicalNaN, fNV) else (packInf (xor n n'), fDZ))
      else
        let num := m * 2 ^ 30
        packFp (xor n n') (num / m') (e - e' - 30) (decide (num % m' ≠ 0))
    | _, _ => (canonicalNaN, 0)

/-- √rs. -/
def fpSqrt (a : Nat) : Nat × Nat :=
  match Fp.of a with
  | .nan s => if s then (canonicalNaN, fNV) else (someNaN a 0, 0)
  | .inf n => if n then (canonicalNaN, fNV) else (packInf false, 0)
  | .fin n m e =>
    if m = 0 then (signBit n, 0)
    else if n then (canonicalNaN, fNV)
    else
      let odd := e % 2 = 1
      let m2 := (if odd then 2 * m else m) * 2 ^ 32
      let e2 := ((if odd then e - 1 else e) - 32) / 2
      let r := isqrt m2
      packFp false r e2 (decide (r * r ≠ m2))

/-- The value as a signed number over 2^-149, for comparisons of non-NaN operands; infinities lie beyond all. -/
def Fp.key : Fp → Int
  | .nan _ => 0
  | .inf n => if n then -(2 ^ 300) else 2 ^ 300
  | .fin n m e => if m = 0 then 0 else finInt n m e (-149)

/-- A subnormal operand reads as the zero of its sign (R241). -/
def flushed (a : Nat) : Nat := if bitsAt a 23 8 = 0 then signBit (bitAt a 31) else a

/-- Minimum (`max` false) and maximum (R277). -/
def fpMinMax (max : Bool) (a b : Nat) : Nat × Nat :=
  let x := Fp.of a
  let y := Fp.of b
  let fl := if x = .nan true ∨ y = .nan true then fNV else 0
  if x.isNaN && y.isNaN then (if fl = 0 then someNaN a b else canonicalNaN, fl)
  else if x.isNaN then (flushed b, fl)
  else if y.isNaN then (flushed a, fl)
  else if x.key < y.key then (flushed (if max then b else a), 0)
  else if y.key < x.key then (flushed (if max then a else b), 0)
  else (flushed (if Config.zeroPick a b then a else b), 0)

/-- A comparison: 0 when either operand is a NaN, NV for a signalling one (R277). -/
def fpCompare (f : Int → Int → Bool) (a b : Nat) : Nat × Nat :=
  let x := Fp.of a
  let y := Fp.of b
  if x.isNaN || y.isNaN then (0, if x = .nan true ∨ y = .nan true then fNV else 0)
  else (bit (f x.key y.key), 0)

/-- A signed integer over `2^frac` to binary32 (FCVTSW with frac 0, FCVTSQ with frac 31). -/
def fpFromInt (v : Int) (frac : Nat) : Nat × Nat :=
  if v = 0 then (0, 0) else packFp (decide (v < 0)) v.natAbs (-(frac : Int)) false

/-- Binary32 scaled by `2^frac` and rounded to an integer, ties to even: the integer and whether it is inexact. -/
def finRound (neg : Bool) (m : Nat) (e : Int) (frac : Nat) : Int × Bool :=
  let e := e + frac
  if 0 ≤ e then (finInt neg m e 0, false)
  else
    let sh := min (-e).toNat 200
    let v : Int := if neg then -(m : Int) else m
    (rhe v sh, decide (m % 2 ^ sh ≠ 0))

/-- Binary32 to a signed integer (`q` false) or to Q1.31 (`q` true), saturating; NaN gives 0 and NV (R277). -/
def fpToInt (q : Bool) (a : Nat) : Nat × Nat :=
  let ovf := if q then fSAT else fNV
  match Fp.of a with
  | .nan _ => (0, fNV)
  | .inf n => (if n then 2 ^ 31 else 2 ^ 31 - 1, ovf)
  | .fin n m e =>
    let r := finRound n m e (if q then 31 else 0)
    if outOf 32 r.1 then (lowOf 32 (satTo 32 r.1), ovf)
    else (lowOf 32 r.1, if r.2 then fNX else 0)

end Sys2Proof.Machine
end

