-- ==== Sys2Proof/Machine/Operands.lean ====
section
/-! DEFINITION. The operand forms of the instruction set: G, A, V and P registers, stream-pointer addresses, and the
retirement of an instruction (R240, R268, R274). -/

namespace Sys2Proof.Machine

/-- Read G[r]; G0 reads 0 (R240). -/
def Ctx.rdG (c : Ctx) (r : BitVec 5) : Word := if r = 0 then 0 else Sparse.get (fun _ => 0) c.g r.toNat

/-- Write G[r]; a write to G0 is discarded (R240). -/
def Ctx.wrG (c : Ctx) (r : BitVec 5) (v : Word) : Ctx :=
  if r = 0 then c else { c with g := Sparse.set (fun _ => 0) c.g r.toNat v }

/-- Write G[r] from a number. -/
def Ctx.wrGn (c : Ctx) (r : BitVec 5) (v : Nat) : Ctx := c.wrG r (BitVec.ofNat 32 v)

/-- Accumulator A[a] as a signed number with 62 fractional bits (R161). -/
def Ctx.rdA (c : Ctx) (a : BitVec 3) : Int := (Sparse.get (fun _ => (0 : BitVec 72)) c.a a.toNat).toInt
def Ctx.wrA (c : Ctx) (a : BitVec 3) (v : Int) : Ctx :=
  { c with a := Sparse.set (fun _ => (0 : BitVec 72)) c.a a.toNat (BitVec.ofInt 72 v) }

/-- The sticky flag AOV of A[a] (R275). -/
def Ctx.rdAov (c : Ctx) (a : BitVec 3) : Bool := Sparse.get (fun _ => false) c.aov a.toNat
def Ctx.wrAov (c : Ctx) (a : BitVec 3) (b : Bool) : Ctx :=
  { c with aov := Sparse.set (fun _ => false) c.aov a.toNat b }

/-- Lane j of V[v]. -/
def Ctx.rdV (c : Ctx) (v : BitVec 4) (j : Nat) : Word := Sparse.get (fun _ => 0) c.v (8 * v.toNat + j)
def Ctx.wrV (c : Ctx) (v : BitVec 4) (j : Nat) (x : Word) : Ctx :=
  { c with v := Sparse.set (fun _ => 0) c.v (8 * v.toNat + j) x }

/-- Write all eight lanes of V[v]. -/
def Ctx.wrVs (c : Ctx) (v : BitVec 4) (f : Nat → Word) : Ctx :=
  (List.range 8).foldl (fun c j => c.wrV v j (f j)) c

/-- The fields of stream pointer P[p]: 0 BASE, 1 LEN, 2 INDEX (R240). -/
def Ctx.rdP (c : Ctx) (p : BitVec 3) (f : Nat) : Nat := Sparse.get (fun _ => 0) c.p (3 * p.toNat + f)
def Ctx.wrP (c : Ctx) (p : BitVec 3) (f v : Nat) : Ctx :=
  { c with p := Sparse.set (fun _ => 0) c.p (3 * p.toNat + f) v }

/-- addr(P[p], o) of R274. -/
def Ctx.addr (c : Ctx) (p : BitVec 3) (o : Int) : Nat :=
  let len := c.rdP p 1
  let i : Int := (c.rdP p 2 : Int) + o
  (((c.rdP p 0 : Int) + (if len = 0 then i else i % len)) % 2 ^ 32).toNat

/-- Is an access of `w` bytes at byte offset `o` of P[p] misaligned (R274)? -/
def Ctx.misaligned (c : Ctx) (p : BitVec 3) (o : Int) (w : Nat) : Bool :=
  decide (c.rdP p 0 % w ≠ 0 ∨ ((c.rdP p 2 : Int) + o) % w ≠ 0 ∨ c.rdP p 1 % w ≠ 0)

/-- P[p] advanced by `d` (R274). -/
def Ctx.advance (c : Ctx) (p : BitVec 3) (d : Int) : Ctx :=
  let len := c.rdP p 1
  let i : Int := (c.rdP p 2 : Int) + d
  c.wrP p 2 (if len = 0 then (i % 2 ^ 24).toNat else (i % len).toNat)

/-- The next instruction in order. -/
def Ctx.next (c : Ctx) : Ctx := { c with pc := (c.pc + 4) % 2 ^ 32 }

/-- Set sticky bits of FSR (R275). -/
def Ctx.flag (c : Ctx) (f : Nat) : Ctx := { c with fsr := Nat.lor c.fsr f }

/-- Continue at another address. -/
def Ctx.jump (c : Ctx) (a : Nat) : Ctx := { c with pc := a % 2 ^ 32 }

/-- One access that an instruction makes: virtual address, and whether its stream pointer is misaligned for it. -/
structure Ref where
  va  : Nat
  bad : Bool
  deriving DecidableEq, Repr

/-- Offset `o` of stream pointer P[p] as an access of `w` bytes. -/
def Ctx.ref (c : Ctx) (p : BitVec 3) (o : Int) (w : Nat) : Ref := ⟨c.addr p o, c.misaligned p o w⟩

/-- Make every check of a list of accesses of `size` bytes, in order (R221, R274). -/
def Chip.prepare (c : Chip) (w : Who) (size : Nat) (k : Access) : List Ref → Chip × Except (Nat × Nat) (List Place)
  | [] => (c, .ok [])
  | r :: rs =>
    match c.reach w r.va (if r.bad then 1 else size) k with
    | (c, .error e) => (c, .error (e, r.va))
    | (c, .ok p) =>
      if r.bad then (c, .error (8, r.va))
      else match Chip.prepare c w size k rs with
        | (c, .error e) => (c, .error e)
        | (c, .ok ps) => (c, .ok (p :: ps))

/-- Prepare loads of `size` bytes for context `x`, and go on with the values; a fault stops the context (R222). -/
def Chip.loads (c : Chip) (x size : Nat) (rs : List Ref) (f : Chip → List Nat → Chip) : Chip :=
  match c.prepare (c.dev.whoCtx x) size .load rs with
  | (c, .error e) => c.onDev (·.ctxFault x e.1 .load e.2)
  | (c, .ok ps) => f c (ps.map fun p => c.mem.load p.key size)

/-- Prepare stores of `size` bytes for context `x`, and go on with their places (R222, R286). -/
def Chip.toStore (c : Chip) (x size : Nat) (rs : List Ref) (f : Chip → List Place → Chip) : Chip :=
  match c.prepare (c.dev.whoCtx x) size .store rs with
  | (c, .error e) => c.onDev (·.ctxFault x e.1 .store e.2)
  | (c, .ok ps) => f c ps

/-- Store a list of values at a list of places. -/
def Chip.storeAll (c : Chip) (x size : Nat) : List Place → List Nat → Chip
  | p :: ps, v :: vs => Chip.storeAll (c.storeAt (c.dev.whoCtx x) p size v) x size ps vs
  | _, _ => c

/-- Change context `x`. -/
def Chip.modCtx (c : Chip) (x : Nat) (f : Ctx → Ctx) : Chip := c.onDev (·.modCtx x f)

/-- An instruction that only changes its context's registers: it issues, does `f` and goes to the next. -/
def Chip.reg (c : Chip) (x : Nat) (f : Ctx → Ctx) : Chip := c.issue x fun c => c.modCtx x fun k => (f k).next

end Sys2Proof.Machine
end

