-- ==== Sys2Proof/Machine/Views.lean ====
section
/-! DEFINITION. What a register read shows: the bits that the field file holds, and the bits that follow other state
live, with the interrupt line (R57, R196, R209, R248, R265, R427 and the register tables). -/

namespace Sys2Proof.Machine

/-- The number whose bit i is `p i`, for i below n. -/
def bitsOf (n : Nat) (p : Nat → Bool) : Nat := ((List.range n).map fun i => bit (p i) * 2 ^ i).sum

/-- Every stored bit of the register at `a`. -/
def Dev.stored (d : Dev) (a : Nat) : Nat := d.wordOf a fun f => f.ty != .wo && !d.reservedNow a f.lo

/-- Does an EVENTS register hold a bit that an enable register's bits at `lo` let through? -/
def Dev.lets (d : Dev) (ev en lo : Nat) : Bool := (d.stored ev &&& (d.stored en / 2 ^ lo)) != 0

/-! ### The pending bits of each block -/

def Dev.rxPend (d : Dev) (f : Nat) : Bool := d.stored (0x180030 + 0x80 * f) &&& d.rd F.FLOW_INT_EN_RX != 0
def Dev.txPend (d : Dev) (f : Nat) : Bool := d.stored (0x184028 + 0x80 * f) &&& d.rd F.FLOW_INT_EN_TX != 0
def Dev.alignPend (d : Dev) (g : Nat) : Bool := d.stored (0x18800C + 0x20 * g) &&& d.rd F.FLOW_INT_EN_GRP != 0
def Dev.portPend (d : Dev) (n : Nat) : Bool := d.lets (0x30000028 + 0x100 * n) (0x3000002C + 0x100 * n) 0
def Dev.dmaPend (d : Dev) (ch : Nat) : Bool := d.lets (0x28101C + 0x40 * ch) (0x281020 + 0x40 * ch) 0
def Dev.gangPend (d : Dev) (k : Nat) : Bool := d.lets (0x4000040C + 0x40 * k) (0x40000410 + 0x40 * k) 0
def Dev.modGrpPend (d : Dev) (g : Nat) : Bool := d.lets (0x40000014 + 0x20 * g) (0x40000018 + 0x20 * g) 0
def Dev.bstPend (d : Dev) (g : Nat) : Bool := d.lets (0x50000038 + 0x80 * g) (0x5000003C + 0x80 * g) 0
def Dev.ctxPend (d : Dev) (x : Nat) : Bool :=
  d.lets (0x300110 + 0x1000 * (x / 4) + 0x100 * (x % 4)) (0x300114 + 0x1000 * (x / 4) + 0x100 * (x % 4)) 0
def Dev.corePend (d : Dev) (c : Nat) : Nat := bitsOf 4 fun i => d.ctxPend (4 * c + i)
def Dev.teuPend (d : Dev) (u : Nat) : Bool := d.on (F.TEU_CTL_IRQ u) && d.stored (0x1000041C + 0x20 * u) != 0

/-- Queue `n` has IRQ_EN set and an event bit set (R209). -/
def Dev.qPend (d : Dev) (n : Nat) : Bool := d.on (F.Q_CFG_IRQ_EN n) && d.stored (0x20000C + 0x10 * n) % 16 != 0

/-- Some QM.PEND bit is set: only a queue whose IRQ_EN the field file lists can have one. -/
def Dev.anyQPend (d : Dev) : Bool :=
  d.regs.any fun e => let a := e.1 / 32
    decide (0x200000 ≤ a) && decide (a < 0x210000) && a % 16 == 0 && e.1 % 32 == 5 && d.qPend ((a - 0x200000) / 16)

/-- SYS.INT_STAT (R427, R428). -/
def Dev.intStat (d : Dev) : Nat :=
  let pll := (d.stored 0x20000004 &&& d.rd F.SYS_PLL_INT_EN_SYSPLL) != 0 ||
    (d.stored 0x20000108 &&& d.rd F.SYS_PLL_INT_EN_MEDPLL) != 0
  let flow := ((d.rd F.FLOW_INT_EN_RX != 0) && (List.range 128).any d.rxPend) ||
    ((d.rd F.FLOW_INT_EN_TX != 0) && (List.range 128).any d.txPend) ||
    ((d.rd F.FLOW_INT_EN_GRP != 0) && (List.range 16).any d.alignPend)
  let qm := d.lets 0x210008 0x21000C 0 || (d.on F.QM_INT_EN_PEND_EN && d.anyQPend)
  let mmu := d.lets 0x280008 0x28000C 0 || (d.on F.MMU_INT_EN_DMA_EN && (List.range 32).any d.dmaPend)
  bitsOf 18 fun i =>
    match i with
    | 0 => d.stored 0xC % 256 != 0
    | 1 => d.lets 0x10000008 0x1000000C 0
    | 2 => (List.range 16).any d.teuPend
    | 3 => pll
    | 8 => flow
    | 9 => qm
    | 10 => d.lets 0x21040C 0x210410 0
    | 11 => mmu
    | 12 => (List.range 64).any d.ctxPend
    | 13 => (List.range 32).any d.portPend
    | 14 => (List.range 32).any d.gangPend || (List.range 8).any d.modGrpPend
    | 15 => (List.range 8).any d.bstPend
    | 16 => d.lets 0x380008 0x38000C 0
    | 17 => d.lets 0x3C000C 0x3C0010 0
    | p => d.lets (0x100008 + 0x10000 * (p - 4)) (0x10000C + 0x10000 * (p - 4)) 0

/-- INT_N is driven low while an enabled source is live; it is high-Z otherwise (R427), while the functional logic is
cut from the pins (R463) and while a supply is absent (R429). -/
def Dev.intLow (d : Dev) : Bool := (d.intStat &&& d.rd F.SYS_INT_EN_EN) != 0 && !d.pinsOff

/-! ### Live bits of single registers -/

/-- X[x].STATE's state code (R248, R265). -/
def Dev.stateCode (d : Dev) (x : Nat) : Nat :=
  if d.halted x then 7
  else if d.running x then 3
  else match (d.ctx x).run with
    | .off => 0
    | .idle => 1
    | .ready => 2
    | .yielded => 4
    | .tickwait => 5
    | .faulted => 6

/-- X[x].RDATA (R265): the register that RSEL selects, 0 unless the context is HALTED, FAULTED or IDLE. -/
def Dev.rdata (d : Dev) (x : Nat) : Nat :=
  let k := d.ctx x
  let i := d.rd (F.X_RSEL_INDEX (x / 4) (x % 4))
  let w := d.rd (F.X_RSEL_WORD (x / 4) (x % 4))
  if !(d.halted x || k.run == .faulted || k.run == .idle) then 0
  else match d.rd (F.X_RSEL_FILE (x / 4) (x % 4)) with
    | 0 => (k.rdG (BitVec.ofNat 5 i)).toNat
    | 1 => if i < 8 ∧ w < 3 then lowOf 72 (k.rdA (BitVec.ofNat 3 i)) / 2 ^ (32 * w) % 2 ^ 32 else 0
    | 2 => if i < 16 then (k.rdV (BitVec.ofNat 4 i) w).toNat else 0
    | 3 => if i < 8 ∧ w < 3 then k.rdP (BitVec.ofNat 3 i) w else 0
    | 4 => if i = 0 then k.epc else if i = 1 then k.ecause else if i = 2 then k.fsr else 0
    | _ => 0

/-- What the issue at place `n` of the free values adds to performance counter `k` (R265): a cycle issued, or else the
second place of a pair, and a number of cycles stalled on Saltern. -/
def perfAdds (k n : Nat) : Nat :=
  match k with
  | 0 => 1 - Config.free n % 2
  | 1 => Config.free n % 2
  | _ => Config.free (n + 1)

/-- What the issues of context `x` have added to its performance counter `k` since its last write (R265). -/
def Dev.perfIssued (d : Dev) (x k : Nat) : Nat :=
  ((d.perf.filter fun p => p.1 == 4 * x + k).map fun p => perfAdds k p.2).sum

/-- Performance counter `k` of context `x` takes the number written alone. -/
def Dev.perfWritten (d : Dev) (x k : Nat) : Dev := { d with perf := d.perf.filter fun p => p.1 != 4 * x + k }

/-- The live bits of a register of a context, at offset `o` of its block. -/
def Dev.ctxLive (d : Dev) (x o : Nat) : Nat :=
  let k := d.ctx x
  match o with
  | 0x08 => d.stateCode x + 16 * (k.ecause / 2 ^ 31 % 2) + 256 * k.asid
  | 0x0C => k.pc
  | 0x20 => d.rdata x
  | 0x60 => d.perfIssued x 0
  | 0x64 => d.perfIssued x 1
  | 0x68 => d.perfIssued x 2
  | _ => 0

/-- The bits of SYS registers that follow other state, as requester `r` sees them (R413, R418, R422, R428). -/
def Dev.sysLive (d : Dev) (r a : Nat) : Nat :=
  let q := d.req r
  let inFlight := r == 0 && d.sys.host.buf.any fun p => match p with
    | .word w _ => canonDirect w == some 0x34
    | .bytes _ _ => false
  match a with
  | 0x00 => Config.siliconStep % 256 * 65536
  | 0x0C => d.sys.host.buf.length * 256
  | 0x24 => bit q.armed
  | 0x30 => q.offset + 65536 * q.space
  | 0x38 => bit inFlight + 2 * bit q.autoinc + 4 * bit q.err
  | 0x80 => d.intStat
  | 0x88 => bitsOf 16 d.teuPend
  | 0x8C => bitsOf 16 fun c => d.corePend c != 0
  | _ => 0

/-- The bits of the register at `a` that the field file does not hold. -/
def Dev.live (d : Dev) (r a : Nat) : Nat :=
  if a < 0x100000 then d.sysLive r a
  else if a = 0x18C000 then bit d.timeOk * 2 ^ 22
  else if 0x18C010 ≤ a ∧ a < 0x18C020 then bitsOf 32 fun j => d.rxPend ((a - 0x18C010) * 8 + j)
  else if 0x18C020 ≤ a ∧ a < 0x18C030 then bitsOf 32 fun j => d.txPend ((a - 0x18C020) * 8 + j)
  else if a = 0x18C030 then bitsOf 16 d.alignPend
  else if 0x200000 ≤ a ∧ a < 0x210000 then
    let n := (a - 0x200000) / 16
    let q := d.q n
    if a % 16 = 8 then min q.packets.length 65535 + 65536 * d.held n
    else if a % 16 = 12 then 64 * bit q.err + 128 * bit (q.openWords != []) + 65536 * q.epoch
    else 0
  else if a = 0x210020 then
    bit (d.rake != []) + 2 * (d.rake.filter (·.isReset)).length + 2 ^ 14 * bit ((d.rake.take 1).any (·.isScan))
  else if 0x210100 ≤ a ∧ a < 0x210300 then bitsOf 32 fun j => d.qPend ((a - 0x210100) * 8 + j)
  else if a = 0x282000 then bitsOf 32 d.dmaPend
  else if 0x300000 ≤ a ∧ a < 0x310000 then
    let c := (a - 0x300000) / 0x1000
    let o := a % 0x1000
    if o = 0x4 then 16 * bitsOf 4 fun i => d.halted (4 * c + i)
    else if o = 0x8 then d.corePend c
    else if 0x100 ≤ o ∧ o < 0x500 then d.ctxLive (4 * c + o / 0x100 - 1) (o % 0x100)
    else 0
  else if a = 0x3C002C then d.lamRemain
  else if a = 0x10000010 then d.nowNs
  else if a = 0x10000024 then d.tickPhase
  else if a = 0x30002004 then bitsOf 32 d.portPend
  else if a = 0x40000C04 then bitsOf 32 d.gangPend
  else if a = 0x40000C08 then bitsOf 8 d.modGrpPend
  else if a = 0x50000400 then bitsOf 8 d.bstPend
  else 0

/-- Does `a` name a register of a gang that is not a unit (R319), or of TXR[6], which reads as zero? -/
def Dev.absent (d : Dev) (a : Nat) : Bool :=
  (decide (0x40000400 ≤ a) && decide (a < 0x40000C00) && d.gangSize ((a - 0x40000400) / 0x40) == 0) ||
    (decide (0x100000 ≤ a) && decide (a < 0x140000) && a % 0x10000 / 16 == 0x36)

/-- The registers whose stored bits a read does not show as they stand: each requester has its own pair (R418), and
RECENT counts the faults that lie in the window now (R338) and FLT_LIVE follows the debounced levels (R336). -/
def Dev.shown (d : Dev) (a : Nat) : Nat :=
  if a = 0x30 ∨ a = 0x34 ∨ a = 0x38 then 0
  else if 0x40000400 ≤ a ∧ a < 0x40000C00 ∧ a % 0x40 = 8 then
    let k := (a - 0x40000400) / 0x40
    let s := d.stored a
    s - s / 16 % 16 * 16 - s / 256 % 16 * 256 + d.fltLive k * 16 + min 15 (d.inWindow k d.nowWide).length * 256
  else d.stored a

/-- What requester `r` reads at the register `a`, before any effect of the read. -/
def Dev.view (d : Dev) (r a : Nat) : Nat :=
  if d.absent a then 0 else (d.shown a + d.live r a) % 2 ^ 32

/-! ### Unit resets: which unit a register belongs to (R441) -/

/-- The unit, as KIND and INDEX, whose registers lie at `a`. -/
def unitOf (a : Nat) : Option (Nat × Nat) :=
  if 0x100000 ≤ a ∧ a < 0x140000 then some (1, (a - 0x100000) / 0x10000)
  else if 0x180000 ≤ a ∧ a < 0x184000 then some (2, (a - 0x180000) / 0x80)
  else if 0x184000 ≤ a ∧ a < 0x188000 then some (3, (a - 0x184000) / 0x80)
  else if 0x300000 ≤ a ∧ a < 0x310000 then some (4, (a - 0x300000) / 0x1000)
  else if 0x30000000 ≤ a ∧ a < 0x30002000 then some (5, (a - 0x30000000) / 0x100)
  else if 0x40000400 ≤ a ∧ a < 0x40000C00 then some (6, (a - 0x40000400) / 0x40)
  else if 0x50000000 ≤ a ∧ a < 0x50000400 then some (7, (a - 0x50000000) / 0x80)
  else if 0x10000400 ≤ a ∧ a < 0x10000600 then some (8, (a - 0x10000400) / 0x20)
  else none

/-- Does the register at `a` belong to a unit that a unit reset holds (R443)? -/
def Dev.inReset (d : Dev) (a : Nat) : Bool :=
  match unitOf a with
  | some u => d.sys.jtag.busy.contains u
  | none => false

/-- Does the register at `a` lie in a block that reads 0 before the scrub ends (R436)? -/
def beforeScrub (a : Nat) : Bool := decide (0x200000 ≤ a) && decide (a < 0x380000)

end Sys2Proof.Machine
end

