-- ==== Sys2Proof/Machine/Access.lean ====
section
/-! DEFINITION. Register reads and writes as every requester makes them: the types of R420, the guard, the indirect
pair, the mailbox, and the effects that a block gives a write of its own (R414 to R426). -/

namespace Sys2Proof.Machine

/-! ### Reads -/

/-- The RC fields of the register at `a` are reset (R420). -/
def Dev.rcClear (d : Dev) (a : Nat) : Dev := d.setWord a 0 fun f => f.ty == .rc

/-- Requester `r` (0 the host, x + 1 context x) reads the register `a` once (R410, R416, R420, R436, R443). -/
def Dev.readAt (d : Dev) (r a : Nat) : Dev × Nat :=
  if d.inReset a then (d.when (r == 0) (·.set F.SYS_HQ_STAT_RD_ABORT), 0)
  else if beforeScrub a && !d.sys.scrubbed then (d, 0)
  else
    (d.rcClear a, d.view r a)

/-- The requester's OFFSET after an access through its indirect pair (R418). -/
def Requester.step (q : Requester) : Requester :=
  if q.autoinc then { q with offset := (q.offset + 4) % 65536 } else q

/-- A read of IND_DATA (R418). -/
def Dev.readInd (d : Dev) (r : Nat) : Dev × Nat :=
  let q := d.req r
  match canonInd q.space q.offset with
  | none => (d.setReq r { q.step with err := true }, 0)
  | some a => (d.setReq r q.step).readAt r a

/-- A read of the register at `a`, IND_DATA included. -/
def Dev.readReg (d : Dev) (r a : Nat) : Dev × Nat := if a = 0x34 then d.readInd r else d.readAt r a

/-! ### Writes by type -/

/-- Would the write of `v` change a KW field (R423)? One that acts on a written 1 reads 0. -/
def Dev.kwChanges (d : Dev) (a v : Nat) : Bool :=
  match regFields a with
  | none => false
  | some fs => fs.any fun f => f.ty == .kw && bitsAt v f.lo f.width != d.rd ⟨a, f.lo, f.width⟩

/-- A refused KW write is counted (R423). -/
def Dev.guardDenied (d : Dev) : Dev := (d.bump F.SYS_GUARD_DENIED 1).set F.SYS_HQ_STAT_GUARD_EV

/-- Each field of the register at `a` takes a write of `v` by its type (R8, R420); `key` tells that it is the guarded
write. -/
def Dev.writeFields (d : Dev) (a v : Nat) (key : Bool) : Dev :=
  let v := storedAs a v
  let d := d.setWord a v fun f => (f.ty == .rw && !d.reservedNow a f.lo) || (f.ty == .kw && key)
  match regFields a with
  | none => d
  | some fs => fs.foldl (fun d f => if f.ty == .w1c && bitAt v f.lo then d.clr ⟨a, f.lo, f.width⟩ else d) d

/-- The RW fields of a control register, but for its EN in bit 0. -/
def Dev.writeSettings (d : Dev) (a v : Nat) : Dev := d.setWord a (storedAs a v) fun f => f.ty == .rw && f.lo != 0

/-- A write to PAD[i] (R454). -/
def Dev.padWrite (d : Dev) (i v : Nat) : Dev :=
  if !isPad i then d
  else
    let busy := if i < 8 then !d.groupQuiet i
      else if i = 8 then (List.range 8).any fun g => d.bstate g != bOff
      else if 16 ≤ i then d.on (F.PORT_CTL_EN (i - 16))
      else false
    let d := d.when busy (·.set (F.PAD_DENIED i))
    let d := d.when (bitAt v 31) (·.clr (F.PAD_DENIED i))
    if busy then d
    else d.wrs [(F.PAD_DRIVE i, v % 4), (F.PAD_SLEW i, min 2 (v / 4 % 4))]

/-! ### Writes of one block each: `o` is the offset within it -/

/-- A write to MAC[p] (R94, R106, R111, R115, R116, R123). -/
def Chip.writeMac (c : Chip) (p o a v : Nat) : Chip :=
  if o = 0 then
    let c := c.onDev fun d => d.setWord a v fun f => f.ty == .rw && f.lo != 0 && !(decide (2 ≤ p) && f.lo == 1)
    if bitAt v 0 then c.onDev fun d => d.macEnable p else c.macDisable p
  else if o = 0x204 ∨ o = 0x214 then c.onDev fun d => d.rxTail p ((o - 0x204) / 16) (bitsAt v 16 12)
  else if 0x300 ≤ o ∧ o < 0x380 ∧ o % 16 = 4 then c.txTail p ((o - 0x300) / 16) (bitsAt v 16 12)
  else if o = 0x400 then
    c.onDev fun d =>
      let was := d.on (F.MAC_GCL_CTL_EN p)
      let d := d.wr (F.MAC_GCL_CTL_COUNT p) (bitsAt v 2 7)
      if !bitAt v 0 then (d.gclDisable p).when (bitAt v 1) (·.gclLoad p)
      else if was then d.when (bitAt v 1) (·.gclLoad p) else d.gclEnable p
  else if 0x800 ≤ o ∧ o < 0xA00 ∧ c.dev.on (F.MAC_GCL_STATUS_PENDING p) then
    c.onDev fun d => d.set (F.MAC_EVENTS_GATE_ERR p)
  else c.onDev fun d => d.writeFields a v false

/-- A write to FLOW (R131, R143, R146, R148). -/
def Chip.writeFlow (c : Chip) (a v : Nat) : Chip :=
  c.onDev fun d =>
    if a < 0x184000 ∧ a % 0x80 = 0 then
      let f := (a - 0x180000) / 0x80
      let d := d.writeSettings a v
      if bitAt v 0 then d.rxEnable f else d.when (d.on (F.RXF_CTL_EN f)) (·.rxDisable f)
    else if 0x184000 ≤ a ∧ a < 0x188000 ∧ a % 0x80 = 0 then
      let f := (a - 0x184000) / 0x80
      let d := d.writeSettings a v
      if bitAt v 0 then d.txEnable f else d.when (d.on (F.TXF_CTL_EN f)) (·.txDisable f)
    else if 0x184000 ≤ a ∧ a < 0x188000 ∧ a % 0x80 = 0x20 then d.txSeq ((a - 0x184000) / 0x80) (v % 65536)
    else d.writeFields a v false

/-- Free choice of a race that the sender does not decide: a write that meets the next boundary too late. -/
def Dev.race (d : Dev) : Bool × Dev := (d.fresh.1 % 2 == 1, d.fresh.2)

/-- A write of Q[n].EV.RESET: the reset point follows (R203, R204). -/
def Dev.askReset (d : Dev) (n : Nat) : Dev := d.setQ n { d.q n with asked := (d.q n).asked + 1 }

/-- A write to QM or ROUTE (R203, R306). -/
def Chip.writeQm (c : Chip) (a v : Nat) : Chip :=
  c.onDev fun d =>
    if 0x218000 ≤ a then d.race.2.routeWrite ((a - 0x218000) / 4) v d.race.1
    else if a < 0x210000 ∧ a % 16 = 12 ∧ bitAt v 8 then (d.writeFields a v false).askReset ((a - 0x200000) / 16)
    else d.writeFields a v false

/-- A write of MMU.CRES (R224): ABORT takes effect where both bits are written. -/
def Dev.cresWrite (d : Dev) (a v : Nat) : Dev :=
  let d := d.writeFields a v false
  let x := 4 * (v % 16) + bitsAt v 4 2
  if bitAt v 7 then d.ctxAbort x else if bitAt v 6 then d.ctxResume x else d

/-- A write to MMU, DMA or a core (R220, R224, R231, R248). -/
def Chip.writeEngine (c : Chip) (a v : Nat) : Chip :=
  if a = 0x280010 then c.onDev fun d => (d.writeFields a v false).when (bitAt v 10) (·.invGo)
  else if a = 0x280020 then c.onDev fun d => d.cresWrite a v
  else if 0x281000 ≤ a ∧ a < 0x281800 ∧ a % 0x40 < 8 ∧ c.dev.dmaState ((a - 0x281000) / 0x40) ≠ dmaIdle then
    c.onDev fun d => d.when (a % 0x40 == 0) (·.dmaIgnored ((a - 0x281000) / 0x40))
  else if 0x281000 ≤ a ∧ a < 0x281800 ∧ a % 0x40 = 8 then c.dmaCmd ((a - 0x281000) / 0x40) (v % 16)
  else if 0x300000 ≤ a ∧ 0x100 ≤ a % 0x1000 ∧ a % 0x100 = 4 then
    let x := 4 * ((a - 0x300000) / 0x1000) + a % 0x1000 / 0x100 - 1
    if bitAt v 1 then c.onDev fun d => d.taskStop x else if bitAt v 0 then c.taskStart x else c
  else if 0x300000 ≤ a ∧ 0x100 ≤ a % 0x1000 ∧ a % 0x1000 < 0x500 ∧ 0x60 ≤ a % 0x100 ∧ a % 0x100 < 0x70 then
    let x := 4 * ((a - 0x300000) / 0x1000) + a % 0x1000 / 0x100 - 1
    c.onDev fun d => (d.writeFields a v false).perfWritten x (a % 0x100 / 4 - 24)
  else c.onDev fun d => d.writeFields a v false

/-- A write of TWIN.FORCE by the guarded write (R364, R375, R387): its bits act in the order of their numbers. -/
def Dev.forceWrite (d : Dev) (v : Nat) : Dev :=
  let d := if bitAt v 0 then d.fresh.2.forceTake d.fresh.1 else d
  (d.when (bitAt v 1) (·.forceRelease)).when (bitAt v 2) (·.forceHandover)

/-- A write to TWIN or LAM (R383, R394, R405). -/
def Chip.writeTop (c : Chip) (a v : Nat) (key : Bool) : Chip :=
  if a = 0x380010 then c.onDev fun d => d.when key (·.forceWrite v)
  else if a = 0x380034 then
    c.onDev fun d => if bitAt v 1 then d.joinAbort else d.when (bitAt v 0) (·.joinStart)
  else if a = 0x3C0000 then c.lamCmd (v % 16)
  else if a = 0x3C0004 then
    if !key then c
    else
      let c := c.onDev fun d => d.wr F.LAM_GCMD_SLOT (bitsAt v 2 1)
      let c := if bitAt v 0 then c.lamRollback else c
      c.onDev fun d => d.when (bitAt v 1) (·.lamErase (bitsAt v 2 1))
  else c.onDev fun d => d.writeFields a v key

/-- A write to TIME, the time event units, the PLLs or the pads (R38, R50, R52, R58, R62, R68, R80, R81). -/
def Dev.writeClocks (d : Dev) (a v : Nat) (key : Bool) : Dev :=
  if a = 0x10000000 then d.timeCtl v
  else if a = 0x10000014 then d.rateWrite v
  else if a = 0x10000020 then d.anchorWrite v key
  else if a = 0x10000028 then d.when (key && bitAt v 0) (·.timeFree)
  else if 0x10000400 ≤ a ∧ a < 0x10000600 ∧ a % 0x20 = 0 then d.teuCtl ((a - 0x10000400) / 0x20) v
  else if 0x10000400 ≤ a ∧ a < 0x10000600 ∧ a % 0x20 = 0x14 then d.teuTarget ((a - 0x10000400) / 0x20) v
  else if a = 0x20000100 then d.medCtlWrite v
  else if a = 0x20000110 then (d.writeFields a v key).showResidual
  else if a = 0x20000118 then (d.when (bitAt v 0) (·.realignGo)).when (bitAt v 1) (·.realignAccept)
  else if a = 0x20000204 then d.calWrite v
  else if 0x20000300 ≤ a ∧ a < 0x200003C0 then d.padWrite ((a - 0x20000300) / 4) v
  else d.writeFields a v key

/-- A write of MOD.GANG[k].CTL (R325, R332, R336, R423). -/
def Dev.gangCtl (d : Dev) (k v : Nat) (key : Bool) : Dev :=
  let d := d.race.2.invWrite k (bitsAt v 2 1) d.race.1
  if !key then d
  else
    let d := d.wr (F.MOD_GANG_CTL_FLT_MASK k) (bitsAt v 4 4)
    let d := if bitAt v 0 then d.gangRun k else d.race.2.gangStop k d.race.1
    d.when (bitAt v 1) (·.gangClear k)

/-- A write of BST[g].CTL (R354, R357, R423): one that EN, a quiet group or MODE refuses leaves the whole register as it
was. -/
def Dev.bstCtl (d : Dev) (g v : Nat) (key : Bool) : Dev :=
  let new := (d.wr (F.BST_CTL_MODE g) (bitsAt v 1 2)).wr (F.BST_CTL_PHASE g) (bitsAt v 3 4)
  if !key then d.bstWrite g 0 v
  else if !bitAt v 0 then
    if !d.groupQuiet g then d.set (F.BST_EVENTS_CFG_DENIED g)
    else (new.bstDisable g).when (bitAt v 7) (·.bstClear g)
  else if !new.bstOk g then
    d.set (if d.on (F.BST_CTL_EN g) then F.BST_EVENTS_CFG_DENIED g else F.BST_EVENTS_CFG_ERR g)
  else (new.bstEnable g).when (bitAt v 7) (·.bstClear g)

/-- A write to PORT, MOD or BST (R174, R186, R320, R325, R332, R357). -/
def Dev.writePorts (d : Dev) (a v : Nat) (key : Bool) : Dev :=
  if a < 0x30002000 then
    let n := (a - 0x30000000) / 0x100
    match a % 0x100 with
    | 0x00 =>
      let d := d.writeSettings a v
      if bitAt v 0 then d.portEnable n else d.portDisable n
    | 0x0C => d.race.2.maskWrite n false v d.race.1
    | 0x10 => d.race.2.maskWrite n true v d.race.1
    | _ => d.writeFields a v key
  else if a < 0x40000000 then d.writeFields a v key
  else if a < 0x40000100 then
    let o := a % 0x20
    if o < 0x10 then d.when key (·.grpWrite ((a - 0x40000000) / 0x20) o v) else d.writeFields a v key
  else if 0x40000400 ≤ a ∧ a < 0x40000C00 ∧ a % 0x40 = 0 then d.gangCtl ((a - 0x40000400) / 0x40) v key
  else if 0x50000000 ≤ a ∧ a < 0x50000400 ∧ a % 0x80 ≤ 0x28 then
    let g := (a - 0x50000000) / 0x80
    let o := a % 0x80
    if o = 0 then d.bstCtl g v key
    else if o = 0x18 ∨ o = 0x1C ∨ o = 0x24 then d.bstWrite g o v
    else d.when key (·.bstWrite g o v)
  else d.writeFields a v key

/-! ### The mailbox (R425, R426) -/

/-- A write of MBX_REQ by requester `r`. -/
def Dev.mbxRequest (d : Dev) (r v : Nat) (key : Bool) : Dev :=
  if d.on F.SYS_MBX_STAT_BUSY then d.set F.SYS_MBX_STAT_COLLIDE
  else
    let d := (d.writeFields 0x40 v false).wrs [(F.SYS_MBX_STAT_VALID, 0), (F.SYS_MBX_STAT_BUSY, 1)]
    d.modHost fun h => { h with mbx := some (r, key && bitAt v 29) }

/-- A write of a mailbox data register. -/
def Dev.mbxData (d : Dev) (a v : Nat) : Dev :=
  if d.on F.SYS_MBX_STAT_BUSY then d.set F.SYS_MBX_STAT_COLLIDE else d.writeFields a v false

/-- The register that MBX_REQ names. -/
def Dev.mbxTarget (d : Dev) : Option Nat :=
  let s := d.rd F.SYS_MBX_REQ_SEL
  let a := d.rd F.SYS_MBX_REQ_ADDR
  if s = 0 then canonDirect a else if s ≤ 6 then canonInd (s - 1) (a % 65536) else none

/-- Two words of a 64-bit value, the low one first. -/
def halves (v : Nat) : List Nat := [v % 2 ^ 32, v / 2 ^ 32 % 2 ^ 32]

/-- The words of an MB register (R56, R57, R61, R70, R116). -/
def Dev.mbWords (d : Dev) (a : Nat) : List Nat :=
  if a = 0x10000080 then halves d.time.raw
  else if a = 0x10000088 then halves (lowOf 64 d.time.offset) ++ [d.time.frac / 2 ^ 24]
  else if a = 0x10000098 then halves d.time.raw ++ halves (lowOf 64 (d.snapCorr / 2 ^ 40))
  else if a = 0x100000A8 then halves d.mediaShown
  else halves (d.mac ((a - 0x100000) / 0x10000)).gclBase

/-- The request in progress ends: BUSY clears. -/
def Dev.mbxEnd (d : Dev) : Dev := (d.clr F.SYS_MBX_STAT_BUSY).modHost fun h => { h with mbx := none }

/-- A read request completes. -/
def Dev.mbxRead (d : Dev) : Dev :=
  if !d.on F.SYS_MBX_STAT_BUSY || d.on F.SYS_MBX_REQ_WRITE then d
  else match d.mbxTarget with
    | none => d.mbxEnd.set F.SYS_MBX_STAT_ERR
    | some a =>
      if !isMb a then d.mbxEnd.set F.SYS_MBX_STAT_ERR
      else
        let d := d.when (a == 0x100000A8) (·.mediaStep)
        let ws := if d.inReset a then [] else d.mbWords a
        (d.mbxEnd.wrs ((List.range 4).map fun i => (F.SYS_MBX_D_DATA i, ws.getD i 0))).set F.SYS_MBX_STAT_VALID

/-- A write request completes; `override` is that of R65. -/
def Dev.mbxWrite (d : Dev) : Dev :=
  if !d.on F.SYS_MBX_STAT_BUSY || !d.on F.SYS_MBX_REQ_WRITE then d
  else
    let override := match d.sys.host.mbx with | some (_, o) => o | none => false
    let v := d.rd (F.SYS_MBX_D_DATA 0) + 2 ^ 32 * d.rd (F.SYS_MBX_D_DATA 1)
    let d := d.mbxEnd
    match d.mbxTarget with
    | none => d.set F.SYS_MBX_STAT_ERR
    | some a =>
      if a = 0x10000088 then (d.offsetWrite (signedOf 64 v) override).fitCheck
      else if a = 0x100000A8 then (d.mediaWrite v).fitCheck
      else if isMb a && decide (a < 0x10000000) then
        if d.inReset a then d else d.modMac ((a - 0x100000) / 0x10000) fun m => { m with gclBase := v }
      else d.set F.SYS_MBX_STAT_ERR

/-! ### A write of any register -/

/-- The effect of a write that reaches a register outside SYS. -/
def Chip.writeBlock (c : Chip) (a v : Nat) (key : Bool) : Chip :=
  if c.dev.inReset a || (beforeScrub a && !c.dev.sys.scrubbed) || c.dev.absent a || (regFields a).isNone then c
  else
    let c := c.onDev fun d => d.when (!key && d.kwChanges a v) (·.guardDenied)
    if a < 0x140000 then
      (c.writeMac ((a - 0x100000) / 0x10000) (a % 0x10000) a v).ripen ((a - 0x100000) / 0x10000)
    else if a < 0x200000 then c.writeFlow a v
    else if a < 0x280000 then c.writeQm a v
    else if a < 0x380000 then c.writeEngine a v
    else if a < 0x10000000 then c.writeTop a v key
    else if a < 0x20000000 then (c.onDev fun d => (d.writeClocks a v key).fitCheck).ripenAll
    else if a < 0x30000000 then c.onDev fun d => (d.writeClocks a v key).fitCheck
    else c.onDev fun d => d.writePorts a v key

/-- A write of IND_DATA (R418, R423). -/
def Chip.writeInd (c : Chip) (r v : Nat) (key : Bool) : Chip :=
  let q := c.dev.req r
  match canonInd q.space q.offset with
  | none => c.onDev fun d => d.setReq r { q.step with err := true }
  | some a => (c.onDev fun d => d.setReq r q.step).writeBlock a v key

/-- The effect of a write by requester `r` that reaches the register `a`; `key` tells that it is the guarded write. -/
def Chip.writeReg (c : Chip) (r a v : Nat) (key : Bool) : Chip :=
  if 0x100000 ≤ a then c.writeBlock a v key
  else match a with
    | 0x30 => c.onDev fun d => d.setReq r { d.req r with offset := v % 65536 / 4 * 4, space := bitsAt v 16 3 }
    | 0x34 => c.writeInd r v key
    | 0x38 => c.onDev fun d =>
        d.setReq r { d.req r with autoinc := bitAt v 1, err := (d.req r).err && !bitAt v 2 }
    | 0x40 => c.onDev fun d => d.mbxRequest r v key
    | 0x48 => c.onDev fun d => d.mbxData a v
    | 0x4C => c.onDev fun d => d.mbxData a v
    | 0x50 => c.onDev fun d => d.mbxData a v
    | 0x54 => c.onDev fun d => d.mbxData a v
    | _ => c.onDev fun d => d.writeFields a v key

/-- A write of SYS.UNLOCK by requester `r` (R422). -/
def Dev.unlockBy (d : Dev) (r v : Nat) : Dev :=
  if v % 2 ^ 32 = 0x6A95 then d.setReq r { d.req r with armed := true }
  else (d.bump F.SYS_GUARD_BAD_KEY 1).set F.SYS_HQ_STAT_GUARD_EV

/-- The guard of requester `r` disarms: its first write after arming is performed (R422). -/
def Dev.disarm (d : Dev) (r : Nat) : Dev := d.setReq r { d.req r with armed := false }

/-- Requester `r` writes the register `a` (R422): an UNLOCK write acts on the guard, and any other takes it. -/
def Chip.writeBy (c : Chip) (r a v : Nat) : Chip :=
  if a = 0x20 then c.onDev fun d => d.unlockBy r v
  else (c.onDev fun d => d.disarm r).writeReg r a v (c.dev.req r).armed

/-! ### Access by a context (R301) -/

/-- What requester `x + 1` reads at an address form. -/
def Dev.readForm (d : Dev) (x w : Nat) : Dev × Nat :=
  match canonForm w with
  | none => (d, 0)
  | some a => d.readReg (x + 1) a

/-- A write by context `x` to an address form; one that is discarded is still the requester's write (R422). -/
def Chip.writeForm (c : Chip) (x w v : Nat) : Chip :=
  match canonForm w with
  | none => c.onDev fun d => d.disarm (x + 1)
  | some a => c.writeBy (x + 1) a v

end Sys2Proof.Machine
end

