-- ==== Sys2Proof/Machine/HostPort.lean ====
section
/-! DEFINITION. The host's QSPI slave: transactions, the write buffer and the Saltern window (R406 to R417). -/

namespace Sys2Proof.Machine

/-- The host interface answers from the end of the first start-up step (R436), unless the pins are cut (R463). -/
def Dev.hostUp (d : Dev) : Bool := d.time.running && !d.cut

/-- The commands of the host's bus (R407). -/
inductive HostCmd where
  | write | read | qwrite | qread | status
  deriving DecidableEq, Repr

/-- The command that a command byte names, with CMD4 as the transaction began with it; none for an unknown code
(R407). -/
def hostCmd (cmd4 : Bool) : Nat → Option HostCmd
  | 0x02 => some (if cmd4 then .qwrite else .write)
  | 0x0B => some (if cmd4 then .qread else .read)
  | 0x32 => some .qwrite
  | 0xEB => some .qread
  | 0x05 => some .status
  | _ => none

/-- The lanes of a command's byte, and those of its address and data (R407). -/
def HostCmd.lanes (cmd4 : Bool) (k : HostCmd) : Nat × Nat :=
  (if cmd4 then 4 else 1, match k with
    | .qwrite | .qread => 4
    | .status => if cmd4 then 4 else 1
    | _ => 1)

/-- A transaction begins: a write of CMD4 counts from here (R407). -/
def Dev.hostBegin (d : Dev) : Dev := d.modHost fun h => { h with cmd4 := d.on F.SYS_HQ_CFG_CMD4 }

/-- An access in no block and not in the window (R416). -/
def Dev.unmapped (d : Dev) (a : Nat) : Dev := (d.set F.SYS_HQ_STAT_UNMAPPED).wr F.SYS_BAD_ADDR_ADDR (a % 2 ^ 24)

/-- The Saltern byte at which the window's bank begins (R417). -/
def Dev.winBank (d : Dev) : Nat := d.rd F.SYS_WIN_BANK_BANK * 2 ^ 23

/-- The Saltern byte `j` bytes after `s` in the same bank of the window (R411, R417). -/
def bankByte (s j : Nat) : Nat := s / 2 ^ 23 * 2 ^ 23 + (s + j) % 2 ^ 23

/-! ### Writes -/

/-- One byte of a window write: the cell region takes none (R192). -/
def Chip.windowStore (c : Chip) (s : Nat) (b : Byte) : Chip :=
  if s < c.dev.rd F.QM_REGION_CELLS * 256 then c.onDev fun d => d.set F.QM_EVENTS_CELL_WRITE
  else { c with mem := c.mem.setByte s b }

/-- A buffered write is performed at its target (R413, R416, R417, R422, R436). -/
def Chip.perform (c : Chip) : Posted → Chip
  | .word a v => match canonDirect a with
    | none => c.onDev fun d => (d.disarm 0).unmapped a
    | some r => c.writeBy 0 r v
  | .bytes s bs =>
    let c := c.onDev fun d => d.disarm 0
    if !c.dev.sys.scrubbed then c
    else (bs.mapIdx fun j b => (bankByte s j, b)).foldl (fun c p => c.windowStore p.1 p.2) c

/-- The first buffered write is performed. -/
def Chip.performFirst (c : Chip) : Chip :=
  match c.dev.sys.host.buf with
  | [] => c
  | p :: ps => (c.onDev fun d => d.modHost fun h => { h with buf := ps }).perform p

/-- May the bus outpace the write that the buffer performs next: one of IND_DATA to a space of CLK_PORT (R413)? -/
def Dev.slowFirst (d : Dev) : Bool :=
  match d.sys.host.buf with
  | .word a _ :: _ => canonDirect a == some 0x34 && decide (2 ≤ (d.req 0).space) && decide ((d.req 0).space ≤ 4)
  | _ => false

/-- The run of IND_DATA writes in quad form with `p` as the last: it goes on while the buffer holds words (R413). -/
def HostIf.runOf (h : HostIf) (quad : Bool) (p : Posted) : Nat :=
  let ind := match p with | .word a _ => canonDirect a == some 0x34 | .bytes _ _ => false
  if quad && ind then (if h.buf = [] then 0 else h.run) + 1 else 0

/-- A word arrives at the buffer of 32 words, `quad` in quad form (R413): a full buffer has performed its first write by
then, but where a run of more than 128 words outpaces it, which a free value decides. -/
def Chip.post (c : Chip) (quad : Bool) (p : Posted) : Chip :=
  let n := c.dev.sys.host.runOf quad p
  let c := c.onDev fun d => d.modHost fun h => { h with run := n }
  let put := fun (c : Chip) => c.onDev fun d => d.modHost fun h => { h with buf := h.buf ++ [p] }
  if c.dev.sys.host.buf.length < 32 then put c
  else if !c.dev.slowFirst || decide (n ≤ 128) then put c.performFirst
  else
    let r := c.dev.fresh
    if r.1 % 2 = 0 then { c with dev := r.2.set F.SYS_HQ_STAT_WOVF } else put ({ c with dev := r.2 } : Chip).performFirst

/-- Four bytes as a word, the first the most significant. -/
def word4 (bs : List Byte) : Nat := beNat (bs.take 4)

/-- The bytes of a window write, four to a word of the buffer (R412, R413). -/
def Chip.postBytes (quad : Bool) : Nat → Nat → List Byte → Chip → Chip
  | 0, _, _, c => c
  | n + 1, s, bs, c =>
    if bs = [] then c else Chip.postBytes quad n (bankByte s 4) (bs.drop 4) (c.post quad (.bytes s (bs.take 4)))

/-- The words of a register-block write from address `a` (R412); the fuel is their number. An incomplete word sets
PARTIAL. A write that runs on into the window goes on there in bytes, in the bank of its address phase (R417). -/
def Chip.postWords (quad : Bool) (bank : Nat) : Nat → Nat → List Byte → Chip → Chip
  | 0, a, bs, c =>
    if 2 ^ 23 ≤ a then c.postBytes quad bs.length (bank + a % 2 ^ 23) bs
    else c.onDev fun d => d.when (decide (bs ≠ [])) (·.set F.SYS_HQ_STAT_PARTIAL)
  | n + 1, a, bs, c =>
    if 2 ^ 23 ≤ a then c.postBytes quad bs.length (bank + a % 2 ^ 23) bs
    else if bs.length < 4 then c.onDev fun d => d.when (decide (bs ≠ [])) (·.set F.SYS_HQ_STAT_PARTIAL)
    else Chip.postWords quad bank n ((a + 4) % 2 ^ 24) (bs.drop 4) (c.post quad (.word a (word4 bs)))

/-- A write transaction, its data in quad form for QWRITE and where CMD4 stands (R407, R412, R413). -/
def Chip.hostWrite (c : Chip) (quad : Bool) (a : Nat) (bs : List Byte) : Chip :=
  if !c.dev.hostUp then c
  else
    let c := c.onDev Dev.hostBegin
    c.postWords (quad || c.dev.sys.host.cmd4) c.dev.winBank (bs.length / 4) a bs

/-- Every buffered write is performed before a read (R413). The fuel is the buffer's size. -/
def Chip.drainBuffer : Nat → Chip → Chip
  | 0, c => c
  | n + 1, c => Chip.drainBuffer n c.performFirst

/-! ### Reads -/

/-- A word of the window, in the bank of the transaction's address phase (R190, R192, R417, R436). -/
def Chip.windowRead (c : Chip) (bank a : Nat) : Chip × Nat :=
  if !c.dev.sys.scrubbed then (c, 0)
  else
    let at_ := fun j => bankByte (bank + a % 2 ^ 23) j
    let v := beNat ([0, 1, 2, 3].map fun j => c.mem.byte (at_ j))
    match ([0, 1, 2, 3] : List Nat).find? fun j => c.dev.badRow (at_ j) with
    | some j => (c.onDev fun d => (d.patrol (at_ j) 2).set F.SYS_HQ_STAT_RD_ECC, v)
    | none => (c, v)

/-- One word is read, once (R410, R416). -/
def Chip.readOne (c : Chip) (bank a : Nat) : Chip × Nat :=
  if 2 ^ 23 ≤ a then c.windowRead bank a
  else match canonDirect a with
    | none => (c.onDev fun d => d.unmapped a, 0)
    | some r => let p := c.dev.readReg 0 r; (⟨p.1, c.mem⟩, p.2)

/-- The address after `a` (R411). -/
def nextAddr (a : Nat) : Nat := if 2 ^ 23 ≤ a then 2 ^ 23 + (a + 4) % 2 ^ 23 else (a + 4) % 2 ^ 24

/-- `n` words from `a`, and the address after them (R411). -/
def Chip.readWords (bank : Nat) : Nat → Nat → Chip → Chip × List Nat × Nat
  | 0, a, c => (c, [], a)
  | n + 1, a, c =>
    let p := c.readOne bank a
    let r := Chip.readWords bank n (nextAddr a) p.1
    (r.1, p.2 :: r.2.1, r.2.2)

/-- A read of `n` words after the buffered writes (R410, R411, R413), the words in HostIf.out, with the bank of its
address phase and the address that follows. -/
def Chip.readStart (c : Chip) (a n : Nat) : Chip × Nat × Nat :=
  let bank := c.dev.winBank
  let p := (Chip.drainBuffer 32 (c.onDev Dev.hostBegin)).readWords bank n a
  (p.1.onDev fun d => d.modHost fun h => { h with out := p.2.1 }, bank, p.2.2)

/-- A read transaction of `n` words; with `more`, or where no word is taken, one more word is read and abandoned, and
HQ_LASTRD takes it (R410). -/
def Chip.hostRead (c : Chip) (a n : Nat) (more : Bool) : Chip :=
  if !c.dev.hostUp then c
  else
    let r := c.readStart a n
    if more || n == 0 then
      let p := r.1.readOne r.2.1 r.2.2
      p.1.onDev fun d => d.wr F.SYS_HQ_LASTRD_DATA p.2
    else r.1

/-- A read whose data, after `n` words, is not ready by wait cycle 1024; the host clocks `zeros` words of zeros, and
HQ_LASTRD takes the data (R410). -/
def Chip.readTimeout (c : Chip) (a n zeros : Nat) : Chip :=
  if !c.dev.hostUp then c
  else
    let r := c.readStart a n
    let p := r.1.readOne r.2.1 r.2.2
    p.1.onDev fun d => ((d.set F.SYS_HQ_STAT_RD_TIMEOUT).wr F.SYS_HQ_LASTRD_DATA p.2).modHost fun h =>
      { h with out := h.out ++ List.replicate zeros 0 }

/-- STATUS (R407). -/
def Dev.hostStatus (d : Dev) : Dev :=
  if !d.hostUp then d
  else d.hostBegin.modHost fun h => { h with out := [d.view 0 0xC % 65536] }

/-- The command codes of R407. -/
def knownCmd (code : Nat) : Bool := (hostCmd false code).isSome

/-- An unknown command code (R407). -/
def Dev.badCmd (d : Dev) (code : Nat) : Dev :=
  if !d.hostUp || knownCmd code then d
  else (d.hostBegin.set F.SYS_HQ_STAT_BAD_CMD).modHost fun h => { h with out := [] }

end Sys2Proof.Machine
end

