-- ==== Sys2Proof/Machine/Ticks.lean ====
section
/-! DEFINITION. The tick boundary (R23), and the load of MEDIA_COUNT that belongs to it (R70). -/

namespace Sys2Proof.Machine

/-- The counts of a new boundary (R70, R71, R245): a load of the dividers that no earlier one preceded makes it tick
number 0. -/
def Dev.nextTick (d : Dev) : Dev :=
  let first := d.clk.atMark && !d.clk.everLoaded
  let d := { d with tick := d.tick + 1, tickNum := if first then 0 else d.tickNum + 1 }
  d.modClk fun k => { k with everLoaded := k.everLoaded || k.atMark, atMark := false }

/-- MEDIA_COUNT of the new boundary: the held value, or six more than the last (R70). The grid of the groups follows the
tick index (R322, R323). -/
def Dev.nextCount (d : Dev) (old : Nat) : Dev :=
  match d.time.mediaHeld with
  | some _ =>
    let d := d.mediaTake
    d.gridShift ((d.tickIndex : Int) - (old + 1))
  | none => d.modTime fun t => { t with mediaCount := (t.mediaCount + 6) % 2 ^ 64, mediaSub := 0 }

/-- The load of a held MEDIA_COUNT as the count of the boundary that is just coming (R70, R144, R323). -/
def Dev.mediaLoad (d : Dev) : Dev :=
  match d.time.mediaHeld with
  | none => d
  | some _ =>
    let old := d.tickIndex
    let d := d.mediaTake
    let d := d.gridShift ((d.tickIndex : Int) - (old + 1))
    d.modTime fun t => { t with mediaCount := (t.mediaCount + 2 ^ 64 - 6) % 2 ^ 64 }

/-- The device's part of a boundary before playout: the counts, the media time of the boundary, the packets that enter
their consumers' view, the rail targets, and the end of the output tick's clips (R23, R24, R254, R297, R327). -/
def Dev.tickStart (d : Dev) : Dev :=
  let old := d.tickIndex
  let d := d.nextTick.nextCount old
  let d := d.modTime fun t => { t with tickAt := d.media16 }
  (d.showQueues d.tick).deliverEnv.clipTick.cyclesZero

/-- TICK_BOUNDARY (R23): the due route bindings are judged and every block's deadline checked; then playout, the
packetiser and the releases. From a SWITCH boundary to its record step no binding is judged (R313). At a SWITCH
boundary and in its drain nothing is released, played out or sent, and the record step of R392 comes at B + 2 (R399);
at the end of a realignment's drain no deadline is checked, and the releases follow the drain's end (R52). The twin
logic, a timed switch and the media clock's validity follow the boundary. -/
def Chip.tickBoundary (c : Chip) : Chip :=
  let c := c.onDev Dev.tickStart
  let stops := c.dev.switchDue
  let ends := c.dev.realignEnds
  let c := if stops || (c.dev.sys.lam.drain.isSome && !c.dev.sys.lam.recorded) then c else c.onDev fun d => d.routeApply
  let c := c.onDev fun d => d.each (d.saps.map (·.1)) Dev.releaseHeld
  let c := if ends then c else c.onDev fun d => d.deadlines
  let c := if stops || c.dev.net.draining then c else c.playout.packetise.ripenAll
  let c := c.onDev fun d => d.each allCtx fun d x => d.wake x
  let c := if stops || ends || c.dev.sys.lam.drain.isSome then c.switchRecord else c.releases
  c.onDev fun d => d.gangsDue.twinTick.groupsFree.armTick.fitCheck

end Sys2Proof.Machine
end

