-- ==== Sys2Proof/Machine/Startup.lean ====
section
/-! DEFINITION. Whole-chip reset, the supply monitor, unit resets and the test access port (R429 to R445, R462,
R463). -/

namespace Sys2Proof.Machine

/-! ### Whole-chip reset -/

/-- The chip in reset: everything but the flash, the pins' own levels and the test port is as after RESET_N (R431). -/
def Chip.hardReset (c : Chip) : Chip :=
  let d := c.dev
  let j := { Jtag.init with ir := d.sys.jtag.ir }
  ⟨{ Dev.reset with resetN := d.resetN, supplyOk := d.supplyOk, missing := d.missing, freeCtr := d.freeCtr,
                    sys := { Sys.init with jtag := j } }, ⟨[], c.mem.flash⟩⟩

/-- A low pulse on RESET_N of `ns` nanoseconds so far (R431). -/
def Chip.resetAssert (c : Chip) (ns : Nat) : Chip :=
  if ns < 50 then c else { c with dev := { c.dev with resetN := false } }.hardReset

/-- The straps are sampled (R434); CMD4 resets to HQ_MODE (R407) and TWIN.CFG shows ROLE (R360). -/
def Dev.strap (d : Dev) (role boot hqMode bypass : Bool) : Dev :=
  d.wrs [(F.SYS_STRAPS_ROLE, bit role), (F.SYS_STRAPS_BOOT, bit boot), (F.SYS_STRAPS_HQ_MODE, bit hqMode),
    (F.SYS_STRAPS_XTAL_BYPASS, bit bypass), (F.SYS_HQ_CFG_CMD4, bit hqMode), (F.TWIN_CFG_ROLE, bit role)]

/-- RESET_N rises (R434, R435): it is a rise only out of reset, or where nothing has started since reset. -/
def Dev.resetRise (d : Dev) (role boot hqMode bypass : Bool) : Dev :=
  if d.resetN && d.time.running then d
  else ({ d with resetN := true }).strap role boot hqMode bypass

/-- VDD_CORE or VDD_IO18 falls below its threshold (R430): the chip is held in reset, the test port too. -/
def Chip.supplyFail (c : Chip) : Chip :=
  let c := { c with dev := { c.dev with supplyOk := false } }.hardReset
  c.onDev fun d => d.modJtag fun _ => Jtag.init

/-- Both supplies are back (R430). -/
def Dev.supplyBack (d : Dev) : Dev := { d with supplyOk := true }

/-! ### Unit resets -/

/-- Every field of the registers whose address satisfies `p` takes its reset value (R9, R442). -/
def Dev.clearRegs (d : Dev) (p : Nat → Bool) : Dev := { d with regs := d.regs.filter fun e => !p (e.1 / 32) }

/-- Does the code name a unit (R441)? -/
def Dev.unitExists (d : Dev) (kind index : Nat) : Bool :=
  match kind with
  | 1 => decide (index < 4)
  | 2 => decide (index < 128)
  | 3 => decide (index < 128)
  | 4 => decide (index < 16)
  | 5 => decide (index < 32)
  | 6 => decide (index < 32) && decide (0 < d.gangSize index)
  | 7 => decide (index < 8)
  | 8 => decide (index < 16)
  | _ => false

/-- Is `a` a register that a unit reset keeps (R442)? FREE is the port's free list itself, which R444 fills again. -/
def keptAt (a : Nat) : Bool :=
  decide (0x300000 ≤ a) && decide (a < 0x310000) &&
    (a % 0x1000 == 0 || (decide (0x100 ≤ a % 0x1000) && a % 0x100 == 0))

/-- The unit's fields return to their reset values. -/
def Dev.unitFields (d : Dev) (kind index : Nat) : Dev :=
  d.clearRegs fun a => unitOf a == some (kind, index) && !keptAt a

/-- The producer's credit view of queue `q` is GRANT minus the cells held (R204, R443). -/
def Dev.creditNotice (d : Dev) (q : Nat) : Dev := d.setQ q { d.q q with crossing := 0 }

/-- A partly popped packet at the front of queue `q` loses its remaining words (R443). -/
def Dev.dropBegun (d : Dev) (q : Nat) : Dev := (d.dropPackets q (·.begun)).1

/-- A MAC port's reset (R442, R444): the frame on the line ends with its FCS inverted, and its descriptor is completed
with status 5 as those in the rings are. POOL.FREE, not marked as kept, is 0 again, and counts the cells that come back
after it. -/
def Chip.resetMac (c : Chip) (p : Nat) : Chip :=
  let c := match (c.dev.mac p).line with
    | none => c
    | some l =>
      let r := c.dev.fresh
      let c : Chip :=
        { c with dev := r.2.modMac p fun m => { m with line := none, last := some { l with bytes := cutFrame l.bytes r.1 } } }
      match l.desc with
      | some a => c.completeAt p a 5 none
      | none => c
  let c := c.flushTx p
  c.onDev fun d =>
    let d := (d.mac p).rx.foldl (fun d x => d.addRake (.ring p) x.cells) d
    (d.setMac p { Mac.init with last := (d.mac p).last }).unitFields 1 p

/-- Is the task that context `k` waits for or runs a free one? One that waits in IDLE has a periodic one. -/
def Ctx.isFree (k : Ctx) : Bool :=
  match k.task, k.copy with
  | some t, _ => t.free
  | none, .good t => t.free
  | none, _ => k.run != .idle

/-- A core's reset (R443, R444): its contexts, its TLB and instruction cache, and the DMA channels that its contexts
own. The counts of the end actions stand after the reset of the core's fields. -/
def Chip.resetCore (c : Chip) (k : Nat) : Chip :=
  let c := c.onDev fun d => (d.unitFields 4 k).each [0, 1, 2, 3] fun d i =>
    let x := 4 * k + i
    let t := (d.ctx x).task
    let ins := match t with | some t => t.ins.map (·.queue) | none => []
    let outs := (match t with | some t => t.outs.map (·.queue) | none => []) ++ (d.ctx x).made
    let free := (d.ctx x).isFree
    let on := decide ((d.ctx x).run ≠ .off)
    let d := if free || (d.ctx x).run == .idle || !on then d.flushDmaExc x else d.endActions x
    let opens := ((d.ctx x).outSlots.filter fun s => s.2.isOpen && !s.2.excess).map (·.1)
    let d := d.each opens Dev.abandonOpen
    let d := (d.each (ins ++ (d.ctx x).popping) Dev.dropBegun).each outs Dev.creditNotice
    (d.modCtx x fun k => { Ctx.init with run := if on && !free then .idle else .off, task := if free then none else t,
                                         copy := k.copy, lastRel := k.lastRel,
                                         restart := d.ctxEnabled x && free }).setReq (x + 1) Requester.init
  let c := (List.range 32).foldl (fun c ch =>
    if c.dev.rd (F.DMA_CTL_OWNER_CORE ch) = k then c.dmaAbort ch else c) c
  c.onDev fun d =>
    { (d.setTlb k []).setLines k [] with perf := d.perf.filter fun p => p.1 / 16 != k }

/-- A receive flow's reset (R444). -/
def Dev.resetRx (d : Dev) (f : Nat) : Dev :=
  let n := match (d.rxf f).cfg with | some c => c.ch | none => 0
  let d := d.rxDisable f
  let d := d.each (List.range n) fun d i => match d.bound (epRx f i) with
    | some q => d.creditNotice q
    | none => d
  (d.unitFields 2 f).shadows.groups

/-- A transmit flow's reset (R444). -/
def Dev.resetTx (d : Dev) (f : Nat) : Dev := (d.txDisable f).unitFields 3 f

/-- A serial port's reset (R444): its pins are high-Z at once. It produces the queues of its input lanes alone (R443). -/
def Dev.resetPort (d : Dev) (n : Nat) : Dev :=
  let d := d.each [0, 1] fun d b => match if (d.sap n).out (b == 1) then none else d.bound (epLane n (b == 1)) with
    | some q => d.creditNotice q
    | none => d
  ((((d.portDisable n).portOff n).unitFields 5 n).portCap).aesCheck

/-- A gang's reset (R12, R444): its gates go off and it is OFF, and its pairs' debouncers start anew. -/
def Dev.resetGang (d : Dev) (k : Nat) : Dev :=
  let d := d.toState k gOff
  let d := { d with drive := { d.drive with flt := d.drive.flt - d.fltLive k * 2 ^ k } }
  ((d.setGang k Gang.init).unitFields 6 k).allDown (k / 4)

/-- A rail controller's reset (R444): the gate is low, and the group's switching gangs are held. -/
def Dev.resetBst (d : Dev) (g : Nat) : Dev :=
  let d := d.each (d.members g) fun d k => d.gangHold k
  let d := ((d.bstTo g bOff).setBst g Bst.init).unitFields 7 g
  d.setBst g { d.bst g with cfg := d.bstRegs g }

/-- A time event unit's reset (R444): its pin and its class are released. -/
def Dev.resetTeu (d : Dev) (u : Nat) : Dev :=
  let t := d.teu u
  (((d.setTeu u Teu.init).unitFields 8 u).when t.launchAct (·.freeClass t.port t.cls)).launchDenials

/-- A unit's reset point (R442 to R444). -/
def Chip.resetUnit (c : Chip) (kind index : Nat) : Chip :=
  match kind with
  | 1 => c.resetMac index
  | 2 => c.onDev fun d => d.resetRx index
  | 3 => c.onDev fun d => d.resetTx index
  | 4 => c.resetCore index
  | 5 => c.onDev fun d => d.resetPort index
  | 6 => c.onDev fun d => d.resetGang index
  | 7 => c.onDev fun d => d.resetBst index
  | 8 => (c.onDev fun d => d.resetTeu index).ripenAll
  | _ => c

/-- A unit's generation advances by one modulo 16 (R442). -/
def Jtag.advance (j : Jtag) (kind index : Nat) : Jtag :=
  let k := 1024 * kind + index
  { j with gens := Sparse.set (fun _ => 0) j.gens k ((Sparse.get (fun _ => 0) j.gens k + 1) % 16) }

/-- Update-DR under UNIT_RESET (R441). -/
def Chip.unitReset (c : Chip) (kind index : Nat) : Chip :=
  let c := c.onDev fun d => d.modJtag fun j => { j with ir := .unitReset, kind := kind, index := index }
  if c.dev.unitExists kind index then
    (c.resetUnit kind index).onDev fun d => d.modJtag fun j =>
      ({ j with done := false, refused := false,
                busy := if j.busy.contains (kind, index) then j.busy else (kind, index) :: j.busy }).advance kind index
  else c.onDev fun d => d.modJtag fun j => { j with done := false, refused := true }

/-- The 256 cycles of a unit's reset have passed (R441, R442, R464). -/
def Dev.unitResetDone (d : Dev) (kind index : Nat) : Dev :=
  if !d.sys.jtag.busy.contains (kind, index) then d
  else d.modJtag fun j =>
    { j with busy := j.busy.filter (· != (kind, index)),
             done := j.done || (j.kind == kind && j.index == index) }

/-- The 16 bits that Capture-DR of UNIT_RESET gives (R441). -/
def Jtag.capture (j : Jtag) : Nat := bit j.done * 2 ^ 15 + bit j.refused * 2 ^ 14 + j.kind * 2 ^ 10 + j.index

/-! ### The test access port -/

/-- The instruction that a code of the 8-bit instruction register gives; a code not listed acts as BYPASS (R462). -/
def jtagIr : Nat → JtagIr
  | 0x00 => .extest
  | 0x01 => .idcode
  | 0x02 => .samplePreload
  | 0x05 => .highz
  | 0x06 => .clamp
  | 0x20 => .unitReset
  | _ => .bypass

/-- The data registers of the test access port (R462). -/
inductive JtagData where
  | boundary | identity | bypass | unitReset
  deriving DecidableEq, Repr

/-- The data register that an instruction selects (R462). -/
def JtagIr.data : JtagIr → JtagData
  | .extest | .samplePreload => .boundary
  | .idcode => .identity
  | .unitReset => .unitReset
  | .highz | .clamp | .bypass => .bypass

/-- The 32 bits of the identification register: STEP, the part and the maker (R462). -/
def idCode : Nat := Config.siliconStep % 16 * 2 ^ 28 + 0x6432 * 2 ^ 12 + 0x2C9 * 2 + 1

/-- What Capture-DR gives under an instruction, with its width: the boundary register takes the levels of the 1.8 V
pins, `pins` by cell, the first at bit 0, and the bypass register takes 0 (R441, R462). -/
def Jtag.captureDr (j : Jtag) (pins : Nat) : Nat × Nat :=
  match j.ir.data with
  | .identity => (32, idCode)
  | .unitReset => (16, j.capture)
  | .bypass => (1, 0)
  | .boundary => (Config.scanLength, pins % 2 ^ Config.scanLength)

/-- A cycle of Shift-DR in a register of `n` bits that holds `v`: TDO shows bit 0, and TDI enters at the top (R462). -/
def shiftDr (n v : Nat) (tdi : Bool) : Bool × Nat := (bitAt v 0, v % 2 ^ n / 2 + bit tdi * 2 ^ (n - 1))

/-- The level of TDO, which is high-Z outside Shift-DR and Shift-IR (R462). -/
def tdoPin (shifting : Bool) (v : Nat) : Option Bool := if shifting then some (bitAt v 0) else none

/-- A JTAG instruction becomes current (R462, R463): it acts while the chip has its supplies, in reset or not. -/
def Dev.select (d : Dev) (i : JtagIr) : Dev := d.modJtag fun j => { j with ir := i }

end Sys2Proof.Machine
end

