-- ==== Sys2Proof/Machine/State.lean ====
section
/-! DEFINITION. The state of the model: the chip and the queue of commands that wait, with the reasons a step stops
and the state after reset. -/

namespace Sys2Proof.Machine

/-- The whole state: the chip, and the commands waiting, first in, first out. -/
structure State where
  chip    : Chip
  pending : List Instr
  deriving DecidableEq, Repr

/-- The machine right after reset (R9, R431, R435): no command waits. -/
def State.reset : State := ⟨Chip.reset, []⟩

/-- Why a step stops with a fault: nothing does, since the spec gives every command of the table an effect. -/
inductive Fault : Type
  deriving DecidableEq, Repr

/-- Why a step is refused. -/
inductive Refusal where
  /-- A command that has no meaning yet; raised by its arm alone. Safe: nothing is claimed of it. -/
  | notModelled (mnemonic : String)
  deriving DecidableEq, Repr

/-- The outcome of a command. -/
abbrev Out := Host.Outcome State Fault Refusal

/-- A command takes effect on the chip while RESET_N is high and the supplies hold (R430, R431). -/
def State.run (s : State) (f : Chip → Chip) : Out :=
  .next (if s.chip.dev.resetN && s.chip.dev.supplyOk then { s with chip := (f s.chip).settleCells } else s)

/-- A command that changes no memory. -/
def State.dev (s : State) (f : Dev → Dev) : Out := s.run fun c => c.onDev f

end Sys2Proof.Machine
end

