-- ==== Sys2Proof/Machine/Ops.lean ====
section
/-! DEFINITION. The operations that the commands' meanings share: how a command reaches the chip, a unit in reset, an
ill-formed operand, and a requester's access by its address form. -/

namespace Sys2Proof.Machine

/-- A command to a unit: one that a unit reset holds answers nothing (R442, R443). -/
def State.unit (s : State) (kind index : Nat) (f : Chip → Chip) : Out :=
  s.run fun c => if c.dev.unitHeld kind index then c else f c

/-- A command to Ethernet port `p`; what is eligible to be sent is judged anew after it (R119, R120). -/
def State.port (s : State) (p : Nat) (f : Chip → Chip) : Out := s.unit 1 p fun c => (f c).ripen p

/-- A command to time event unit `u`; what is eligible to be sent is judged anew after it (R119, R120). -/
def State.teu (s : State) (u : Nat) (f : Dev → Dev) : Out := s.unit 8 u fun c => (c.onDev f).ripenAll

/-- A command whose operands name nothing that the spec describes (WellFormed refuses it) changes nothing
(notes/assumptions/10.md). -/
def State.checked (s : State) (ok : Bool) (o : Out) : Out := if ok then o else .next s

/-- What a pin brings in does not reach the functional logic while a JTAG instruction cuts it from the pins (R463). -/
def State.fromPin (s : State) (o : Out) : Out := if s.chip.dev.cut then .next s else o

/-- A JTAG instruction: the test port works while the supplies hold, whatever RESET_N does (R430, R462). -/
def State.jtag (s : State) (i : JtagIr) : Out :=
  .next (if s.chip.dev.supplyOk then { s with chip := s.chip.onDev fun d => d.select i } else s)

/-- The kinds of access that a page walk serves. -/
def accessOf (k : Fin 3) : Access := match k with
  | 0 => .load
  | 1 => .store
  | 2 => .fetch

/-- Set or clear context `x`'s bit of CORE[c].HALT (R248). -/
def Dev.haltBit (d : Dev) (x : Nat) (b : Bool) : Dev :=
  let v := d.rd (F.CORE_HALT_HALT (x / 4))
  let rest := v - bit (bitAt v (x % 4)) * 2 ^ (x % 4)
  d.wr (F.CORE_HALT_HALT (x / 4)) (rest + bit b * 2 ^ (x % 4))

/-- A requester acts: the host, number 0, only while its interface answers, and after its buffered writes (R413, R436,
R463). -/
def Chip.asRequester (c : Chip) (r : Nat) (f : Chip → Chip) : Chip :=
  if r ≠ 0 then f c else if !c.dev.hostUp then c else f (Chip.drainBuffer 32 c)

/-- Does an access of requester `r` reach the Saltern window? That is the host's alone (R416, R417). -/
def inWindow (r w : Nat) : Bool := r == 0 && decide (2 ^ 23 ≤ w) && decide (w < 2 ^ 24)

/-- Requester `r` writes the register at an address form of R301; the host's address outside every block is recorded
(R301, R416, R417, R422). -/
def Chip.formWrite (c : Chip) (r w v : Nat) : Chip :=
  if inWindow r w then c.perform (.bytes (c.dev.winBank + w % 2 ^ 23) (beBytes 4 v))
  else match canonForm w with
  | none => c.onDev fun d => (d.disarm r).when (r == 0) (·.unmapped w)
  | some a => c.writeBy r a v

/-- Requester `r` reads the register at an address form; the host's data goes to the bus (R301, R410, R416, R417,
R420). -/
def Chip.formRead (c : Chip) (r w : Nat) : Chip :=
  let show_ := fun (p : Dev × Nat) => p.1.when (r == 0) fun d => d.modHost fun h => { h with out := [p.2] }
  if inWindow r w then
    let p := c.windowRead c.dev.winBank w
    p.1.onDev fun d => show_ (d, p.2)
  else match canonForm w with
  | none => c.onDev fun d => show_ (d.when (r == 0) (·.unmapped w), 0)
  | some a => c.onDev fun d => show_ (d.readReg r a)

end Sys2Proof.Machine
end

