-- ==== Sys2Proof/Machine/ExecBoost.lean ====
section
/-! DEFINITION. The meanings of the commands of the rail controllers (R346 to R358). -/

namespace Sys2Proof.Machine

/-- A boost EN rise is refused or enters START (R357). -/
def execBstEnable (g : Fin 8) (s : State) : Out := s.unit 7 g fun c => c.onDev fun d => d.bstEnable g

/-- A boost EN write of 0 sends the controller OFF or is refused (R357). -/
def execBstDisable (g : Fin 8) (s : State) : Out := s.unit 7 g fun c => c.onDev fun d => d.bstDisable g

/-- A CLEAR write releases a LATCHED controller (R354). -/
def execBstClear (g : Fin 8) (s : State) : Out := s.unit 7 g fun c => c.onDev fun d => d.bstClear g

/-- A write to a boost limit or loop register is applied or refused with CFG_DENIED (R357). -/
def execBstConfigWrite (g : Fin 8) (reg : Fin 11) (v : Word) (s : State) : Out :=
  s.unit 7 g fun c => c.onDev fun d => d.bstWrite g (4 * reg) v.toNat

/-- After 16 settled carrier cycles the controller enters RUN and sets READY (R354). -/
def execBstReady (g : Fin 8) (s : State) : Out := s.unit 7 g fun c => c.onDev fun d => d.bstReady g

/-- The peak-current comparator trips and ends the boost gate's on-time (R348). -/
def execIsnsTrip (g : Fin 8) (level t : Nat) (s : State) : Out :=
  s.fromPin <| s.unit 7 g fun c => c.onDev fun d => d.isnsTrip g level t

/-- MAXD elapses and ends the boost gate's on-time (R348). -/
def execMaxOnTime (g : Fin 8) (t : Nat) (s : State) : Out := s.unit 7 g fun c => c.onDev fun d => d.maxOnTime g t

/-- Bits of the VSNS stream arrive: a rail sample above OVP latches the controller and holds its gangs (R355). -/
def execBstOvervoltage (g : Fin 8) (bits : List Bool) (s : State) : Out :=
  s.unit 7 g fun c => c.onDev fun d =>
    let r := d.pinBits bits
    r.2.railBits g r.1

/-- UV, ILIM, FREQ or drain stops the controller and holds its gangs (R355). -/
def execBstStop (g : Fin 8) (cause : Fin 4) (s : State) : Out :=
  s.unit 7 g fun c => c.onDev fun d => d.bstStop g (cause + 2)

/-- A constant VSNS stream for 1024 cycles marks the sense lost and stops the controller (R347). -/
def execSenseLost (g : Fin 8) (s : State) : Out := s.unit 7 g fun c => c.onDev fun d => d.senseLost g

/-- After RESTART_MS a stopped controller returns to START (R354). -/
def execBstRestart (g : Fin 8) (s : State) : Out := s.unit 7 g fun c => c.onDev fun d => d.bstRestart g

end Sys2Proof.Machine
end

