-- ==== Sys2Proof/Machine/ExecClock.lean ====
section
/-! DEFINITION. The meanings of the commands of the PLLs and the media clock (R30 to R53, R472). -/

namespace Sys2Proof.Machine

/-- SYSPLL declares lock after 1024 good PFD cycles, starting its clocks and TIME.RAW after the first acquisition
(R30). -/
def execSysPllLock (s : State) : Out := s.dev fun d => d.sysLock.fitCheck

/-- SYSPLL declares lock lost after 16 consecutive PFD cycles with edges more than 4 ns apart (R30). -/
def execSysPllLockLost (s : State) : Out := s.dev fun d => d.sysLockLost.fitCheck

/-- With no XTAL_IN edge for 8 PFD periods SYSPLL sets REF_LOST, tri-states its charge pump and holds its VCO (R32). -/
def execSysPllRefLost (s : State) : Out := s.dev fun d => d.sysRefLost

/-- After 1024 PFD periods of resumed XTAL_IN edges SYSPLL selects its band again, closes the loop and sets REACQUIRED
(R32). -/
def execSysPllReacquire (s : State) : Out := s.dev fun d => d.sysReacquire

/-- A write to SYSPLL.SPREAD.EN requests spreading of CLK_SYS to be switched on or off (R33). -/
def execSpreadWrite (en : Bool) (s : State) : Out := s.dev fun d => d.wr F.SYSPLL_SPREAD_EN (bit en)

/-- The requested spread state takes effect at the next point where the triangle is at 312.5 MHz (R33). -/
def execSpreadApply (s : State) : Out := s.dev fun d => d.spreadApply

/-- A PLL's tuning voltage crossing 0.35 V or 1.45 V in closed mode changes VT_LOW or VT_HIGH and sets VT_EV (R45). -/
def execVtChange (med low high : Bool) (s : State) : Out :=
  s.checked (!(low && high)) <| s.dev fun d => d.vtChange med low high

/-- A 256-period measurement of the MEDPLL reference ends and decides whether the reference is valid (R35). -/
def execRefMeasurement (offset : Int) (s : State) : Out := 
  s.dev fun d => if d.cut && d.clk.active.sel != 0 then d else (d.refMeasured offset).fitCheck

/-- The selected reference stops being valid, and MEDPLL falls back to the SMR or coasts (R42). -/
def execMedpllRefLost (s : State) : Out := s.dev fun d => d.refLost.fitCheck

/-- A returning external reference is measured at its first valid tick mark and its offset is added to RESIDUAL or
refused (R51). -/
def execMedpllRefReturn (offset : Int) (s : State) : Out := s.dev fun d => (d.refReturn offset).fitCheck

/-- MEDPLL declares lock after 4096 good PFD cycles and sets LOCKED (R36). -/
def execMedpllLock (s : State) : Out := s.dev fun d => d.medLock.soloCheck.fitCheck

/-- MEDPLL declares lock lost after 16 PFD cycles with edges more than 32 ns apart and sets LOCK_LOST (R36). -/
def execMedpllLockLost (s : State) : Out := s.dev fun d => d.medLockLost.fitCheck

/-- At the first tick mark after lock is regained in closed mode MEDPLL measures the tick offset and slews or refuses
it (R472). -/
def execLockReturnOffset (offset : Int) (s : State) : Out := s.dev fun d => (d.lockReturn offset).fitCheck

/-- The per-tick count of CLK_PORT against CLK_TIME raises or clears FREQ_ALARM (R37). -/
def execFreqAlarmCheck (count : Nat) (s : State) : Out := s.dev fun d => (d.freqCheck count).fitCheck

/-- A write to MEDPLL.CTL changes mode, reference or band, starting an acquisition or being refused with MODE_DENIED
(R39). -/
def execMedpllCtlWrite (v : Word) (s : State) : Out := s.dev fun d => (d.medCtlWrite v.toNat).fitCheck

/-- A reference change written in closed mode takes effect at the next signal-side tick boundary (R41). -/
def execRefChangeApply (s : State) : Out := s.dev fun d => d.refChange.fitCheck

/-- At the first tick mark after lock MEDPLL loads every signal-side divider, placing the signal-side tick (R40). -/
def execDividerLoad (k : Int) (s : State) : Out := s.dev fun d => (d.dividerLoad k).fitCheck

/-- A write of PLL.CAL.START begins a count of CLK_EDGE cycles at a chosen band and tuning voltage, or is refused
(R39). -/
def execCalStart (band : BitVec 5) (vt : BitVec 2) (s : State) : Out :=
  s.dev fun d => d.calWrite (1 + 4 * band.toNat + 128 * vt.toNat)

/-- A calibration measurement ends, placing its count in PLL.CAL_COUNT and setting DONE (R38). -/
def execCalDone (count : Nat) (s : State) : Out := s.dev fun d => d.calDone count

/-- RESIDUAL moves one 1/16 ns step towards zero at no more than SLEW_MAX ppm (R50). -/
def execResidualSlewStep (s : State) : Out := s.dev fun d => d.slewStep.fitCheck

/-- A write of MEDPLL.REALIGN.ACCEPT takes a refused external jump into RESIDUAL (R51). -/
def execRealignAccept (s : State) : Out := s.dev fun d => d.realignAccept.fitCheck

/-- A write of MEDPLL.REALIGN.GO commands a realignment at the next tick boundary or is refused or absorbed (R52). -/
def execRealignGo (s : State) : Out := s.dev fun d => d.realignGo.fitCheck

/-- At the realignment boundary every gang plays half duty and REALIGN_PENDING stays set (R52). -/
def execRealignDrainStart (s : State) : Out := s.dev fun d => d.realignStart

/-- At B + 2 ticks RESIDUAL is zeroed, MEDPLL reacquires, every queue is reset and periodic tasks are ended (R52). -/
def execRealignDrainEnd (s : State) : Out := s.run fun c => c.realignEnd.onDev fun d => d.fitCheck

/-- A die-temperature measurement completes every 1 ms and updates PLL.TEMP; VALID is set after the first one (R55). -/
def execTempMeasurement (t : Int) (s : State) : Out := s.dev fun d => d.tempMeasured t

end Sys2Proof.Machine
end

