-- ==== Sys2Proof/Machine/PhPins.lean ====
section
/-! DEFINITION. The levels of the pins PHn_H and PHn_L: gates between the commanded edges with their dead time (R317,
R328 to R330) and the pins that carry them (R342). -/

namespace Sys2Proof.Machine

/-- The high and the low gate of a phase at an instant, from its commanded edges in order of time, each with whether
the phase goes high at it; all in eighths of a CLK_EDGE cycle, with the dead time `dt` in cycles. After an edge at t
the gate that turns on goes high at t + DT/2, and before the next edge it goes low at t − DT/2; an on-interval between
two commanded edges of DT cycles or less is left out (R330). After the last edge known, a gate that is on by then may
turn off from `next` − DT/2 on, before an edge of the cycle that begins at `next`: whether it has is `still`. -/
def gateLevels (dt : Nat) (next : Int) (still : Bool) : List (Int × Bool) → Int → Bool × Bool
  | (a, up) :: (b, up') :: rest, x =>
    if b ≤ x then gateLevels dt next still ((b, up') :: rest) x
    else
      let on := decide (8 * (dt : Int) < b - a) && decide (a + 4 * dt ≤ x) && decide (x < b - 4 * dt)
      (on && up, on && !up)
  | [(a, up)], x =>
    let on := decide (a + 4 * (dt : Int) ≤ x) && (decide (x < next - 4 * dt) || still)
    (on && up, on && !up)
  | [], _ => (false, false)

/-- The gang that holds phase `ph`, and the phase's place in it (R318). -/
def Dev.phaseOf (d : Dev) (ph : Nat) : Option (Nat × Nat) :=
  (d.allGangs.find? fun k => decide (2 * k ≤ ph) && decide (ph < 2 * k + d.gangSize k)).map fun k => (k, ph - 2 * k)

/-- The commanded edges of member `m` of gang `k` in order, in eighths of a CLK_EDGE cycle from the start of the
group's running carrier cycle: those of its cycles that the gang holds, after the start of the first of them, from
which the phase is low (R329, R333). -/
def Dev.edgesOf (d : Dev) (k m : Nat) : List (Int × Bool) :=
  let g := d.gang k
  let div := d.rd (F.MOD_GRP_CARRIER_DIV (k / 4))
  let cycles := ((g.edges :: g.before).zipIdx.filterMap fun c => c.1[m]?.map fun e => (e, (8 * div * c.2 : Nat))).reverse
  match cycles with
  | [] => []
  | c :: _ =>
    ((displacement div (d.gangSize k) m : Int) - c.2, false) ::
      (cycles.map fun c => [((c.1.1 : Int) - c.2, true), ((c.1.2 : Int) - c.2, false)]).flatten

/-- The gates of phase `ph`, `x` eighths of a CLK_EDGE cycle after the start of the running carrier cycle of its
group, back into the cycle before it; both are off where the gang does not switch, and from the member's own cycle on
where its gates end with the running cycle (R317, R330, R332, R335). The edges of a cycle are known as it starts, and a
dead time that begins before a rise at its very start is a free value until then. -/
def Dev.gatesAt (d : Dev) (ph : Nat) (x : Int) : Bool × Bool :=
  match d.phaseOf ph with
  | none => (false, false)
  | some (k, m) =>
    let g := k / 4
    let from_ := displacement (d.rd (F.MOD_GRP_CARRIER_DIV g)) (d.gangSize k) m
    if (d.gang k).ends = .running ∧ (from_ : Int) ≤ x then (false, false)
    else
      gateLevels (d.rd (F.MOD_GRP_CFG_DT g)) (from_ + 8 * d.rd (F.MOD_GRP_CARRIER_DIV g) : Nat)
        (Config.free d.freeCtr % 2 == 1) (d.edgesOf k m) x

/-- The levels of PHn_H and PHn_L at that instant, none where the pins are high-Z (R317, R342). -/
def Dev.phPins (d : Dev) (ph : Nat) (x : Int) : Option (Bool × Bool) :=
  if d.drivesPh (ph / 8) then some (d.gatesAt ph x) else none

end Sys2Proof.Machine
end

