-- ==== Sys2Proof/Machine/ExecDrive.lean ====
section
/-! DEFINITION. The meanings of the commands of the Drive Engine (R317 to R344). -/

namespace Sys2Proof.Machine

/-- A RUN write of 1 arms an OFF gang (R332). -/
def execGangRun (k : Fin 32) (s : State) : Out := s.unit 6 k fun c => c.onDev fun d => d.gangRun k

/-- A RUN write of 0 sends an armed or held gang OFF or makes a stop pending (R335). -/
def execGangStop (k : Fin 32) (late : Bool) (s : State) : Out :=
  s.unit 6 k fun c => c.onDev fun d => d.gangStop k late

/-- A CLEAR write releases a LATCHED gang to ARMED or OFF (R332). -/
def execGangClear (k : Fin 32) (s : State) : Out := s.unit 6 k fun c => c.onDev fun d => d.gangClear k

/-- An armed gang is released at half duty at a carrier cycle start once all conditions hold (R333). -/
def execGangRelease (k : Fin 32) (s : State) : Out := s.unit 6 k fun c => c.onDev fun d => d.gangRelease k

/-- A released gang enters PLAYING one tick after release (R334). -/
def execGangPlay (k : Fin 32) (s : State) : Out := s.unit 6 k fun c => c.onDev fun d => d.gangPlay k

/-- At the stop boundary the gang enters STOPPING with zero input (R335). -/
def execGangStopping (k : Fin 32) (s : State) : Out := s.unit 6 k fun c => c.onDev fun d => d.gangStopping k

/-- At the gates-off point each member's gates go off and the gang goes OFF or ARMED (R335). -/
def execGangGatesOff (k : Fin 32) (s : State) : Out := s.unit 6 k fun c => c.onDev fun d => d.gatesOff k

/-- 64 CLK_PORT cycles after an output tick boundary the Drive Engine fetches each gang's packet or substitutes zeros
(R16). -/
def execGangFetch (s : State) : Out := s.dev fun d => d.fetchAll

/-- A group carrier cycle starts, taking V_rail and running the compensator and the members' edge schedules (R322). -/
def execCarrierCycleStart (g : Fin 8) (bits : List Bool) (late : Bool) (edge : Nat) (errs : List Nat)
    (s : State) : Out :=
  s.checked (errs.length ≤ 8) <| s.dev fun d =>
    let r := d.pinBits bits
    r.2.carrierStart g r.1 late edge errs

/-- A debounced FLT assertion turns off the gang's gates and sends it to FAULT_HOLD or LATCHED (R336). -/
def execFaultDecided (levels : BitVec 32) (s : State) : Out :=
  s.fromPin <| s.dev fun d => d.faultDecided levels.toNat

/-- At the restart boundary the gang returns to ARMED, goes OFF or fails its retry (R337). -/
def execFaultRestart (k : Fin 32) (s : State) : Out := s.unit 6 k fun c => c.onDev fun d => d.faultRestart k

/-- A group's delay-tap calibration leaves its range, clearing CAL_OK (R331). -/
def execCalLoss (g : Fin 8) (s : State) : Out := s.dev fun d => d.calLoss g

/-- A group's delay-tap calibration returns within its range and CAL_OK is set again, which allows gang releases under
R333 (R331). -/
def execCalOkRestored (g : Fin 8) (s : State) : Out := s.dev fun d => d.calRestored g

/-- A write to a group's carrier or configuration is applied or refused with CFG_DENIED (R344). -/
def execGrpConfigWrite (g : Fin 8) (reg : Fin 4) (v : Word) (s : State) : Out :=
  s.dev fun d => d.grpWrite g (4 * reg) v.toNat

end Sys2Proof.Machine
end

