-- ==== Sys2Proof/Machine/ExecEngine.lean ====
section
/-! DEFINITION. The meanings of the commands of pages, invalidations, DMA channels and tasks (R211 to R263). -/

namespace Sys2Proof.Machine

/-- A page walk completes, filling a TLB entry and setting A, or faulting (R217). The reply to a core that a unit reset
holds is discarded: its generation no longer matches, and every reply from before the reset ends within it (R442,
R443). -/
def execPageWalkDone (x : Fin 64) (va : Word) (kind : Fin 3) (spec : Bool) (s : State) : Out :=
  s.unit 4 (x / 4) fun c => c.ctxWalk x va.toNat (accessOf kind) spec

/-- A write of MMU.INV.GO starts an invalidation of the chosen scope, or is refused with INV_DENIED (R220). -/
def execTlbInvalidate (op : BitVec 2) (asid : BitVec 8) (s : State) : Out :=
  s.dev fun d => (d.wrs [(F.MMU_INV_OP, op.toNat), (F.MMU_INV_ASID, asid.toNat)]).invGo

/-- An invalidation completes, BUSY clears and INV_DONE is set (R220). -/
def execInvDone (s : State) : Out := s.dev fun d => d.invDone

/-- MMU.CRES.RESUME restarts a FAULTED context at the faulting instruction (R224). -/
def execContextResume (x : Fin 64) (s : State) : Out := s.dev fun d => d.ctxResume x

/-- MMU.CRES.ABORT ends a FAULTED context's task as OVERRUN does (R224). -/
def execContextAbort (x : Fin 64) (s : State) : Out := s.dev fun d => d.ctxAbort x

/-- KICK starts an idle channel at DESC or fences a running one (R231). -/
def execDmaKick (ch : Fin 32) (s : State) : Out := s.dev fun d => d.dmaKick ch

/-- FENCE discards a running channel's prefetched descriptors (R233). -/
def execDmaFence (ch : Fin 32) (s : State) : Out := s.dev fun d => d.dmaFence ch

/-- RESUME retranslates and continues a FAULTED channel from DONE_BYTES (R232). -/
def execDmaResume (ch : Fin 32) (s : State) : Out := s.dev fun d => d.dmaResume ch

/-- ABORT completes stores of popped words, writes W6 with CODE 1 and returns the channel to IDLE (R234). -/
def execDmaAbort (ch : Fin 32) (s : State) : Out := s.run fun c => c.dmaAbort ch

/-- A channel fetches its current descriptor, refusing a bad one with CODE 2 and entering ERROR (R228). -/
def execDmaDescFetch (ch : Fin 32) (s : State) : Out := s.run fun c => c.dmaFetch ch

/-- A descriptor finishes, W6 is written and the channel continues at NEXT or goes IDLE (R229). -/
def execDmaDescComplete (ch : Fin 32) (s : State) : Out := s.run fun c => c.dmaDescComplete ch

/-- A channel faults, records its fault and delivers it to a running owner or to FAULTQ (R231). -/
def execDmaFault (ch : Fin 32) (s : State) : Out := s.run fun c => c.dmaFaultNow ch

/-- A mode-2 channel retries an empty-queue pop after 16 cycles (R229). -/
def execDmaPopRetry (ch : Fin 32) (s : State) : Out := s.run fun c => c.dmaPopRetry ch

/-- A running owner takes a DMA-fault exception at an instruction boundary, saving EPC and ECAUSE (R263). -/
def execDmaFaultException (x : Fin 64) (s : State) : Out := s.dev fun d => d.dmaException x

/-- A periodic task not completed at its deadline is stopped and counted in OVERRUN (R258). -/
def execTaskDeadline (x : Fin 64) (s : State) : Out := s.dev fun d => d.taskDeadline x

/-- X[x].CMD.START starts a free task from OFF with zeroed state (R248). -/
def execTaskStart (x : Fin 64) (s : State) : Out := s.unit 4 (x / 4) fun c => c.taskStart x

/-- X[x].CMD.STOP stops a free task and abandons its open packets (R248). -/
def execTaskStop (x : Fin 64) (s : State) : Out := s.unit 4 (x / 4) fun c => c.onDev fun d => d.taskStop x

/-- Setting a CORE.HALT bit stops the context at its next instruction boundary or interrupt point (R248). -/
def execHaltSet (x : Fin 64) (s : State) : Out := s.unit 4 (x / 4) fun c => c.onDev fun d => d.haltBit x true

/-- Clearing a CORE.HALT bit returns the context to its state before halting (R248). -/
def execHaltClear (x : Fin 64) (s : State) : Out := s.unit 4 (x / 4) fun c => c.onDev fun d => d.haltBit x false

end Sys2Proof.Machine
end

