-- ==== Sys2Proof/Machine/ExecEth.lean ====
section
/-! DEFINITION. The meanings of the commands of the Ethernet ports (R92 to R123). -/

namespace Sys2Proof.Machine

/-- A rise of MAC[p].CTL.EN takes MODE and AN_EN and starts the port (R94). -/
def execMacEnable (p : Fin 4) (s : State) : Out := s.port p fun c => c.onDev fun d => d.macEnable p

/-- A fall of CTL.EN stops reception at a frame boundary and completes queued descriptors with status 5 (R123). -/
def execMacDisable (p : Fin 4) (s : State) : Out := s.port p fun c => c.macDisable p

/-- LINK_UP changes with PCS lock, faults or auto-negotiation and sets LINK_CHG (R95). -/
def execLinkChange (p : Fin 4) (line : BitVec 6) (s : State) : Out :=
  s.port p fun c => c.onDev fun d => d.linkChange p line.toNat

/-- Clause 37 auto-negotiation completes and sets AN_DONE (R95). -/
def execAnComplete (p : Fin 4) (page : BitVec 16) (s : State) : Out :=
  s.port p fun c => c.onDev fun d => d.anComplete p page.toNat

/-- A received frame is checked, filtered and classified to a control ring, the flow engine or MAC control handling
(R101). -/
def execFrameReceive (p : Fin 4) (bytes : List Byte) (errs : LineErrors) (ovf : Bool) (bad : Option (BitVec 26)) (ago : Nat)
    (s : State) : Out :=
  s.port p fun c => c.receive p bytes errs.symbol errs.align ovf (bad.map (·.toNat)) ago

/-- A pause's time runs out and classes 0 to 3 may start frames again (R114). -/
def execPauseExpire (p : Fin 4) (s : State) : Out := s.port p fun c => c.onDev fun d => d.pauseExpire p

/-- A write of RXR PTR.TAIL releases descriptors, handing their cells to the rake, or is refused with RING_ERR (R106). -/
def execRxrTailWrite (p : Fin 4) (r : Fin 2) (tail : BitVec 12) (s : State) : Out :=
  s.port p fun c => c.onDev fun d => d.rxTail p r tail.toNat

/-- A write of TXR PTR.TAIL queues filled transmit descriptors in their class (R111). -/
def execTxrTailWrite (p : Fin 4) (cl : Fin 8) (tail : BitVec 12) (s : State) : Out :=
  s.port p fun c => c.txTail p cl tail.toNat

/-- The highest eligible class head frame starts on the line, or is completed with status 2 or 3 or 4 (R113). -/
def execFrameTransmitStart (p : Fin 4) (sfd : Nat) (s : State) : Out := s.port p fun c => c.transmitStart p sfd

/-- A frame ends on the line and its descriptor is completed with stamp and status (R111). -/
def execFrameTransmitDone (p : Fin 4) (ecc : Bool) (s : State) : Out := s.port p fun c => c.transmitDone p ecc

/-- Corrected time reaches a head frame's launch time, making it eligible or, past LATE_LIMIT, dropping it with status
1 (R120). -/
def execLaunchTimeReached (p : Fin 4) (cl : Fin 8) (s : State) : Out := s.port p fun c => c.launchReached p cl

/-- An EN rise or CTL.LOAD write takes the gate list and CYCLE as the pending list (R116). -/
def execGclLoad (p : Fin 4) (rise : Bool) (s : State) : Out :=
  s.port p fun c => c.onDev fun d => if rise then d.gclEnable p else d.gclLoad p

/-- The pending gate list becomes the operating list at its first cycle start (R116). -/
def execGclSwitch (p : Fin 4) (s : State) : Out := s.port p fun c => c.onDev fun d => d.gclSwitch p

/-- A gate list entry's interval ends and the next entry's mask takes over (R115). -/
def execGclEntryAdvance (p : Fin 4) (s : State) : Out := s.port p fun c => c.onDev fun d => d.gclEntry p

/-- The transmit side enters low-power idle when every condition of R122 holds (R122). -/
def execLpiEnter (p : Fin 4) (s : State) : Out := s.port p fun c => c.lpiEnter p

/-- The transmit side leaves LPI when a frame becomes eligible or at the wake deadline (R122). -/
def execLpiExit (p : Fin 4) (s : State) : Out := s.port p fun c => c.lpiExit p

end Sys2Proof.Machine
end

