-- ==== Sys2Proof/Machine/ExecFlow.lean ====
section
/-! DEFINITION. The meanings of the commands of the audio flows (R125 to R150). -/

namespace Sys2Proof.Machine

/-- The flow engine checks a flow frame and writes its sample frames to the jitter ring as late, early, duplicate or
written (R137). -/
def execFlowPacketAccept (s : State) : Out := s.run fun c => c.flowAccept

/-- A receive flow's EN rise is refused or starts clearing its ring and loads its route entries (R148). -/
def execRxfEnable (f : Fin 128) (s : State) : Out := s.unit 2 f fun c => c.onDev fun d => d.rxEnable f

/-- The ring clear completes, READY is set and the paths pass from OFF to WAITING (R136). -/
def execRxfReady (f : Fin 128) (s : State) : Out := s.unit 2 f fun c => c.rxReady f

/-- A receive flow's EN fall sends every path OFF and clears READY (R143). -/
def execRxfDisable (f : Fin 128) (s : State) : Out := s.unit 2 f fun c => c.onDev fun d => d.rxDisable f

/-- A path's deadline is evaluated 2480 cycles after D and a path without arrival goes LOST (R143). -/
def execPathDeadline (f : Fin 128) (path : Fin 2) (s : State) : Out :=
  s.unit 2 f fun c => c.onDev fun d => d.pathDeadline f path

/-- A transmit flow's EN rise is refused or starts the flow at its first packet boundary a tick later (R148). -/
def execTxfEnable (f : Fin 128) (s : State) : Out := s.unit 3 f fun c => c.onDev fun d => d.txEnable f

/-- A transmit flow's EN fall stops its packets (R148). -/
def execTxfDisable (f : Fin 128) (s : State) : Out := s.unit 3 f fun c => c.onDev fun d => d.txDisable f

/-- A write of TXF SEQ.NEXT while enabled sets the number of the next packet built (R146). -/
def execTxfSeqWrite (f : Fin 128) (v : BitVec 16) (s : State) : Out :=
  s.unit 3 f fun c => c.onDev fun d => d.txSeq f v.toNat

end Sys2Proof.Machine
end

