-- ==== Sys2Proof/Machine/ExecHost.lean ====
section
/-! DEFINITION. The meanings of the commands of the host interface and register access (R406 to R426). -/

namespace Sys2Proof.Machine

/-- QSPI command 0x02 writes words on one lane (R407). -/
def execWrite (addr : BitVec 24) (bytes : List Byte) (s : State) : Out :=
  s.run fun c => c.hostWrite false addr.toNat bytes

/-- QSPI command 0x0B reads words with wait and ready token (R408). -/
def execRead (addr : BitVec 24) (got : Nat × Bool) (s : State) : Out :=
  s.run fun c => c.hostRead addr.toNat got.1 got.2

/-- QSPI command 0x32 writes words on four lanes (R407). -/
def execQwrite (addr : BitVec 24) (bytes : List Byte) (s : State) : Out :=
  s.run fun c => c.hostWrite true addr.toNat bytes

/-- QSPI command 0xEB reads words on four lanes with wait and token (R408). -/
def execQread (addr : BitVec 24) (got : Nat × Bool) (s : State) : Out :=
  s.run fun c => c.hostRead addr.toNat got.1 got.2

/-- QSPI command 0x05 returns HQ_STAT without side effects (R407). -/
def execStatus (s : State) : Out := s.dev fun d => d.hostStatus

/-- An unknown command code is ignored until HQ_CS_N rises and sets BAD_CMD (R407). -/
def execBadCmd (code : BitVec 8) (s : State) : Out := s.dev fun d => d.badCmd code.toNat

/-- Data not ready by wait cycle 1024 sends zeros and sets RD_TIMEOUT (R410). -/
def execReadTimeout (addr : BitVec 24) (got : Nat × Nat) (s : State) : Out :=
  s.run fun c => c.readTimeout addr.toNat got.1 got.2

/-- A buffered write is performed at its target in order of arrival (R413). -/
def execPostedWritePerform (s : State) : Out := s.run fun c => c.performFirst

/-- A write to a register with no row of its own applies its fields by type (R420). -/
def execRegisterWrite (r : Fin 65) (addr v : Word) (s : State) : Out :=
  s.run fun c => c.asRequester r fun c => c.formWrite r addr.toNat v.toNat

/-- A read of an RC field returns its value and resets it (R420). -/
def execRcRead (r : Fin 65) (addr : Word) (s : State) : Out :=
  s.run fun c => c.asRequester r fun c => c.formRead r addr.toNat

/-- A write of SYS.IND_DATA writes the named indirect register and advances OFFSET (R418). -/
def execIndDataWrite (r : Fin 65) (v : Word) (s : State) : Out :=
  s.run fun c => c.asRequester r fun c => c.writeBy r 0x34 v.toNat

/-- A read of SYS.IND_DATA reads the named indirect register and advances OFFSET (R418). -/
def execIndDataRead (r : Fin 65) (s : State) : Out := s.run fun c => c.asRequester r fun c => c.formRead r 0x34

/-- A write of SYS.UNLOCK arms the requester's guard or counts a bad key (R422). -/
def execUnlock (r : Fin 65) (v : Word) (s : State) : Out :=
  s.run fun c => c.asRequester r fun c => c.writeBy r 0x20 v.toNat

/-- A mailbox read request snapshots an MB register into the data registers (R425). -/
def execMbxReadReq (s : State) : Out := s.dev fun d => d.mbxRead

/-- A mailbox write request applies the data registers to an MB register (R425). -/
def execMbxWriteReq (s : State) : Out := s.dev fun d => d.mbxWrite

end Sys2Proof.Machine
end

