-- ==== Sys2Proof/Machine/ExecLam.lean ====
section
/-! DEFINITION. The meanings of the commands of Laminate (R389 to R404). -/

namespace Sys2Proof.Machine

/-- LAM LOAD reads the staged header and checks its format (R394). -/
def execLoad (s : State) : Out := s.run fun c => c.lamLoad

/-- LAM VERIFY starts the checks of the staged image (R396). -/
def execVerify (s : State) : Out := s.dev fun d => d.lamVerify

/-- VERIFY completes with VERIFY_OK or VERIFY_FAIL and a result code (R396). -/
def execVerifyDone (s : State) : Out := s.run fun c => c.verifyDone

/-- LAM ARM chooses the switch boundary and begins EARLY copies (R397). -/
def execArm (s : State) : Out := s.run fun c => c.lamArm

/-- LAM DISARM drops the staged image (R394). -/
def execDisarm (s : State) : Out := s.dev fun d => d.lamDisarm

/-- LAM CONFIRM closes the confirm window and enters STEADY (R401). -/
def execConfirm (s : State) : Out := s.dev fun d => d.lamConfirm

/-- LAM SAVE writes the current image to a flash slot or is refused (R403). -/
def execSave (s : State) : Out := s.dev fun d => d.lamSave

/-- A guarded GCMD.ROLLBACK switches back to the previous layer or is refused (R402). -/
def execRollback (s : State) : Out := s.run fun c => c.lamRollback

/-- A guarded GCMD.ERASE erases a flash slot or is refused (R403). -/
def execErase (slot : Fin 2) (s : State) : Out := s.dev fun d => d.lamErase slot

/-- The EARLY data copies of an armed layer complete (R398). -/
def execEarlyCopyDone (s : State) : Out := s.run fun c => c.earlyDone

/-- At the switch boundary tasks, DMA, flows and ports stop and gangs play half duty (R399). -/
def execSwitchDrainStart (s : State) : Out := s.run fun c => c.switchDrain

/-- At B + 2 ticks the new layer is in force and SWITCHED is set (R399). -/
def execSwitchDrainEnd (s : State) : Out := s.run fun c => c.switchEnd

/-- The confirm window expires and triggers an automatic rollback or lapses (R401). -/
def execConfirmWindowExpire (s : State) : Out := s.run fun c => c.windowExpire

/-- A SAVE or ERASE finishes with SAVE_DONE or SAVE_FAIL (R403). -/
def execFlashDone (ok : Bool) (s : State) : Out := s.run fun c => c.flashDone ok

end Sys2Proof.Machine
end

