-- ==== Sys2Proof/Machine/PortPins.lean ====
section
/-! DEFINITION. What the pins of a serial audio port carry: the roles of each mode (R167, R187), the frame sync and
the slots bit by bit (R169, R170, R178), and the AES3 subframes that DB sends (R182). -/

namespace Sys2Proof.Machine

/-- The role of a pin (R167). -/
inductive PinRole where
  | input | output | highZ
  deriving DecidableEq, Repr

/-- A lane's role in modes 0 to 2. -/
def PinRole.ofOut (out : Bool) : PinRole := if out then .output else .input

/-- The roles of SAPn_BCK, SAPn_FS, SAPn_DA and SAPn_DB: a port that does not run drives none of them and reads none
(R167, R187). -/
def Sap.pins (p : Sap) : List PinRole :=
  if p.run ≠ .running then [.highZ, .highZ, .highZ, .highZ]
  else match p.mode with
    | 3 | 5 => [.output, .highZ, .input, .input]
    | 4 => [.highZ, .highZ, .input, .output]
    | _ => [PinRole.ofOut p.master, PinRole.ofOut p.master, PinRole.ofOut p.aOut, PinRole.ofOut p.bOut]

/-- CLK_PORT cycles in a cycle of the clock that a master drives on SAPn_BCK (R169, R178), and its cycles in a frame. -/
def Sap.bckCycles (p : Sap) : Nat := if p.mode ≤ 2 then 2 ^ (p.bckDiv + 2) else p.period / p.bits
def Sap.frameBits (p : Sap) : Nat := p.period / p.bckCycles

/-- Where slot `s` begins, in BCK cycles after the frame start, in a frame whose second FS edge comes in cycle `e`
(R170): a master drives that edge at half the frame (`fsLevel`), a slave meets its sender's. -/
def Sap.slotStart (p : Sap) (e s : Nat) : Nat :=
  match p.mode with
  | 0 => 1 + s * e
  | 1 => s * e
  | _ => bit p.delay + s * p.width

/-- The level of SAPn_FS in BCK cycle `i` of a frame of `f` cycles (R170): I2S has it low and left-justified high for
slot 0, TDM high for one cycle, and FS_POL inverts it. -/
def Sap.fsLevel (p : Sap) (f i : Nat) : Bool :=
  (match p.mode with
   | 0 => decide (f / 2 ≤ i % f)
   | 1 => decide (i % f < f / 2)
   | _ => decide (i % f = 0)) != p.fsPol

/-- Does output data change on the rising edge of SAPn_BCK; input data is sampled on the other edge (R170)? -/
def Sap.changesOnRise (p : Sap) : Bool := p.bckPol

/-- The slot that holds BCK cycle `i` of a frame whose second FS edge comes in cycle `e`: the one that began last, also
where an early edge cuts the one before it short. -/
def Sap.slotAt (p : Sap) (e i : Nat) : Option Nat :=
  (List.range p.slots).reverse.find? fun s => decide (p.slotStart e s ≤ i) && decide (i < p.slotStart e s + p.width)

/-- What an output lane drives in BCK cycle `i` of its frame, the frame before it having had `f` cycles and both their
second FS edge in cycle `e`: the bit of a slot of this frame, else of a slot of the frame before that runs over into
this one (the last bit of slot 1 where I2S slots fill the frame), most significant first, or in every other cycle, those
before the first frame's slots too, what CTL.IDLE selects; none is high-Z (R170, R173). -/
def Sap.outBit (p : Sap) (b : Bool) (f e i : Nat) : Option Bool :=
  let idle := if p.idle then none else some false
  let slot := fun (shown : List (Option Nat)) (i s : Nat) => match shown.getD s none with
    | none => none
    | some v => some (bitAt v (p.width - 1 - (i - p.slotStart e s)))
  match p.slotAt e i, p.slotAt e (f + i) with
  | some s, _ => slot (p.lane b).shown i s
  | none, some s => if (p.lane b).before = [] then idle else slot (p.lane b).before (f + i) s
  | none, none => idle

/-- The value of an input slot from the bits sampled from a frame's start on, most significant first, in a frame whose
second FS edge comes in cycle `e`. The bits go on into the next frame as far as a slot runs over into it; none where the
frame ends before the slot does, or the next slot begins before it (R170, R171). -/
def Sap.slotOf (p : Sap) (e s : Nat) (bits : List Bool) : Option Nat :=
  let room := if s + 1 < p.slots then min p.width (p.slotStart e (s + 1) - p.slotStart e s) else p.width
  let l := (bits.drop (p.slotStart e s)).take room
  if l.length < p.width then none else some (l.foldl (fun v b => 2 * v + bit b) 0)

/-- The preambles of AES3 (R180, R182). -/
inductive Preamble where
  | x | y | z
  deriving DecidableEq, Repr

/-- The frame in progress of the block that DB sends: 0 begins with a Z preamble (R182). -/
def Sap.blockFrame (p : Sap) : Nat := (p.zpos + 191) % 192

/-- A subframe that DB sends, the second one where `y`: its preamble and time slots 4 to 31, the audio field least
significant bit first, V and U 0, the C bit of the block's frame and P for even parity (R182). -/
def Sap.subframe (p : Sap) (y : Bool) : Preamble × List Bool :=
  let v := (p.laneB.shown.getD (bit y) none).getD 0
  let c := bitAt (p.csTx.getD (p.blockFrame / 8) 0) (p.blockFrame % 8)
  let l := ((List.range 24).map fun i => bitAt v i) ++ [false, false, c]
  (if y then .y else if p.blockFrame = 0 then .z else .x, l ++ [l.foldl Bool.xor false])

/-- Biphase-mark levels of bits, two for each bit, after a cell that ended at level `l` (R182). -/
def biphase : Bool → List Bool → List Bool
  | _, [] => []
  | l, b :: bs => (!l) :: (if b then l else !l) :: biphase (if b then l else !l) bs

end Sys2Proof.Machine
end

