-- ==== Sys2Proof/Machine/ExecPort.lean ====
section
/-! DEFINITION. The meanings of the commands of the serial audio ports (R167 to R187). -/

namespace Sys2Proof.Machine

/-- A port EN rise is refused or resets its lane queues and schedules the start at the next tick boundary (R186). -/
def execPortEnable (n : Fin 32) (s : State) : Out := s.unit 5 n fun c => c.onDev fun d => d.portEnable n

/-- At the next tick boundary the port starts, with first time points a tick later (R186). -/
def execPortStart (n : Fin 32) (s : State) : Out := s.unit 5 n fun c => c.onDev fun d => d.portStart n

/-- A port EN fall stops the port at its next frame start and makes its pins high-Z (R187). -/
def execPortDisable (n : Fin 32) (s : State) : Out := s.unit 5 n fun c => c.onDev fun d => d.portDisable n

/-- A write of MASK_DA or MASK_DB sets the pending mask of a lane (R174). -/
def execMaskWrite (n : Fin 32) (db : Bool) (mask : Word) (late : Bool) (s : State) : Out :=
  s.unit 5 n fun c => c.onDev fun d => d.maskWrite n db mask.toNat late

/-- A master port starts a frame at a sample boundary, capturing pending masks (R170). -/
def execPortFrameStart (n : Fin 32) (s : State) : Out := s.unit 5 n fun c => c.onDev fun d => d.portFrame n

/-- A slave port detects its synchronised FS edge as a frame start and checks its phase (R171). -/
def execSlaveFrameStart (n : Fin 32) (j phase : Nat) (short : Bool) (s : State) : Out :=
  s.fromPin <| s.unit 5 n fun c => c.onDev fun d => d.slaveFrame n j phase short

/-- An input lane pushes its frame's selected slots as one packet after the last selected slot completes (R176). -/
def execInputPacketPush (n : Fin 32) (db : Bool) (slots : List (Option Nat)) (status : Bool) (s : State) : Out :=
  s.checked (slots.length ≤ 32) <| s.unit 5 n fun c => c.onDev fun d =>
    let r := d.pinSlots slots
    r.2.inputPush n db r.1 status

/-- An unlocked input lane pushes a packet of zeros at each time point (R176). -/
def execSynthPacketPush (n : Fin 32) (db : Bool) (s : State) : Out :=
  s.unit 5 n fun c => c.onDev fun d => d.synthPush n db

/-- An output lane takes the packet of a time point at t + 64 cycles, zero-filling on underrun (R177). -/
def execOutputPacketTake (n : Fin 32) (db : Bool) (s : State) : Out :=
  s.unit 5 n fun c => c.onDev fun d => d.outputTake n db

/-- A 256-frame measuring window ends and sets MEAS, DEV and the rate class (R184). -/
def execRateWindowEnd (n : Fin 32) (cycles media : Nat) (s : State) : Out :=
  s.checked (cycles != 0 && media != 0) <| s.unit 5 n fun c => c.onDev fun d => d.rateWindow n cycles media

/-- No frame start for 1 ms sets the rate class to absent (R184). -/
def execRateAbsent (n : Fin 32) (s : State) : Out := s.unit 5 n fun c => c.onDev fun d => d.rateAbsent n

/-- A port in Locking becomes Locked at the next tick boundary and switches to real packets (R185). -/
def execPortLock (n : Fin 32) (s : State) : Out := s.unit 5 n fun c => c.onDev fun d => d.portLock n

/-- 256 error-free frames end the biphase error mute (R180). -/
def execBpUnmute (n : Fin 32) (s : State) : Out := s.unit 5 n fun c => c.onDev fun d => d.bpUnmute n

/-- A 192-frame channel-status block ends and is checked and stored in CS_RX (R181). -/
def execCsBlockEnd (n : Fin 32) (bytes : List Nat) (s : State) : Out :=
  s.checked (bytes.length == 24) <| s.unit 5 n fun c => c.onDev fun d => d.csBlock n bytes

/-- 4096 frames after the last burst frame the non-audio mute ends (R183). -/
def execNaHoldExpire (n : Fin 32) (s : State) : Out := s.unit 5 n fun c => c.onDev fun d => d.naExpire n

end Sys2Proof.Machine
end

