-- ==== Sys2Proof/Machine/ExecQueue.lean ====
section
/-! DEFINITION. The meanings of the commands of queues, the rake and routes (R189 to R209, R304 to R313). -/

namespace Sys2Proof.Machine

/-- A producer pushes a word, taking a cell if needed or discarding the packet for lack of credit (R198). -/
def execQueuePush (q : Fin 4096) (data : Word) (e : Bool) (k : Fin 3) (s : State) : Out :=
  s.dev fun d => (d.push q ⟨data, e, k⟩ none).1

/-- A consumer pops a word of a closed packet or gets a not-valid read with a reason (R201). -/
def execQueuePop (q : Fin 4096) (s : State) : Out := s.dev fun d => (d.pop q).1

/-- A closed packet's count crosses to the consumer's clock and enters its view (R202). -/
def execPacketVisible (q : Fin 4096) (s : State) : Out := s.dev fun d => d.packetVisible q

/-- A released cell crosses to the producer's clock and returns to its credit (R202). -/
def execCreditReturn (q : Fin 4096) (s : State) : Out := s.dev fun d => d.creditReturn q

/-- A write of Q[n].EV.RESET requests a reset of the queue (R203). -/
def execQueueResetWrite (q : Fin 4096) (s : State) : Out := s.dev fun d => d.askReset q

/-- At the reset point the count is zeroed, EPOCH advances, cells pass to the rake and a credit-reset notice is sent
(R204). -/
def execQueueReset (q : Fin 4096) (s : State) : Out := s.dev fun d => d.askedReset q

/-- A pointer mismatch, uncorrectable cell error or broken chain forces a reset and places the queue in error (R208). -/
def execForcedReset (q : Fin 4096) (cause : Fin 4) (addr : BitVec 26) (s : State) : Out :=
  s.dev fun d => d.forcedReset q (cause + 1) addr.toNat

/-- The owner scan completes and the queue's ERR clears (R208). -/
def execOwnerScanEnd (q : Fin 4096) (s : State) : Out := s.dev fun d => d.ownerScanEnd q

/-- The rake returns one cell of a reset queue or released frame to its free list (R206). -/
def execRakeCellReturn (s : State) : Out := s.dev fun d => d.rakeCell

/-- The patrol scrubber reads one row and rewrites it if corrected (R191). -/
def execPatrolScrub (addr : BitVec 26) (found : Fin 4) (s : State) : Out := s.dev fun d => d.patrol addr.toNat found

/-- A packet of a parked queue is popped and discarded at the end of its arrival tick (R311). -/
def execParkedDiscard (q : Fin 4096) (s : State) : Out := s.dev fun d => d.parkedDiscard q

/-- A ROUTE[e] write becomes the entry's pending binding with its captured mode and boundary (R306). -/
def execRouteWrite (e : BitVec 15) (v : Word) (late : Bool) (s : State) : Out :=
  s.checked (isEndpoint e.toNat) <| s.dev fun d => d.routeWrite e.toNat v.toNat late

/-- Pending bindings due at a boundary are judged together and accepted or refused (R308). -/
def execRouteApply (s : State) : Out := s.dev fun d => d.routeApply

end Sys2Proof.Machine
end

