-- ==== Sys2Proof/Machine/ExecStart.lean ====
section
/-! DEFINITION. The meanings of the commands of start-up, reset and the test port (R429 to R445, R453, R462). -/

namespace Sys2Proof.Machine

/-- A low pulse of 50 ns or more on RESET_N resets the whole chip and loses all Saltern contents (R431). -/
def execResetNAssert (lowNs : Nat) (s : State) : Out := .next { s with chip := s.chip.resetAssert lowNs }

/-- The rising edge of RESET_N samples the straps and starts the boot sequence (R435). -/
def execResetNRise (role boot hqMode xtalBypass : Bool) (s : State) : Out :=
  .next { s with chip := if s.chip.dev.supplyOk then s.chip.onDev fun d => d.resetRise role boot hqMode xtalBypass
    else s.chip.onDev fun d => { d with resetN := true } }

/-- VDD_CORE or VDD_IO18 falling below its threshold holds the chip in reset and makes every output high-Z within 100
ns (R430). -/
def execSupplyFail (s : State) : Out := .next { s with chip := s.chip.supplyFail }

/-- VDD_CORE and VDD_IO18 return above their monitor thresholds, and the internal monitor stops holding the chip in
reset (R430). -/
def execSupplyRestored (s : State) : Out := .next { s with chip := s.chip.onDev Dev.supplyBack }

/-- The Saltern scrub completes and the boot ROM starts on C0.X1 (R435). -/
def execScrubDone (s : State) : Out := s.run fun c => c.scrubDone

/-- At Update-DR the named unit is reset at its reset point with its boundary settled (R441). -/
def execUnitReset (kind : BitVec 4) (index : BitVec 10) (s : State) : Out :=
  s.run fun c => c.unitReset kind.toNat index.toNat

/-- 256 cycles after the reset point the unit reset completes and DONE captures 1 (R442). -/
def execUnitResetDone (kind : BitVec 4) (index : BitVec 10) (s : State) : Out :=
  s.dev fun d => d.unitResetDone kind.toNat index.toNat

/-- JTAG EXTEST cuts the functional logic from the pins with PH, gate and BATON pins high-Z (R463). -/
def execExtest (s : State) : Out := s.jtag .extest

/-- JTAG IDCODE selects the 32-bit identification register (R462). -/
def execIdcode (s : State) : Out := s.jtag .idcode

/-- JTAG SAMPLE/PRELOAD selects the boundary scan register without cutting the pins (R462). -/
def execSamplePreload (s : State) : Out := s.jtag .samplePreload

/-- JTAG HIGHZ cuts the functional logic and makes outputs high-Z (R463). -/
def execHighz (s : State) : Out := s.jtag .highz

/-- JTAG CLAMP cuts the functional logic and holds boundary values (R463). -/
def execClamp (s : State) : Out := s.jtag .clamp

/-- JTAG BYPASS selects the one-bit bypass register (R462). -/
def execBypass (s : State) : Out := s.jtag .bypass

/-- The TAP enters Test-Logic-Reset through TRST_N or TMS, selects IDCODE and returns the pins to the functional logic
(R462). -/
def execTestLogicReset (s : State) : Out := s.jtag .idcode

/-- A PAD[i] write sets drive and slew or is refused with DENIED while its pins are in use (R454). -/
def execPadWrite (i : Fin 48) (v : Word) (s : State) : Out := s.checked (isPad i) <| s.dev fun d => d.padWrite i v.toNat

end Sys2Proof.Machine
end

