-- ==== Sys2Proof/Machine/ExecTime.lean ====
section
/-! DEFINITION. The meanings of the commands of TIME, the tick boundary and the time event units (R23, R56 to R90). -/

namespace Sys2Proof.Machine

/-- A TIME.RATE write folds the accrued rate term into OFFSET, sets RAW_R and may be clamped (R58). -/
def execRateWrite (v : Word) (s : State) : Out := s.dev fun d => (d.rateWrite v.toNat).fitCheck

/-- A write of TIME.CTL.LOCK moves TIME to LOCKED and starts the servo timeout (R62). -/
def execTimeCtlLock (s : State) : Out := s.dev fun d => d.timeLock.fitCheck

/-- A write of TIME.CTL.COAST moves TIME from LOCKED to COASTING (R62). -/
def execTimeCtlCoast (s : State) : Out := s.dev fun d => d.timeCoast.fitCheck

/-- With no servo write for SERVO_TIMEOUT ms TIME moves from LOCKED to COASTING (R62). -/
def execServoTimeout (s : State) : Out := s.dev fun d => d.servoTimeout.fitCheck

/-- A guarded write of TIME.FREE.GO returns TIME to FREE and clears JUMP_REFUSED and ANCHOR_REFUSED (R62). -/
def execTimeFree (s : State) : Out := s.dev fun d => d.timeFree.fitCheck

/-- An OFFSET write is accepted or refused against JUMP_LIMIT and moves corrected time and RESIDUAL (R63). -/
def execOffsetWrite (v : BitVec 64) (override : Bool) (s : State) : Out :=
  s.dev fun d => (d.offsetWrite v.toInt override).fitCheck

/-- The low 32 bits of corrected time carry from 2^32 − 1 to 0 and set TIME.EVENTS.WRAP (R60). -/
def execNowNsWrap (s : State) : Out := s.dev fun d => d.when d.wrapsNext (·.timeCycle)

/-- A TICK_ANCHOR write sets or moves the tick grid, or is refused with ANCHOR_REFUSED (R69). -/
def execTickAnchorWrite (ns : Word) (guarded : Bool) (s : State) : Out :=
  s.dev fun d => (d.anchorWrite ns.toNat guarded).fitCheck

/-- A mailbox write of MEDIA_COUNT is held and sets MEDIA_PENDING (R70). -/
def execMediaCountWrite (v : BitVec 64) (s : State) : Out := s.dev fun d => (d.mediaWrite v.toNat).fitCheck

/-- At the next tick boundary the held MEDIA_COUNT is loaded and MEDIA_VALID is set (R70). -/
def execMediaCountLoad (s : State) : Out := s.dev fun d => d.mediaLoad.fitCheck

/-- A signal-side tick boundary arrives and the per-tick actions run in their fixed order (R23). -/
def execTickBoundary (s : State) : Out := s.run fun c => c.tickBoundary

/-- A rise of TEU[u].CTL.EN arms the unit at its first event time, or refuses a short period (R80). -/
def execTeuEnable (u : Fin 16) (s : State) : Out := s.teu u fun d => d.teuEnable u

/-- A write of 0 to TEU EN disarms the unit on the cycle it reaches the TIME domain (R84). -/
def execTeuDisable (u : Fin 16) (s : State) : Out := s.teu u fun d => d.teuDisable u

/-- A TEU event fires when its time base reaches Ek, driving its pin, releasing a frame and raising its interrupt
(R80). -/
def execTeuEventFire (u : Fin 16) (s : State) : Out := s.teu u fun d => d.teuFire u

/-- After WIDTH the TE_OUT pin returns to its inactive level (R85). -/
def execTeuPinEnd (u : Fin 16) (s : State) : Out := s.teu u fun d => d.teuPinEnd u

/-- A TARGET write naming class 6 or a held class leaves the launch ineffective and sets LAUNCH_DENIED (R88). -/
def execTeuTargetWrite (u : Fin 16) (port : BitVec 2) (cls : BitVec 3) (s : State) : Out :=
  s.teu u fun d => d.teuTarget u (port.toNat + 4 * cls.toNat)

end Sys2Proof.Machine
end

