-- ==== Sys2Proof/Machine/ExecTwin.lean ====
section
/-! DEFINITION. The meanings of the commands of twin operation (R360 to R387). -/

namespace Sys2Proof.Machine

/-- An HB_IN edge is time-stamped and may reveal a dual hold (R372). -/
def execHbInEdge (stamp : Nat) (level : Bool) (s : State) : Out :=
  s.fromPin <| s.dev fun d => d.hbEdge stamp level

/-- A heartbeat deadline is evaluated, moving the standby toward a claim or a take (R372). -/
def execHbDeadline (time : Nat) (s : State) : Out := s.dev fun d => d.hbDeadline time

/-- BATON is seen high (R388), or has been high for 32 cycles, which moves a standby to CONFIRM (R374). -/
def execBatonConfirmed (high : BatonHigh) (s : State) : Out :=
  s.fromPin <| s.dev fun d => match high with
    | .seen since => d.batonSeen since
    | .confirmed since => d.batonConfirmed since

/-- A holder seeing BATON high for 8 cycles releases and sets BATON_FAULT (R373). -/
def execBatonLost (s : State) : Out := s.fromPin <| s.dev fun d => d.batonLost

/-- BATON is seen low after its synchroniser, which sends a chip in CONFIRM back to STANDBY before its deadline
evaluation (R375). -/
def execBatonFalls (s : State) : Out := s.fromPin <| s.dev fun d => d.batonFalls

/-- After BATON high for 2 or 16 ticks a chip in INIT takes the baton (R375). -/
def execInitialClaim (edge : Nat) (s : State) : Out := s.dev fun d => d.initialClaim edge

/-- A claim unanswered for 8 ticks returns the chip to STANDBY with CLAIM_FAIL (R375). -/
def execClaimTimeout (s : State) : Out := s.dev fun d => d.claimTimeout

/-- A holder whose HB_IN stays high for 256 ring cycles releases (R378). -/
def execHolderYield (s : State) : Out := s.fromPin <| s.dev fun d => d.holderYield

/-- The ring-oscillator watchdog releases drive when CLK_PORT or the tick stops (R380). -/
def execWatchdogFire (s : State) : Out := s.dev fun d => d.watchdog

/-- The chip sends one STATE frame per output tick (R370). -/
def execStateFrameSend (s : State) : Out := s.dev fun d => d.stateSend

/-- A good STATE frame updates partner status and corrects the standby's compensators (R370). -/
def execStateFrameReceive (ws : List Word) (s : State) : Out := s.dev fun d => d.stateReceive (ws.map (·.toNat))

/-- A DATA frame delivers layer image or Saltern page data (R370). -/
def execDataFrameReceive (ws : List Word) (s : State) : Out := s.run fun c => c.dataReceive (ws.map (·.toNat))

/-- A JOIN frame advances or aborts a warm join (R383). -/
def execJoinFrameReceive (ws : List Word) (s : State) : Out := s.run fun c => c.joinReceive (ws.map (·.toNat))

/-- Block lock and 16 good STATE frames raise QLINK_UP (R369). -/
def execQlinkUp (s : State) : Out := s.dev fun d => d.qlinkUp

/-- Loss of block lock or 4 ticks without a good STATE lowers QLINK_UP (R369). -/
def execQlinkDown (lost : Bool) (s : State) : Out := s.dev fun d => d.qlinkDown lost

/-- The standby compares its PCRC with the holder's for a proof channel (R384). -/
def execProofCompare (i : Fin 8) (s : State) : Out := s.dev fun d => d.proofCompare i

/-- A guarded FORCE.TAKE takes the baton or is blocked (R375). -/
def execForceTake (edge : Nat) (s : State) : Out := s.dev fun d => d.forceTake edge

/-- A guarded FORCE.RELEASE releases permission and inhibits the claim (R375). -/
def execForceRelease (s : State) : Out := s.dev fun d => d.forceRelease

/-- A guarded FORCE.HANDOVER schedules a handover 8 ticks ahead or is denied (R387). -/
def execForceHandover (s : State) : Out := s.dev fun d => d.forceHandover

/-- At the handover boundary the holder releases to the standby (R387). -/
def execHandoverRelease (s : State) : Out := s.dev fun d => d.handoverRelease

/-- TWIN.JOIN.START begins a warm join (R383). -/
def execJoinStart (s : State) : Out := s.dev fun d => d.joinStart

/-- TWIN.JOIN.ABORT sends JOIN 5 and ends the join (R383). -/
def execJoinAbort (s : State) : Out := s.dev fun d => d.joinAbort

/-- At the end of CONVERGE.TICKS CONVERGED rises or the count restarts (R383). -/
def execConvergeCountEnd (s : State) : Out := s.dev fun d => d.convergeEnd

end Sys2Proof.Machine
end

