-- ==== Sys2Proof/Machine/Flags.lean ====
section
/-! DEFINITION. The flag computations: saturation, rounding of accumulators, the FPU's sticky bits and AOV
(R161, R162, R275). -/

namespace Sys2Proof.Machine

/-- A saturating Q1.31 result with its SAT (R275, R276, R284). -/
def satQ (x : Int) : Nat × Nat := (lowOf 32 (satTo 32 x), if outOf 32 x then fSAT else 0)

/-- An exact value with `sh` more fractional bits than Q1.31, rounded under R162 with its SAT. -/
def roundQ31 (x : Int) (sh : Nat) : Nat × Nat := satQ (rhe x sh)

/-- The sticky bit that words rounded to 24 bits set where one saturates (R155, R162, R275). -/
def satQ24 (ws : List Nat) : Nat := if ws.any (fun v => outOf 24 (rhe (signedOf 32 v) 8)) then fSAT else 0

/-- Write a G register with a value and the sticky bits it sets. -/
def Ctx.put (c : Ctx) (r : BitVec 5) (v : Nat × Nat) : Ctx := (c.wrGn r v.1).flag v.2

/-- Add to accumulator A[a]: the nearest end and AOV where the exact sum leaves the range (R161). -/
def Ctx.accAdd (c : Ctx) (a : BitVec 3) (v : Int) : Ctx :=
  let s := c.rdA a + v
  let c := c.wrA a (satTo 72 s)
  if outOf 72 s then c.wrAov a true else c

/-- The product of two Q1.31 words: 62 fractional bits, exact (R161). -/
def prodQ (a b : Word) : Int := a.toInt * b.toInt

/-- The coefficient a lane gives VMAC: with H its upper half as Q1.15, at the same binary point (R283). -/
def laneCoef (h : Bool) (w : Word) : Int := if h then signedOf 16 (w.toNat / 65536) * 65536 else w.toInt

end Sys2Proof.Machine
end

