-- ==== Sys2Proof/Machine/IsaScalar.lean ====
section
/-! DEFINITION. The scalar and FPU instructions (R276, R277). -/

namespace Sys2Proof.Machine

/-- A register-only instruction of context `x`. -/
def State.reg (s : State) (x : Fin 64) (f : Ctx → Ctx) : Out := s.run fun c => c.reg x f

/-- rd = rs + rt modulo 2^32 (R276). -/
def execAdd (x : Fin 64) (rd rs rt : BitVec 5) (s : State) : Out :=
  s.reg x fun k => k.wrG rd (k.rdG rs + k.rdG rt)

/-- rd = rs − rt modulo 2^32 (R276). -/
def execSub (x : Fin 64) (rd rs rt : BitVec 5) (s : State) : Out :=
  s.reg x fun k => k.wrG rd (k.rdG rs - k.rdG rt)

/-- rd = rs and rt (R276). -/
def execAnd (x : Fin 64) (rd rs rt : BitVec 5) (s : State) : Out :=
  s.reg x fun k => k.wrG rd (k.rdG rs &&& k.rdG rt)

/-- rd = rs or rt (R276). -/
def execOr (x : Fin 64) (rd rs rt : BitVec 5) (s : State) : Out :=
  s.reg x fun k => k.wrG rd (k.rdG rs ||| k.rdG rt)

/-- rd = rs xor rt (R276). -/
def execXor (x : Fin 64) (rd rs rt : BitVec 5) (s : State) : Out :=
  s.reg x fun k => k.wrG rd (k.rdG rs ^^^ k.rdG rt)

/-- rd = rs shifted left by rt[4:0] (R276). -/
def execSll (x : Fin 64) (rd rs rt : BitVec 5) (s : State) : Out :=
  s.reg x fun k => k.wrG rd (k.rdG rs <<< ((k.rdG rt).toNat % 32))

/-- rd = rs shifted right logically by rt[4:0] (R276). -/
def execSrl (x : Fin 64) (rd rs rt : BitVec 5) (s : State) : Out :=
  s.reg x fun k => k.wrG rd (k.rdG rs >>> ((k.rdG rt).toNat % 32))

/-- rd = rs shifted right arithmetically by rt[4:0] (R276). -/
def execSra (x : Fin 64) (rd rs rt : BitVec 5) (s : State) : Out :=
  s.reg x fun k => k.wrG rd ((k.rdG rs).sshiftRight ((k.rdG rt).toNat % 32))

/-- rd = 1 if rs < rt signed, else 0 (R276). -/
def execSlt (x : Fin 64) (rd rs rt : BitVec 5) (s : State) : Out :=
  s.reg x fun k => k.wrG rd (BitVec.ofNat 32 (bit (decide ((k.rdG rs).toInt < (k.rdG rt).toInt))))

/-- rd = 1 if rs < rt unsigned, else 0 (R276). -/
def execSltu (x : Fin 64) (rd rs rt : BitVec 5) (s : State) : Out :=
  s.reg x fun k => k.wrG rd (BitVec.ofNat 32 (bit (decide ((k.rdG rs).toNat < (k.rdG rt).toNat))))

/-- rd = the low 32 bits of rs × rt (R276). -/
def execMul (x : Fin 64) (rd rs rt : BitVec 5) (s : State) : Out :=
  s.reg x fun k => k.wrG rd (k.rdG rs * k.rdG rt)

/-- rd = the high 32 bits of the signed product (R276). -/
def execMulh (x : Fin 64) (rd rs rt : BitVec 5) (s : State) : Out :=
  s.reg x fun k => k.wrG rd (BitVec.ofInt 32 ((k.rdG rs).toInt * (k.rdG rt).toInt / 2 ^ 32))

/-- rd = the Q1.31 product rounded under R162; SAT where it saturates (R276). -/
def execMulq (x : Fin 64) (rd rs rt : BitVec 5) (s : State) : Out :=
  s.reg x fun k => k.put rd (roundQ31 (prodQ (k.rdG rs) (k.rdG rt)) 31)

/-- rd = the signed minimum (R276). -/
def execMin (x : Fin 64) (rd rs rt : BitVec 5) (s : State) : Out :=
  s.reg x fun k => k.wrG rd (if (k.rdG rs).toInt ≤ (k.rdG rt).toInt then k.rdG rs else k.rdG rt)

/-- rd = the signed maximum (R276). -/
def execMax (x : Fin 64) (rd rs rt : BitVec 5) (s : State) : Out :=
  s.reg x fun k => k.wrG rd (if (k.rdG rs).toInt ≤ (k.rdG rt).toInt then k.rdG rt else k.rdG rs)

/-- rd = the signed sum, saturating with SAT (R276). -/
def execAdds (x : Fin 64) (rd rs rt : BitVec 5) (s : State) : Out :=
  s.reg x fun k => k.put rd (satQ ((k.rdG rs).toInt + (k.rdG rt).toInt))

/-- rd = the signed difference, saturating with SAT (R276). -/
def execSubs (x : Fin 64) (rd rs rt : BitVec 5) (s : State) : Out :=
  s.reg x fun k => k.put rd (satQ ((k.rdG rs).toInt - (k.rdG rt).toInt))

/-- rd = the count of leading zeros of rs (R276). -/
def execClz (x : Fin 64) (rd rs : BitVec 5) (s : State) : Out :=
  s.reg x fun k => k.wrGn rd (32 - bitLen (k.rdG rs).toNat)

/-- rd = rs + imm16 sign-extended (R276). -/
def execAddi (x : Fin 64) (rd rs : BitVec 5) (imm : BitVec 16) (s : State) : Out :=
  s.reg x fun k => k.wrG rd (k.rdG rs + imm.signExtend 32)

/-- rd = rs and imm16 zero-extended (R276). -/
def execAndi (x : Fin 64) (rd rs : BitVec 5) (imm : BitVec 16) (s : State) : Out :=
  s.reg x fun k => k.wrG rd (k.rdG rs &&& imm.zeroExtend 32)

/-- rd = rs or imm16 zero-extended (R276). -/
def execOri (x : Fin 64) (rd rs : BitVec 5) (imm : BitVec 16) (s : State) : Out :=
  s.reg x fun k => k.wrG rd (k.rdG rs ||| imm.zeroExtend 32)

/-- rd = rs xor imm16 zero-extended (R276). -/
def execXori (x : Fin 64) (rd rs : BitVec 5) (imm : BitVec 16) (s : State) : Out :=
  s.reg x fun k => k.wrG rd (k.rdG rs ^^^ imm.zeroExtend 32)

/-- rd = 1 if rs < imm16 sign-extended (R276). -/
def execSlti (x : Fin 64) (rd rs : BitVec 5) (imm : BitVec 16) (s : State) : Out :=
  s.reg x fun k => k.wrG rd (BitVec.ofNat 32 (bit (decide ((k.rdG rs).toInt < imm.toInt))))

/-- rd = imm16 × 65 536 (R276). -/
def execLui (x : Fin 64) (rd : BitVec 5) (imm : BitVec 16) (s : State) : Out :=
  s.reg x fun k => k.wrGn rd (imm.toNat * 65536)

/-- SHI kind 0: rs shifted left by imm16[4:0] (R276). -/
def execShiSll (x : Fin 64) (rd rs sh : BitVec 5) (s : State) : Out :=
  s.reg x fun k => k.wrG rd (k.rdG rs <<< sh.toNat)

/-- SHI kind 1: rs shifted right logically by imm16[4:0] (R276). -/
def execShiSrl (x : Fin 64) (rd rs sh : BitVec 5) (s : State) : Out :=
  s.reg x fun k => k.wrG rd (k.rdG rs >>> sh.toNat)

/-- SHI kind 2: rs shifted right arithmetically by imm16[4:0] (R276). -/
def execShiSra (x : Fin 64) (rd rs sh : BitVec 5) (s : State) : Out :=
  s.reg x fun k => k.wrG rd ((k.rdG rs).sshiftRight sh.toNat)

/-- Binary32 rs + rt (R241, R277). -/
def execFadd (x : Fin 64) (rd rs rt : BitVec 5) (s : State) : Out :=
  s.reg x fun k => k.put rd (fpAdd false (k.rdG rs).toNat (k.rdG rt).toNat)

/-- Binary32 rs − rt (R241, R277). -/
def execFsub (x : Fin 64) (rd rs rt : BitVec 5) (s : State) : Out :=
  s.reg x fun k => k.put rd (fpAdd true (k.rdG rs).toNat (k.rdG rt).toNat)

/-- Binary32 rs × rt (R241, R277). -/
def execFmul (x : Fin 64) (rd rs rt : BitVec 5) (s : State) : Out :=
  s.reg x fun k => k.put rd (fpMul (k.rdG rs).toNat (k.rdG rt).toNat)

/-- Binary32 rs / rt (R241, R277). -/
def execFdiv (x : Fin 64) (rd rs rt : BitVec 5) (s : State) : Out :=
  s.reg x fun k => k.put rd (fpDiv (k.rdG rs).toNat (k.rdG rt).toNat)

/-- Binary32 square root (R277). -/
def execFsqrt (x : Fin 64) (rd rs : BitVec 5) (s : State) : Out :=
  s.reg x fun k => k.put rd (fpSqrt (k.rdG rs).toNat)

/-- Binary32 minimum (R277). -/
def execFmin (x : Fin 64) (rd rs rt : BitVec 5) (s : State) : Out :=
  s.reg x fun k => k.put rd (fpMinMax false (k.rdG rs).toNat (k.rdG rt).toNat)

/-- Binary32 maximum (R277). -/
def execFmax (x : Fin 64) (rd rs rt : BitVec 5) (s : State) : Out :=
  s.reg x fun k => k.put rd (fpMinMax true (k.rdG rs).toNat (k.rdG rt).toNat)

/-- Binary32 1 if rs = rt (R277). -/
def execFeq (x : Fin 64) (rd rs rt : BitVec 5) (s : State) : Out :=
  s.reg x fun k => k.put rd (fpCompare (fun a b => decide (a = b)) (k.rdG rs).toNat (k.rdG rt).toNat)

/-- Binary32 1 if rs < rt (R277). -/
def execFlt (x : Fin 64) (rd rs rt : BitVec 5) (s : State) : Out :=
  s.reg x fun k => k.put rd (fpCompare (fun a b => decide (a < b)) (k.rdG rs).toNat (k.rdG rt).toNat)

/-- Binary32 1 if rs ≤ rt (R277). -/
def execFle (x : Fin 64) (rd rs rt : BitVec 5) (s : State) : Out :=
  s.reg x fun k => k.put rd (fpCompare (fun a b => decide (a ≤ b)) (k.rdG rs).toNat (k.rdG rt).toNat)

/-- Signed integer to binary32 (R277). -/
def execFcvtsw (x : Fin 64) (rd rs : BitVec 5) (s : State) : Out :=
  s.reg x fun k => k.put rd (fpFromInt (k.rdG rs).toInt 0)

/-- Binary32 to signed integer, saturating; NaN gives 0 and NV (R277). -/
def execFcvtws (x : Fin 64) (rd rs : BitVec 5) (s : State) : Out :=
  s.reg x fun k => k.put rd (fpToInt false (k.rdG rs).toNat)

/-- Q1.31 to binary32 (R277). -/
def execFcvtsq (x : Fin 64) (rd rs : BitVec 5) (s : State) : Out :=
  s.reg x fun k => k.put rd (fpFromInt (k.rdG rs).toInt 31)

/-- Binary32 to Q1.31, saturating with SAT; NaN gives 0 and NV (R277). -/
def execFcvtqs (x : Fin 64) (rd rs : BitVec 5) (s : State) : Out :=
  s.reg x fun k => k.put rd (fpToInt true (k.rdG rs).toNat)

/-- Binary32 magnitude; a subnormal gives zero (R241, R277). -/
def execFabs (x : Fin 64) (rd rs : BitVec 5) (s : State) : Out :=
  s.reg x fun k => k.wrGn rd (flushed (k.rdG rs).toNat % 2 ^ 31)

/-- Binary32 negation; a subnormal gives zero (R241, R277). -/
def execFneg (x : Fin 64) (rd rs : BitVec 5) (s : State) : Out :=
  s.reg x fun k => k.wrGn rd (Nat.xor (flushed (k.rdG rs).toNat) (2 ^ 31))

end Sys2Proof.Machine
end

