-- ==== Sys2Proof/Machine/IsaControl.lean ====
section
/-! DEFINITION. Branches, control and queue instructions, ENV, and undefined words (R250, R263, R267, R279 to R282,
R297 to R299). -/

namespace Sys2Proof.Machine

/-- QREF = (G[rq] + qimm) mod 4096 (R279). -/
def Ctx.qref (k : Ctx) (rq : BitVec 5) (qimm : BitVec 11) : Nat := ((k.rdG rq).toNat + qimm.toNat) % 4096

/-- The tag word that POP writes: V in bit 0, E in bit 1, K in bits 3..2 (R280). -/
def Popped.tag (p : Popped) : Nat := if p.v then 1 + 2 * bit p.e + 4 * p.k else 0

/-- Pop one word: data to rd, tag to rt (R280). -/
def execPop (x : Fin 64) (rd rt rq : BitVec 5) (qimm : BitVec 11) (s : State) : Out :=
  s.run fun c => c.issue x fun c => c.onDev fun d =>
    let r := d.ctxPop x ((d.ctx x).qref rq qimm)
    r.1.modCtx x fun k => ((k.wrG rd r.2.data).wrGn rt r.2.tag).next

/-- A push of G[rt] with end mark `e` and tag K (R281). -/
def Chip.pushG (c : Chip) (x : Nat) (e : Bool) (kk : Nat) (rt rq : BitVec 5) (qimm : BitVec 11) : Chip :=
  c.issue x fun c => c.onDev fun d =>
    (d.ctxPush x ((d.ctx x).qref rq qimm) ⟨(d.ctx x).rdG rt, e, kk⟩).modCtx x Ctx.next

/-- Push one word with E = 0 (R281). -/
def execPush (x : Fin 64) (k : Fin 3) (rt rq : BitVec 5) (qimm : BitVec 11) (s : State) : Out :=
  s.run fun c => c.pushG x false k rt rq qimm

/-- Push one end-marked word (R281). -/
def execPushe (x : Fin 64) (k : Fin 3) (rt rq : BitVec 5) (qimm : BitVec 11) (s : State) : Out :=
  s.run fun c => c.pushG x true k rt rq qimm

/-- rd = the packet count of QREF (R282). -/
def execPktcnt (x : Fin 64) (rd rq : BitVec 5) (qimm : BitVec 11) (s : State) : Out :=
  s.run fun c => c.issue x fun c => c.onDev fun d =>
    let n := d.ctxCountOf x ((d.ctx x).qref rq qimm)
    d.modCtx x fun k => (k.wrGn rd n).next

/-- rd = the producer's credit of QREF, signed (R282). -/
def execPktcntCredit (x : Fin 64) (rd rq : BitVec 5) (qimm : BitVec 11) (s : State) : Out :=
  s.run fun c => c.issue x fun c => c.onDev fun d =>
    let n := d.credit ((d.ctx x).qref rq qimm)
    d.modCtx x fun k => (k.wrG rd (BitVec.ofInt 32 n)).next

/-- Record context `x`'s rail target for BST[g] and output tick `t`; a later one of its block for the same pair
replaces it (R297). -/
def Dev.addEnv (d : Dev) (x g t v : Nat) : Dev :=
  { d with envs := d.envs.filter (fun e => !(e.1 == (x, g) && e.2.1 == t)) ++ [((x, g), (t, v))] }

/-- Set the rail target of BST[g] for output tick R + 1 + k; discarded with ENVX when k ≥ N or in a free task (R297). -/
def execEnv (x : Fin 64) (rs : BitVec 5) (g k : BitVec 3) (s : State) : Out :=
  s.run fun c => c.issue x fun c => c.onDev fun d =>
    let c := d.ctx x
    let periodic := match c.task with | some t => !t.free | none => false
    if periodic && decide (k.toNat < c.n) then
      (d.addEnv x g.toNat (c.release + 1 + k.toNat) ((c.rdG rs).toNat % 65536)).modCtx x Ctx.next
    else d.modCtx x fun k => (k.flag fENVX).next

/-- A branch to the instruction's own address + 4 × off16 when `t` holds (R298). -/
def State.branch (s : State) (x : Fin 64) (off : BitVec 16) (t : Ctx → Bool) : Out :=
  s.run fun c => c.issue x fun c => c.modCtx x fun k =>
    if t k then k.jump (lowOf 32 ((k.pc : Int) + 4 * off.toInt)) else k.next

/-- Branch if equal (R298). -/
def execBeq (x : Fin 64) (rs rt : BitVec 5) (off : BitVec 16) (s : State) : Out :=
  s.branch x off fun k => k.rdG rs == k.rdG rt

/-- Branch if not equal (R298). -/
def execBne (x : Fin 64) (rs rt : BitVec 5) (off : BitVec 16) (s : State) : Out :=
  s.branch x off fun k => k.rdG rs != k.rdG rt

/-- Branch if less, signed (R298). -/
def execBlt (x : Fin 64) (rs rt : BitVec 5) (off : BitVec 16) (s : State) : Out :=
  s.branch x off fun k => decide ((k.rdG rs).toInt < (k.rdG rt).toInt)

/-- Branch if greater or equal, signed (R298). -/
def execBge (x : Fin 64) (rs rt : BitVec 5) (off : BitVec 16) (s : State) : Out :=
  s.branch x off fun k => decide ((k.rdG rt).toInt ≤ (k.rdG rs).toInt)

/-- Branch if less, unsigned (R298). -/
def execBltu (x : Fin 64) (rs rt : BitVec 5) (off : BitVec 16) (s : State) : Out :=
  s.branch x off fun k => decide ((k.rdG rs).toNat < (k.rdG rt).toNat)

/-- Branch if greater or equal, unsigned (R298). -/
def execBgeu (x : Fin 64) (rs rt : BitVec 5) (off : BitVec 16) (s : State) : Out :=
  s.branch x off fun k => decide ((k.rdG rt).toNat ≤ (k.rdG rs).toNat)

/-- Jump by off26 words and write the return address to G1 (R298). -/
def execJal (x : Fin 64) (off : BitVec 26) (s : State) : Out :=
  s.run fun c => c.issue x fun c => c.modCtx x fun k =>
    (k.wrGn 1 ((k.pc + 4) % 2 ^ 32)).jump (lowOf 32 ((k.pc : Int) + 4 * off.toInt))

/-- Jump to G[rs] + imm16 and write the return address to rd; the target is read first (R298). -/
def execJalr (x : Fin 64) (rd rs : BitVec 5) (imm : BitVec 16) (s : State) : Out :=
  s.run fun c => c.issue x fun c => c.modCtx x fun k =>
    (k.wrGn rd ((k.pc + 4) % 2 ^ 32)).jump (k.rdG rs + imm.signExtend 32).toNat

/-- Decrement G[rs] and branch while it is not zero (R298). -/
def execLoop (x : Fin 64) (rs : BitVec 5) (off : BitVec 16) (s : State) : Out :=
  s.run fun c => c.issue x fun c => c.modCtx x fun k =>
    let v := k.rdG rs - 1
    let k' := k.wrG rs v
    if v = 0 then k'.next else k'.jump (lowOf 32 ((k.pc : Int) + 4 * off.toInt))

/-- Do nothing (R299). -/
def execNop (x : Fin 64) (s : State) : Out := s.reg x id

/-- End the block of a periodic task; in a free task wait for the next boundary (R248, R250, R256). -/
def execWaittick (x : Fin 64) (s : State) : Out :=
  s.run fun c => c.issue x fun c =>
    match (c.dev.ctx x).task with
    | some t => if t.free then c.modCtx x fun k => { k.next with run := .tickwait }
                else (c.modCtx x Ctx.next).complete x
    | none => c.modCtx x fun k => { k.next with run := .tickwait }

/-- Give the rest of the tick to lower-priority contexts (R248, R250). -/
def execYield (x : Fin 64) (s : State) : Out :=
  s.run fun c => c.issue x fun c => c.modCtx x fun k => { k.next with run := .yielded }

/-- Clear ECAUSE[31] and continue at EPC; ILLEGAL when ECAUSE[31] is 0 (R263, R299). -/
def execEret (x : Fin 64) (s : State) : Out :=
  s.run fun c => c.issue x fun c => c.onDev fun d =>
    if bitAt (d.ctx x).ecause 31 then
      d.modCtx x fun k => { k with ecause := k.ecause % 2 ^ 31, pc := k.epc }
    else d.ctxFault x 9 .fetch (d.ctx x).pc

/-- Invalidate the instruction-cache line of G[rs] under the context's ASID; never faults (R299). -/
def execIcinv (x : Fin 64) (rs : BitVec 5) (s : State) : Out :=
  s.run fun c => c.issue x fun c => c.onDev fun d =>
    let k := d.ctx x
    let l := (k.asid, (k.rdG rs).toNat / 64)
    (d.setLines (x / 4) ((d.lines (x / 4)).filter (· != l))).modCtx x Ctx.next

/-- Invalidate the core's whole instruction cache (R299). -/
def execIcinva (x : Fin 64) (s : State) : Out :=
  s.run fun c => c.issue x fun c => c.onDev fun d => (d.setLines (x / 4) []).modCtx x Ctx.next

/-- Read FSR (R299). -/
def execFsrr (x : Fin 64) (rd : BitVec 5) (s : State) : Out := s.reg x fun k => k.wrGn rd k.fsr

/-- Write FSR; reserved bits are ignored (R275, R299). -/
def execFsrw (x : Fin 64) (rs : BitVec 5) (s : State) : Out :=
  s.reg x fun k => { k with fsr := Nat.land (k.rdG rs).toNat 0xF1F }

/-- A field of an instruction word. -/
def fld (w hi lo : Nat) : Nat := bitsAt w lo (hi - lo + 1)

/-- Is the instruction word defined (R267 to R269, R276 to R300)? -/
def isaDefined (w : Nat) : Bool :=
  let z := fun hi lo => fld w hi lo == 0
  let fn := fld w 5 0
  let below := fun hi lo n => decide (fld w hi lo < n)
  match fld w 31 26 with
  | 0 => z 10 6 && decide (fn < 18) && (fn != 17 || z 15 11)
  | 1 | 2 | 3 | 4 | 5 => true
  | 6 => z 20 16
  | 7 => z 15 7 && below 6 5 3
  | 8 => z 10 6 && decide (fn < 16) &&
      (!(fn == 4 || fn == 14 || fn == 15) || z 15 11)
  | 10 => z 10 0
  | 11 => z 2 0
  | 12 => below 13 12 3 && z 10 0
  | 13 => z 9 0
  | 14 => z 7 0
  | 15 => z 12 0
  | 16 => z 25 21 && z 7 0
  | 17 => z 7 0
  | 18 => z 7 6 && decide (fn < 9) && ((fn == 5 || fn == 6) || z 10 8) &&
      (match fn with
       | 0 | 1 | 2 => z 25 25 && z 20 20 && z 15 15
       | 3 | 7 => z 25 25 && z 20 20 && z 15 11
       | 4 => z 25 25 && z 15 11
       | 5 | 8 => z 20 20 && z 15 11
       | _ => z 25 25 && z 15 11)
  | 19 => z 7 6 && decide (fn < 11) &&
      (match fn with
       | 0 => z 25 24 && z 20 16 && z 15 8
       | 1 => z 25 24 && z 15 8
       | 2 | 3 | 8 => z 20 19 && z 15 8
       | 4 | 5 => z 25 24 && z 20 19 && z 15 8
       | 6 | 7 => z 25 24 && z 20 16 && z 15 14
       | 9 => z 20 19 && z 15 10 && below 9 8 3
       | _ => z 25 24 && z 15 10 && below 9 8 3)
  | 20 => z 5 0
  | 24 | 25 | 26 | 27 | 28 | 29 | 30 | 31 => true
  | 32 | 33 => z 17 16
  | 34 | 35 => z 25 25 && z 17 16
  | 36 => z 15 6 && decide (fn < 3) && below 17 16 3 && (fn != 2 || z 17 16)
  | 40 => true
  | 41 | 42 => below 25 21 3
  | 43 => below 20 16 2
  | 44 => z 14 0
  | 48 | 49 | 50 | 51 | 52 | 53 | 54 | 55 => true
  | 56 => z 20 16
  | 57 => z 10 6 && z 15 11 && decide (fn < 8) &&
      (match fn with
       | 4 | 7 => z 25 21
       | 6 => z 20 16
       | _ => z 25 21 && z 20 16)
  | 60 => z 10 6 && decide (fn < 6) &&
      (match fn with
       | 0 | 4 => z 25 21
       | 3 => z 15 11
       | _ => z 25 21 && z 15 11)
  | _ => false

/-- Issuing an undefined word faults with cause 9 ILLEGAL (R262, R267); a word that is defined is no such command, and
nothing changes. -/
def execIllegalInstruction (x : Fin 64) (w : Word) (s : State) : Out :=
  if isaDefined w.toNat then .next s
  else s.run fun c => c.issue x fun c => c.onDev fun d => d.ctxFault x 9 .fetch (d.ctx x).pc

end Sys2Proof.Machine
end

