-- ==== Sys2Proof/Machine/IsaVector.lean ====
section
/-! DEFINITION. The vector, accumulator and limiter instructions (R283 to R285, R296). -/

namespace Sys2Proof.Machine

/-- VMAC's addition of eight lane products in lane order, each under R161 (R283). -/
def Ctx.vmac (k : Ctx) (ad : BitVec 3) (vs vt : BitVec 4) (h n : Bool) : Ctx :=
  (List.range 8).foldl (fun k j =>
    let p := (k.rdV vs j).toInt * laneCoef h (k.rdV vt j)
    k.accAdd ad (if n then -p else p)) k

/-- A lane-wise operation whose results saturate with SAT (R284). -/
def Ctx.lanes (k : Ctx) (vd : BitVec 4) (f : Nat → Nat × Nat) : Ctx :=
  (k.wrVs vd fun j => BitVec.ofNat 32 (f j).1).flag ((List.range 8).foldl (fun a j => Nat.lor a (f j).2) 0)

/-- The magnitude of a lane: −1 gives 1 − 2^-31 with SAT (R284). -/
def magQ (w : Word) : Nat × Nat := satQ w.toInt.natAbs

/-- A register-only instruction's change of the accumulator: the value saturated to 72 bits with AOV (R161, R285). -/
def Ctx.accSet (k : Ctx) (a : BitVec 3) (v : Int) : Ctx :=
  let k' := k.wrA a (satTo 72 v)
  if outOf 72 v then k'.wrAov a true else k'

/-- LIM's smoothed gain over eight samples (R296). -/
def Ctx.lim (k : Ctx) (vd vs vt : BitVec 4) (ak : BitVec 3) (gc : BitVec 5) : Ctx :=
  let g0 := clampInt 0 ((2 ^ 31 - 1) * 2 ^ 31) (k.rdA ak)
  let al : Int := bitsAt (k.rdG gc).toNat 16 16
  let be : Int := bitsAt (k.rdG gc).toNat 0 16
  let step := fun (st : Ctx × Int) (j : Nat) =>
    let t := max 0 (k.rdV vt j).toInt * 2 ^ 31
    let g := st.2
    let c := if t < g then al else be
    let g' := roundQ31 (g * 65536 + c * (t - g)) 47
    let gi : Int := signedOf 32 g'.1 * 2 ^ 31
    let y := roundQ31 ((k.rdV vs j).toInt * gi) 62
    (((st.1.wrV vd j (BitVec.ofNat 32 y.1)).flag g'.2).flag y.2, gi)
  let r := (List.range 8).foldl step (k, g0)
  r.1.wrA ak r.2

/-- Add eight lane products to an accumulator (R283). -/
def execVmac (x : Fin 64) (ad : BitVec 3) (vs vt : BitVec 4) (h n : Bool) (s : State) : Out :=
  s.reg x fun k => k.vmac ad vs vt h n

/-- VMAC, then Ad rounded under R162 to Gd and set to zero; AOV keeps what it gained (R283). -/
def execVmacr (x : Fin 64) (gd : BitVec 5) (ad : BitVec 3) (vs vt : BitVec 4) (h n : Bool) (s : State) : Out :=
  s.reg x fun k =>
    let k := k.vmac ad vs vt h n
    (k.put gd (roundQ31 (k.rdA ad) 31)).wrA ad 0

/-- Lane-wise saturating sum (R284). -/
def execVadd (x : Fin 64) (vd vs vt : BitVec 4) (s : State) : Out :=
  s.reg x fun k => k.lanes vd fun j => satQ ((k.rdV vs j).toInt + (k.rdV vt j).toInt)

/-- Lane-wise saturating difference (R284). -/
def execVsub (x : Fin 64) (vd vs vt : BitVec 4) (s : State) : Out :=
  s.reg x fun k => k.lanes vd fun j => satQ ((k.rdV vs j).toInt - (k.rdV vt j).toInt)

/-- Lane-wise Q1.31 product rounded under R162 (R284). -/
def execVmulq (x : Fin 64) (vd vs vt : BitVec 4) (s : State) : Out :=
  s.reg x fun k => k.lanes vd fun j => roundQ31 (prodQ (k.rdV vs j) (k.rdV vt j)) 31

/-- Copy a V register (R284). -/
def execVmov (x : Fin 64) (vd vs : BitVec 4) (s : State) : Out :=
  s.reg x fun k => k.wrVs vd fun j => k.rdV vs j

/-- Every lane takes a G value (R284). -/
def execVsplat (x : Fin 64) (vd : BitVec 4) (gs : BitVec 5) (s : State) : Out :=
  s.reg x fun k => k.wrVs vd fun _ => k.rdG gs

/-- Read one lane (R284). -/
def execVget (x : Fin 64) (gd : BitVec 5) (vs : BitVec 4) (lane : BitVec 3) (s : State) : Out :=
  s.reg x fun k => k.wrG gd (k.rdV vs lane.toNat)

/-- Write one lane; the others are kept (R284). -/
def execVput (x : Fin 64) (vd : BitVec 4) (gs : BitVec 5) (lane : BitVec 3) (s : State) : Out :=
  s.reg x fun k => k.wrV vd lane.toNat (k.rdG gs)

/-- Lane-wise magnitude (R284). -/
def execVabs (x : Fin 64) (vd vs : BitVec 4) (s : State) : Out :=
  s.reg x fun k => k.lanes vd fun j => magQ (k.rdV vs j)

/-- The largest lane magnitude, as VABS (R284). -/
def execVmaxa (x : Fin 64) (gd : BitVec 5) (vs : BitVec 4) (s : State) : Out :=
  s.reg x fun k =>
    let m := fun j => magQ (k.rdV vs j)
    k.put gd ((List.range 8).foldl (fun a j => (max a.1 (m j).1, Nat.lor a.2 (m j).2)) (0, 0))

/-- Ad = 0 and its AOV cleared (R285). -/
def execAclr (x : Fin 64) (ad : BitVec 3) (s : State) : Out :=
  s.reg x fun k => (k.wrA ad 0).wrAov ad false

/-- Ad = Gs as Q1.31, exact (R285). -/
def execAmov (x : Fin 64) (ad : BitVec 3) (gs : BitVec 5) (s : State) : Out :=
  s.reg x fun k => k.wrA ad ((k.rdG gs).toInt * 2 ^ 31)

/-- Gd = As rounded to Q1.31 (R162, R285). -/
def execArnd (x : Fin 64) (gd : BitVec 5) (src : BitVec 3) (s : State) : Out :=
  s.reg x fun k => k.put gd (roundQ31 (k.rdA src) 31)

/-- Gd = As rounded to 24 bits, as Q1.31 with bits 7..0 zero (R162, R285). -/
def execArnd24 (x : Fin 64) (gd : BitVec 5) (src : BitVec 3) (s : State) : Out :=
  s.reg x fun k =>
    let r := rhe (k.rdA src) 39
    k.put gd (lowOf 32 (satTo 24 r * 256), if outOf 24 r then fSAT else 0)

/-- Ad = Ad + As under R161 (R285). -/
def execAadd (x : Fin 64) (ad src : BitVec 3) (s : State) : Out :=
  s.reg x fun k => k.accAdd ad (k.rdA src)

/-- Ad = Ad − As under R161 (R285). -/
def execAsub (x : Fin 64) (ad src : BitVec 3) (s : State) : Out :=
  s.reg x fun k => k.accAdd ad (-(k.rdA src))

/-- Ad shifted right, round-half-even at 2^-62 (R285). -/
def execAshr (x : Fin 64) (ad : BitVec 3) (sh : BitVec 6) (s : State) : Out :=
  s.reg x fun k => k.wrA ad (rhe (k.rdA ad) sh.toNat)

/-- Ad shifted left, saturating under R161 (R275, R285). -/
def execAshl (x : Fin 64) (ad : BitVec 3) (sh : BitVec 6) (s : State) : Out :=
  s.reg x fun k => k.accSet ad (k.rdA ad * 2 ^ sh.toNat)

/-- Gd = AOV of As; AOV cleared (R275, R285). -/
def execAflag (x : Fin 64) (gd : BitVec 5) (src : BitVec 3) (s : State) : Out :=
  s.reg x fun k => (k.wrGn gd (bit (k.rdAov src))).wrAov src false

/-- Gd = word 0, 1 or 2 of As; word 2 sign-extended (R285). -/
def execAget (x : Fin 64) (gd : BitVec 5) (src : BitVec 3) (word : Fin 3) (s : State) : Out :=
  s.reg x fun k => k.wrG gd (BitVec.ofInt 32 (k.rdA src / 2 ^ (32 * word.val)))

/-- Word 0, 1 or 2 of Ad = Gs; word 2 takes Gs[7:0] (R285). -/
def execAput (x : Fin 64) (ad : BitVec 3) (gs : BitVec 5) (word : Fin 3) (s : State) : Out :=
  s.reg x fun k =>
    let v := lowOf 72 (k.rdA ad)
    let w := 32 * word.val
    let n := if word.val = 2 then 8 else 32
    let v' := v - bitsAt v w n * 2 ^ w + (k.rdG gs).toNat % 2 ^ n * 2 ^ w
    k.wrA ad (signedOf 72 v')

/-- A smoothed gain applied to eight samples (R296). -/
def execLim (x : Fin 64) (vd vs vt : BitVec 4) (ak : BitVec 3) (gc : BitVec 5) (s : State) : Out :=
  s.reg x fun k => k.lim vd vs vt ak gc

end Sys2Proof.Machine
end

