-- ==== Sys2Proof/Machine/IsaLong.lean ====
section
/-! DEFINITION. The long instructions (R286 to R295). One command runs one step: its preparation makes every
translation and load, its commit the rest, and the PC stays until the last step has committed. -/

namespace Sys2Proof.Machine

/-- TOTAL and DONE of a count register (R287). -/
def Ctx.total (k : Ctx) (gn : BitVec 5) : Nat := bitsAt (k.rdG gn).toNat 16 16
def Ctx.done (k : Ctx) (gn : BitVec 5) : Nat := bitsAt (k.rdG gn).toNat 0 16

/-- Set DONE, keeping TOTAL (R287). -/
def Ctx.setDone (k : Ctx) (gn : BitVec 5) (v : Nat) : Ctx := k.wrGn gn (k.total gn * 65536 + v % 65536)

/-- The total that completion actions use: DONE where the instruction began with DONE ≥ TOTAL (R287). -/
def Ctx.endTotal (k : Ctx) (gn : BitVec 5) : Nat := max (k.total gn) (k.done gn)

/-- After a step DONE is `v`: go on, or complete with `fin`, DONE = 0, and the next instruction (R287). -/
def Ctx.stepTo (k : Ctx) (gn : BitVec 5) (v : Nat) (fin : Ctx → Ctx) : Ctx :=
  if k.total gn ≤ v then ((fin k).setDone gn 0).next else k.setDone gn v

/-- A word of 32 bits as a Q1.31 number. -/
def q31 (v : Nat) : Int := signedOf 32 v

/-- FIRB (R288). -/
def Chip.firb (c : Chip) (x : Nat) (ad pc px : BitVec 3) (gn : BitVec 5) (h : Bool) : Chip :=
  let k := c.dev.ctx x
  let t0 := k.done gn
  let n := min (t0 + 8) (k.total gn) - t0
  let w := if h then 2 else 4
  let ts := (List.range n).map (t0 + ·)
  let fin := fun (k : Ctx) => k.advance px 4
  let start := fun (k : Ctx) => if k.done gn = 0 then k.wrA ad 0 else k
  if k.total gn ≤ t0 then c.modCtx x fun k => k.stepTo gn (k.done gn) fin
  else
    c.loads x w (ts.map fun (t : Nat) => k.ref pc ((w * t : Nat) : Int) w) fun c cs =>
      c.loads x 4 (ts.map fun (t : Nat) => k.ref px (-((4 * t : Nat) : Int)) 4) fun c xs =>
        c.modCtx x fun k =>
          let acc := (cs.zip xs).foldl (fun k p =>
            k.accAdd ad ((if h then signedOf 16 p.1 * 65536 else q31 p.1) * q31 p.2)) (start k)
          acc.stepTo gn (t0 + n) fin

/-- Form a FIR dot product in steps of 8 taps (R288). -/
def execFirb (x : Fin 64) (ad pc px : BitVec 3) (gn : BitVec 5) (h : Bool) (s : State) : Out :=
  s.run fun c => c.issue x fun c => c.firb x ad pc px gn h

/-- One biquad section on one lane: y, s1, s2 and the sticky bits (R289). -/
def biqLane (co : Nat → Int) (xv s1 s2 : Int) : Nat × Int × Int × Nat :=
  let y := roundQ31 (co 0 * xv + s1 * 64) 31
  let yi := q31 y.1
  let n1 := rhe (2 * co 1 * xv - 2 * co 3 * yi + s2 * 64) 6
  let n2 := rhe (co 2 * xv - co 4 * yi) 6
  (y.1, satTo 64 n1, satTo 64 n2, Nat.lor y.2 (if outOf 64 n1 || outOf 64 n2 then fSAT else 0))

/-- The 64-bit value of two words, most significant first (R266). -/
def wide (hi lo : Nat) : Int := signedOf 64 (hi * 2 ^ 32 + lo)

/-- BIQ (R289). -/
def Chip.biq (c : Chip) (x : Nat) (vw : BitVec 4) (px pc ps : BitVec 3) (gn gs : BitVec 5) : Chip :=
  let k := c.dev.ctx x
  let sN := bitsAt (k.rdG gs).toNat 0 4 + 1
  let sd := bitsAt (k.rdG gs).toNat 4 4
  let sd := if sN ≤ sd then 0 else sd
  let setSd := fun (k : Ctx) (v : Nat) => k.wrGn gs (v * 16 + (sN - 1))
  let dn := k.done gn
  let fin := fun (k : Ctx) => k.advance px (32 * k.endTotal gn)
  if k.total gn ≤ dn then c.modCtx x fun k => k.stepTo gn dn fin
  else
    let frame := (List.range 8).map fun (j : Nat) => k.ref px ((32 * dn + 4 * j : Nat) : Int) 4
    let coefs := (List.range 40).map fun (i : Nat) => k.ref pc ((160 * sd + 4 * i : Nat) : Int) 4
    let states := (List.range 16).map fun (i : Nat) => k.ref ps ((128 * sd + 8 * i : Nat) : Int) 8
    let last := decide (sd + 1 = sN)
    c.loads x 4 (if sd = 0 then frame else []) fun c fs =>
      c.loads x 4 coefs fun c cs =>
        c.loads x 8 states fun c ss =>
          c.toStore x 8 states fun c sp =>
            c.toStore x 4 (if last then frame else []) fun c fp =>
              let xin := fun (j : Nat) => if sd = 0 then fs.getD j 0 else (k.rdV vw j).toNat
              let r := (List.range 8).map fun (j : Nat) =>
                biqLane (fun m => q31 (cs.getD (8 * m + j) 0)) (q31 (xin j)) (signedOf 64 (ss.getD j 0))
                  (signedOf 64 (ss.getD (8 + j) 0))
              let c := c.storeAll x 8 sp ((r.map fun t => lowOf 64 t.2.1) ++ (r.map fun t => lowOf 64 t.2.2.1))
              let c := c.storeAll x 4 fp (r.map fun t => t.1)
              c.modCtx x fun k =>
                let k := (k.wrVs vw fun j => BitVec.ofNat 32 ((r.map (·.1)).getD j 0)).flag
                  (r.foldl (fun a t => Nat.lor a t.2.2.2) 0)
                if last then (setSd k 0).stepTo gn (dn + 1) fin else setSd k (sd + 1)

/-- Run eight-lane frames through a biquad cascade in place (R289). -/
def execBiq (x : Fin 64) (vw : BitVec 4) (px pc ps : BitVec 3) (gn gs : BitVec 5) (s : State) : Out :=
  s.run fun c => c.issue x fun c => c.biq x vw px pc ps gn gs

/-- The progress of one MIX step on its input: device, words summed, and the marks INACT, ENDED and MIXF (R291). -/
structure MixSt where
  dev   : Dev
  inact : Bool
  ended : Bool
  mixf  : Bool
  deriving DecidableEq, Repr

/-- MIX takes up to `n` words, lane `j` first (R291). -/
def mixTake (x q : Nat) (first l mute : Bool) (gain : Int) (cl : Nat) : Nat → Nat → MixSt → MixSt
  | 0, _, st => st
  | n + 1, j, st =>
    if st.inact || st.ended then st
    else
      let r := st.dev.ctxPop x q
      if !r.2.v then
        if first && j == 0 then { st with dev := r.1, inact := true }
        else { st with dev := r.1, ended := true, mixf := true }
      else
        let d := if !mute && gain != 0 then
            r.1.modCtx x fun k => k.accAdd (BitVec.ofNat 3 j) (gain * r.2.data.toInt) else r.1
        if r.2.e then { st with dev := d, ended := true, mixf := st.mixf || decide (j + 1 < cl) || !l }
        else mixTake x q first l mute gain cl n (j + 1) { st with dev := d }

/-- MIX discards up to `n` words, up to and including an end mark or a not-valid read, and whether it met one (R291). -/
def mixDiscard (x q : Nat) : Nat → Dev → Dev × Bool
  | 0, d => (d, false)
  | n + 1, d =>
    let r := d.ctxPop x q
    if r.2.v && !r.2.e then mixDiscard x q n r.1 else (r.1, true)

/-- MIX at the present PC has yet to discard words, or no longer. -/
def Ctx.setMixing (k : Ctx) (b : Bool) : Ctx :=
  { k with mixing := (if b then [k.pc] else []) ++ k.mixing.filter (· != k.pc) }

/-- MIX's completion: the scaled and rounded sums to Vd, and G[n] (R292). -/
def Ctx.mixEnd (k : Ctx) (vd : BitVec 4) (gn : BitVec 5) (m : Nat) (l : Bool) (cnt word cl act : Nat) : Ctx :=
  let lane := fun (j : Nat) =>
    if cl ≤ j ∨ cnt = 0 then (0, 0)
    else if m = 0 then roundQ31 (k.rdA (BitVec.ofNat 3 j)) 31
    else if act = 0 then (0, 0)
    else
      let r := reciprocal m act
      roundQ31 (k.rdA (BitVec.ofNat 3 j) * r.1) (31 + r.2)
  let g := cnt + (if l then 0 else (word + cl) % 32) * 2 ^ 16 + (cl - 1) * 2 ^ 21 +
    (if l then 0 else act % 128) * 2 ^ 24
  ((k.lanes vd lane).wrGn gn g).next

/-- MIX: one step of one input, or the completion (R290 to R292). Where the input's packet goes on past the block, the
step that takes the block is followed by steps on the same input that discard 8 words each, until one meets the end:
what tells them from the first is held beside the registers, to which R286 gives no place for it (DESIGN CHOICE:
notes/assumptions/168.md). -/
def Chip.mix (c : Chip) (x : Nat) (vd : BitVec 4) (pt : BitVec 3) (gn : BitVec 5) (m : Nat) (l : Bool) : Chip :=
  let k := c.dev.ctx x
  let g := (k.rdG gn).toNat
  let cnt := bitsAt g 0 7
  let n := min cnt 64
  let i := bitsAt g 8 7
  let word := bitsAt g 16 5
  let cl := bitsAt g 21 3 + 1
  let act := if i = 0 ∧ word = 0 then 0 else bitsAt g 24 7
  let start := fun (k : Ctx) => if i = 0 then (List.range 8).foldl (fun k j => k.wrA (BitVec.ofNat 3 j) 0) k else k
  if n ≤ i then c.modCtx x fun k => (start k).mixEnd vd gn m l cnt word cl act
  else
    let r0 := k.ref pt ((8 * i : Nat) : Int) 4
    let r1 := k.ref pt ((8 * i + 4 : Nat) : Int) 4
    c.loads x 4 [r0, r1] fun c es =>
      c.toStore x 4 [r0] fun c ps =>
        let e := es.getD 0 0
        let gain := q31 (es.getD 1 0)
        let mute := bitAt e 31
        let q := e % 4096
        let first := decide (word = 0)
        let again := k.mixing.contains k.pc
        let st := if again then ⟨c.dev, false, false, true⟩
          else mixTake x q first l mute gain cl cl 0
            ⟨c.dev.modCtx x start, !first && bitAt e 30, !first && bitAt e 29, false⟩
        let more := l && !st.inact && !st.ended
        let r := if again then mixDiscard x q 8 st.dev else (st.dev, !more)
        let active := !st.inact && !mute && gain != 0
        let act := if first && active then act + 1 else act
        let c := { c with dev := r.1 }
        if !r.2 then c.modCtx x fun k => (k.flag fMIXF).setMixing true
        else
        let c := c.storeAll x 4 ps [e % 2 ^ 29 + bit st.ended * 2 ^ 29 + bit st.inact * 2 ^ 30 + bit mute * 2 ^ 31]
        c.modCtx x fun k =>
          let k := (if st.mixf then k.flag fMIXF else k).setMixing false
          if n ≤ i + 1 then k.mixEnd vd gn m l cnt word cl act
          else k.wrGn gn (cnt + (i + 1) * 2 ^ 8 + word * 2 ^ 16 + (cl - 1) * 2 ^ 21 + act % 128 * 2 ^ 24)

/-- Mix popped inputs with gains and auto-scaling into eight lanes (R290 to R292). -/
def execMix (x : Fin 64) (vd : BitVec 4) (pt : BitVec 3) (gn : BitVec 5) (m : Fin 3) (l : Bool) (s : State) : Out :=
  s.run fun c => c.issue x fun c => c.mix x vd pt gn m l

/-- RAMP (R293). -/
def Chip.ramp (c : Chip) (x : Nat) (pd ak : BitVec 3) (gs gn : BitVec 5) : Chip :=
  let k := c.dev.ctx x
  let dn := k.done gn
  let n := min (dn + 8) (k.total gn) - dn
  let refs := (List.range n).map fun (i : Nat) => k.ref pd ((4 * (dn + i) : Nat) : Int) 4
  let fin := fun (k : Ctx) => k.advance pd (4 * k.endTotal gn)
  if k.total gn ≤ dn then c.modCtx x fun k => k.stepTo gn dn fin
  else
    c.loads x 4 refs fun c xs =>
      c.toStore x 4 refs fun c ps =>
        let step := fun (st : Ctx × List Nat) (v : Nat) =>
          let gq := satTo 32 (rhe (st.1.rdA ak) 31)
          let y := roundQ31 (q31 v * gq) 31
          (((st.1.flag y.2).accAdd ak ((st.1.rdG gs).toInt * 2 ^ 31)), st.2 ++ [y.1])
        let r := xs.foldl step (k, [])
        let c := c.storeAll x 4 ps r.2
        c.modCtx x fun k =>
          let r := xs.foldl step (k, [])
          r.1.stepTo gn (dn + n) fin

/-- Apply a ramping gain to samples in place (R293). -/
def execRamp (x : Fin 64) (pd ak : BitVec 3) (gs gn : BitVec 5) (s : State) : Out :=
  s.run fun c => c.issue x fun c => c.ramp x pd ak gs gn

/-- CAP of a delay line (R294): positions in full form, in compact form. -/
def Ctx.cap (k : Ctx) (pl : BitVec 3) (compact : Bool) : Nat :=
  if compact then 6 * k.rdP pl 1 / 16 else k.rdP pl 1 / 4

/-- Does R294 refuse the line's LEN? -/
def Ctx.badLine (k : Ctx) (pl : BitVec 3) (compact : Bool) : Bool :=
  decide (k.rdP pl 1 = 0 ∨ k.rdP pl 1 % (if compact then 96 else 4) ≠ 0)

/-- The address of position `p`, taken modulo CAP (R294). -/
def Ctx.lineAddr (k : Ctx) (pl : BitVec 3) (compact : Bool) (p : Int) : Nat :=
  let i := (p % (k.cap pl compact)).toNat
  (k.rdP pl 0 + (if compact then 16 * (i / 6) else 4 * i)) % 2 ^ 32

/-- The access to byte `b` of position `p`, or of its slot: misaligned where BASE is (R160, R274; DESIGN CHOICE for a
slot: notes/assumptions/210.md). -/
def Ctx.lineRef (k : Ctx) (pl : BitVec 3) (compact : Bool) (p : Int) (b : Nat) : Ref :=
  ⟨(k.lineAddr pl compact p + b) % 2 ^ 32, decide (k.rdP pl 0 % (if compact then 16 else 4) ≠ 0)⟩

/-- Write samples into a delay line (R294, R160). -/
def Chip.dlyWrite (c : Chip) (x : Nat) (pl pb : BitVec 3) (gn : BitVec 5) (compact : Bool) : Chip :=
  let k := c.dev.ctx x
  let dn := k.done gn
  let pos := k.rdP pl 2
  let cap := k.cap pl compact
  let n := min (dn + (if compact then 6 else 8)) (k.total gn) - dn
  let fin := fun (k : Ctx) =>
    (k.wrP pl 2 ((k.rdP pl 2 + k.endTotal gn) % cap)).advance pb (4 * k.endTotal gn)
  if k.badLine pl compact || (compact && (pos % 6 != 0 || dn % 6 != 0 || k.total gn % 6 != 0)) then
    c.onDev (·.ctxFault x 8 .store (k.rdP pl 0))
  else if k.total gn ≤ dn then c.modCtx x fun k => k.stepTo gn dn fin
  else
    c.loads x 4 ((List.range n).map fun (i : Nat) => k.ref pb ((4 * (dn + i) : Nat) : Int) 4) fun c xs =>
      if compact then
        let block := csfEncode false (xs.map fun v => roundQ 24 (q31 v)) ++ [0, 0, 0]
        c.toStore x 1 ((List.range 16).map (k.lineRef pl true ((pos + dn : Nat) : Int))) fun c ps =>
          (c.storeAll x 1 ps block).modCtx x fun k => (k.flag (satQ24 xs)).stepTo gn (dn + n) fin
      else
        c.toStore x 4 ((List.range n).map fun i => k.lineRef pl false ((pos + dn + i : Nat) : Int) 0) fun c ps =>
          (c.storeAll x 4 ps xs).modCtx x fun k => k.stepTo gn (dn + n) fin

/-- Write samples into a full or compact delay line (R294). -/
def execDlyWrite (x : Fin 64) (pl pb : BitVec 3) (gn : BitVec 5) (compact : Bool) (s : State) : Out :=
  s.run fun c => c.issue x fun c => c.dlyWrite x pl pb gn compact

/-- Read delayed samples from a delay line (R294, R160). -/
def Chip.dlyRead (c : Chip) (x : Nat) (pl pb : BitVec 3) (gn gd : BitVec 5) (compact : Bool) : Chip :=
  let k := c.dev.ctx x
  let dn := k.done gn
  let pos : Int := (k.rdP pl 2 : Int) - (k.rdG gd).toNat + dn
  let room := if compact then 6 - (pos % 6).toNat else 8
  let n := min (dn + room) (k.total gn) - dn
  let fin := fun (k : Ctx) => k.advance pb (4 * k.endTotal gn)
  let outs := (List.range n).map fun (i : Nat) => k.ref pb ((4 * (dn + i) : Nat) : Int) 4
  if k.badLine pl compact then c.onDev (·.ctxFault x 8 .load (k.rdP pl 0))
  else if k.total gn ≤ dn then c.modCtx x fun k => k.stepTo gn dn fin
  else if compact then
    c.loads x 1 ((List.range 13).map (k.lineRef pl true pos)) fun c bs =>
      c.toStore x 4 outs fun c ps =>
        let ys := ((csfDecode false bs).drop (pos % 6).toNat).take n
        (c.storeAll x 4 ps (ys.map fun y => lowOf 32 (y * 256))).modCtx x fun k =>
          (if csfFailed false bs then k.flag fCSFE else k).stepTo gn (dn + n) fin
  else
    c.loads x 4 ((List.range n).map fun (i : Nat) => k.lineRef pl false (pos + i) 0) fun c xs =>
      c.toStore x 4 outs fun c ps =>
        (c.storeAll x 4 ps xs).modCtx x fun k => k.stepTo gn (dn + n) fin

/-- Read delayed samples from a full or compact delay line (R294). -/
def execDlyRead (x : Fin 64) (pl pb : BitVec 3) (gn gd : BitVec 5) (compact : Bool) (s : State) : Out :=
  s.run fun c => c.issue x fun c => c.dlyRead x pl pb gn gd compact

/-- Encode six-sample blocks into CSF bytes, one block a step (R295). -/
def execCsfp (x : Fin 64) (pd ps : BitVec 3) (gn : BitVec 5) (f : Bool) (s : State) : Out :=
  s.run fun c => c.issue x fun c =>
    let k := c.dev.ctx x
    let dn := k.done gn
    let b := csfBytes f
    let fin := fun (k : Ctx) => (k.advance ps (24 * k.endTotal gn)).advance pd (b * k.endTotal gn)
    if k.total gn ≤ dn then c.modCtx x fun k => k.stepTo gn dn fin
    else
      c.loads x 4 ((List.range 6).map fun (j : Nat) => k.ref ps ((24 * dn + 4 * j : Nat) : Int) 4) fun c xs =>
        c.toStore x 1 ((List.range b).map fun (i : Nat) => k.ref pd ((b * dn + i : Nat) : Int) 1) fun c pl =>
          (c.storeAll x 1 pl (csfEncode f (xs.map fun v => roundQ 24 (q31 v)))).modCtx x fun k =>
            (k.flag (satQ24 xs)).stepTo gn (dn + 1) fin

/-- Decode CSF blocks into Q1.31 words, one block a step; a failed block writes zeros and sets CSFE (R295). -/
def execCsfu (x : Fin 64) (pd ps : BitVec 3) (gn : BitVec 5) (f : Bool) (s : State) : Out :=
  s.run fun c => c.issue x fun c =>
    let k := c.dev.ctx x
    let dn := k.done gn
    let b := csfBytes f
    let fin := fun (k : Ctx) => (k.advance pd (24 * k.endTotal gn)).advance ps (b * k.endTotal gn)
    if k.total gn ≤ dn then c.modCtx x fun k => k.stepTo gn dn fin
    else
      c.loads x 1 ((List.range b).map fun (i : Nat) => k.ref ps ((b * dn + i : Nat) : Int) 1) fun c bs =>
        c.toStore x 4 ((List.range 6).map fun (j : Nat) => k.ref pd ((24 * dn + 4 * j : Nat) : Int) 4) fun c pl =>
          (c.storeAll x 4 pl ((csfDecode f bs).map fun y => lowOf 32 (y * 256))).modCtx x fun k =>
            (if csfFailed f bs then k.flag fCSFE else k).stepTo gn (dn + 1) fin

end Sys2Proof.Machine
end

