-- ==== Sys2Proof/Machine/IsaMem.lean ====
section
/-! DEFINITION. Loads, stores and stream access (R274, R278). -/

namespace Sys2Proof.Machine

/-- The address G[rs] + imm16 sign-extended (R278). -/
def Ctx.baseAddr (k : Ctx) (rs : BitVec 5) (imm : BitVec 16) : Nat := (k.rdG rs + imm.signExtend 32).toNat

/-- A scalar load of `size` bytes; `f` widens the value (R278). -/
def Chip.load (c : Chip) (x size : Nat) (rd rs : BitVec 5) (imm : BitVec 16) (f : Nat → Nat) : Chip :=
  c.issue x fun c => c.loads x size [⟨(c.dev.ctx x).baseAddr rs imm, false⟩] fun c vs =>
    c.modCtx x fun k => (k.wrGn rd (f (vs.headD 0))).next

/-- A scalar store of the low `size` bytes of G[rt] (R278). -/
def Chip.storeG (c : Chip) (x size : Nat) (rt rs : BitVec 5) (imm : BitVec 16) : Chip :=
  c.issue x fun c => c.toStore x size [⟨(c.dev.ctx x).baseAddr rs imm, false⟩] fun c ps =>
    (c.storeAll x size ps [((c.dev.ctx x).rdG rt).toNat % 256 ^ size]).modCtx x Ctx.next

/-- Sign-extend a `w`-bit value to 32 bits. -/
def sext (w v : Nat) : Nat := lowOf 32 (signedOf w v)

/-- Load a word (R278). -/
def execLw (x : Fin 64) (rd rs : BitVec 5) (imm : BitVec 16) (s : State) : Out :=
  s.run fun c => c.load x 4 rd rs imm id

/-- Load a sign-extended halfword (R278). -/
def execLh (x : Fin 64) (rd rs : BitVec 5) (imm : BitVec 16) (s : State) : Out :=
  s.run fun c => c.load x 2 rd rs imm (sext 16)

/-- Load a zero-extended halfword (R278). -/
def execLhu (x : Fin 64) (rd rs : BitVec 5) (imm : BitVec 16) (s : State) : Out :=
  s.run fun c => c.load x 2 rd rs imm (· % 65536)

/-- Load a sign-extended byte (R278). -/
def execLb (x : Fin 64) (rd rs : BitVec 5) (imm : BitVec 16) (s : State) : Out :=
  s.run fun c => c.load x 1 rd rs imm (sext 8)

/-- Load a zero-extended byte (R278). -/
def execLbu (x : Fin 64) (rd rs : BitVec 5) (imm : BitVec 16) (s : State) : Out :=
  s.run fun c => c.load x 1 rd rs imm (· % 256)

/-- Store a word (R278). -/
def execSw (x : Fin 64) (rt rs : BitVec 5) (imm : BitVec 16) (s : State) : Out :=
  s.run fun c => c.storeG x 4 rt rs imm

/-- Store a halfword (R278). -/
def execSh (x : Fin 64) (rt rs : BitVec 5) (imm : BitVec 16) (s : State) : Out :=
  s.run fun c => c.storeG x 2 rt rs imm

/-- Store a byte (R278). -/
def execSb (x : Fin 64) (rt rs : BitVec 5) (imm : BitVec 16) (s : State) : Out :=
  s.run fun c => c.storeG x 1 rt rs imm

/-- Load a word through a stream pointer and advance it by 4 × imm16 (R278). -/
def execLdp (x : Fin 64) (rd : BitVec 5) (p : BitVec 3) (imm : BitVec 16) (s : State) : Out :=
  s.run fun c => c.issue x fun c => c.loads x 4 [(c.dev.ctx x).ref p 0 4] fun c vs =>
    c.modCtx x fun k => ((k.wrGn rd (vs.headD 0)).advance p (4 * imm.toInt)).next

/-- Store a word through a stream pointer and advance it (R278). -/
def execStp (x : Fin 64) (rt : BitVec 5) (p : BitVec 3) (imm : BitVec 16) (s : State) : Out :=
  s.run fun c => c.issue x fun c => c.toStore x 4 [(c.dev.ctx x).ref p 0 4] fun c ps =>
    (c.storeAll x 4 ps [((c.dev.ctx x).rdG rt).toNat]).modCtx x fun k => (k.advance p (4 * imm.toInt)).next

/-- The eight lane accesses of a vector at P[p] (R278). -/
def Ctx.laneRefs (k : Ctx) (p : BitVec 3) : List Ref := (List.range 8).map fun (j : Nat) => k.ref p ((4 * j : Nat) : Int) 4

/-- Load eight lanes through a stream pointer and advance it (R278). -/
def execVld (x : Fin 64) (vd : BitVec 4) (p : BitVec 3) (imm : BitVec 16) (s : State) : Out :=
  s.run fun c => c.issue x fun c => c.loads x 4 ((c.dev.ctx x).laneRefs p) fun c vs =>
    c.modCtx x fun k => ((k.wrVs vd fun j => BitVec.ofNat 32 (vs.getD j 0)).advance p (4 * imm.toInt)).next

/-- Store eight lanes through a stream pointer and advance it (R278). -/
def execVst (x : Fin 64) (vs : BitVec 4) (p : BitVec 3) (imm : BitVec 16) (s : State) : Out :=
  s.run fun c => c.issue x fun c => c.toStore x 4 ((c.dev.ctx x).laneRefs p) fun c ps =>
    (c.storeAll x 4 ps ((List.range 8).map fun j => ((c.dev.ctx x).rdV vs j).toNat)).modCtx x
      fun k => (k.advance p (4 * imm.toInt)).next

/-- Read a stream pointer field (R278). -/
def execPget (x : Fin 64) (rd : BitVec 5) (p : BitVec 3) (field : Fin 3) (s : State) : Out :=
  s.reg x fun k => k.wrGn rd (k.rdP p field)

/-- Write a stream pointer field; LEN and INDEX take G[23:0] (R278). -/
def execPput (x : Fin 64) (rt : BitVec 5) (p : BitVec 3) (field : Fin 3) (s : State) : Out :=
  s.reg x fun k => k.wrP p field ((k.rdG rt).toNat % 2 ^ (if field.val = 0 then 32 else 24))

/-- Advance a stream pointer by a signed G value (R274, R278). -/
def execPadd (x : Fin 64) (rt : BitVec 5) (p : BitVec 3) (s : State) : Out :=
  s.reg x fun k => k.advance p (k.rdG rt).toInt

end Sys2Proof.Machine
end

