-- ==== Sys2Proof/Machine/IsaSys.lean ====
section
/-! DEFINITION. The system instructions, which only a privileged context runs (R239, R300 to R302). -/

namespace Sys2Proof.Machine

/-- A system instruction of context `x`: cause 10 PRIV in an unprivileged context (R239, R300). -/
def State.system (s : State) (x : Fin 64) (f : Chip → Chip) : Out :=
  s.run fun c => c.issue x fun c =>
    if c.dev.ctxPriv x then f c else c.onDev fun d => d.ctxFault x 10 .fetch (d.ctx x).pc

/-- Start an invalidation by G[rs] and G[rt]; it retires when the invalidation is complete (R220, R300, R302). -/
def execTlbinv (x : Fin 64) (rs rt : BitVec 5) (s : State) : Out :=
  s.system x fun c => c.onDev fun d =>
    let v := ((d.ctx x).rdG rs).toNat
    if v % 4 = 0 then d.modCtx x Ctx.next
    else (d.invStart (v % 4) (bitsAt v 2 8) ((d.ctx x).rdG rt).toNat (some x)).modCtx x fun k => { k with stall := true }

/-- ASID = G[rs][7:0] (R300). -/
def execSetasid (x : Fin 64) (rs : BitVec 5) (s : State) : Out :=
  s.system x fun c => c.modCtx x fun k => { k.next with asid := (k.rdG rs).toNat % 256 }

/-- The command G[rs][11:8] to channel G[rs][4:0] (R231, R233, R300). -/
def execDmak (x : Fin 64) (rs : BitVec 5) (s : State) : Out :=
  s.system x fun c =>
    let v := ((c.dev.ctx x).rdG rs).toNat
    (c.dmaCmd (v % 32) (bitsAt v 8 4)).modCtx x Ctx.next

/-- rd = the register addressed by G[rs], read as a host access would (R300, R301). -/
def execRdreg (x : Fin 64) (rd rs : BitVec 5) (s : State) : Out :=
  s.system x fun c => c.onDev fun d =>
    let r := d.readForm x ((d.ctx x).rdG rs).toNat
    r.1.modCtx x fun k => (k.wrGn rd r.2).next

/-- The register addressed by G[rs] is written with G[rt] as a host access would (R300, R301). -/
def execWrreg (x : Fin 64) (rs rt : BitVec 5) (s : State) : Out :=
  s.system x fun c =>
    let k := c.dev.ctx x
    (c.writeForm x (k.rdG rs).toNat (k.rdG rt).toNat).modCtx x Ctx.next

/-- G[rs] is written to LAM.CMD, as WRREG would (R300). -/
def execLamop (x : Fin 64) (rs : BitVec 5) (s : State) : Out :=
  s.system x fun c => (c.writeForm x 0x3C0000 ((c.dev.ctx x).rdG rs).toNat).modCtx x Ctx.next

end Sys2Proof.Machine
end

