-- ==== Sys2Proof/Machine/Dispatch.lean ====
section
/-! DEFINITION. One arm per command: each calls its own meaning. -/

namespace Sys2Proof.Machine

/-- The effect of a command on everything but the queue. -/
def exec (i : Instr) (s : State) : Host.Outcome State Fault Refusal :=
  match i with
  | .resetNAssert lowNs => Sys2Proof.Machine.execResetNAssert lowNs s
  | .resetNRise role boot hqMode xtalBypass => Sys2Proof.Machine.execResetNRise role boot hqMode xtalBypass s
  | .supplyFail => Sys2Proof.Machine.execSupplyFail s
  | .sysPllLock => Sys2Proof.Machine.execSysPllLock s
  | .sysPllLockLost => Sys2Proof.Machine.execSysPllLockLost s
  | .sysPllRefLost => Sys2Proof.Machine.execSysPllRefLost s
  | .sysPllReacquire => Sys2Proof.Machine.execSysPllReacquire s
  | .spreadWrite en => Sys2Proof.Machine.execSpreadWrite en s
  | .spreadApply => Sys2Proof.Machine.execSpreadApply s
  | .vtChange med low high => Sys2Proof.Machine.execVtChange med low high s
  | .refMeasurement offset => Sys2Proof.Machine.execRefMeasurement offset s
  | .medpllRefLost => Sys2Proof.Machine.execMedpllRefLost s
  | .medpllRefReturn offset => Sys2Proof.Machine.execMedpllRefReturn offset s
  | .medpllLock => Sys2Proof.Machine.execMedpllLock s
  | .medpllLockLost => Sys2Proof.Machine.execMedpllLockLost s
  | .lockReturnOffset offset => Sys2Proof.Machine.execLockReturnOffset offset s
  | .freqAlarmCheck count => Sys2Proof.Machine.execFreqAlarmCheck count s
  | .medpllCtlWrite v => Sys2Proof.Machine.execMedpllCtlWrite v s
  | .refChangeApply => Sys2Proof.Machine.execRefChangeApply s
  | .dividerLoad k => Sys2Proof.Machine.execDividerLoad k s
  | .calStart band vt => Sys2Proof.Machine.execCalStart band vt s
  | .calDone count => Sys2Proof.Machine.execCalDone count s
  | .residualSlewStep => Sys2Proof.Machine.execResidualSlewStep s
  | .realignAccept => Sys2Proof.Machine.execRealignAccept s
  | .realignGo => Sys2Proof.Machine.execRealignGo s
  | .realignDrainStart => Sys2Proof.Machine.execRealignDrainStart s
  | .realignDrainEnd => Sys2Proof.Machine.execRealignDrainEnd s
  | .rateWrite v => Sys2Proof.Machine.execRateWrite v s
  | .timeCtlLock => Sys2Proof.Machine.execTimeCtlLock s
  | .timeCtlCoast => Sys2Proof.Machine.execTimeCtlCoast s
  | .servoTimeout => Sys2Proof.Machine.execServoTimeout s
  | .timeFree => Sys2Proof.Machine.execTimeFree s
  | .offsetWrite v override => Sys2Proof.Machine.execOffsetWrite v override s
  | .nowNsWrap => Sys2Proof.Machine.execNowNsWrap s
  | .tickAnchorWrite ns guarded => Sys2Proof.Machine.execTickAnchorWrite ns guarded s
  | .mediaCountWrite v => Sys2Proof.Machine.execMediaCountWrite v s
  | .mediaCountLoad => Sys2Proof.Machine.execMediaCountLoad s
  | .teuEnable u => Sys2Proof.Machine.execTeuEnable u s
  | .teuDisable u => Sys2Proof.Machine.execTeuDisable u s
  | .teuEventFire u => Sys2Proof.Machine.execTeuEventFire u s
  | .teuPinEnd u => Sys2Proof.Machine.execTeuPinEnd u s
  | .teuTargetWrite u port cls => Sys2Proof.Machine.execTeuTargetWrite u port cls s
  | .macEnable p => Sys2Proof.Machine.execMacEnable p s
  | .macDisable p => Sys2Proof.Machine.execMacDisable p s
  | .linkChange p line => Sys2Proof.Machine.execLinkChange p line s
  | .anComplete p page => Sys2Proof.Machine.execAnComplete p page s
  | .frameReceive p bytes errs ovf bad ago => Sys2Proof.Machine.execFrameReceive p bytes errs ovf bad ago s
  | .pauseExpire p => Sys2Proof.Machine.execPauseExpire p s
  | .rxrTailWrite p r tail => Sys2Proof.Machine.execRxrTailWrite p r tail s
  | .txrTailWrite p cl tail => Sys2Proof.Machine.execTxrTailWrite p cl tail s
  | .frameTransmitStart p sfd => Sys2Proof.Machine.execFrameTransmitStart p sfd s
  | .frameTransmitDone p ecc => Sys2Proof.Machine.execFrameTransmitDone p ecc s
  | .launchTimeReached p cl => Sys2Proof.Machine.execLaunchTimeReached p cl s
  | .gclLoad p rise => Sys2Proof.Machine.execGclLoad p rise s
  | .gclSwitch p => Sys2Proof.Machine.execGclSwitch p s
  | .gclEntryAdvance p => Sys2Proof.Machine.execGclEntryAdvance p s
  | .lpiEnter p => Sys2Proof.Machine.execLpiEnter p s
  | .lpiExit p => Sys2Proof.Machine.execLpiExit p s
  | .flowPacketAccept => Sys2Proof.Machine.execFlowPacketAccept s
  | .rxfEnable f => Sys2Proof.Machine.execRxfEnable f s
  | .rxfReady f => Sys2Proof.Machine.execRxfReady f s
  | .rxfDisable f => Sys2Proof.Machine.execRxfDisable f s
  | .pathDeadline f path => Sys2Proof.Machine.execPathDeadline f path s
  | .txfEnable f => Sys2Proof.Machine.execTxfEnable f s
  | .txfDisable f => Sys2Proof.Machine.execTxfDisable f s
  | .txfSeqWrite f v => Sys2Proof.Machine.execTxfSeqWrite f v s
  | .tickBoundary => Sys2Proof.Machine.execTickBoundary s
  | .portEnable n => Sys2Proof.Machine.execPortEnable n s
  | .portStart n => Sys2Proof.Machine.execPortStart n s
  | .portDisable n => Sys2Proof.Machine.execPortDisable n s
  | .maskWrite n db mask late => Sys2Proof.Machine.execMaskWrite n db mask late s
  | .portFrameStart n => Sys2Proof.Machine.execPortFrameStart n s
  | .slaveFrameStart n j phase short => Sys2Proof.Machine.execSlaveFrameStart n j phase short s
  | .inputPacketPush n db slots status => Sys2Proof.Machine.execInputPacketPush n db slots status s
  | .synthPacketPush n db => Sys2Proof.Machine.execSynthPacketPush n db s
  | .outputPacketTake n db => Sys2Proof.Machine.execOutputPacketTake n db s
  | .rateWindowEnd n cycles media => Sys2Proof.Machine.execRateWindowEnd n cycles media s
  | .rateAbsent n => Sys2Proof.Machine.execRateAbsent n s
  | .portLock n => Sys2Proof.Machine.execPortLock n s
  | .bpUnmute n => Sys2Proof.Machine.execBpUnmute n s
  | .csBlockEnd n bytes => Sys2Proof.Machine.execCsBlockEnd n bytes s
  | .naHoldExpire n => Sys2Proof.Machine.execNaHoldExpire n s
  | .queuePush q data e k => Sys2Proof.Machine.execQueuePush q data e k s
  | .queuePop q => Sys2Proof.Machine.execQueuePop q s
  | .packetVisible q => Sys2Proof.Machine.execPacketVisible q s
  | .creditReturn q => Sys2Proof.Machine.execCreditReturn q s
  | .queueResetWrite q => Sys2Proof.Machine.execQueueResetWrite q s
  | .queueReset q => Sys2Proof.Machine.execQueueReset q s
  | .forcedReset q cause addr => Sys2Proof.Machine.execForcedReset q cause addr s
  | .ownerScanEnd q => Sys2Proof.Machine.execOwnerScanEnd q s
  | .rakeCellReturn => Sys2Proof.Machine.execRakeCellReturn s
  | .patrolScrub addr found => Sys2Proof.Machine.execPatrolScrub addr found s
  | .pageWalkDone x va kind spec => Sys2Proof.Machine.execPageWalkDone x va kind spec s
  | .tlbInvalidate op asid => Sys2Proof.Machine.execTlbInvalidate op asid s
  | .invDone => Sys2Proof.Machine.execInvDone s
  | .contextResume x => Sys2Proof.Machine.execContextResume x s
  | .contextAbort x => Sys2Proof.Machine.execContextAbort x s
  | .dmaKick ch => Sys2Proof.Machine.execDmaKick ch s
  | .dmaFence ch => Sys2Proof.Machine.execDmaFence ch s
  | .dmaResume ch => Sys2Proof.Machine.execDmaResume ch s
  | .dmaAbort ch => Sys2Proof.Machine.execDmaAbort ch s
  | .dmaDescFetch ch => Sys2Proof.Machine.execDmaDescFetch ch s
  | .dmaDescComplete ch => Sys2Proof.Machine.execDmaDescComplete ch s
  | .dmaFault ch => Sys2Proof.Machine.execDmaFault ch s
  | .dmaPopRetry ch => Sys2Proof.Machine.execDmaPopRetry ch s
  | .dmaFaultException x => Sys2Proof.Machine.execDmaFaultException x s
  | .taskDeadline x => Sys2Proof.Machine.execTaskDeadline x s
  | .taskStart x => Sys2Proof.Machine.execTaskStart x s
  | .taskStop x => Sys2Proof.Machine.execTaskStop x s
  | .haltSet x => Sys2Proof.Machine.execHaltSet x s
  | .haltClear x => Sys2Proof.Machine.execHaltClear x s
  | .add x rd rs rt => Sys2Proof.Machine.execAdd x rd rs rt s
  | .sub x rd rs rt => Sys2Proof.Machine.execSub x rd rs rt s
  | .and x rd rs rt => Sys2Proof.Machine.execAnd x rd rs rt s
  | .or x rd rs rt => Sys2Proof.Machine.execOr x rd rs rt s
  | .xor x rd rs rt => Sys2Proof.Machine.execXor x rd rs rt s
  | .sll x rd rs rt => Sys2Proof.Machine.execSll x rd rs rt s
  | .srl x rd rs rt => Sys2Proof.Machine.execSrl x rd rs rt s
  | .sra x rd rs rt => Sys2Proof.Machine.execSra x rd rs rt s
  | .slt x rd rs rt => Sys2Proof.Machine.execSlt x rd rs rt s
  | .sltu x rd rs rt => Sys2Proof.Machine.execSltu x rd rs rt s
  | .mul x rd rs rt => Sys2Proof.Machine.execMul x rd rs rt s
  | .mulh x rd rs rt => Sys2Proof.Machine.execMulh x rd rs rt s
  | .mulq x rd rs rt => Sys2Proof.Machine.execMulq x rd rs rt s
  | .min x rd rs rt => Sys2Proof.Machine.execMin x rd rs rt s
  | .max x rd rs rt => Sys2Proof.Machine.execMax x rd rs rt s
  | .adds x rd rs rt => Sys2Proof.Machine.execAdds x rd rs rt s
  | .subs x rd rs rt => Sys2Proof.Machine.execSubs x rd rs rt s
  | .clz x rd rs => Sys2Proof.Machine.execClz x rd rs s
  | .addi x rd rs imm => Sys2Proof.Machine.execAddi x rd rs imm s
  | .andi x rd rs imm => Sys2Proof.Machine.execAndi x rd rs imm s
  | .ori x rd rs imm => Sys2Proof.Machine.execOri x rd rs imm s
  | .xori x rd rs imm => Sys2Proof.Machine.execXori x rd rs imm s
  | .slti x rd rs imm => Sys2Proof.Machine.execSlti x rd rs imm s
  | .lui x rd imm => Sys2Proof.Machine.execLui x rd imm s
  | .shiSll x rd rs sh => Sys2Proof.Machine.execShiSll x rd rs sh s
  | .shiSrl x rd rs sh => Sys2Proof.Machine.execShiSrl x rd rs sh s
  | .shiSra x rd rs sh => Sys2Proof.Machine.execShiSra x rd rs sh s
  | .fadd x rd rs rt => Sys2Proof.Machine.execFadd x rd rs rt s
  | .fsub x rd rs rt => Sys2Proof.Machine.execFsub x rd rs rt s
  | .fmul x rd rs rt => Sys2Proof.Machine.execFmul x rd rs rt s
  | .fdiv x rd rs rt => Sys2Proof.Machine.execFdiv x rd rs rt s
  | .fsqrt x rd rs => Sys2Proof.Machine.execFsqrt x rd rs s
  | .fmin x rd rs rt => Sys2Proof.Machine.execFmin x rd rs rt s
  | .fmax x rd rs rt => Sys2Proof.Machine.execFmax x rd rs rt s
  | .feq x rd rs rt => Sys2Proof.Machine.execFeq x rd rs rt s
  | .flt x rd rs rt => Sys2Proof.Machine.execFlt x rd rs rt s
  | .fle x rd rs rt => Sys2Proof.Machine.execFle x rd rs rt s
  | .fcvtsw x rd rs => Sys2Proof.Machine.execFcvtsw x rd rs s
  | .fcvtws x rd rs => Sys2Proof.Machine.execFcvtws x rd rs s
  | .fcvtsq x rd rs => Sys2Proof.Machine.execFcvtsq x rd rs s
  | .fcvtqs x rd rs => Sys2Proof.Machine.execFcvtqs x rd rs s
  | .fabs x rd rs => Sys2Proof.Machine.execFabs x rd rs s
  | .fneg x rd rs => Sys2Proof.Machine.execFneg x rd rs s
  | .lw x rd rs imm => Sys2Proof.Machine.execLw x rd rs imm s
  | .lh x rd rs imm => Sys2Proof.Machine.execLh x rd rs imm s
  | .lhu x rd rs imm => Sys2Proof.Machine.execLhu x rd rs imm s
  | .lb x rd rs imm => Sys2Proof.Machine.execLb x rd rs imm s
  | .lbu x rd rs imm => Sys2Proof.Machine.execLbu x rd rs imm s
  | .sw x rt rs imm => Sys2Proof.Machine.execSw x rt rs imm s
  | .sh x rt rs imm => Sys2Proof.Machine.execSh x rt rs imm s
  | .sb x rt rs imm => Sys2Proof.Machine.execSb x rt rs imm s
  | .ldp x rd p imm => Sys2Proof.Machine.execLdp x rd p imm s
  | .stp x rt p imm => Sys2Proof.Machine.execStp x rt p imm s
  | .vld x vd p imm => Sys2Proof.Machine.execVld x vd p imm s
  | .vst x vs p imm => Sys2Proof.Machine.execVst x vs p imm s
  | .pget x rd p field => Sys2Proof.Machine.execPget x rd p field s
  | .pput x rt p field => Sys2Proof.Machine.execPput x rt p field s
  | .padd x rt p => Sys2Proof.Machine.execPadd x rt p s
  | .pop x rd rt rq qimm => Sys2Proof.Machine.execPop x rd rt rq qimm s
  | .push x k rt rq qimm => Sys2Proof.Machine.execPush x k rt rq qimm s
  | .pushe x k rt rq qimm => Sys2Proof.Machine.execPushe x k rt rq qimm s
  | .pktcnt x rd rq qimm => Sys2Proof.Machine.execPktcnt x rd rq qimm s
  | .pktcntCredit x rd rq qimm => Sys2Proof.Machine.execPktcntCredit x rd rq qimm s
  | .vmac x ad vs vt h n => Sys2Proof.Machine.execVmac x ad vs vt h n s
  | .vmacr x gd ad vs vt h n => Sys2Proof.Machine.execVmacr x gd ad vs vt h n s
  | .vadd x vd vs vt => Sys2Proof.Machine.execVadd x vd vs vt s
  | .vsub x vd vs vt => Sys2Proof.Machine.execVsub x vd vs vt s
  | .vmulq x vd vs vt => Sys2Proof.Machine.execVmulq x vd vs vt s
  | .vmov x vd vs => Sys2Proof.Machine.execVmov x vd vs s
  | .vsplat x vd gs => Sys2Proof.Machine.execVsplat x vd gs s
  | .vget x gd vs lane => Sys2Proof.Machine.execVget x gd vs lane s
  | .vput x vd gs lane => Sys2Proof.Machine.execVput x vd gs lane s
  | .vabs x vd vs => Sys2Proof.Machine.execVabs x vd vs s
  | .vmaxa x gd vs => Sys2Proof.Machine.execVmaxa x gd vs s
  | .aclr x ad => Sys2Proof.Machine.execAclr x ad s
  | .amov x ad gs => Sys2Proof.Machine.execAmov x ad gs s
  | .arnd x gd src => Sys2Proof.Machine.execArnd x gd src s
  | .arnd24 x gd src => Sys2Proof.Machine.execArnd24 x gd src s
  | .aadd x ad src => Sys2Proof.Machine.execAadd x ad src s
  | .asub x ad src => Sys2Proof.Machine.execAsub x ad src s
  | .ashr x ad sh => Sys2Proof.Machine.execAshr x ad sh s
  | .ashl x ad sh => Sys2Proof.Machine.execAshl x ad sh s
  | .aflag x gd src => Sys2Proof.Machine.execAflag x gd src s
  | .aget x gd src word => Sys2Proof.Machine.execAget x gd src word s
  | .aput x ad gs word => Sys2Proof.Machine.execAput x ad gs word s
  | .firb x ad pc px gn h => Sys2Proof.Machine.execFirb x ad pc px gn h s
  | .biq x vw px pc ps gn gs => Sys2Proof.Machine.execBiq x vw px pc ps gn gs s
  | .mix x vd pt gn m l => Sys2Proof.Machine.execMix x vd pt gn m l s
  | .ramp x pd ak gs gn => Sys2Proof.Machine.execRamp x pd ak gs gn s
  | .dlyWrite x pl pb gn compact => Sys2Proof.Machine.execDlyWrite x pl pb gn compact s
  | .dlyRead x pl pb gn gd compact => Sys2Proof.Machine.execDlyRead x pl pb gn gd compact s
  | .csfp x pd ps gn f => Sys2Proof.Machine.execCsfp x pd ps gn f s
  | .csfu x pd ps gn f => Sys2Proof.Machine.execCsfu x pd ps gn f s
  | .lim x vd vs vt ak gc => Sys2Proof.Machine.execLim x vd vs vt ak gc s
  | .env x rs g k => Sys2Proof.Machine.execEnv x rs g k s
  | .beq x rs rt off => Sys2Proof.Machine.execBeq x rs rt off s
  | .bne x rs rt off => Sys2Proof.Machine.execBne x rs rt off s
  | .blt x rs rt off => Sys2Proof.Machine.execBlt x rs rt off s
  | .bge x rs rt off => Sys2Proof.Machine.execBge x rs rt off s
  | .bltu x rs rt off => Sys2Proof.Machine.execBltu x rs rt off s
  | .bgeu x rs rt off => Sys2Proof.Machine.execBgeu x rs rt off s
  | .jal x off => Sys2Proof.Machine.execJal x off s
  | .jalr x rd rs imm => Sys2Proof.Machine.execJalr x rd rs imm s
  | .loop x rs off => Sys2Proof.Machine.execLoop x rs off s
  | .nop x => Sys2Proof.Machine.execNop x s
  | .waittick x => Sys2Proof.Machine.execWaittick x s
  | .yield x => Sys2Proof.Machine.execYield x s
  | .eret x => Sys2Proof.Machine.execEret x s
  | .icinv x rs => Sys2Proof.Machine.execIcinv x rs s
  | .icinva x => Sys2Proof.Machine.execIcinva x s
  | .fsrr x rd => Sys2Proof.Machine.execFsrr x rd s
  | .fsrw x rs => Sys2Proof.Machine.execFsrw x rs s
  | .tlbinv x rs rt => Sys2Proof.Machine.execTlbinv x rs rt s
  | .setasid x rs => Sys2Proof.Machine.execSetasid x rs s
  | .dmak x rs => Sys2Proof.Machine.execDmak x rs s
  | .rdreg x rd rs => Sys2Proof.Machine.execRdreg x rd rs s
  | .wrreg x rs rt => Sys2Proof.Machine.execWrreg x rs rt s
  | .lamop x rs => Sys2Proof.Machine.execLamop x rs s
  | .illegalInstruction x w => Sys2Proof.Machine.execIllegalInstruction x w s
  | .routeWrite e v late => Sys2Proof.Machine.execRouteWrite e v late s
  | .routeApply => Sys2Proof.Machine.execRouteApply s
  | .parkedDiscard q => Sys2Proof.Machine.execParkedDiscard q s
  | .gangRun k => Sys2Proof.Machine.execGangRun k s
  | .gangStop k late => Sys2Proof.Machine.execGangStop k late s
  | .gangClear k => Sys2Proof.Machine.execGangClear k s
  | .gangRelease k => Sys2Proof.Machine.execGangRelease k s
  | .gangPlay k => Sys2Proof.Machine.execGangPlay k s
  | .gangStopping k => Sys2Proof.Machine.execGangStopping k s
  | .gangGatesOff k => Sys2Proof.Machine.execGangGatesOff k s
  | .gangFetch => Sys2Proof.Machine.execGangFetch s
  | .carrierCycleStart g bits late edge errs => Sys2Proof.Machine.execCarrierCycleStart g bits late edge errs s
  | .faultDecided levels => Sys2Proof.Machine.execFaultDecided levels s
  | .faultRestart k => Sys2Proof.Machine.execFaultRestart k s
  | .calLoss g => Sys2Proof.Machine.execCalLoss g s
  | .grpConfigWrite g reg v => Sys2Proof.Machine.execGrpConfigWrite g reg v s
  | .bstEnable g => Sys2Proof.Machine.execBstEnable g s
  | .bstDisable g => Sys2Proof.Machine.execBstDisable g s
  | .bstClear g => Sys2Proof.Machine.execBstClear g s
  | .bstConfigWrite g reg v => Sys2Proof.Machine.execBstConfigWrite g reg v s
  | .bstReady g => Sys2Proof.Machine.execBstReady g s
  | .isnsTrip g level t => Sys2Proof.Machine.execIsnsTrip g level t s
  | .maxOnTime g t => Sys2Proof.Machine.execMaxOnTime g t s
  | .bstOvervoltage g bits => Sys2Proof.Machine.execBstOvervoltage g bits s
  | .bstStop g cause => Sys2Proof.Machine.execBstStop g cause s
  | .senseLost g => Sys2Proof.Machine.execSenseLost g s
  | .bstRestart g => Sys2Proof.Machine.execBstRestart g s
  | .hbInEdge stamp level => Sys2Proof.Machine.execHbInEdge stamp level s
  | .hbDeadline time => Sys2Proof.Machine.execHbDeadline time s
  | .batonConfirmed high => Sys2Proof.Machine.execBatonConfirmed high s
  | .batonLost => Sys2Proof.Machine.execBatonLost s
  | .initialClaim edge => Sys2Proof.Machine.execInitialClaim edge s
  | .claimTimeout => Sys2Proof.Machine.execClaimTimeout s
  | .holderYield => Sys2Proof.Machine.execHolderYield s
  | .watchdogFire => Sys2Proof.Machine.execWatchdogFire s
  | .stateFrameSend => Sys2Proof.Machine.execStateFrameSend s
  | .stateFrameReceive ws => Sys2Proof.Machine.execStateFrameReceive ws s
  | .dataFrameReceive ws => Sys2Proof.Machine.execDataFrameReceive ws s
  | .joinFrameReceive ws => Sys2Proof.Machine.execJoinFrameReceive ws s
  | .qlinkUp => Sys2Proof.Machine.execQlinkUp s
  | .qlinkDown lost => Sys2Proof.Machine.execQlinkDown lost s
  | .proofCompare ch => Sys2Proof.Machine.execProofCompare ch s
  | .forceTake edge => Sys2Proof.Machine.execForceTake edge s
  | .forceRelease => Sys2Proof.Machine.execForceRelease s
  | .forceHandover => Sys2Proof.Machine.execForceHandover s
  | .handoverRelease => Sys2Proof.Machine.execHandoverRelease s
  | .joinStart => Sys2Proof.Machine.execJoinStart s
  | .joinAbort => Sys2Proof.Machine.execJoinAbort s
  | .convergeCountEnd => Sys2Proof.Machine.execConvergeCountEnd s
  | .load => Sys2Proof.Machine.execLoad s
  | .verify => Sys2Proof.Machine.execVerify s
  | .verifyDone => Sys2Proof.Machine.execVerifyDone s
  | .arm => Sys2Proof.Machine.execArm s
  | .disarm => Sys2Proof.Machine.execDisarm s
  | .confirm => Sys2Proof.Machine.execConfirm s
  | .save => Sys2Proof.Machine.execSave s
  | .rollback => Sys2Proof.Machine.execRollback s
  | .erase slot => Sys2Proof.Machine.execErase slot s
  | .earlyCopyDone => Sys2Proof.Machine.execEarlyCopyDone s
  | .switchDrainStart => Sys2Proof.Machine.execSwitchDrainStart s
  | .switchDrainEnd => Sys2Proof.Machine.execSwitchDrainEnd s
  | .confirmWindowExpire => Sys2Proof.Machine.execConfirmWindowExpire s
  | .flashDone ok => Sys2Proof.Machine.execFlashDone ok s
  | .write addr bytes => Sys2Proof.Machine.execWrite addr bytes s
  | .read addr n => Sys2Proof.Machine.execRead addr n s
  | .qwrite addr bytes => Sys2Proof.Machine.execQwrite addr bytes s
  | .qread addr n => Sys2Proof.Machine.execQread addr n s
  | .status => Sys2Proof.Machine.execStatus s
  | .badCmd code => Sys2Proof.Machine.execBadCmd code s
  | .readTimeout addr n => Sys2Proof.Machine.execReadTimeout addr n s
  | .postedWritePerform => Sys2Proof.Machine.execPostedWritePerform s
  | .registerWrite r addr v => Sys2Proof.Machine.execRegisterWrite r addr v s
  | .rcRead r addr => Sys2Proof.Machine.execRcRead r addr s
  | .indDataWrite r v => Sys2Proof.Machine.execIndDataWrite r v s
  | .indDataRead r => Sys2Proof.Machine.execIndDataRead r s
  | .unlock r v => Sys2Proof.Machine.execUnlock r v s
  | .mbxReadReq => Sys2Proof.Machine.execMbxReadReq s
  | .mbxWriteReq => Sys2Proof.Machine.execMbxWriteReq s
  | .scrubDone => Sys2Proof.Machine.execScrubDone s
  | .unitReset kind index => Sys2Proof.Machine.execUnitReset kind index s
  | .unitResetDone kind index => Sys2Proof.Machine.execUnitResetDone kind index s
  | .extest => Sys2Proof.Machine.execExtest s
  | .idcode => Sys2Proof.Machine.execIdcode s
  | .samplePreload => Sys2Proof.Machine.execSamplePreload s
  | .highz => Sys2Proof.Machine.execHighz s
  | .clamp => Sys2Proof.Machine.execClamp s
  | .bypass => Sys2Proof.Machine.execBypass s
  | .padWrite pad v => Sys2Proof.Machine.execPadWrite pad v s
  | .supplyRestored => Sys2Proof.Machine.execSupplyRestored s
  | .batonFalls => Sys2Proof.Machine.execBatonFalls s
  | .calOkRestored g => Sys2Proof.Machine.execCalOkRestored g s
  | .tempMeasurement t => Sys2Proof.Machine.execTempMeasurement t s
  | .testLogicReset => Sys2Proof.Machine.execTestLogicReset s

end Sys2Proof.Machine
end

