-- ==== Sys2Proof/Machine/Step.lean ====
section
/-! DEFINITION. One step: the command at the front of the queue takes effect; with no command waiting, one CLK_TIME
cycle passes (R56). -/

namespace Sys2Proof.Machine

/-- A cycle of CLK_TIME with no command waiting (DESIGN CHOICE: notes/assumptions/2.md). -/
def State.idle (s : State) : Out := s.dev Dev.timeCycle

/-- One step of the block. -/
def step (s : State) : Host.Outcome State Fault Refusal :=
  match s.pending with
  | [] => s.idle
  | i :: rest => exec i { s with pending := rest }

/-- The state with the command that a table word spells put at the front of its queue; unchanged where the word spells
none, and the command table gives no row any bits. -/
def State.withFetchWord (s : State) (nbits w : Nat) : State :=
  match Sys2Proof.decodeTableWord nbits w with
  | none => s
  | some i => { s with pending := i :: s.pending }

end Sys2Proof.Machine
end

