-- ==== Sys2Proof/WellFormed.lean ====
section
/-! DEFINITION. Which commands a sender can give: the operands that a command's type does not bound already. -/

namespace Sys2Proof

/-- The operands name something that the spec describes; on any other the meanings change nothing. -/
def WellFormed : Instr → Bool
  | .padWrite i _ => Machine.isPad i
  | .vtChange _ low high => !(low && high)
  | .rateWindowEnd _ cycles media => cycles != 0 && media != 0
  | .csBlockEnd _ bytes => bytes.length == 24
  | .inputPacketPush _ _ slots _ => decide (slots.length ≤ 32)
  | .routeWrite e _ _ => Machine.isEndpoint e.toNat
  | .carrierCycleStart _ _ _ _ errs => decide (errs.length ≤ 8)
  | .illegalInstruction _ w => !Machine.isaDefined w.toNat
  | _ => true

end Sys2Proof
end

