-- ==== Sys2Proof/Safety.lean ====
section
/-! DEFINITION. What a safe run is: the memories keep their canonical form, every waiting command is one that a sender
can give, and no step stops. -/

namespace Sys2Proof.Machine

/-- Saltern, pan memory and the flash are in their canonical form. -/
def State.memWf (s : State) : Bool := s.chip.mem.wf

/-- Every waiting command is well formed. -/
def State.pendingWf (s : State) : Bool := s.pending.all WellFormed

/-- A state from which a step is safe. -/
def State.Safe (s : State) : Prop := s.memWf = true ∧ s.pendingWf = true

/-- The outcome is a next state that satisfies `p`. -/
def Answers (o : Out) (p : State → Prop) : Prop := ∃ t, o = .next t ∧ p t

end Sys2Proof.Machine
end

