-- ==== Sys2Proof/Certificates/Slice0/Obligations.lean ====
section
/-! DEFINITION. The statements for the provers: what the commands of each family do, when they answer a next state, and
what they leave unchanged. A statement `<Name>` says of every state and every operand what `<Name>At` says of one. -/

namespace Sys2Proof.Claim

open Sys2Proof.Machine

/-- The supplies hold and RESET_N is high (R430, R431): commands take effect. No word of an earlier command waits for
its cell, as every step leaves it (MemoryStaysCanonical). -/
abbrev Live (s : State) : Prop :=
  s.chip.dev.resetN = true ∧ s.chip.dev.supplyOk = true ∧ s.chip.dev.pool.out = []

/-- `i` answers a next state that differs from `s` in the device alone, and before and after satisfy `p`. No byte of
memory changes, and no waiting command. -/
def Moves (i : Instr) (s : State) (p : Dev → Dev → Prop) : Prop :=
  ∃ d, exec i s = .next { s with chip := { s.chip with dev := d } } ∧ p s.chip.dev d

/-- `i` answers a next state whose queue of commands is that of `s`, and before and after satisfy `p`. -/
def Turns (i : Instr) (s : State) (p : Chip → Chip → Prop) : Prop :=
  ∃ c, exec i s = .next { s with chip := c } ∧ p s.chip c

/-- Every register field of `l` holds its value afterwards, and every field that neither `l` nor `may` names is as it
was. -/
def Sets (d d' : Dev) (l : List (Fld × Nat)) (may : List Fld) : Prop :=
  (∀ p ∈ l, d'.rd p.1 = p.2) ∧
    ∀ f : Fld, f.id ∉ l.map (fun p => p.1.id) → f.id ∉ may.map Fld.id → d'.rd f = d.rd f

/-- No state changes but register fields. -/
def RegsOnly (d d' : Dev) : Prop := { d' with regs := d.regs } = d

/-- `Sets` with no other state changed. -/
def Writes (d d' : Dev) (l : List (Fld × Nat)) (may : List Fld) : Prop := Sets d d' l may ∧ RegsOnly d d'

/-- No queue but `q` changes. -/
def QueuesBut (d d' : Dev) (q : Nat) : Prop := ∀ j, j ≠ q → d'.q j = d.q j

/-- No context but `x` changes. -/
def CtxsBut (d d' : Dev) (x : Nat) : Prop := ∀ y, y ≠ x → d'.ctx y = d.ctx y

/-- No byte of memory changes outside the `n` bytes from `a`, and no byte of the flash. -/
def BytesBut (m m' : Mem) (a n : Nat) : Prop :=
  (∀ b, b < a ∨ a + n ≤ b → m'.byte b = m.byte b) ∧ m'.flash = m.flash

/-- The fields that the evaluation of a standby's fitness may move (R382). -/
def fitF : List Fld :=
  [F.TWIN_STATUS_UNFIT_CAUSE, F.TWIN_STATUS_FIT, F.TWIN_EVENTS_FIT_EV, F.TWIN_EVENTS_UNFIT_EV]

/-- The fields that say which band a PLL chose (R43). -/
def sysBandF : List Fld := [F.SYSPLL_STATUS_BAND, F.SYSPLL_STATUS_BAND_SEARCHED, F.SYSPLL_STATUS_BAND_ENTRY]
def medBandF : List Fld := [F.MEDPLL_STATUS_BAND, F.MEDPLL_STATUS_BAND_SEARCHED, F.MEDPLL_STATUS_BAND_ENTRY]

/-- The fields that a change of the reference's validity may move (R35, R42, R49). -/
def validF : List Fld := [F.MEDPLL_STATUS_REF_VALID, F.MEDPLL_EVENTS_REF_RETURNED, F.MEDPLL_EVENTS_REF_LOST]

/-- The fields that follow RESIDUAL (R47, R50, R54). -/
def residF : List Fld :=
  [F.MEDPLL_RESIDUAL_RESIDUAL, F.MEDPLL_STATUS_RESIDUAL_WIDE, F.MEDPLL_STATUS_SLEWING, F.MEDPLL_STATUS_SMR_RANGE]

/-- The fields that a gain of drive permission by a single chip may move (R364). -/
def gainF : List Fld :=
  [F.TWIN_STATUS_PERMIT, F.MOD_STATUS_PERMIT, F.TWIN_STATUS_BATON, F.TWIN_EVENTS_TOOK, F.TWIN_CNT_COUNT 0,
    F.TWIN_TAKE_NS_NS]

/-- What MEDPLL.RESIDUAL shows of a residual in 1/16 ns: saturated to a signed 32-bit word (R54). -/
def residualWord (r : Int) : Nat := ((max (-(2 ^ 31)) (min r (2 ^ 31 - 1))) % 2 ^ 32).toNat

/-- RESIDUAL is `r`, and its views show it (R50, R54). -/
abbrev ResidualIs (d' : Dev) (r : Int) : Prop :=
  d'.time.residual = r ∧ d'.rd F.MEDPLL_RESIDUAL_RESIDUAL = residualWord r ∧
    d'.rd F.MEDPLL_STATUS_SLEWING = bit (decide (r ≠ 0)) ∧
    d'.rd F.MEDPLL_STATUS_RESIDUAL_WIDE = bit (decide (r < -(2 ^ 31) ∨ 2 ^ 31 ≤ r))

/-- SYSPLL and the tuning voltages. -/
abbrev SysPllAt (s : State) (en low high : Bool) (t : Int) : Prop :=
  Moves .sysPllLock s (fun d d' =>
    Sets d d' [(F.SYSPLL_STATUS_LOCK, 1)] (sysBandF ++ validF ++ fitF) ∧
      (d.clk.active.sel = 0 → d'.rd F.MEDPLL_STATUS_REF_VALID = 1) ∧
      d'.time = { d.time with running := true } ∧
      { d' with regs := d.regs, time := d.time, freeCtr := d.freeCtr } = d) ∧
  (s.chip.dev.on F.SYSPLL_STATUS_LOCK = true → s.chip.dev.clk.active.sel = 0 →
    s.chip.dev.on F.MEDPLL_STATUS_REF_VALID = true →
    Moves .sysPllLockLost s fun d d' =>
      Writes d d' [(F.SYSPLL_STATUS_LOCK, 0), (F.SYSPLL_EVENTS_LOCK_LOST, 1), (F.MEDPLL_STATUS_REF_VALID, 0),
        (F.MEDPLL_EVENTS_REF_LOST, 1)] fitF) ∧
  (s.chip.dev.on F.SYSPLL_STATUS_LOCK = false → Moves .sysPllLockLost s fun d d' => Writes d d' [] fitF) ∧
  (s.chip.dev.on F.SYSPLL_STATUS_REF_LOST = false →
    Moves .sysPllRefLost s fun d d' =>
      Writes d d' [(F.SYSPLL_STATUS_REF_LOST, 1), (F.SYSPLL_EVENTS_REF_LOST_EV, 1)] []) ∧
  (s.chip.dev.on F.SYSPLL_STATUS_REF_LOST = true →
    Moves .sysPllReacquire s fun d d' =>
      Sets d d' [(F.SYSPLL_STATUS_REF_LOST, 0), (F.SYSPLL_EVENTS_REACQUIRED, 1)] sysBandF ∧
        { d' with regs := d.regs, freeCtr := d.freeCtr } = d) ∧
  Moves (.spreadWrite en) s (fun d d' => Writes d d' [(F.SYSPLL_SPREAD_EN, bit en)] []) ∧
  Moves .spreadApply s (fun d d' => Writes d d' [(F.SYSPLL_SPREAD_ACTIVE, d.rd F.SYSPLL_SPREAD_EN % 2)] []) ∧
  ((low && high) = false → s.chip.dev.time.running = true →
    Moves (.vtChange false low high) s fun d d' =>
      Writes d d' [(F.SYSPLL_STATUS_VT_LOW, bit low), (F.SYSPLL_STATUS_VT_HIGH, bit high)] [F.SYSPLL_EVENTS_VT_EV] ∧
        (low ≠ d.on F.SYSPLL_STATUS_VT_LOW ∨ high ≠ d.on F.SYSPLL_STATUS_VT_HIGH →
          d'.rd F.SYSPLL_EVENTS_VT_EV = 1)) ∧
  ((low && high) = false → s.chip.dev.on F.MEDPLL_CTL_MODE = true →
    Moves (.vtChange true low high) s fun d d' =>
      Writes d d' [(F.MEDPLL_STATUS_VT_LOW, bit low), (F.MEDPLL_STATUS_VT_HIGH, bit high)] [F.MEDPLL_EVENTS_VT_EV] ∧
        (low ≠ d.on F.MEDPLL_STATUS_VT_LOW ∨ high ≠ d.on F.MEDPLL_STATUS_VT_HIGH →
          d'.rd F.MEDPLL_EVENTS_VT_EV = 1)) ∧
  Moves (.tempMeasurement t) s (fun d d' =>
    Writes d d' [(F.PLL_TEMP_TEMP, (t % 256).toNat), (F.PLL_TEMP_VALID, 1)] [])

/-- SYSPLL's lock and its loss, the crystal's loss and return, spreading, both PLLs' tuning-voltage flags and the die
temperature (R30, R32, R33, R35, R45, R55). An event whose own condition does not hold leaves the state as it is
(assumption 1). -/
def SysPll : Prop := ∀ s en low high t, Live s → SysPllAt s en low high t

/-- MEDPLL's references and lock. -/
abbrev MedPllAt (s : State) (o : Int) : Prop :=
  let d0 := s.chip.dev
  (d0.cut = false → Moves (.refMeasurement o) s (fun d d' =>
    Sets d d' [(F.MEDPLL_REF_MEAS_OFFSET_PPM, (o % 2 ^ 24).toNat)]
        (validF ++ fitF ++ [F.MEDPLL_STATUS_REF_JUMP_REFUSED, F.MEDPLL_STATUS_COAST]) ∧
      (d.clk.active.sel = 1 → 16000 < o.natAbs → d'.rd F.MEDPLL_STATUS_REF_VALID ≠ 1) ∧
      (d.clk.active.sel = 1 → d.clk.active.rate = 3 → d'.rd F.MEDPLL_STATUS_REF_VALID ≠ 1) ∧
      (d.clk.active.sel = 1 → d.clk.active.rate < 3 → o.natAbs ≤ 12800 → d'.rd F.MEDPLL_STATUS_REF_VALID = 1) ∧
      (d.clk.active.sel = 1 → d.clk.active.rate < 3 → 12800 < o.natAbs → o.natAbs ≤ 16000 →
        d'.rd F.MEDPLL_STATUS_REF_VALID = d.rd F.MEDPLL_STATUS_REF_VALID) ∧
      { d' with regs := d.regs, clk := d.clk } = d)) ∧
  (d0.cut = true → d0.clk.active.sel ≠ 0 → Moves (.refMeasurement o) s fun d d' => d' = d) ∧
  (d0.clk.active.sel ≠ 0 → d0.on F.MEDPLL_STATUS_REF_VALID = true → d0.on F.MEDPLL_CTL_MODE = true →
    Moves .medpllRefLost s fun d d' =>
      Sets d d' ([(F.MEDPLL_STATUS_REF_VALID, 0), (F.MEDPLL_EVENTS_REF_LOST, 1), (F.MEDPLL_STATUS_REF_JUMP_REFUSED, 0)] ++
        if d.on F.MEDPLL_CTL_FALLBACK = true then [] else [(F.MEDPLL_STATUS_COAST, 1)]) fitF ∧
      d'.clk = { d.clk with refused := none, measure := false,
                            pending := if d.on F.MEDPLL_CTL_FALLBACK = true then some (⟨0, 0, 0⟩, d.tick)
                              else d.clk.pending,
                            fallback := d.on F.MEDPLL_CTL_FALLBACK || d.clk.fallback } ∧
      { d' with regs := d.regs, clk := d.clk } = d) ∧
  (d0.clk.measure = true → d0.on F.MEDPLL_CTL_MODE = true → d0.on F.MEDPLL_STATUS_REF_VALID = true →
    o.natAbs ≤ 16 * d0.rd F.TIME_JUMP_LIMIT_LIMIT → (d0.time.residual + o).natAbs ≤ 1600000000 →
    Moves (.medpllRefReturn o) s fun d d' =>
      Sets d d' [(F.MEDPLL_STATUS_COAST, 0)] (residF ++ fitF) ∧ ResidualIs d' (d.time.residual + o) ∧
        d'.clk = { d.clk with measure := false } ∧ { d' with regs := d.regs, clk := d.clk, time := d.time } = d) ∧
  (d0.clk.measure = true → d0.on F.MEDPLL_CTL_MODE = true → d0.on F.MEDPLL_STATUS_REF_VALID = true →
    d0.clk.active.sel ≠ 0 → 16 * d0.rd F.TIME_JUMP_LIMIT_LIMIT < o.natAbs →
    Moves (.medpllRefReturn o) s fun d d' =>
      Sets d d' [(F.MEDPLL_STATUS_COAST, 1), (F.MEDPLL_STATUS_REF_JUMP_REFUSED, 1)]
          (F.MEDPLL_EVENTS_JUMP_REFUSED_EV :: fitF) ∧
        d'.clk = { d.clk with measure := false, refused := some o } ∧ { d' with regs := d.regs, clk := d.clk } = d) ∧
  (d0.on F.MEDPLL_CTL_MODE = true → d0.on F.MEDPLL_STATUS_LOCK = false →
    Moves .medpllLock s fun d d' =>
      Sets d d' [(F.MEDPLL_STATUS_LOCK, 1), (F.MEDPLL_EVENTS_LOCKED, 1)] (gainF ++ fitF) ∧
        d'.clk.acq = (if d.clk.acq = .lock then .mark else d.clk.acq) ∧
        { d' with regs := d.regs, clk := d.clk, sys := d.sys } = d) ∧
  (d0.on F.MEDPLL_CTL_MODE = true → d0.on F.MEDPLL_STATUS_LOCK = true →
    Moves .medpllLockLost s fun d d' =>
      Sets d d' [(F.MEDPLL_STATUS_LOCK, 0), (F.MEDPLL_EVENTS_LOCK_LOST, 1)] fitF ∧
        d'.clk.acq = (if d.clk.acq = .mark then .lock else d.clk.acq) ∧
        { d' with regs := d.regs, clk := d.clk } = d) ∧
  (d0.clk.relockMark = true → o.natAbs ≤ 16 * d0.rd F.TIME_JUMP_LIMIT_LIMIT →
    (d0.time.residual + o).natAbs ≤ 1600000000 →
    Moves (.lockReturnOffset o) s fun d d' =>
      Sets d d' [] (residF ++ fitF) ∧ ResidualIs d' (d.time.residual + o) ∧
        d'.clk = { d.clk with relockMark := false } ∧ { d' with regs := d.regs, clk := d.clk, time := d.time } = d) ∧
  (d0.clk.relockMark = true → 16 * d0.rd F.TIME_JUMP_LIMIT_LIMIT < o.natAbs →
    Moves (.lockReturnOffset o) s fun d d' =>
      Sets d d' [(F.MEDPLL_STATUS_REF_JUMP_REFUSED, 1)] (F.MEDPLL_EVENTS_JUMP_REFUSED_EV :: fitF) ∧
        d'.clk = { d.clk with relockMark := false, refused := some o } ∧ { d' with regs := d.regs, clk := d.clk } = d)

/-- A measured, a lost and a returned reference, lock, its loss, and the offset after its return (R35, R36, R41, R42,
R49, R51, R54, R472). What OFFSET_PPM shows of an offset beyond its 24 signed bits is the model's choice (assumption
154). The loss of a reference in use coasts or falls back (assumption 18), and a fall-back replaces a change that waits
(assumption 194). An event whose own condition does not hold leaves the state as it is (assumption 1). -/
def MedPll : Prop := ∀ s o, Live s → MedPllAt s o

/-- The fields in which MEDPLL.CTL's frame lies beside its own (R39 to R43). -/
def ctlF : List Fld := validF ++ medBandF ++ fitF

/-- MEDPLL's control: mode, reference, dividers and calibration. -/
abbrev MedCtlAt (s : State) (v : Word) (k : Int) (band : BitVec 5) (vt : BitVec 2) (n : Nat) (r : RefChoice) (t : Nat) : Prop :=
  let d0 := s.chip.dev
  let sel := if bitsAt v.toNat 1 2 = 3 then 0 else bitsAt v.toNat 1 2
  let choice := [(F.MEDPLL_CTL_REF_SEL, sel), (F.MEDPLL_CTL_REF_PORT, bitsAt v.toNat 3 5),
    (F.MEDPLL_CTL_WCLK_RATE, bitsAt v.toNat 8 2), (F.MEDPLL_CTL_FALLBACK, bitsAt v.toNat 10 1),
    (F.MEDPLL_CTL_MCLK_EN, bitsAt v.toNat 11 1), (F.MEDPLL_CTL_MCLK_DIV, bitsAt v.toNat 12 1)]
  (d0.rd F.MEDPLL_CTL_MODE = 0 → v.toNat % 2 = 0 → d0.anyReleased = false →
    Moves (.medpllCtlWrite v) s fun d d' =>
      Sets d d' (choice ++ [(F.MEDPLL_CTL_OPEN_BAND, bitsAt v.toNat 13 5), (F.MEDPLL_STATUS_BAND, bitsAt v.toNat 13 5),
        (F.MEDPLL_STATUS_REF_ACTIVE, sel)]) ([F.MEDPLL_CTL_MODE] ++ ctlF) ∧
      d'.rd F.MEDPLL_CTL_MODE = 0 ∧
      d'.clk = { d.clk with active := ⟨sel, bitsAt v.toNat 3 5, bitsAt v.toNat 8 2⟩, pending := none,
                            fallback := false } ∧
      { d' with regs := d.regs, clk := d.clk } = d) ∧
  (d0.rd F.MEDPLL_CTL_MODE = 0 → v.toNat % 2 = 1 → d0.anyReleased = false →
    Moves (.medpllCtlWrite v) s fun d d' =>
      Sets d d' (choice ++ [(F.MEDPLL_CTL_OPEN_BAND, bitsAt v.toNat 13 5), (F.MEDPLL_CTL_MODE, 1),
        (F.MEDPLL_STATUS_REF_ACTIVE, sel), (F.MEDPLL_STATUS_LOCK, 0), (F.MEDPLL_STATUS_COAST, 0),
        (F.MEDPLL_STATUS_REF_JUMP_REFUSED, 0)]) ctlF ∧
      d'.clk.acq = .lock ∧ d'.clk.active = ⟨sel, bitsAt v.toNat 3 5, bitsAt v.toNat 8 2⟩ ∧
      { d' with regs := d.regs, clk := d.clk, freeCtr := d.freeCtr } = d) ∧
  (d0.rd F.MEDPLL_CTL_MODE = 1 → v.toNat % 2 = 0 → d0.anyReleased = true →
    Moves (.medpllCtlWrite v) s fun d d' =>
      Sets d d' (choice ++ [(F.MEDPLL_EVENTS_MODE_DENIED, 1)]) fitF ∧
      { d' with regs := d.regs, clk := d.clk } = d) ∧
  (d0.clk.pending = some (r, t) → t < d0.tick → d0.on F.MEDPLL_CTL_MODE = true →
    Moves .refChangeApply s fun d d' =>
      Sets d d' [(F.MEDPLL_STATUS_REF_JUMP_REFUSED, 0), (F.MEDPLL_STATUS_REF_ACTIVE, r.sel % 4)] (validF ++ fitF) ∧
      d'.clk = { d.clk with refused := none, measure := true, active := r, pending := none, fallback := false } ∧
      { d' with regs := d.regs, clk := d.clk } = d) ∧
  (d0.clk.acq = .mark → d0.on F.MEDPLL_STATUS_LOCK = true → d0.clk.realign ≠ .acquiring →
    Moves (.dividerLoad k) s fun d d' =>
      Sets d d' [] fitF ∧ d'.clk = { d.clk with acq := .none, atMark := true } ∧
      { d' with regs := d.regs, clk := d.clk } = d) ∧
  (d0.clk.acq = .mark → d0.on F.MEDPLL_STATUS_LOCK = true → d0.clk.realign = .acquiring →
    d0.time.mediaLoaded = false →
    Moves (.dividerLoad k) s fun d d' =>
      Sets d d' [(F.MEDPLL_STATUS_REALIGN_PENDING, 0), (F.MEDPLL_EVENTS_REALIGN_DONE, 1)] fitF ∧
      d'.clk = { d.clk with acq := .none, atMark := true, realign := .none } ∧
      d'.time = { d.time with mediaCount := (((d.time.mediaCount : Int) + 6 * k) % 2 ^ 64).toNat } ∧
      { d' with regs := d.regs, clk := d.clk, time := d.time } = d) ∧
  (d0.on F.MEDPLL_CTL_MODE = false → d0.anyReleased = false →
    Moves (.calStart band vt) s fun d d' =>
      Sets d d' [(F.PLL_CAL_BAND, band.toNat), (F.PLL_CAL_VT, vt.toNat), (F.PLL_CAL_DONE, 0)] [] ∧
      d'.clk = { d.clk with cal := some (band.toNat, vt.toNat) } ∧ { d' with regs := d.regs, clk := d.clk } = d) ∧
  (d0.anyReleased = true →
    Moves (.calStart band vt) s fun d d' =>
      Writes d d' [(F.PLL_CAL_BAND, band.toNat), (F.PLL_CAL_VT, vt.toNat), (F.MEDPLL_EVENTS_MODE_DENIED, 1)] []) ∧
  (d0.clk.cal ≠ none →
    Moves (.calDone n) s fun d d' =>
      Sets d d' [(F.PLL_CAL_COUNT_COUNT, n % 2 ^ 24), (F.PLL_CAL_DONE, 1)] [] ∧
      d'.clk = { d.clk with cal := none } ∧ { d' with regs := d.regs, clk := d.clk } = d)

/-- A write of MEDPLL.CTL in open mode, into closed mode and refused; a reference change, a divider load and a
calibration (R38 to R43, R52, R71). START in closed mode is refused while a gang is released (assumption 22), and the
reserved code of VT is measured as it stands (assumption 219). An event whose own condition does not hold leaves the
state as it is (assumption 1). -/
def MedCtl : Prop := ∀ s v k band vt n r t, Live s → MedCtlAt s v k band vt n r t

/-- The fields of the gangs and groups that a hold may move (R340). -/
def holdF : List Fld :=
  (List.range 32).flatMap (fun k => [F.MOD_GANG_STATUS_STATE k, F.MOD_GANG_EVENTS_HELD_EV k]) ++
    (List.range 8).flatMap (fun g => [F.MOD_GRP_STATUS_HOLD g, F.MOD_GRP_STATUS_ALL_DOWN g, F.MOD_GRP_EVENTS_ALL_DOWN_EV g])

/-- The fields of the gangs that a drain may move (R341). -/
def drainF : List Fld := F.MOD_STATUS_DRAIN :: (List.range 32).map F.MOD_GANG_STATUS_DRAINING

/-- RESIDUAL, the frequency alarm and realignments. -/
abbrev RealignAt (s : State) (n : Nat) (o : Int) (b : Nat) (x : Fin 64) (tk : Task) : Prop :=
  let d0 := s.chip.dev
  (d0.time.residual ≠ 0 →
    31250 ≤ (d0.time.raw - d0.time.slewRaw) * d0.rd F.MEDPLL_SLEW_SLEW_MAX → d0.rd F.TIME_RATE_RATE = 0 →
    Moves .residualSlewStep s fun d d' =>
      Sets d d' [] (residF ++ fitF) ∧
      ResidualIs d' (if 0 < d.time.residual then d.time.residual - 1 else d.time.residual + 1) ∧
      { d' with regs := d.regs, time := d.time } = d) ∧
  (d0.clk.refused = some o → (d0.time.residual + o).natAbs ≤ 1600000000 →
    Moves .realignAccept s fun d d' =>
      Sets d d' [(F.MEDPLL_STATUS_REF_JUMP_REFUSED, 0), (F.MEDPLL_STATUS_COAST, 0)] (residF ++ fitF) ∧
      ResidualIs d' (d.time.residual + o) ∧ d'.clk = { d.clk with refused := none } ∧
      { d' with regs := d.regs, clk := d.clk, time := d.time } = d) ∧
  (d0.on F.MEDPLL_STATUS_REALIGN_PENDING = false → d0.on F.MEDPLL_STATUS_REF_VALID = true →
    d0.on F.MEDPLL_CTL_MODE = true →
    Moves .realignGo s fun d d' =>
      Sets d d' [(F.MEDPLL_STATUS_REALIGN_PENDING, 1)] fitF ∧ d'.clk = { d.clk with realign := .waiting d.tick } ∧
      { d' with regs := d.regs, clk := d.clk } = d) ∧
  (d0.on F.MEDPLL_STATUS_REALIGN_PENDING = false →
    d0.on F.MEDPLL_STATUS_REF_VALID = false ∨ d0.on F.MEDPLL_CTL_MODE = false →
    Moves .realignGo s fun d d' => Writes d d' [(F.MEDPLL_EVENTS_REALIGN_DENIED, 1)] fitF) ∧
  (d0.on F.MEDPLL_STATUS_REALIGN_PENDING = true → Moves .realignGo s fun d d' => Writes d d' [] fitF) ∧
  (d0.clk.realign = .waiting b → b < d0.tick → d0.drive.drain = none → d0.switchDue = false →
    Moves .realignDrainStart s fun d d' =>
      Sets d d' [(F.MOD_STATUS_DRAIN, 1)] drainF ∧
      (∀ k ∈ d.allGangs, d.gstate k = gPlaying → d'.rd (F.MOD_GANG_STATUS_DRAINING k) = 1) ∧
      d'.clk = { d.clk with realign := .draining d.tick } ∧ d'.drive = { d.drive with drain := some d.tick } ∧
      { d' with regs := d.regs, clk := d.clk, drive := d.drive } = d) ∧
  (d0.clk.realign = .draining b → b + 2 ≤ d0.tick →
    Moves .realignDrainEnd s fun d d' =>
      ResidualIs d' 0 ∧ d'.rd F.MOD_STATUS_DRAIN = 0 ∧ d'.drive.drain = none ∧
      (∀ k ∈ d.allGangs, d.switching k = true → d'.gstate k = gHeld) ∧
      (∀ q ∈ List.range 4096, (d'.q q).packets = [] ∧ (d'.q q).openWords = [] ∧
        (d'.q q).epoch = ((d.q q).epoch + 1) % 65536) ∧
      (d.on F.MEDPLL_CTL_MODE = true →
        d'.clk.realign = .acquiring ∧ d'.clk.acq = .lock ∧ d'.rd F.MEDPLL_STATUS_LOCK = 0) ∧
      d'.time = { d.time with residual := 0, residFrac := 0 } ∧ d'.net = d.net ∧ d'.saps = d.saps ∧ d'.teus = d.teus) ∧
  -- a periodic task's block that still runs is ended and counts nothing; a free task goes on with all that it holds
  (d0.clk.realign = .draining b → b + 2 ≤ d0.tick → (d0.ctx x).restart = false →
    (d0.ctx x).task.any (fun t => !t.free) = true →
    (d0.ctx x).run = .ready ∨ (d0.ctx x).run = .yielded ∨ (d0.ctx x).run = .faulted → (d0.ctx x).lastRel = some b →
    (d0.ctx x).copy = .good tk → 3 ≤ tk.n → d0.tick = b + 2 →
    Moves .realignDrainEnd s fun d d' =>
      (d'.ctx x).run = .idle ∧ ∀ c ∈ [1, 2, 6], d'.rd (F.X_CNT_COUNT (x / 4) (x % 4) c) = d.rd (F.X_CNT_COUNT (x / 4) (x % 4) c)) ∧
  (d0.clk.realign = .draining b → b + 2 ≤ d0.tick → (d0.ctx x).restart = false →
    (d0.ctx x).task.all (fun t => t.free) = true → (d0.ctx x).run ≠ .idle →
    Moves .realignDrainEnd s fun d d' => { d'.ctx x with copy := (d.ctx x).copy } = d.ctx x) ∧
  (d0.on F.MEDPLL_STATUS_FREQ_ALARM = false → 12288 < ((n : Int) - 12288).natAbs * 1000 →
    Moves (.freqAlarmCheck n) s fun d d' =>
      Sets d d' [(F.MEDPLL_STATUS_FREQ_ALARM, 1), (F.MEDPLL_EVENTS_FREQ_ALARM_EV, 1)]
          (F.MOD_STATUS_FREQ_HOLD :: holdF ++ fitF) ∧
      (∀ k ∈ d.allGangs, d.switching k = true → d'.gstate k = gHeld) ∧ d'.clk = { d.clk with freqGood := 0 } ∧
      { d' with regs := d.regs, clk := d.clk, drive := d.drive } = d) ∧
  (d0.on F.MEDPLL_STATUS_FREQ_ALARM = false → ((n : Int) - 12288).natAbs * 1000 ≤ 12288 →
    Moves (.freqAlarmCheck n) s fun d d' => Writes d d' [] fitF) ∧
  (d0.on F.MEDPLL_STATUS_FREQ_ALARM = true → 12288 < ((n : Int) - 12288).natAbs * 2000 →
    Moves (.freqAlarmCheck n) s fun d d' =>
      Sets d d' [] fitF ∧ d'.clk = { d.clk with freqGood := 0 } ∧ { d' with regs := d.regs, clk := d.clk } = d) ∧
  (d0.on F.MEDPLL_STATUS_FREQ_ALARM = true → ((n : Int) - 12288).natAbs * 2000 ≤ 12288 → d0.clk.freqGood < 7 →
    Moves (.freqAlarmCheck n) s fun d d' =>
      Sets d d' [] fitF ∧ d'.clk = { d.clk with freqGood := d.clk.freqGood + 1 } ∧
      { d' with regs := d.regs, clk := d.clk } = d) ∧
  (d0.on F.MEDPLL_STATUS_FREQ_ALARM = true → ((n : Int) - 12288).natAbs * 2000 ≤ 12288 → d0.clk.freqGood = 7 →
    Moves (.freqAlarmCheck n) s fun d d' =>
      Sets d d' [(F.MEDPLL_STATUS_FREQ_ALARM, 0), (F.MOD_STATUS_FREQ_HOLD, 0)]
        ((List.range 8).map F.MOD_GRP_STATUS_HOLD ++ fitF) ∧
      d'.clk = { d.clk with freqGood := 0 } ∧ { d' with regs := d.regs, clk := d.clk } = d)

/-- A slew step, an accepted jump, a realignment from GO to the end of its drain with what that does to the contexts,
and the frequency alarm, whose run of good ticks a worse one breaks (R37, R50 to R54, R340, R341). -/
def Realign : Prop := ∀ s n o b x tk, Live s → RealignAt s n o b x tk

/-- The nearest value to `r` within the 500 ppm that TIME.RATE takes (R59). -/
def rateKept (r : Int) : Int := max (-549755813) (min r 549755813)

/-- Corrected time at the present RAW in 2^-40 ns: R57 with the bits below a nanosecond kept. -/
def correctedNow (d : Dev) : Int :=
  (2 * (d.time.raw : Int) + d.time.offset) * 2 ^ 40 + d.time.frac +
    2 * signedOf 32 (d.rd F.TIME_RATE_RATE) * ((d.time.raw : Int) - d.time.rawR)

/-- A TIME.RATE write. -/
abbrev RateWriteAt (s : State) (v : Word) (w : OffsetStep) : Prop :=
  let d0 := s.chip.dev
  (d0.stepNow = none →
    Moves (.rateWrite v) s fun d d' =>
      Sets d d' [(F.TIME_RATE_RATE, ((rateKept v.toInt) % 2 ^ 32).toNat),
          (F.TIME_STATUS_RATE_CLAMPED, bit (decide (549755813 < v.toInt.natAbs)))]
        (F.TIME_EVENTS_RATE_CLAMP_EV :: residF ++ fitF) ∧
      (549755813 < v.toInt.natAbs → d'.rd F.TIME_EVENTS_RATE_CLAMP_EV = 1) ∧
      (v.toInt.natAbs ≤ 549755813 → d'.rd F.TIME_EVENTS_RATE_CLAMP_EV = d.rd F.TIME_EVENTS_RATE_CLAMP_EV) ∧
      correctedNow d' = correctedNow d ∧ d'.time.rawR = d.time.raw ∧ d'.time.raw = d.time.raw ∧
      d'.time.residual = d.time.residual ∧
      { d' with regs := d.regs, time := d.time } = d) ∧
  (d0.stepNow = some w →
    Moves (.rateWrite v) s fun d d' =>
      d'.rd F.TIME_RATE_RATE = ((rateKept v.toInt) % 2 ^ 32).toNat ∧
      d'.rd F.TIME_STATUS_RATE_CLAMPED = bit (decide (549755813 < v.toInt.natAbs)) ∧
      d'.time.rawR = d.time.raw ∧ d'.time.raw = d.time.raw ∧
      (d.rd F.TIME_STATUS_STATE = 0 ∨ w.override = true → d'.time.offset = w.value ∧ d'.time.frac = 0) ∧
      { d' with regs := d.regs, time := d.time, clk := d.clk } = d)

/-- A RATE write keeps corrected time continuous and cuts the rate to ±500 ppm (R58, R59); where an OFFSET write came in
the same CLK_TIME cycle, the fold comes before it, and the written OFFSET stands (R67). One cycle is told by equal RAW
(assumption 173). -/
def RateWrite : Prop := ∀ s v w, Live s → RateWriteAt s v w

/-- TIME's states: lock, coast, timeout and the way back to FREE. -/
abbrev TimeStatesAt (s : State) : Prop :=
  let d0 := s.chip.dev
  (d0.rd F.TIME_STATUS_STATE ≠ 1 →
    Moves .timeCtlLock s fun d d' =>
      Sets d d' [(F.TIME_STATUS_STATE, 1)] fitF ∧ d'.time = { d.time with servoRaw := d.time.raw } ∧
      { d' with regs := d.regs, time := d.time } = d) ∧
  (d0.rd F.TIME_STATUS_STATE = 1 → Moves .timeCtlLock s fun d d' => Writes d d' [] fitF) ∧
  (d0.rd F.TIME_STATUS_STATE = 1 →
    Moves .timeCtlCoast s fun d d' => Writes d d' [(F.TIME_STATUS_STATE, 2), (F.TIME_EVENTS_COAST_ENTERED, 1)] fitF) ∧
  (d0.rd F.TIME_STATUS_STATE ≠ 1 → Moves .timeCtlCoast s fun d d' => Writes d d' [] fitF) ∧
  (d0.rd F.TIME_STATUS_STATE = 1 → d0.rd F.TIME_SERVO_TIMEOUT_MS ≠ 0 →
    d0.time.servoRaw + d0.rd F.TIME_SERVO_TIMEOUT_MS * 500000 ≤ d0.time.raw →
    Moves .servoTimeout s fun d d' => Writes d d' [(F.TIME_STATUS_STATE, 2), (F.TIME_EVENTS_COAST_ENTERED, 1)] fitF) ∧
  (d0.rd F.TIME_SERVO_TIMEOUT_MS = 0 ∨ d0.time.raw < d0.time.servoRaw + d0.rd F.TIME_SERVO_TIMEOUT_MS * 500000 →
    Moves .servoTimeout s fun d d' => Writes d d' [] fitF) ∧
  (d0.rd F.TIME_STATUS_STATE ≠ 0 →
    Moves .timeFree s fun d d' =>
      Writes d d' [(F.TIME_STATUS_STATE, 0), (F.TIME_STATUS_JUMP_REFUSED, 0), (F.TIME_STATUS_ANCHOR_REFUSED, 0),
        (F.TIME_STATUS_MEDIA_VALID, 0)] fitF)

/-- TIME.CTL.LOCK, TIME.CTL.COAST, the servo timeout and TIME.FREE.GO (R62, R66, R69, R70). LOCK written in LOCKED
changes nothing (assumption 26). An event whose own condition does not hold leaves the state as it is (assumption 1). -/
def TimeStates : Prop := ∀ s, Live s → TimeStatesAt s

/-- OFFSET writes, wraps, the tick grid and MEDIA_COUNT. -/
abbrev TimeWritesAt (s : State) (v : BitVec 64) (ov : Bool) (ns : Word) (g : Bool) (w : Nat) : Prop :=
  let d0 := s.chip.dev
  let step := v.toInt - d0.time.offset
  let phase := (instantNear d0.nowWide ns.toNat % 125000).toNat
  let m := (d0.time.grid - (phase : Int)) % 125000
  let move := if m ≤ 62500 then m else m - 125000
  (d0.rd F.TIME_STATUS_STATE = 0 → (d0.on F.MEDPLL_CTL_MODE && d0.rd F.MEDPLL_CTL_REF_SEL == 0) = false →
    Moves (.offsetWrite v ov) s fun d d' =>
      Sets d d' [(F.TIME_EVENTS_STEP_ACCEPTED, 1), (F.TIME_STATUS_ANCHOR_CHECK, 1), (F.TIME_STATUS_JUMP_REFUSED, 0)]
        fitF ∧
      d'.time = { d.time with offset := v.toInt, frac := 0, step := d'.time.step } ∧
      d'.snapCorr = d.corrAt d.time.raw ∧ { d' with regs := d.regs, time := d.time } = d) ∧
  (d0.rd F.TIME_STATUS_STATE ≠ 0 → ov = true ∨ step.natAbs ≤ d0.rd F.TIME_JUMP_LIMIT_LIMIT →
    (d0.time.residual + 16 * step).natAbs ≤ 1600000000 →
    Moves (.offsetWrite v ov) s fun d d' =>
      Sets d d' [(F.TIME_EVENTS_STEP_ACCEPTED, 1), (F.TIME_STATUS_ANCHOR_CHECK, 1), (F.TIME_STATUS_JUMP_REFUSED, 0)]
        (residF ++ fitF) ∧
      ResidualIs d' (d.time.residual + 16 * step) ∧ d'.time.offset = v.toInt ∧ d'.time.frac = 0 ∧
      d'.snapCorr = d.corrAt d.time.raw ∧ { d' with regs := d.regs, time := d.time } = d) ∧
  (d0.rd F.TIME_STATUS_STATE ≠ 0 → ov = false → d0.rd F.TIME_JUMP_LIMIT_LIMIT < step.natAbs →
    Moves (.offsetWrite v ov) s fun d d' =>
      Sets d d' [(F.TIME_STATUS_JUMP_REFUSED, 1), (F.TIME_EVENTS_JUMP_REFUSED_EV, 1)] fitF ∧
      d'.time = { d.time with step := d'.time.step } ∧ d'.snapCorr = d.corrAt d.time.raw ∧
      { d' with regs := d.regs, time := d.time } = d) ∧
  (d0.wrapsNext = true →
    Moves .nowNsWrap s fun d d' =>
      Sets d d' [(F.TIME_EVENTS_WRAP, 1)]
        ([F.MEDPLL_STATUS_REALIGN_PENDING, F.MEDPLL_EVENTS_REALIGN_DENIED] ++ residF) ∧
      d'.time.raw = (d.time.raw + 1) % 2 ^ 64 ∧ d'.time.offset = d.time.offset ∧
      (d'.time.residual = d.time.residual → d'.clk = d.clk) ∧
      { d' with regs := d.regs, time := d.time, clk := d.clk } = d) ∧
  (d0.wrapsNext = false → Moves .nowNsWrap s fun d d' => d' = d) ∧
  (g = true ∨ d0.rd F.TIME_STATUS_STATE = 0 ∨ move.natAbs ≤ d0.rd F.TIME_JUMP_LIMIT_LIMIT →
    (d0.time.residual + 16 * move).natAbs ≤ 1600000000 →
    Moves (.tickAnchorWrite ns g) s fun d d' =>
      Sets d d' [(F.TIME_TICK_ANCHOR_NS, ns.toNat), (F.TIME_STATUS_ANCHOR_CHECK, 0), (F.TIME_STATUS_ANCHOR_VALID, 1),
        (F.TIME_STATUS_ANCHOR_REFUSED, 0)] (residF ++ fitF) ∧
      d'.time.grid = phase ∧ d'.time.residual = d.time.residual + 16 * move ∧
      { d' with regs := d.regs, time := d.time } = d) ∧
  (g = false → d0.rd F.TIME_STATUS_STATE ≠ 0 → d0.rd F.TIME_JUMP_LIMIT_LIMIT < move.natAbs →
    Moves (.tickAnchorWrite ns g) s fun d d' =>
      Writes d d' [(F.TIME_STATUS_ANCHOR_REFUSED, 1), (F.TIME_EVENTS_ANCHOR_REFUSED_EV, 1)] fitF) ∧
  Moves (.mediaCountWrite v) s (fun d d' =>
    Sets d d' [(F.TIME_STATUS_MEDIA_PENDING, 1)] fitF ∧ d'.time = { d.time with mediaHeld := some v.toNat } ∧
    { d' with regs := d.regs, time := d.time } = d) ∧
  (d0.time.mediaHeld = some w →
    Moves .mediaCountLoad s fun d d' =>
      Sets d d' [(F.TIME_STATUS_MEDIA_PENDING, 0), (F.TIME_STATUS_MEDIA_VALID, 1), (F.TIME_EVENTS_MEDIA_LOADED, 1)]
        ((List.range 8).flatMap (fun g => [F.MOD_GRP_STATUS_EPOCH_SLIP g, F.MOD_GRP_EVENTS_SLIP_EV g]) ++ fitF) ∧
      d'.time.mediaHeld = none ∧ d'.time.mediaLoaded = true ∧
      d'.time.mediaCount = (w + 2 ^ 64 - 6) % 2 ^ 64 ∧ d'.time.mediaSub = 0 ∧
      { d' with regs := d.regs, time := d.time, drive := d.drive } = d)

/-- OFFSET, the wrap of NOW_NS, TICK_ANCHOR and MEDIA_COUNT (R60, R63 to R70). A snapshot of the cycle of an OFFSET
write shows the time before it (R67). That a later tick grid makes RESIDUAL fall is read from R69 (assumption 191). A
refused anchor leaves TICK_ANCHOR.NS as it was (assumption 27), NOW_NS_WRAP is the cycle of the wrap (assumption 2), and
a load before the boundary sets the count six below the held one, which the boundary then shows (assumption 28). An
event whose own condition does not hold leaves the state as it is (assumption 1). -/
def TimeWrites : Prop := ∀ s v ov ns g w, Live s → TimeWritesAt s v ov ns g w

/-- A tick boundary: queue `q` with its `i`-th packet `p`, route entry `e` and context `x`. The boundary is calm where
no SWITCH begins or drains and no realignment ends, and quiet where also no binding waits and no context runs. -/
abbrev TickBoundaryAt (s : State) (w q i e : Nat) (p : Packet) (x : Fin 64) : Prop :=
  let d0 := s.chip.dev
  let d1 := d0.tickStart
  let s1 : State := { s with chip := { s.chip with dev := d1 } }
  let calm := d1.switchDue = false ∧ d1.realignEnds = false ∧ d0.sys.lam.drain = none ∧ d0.net.draining = false
  let quiet := calm ∧ d0.routePend = [] ∧ (∀ p ∈ d0.saps, p.2.laneA.held = [] ∧ p.2.laneB.held = []) ∧
    ∀ y : Fin 64, (d0.ctx y).run = .off ∧ (d0.ctx y).restart = false
  let audio := (⟨d1, s.chip.mem⟩ : Chip).playout.packetise.settleCells
  let k0 := d0.ctx x
  let now := d0.tick + 1
  let seen := fun (p : Packet) => p.arrival.isSome = true ∨ p.hold.all (fun h => decide (h ≤ now)) = true
  Turns .tickBoundary s (fun c c' =>
    c'.dev.tick = now ∧ c'.dev.time.raw = c.dev.time.raw ∧ c'.dev.time.offset = c.dev.time.offset ∧
      (c.dev.time.mediaHeld = none → c'.dev.time.mediaCount = (c.dev.time.mediaCount + 6) % 2 ^ 64) ∧
      (c.dev.time.mediaHeld = some w → c'.dev.time.mediaCount = w ∧ c'.dev.rd F.TIME_STATUS_MEDIA_PENDING = 0)) ∧
  (calm → Turns .tickBoundary s fun c c' =>
    c'.dev.time.residual = c.dev.time.residual ∧ c'.dev.dmas = c.dev.dmas ∧
      (c.dev.routePend = [] → (∀ n, c'.dev.sap n =
        { c.dev.sap n with laneA := { (c.dev.sap n).laneA with held := [] },
                           laneB := { (c.dev.sap n).laneB with held := [] } }))) ∧
  -- the bindings that are due are judged as ROUTE_APPLY does
  (calm → Turns .routeApply s1 fun _ t => Turns .tickBoundary s fun _ c' =>
    c'.dev.pendOf e = t.dev.pendOf e ∧ c'.dev.rd (F.ROUTE_E_Q_ACTIVE e) = t.dev.rd (F.ROUTE_E_Q_ACTIVE e) ∧
      c'.dev.rd (F.ROUTE_E_OFF_ACTIVE e) = t.dev.rd (F.ROUTE_E_OFF_ACTIVE e) ∧
      c'.dev.rd (F.ROUTE_E_DENIED e) = t.dev.rd (F.ROUTE_E_DENIED e)) ∧
  -- every receive flow plays its tick out and then the packetiser takes its packets
  (quiet → Turns .tickBoundary s fun _ c' =>
    c'.mem = audio.mem ∧ c'.dev.q q = audio.dev.q q ∧ c'.dev.rxf q = audio.dev.rxf q ∧ c'.dev.txf q = audio.dev.txf q ∧
      (c'.dev.mac q).c6 = (audio.dev.mac q).c6) ∧
  -- the packets that are due enter the view with this tick as their label, in their order
  (quiet → d0.rxOn = [] → d0.txOn = [] → (d0.q q).packets[i]? = some p →
    Turns .tickBoundary s fun c c' => c'.mem = c.mem ∧
      let p' := (c'.dev.q q).packets.getD i p
      (c'.dev.q q).packets.length = (c.dev.q q).packets.length ∧ p'.words = p.words ∧ p'.hold = p.hold ∧
      (p.arrival.isSome = true ∨ ¬ seen p → p' = p) ∧
      ((∀ o ∈ (c.dev.q q).packets.take (i + 1), seen o) → p.arrival = none → p'.arrival = some now)) ∧
  -- a free task that waits for the boundary runs again
  (calm → k0.run = .tickwait ∨ k0.run = .yielded → d0.halted x = false → k0.restart = false →
    k0.task.all (fun t => t.free) = true →
    Turns .tickBoundary s fun _ c' => { c'.dev.ctx x with copy := k0.copy } = { k0 with run := .ready })

/-- A signal-side tick boundary: the tick and MEDIA_COUNT advance, and a held count is the boundary's; the due bindings
are judged, the receive flows play out, packets are made, held packets enter their consumers' view, and free tasks that
wait for a boundary go on (R23, R24, R70, R139, R144, R202, R248, R254, R307). The release of periodic tasks is in
Tasks. A packet closed before the boundary that has not crossed yet carries the tick that begins (assumption 192). -/
def TickBoundary : Prop := ∀ s w q i e p x, Live s → TickBoundaryAt s w q i e p x

/-- The fields that the check of R88 may move, and those of unit `u`'s pin, launch and lateness. -/
def deniedF : List Fld :=
  (List.range 16).flatMap fun u => [F.TEU_STATUS_LAUNCH_DENIED u, F.TEU_EVENTS_LAUNCH_DENIED_EV u]
def teuActF (u : Nat) : List Fld :=
  [F.TEU_STATUS_MISSED u, F.TEU_EVENTS_LATE u, F.TEU_EVENTS_FIRED_EV u, F.TEU_STATUS_PIN_HELD u,
    F.TEU_STATUS_PIN_DENIED u, F.TEU_EVENTS_PIN_DENIED_EV u, F.TEU_EVENTS_WIDTH_CLIPPED u, F.TEU_EVENTS_LAUNCH_EMPTY u]

/-- A time event unit outside a unit reset. -/
abbrev TimedEventAt (s : State) (u : Fin 16) (port : BitVec 2) (cls : BitVec 3) (r : Nat)
    (k n : Int) : Prop :=
  let d0 := s.chip.dev
  let period := d0.rd (F.TEU_PERIOD_NS_NS u) * 256 + d0.rd (F.TEU_PERIOD_FRAC_FRAC u)
  let now := d0.baseAt (d0.rd (F.TEU_CTL_BASE u))
  let e0 := 256 * instantNear (now / 2 ^ 40) (d0.rd (F.TEU_START_NS_NS u))
  let t0 := d0.teu u
  let here := d0.baseAt t0.base
  let cycle := 2 ^ 41 + 2 * d0.rate
  let nearest := fun (m at_ : Int) => -cycle ≤ 2 * (fine at_ - here) - 2 * m * cycle ∧ 2 * (fine at_ - here) - 2 * m * cycle < cycle
  let rise := max (d0.time.raw - 1 : Int) (d0.time.raw + k)
  let fall := rise + (max 2 ((t0.width + 1) / 2) : Nat)
  let owns := d0.rd (F.TEU_STATUS_PIN_HELD u) = 1
  let taken := ((List.range 16).any fun v => v != u && (d0.teu v).pin == t0.pin &&
    (d0.on (F.TEU_STATUS_PIN_HELD v) || (decide (v < u) && (d0.teu v).pinAct && d0.teuDue v))) = true ∨
      t0.pin = 7 ∧ d0.rd F.TIME_WCLK_OUT_EN = 1
  let alone := ((List.range 16).all fun v => v == u || (d0.teu v).pin != t0.pin) = true
  let fires := d0.teuDue u = true
  let freed := Sparse.get (fun _ => 0) (d0.mac t0.port).rel t0.cls
  (d0.on (F.TEU_CTL_EN u) = false → d0.on (F.TEU_CTL_PERIODIC u) = false ∨ 256000 ≤ period →
    Moves (.teuEnable u) s fun d d' =>
      Sets d d' [(F.TEU_CTL_EN u, 1), (F.TEU_STATUS_ARMED u, 1)]
        ([F.TEU_STATUS_MISSED u, F.TEU_EVENTS_LATE u] ++ deniedF) ∧
      (now ≤ fine e0 → (d'.teu u).nextE = e0) ∧
      (fine e0 < now → d'.rd (F.TEU_EVENTS_LATE u) = 1) ∧
      (d.on (F.TEU_CTL_PERIODIC u) = true → now ≤ fine (d'.teu u).nextE ∧ ((d'.teu u).nextE - e0) % period = 0 ∧
        (fine e0 < now → fine (d'.teu u).nextE < now + fine period)) ∧
      (d'.teu u).port = d.rd (F.TEU_TARGET_PORT u) ∧ (d'.teu u).cls = d.rd (F.TEU_TARGET_CLASS u) ∧
      { d' with regs := d.regs, teus := d.teus } = d) ∧
  (d0.on (F.TEU_CTL_EN u) = false → d0.on (F.TEU_CTL_PERIODIC u) = true → period < 256000 →
    Moves (.teuEnable u) s fun d d' => Writes d d' [(F.TEU_EVENTS_CONFIG_ERR u, 1)] []) ∧
  (d0.on (F.TEU_CTL_EN u) = true → d0.teuDue u = false →
    Moves (.teuDisable u) s fun d d' =>
      Sets d d' [(F.TEU_CTL_EN u, 0), (F.TEU_STATUS_ARMED u, 0), (F.TEU_STATUS_PIN_HELD u, 0),
        (F.TEU_STATUS_PIN_DENIED u, 0)] deniedF ∧ (d'.teu u).pinUntil = none ∧
      { d' with regs := d.regs, teus := d.teus, net := d.net } = d) ∧
  (d0.teuDue u = true →
    Moves (.teuEventFire u) s fun d d' =>
      Sets d d' ([(F.TEU_STATUS_FIRED u, (d.rd (F.TEU_STATUS_FIRED u) + 1) % 65536)] ++
        if (d.teu u).periodic then [] else [(F.TEU_STATUS_ARMED u, 0)]) (teuActF u) ∧
      (d.on (F.TEU_CTL_IRQ u) = true → d'.rd (F.TEU_EVENTS_FIRED_EV u) = 1) ∧
      (d.on (F.TEU_CTL_IRQ u) = false →
        d'.rd (F.TEU_EVENTS_FIRED_EV u) = d.rd (F.TEU_EVENTS_FIRED_EV u)) ∧
      ((d.teu u).periodic = false → (d'.teu u).nextE = (d.teu u).nextE) ∧
      ((d.teu u).periodic = true → 0 < (d.teu u).period → (d.teu u).nextE < (d'.teu u).nextE) ∧
      { d' with regs := d.regs, teus := d.teus, net := d.net } = d) ∧
  -- the pin rises at the edge nearest the event and falls after WIDTH
  (fires → t0.pinAct = true → t0.periodic = false → owns ∨ ¬ taken → nearest k t0.nextE →
    Moves (.teuEventFire u) s fun d d' =>
      Sets d d' [(F.TEU_STATUS_PIN_HELD u, 1), (F.TEU_STATUS_PIN_DENIED u, 0),
        (F.TEU_STATUS_FIRED u, (d.rd (F.TEU_STATUS_FIRED u) + 1) % 65536)] (F.TEU_STATUS_ARMED u :: teuActF u) ∧
      (d'.teu u).pinUntil = some fall.toNat ∧ (alone → t0.pin = (d'.teu u).pin ∧
        (∀ j, j ≤ d.time.raw → d'.teOut t0.pin j = .level (decide (rise.toNat ≤ j) != t0.pol)))) ∧
  (fires → t0.pinAct = true → t0.periodic = true → fine t0.period > here - fine t0.nextE → owns ∨ ¬ taken →
    nearest k t0.nextE → nearest n (t0.nextE + t0.period) →
    Moves (.teuEventFire u) s fun d d' =>
      (d'.teu u).nextE = t0.nextE + t0.period ∧
      (fall < d.time.raw + n → (d'.teu u).pinUntil = some fall.toNat ∧
        d'.rd (F.TEU_EVENTS_WIDTH_CLIPPED u) = d.rd (F.TEU_EVENTS_WIDTH_CLIPPED u)) ∧
      (d.time.raw + n ≤ fall → (d'.teu u).pinUntil = some (d.time.raw + n - 1).toNat ∧
        d'.rd (F.TEU_EVENTS_WIDTH_CLIPPED u) = 1)) ∧
  (fires → t0.pinAct = true → ¬ owns → taken →
    Moves (.teuEventFire u) s fun d d' =>
      d'.rd (F.TEU_STATUS_PIN_DENIED u) = 1 ∧ d'.rd (F.TEU_STATUS_PIN_HELD u) = 0 ∧ (d'.teu u).pinUntil = none ∧
      (d.rd (F.TEU_STATUS_PIN_DENIED u) = 0 → d'.rd (F.TEU_EVENTS_PIN_DENIED_EV u) = 1)) ∧
  -- one frame of the class is released, or LAUNCH_EMPTY says that there is none
  (fires → t0.launchAct = true → d0.rd (F.TEU_STATUS_LAUNCH_DENIED u) = 0 → freed < d0.txWaiting t0.port t0.cls →
    Moves (.teuEventFire u) s fun d d' =>
      Sparse.get (fun _ => 0) (d'.mac t0.port).rel t0.cls = freed + 1 ∧
      d'.rd (F.TEU_EVENTS_LAUNCH_EMPTY u) = d.rd (F.TEU_EVENTS_LAUNCH_EMPTY u)) ∧
  (fires → t0.launchAct = true → d0.rd (F.TEU_STATUS_LAUNCH_DENIED u) = 0 → d0.txWaiting t0.port t0.cls ≤ freed →
    Moves (.teuEventFire u) s fun d d' =>
      (d'.mac t0.port).rel = (d.mac t0.port).rel ∧ d'.rd (F.TEU_EVENTS_LAUNCH_EMPTY u) = 1) ∧
  (fires → t0.launchAct = false ∨ d0.rd (F.TEU_STATUS_LAUNCH_DENIED u) = 1 →
    Moves (.teuEventFire u) s fun d d' =>
      (d'.mac t0.port).rel = (d.mac t0.port).rel ∧
      d'.rd (F.TEU_EVENTS_LAUNCH_EMPTY u) = d.rd (F.TEU_EVENTS_LAUNCH_EMPTY u)) ∧
  ((d0.teu u).pinUntil = some r → r ≤ d0.time.raw →
    Moves (.teuPinEnd u) s fun d d' =>
      d'.teu u = { d.teu u with pinUntil := none } ∧ { d' with teus := d.teus } = d) ∧
  Moves (.teuTargetWrite u port cls) s (fun d d' =>
    Sets d d' [(F.TEU_TARGET_PORT u, port.toNat), (F.TEU_TARGET_CLASS u, cls.toNat)] deniedF ∧
    (cls.toNat = 6 → d'.rd (F.TEU_STATUS_LAUNCH_DENIED u) = 1) ∧ RegsOnly d d')

/-- A time event unit is enabled, refused, disabled, fires, ends its pulse and takes a target: its pin rises at the edge
nearest the event and falls after WIDTH, and its class gives one frame (R80 to R89). An odd WIDTH and a pulse that lies
more than a cycle back are the model's choice (assumptions 156 and 195). A launch finds its class empty where every
frame of it is released already (assumption 34); the instants of arming and firing rest on assumptions 31 to 33. -/
def TimedEvent : Prop :=
  ∀ s (u : Fin 16) port cls r k n, Live s → s.chip.dev.unitHeld 8 u = false → TimedEventAt s u port cls r k n

/-- The fields that the summary of group `g`'s gangs may move (R339). -/
def downF (g : Nat) : List Fld := [F.MOD_GRP_STATUS_ALL_DOWN g, F.MOD_GRP_EVENTS_ALL_DOWN_EV g]

/-- Gang `k` exists in its group's layout (R318, R319). -/
abbrev GangExists (d : Dev) (k : Nat) : Prop := 0 < d.gangSize k

/-- Gang `k` waits for its release, the boundary of this tick found R333's conditions true, and no drain runs. -/
abbrev DueRelease (d : Dev) (k : Nat) : Prop :=
  (d.gstate k = gArmed ∨ (d.gstate k = gHeld ∧ d.on (F.MOD_GANG_CTL_RUN k) = true)) ∧ (d.gang k).due = true ∧
    d.drive.drain = none

/-- Half duty for `n` members of carrier divider `div`: each turns at a quarter and three quarters of its cycle, which
lies `m / n` of a cycle behind the group's, in eighths of a CLK_EDGE cycle (R165, R328). -/
def halfDutyOf (div n : Nat) : List (Nat × Nat) :=
  (List.range n).map fun m => (8 * m * div / n + 2 * div, 8 * m * div / n + 6 * div)

/-- The commands of the life of gang `k`, outside a unit reset. -/
abbrev GangLifeAt (s : State) (k : Fin 32) (late : Bool) (b : Nat) : Prop :=
  let d0 := s.chip.dev
  let st := F.MOD_GANG_STATUS_STATE k
  let hid := fun (d d' : Dev) => { d' with regs := d.regs, drive := d.drive } = d
  (GangExists d0 k → d0.gstate k = gOff →
    Moves (.gangRun k) s fun d d' =>
      Sets d d' [(F.MOD_GANG_CTL_RUN k, 1), (st, gArmed)] (downF (k / 4)) ∧ hid d d') ∧
  (GangExists d0 k → d0.gstate k ≠ gOff → Moves (.gangRun k) s fun d d' => Writes d d' [(F.MOD_GANG_CTL_RUN k, 1)] []) ∧
  (d0.gangSize k = 0 → Moves (.gangRun k) s (fun d d' => d' = d) ∧ Moves (.gangStop k late) s (fun d d' => d' = d)) ∧
  (GangExists d0 k → d0.gstate k = gArmed ∨ d0.gstate k = gHeld ∨
      (d0.gstate k = gFaultHold ∧ (d0.gang k).faultRaw ≠ some d0.time.raw) →
    Moves (.gangStop k late) s fun d d' =>
      Sets d d' [(F.MOD_GANG_CTL_RUN k, 0), (st, gOff)] (downF (k / 4)) ∧ hid d d') ∧
  (GangExists d0 k → d0.gstate k = gFaultHold → (d0.gang k).faultRaw = some d0.time.raw →
    Moves (.gangStop k late) s fun d d' =>
      Sets d d' [(F.MOD_GANG_CTL_RUN k, 0)] (st :: downF (k / 4)) ∧
      (d'.gstate k = gOff ∨ d'.gang k = d.gang k ∧ d'.gstate k = gFaultHold) ∧
      { d' with regs := d.regs, drive := d.drive, freeCtr := d.freeCtr } = d) ∧
  (GangExists d0 k → d0.gstate k = gHalf ∨ d0.gstate k = gPlaying → (d0.gang k).stopAt = none →
    Moves (.gangStop k late) s fun d d' =>
      Sets d d' [(F.MOD_GANG_CTL_RUN k, 0)] [] ∧
      d'.gang k = { d.gang k with stopAt := some (d.tick + 1 + bit late) } ∧ hid d d') ∧
  (GangExists d0 k → d0.gstate k = gOff ∨ d0.gstate k = gStopping ∨ d0.gstate k = gLatched →
    Moves (.gangStop k late) s fun d d' => Writes d d' [(F.MOD_GANG_CTL_RUN k, 0)] []) ∧
  (GangExists d0 k → d0.gstate k = gLatched →
    Moves (.gangClear k) s fun d d' =>
      Sets d d' [(st, if d.on (F.MOD_GANG_CTL_RUN k) then gArmed else gOff), (F.MOD_GANG_STATUS_RECENT k, 0)]
        (downF (k / 4)) ∧ (d'.gang k).hist = [] ∧ hid d d') ∧
  (d0.gstate k ≠ gLatched → Moves (.gangClear k) s fun d d' => d' = d) ∧
  (DueRelease d0 k → d0.rd (F.MOD_GANG_CFG_RATE k) ≠ 3 →
    Moves (.gangRelease k) s fun d d' =>
      Sets d d' [(st, gHalf), (F.MOD_GANG_CNT_COUNT k 5, min (d.rd (F.MOD_GANG_CNT_COUNT k 5) + 1) (2 ^ 32 - 1))]
        (downF (k / 4)) ∧ (d'.gang k).relTick = d.tick ∧ (d'.gang k).rate = d.rd (F.MOD_GANG_CFG_RATE k) ∧
      (d'.gang k).edges = halfDutyOf (d.rd (F.MOD_GRP_CARRIER_DIV (k / 4))) (d.gangSize k) ∧ hid d d') ∧
  (DueRelease d0 k → d0.rd (F.MOD_GANG_CFG_RATE k) = 3 →
    Moves (.gangRelease k) s fun d d' => Writes d d' [(F.MOD_GANG_EVENTS_CFG_ERR k, 1)] []) ∧
  (¬DueRelease d0 k → Moves (.gangRelease k) s fun d d' => d' = d) ∧
  (d0.gstate k = gHalf → (d0.gang k).relTick < d0.tick → (d0.gang k).stopAt = none →
    Moves (.gangPlay k) s fun d d' =>
      Sets d d' [(st, gPlaying), (F.MOD_GANG_STATUS_DRAINING k, bit d.drive.drain.isSome)] (downF (k / 4)) ∧ hid d d' ∧
      d'.gang k = { d.gang k with due := false }) ∧
  (d0.gstate k = gHalf ∨ d0.gstate k = gPlaying → (d0.gang k).stopAt = some b → b ≤ d0.tick →
    Moves (.gangStopping k) s fun d d' => Sets d d' [(st, gStopping)] (downF (k / 4)) ∧ hid d d') ∧
  (d0.gstate k = gStopping → (d0.gang k).stopAt = some b → (d0.gang k).stopLa = none →
    98304 * (b + 1) + 16384 * d0.rd (F.MOD_GRP_CFG_LA (k / 4)) ≤ d0.runStart (k / 4) → GangExists d0 k →
    (d0.group (k / 4)).waiting = [] →
    Moves (.gangGatesOff k) s fun d d' =>
      Sets d d' [(st, if d.on (F.MOD_GANG_CTL_RUN k) then gArmed else gOff)] (downF (k / 4)) ∧
      (d'.gang k).edges = [] ∧ (d'.gang k).stopAt = none ∧ (d'.gang k).ends = .running ∧ hid d d') ∧
  ((d0.gang k).stopAt = some b → (d0.gang k).stopLa = none → (d0.group (k / 4)).waiting = [] →
    d0.runStart (k / 4) < 98304 * (b + 1) + 16384 * d0.rd (F.MOD_GRP_CFG_LA (k / 4)) →
    Moves (.gangGatesOff k) s fun d d' => d' = d)

/-- A gang is run, stopped, cleared, released, plays, stops and turns its gates off (R332 to R335). RATE 3 is judged at
a carrier cycle start and leaves a held gang held (assumption 41); a RUN write of a fault's own cycle is a free choice
(assumption 177). An event whose own condition does not hold leaves the state as it is (assumption 1). -/
def GangLife : Prop :=
  ∀ s (k : Fin 32) late b, Live s → s.chip.dev.unitHeld 6 k = false → GangLifeAt s k late b

/-- The fields that the faults of the gangs in `ks` may move (R336 to R339). -/
def faultF (ks : List Nat) : List Fld :=
  ks.flatMap (fun k => [F.MOD_GANG_STATUS_STATE k, F.MOD_GANG_STATUS_FLT_LIVE k, F.MOD_GANG_STATUS_RECENT k,
      F.MOD_GANG_EVENTS_FAULT_EV k, F.MOD_GANG_EVENTS_LATCH_EV k, F.MOD_GANG_FAULT_NS_NS k,
      F.MOD_GANG_FAULT_SRC_PAIRS k, F.MOD_GANG_FAULT_SRC_KIND k, F.MOD_GANG_CNT_COUNT k 2, F.MOD_GANG_CNT_COUNT k 4]) ++
    (List.range 8).flatMap downF

/-- Gang `k` can fault: ARMED, HALF, PLAYING, STOPPING or HELD (R332). -/
abbrev CanFault (d : Dev) (k : Nat) : Prop :=
  d.gstate k = gArmed ∨ d.gstate k = gHalf ∨ d.gstate k = gPlaying ∨ d.gstate k = gStopping ∨ d.gstate k = gHeld

/-- Faults, the tap calibration, group registers and the fetch. -/
abbrev GangFaultAt (s : State) (k : Fin 32) (lv : BitVec 32) (g : Fin 8) (v : Word) : Prop :=
  let d0 := s.chip.dev
  let hid := fun (d d' : Dev) => { d' with regs := d.regs, drive := d.drive } = d
  (d0.cut = true → Moves (.faultDecided lv) s fun d d' => d' = d) ∧
  (d0.cut = false → Moves (.faultDecided lv) s fun d d' =>
    Sets d d' [] (faultF (List.range 32)) ∧ d'.drive.flt = lv.toNat ∧ hid d d' ∧
    ∀ j ∈ d.allGangs,
      let hit := Nat.land (bitsAt lv.toNat j (d.gangSize j / 2)) (15 - bitsAt d.drive.flt j (d.gangSize j / 2))
      let open' := Nat.land hit (15 - d.rd (F.MOD_GANG_CTL_FLT_MASK j))
      (open' ≠ 0 → CanFault d j →
        let now := d.nowWide
        let n := ((d.gang j).hist.filter fun t =>
          decide (now - (d.rd (F.MOD_GRP_PROT_RETRY_WIN_S (j / 4)) : Int) * 1000000000 ≤ t)).length
        d'.gstate j = (if d.rd (F.MOD_GRP_PROT_RETRY_MAX (j / 4)) ≤ n then gLatched else gFaultHold) ∧
        (n < d.rd (F.MOD_GRP_PROT_RETRY_MAX (j / 4)) →
          (d'.gang j).restartAt = d.tick + 8 * d.rd (F.MOD_GRP_PROT_HOLDOFF_MS (j / 4))) ∧
        d'.rd (F.MOD_GANG_STATUS_RECENT j) = min 15 (n + 1) ∧ d'.rd (F.MOD_GANG_EVENTS_FAULT_EV j) = 1 ∧
        d'.rd (F.MOD_GANG_FAULT_NS_NS j) = d.nowNs ∧ d'.rd (F.MOD_GANG_FAULT_SRC_KIND j) = 1 ∧
        d'.rd (F.MOD_GANG_CNT_COUNT j 2) = min (d.rd (F.MOD_GANG_CNT_COUNT j 2) + 1) (2 ^ 32 - 1) ∧
        (d'.gang j).edges = []) ∧
      (open' = 0 → d'.gstate j = d.gstate j ∧ d'.gang j = d.gang j)) ∧
  (s.chip.dev.unitHeld 6 k = false → d0.gstate k = gFaultHold → d0.tick < (d0.gang k).restartAt →
    Moves (.faultRestart k) s fun d d' => d' = d) ∧
  (s.chip.dev.unitHeld 6 k = false → d0.gstate k = gFaultHold → (d0.gang k).restartAt ≤ d0.tick →
    d0.on (F.MOD_GANG_CTL_RUN k) = true → d0.fltOpen k = 0 →
    Moves (.faultRestart k) s fun d d' =>
      Sets d d' [(F.MOD_GANG_STATUS_STATE k, gArmed), (F.MOD_GANG_EVENTS_RESTART_EV k, 1),
        (F.MOD_GANG_CNT_COUNT k 3, min (d.rd (F.MOD_GANG_CNT_COUNT k 3) + 1) (2 ^ 32 - 1))] (downF (k / 4)) ∧ hid d d') ∧
  (s.chip.dev.unitHeld 6 k = false → d0.gstate k = gFaultHold → (d0.gang k).restartAt ≤ d0.tick →
    d0.on (F.MOD_GANG_CTL_RUN k) = false →
    Moves (.faultRestart k) s fun d d' =>
      Sets d d' [(F.MOD_GANG_STATUS_STATE k, gOff)] (downF (k / 4)) ∧ hid d d') ∧
  (s.chip.dev.unitHeld 6 k = false → d0.gstate k = gFaultHold → (d0.gang k).restartAt ≤ d0.tick →
    d0.on (F.MOD_GANG_CTL_RUN k) = true → d0.fltOpen k ≠ 0 →
    Moves (.faultRestart k) s fun d d' =>
      Sets d d' [(F.MOD_GANG_EVENTS_FAULT_EV k, 1), (F.MOD_GANG_FAULT_SRC_KIND k, 2),
        (F.MOD_GANG_CNT_COUNT k 2, min (d.rd (F.MOD_GANG_CNT_COUNT k 2) + 1) (2 ^ 32 - 1))] (faultF [k.val]) ∧ hid d d') ∧
  Moves (.calLoss g) s (fun d d' =>
    Writes d d' [(F.MOD_GRP_STATUS_CAL_OK g, 0)] [F.MOD_GRP_EVENTS_CAL_EV g] ∧
    (d.on (F.MOD_GRP_STATUS_CAL_OK g) = true → d'.rd (F.MOD_GRP_EVENTS_CAL_EV g) = 1)) ∧
  Moves (.calOkRestored g) s (fun d d' => Writes d d' [(F.MOD_GRP_STATUS_CAL_OK g, 1)] []) ∧
  (d0.groupQuiet g = true → 1573 ≤ v.toNat % 4096 → v.toNat % 4096 ≤ 2621 →
    Moves (.grpConfigWrite g 0 v) s fun d d' =>
      Writes d d' [(F.MOD_GRP_CARRIER_DIV g, v.toNat % 4096),
        (F.MOD_GRP_CARRIER_OFS g, min (v.toNat / 65536 % 4096) (v.toNat % 4096 - 1))] []) ∧
  (d0.groupQuiet g = true → v.toNat % 4096 < 1573 ∨ 2621 < v.toNat % 4096 →
    Moves (.grpConfigWrite g 0 v) s fun d d' =>
      Writes d d' [(F.MOD_GRP_EVENTS_CFG_DENIED g, 1),
        (F.MOD_GRP_CARRIER_OFS g, min (v.toNat / 65536 % 4096) (d.rd (F.MOD_GRP_CARRIER_DIV g) - 1))] []) ∧
  (d0.groupQuiet g = false → Moves (.grpConfigWrite g 0 v) s fun d d' =>
    Writes d d' [(F.MOD_GRP_EVENTS_CFG_DENIED g, 1)] []) ∧
  (v.toNat % 8 = d0.rd (F.MOD_GRP_CFG_LAYOUT g) → v.toNat % 8 ≤ 4 → v.toNat / 16 % 128 ≤ 96 → d0.groupQuiet g = true →
    Moves (.grpConfigWrite g 1 v) s fun d d' =>
      Writes d d' [(F.MOD_GRP_CFG_LA g, v.toNat / 16 % 128), (F.MOD_GRP_CFG_DT g, v.toNat / 2048 % 256),
        (F.MOD_GRP_CFG_PIN_EN g, v.toNat / 524288 % 2)] [F.MOD_GRP_CFG_LAYOUT g] ∧
      d'.rd (F.MOD_GRP_CFG_LAYOUT g) = v.toNat % 8) ∧
  (v.toNat % 8 ≠ d0.rd (F.MOD_GRP_CFG_LAYOUT g) → v.toNat % 8 ≤ 4 → v.toNat / 16 % 128 ≤ 96 → d0.groupQuiet g = true →
    Moves (.grpConfigWrite g 1 v) s fun d d' =>
      Sets d d' [(F.MOD_GRP_CFG_LAYOUT g, v.toNat % 8), (F.MOD_GRP_CFG_LA g, v.toNat / 16 % 128),
          (F.MOD_GRP_CFG_DT g, v.toNat / 2048 % 256), (F.MOD_GRP_CFG_PIN_EN g, v.toNat / 524288 % 2)]
        (downF g ++ [4 * g.val, 4 * g.val + 1, 4 * g.val + 2, 4 * g.val + 3].flatMap fun j =>
          [F.MOD_GANG_STATUS_STATE j, F.MOD_GANG_STATUS_RECENT j]) ∧
      (∀ j ∈ d.members g, d'.gstate j = gOff ∧ (d'.gang j).hist = [] ∧ d'.rd (F.MOD_GANG_STATUS_RECENT j) = 0) ∧
      hid d d') ∧
  (d0.groupQuiet g = false →
      v.toNat % 8 ≠ d0.rd (F.MOD_GRP_CFG_LAYOUT g) ∨ v.toNat / 16 % 128 ≠ d0.rd (F.MOD_GRP_CFG_LA g) ∨
        v.toNat / 2048 % 256 ≠ d0.rd (F.MOD_GRP_CFG_DT g) ∨ v.toNat / 524288 % 2 = 0 →
    Moves (.grpConfigWrite g 1 v) s fun d d' => Writes d d' [(F.MOD_GRP_EVENTS_CFG_DENIED g, 1)] []) ∧
  (4 < v.toNat % 8 ∨ 96 < v.toNat / 16 % 128 →
    Moves (.grpConfigWrite g 1 v) s fun d d' => Writes d d' [(F.MOD_GRP_EVENTS_CFG_DENIED g, 1)] []) ∧
  Moves (.grpConfigWrite g 2 v) s (fun d d' =>
    Sets d d' [(F.MOD_GRP_VREF_V g, v.toNat % 65536)] [] ∧ hid d d' ∧ (d'.group g).vrefFrom = d.tick + 1) ∧
  Moves (.grpConfigWrite g 3 v) s (fun d d' =>
    Writes d d' [(F.MOD_GRP_PROT_HOLDOFF_MS g, max 1 (v.toNat % 65536)), (F.MOD_GRP_PROT_RETRY_MAX g, v.toNat / 65536 % 16),
      (F.MOD_GRP_PROT_RETRY_WIN_S g, max 1 (v.toNat / 1048576 % 256))] [])

/-- Fault decisions, restarts, the tap calibration and the group registers (R318 to R320, R327, R331, R336 to R339,
R344). FLT does not reach the logic while the test port cuts the pins (R463, assumption 217), and a restart with RUN 0
goes OFF with FLT asserted too (assumption 228). An event whose own condition does not hold leaves the state as it is
(assumption 1). -/
def GangFault : Prop := ∀ s (k : Fin 32) lv (g : Fin 8) v, Live s → GangFaultAt s k lv g v

/-- The rail samples, as ones densities in 2^-18, that the bits of a VSNS stream give after the bits `old`, newest
first (R347). -/
def railsOf : List Bool → List Bool → List Nat
  | _, [] => []
  | old, v :: bits => sinc3 ((v :: old).take 190) :: railsOf ((v :: old).take 190) bits

/-- A bit of the list differs from the bit before it. -/
def altersIn (bits : List Bool) : Bool := (bits.zip (bits.drop 1)).any fun p => p.1 != p.2

/-- The Drive Engine's fetch and a carrier cycle start, with the test port not in the pins' way. -/
abbrev CarrierAt (s : State) (g : Fin 8) (bits : List Bool) (late : Bool) (edge : Nat) (errs : List Nat) : Prop :=
  let d0 := s.chip.dev
  let b0 := d0.bst g
  let ns := b0.rails ++ railsOf b0.stream bits
  (d0.drive.fetched ≠ d0.tick + 1 →
    Moves .gangFetch s fun d d' =>
      d'.drive.fetched = d.tick + 1 ∧
      (∀ k ∈ d.allGangs, d'.gstate k = d.gstate k ∧
        (d.gstate k = gPlaying → d.drive.drain = none →
          ((d'.gang k).samples.any fun p => p.1 == d.tick) = true ∨ d'.rd (F.MOD_GANG_EVENTS_MISSING_EV k) = 1) ∧
        (d.gstate k ≠ gPlaying → (d.gang k).todo = [] → d'.gang k = d.gang k) ∧
        ∀ h ∈ (d'.gang k).todo, h ∈ (d.gang k).todo ∧ h.quiet = false ∧ d'.knows h.at_ = false) ∧
      d'.tick = d.tick ∧ d'.time = d.time ∧ d'.clk = d.clk ∧ d'.ctxs = d.ctxs ∧ d'.net = d.net ∧ d'.saps = d.saps) ∧
  (d0.drive.fetched = d0.tick + 1 → Moves .gangFetch s fun d d' => d' = d) ∧
  (errs.length ≤ 8 →
    Moves (.carrierCycleStart g bits late edge errs) s fun d d' =>
      d'.rd (F.MOD_GRP_STATUS_CARRIER_RUN g) = 1 ∧
      (d.groupSwitching g = false → d'.rd (F.MOD_GRP_STATUS_EPOCH_SLIP g) = 0) ∧
      (b0.run + bits.length < 1024 → d'.rd (F.BST_STATUS_SENSE_OK g) =
        (if altersIn ((b0.stream.take 1) ++ bits) = true then 1 else d.rd (F.BST_STATUS_SENSE_OK g))) ∧
      (d'.bst g).rails = [] ∧ (d'.bst g).stream = (if bits = [] then b0.stream else (bits.reverse ++ b0.stream).take 190) ∧
      (∀ k ∈ d.members g, ∀ h ∈ (d'.gang k).todo, h.quiet = false ∧ d'.knows h.at_ = false) ∧
      (ns ≠ [] → d.sys.twin.holdUntil ≤ edge → 256 * (ns.length * 2 ^ 18) ≤ ns.sum * (d.bst g).cfg.fs →
        d'.rd (F.MOD_GRP_RAIL_V g) = rheDiv (ns.sum * (d.bst g).cfg.fs) (ns.length * 2 ^ 18) % 65536) ∧
      (ns ≠ [] → d.sys.twin.holdUntil ≤ edge → ns.sum * (d.bst g).cfg.fs < 256 * (ns.length * 2 ^ 18) →
        d'.rd (F.MOD_GRP_RAIL_V g) = 256) ∧
      (d.sys.twin.handover = none → d'.sys.twin.hbOut =
        if g.val = 0 ∧ d.rd F.TWIN_STATUS_PERMIT = 1 then (if d.sys.twin.hbOut = .high then .low else .high)
        else d.sys.twin.hbOut) ∧
      (d.isStandby = true → ∀ i ∈ List.range 8, d.rd (F.TWIN_PROOF_CFG_EN i) = 1 → errs.getD i 0 ≠ 0 →
        d'.rd (F.TWIN_PROOF_LOOP_ERR_COUNT i) = min (d.rd (F.TWIN_PROOF_LOOP_ERR_COUNT i) + errs.getD i 0) (2 ^ 32 - 1) ∧
        d'.rd F.TWIN_EVENTS_LOOP_ERR_EV = 1) ∧
      (d.isStandby = false → ∀ i ∈ List.range 8,
        d'.rd (F.TWIN_PROOF_LOOP_ERR_COUNT i) = d.rd (F.TWIN_PROOF_LOOP_ERR_COUNT i)) ∧
      (∀ k ∈ List.range 32, k / 4 ≠ g → d'.gang k = d.gang k ∧ d'.gstate k = d.gstate k) ∧
      (∀ h ∈ List.range 8, h ≠ g → d'.bst h = d.bst h) ∧
      d'.tick = d.tick ∧ d'.time = d.time ∧ d'.clk = d.clk ∧ d'.queues = d.queues ∧ d'.ctxs = d.ctxs ∧
      (d.sys.twin.handover = none → d'.net = d.net)) ∧
  (errs.length ≤ 8 → ns = [] → late = false → d0.bstate g = bOff → (d0.bst g).orders = [] →
    d0.sys.twin.holdUntil ≤ edge → 256 * (d0.bst g).vDen ≤ (d0.bst g).vNum →
    Moves (.carrierCycleStart g bits late edge errs) s fun d d' =>
      ∀ k ∈ d.members g, d.gstate k = gPlaying → (d.gang k).todo = [] → (d.gang k).counted = [] →
        (∀ m ∈ List.range (d.gangSize k), d.knows (d.inputInstant k m false) = true ∧
          d.knows (d.inputInstant k m true) = true) →
        let b := d.bst g
        let q : Int := ((d.vrefOf g * b.vDen * 2 ^ 48 / b.vNum : Nat) : Int)
        let tops := fun (m : Nat) (h : Bool) => decide (98 * 2 ^ 79 / 100 < (d.xhat k m h * q).natAbs)
        let clips := (List.range (d.gangSize k)).any fun m => tops m false || tops m true
        d'.rd (F.MOD_GANG_CNT_COUNT k 1) =
          (if clips = true then min (d.rd (F.MOD_GANG_CNT_COUNT k 1) + 1) (2 ^ 32 - 1) else d.rd (F.MOD_GANG_CNT_COUNT k 1)) ∧
        (clips = true → d'.rd (F.MOD_GANG_EVENTS_CLIP_EV k) = 1 ∧ d'.rd (F.MOD_GANG_STATUS_CLIP_NOW k) = 1))

/-- The fetch at 64 cycles after a boundary, and the start of a group's carrier cycle: the rail samples of its VSNS
stream and their mean, the half-cycles that wait for samples not fetched yet, the clip at 0.98 of the quotient that
assumption 37 fixes, CARRIER_RUN at every start (assumption 40), the heartbeat and the loopback errors (R16, R322 to
R327, R347, R371, R385). An event whose own condition does not hold leaves the state as it is (assumption 1). -/
def Carrier : Prop :=
  ∀ s (g : Fin 8) bits late edge errs, Live s → s.chip.dev.cut = false → CarrierAt s g bits late edge errs

/-- R357's conditions for EN. -/
abbrev BstSettings (d : Dev) (g : Nat) : Prop :=
  d.rd (F.BST_RAIL_LIM_MIN g) ≤ d.rd (F.BST_RAIL_LIM_MAX g) ∧ d.rd (F.BST_RAIL_LIM_MAX g) < d.rd (F.BST_OVP_V g) ∧
    d.rd (F.BST_OVP_V g) < d.rd (F.BST_SENSE_FS g) ∧ d.rd (F.BST_LOOP_KI g) ≠ 0 ∧ d.rd (F.BST_PWM_MAXD g) ≠ 0 ∧
    d.rd (F.BST_CTL_MODE g) ≠ 3

/-- Controller `g` enters START with its goal at RAIL_MIN (R349, R354); `l` is what else the command writes. -/
abbrev Starts (d d' : Dev) (g : Nat) (l : List (Fld × Nat)) : Prop :=
  Sets d d' (l ++ [(F.BST_STATUS_STATE g, bStart), (F.BST_STATUS_READY g, 0), (F.MOD_GRP_STATUS_RAIL_READY g, 0),
      (F.BST_TARGET_GOAL g, (d.bst g).cfg.min % 65536)]) [F.BST_TARGET_REF g, F.MOD_GRP_STATUS_HOLD g] ∧
    (d'.bst g).cmd = 0 ∧ (d'.bst g).ref = (d.bst g).vNum * 65536 / (d.bst g).vDen ∧
    { d' with regs := d.regs, drive := d.drive } = d

/-- Controller `g` leaves START and RUN for `st` (R355): its gate is low and its group's gangs are held. -/
abbrev Stops (d d' : Dev) (g st : Nat) (l : List (Fld × Nat)) (may : List Fld) : Prop :=
  Sets d d' (l ++ [(F.BST_STATUS_STATE g, st), (F.BST_STATUS_READY g, 0), (F.MOD_GRP_STATUS_RAIL_READY g, 0),
      (F.MOD_GRP_STATUS_HOLD g, 1)])
    (may ++ downF g ++ [4 * g, 4 * g + 1, 4 * g + 2, 4 * g + 3].flatMap fun k =>
      [F.MOD_GANG_STATUS_STATE k, F.MOD_GANG_EVENTS_HELD_EV k]) ∧
    (d'.bst g).ons = [] ∧ (∀ k ∈ d.members g, d.switching k = true → d'.gstate k = gHeld)

/-- The fields of the registers of BST[g] from CTL to RESTART as a written word gives them (R359). -/
def bstFields (g reg v : Nat) : List (Fld × Nat) :=
  match reg with
  | 0 => [(F.BST_CTL_MODE g, v / 2 % 4), (F.BST_CTL_PHASE g, v / 8 % 16)]
  | 1 => [(F.BST_RAIL_LIM_MIN g, v % 65536), (F.BST_RAIL_LIM_MAX g, v / 65536 % 65536)]
  | 2 => [(F.BST_OVP_V g, v % 65536)]
  | 3 => [(F.BST_UV_MARGIN g, v % 256), (F.BST_UV_CYC g, v / 256 % 256)]
  | 4 => [(F.BST_ILIM_CODE g, v % 1024), (F.BST_ILIM_CYC g, v / 65536 % 256)]
  | 5 => [(F.BST_SLEW_V_PER_MS g, max 1 (v % 1024))]
  | 6 => [(F.BST_LOOP_KP g, v % 65536), (F.BST_LOOP_KI g, v / 65536 % 65536)]
  | 7 => [(F.BST_PWM_MAXD g, v % 256), (F.BST_PWM_LEB g, v / 256 % 256), (F.BST_PWM_SLOPE g, v / 65536 % 1024)]
  | 8 => [(F.BST_SENSE_FS g, v % 65536)]
  | 9 => [(F.BST_FOLLOW_HEADROOM g, v % 65536)]
  | _ => [(F.BST_RESTART_MS g, max 1 (v % 65536))]

/-- Controller `g` holds one more order for its next carrier cycle start (R357), and nothing else but `l` changes. -/
abbrev Orders (d d' : Dev) (g : Nat) (o : BstOrder) (l : List (Fld × Nat)) : Prop :=
  Sets d d' l [] ∧ { d' with regs := d.regs } = d.setBst g { d.bst g with orders := (d.bst g).orders ++ [o] }

/-- EN, CLEAR and the settings of a rail controller outside a unit reset. -/
abbrev BstControlAt (s : State) (g : Fin 8) (reg : Fin 11) (v : Word) (late : Bool) (e : Nat) : Prop :=
  let d0 := s.chip.dev
  let b0 := d0.bst g
  let start : Instr := .carrierCycleStart g [] late e []
  let on := d0.on (F.BST_CTL_EN g) = true
  (d0.on (F.BST_CTL_EN g) = false → BstSettings d0 g →
    Moves (.bstEnable g) s fun d d' => Orders d d' g .enable [(F.BST_CTL_EN g, 1)]) ∧
  (d0.on (F.BST_CTL_EN g) = false → ¬BstSettings d0 g →
    Moves (.bstEnable g) s fun d d' => Writes d d' [(F.BST_EVENTS_CFG_ERR g, 1)] []) ∧
  (on → Moves (.bstEnable g) s fun d d' => d' = d) ∧
  (d0.groupQuiet g = true →
    Moves (.bstDisable g) s fun d d' => Orders d d' g .disable [(F.BST_CTL_EN g, 0)]) ∧
  (d0.groupQuiet g = false → Moves (.bstDisable g) s fun d d' => Writes d d' [(F.BST_EVENTS_CFG_DENIED g, 1)] []) ∧
  Moves (.bstClear g) s (fun d d' => Orders d d' g .clear []) ∧
  (b0.orders = [.enable] → d0.bstate g = bOff → d0.sys.twin.holdUntil ≤ e →
    Moves start s fun d d' =>
      d'.bstate g = bStart ∧ (d'.bst g).cmd = 0 ∧ (d'.bst g).ref = b0.vNum * 65536 / b0.vDen ∧
      d'.rd (F.BST_TARGET_GOAL g) = d.rd (F.BST_RAIL_LIM_MIN g) % 65536 ∧ (d'.bst g).orders = [] ∧
      (d'.bst g).cfg = d.bstRegs g) ∧
  (b0.orders = [.enable] → d0.bstate g = bLatched →
    Moves start s fun _ d' => d'.bstate g = bLatched ∧ (d'.bst g).peaks = [] ∧ (d'.bst g).orders = []) ∧
  (b0.orders = [.disable] → d0.bstate g = bStart ∨ d0.bstate g = bRun ∨ d0.bstate g = bOff ∨ d0.bstate g = bStopped →
    Moves start s fun _ d' => d'.bstate g = bOff ∧ (d'.bst g).ons = [] ∧ (d'.bst g).orders = []) ∧
  (b0.orders = [.disable] → d0.bstate g = bLatched → Moves start s fun _ d' => d'.bstate g = bLatched) ∧
  (b0.orders = [.clear] → d0.bstate g = bLatched → b0.ovSeen = false → on →
    Moves start s fun _ d' => d'.bstate g = bStart ∧ (d'.bst g).cmd = 0 ∧ (d'.bst g).ref = b0.ref) ∧
  (b0.orders = [.clear] → d0.bstate g = bLatched → b0.ovSeen = false → d0.on (F.BST_CTL_EN g) = false →
    Moves start s fun _ d' => d'.bstate g = bOff) ∧
  (b0.orders = [.clear] → d0.bstate g = bLatched → b0.ovSeen = true →
    Moves start s fun _ d' => d'.bstate g = bLatched) ∧
  (d0.on (F.BST_CTL_EN g) = false →
    Moves (.bstConfigWrite g reg v) s fun d d' => Writes d d' (bstFields g reg v.toNat) []) ∧
  (d0.on (F.BST_CTL_EN g) = true → v.toNat / 65536 % 65536 = 0 →
    Moves (.bstConfigWrite g 6 v) s fun d d' => Writes d d' [(F.BST_EVENTS_CFG_DENIED g, 1)] []) ∧
  (d0.on (F.BST_CTL_EN g) = true → BstSettings d0 g → v.toNat / 65536 % 65536 ≠ 0 →
    Moves (.bstConfigWrite g 6 v) s fun d d' => Writes d d' (bstFields g 6 v.toNat) [])

/-- EN, CLEAR and settings writes of a rail controller, and what the next carrier cycle start makes of them (R349, R354,
R357 to R359). The compensator runs from the cycle after the one that enters START (assumption 211); the registers show
a write at once and the orders are taken at the carrier cycle start (assumption 48). An event whose own condition does
not hold leaves the state as it is (assumption 1). -/
def BstControl : Prop :=
  ∀ s (g : Fin 8) reg v late e, Live s → s.chip.dev.unitHeld 7 g = false → BstControlAt s g reg v late e

/-- No stop condition of R355 other than over-voltage holds at a carrier cycle start with no new rail sample. -/
abbrev NoStop (d : Dev) (g : Nat) : Prop :=
  let b := d.bst g
  b.rails = [] ∧ b.run < 1024 ∧ b.ilRun = 0 ∧ d.on F.MEDPLL_STATUS_FREQ_ALARM = false ∧
    (d.bstate g = bRun → b.ref * b.vDen ≤ (b.vNum + b.cfg.uvMargin * 256 * b.vDen) * 65536) ∧
    (d.bstate g = bStopped → d.rd (F.BST_STATUS_CAUSE g) ≠ 6)

/-- The goal is RAIL_MIN whatever the sources give (R352). -/
abbrev Forced (d : Dev) (g : Nat) : Prop :=
  d.on (F.MOD_GRP_STATUS_ALL_DOWN g) = true ∨ d.groupSwitching g = false ∨ d.drive.drain.isSome = true

/-- `v` moved toward `goal` by at most `step` (R352). -/
def slewed (v goal step : Nat) : Nat := if v ≤ goal then min (v + step) goal else max (v - step) goal

/-- The target `v` of controller `g` clamped to its limits (R350). -/
def railClamp (d : Dev) (g v : Nat) : Nat :=
  if v < (d.bst g).cfg.min then (d.bst g).cfg.min else if (d.bst g).cfg.max < v then (d.bst g).cfg.max else v

/-- Controller `g` has the target `v` of this tick, clamped and counted in CLAMP where the clamp alters it (R350). -/
abbrev Targets (d d' : Dev) (g v : Nat) : Prop :=
  (d'.bst g).due = some (railClamp d g v) ∧
    d'.rd (F.BST_CNT_COUNT g 2) = (if railClamp d g v = v then d.rd (F.BST_CNT_COUNT g 2)
      else min (d.rd (F.BST_CNT_COUNT g 2) + 1) (2 ^ 32 - 1)) ∧
    d'.rd (F.BST_CNT_COUNT g 0) = d.rd (F.BST_CNT_COUNT g 0)

/-- The follower's peak over the ticks T - W to T of its history (R351). -/
def peakIn (d : Dev) (g : Nat) (peaks : List (Nat × Nat)) : Nat :=
  ((peaks.filter fun q => decide (d.tick ≤ q.1 + (d.rd (F.MOD_GRP_CFG_LA g) + 5) / 6)).map (·.2)).foldl max 0

/-- The work of a rail controller outside a unit reset, with the test port not in its pins' way. -/
abbrev BstWorkAt (s : State) (g : Fin 8) (level t : Nat) (v : Bool) (cause : Fin 4) (st last : Int) (code : Nat)
    (pre post : List OnTime) (late : Bool) (e : Nat) : Prop :=
  let d0 := s.chip.dev
  let k0 := (d0.bst g).cfg
  let div := d0.rd (F.MOD_GRP_CARRIER_DIV g)
  let on := (d0.bst g).ons = pre ++ ⟨st, none, last, code⟩ :: post ∧ pre.all (fun o => o.stop.isSome) = true
  let off := fun (d d' : Dev) =>
    d' = d.setBst g { d.bst g with ons := pre ++ ⟨st, some (min (st + 8 * t) last), last, code⟩ :: post }
  let old := (d0.bst g).stream
  let n := sinc3 ((v :: old).take 190)
  let run := if old.head? = some v then min 1024 ((d0.bst g).run + 1) else 1
  let stops := fun (d : Dev) => min (d.rd (F.BST_CNT_COUNT g 3) + 1) (2 ^ 32 - 1)
  let b := d0.bst g
  let go := NoStop d0 g ∧ b.orders = [] ∧ b.corr = none ∧ d0.sys.twin.holdUntil ≤ e ∧ 0 < b.vDen
  let start : Instr := .carrierCycleStart g [] late e []
  let goal := fun (d' : Dev) => d'.rd (F.BST_TARGET_GOAL g)
  let works := d0.bstate g = bStart ∨ d0.bstate g = bRun
  (d0.bstate g = bStart → 16 ≤ (d0.bst g).settled →
    Moves (.bstReady g) s fun d d' =>
      Sets d d' [(F.BST_EVENTS_READY_EV g, 1), (F.BST_STATUS_STATE g, bRun), (F.BST_STATUS_READY g, 1),
        (F.MOD_GRP_STATUS_RAIL_READY g, 1)] [F.MOD_GRP_STATUS_HOLD g] ∧
      { d' with regs := d.regs, drive := d.drive } = d) ∧
  ((d0.bst g).settled < 16 → Moves (.bstReady g) s fun d d' => d' = d) ∧
  (on → k0.leb ≤ t → 0 < level → code * div < level * div + k0.slope * t →
    Moves (.isnsTrip g level t) s off) ∧
  (t < k0.leb → Moves (.isnsTrip g level t) s fun d d' => d' = d) ∧
  (on → last ≤ st + 8 * t → Moves (.maxOnTime g t) s off) ∧
  (on → st + 8 * t < last → Moves (.maxOnTime g t) s fun d d' => d' = d) ∧
  (k0.ovp * 2 ^ 18 < n * k0.fs →
    d0.bstate g = bStart ∨ d0.bstate g = bRun ∨ d0.bstate g = bStopped →
    Moves (.bstOvervoltage g [v]) s fun d d' =>
      Stops d d' g bLatched [(F.BST_EVENTS_OV_EV g, 1), (F.BST_STATUS_CAUSE g, 1)]
        [F.BST_MEAS_V g, F.BST_STATUS_SENSE_OK g] ∧
      { d' with regs := d.regs, drive := d.drive, freeCtr := d.freeCtr } = d) ∧
  (n * k0.fs ≤ k0.ovp * 2 ^ 18 ∨ d0.bstate g = bOff ∨ d0.bstate g = bLatched →
    Moves (.bstOvervoltage g [v]) s fun d d' =>
      Sets d d' [] [F.BST_MEAS_V g, F.BST_STATUS_SENSE_OK g] ∧
      { d' with regs := d.regs, drive := d.drive, freeCtr := d.freeCtr } = d) ∧
  Moves (.bstOvervoltage g [v]) s (fun d d' =>
    (d'.bst g).stream = (v :: old).take 190 ∧ (d'.bst g).run = run ∧ (d'.bst g).rails = (d.bst g).rails ++ [n] ∧
    (∀ h ∈ List.range 8, h ≠ g → d'.bst h = d.bst h) ∧
    (n * k0.fs % 2 ^ 18 = 0 → d'.rd (F.BST_MEAS_V g) = n * k0.fs / 2 ^ 18 % 65536) ∧
    d'.rd (F.BST_STATUS_SENSE_OK g) =
      (if run = 1024 ∧ (d.bst g).held = false then 0
        else if old.head? = some !v then 1 else d.rd (F.BST_STATUS_SENSE_OK g))) ∧
  (d0.bstCond g (cause + 2) = true →
    Moves (.bstStop g cause) s fun d d' =>
      Stops d d' g bStopped [(F.BST_EVENTS_STOP_EV g, 1), (F.BST_STATUS_CAUSE g, cause + 2),
        (F.BST_CNT_COUNT g 3, stops d)] [] ∧ { d' with regs := d.regs, drive := d.drive } = d) ∧
  (d0.bstCond g (cause + 2) = false → Moves (.bstStop g cause) s fun d d' => d' = d) ∧
  ((d0.bst g).held = false → 1024 ≤ (d0.bst g).run → d0.bstate g = bStart ∨ d0.bstate g = bRun →
    Moves (.senseLost g) s fun d d' =>
      Stops d d' g bStopped [(F.BST_STATUS_SENSE_OK g, 0), (F.BST_EVENTS_STOP_EV g, 1), (F.BST_STATUS_CAUSE g, 4),
        (F.BST_CNT_COUNT g 3, stops d)] [] ∧ { d' with regs := d.regs, drive := d.drive } = d) ∧
  ((d0.bst g).held = false → 1024 ≤ (d0.bst g).run → d0.bstate g = bOff →
    Moves (.senseLost g) s fun d d' => Writes d d' [(F.BST_STATUS_SENSE_OK g, 0)] []) ∧
  ((d0.bst g).held = true ∨ (d0.bst g).run < 1024 → Moves (.senseLost g) s fun d d' => d' = d) ∧
  (d0.bstate g = bStopped → d0.rd (F.BST_STATUS_CAUSE g) = 2 ∨ d0.rd (F.BST_STATUS_CAUSE g) = 3 →
    (d0.bst g).stopRaw + k0.restart * 500000 ≤ d0.time.raw →
    Moves (.bstRestart g) s fun d d' => Starts d d' g []) ∧
  (d0.bstate g = bStopped → d0.rd (F.BST_STATUS_CAUSE g) = 2 →
    d0.time.raw < (d0.bst g).stopRaw + k0.restart * 500000 →
    Moves (.bstRestart g) s fun d d' => d' = d) ∧
  -- the goal, the reference and the compensator at a carrier cycle start with no stop and no order; the target at a fetch
  (go → Forced d0 g → Moves start s fun _ d' =>
    d'.rd (F.BST_STATUS_FORCED_MIN g) = 1 ∧ goal d' = b.cfg.min % 65536 ∧
    (d'.bst g).due = if late then none else b.due) ∧
  (go → ¬Forced d0 g → Moves start s fun d d' =>
    d'.rd (F.BST_STATUS_FORCED_MIN g) = 0 ∧
    goal d' = (if late then (b.due.map (· % 65536)).getD (goal d) else goal d) ∧
    (d'.bst g).due = if late then none else b.due) ∧
  (go → Moves start s fun d d' =>
    d'.bstate g = d.bstate g ∧
    (d'.bst g).ref =
      slewed b.ref (65536 * goal d') (d.rd (F.BST_SLEW_V_PER_MS g) * d.rd (F.MOD_GRP_CARRIER_DIV g) * 65536 / 3072) ∧
    d'.rd (F.BST_TARGET_REF g) = (d'.bst g).ref / 65536 % 65536) ∧
  (go → works → Moves start s fun d d' =>
    let div := d.rd (F.MOD_GRP_CARRIER_DIV g)
    let err : Int := ((d'.bst g).ref / 65536 : Nat) - (rheDiv b.vNum b.vDen : Int)
    let lim : Int := d.rd (F.BST_ILIM_CODE g) * 65536
    let raw := (b.cmd : Int) + d.rd (F.BST_LOOP_KP g) * (err - b.ePrev) + d.rd (F.BST_LOOP_KI g) * err
    let code := rheDiv (d'.bst g).cmd 65536
    let from_ := rheDiv (d.rd (F.BST_CTL_PHASE g) * div) 2
    ((d'.bst g).cmd : Int) = max 0 (min lim raw) ∧ (d'.bst g).ePrev = err ∧
      d'.rd (F.BST_MEAS_C g) = code % 1024 ∧
      d'.rd (F.BST_CNT_COUNT g 4) = (if lim ≤ raw then min (d.rd (F.BST_CNT_COUNT g 4) + 1) (2 ^ 32 - 1)
        else d.rd (F.BST_CNT_COUNT g 4)) ∧
      (0 < code → (d'.bst g).ons.getLast? =
        some ⟨from_, none, from_ + rheDiv (d.rd (F.BST_PWM_MAXD g) * div) 32, code⟩) ∧
      (b.ons = [] → code = 0 → (d'.bst g).ons = [])) ∧
  (d0.drive.fetched ≠ d0.tick + 1 →
    Moves .gangFetch s fun d d' =>
      let fol := ((d.bst g).cfg.headroom * d.vrefOf g * peakIn d g (d'.bst g).peaks * 100 + 98 * 256 * 2 ^ 31 - 1) /
        (98 * 256 * 2 ^ 31)
      let ps := ((d.members g).filter fun k => decide (d.gstate k = gPlaying)).flatMap fun k =>
        ((d'.gang k).samples.filter fun p => decide (p.1 = d.tick)).map (·.2)
      let keep := b.peaks.filter fun p => decide (d.tick < p.1 + 32)
      (d'.bst g).peaks = (if ps = [] then keep else (d.tick, (ps.flatten.map Int.natAbs).foldl max 0) :: keep) ∧
      (d'.bst g).env = none ∧
      (d.on (F.BST_CTL_EN g) = false → (d'.bst g).due = b.due ∧ ∀ c ∈ List.range 5,
        d'.rd (F.BST_CNT_COUNT g c) = d.rd (F.BST_CNT_COUNT g c)) ∧
      (d.on (F.BST_CTL_EN g) = true → b.cfg.mode = 0 → b.env = none →
        (d'.bst g).due = b.due ∧
        d'.rd (F.BST_CNT_COUNT g 0) = min (d.rd (F.BST_CNT_COUNT g 0) + 1) (2 ^ 32 - 1)) ∧
      (∀ v ∈ b.env, d.on (F.BST_CTL_EN g) = true → b.cfg.mode = 0 → Targets d d' g v) ∧
      (d.on (F.BST_CTL_EN g) = true → b.cfg.mode = 1 ∨ (b.cfg.mode = 2 ∧ b.env = none) → Targets d d' g fol) ∧
      (∀ v ∈ b.env, d.on (F.BST_CTL_EN g) = true → b.cfg.mode = 2 → Targets d d' g (max v fol)))

/-- A rail controller's goal, reference, compensator and target, and how it becomes ready, ends its on-time, latches,
stops, loses its sense stream and restarts (R347 to R352, R354, R355). A restart after CAUSE 2 or 3 waits for RESTART_MS
alone (assumption 47), and a trip shows in no status field (assumption 165). The end that MAXD sets is rounded to the
grid (assumption 4). An event whose own condition does not hold leaves the state as it is (assumption 1). -/
def BstWork : Prop :=
  ∀ s (g : Fin 8) level t v cause st last code pre post late e, Live s → s.chip.dev.unitHeld 7 g = false →
    s.chip.dev.cut = false → BstWorkAt s g level t v cause st last code pre post late e

/-- The fields that a change of queue `q`'s packet count and of the free list may move (R196, R209). -/
def countF (q : Nat) : List Fld :=
  [F.Q_EV_HI_EV q, F.Q_EV_LO_EV q, F.Q_EV_HI_LIVE q, F.Q_EV_LO_LIVE q, F.QM_FREE_COMMON]

/-- Only registers, queues and the cells' metadata differ, and how many free values have been drawn. -/
abbrev QueueOnly (d d' : Dev) : Prop :=
  { d' with regs := d.regs, queues := d.queues, pool := d.pool, freeCtr := d.freeCtr } = d

/-- Where the next word pushed to queue `q` stands in Saltern: its place in the last cell of the chain, or in the cell
that is taken for it (R192 to R194). -/
def pushAddr (d : Dev) (q : Nat) : Nat :=
  let x := d.q q
  let i := x.head + x.stored
  let taken := (d.wr F.QM_FREE_COMMON (d.rd F.QM_FREE_COMMON - 1)).takeCell .common (.queue q) x.chain.getLast?
  256 * (if x.needsCell = true then x.chain ++ [taken.1] else x.chain).getD (i / 64) 0 + 4 * (i % 64)

/-- A word pushed to queue `q` is stored with its tag; no other byte of memory and no other tag of a cell changes
(R193). A bad row that is written is good again (the model's choice, assumption 206). -/
abbrev WordStored (c c' : Chip) (q : Nat) (w : QWord) : Prop :=
  c'.mem.load (pushAddr c.dev q) 4 = w.data.toNat ∧ BytesBut c.mem c'.mem (pushAddr c.dev q) 4 ∧
    c'.dev.pool.tags = Sparse.set (fun _ => 0) c.dev.pool.tags (pushAddr c.dev q / 4) (1 + 2 * bit w.e + 4 * w.k) ∧
    c'.dev.badRows = c.dev.badRows.filter (· ≠ pushAddr c.dev q / 8 * 8)

/-- The cells that `n` more words of queue `q` lie in, the last of which may be new, and the place of the `i`-th word
among the words of all cells (R194). -/
def packetCells (d d' : Dev) (q n : Nat) : List Nat :=
  let x := d.q q
  if 64 * x.alloc < x.head + x.stored + n then x.chain ++ [(d'.q q).chain.getLastD 0] else x.chain
def packetPlace (d d' : Dev) (q n i : Nat) : Nat :=
  let i := (d.q q).head + (d.q q).stored + i
  64 * (packetCells d d' q n).getD (i / 64) 0 + i % 64

/-- No byte of memory and no tag of a cell changes but those of the `n` words of one packet pushed to queue `q` (R192 to
R194, R199). -/
abbrev PacketFrame (c c' : Chip) (q n : Nat) : Prop :=
  let at_ := packetPlace c.dev c'.dev q n
  (∀ b, (∀ i ∈ List.range n, b / 4 ≠ at_ i) → c'.mem.byte b = c.mem.byte b) ∧ c'.mem.flash = c.mem.flash ∧
    (∀ t, (∀ i ∈ List.range n, t ≠ at_ i) →
      Sparse.get (fun _ => 0) c'.dev.pool.tags t = Sparse.get (fun _ => 0) c.dev.pool.tags t)

/-- The words `v 0` to `v (n - 1)` follow each other in the cells of queue `q`, each with its tag (R193, R194, R199). -/
abbrev PacketStored (c c' : Chip) (q n : Nat) (v : Nat → Word) (k : Nat) : Prop :=
  let at_ := packetPlace c.dev c'.dev q n
  PacketFrame c c' q n ∧
    ((packetCells c.dev c'.dev q n).Nodup → ∀ i ∈ List.range n, c'.mem.load (4 * at_ i) 4 = (v i).toNat ∧
      Sparse.get (fun _ => 0) c'.dev.pool.tags (at_ i) = 1 + 2 * bit (decide (i + 1 = n)) + 4 * k)

/-- Queue `q` takes a packet of at most 32 words whole: it is enabled, no packet is open in it, and its credit covers
the cell that the packet may begin, also where a cell that is done with leaves the queue at the same time (R196,
R198). -/
abbrev PacketRoom (d : Dev) (q : Nat) : Prop :=
  d.rd (F.Q_CFG_EN q) ≠ 0 ∧ (d.q q).err = false ∧ (d.q q).discard = false ∧ (d.q q).openWords = [] ∧
    (d.q q).head + (d.q q).stored ≤ 64 * (d.q q).alloc ∧
    ((d.q q).head < 64 ∧ 0 < d.credit q ∨ (d.q q).head ≤ 64 ∧ 1 < d.credit q)

/-- Pushes, pops, visibility and credit of queue `q`. -/
abbrev QueueMoveAt (s : State) (q : Fin 4096) (w : Word) (e : Bool) (k : Fin 3) (p : Packet)
    (ps : List Packet) (v : QWord) (vs : List QWord) : Prop :=
  let d0 := s.chip.dev
  let x := d0.q q
  let room := d0.rd (F.Q_CFG_EN q) ≠ 0 ∧ x.err = false ∧ x.discard = false ∧ (x.needsCell = false ∨ 0 < d0.credit q)
  (room →
    Turns (.queuePush q w false k) s fun c c' =>
      (c'.dev.q q).openWords = x.openWords ++ [⟨w, false, k⟩] ∧ (c'.dev.q q).packets = x.packets ∧
      WordStored c c' q ⟨w, false, k⟩ ∧ Sets c.dev c'.dev [] [F.QM_FREE_COMMON] ∧ QueuesBut c.dev c'.dev q ∧
      QueueOnly c.dev { c'.dev with badRows := c.dev.badRows }) ∧
  (room →
    Turns (.queuePush q w true k) s fun c c' =>
      (c'.dev.q q).openWords = [] ∧
      (c'.dev.q q).packets = x.packets ++ [⟨x.openWords ++ [⟨w, true, k⟩], none, none, 0, false, 0⟩] ∧
      WordStored c c' q ⟨w, true, k⟩ ∧ Sets c.dev c'.dev [] (countF q) ∧ QueuesBut c.dev c'.dev q ∧
      QueueOnly c.dev { c'.dev with badRows := c.dev.badRows }) ∧
  (d0.rd (F.Q_CFG_EN q) = 0 → Moves (.queuePush q w e k) s fun d d' => d' = d) ∧
  (d0.rd (F.Q_CFG_EN q) ≠ 0 → x.err = false → x.discard = false → x.needsCell = true → d0.credit q ≤ 0 →
    Moves (.queuePush q w e k) s fun d d' =>
      (d'.q q).openWords = [] ∧ (d'.q q).packets = x.packets ∧ (d'.q q).discard = !e ∧
      Sets d d' [(F.Q_EV_OVF_EV q, 1), (F.QM_EVENTS_OVF_ANY, 1), (F.QM_OVF_Q, q.val),
        (F.QM_OVF_COUNT, min (d.rd F.QM_OVF_COUNT + 1) 65535)] [] ∧
      QueuesBut d d' q ∧ { d' with regs := d.regs, queues := d.queues, rake := d.rake } = d) ∧
  (x.packets = p :: ps → p.words = v :: vs → d0.rd (F.Q_CFG_EN q) ≠ 0 → x.err = false → p.arrival.isSome = true →
    Moves (.queuePop q) s fun d d' =>
      (d'.q q).packets = (if v.e then ps else { p with words := vs, begun := true } :: ps) ∧
      (d'.q q).openWords = x.openWords ∧ (d'.q q).remembered = x.epoch ∧
      (d'.q q).head + 64 * (d'.q q).crossing =
        x.head + 64 * x.crossing + (if v.e then p.words.length + p.gap else 1) ∧
      Sets d d' [] (countF q) ∧ QueuesBut d d' q ∧ QueueOnly d d') ∧
  (x.packets = [] → d0.rd (F.Q_CFG_EN q) ≠ 0 → x.err = false →
    Moves (.queuePop q) s fun d d' => d' = d.setQ q { d.q q with remembered := x.epoch }) ∧
  (x.packets = p :: ps → p.arrival = none → p.hold = none →
    Moves (.packetVisible q) s fun d d' =>
      (d'.q q).packets = { p with arrival := some d.tick,
                                  ord := if x.arrTick = d.tick then x.arrCount else 0 } :: ps ∧
      QueuesBut d d' q ∧ { d' with queues := d.queues } = d) ∧
  (x.packets = [] → Moves (.packetVisible q) s fun d d' => d' = d) ∧
  Moves (.creditReturn q) s (fun d d' => d' = d.setQ q { d.q q with crossing := (d.q q).crossing - 1 }) ∧
  (x.parked = true → (d0.txOld.any fun r => r.2 == some (q.val, false)) = false →
    Moves (.parkedDiscard q) s fun d d' =>
      (d'.q q).packets.map (fun p => { p with gap := 0 }) = (x.packets.filter fun p => match p.arrival with
        | some a => decide (d.tick < a) | none => true).map (fun p => { p with gap := 0 }) ∧
      (d'.q q).head + 64 * (d'.q q).crossing + (d'.q q).stored = x.head + 64 * x.crossing + x.stored ∧
      (d'.q q).openWords = x.openWords ∧ Sets d d' [] (F.ROUTE_CNT_COUNT 3 :: countF q) ∧ QueuesBut d d' q ∧
      QueueOnly d d') ∧
  (x.parked = false ∨ (d0.txOld.any fun r => r.2 == some (q.val, false)) = true →
    Moves (.parkedDiscard q) s fun d d' => d' = d)

/-- Pushes with the words they put into cells, overflows, pops, visibility, returned credit and the discards of a parked
queue that no transmit channel still takes from (R192 to R194, R198, R199, R201, R202, R251, R307, R311). Two changes of
a count within two CLK_TIME cycles may be judged as one (assumption 174). An event whose own condition does not hold
leaves the state as it is (assumption 1). -/
def QueueMove : Prop := ∀ s (q : Fin 4096) w e k p ps v vs, Live s → QueueMoveAt s q w e k p ps v vs

/-- Resets and errors of queue `q`, the rake and the scrubber. -/
abbrev QueueResetAt (s : State) (q : Fin 4096) (cause : Fin 4) (addr : BitVec 26) (j : RakeJob)
    (js : List RakeJob) : Prop :=
  let d0 := s.chip.dev
  let x := d0.q q
  let live := [(F.Q_EV_HI_LIVE q, bit (decide (d0.rd (F.Q_WM_HIGH q) = 0))), (F.Q_EV_LO_LIVE q, 1)]
  let hid := fun (d d' : Dev) => QueuesBut d d' q ∧ { d' with regs := d.regs, queues := d.queues, rake := d.rake } = d
  let qerr := fun (cause : Nat) => [(F.Q_EV_QERR_EV q, 1), (F.QM_EVENTS_QERR_ANY, 1), (F.QM_QERR_Q, q.val),
    (F.QM_QERR_CAUSE, cause), (F.QM_QERR_COUNT, min (d0.rd F.QM_QERR_COUNT + 1) 65535)]
  let uncorr := fun (a area : Nat) => [(F.QM_ECC_UNCORR, min (d0.rd F.QM_ECC_UNCORR + 1) 65535),
    (F.QM_EVENTS_ECC_UNCORR_EV, 1), (F.QM_ECC_ADDR_ADDR, a), (F.QM_ECC_ADDR_AREA, area)]
  let fell := fun (d' : Dev) => (d'.q q).packets = [] ∧ (d'.q q).openWords = [] ∧ (d'.q q).chain = [] ∧
    (d'.q q).err = true ∧ (d'.q q).epoch = (x.epoch + 1) % 65536
  let row := addr.toNat / 8 * 8
  let inCells := row < d0.rd F.QM_REGION_CELLS * 256
  let cell := addr.toNat / 256
  let bad := fun (d d' : Dev) => d'.badRows = if d.badRows.contains row then d.badRows else row :: d.badRows
  Moves (.queueResetWrite q) s (fun d d' => d' = d.setQ q { d.q q with asked := x.asked + 1 }) ∧
  (0 < x.asked →
    Moves (.queueReset q) s fun d d' =>
      Sets d d' live [] ∧ hid d d' ∧ (d'.q q).packets = [] ∧ (d'.q q).openWords = [] ∧ (d'.q q).chain = [] ∧
      (d'.q q).epoch = (x.epoch + 1) % 65536 ∧ (d'.q q).asked + 1 = x.asked ∧ d'.held q = d.held q ∧
      d'.rake = d.rake ++ (if x.chain = [] then [] else [⟨.reset q, x.chain⟩])) ∧
  (x.asked = 0 → Moves (.queueReset q) s fun d d' => d' = d) ∧
  (cause.val = 0 →
    Moves (.forcedReset q cause addr) s fun d d' =>
      Sets d d' (live ++ qerr 1) [] ∧ hid d d' ∧ fell d' ∧ d'.rake = d.rake ++ [⟨.scan q, []⟩]) ∧
  (cause.val = 1 → (d0.cell cell).owner = .queue q →
    Moves (.forcedReset q cause addr) s fun d d' =>
      Sets d d' (live ++ qerr 2 ++ uncorr row 0) [] ∧ bad d d' ∧ hid d { d' with badRows := d.badRows } ∧ fell d' ∧
      d'.rake = d.rake ++ [⟨.scan q, []⟩]) ∧
  (cause.val = 2 → (d0.cell cell).owner = .queue q →
    Moves (.forcedReset q cause addr) s fun d d' =>
      Sets d d' (live ++ qerr 3 ++ uncorr (cell * 256) 1) [] ∧ hid d d' ∧ fell d' ∧
      d'.rake = d.rake ++ [⟨.scan q, []⟩]) ∧
  (cause.val = 2 → (d0.cell cell).owner = .ring (q % 4) →
    Moves (.forcedReset q cause addr) s fun d d' => Writes d d' (uncorr (cell * 256) 1) []) ∧
  (cause.val = 3 → d0.rake = j :: js → j.ofQueue q = true → j.isScan = false →
    Moves (.forcedReset q cause addr) s fun d d' =>
      Sets d d' (live ++ qerr 4) [] ∧ hid d d' ∧ fell d' ∧ d'.rake = js ++ [⟨.scan q, []⟩]) ∧
  (cause.val = 3 → d0.rakes q = false → Moves (.forcedReset q cause addr) s fun d d' => d' = d) ∧
  (d0.rake = j :: js → j.owner = .scan q →
    Moves (.ownerScanEnd q) s fun d d' =>
      Sets d d' [(F.QM_FREE_COMMON, (d.rd F.QM_FREE_COMMON + d.held q) % 2 ^ 17)] [] ∧
      d'.rake = js.filter (fun i => i.isScan || !i.ofQueue q) ∧ d'.held q = 0 ∧
      (d'.q q).crossing = x.crossing + d.held q ∧
      (d'.q q).err = (js.any fun i => i.owner == .scan q) ∧ hid d { d' with pool := d.pool }) ∧
  (d0.rake = j :: js → j.ofQueue q = true → j.isScan = false → d0.chainBroken q j.cells = true →
    Moves .rakeCellReturn s fun d d' =>
      Sets d d' (live ++ qerr 4) [] ∧ hid d d' ∧ fell d' ∧ d'.rake = js ++ [⟨.scan q, []⟩]) ∧
  (d0.rake = j :: js → 0 < j.cells.length → j.ofQueue q = true → j.isScan = false → d0.chainBroken q j.cells = false →
    Moves .rakeCellReturn s fun d d' =>
      Sets d d' [(F.QM_FREE_COMMON, (d.rd F.QM_FREE_COMMON + 1) % 2 ^ 17)] [] ∧
      (d'.q q).crossing = x.crossing + 1 ∧ (d'.cell (j.cells.headD 0)).owner = .free ∧
      d'.rake = (if j.cells.length = 1 then js else { j with cells := j.cells.drop 1 } :: js) ∧
      hid d { d' with pool := d.pool }) ∧
  (d0.rake = j :: js → j.owner = .scan q → 0 < d0.held q →
    Moves .rakeCellReturn s fun d d' =>
      Sets d d' [(F.QM_FREE_COMMON, (d.rd F.QM_FREE_COMMON + 1) % 2 ^ 17)] [] ∧
      (d'.q q).crossing = x.crossing + 1 ∧ d'.held q < d.held q ∧ d'.rake = d.rake ∧
      hid d { d' with pool := d.pool }) ∧
  (d0.rake = j :: js → 0 < j.cells.length → j.owner = .ring (q % 4) →
    Moves .rakeCellReturn s fun d d' =>
      Sets d d' [(F.MAC_POOL_FREE (q % 4), (d.rd (F.MAC_POOL_FREE (q % 4)) + 1) % 65536)] [] ∧
      (d'.cell (j.cells.headD 0)).owner = .free ∧ { d' with regs := d.regs, rake := d.rake, pool := d.pool } = d) ∧
  (d0.rake = [] → Moves .rakeCellReturn s fun d d' => d' = d) ∧
  Moves (.patrolScrub addr 0) s (fun d d' => d' = d) ∧
  Moves (.patrolScrub addr 1) s (fun d d' =>
    Writes d d' [(F.QM_ECC_CORR, min (d.rd F.QM_ECC_CORR + 1) 65535), (F.QM_EVENTS_ECC_CORR_EV, 1)] []) ∧
  (¬inCells →
    Moves (.patrolScrub addr 2) s fun d d' =>
      Sets d d' (uncorr row 2) [] ∧ bad d d' ∧ { d' with regs := d.regs, badRows := d.badRows } = d) ∧
  (¬inCells → Moves (.patrolScrub addr 3) s fun d d' => d' = d) ∧
  (inCells → (d0.cell cell).owner = .queue q →
    Moves (.patrolScrub addr 2) s fun d d' =>
      Sets d d' (live ++ qerr 2 ++ uncorr row 0) [] ∧ bad d d' ∧ hid d { d' with badRows := d.badRows } ∧ fell d' ∧
      d'.rake = d.rake ++ [⟨.scan q, []⟩]) ∧
  (inCells → (d0.cell cell).owner = .queue q →
    Moves (.patrolScrub addr 3) s fun d d' =>
      Sets d d' (live ++ qerr 3 ++ uncorr (cell * 256) 1) [] ∧ hid d d' ∧ fell d' ∧
      d'.rake = d.rake ++ [⟨.scan q, []⟩]) ∧
  (inCells → (d0.cell cell).owner = .ring (q % 4) →
    Moves (.patrolScrub addr 2) s fun d d' =>
      Sets d d' (uncorr row 0) [] ∧ bad d d' ∧ { d' with regs := d.regs, badRows := d.badRows } = d) ∧
  (inCells → (d0.cell cell).owner = .free →
    Turns (.patrolScrub addr 2) s fun c c' =>
      Sets c.dev c'.dev (uncorr row 0) [] ∧ c'.dev.badRows = c.dev.badRows.filter (fun a => a / 256 ≠ cell) ∧
      { c'.dev with regs := c.dev.regs, pool := c.dev.pool, badRows := c.dev.badRows } = c.dev ∧
      (∀ i ∈ List.range 256, c'.mem.byte (cell * 256 + i) = 0) ∧ BytesBut c.mem c'.mem (cell * 256) 256)

/-- Asked and forced resets, the owner scan, the rake and the patrol scrubber (R190, R191, R195, R203, R204, R206 to
R208). An error that an access corrects is a scrubber row too (assumption 176). An event whose own condition does not
hold leaves the state as it is (assumption 1). -/
def QueueReset : Prop := ∀ s (q : Fin 4096) cause addr j js, Live s → QueueResetAt s q cause addr j js

/-- Route writes and their judgement at a boundary. -/
abbrev RouteAt (s : State) (e : BitVec 15) (v : Word) (late : Bool) (r : RoutePend) (x q0 m : Nat) : Prop :=
  let d0 := s.chip.dev
  let n := e.toNat
  let ahead := d0.tick + 1 + bit late
  let at_ := d0.rd F.ROUTE_APPLY_AT_TICK
  let missed := 2 ^ 31 ≤ (at_ + 2 ^ 32 - (d0.mediaTick + 1 + bit late) % 2 ^ 32) % 2 ^ 32
  let denied := fun (d : Dev) (cause : Nat) => [(F.ROUTE_E_DENIED n, 1), (F.ROUTE_DENIED_ENDPOINT, n),
    (F.ROUTE_DENIED_CAUSE, cause), (F.ROUTE_E_PENDING n, 0),
    (F.ROUTE_CNT_COUNT 1, min (d.rd (F.ROUTE_CNT_COUNT 1) + 1) (2 ^ 32 - 1)), (F.ROUTE_EVENTS_DENIED_EV, 1),
    (F.ROUTE_STATUS_PENDING, 0)]
  let due := d0.routePend = [(n, some r)] ∧ d0.epLive n = true ∧ d0.txOld = [] ∧ r.off = false ∧ r.timed = none ∧
    r.after ≤ d0.tick
  let hid := fun (d d' : Dev) => { d' with regs := d.regs, routePend := d.routePend, routeFresh := d.routeFresh,
                                           txOld := d.txOld, queues := d.queues } = d
  (isEndpoint n = true → d0.epLive n = false →
    Moves (.routeWrite e v late) s fun d d' =>
      Writes d d' [(F.ROUTE_E_Q n, v.toNat % 4096), (F.ROUTE_E_OFF n, v.toNat / 4096 % 2), (F.ROUTE_E_DENIED n, 0)] []) ∧
  (isEndpoint n = true → d0.epLive n = true → d0.on F.ROUTE_CTL_TIMED = false →
    Moves (.routeWrite e v late) s fun d d' =>
      Sets d d' [(F.ROUTE_E_Q n, v.toNat % 4096), (F.ROUTE_E_OFF n, v.toNat / 4096 % 2), (F.ROUTE_E_DENIED n, 0),
        (F.ROUTE_E_PENDING n, 1), (F.ROUTE_STATUS_PENDING, 1)] [] ∧
      d'.pendOf n = some ⟨v.toNat % 4096, decide (v.toNat / 4096 % 2 = 1), none, d.tick + 1 + bit late⟩ ∧
      { d' with regs := d.regs, routePend := d.routePend } = d) ∧
  (isEndpoint n = true → d0.epLive n = true → d0.on F.ROUTE_CTL_TIMED = true →
    Moves (.routeWrite e v late) s fun d d' =>
      Sets d d' ([(F.ROUTE_E_Q n, v.toNat % 4096), (F.ROUTE_E_OFF n, v.toNat / 4096 % 2), (F.ROUTE_E_DENIED n, 0),
        (F.ROUTE_E_PENDING n, 1), (F.ROUTE_STATUS_PENDING, 1)] ++ if missed then [(F.ROUTE_EVENTS_LATE_EV, 1)] else []) [] ∧
      d'.pendOf n = some ⟨v.toNat % 4096, decide (v.toNat / 4096 % 2 = 1), if missed then none else some at_, ahead⟩ ∧
      { d' with regs := d.regs, routePend := d.routePend } = d) ∧
  (d0.routePend = [(n, some r)] → r.timed = some m → m ≠ d0.mediaTick ∨ d0.tick < r.after →
    Moves .routeApply s fun d d' => Writes d d' [(F.ROUTE_STATUS_PENDING, 1)] []) ∧
  (d0.routePend = [(n, some r)] → n < 0x2000 → d0.txOld = [] → d0.epLive n = false → r.timed = none → r.after ≤ d0.tick →
    Moves .routeApply s fun d d' =>
      Sets d d' [(F.ROUTE_E_PENDING n, 0), (F.ROUTE_STATUS_PENDING, 0)] [] ∧ d'.pendOf n = none ∧ hid d d') ∧
  (d0.routePend = [(n, some r)] → n < 0x2000 → d0.epLive n = true → d0.txOld = [] → d0.boundCodes = [] → r.off = false → r.timed = none →
    r.after ≤ d0.tick → d0.rd (F.Q_CFG_EN r.q) ≠ 0 → d0.rd (F.Q_CFG_PROD_DOM r.q) = 2 →
    Moves .routeApply s fun d d' =>
      Sets d d' [(F.ROUTE_E_Q_ACTIVE n, r.q % 4096), (F.ROUTE_E_OFF_ACTIVE n, 0), (F.ROUTE_E_PENDING n, 0),
        (F.ROUTE_CNT_COUNT 0, min (d.rd (F.ROUTE_CNT_COUNT 0) + 1) (2 ^ 32 - 1)), (F.ROUTE_EVENTS_APPLIED_EV, 1),
        (F.ROUTE_STATUS_PENDING, 0)] [] ∧ d'.pendOf n = none ∧ hid d d') ∧
  (due → n < 0x4000 → d0.rd (F.Q_CFG_EN r.q) = 0 →
    Moves .routeApply s fun d d' => Sets d d' (denied d 1) [] ∧ d'.pendOf n = none ∧ hid d d') ∧
  (due → n < 0x2000 → d0.rd (F.Q_CFG_EN r.q) ≠ 0 → d0.rd (F.Q_CFG_PROD_DOM r.q) ≠ 2 →
    Moves .routeApply s fun d d' => Sets d d' (denied d 2) [] ∧ d'.pendOf n = none ∧ hid d d') ∧
  (due → 0x2080 ≤ n → n < 0x20A0 → d0.rd (F.Q_CFG_EN r.q) ≠ 0 → d0.rd (F.Q_CFG_CONS_DOM r.q) ≠ 2 →
    Moves .routeApply s fun d d' => Sets d d' (denied d 2) [] ∧ d'.pendOf n = none ∧ hid d d') ∧
  (due → n < 0x2000 → d0.rd (F.Q_CFG_EN r.q) ≠ 0 → d0.rd (F.Q_CFG_PROD_DOM r.q) = 2 → d0.boundCodes = [x] → x ≠ n →
    d0.epLive x = true → d0.isSink x = false → d0.bound x = some r.q →
    Moves .routeApply s fun d d' => Sets d d' (denied d 3) [] ∧ d'.pendOf n = none ∧ hid d d') ∧
  (due → 0x2080 ≤ n → n < 0x20A0 → d0.rd (F.Q_CFG_EN r.q) ≠ 0 → d0.rd (F.Q_CFG_CONS_DOM r.q) = 2 →
    d0.boundCodes = [n] → d0.bound n = some q0 → q0 ≠ r.q → r.q < 4096 →
    Moves .routeApply s fun d d' =>
      Sets d d' [(F.ROUTE_E_Q_ACTIVE n, r.q), (F.ROUTE_E_PENDING n, 0),
        (F.ROUTE_CNT_COUNT 0, min (d.rd (F.ROUTE_CNT_COUNT 0) + 1) (2 ^ 32 - 1)), (F.ROUTE_EVENTS_APPLIED_EV, 1),
        (F.ROUTE_EVENTS_PARK_EV, 1), (F.ROUTE_STATUS_PENDING, 0)] [] ∧ d'.pendOf n = none ∧
      d'.firstTake n = true ∧ d'.q q0 = { d.q q0 with parked := true } ∧ d'.q r.q = { d.q r.q with parked := false } ∧
      (∀ j, j ≠ q0 → j ≠ r.q → d'.q j = d.q j) ∧ hid d d')

/-- A ROUTE[e] write is stored, at once or for the tick that APPLY_AT names, and a binding that is due is accepted, at a
sink with its old queue parked, or refused with its cause (R305 to R308, R311, R473). A pending binding of an endpoint
that is no longer live is dropped at its boundary without count or event (assumption 170). An event whose own condition
does not hold leaves the state as it is (assumption 1). -/
def Route : Prop := ∀ s e v late r x q0 m, Live s → RouteAt s e v late r x q0 m

/-- The fields of an uncorrectable error (R190). -/
def eccF : List Fld := [F.QM_ECC_UNCORR, F.QM_EVENTS_ECC_UNCORR_EV, F.QM_ECC_ADDR_ADDR, F.QM_ECC_ADDR_AREA]

/-- Page walks and invalidations, for one context, address and TLB. -/
abbrev PagesAt (s : State) (x : Fin 64) (va : Word) (kind : Fin 3) (spec : Bool) (op : BitVec 2) (asid : BitVec 8)
    (n : Fin 17) (i : InvReq) (is : List InvReq) (y gen : Nat) : Prop :=
  let d0 := s.chip.dev
  let m0 := s.chip.mem
  let w := d0.whoCtx x
  let root := d0.rd (F.MMU_ROOT_PPN w.asid)
  let a1 := root * 4096 + va.toNat / 4096 / 1024 * 4
  let e1 := m0.load a1 4
  let a0 := bitsAt e1 18 14 * 4096 + va.toNat / 4096 % 1024 * 4
  let e0 := m0.load a0 4
  let rooted := va.toNat < 0xF0000000 ∧ d0.rd (F.MMU_ROOT_V w.asid) = 1 ∧ d0.inCells root = false ∧
    d0.badRow a1 = false
  let inner := rooted ∧ bitAt e1 0 = true ∧ bitsAt e1 1 3 = 0 ∧ d0.inCells (bitsAt e1 18 14) = false ∧
    d0.badRow a0 = false
  let free := d0.unitHeld 4 (x / 4) = false
  let leaf := inner ∧ bitAt e0 0 = true ∧ bitAt e0 1 = true ∧ d0.inCells (bitsAt e0 18 14) = false
  let perf := (F.X_PERF_COUNT (x / 4) (x % 4) 3, (d0.rd (F.X_PERF_COUNT (x / 4) (x % 4) 3) + 1) % 2 ^ 32)
  let faults := fun (more : List (Fld × Nat)) => Moves (.pageWalkDone x va kind false) s fun d d' =>
    Sets d d' ([perf, (F.X_EVENTS_FAULT_EV (x / 4) (x % 4), 1), (F.MMU_EVENTS_FAULTQ_LOST, 1),
      (F.X_CNT_COUNT (x / 4) (x % 4) 7, min (d.rd (F.X_CNT_COUNT (x / 4) (x % 4) 7) + 1) (2 ^ 32 - 1)),
      (F.MMU_FAULT_CNT_CORE, min (d.rd F.MMU_FAULT_CNT_CORE + 1) 65535)] ++ more) [] ∧
      { d' with regs := d.regs } = d.setCtx x { d.ctx x with run := .faulted }
  let mayIssue := d0.running x = true ∧ d0.rd F.MMU_FAULTQ_EN = 0 ∧ free
  let walked := s.chip.walk ⟨n, w.asid, none, none⟩ va.toNat (accessOf kind)
  let locks := if n.val = 16 then 8 else 16
  let held := ((d0.tlb n).filter (·.l)).length
  let granted := kind.val = 0 ∨ kind.val = 1 ∧ bitAt e0 2 = true ∨ kind.val = 2 ∧ bitAt e0 3 = true
  (leaf → granted → free →
    Turns (.pageWalkDone x va kind spec) s fun c c' =>
      (c'.dev.tlb (x / 4)).head? = some ⟨va.toNat / 4096, w.asid, bitAt e0 8, bitsAt e0 18 14, true, bitAt e0 2,
        bitAt e0 3, bitAt e0 4 && decide (((c.dev.tlb (x / 4)).filter (·.l)).length < 16), bitAt e0 5, bitAt e0 7, a0⟩ ∧
      c'.mem.load a0 4 = e0 + (if bitAt e0 6 = true then 0 else 64) ∧ BytesBut c.mem c'.mem a0 4 ∧
      Sets c.dev c'.dev [perf] [F.MMU_EVENTS_LOCK_FULL] ∧
      { c'.dev with regs := c.dev.regs, tlbs := c.dev.tlbs } = c.dev) ∧
  (va.toNat < 0xF0000000 → d0.rd (F.MMU_ROOT_V w.asid) = 0 → mayIssue → faults []) ∧
  (rooted → bitAt e1 0 = false → mayIssue → faults []) ∧
  (inner → bitAt e0 0 = false → mayIssue → faults []) ∧
  (va.toNat < 0xF0000000 → d0.rd (F.MMU_ROOT_V w.asid) = 1 → d0.inCells root = false → d0.badRow a1 = true → mayIssue →
    faults [(F.QM_ECC_UNCORR, min (d0.rd F.QM_ECC_UNCORR + 1) 65535), (F.QM_EVENTS_ECC_UNCORR_EV, 1),
      (F.QM_ECC_ADDR_ADDR, a1 / 8 * 8 % 2 ^ 26), (F.QM_ECC_ADDR_AREA, 2)]) ∧
  -- the fill of any TLB, 0 to 15 a core's and 16 the DMA channels': the locks and what goes out
  (leaf → granted →
    walked.2.toOption.isSome = true ∧
    (walked.1.dev.tlb n).head? = some ⟨va.toNat / 4096, w.asid, bitAt e0 8, bitsAt e0 18 14, true, bitAt e0 2, bitAt e0 3,
      bitAt e0 4 && decide (held < locks), bitAt e0 5, bitAt e0 7, a0⟩ ∧
    walked.1.dev.rd F.MMU_EVENTS_LOCK_FULL =
      (if bitAt e0 4 = true ∧ locks ≤ held then 1 else d0.rd F.MMU_EVENTS_LOCK_FULL) ∧
    ((d0.tlb n).length < (if n.val = 16 then 32 else 64) → (walked.1.dev.tlb n).tail = d0.tlb n) ∧
    (∀ e ∈ d0.tlb n, e.l = true → e ∈ (walked.1.dev.tlb n).tail) ∧
    (∀ e ∈ (walked.1.dev.tlb n).tail, e ∈ d0.tlb n) ∧
    (∀ k : Fin 17, k ≠ n → walked.1.dev.tlb k = d0.tlb k)) ∧
  (¬ free → Moves (.pageWalkDone x va kind spec) s fun d d' => d' = d) ∧
  (inner → bitAt e0 0 = false → free → Moves (.pageWalkDone x va kind true) s fun d d' => Writes d d' [perf] []) ∧
  (0xF0000000 ≤ va.toNat → Moves (.pageWalkDone x va kind spec) s fun d d' => d' = d) ∧
  (d0.inv = [] → op.toNat ≠ 0 →
    Moves (.tlbInvalidate op asid) s fun d d' =>
      Sets d d' [(F.MMU_INV_OP, op.toNat), (F.MMU_INV_ASID, asid.toNat), (F.MMU_INV_BUSY, 1)] [] ∧
      d'.inv = [⟨op.toNat, asid.toNat, d.rd F.MMU_INV_VA_VA, none⟩] ∧
      { d' with regs := d.regs, inv := d.inv } = d) ∧
  (d0.inv ≠ [] →
    Moves (.tlbInvalidate op asid) s fun d d' =>
      Writes d d' [(F.MMU_INV_OP, op.toNat), (F.MMU_INV_ASID, asid.toNat), (F.MMU_EVENTS_INV_DENIED, 1)] []) ∧
  (d0.inv = i :: is →
    Moves .invDone s fun d d' =>
      d'.tlb n = (d.tlb n).filter (fun e => !i.hits e) ∧ d'.inv = is ∧
      Sets d d' [(F.MMU_INV_BUSY, bit (decide (is ≠ []))), (F.MMU_EVENTS_INV_DONE, 1)] [] ∧
      { d' with regs := d.regs, inv := d.inv, tlbs := d.tlbs, ctxs := d.ctxs } = d) ∧
  (d0.inv = i :: is → i.waiter = some (y, gen) → (d0.ctx y).stall = true → d0.generation 4 (y / 4) = gen →
    Moves .invDone s fun d d' =>
      d'.ctx y = { d.ctx y with stall := false, pc := ((d.ctx y).pc + 4) % 2 ^ 32 } ∧ CtxsBut d d' y) ∧
  (d0.inv = i :: is → i.waiter = some (y, gen) → d0.generation 4 (y / 4) ≠ gen →
    Moves .invDone s fun d d' => d'.ctxs = d.ctxs) ∧
  (d0.inv = i :: is → i.waiter = none → Moves .invDone s fun d d' => d'.ctxs = d.ctxs) ∧
  (d0.inv = [] → Moves .invDone s fun d d' => d' = d)

/-- A walk counts a miss, fills its TLB from the two entries it read and sets A, or faults, and its reply to a core in
reset is discarded; a core's TLB and the DMA channels' keep their locked entries to their limits; an invalidation
starts, is refused and completes, with the context that waits for it going on unless its core was reset meanwhile (R190,
R212, R214 to R221, R265, R442, R443). An event whose own condition does not hold leaves the state as it is (assumption
1). -/
def Pages : Prop :=
  ∀ s x va kind spec op asid n i is y gen, Live s → PagesAt s x va kind spec op asid n i is y gen

/-- The commands of channel `ch`. -/
abbrev DmaCommandAt (s : State) (ch : Fin 32) (p : Place) (c1 : Chip) (ws : List Nat) (sp : Bool) (cause va : Nat) : Prop :=
  let d0 := s.chip.dev
  let st := d0.dmaState ch
  let idle := fun (d d' : Dev) => { d' with regs := d.regs, dmas := d.dmas } = d
  let resting : Dma := ⟨[], [], none, (d0.dma ch).opens, (d0.dma ch).fault⟩
  let w6 := d0.rd (F.DMA_CUR_VA ch) + 24
  let t := Desc.of ws
  let at_ := d0.rd (F.DMA_CUR_VA ch)
  let fresh := d0.dmaState ch = 1 ∧ (d0.dma ch).cur = []
  let owner := d0.rd (F.DMA_CTL_OWNER_CORE ch) * 4 + d0.rd (F.DMA_CTL_OWNER_CTX ch)
  let unseen := d0.running owner = false ∧ d0.rd F.MMU_FAULTQ_EN = 0
  let failed := fun (d : Dev) (cause place va : Nat) =>
    [(F.DMA_STATUS_STATE ch, 2), (F.DMA_STATUS_CAUSE ch, cause % 16), (F.DMA_STATUS_WHERE ch, place),
      (F.DMA_FAULT_VA_VA ch, va % 2 ^ 32), (F.DMA_EVENTS_FAULT_EV ch, 1), (F.DMA_STATUS_DELIVERED ch, 2),
      (F.MMU_FAULT_CNT_DMA, min (d.rd F.MMU_FAULT_CNT_DMA + 1) 65535), (F.MMU_EVENTS_FAULTQ_LOST, 1)]
  let ignored := fun (i : Instr) => Moves i s fun d d' => Writes d d' [(F.DMA_EVENTS_CMD_IGNORED ch, 1)] []
  (st = 0 →
    Moves (.dmaKick ch) s fun d d' =>
      Sets d d' [(F.DMA_STATUS_STATE ch, 1), (F.DMA_CUR_VA ch, d.rd (F.DMA_DESC_VA ch) / 32 * 32),
        (F.DMA_DONE_BYTES_BYTES ch, 0)] [] ∧ d'.dma ch = resting ∧ idle d d') ∧
  (st = 1 → Moves (.dmaKick ch) s fun d d' => d' = d.setDma ch { d.dma ch with prefetch := [] }) ∧
  (st = 2 ∨ st = 3 → ignored (.dmaKick ch)) ∧
  (st = 1 → Moves (.dmaFence ch) s fun d d' => d' = d.setDma ch { d.dma ch with prefetch := [] }) ∧
  (st ≠ 1 → ignored (.dmaFence ch)) ∧
  (st = 2 → Moves (.dmaResume ch) s fun d d' => Writes d d' [(F.DMA_STATUS_STATE ch, 1)] []) ∧
  (st ≠ 2 → ignored (.dmaResume ch)) ∧
  (st = 3 → Moves (.dmaAbort ch) s fun d d' =>
    Sets d d' [(F.DMA_STATUS_STATE ch, 0), (F.DMA_EVENTS_ERR_EV ch, 0)] [] ∧ d'.dma ch = resting ∧ idle d d') ∧
  (st = 0 → Moves (.dmaAbort ch) s fun d d' => d' = d) ∧
  (st = 1 ∨ st = 2 → s.chip.reach (d0.whoDesc ch) w6 4 Access.store = (c1, .ok p) →
    Turns (.dmaAbort ch) s fun c c' =>
      Sets c.dev c'.dev [(F.DMA_STATUS_STATE ch, 0), (F.DMA_STATUS_OPEN ch, 0)] [F.MMU_EVENTS_LOCK_FULL] ∧
      c'.dev.dma ch = { resting with opens := [] } ∧
      c'.mem.load p.key 4 = (d0.rd (F.DMA_DONE_BYTES_BYTES ch) + 2 ^ 25 + 2 ^ 31) % 2 ^ 32 ∧
      BytesBut (c1.markDirty (d0.whoDesc ch) p).mem c'.mem p.key 4 ∧
      (∀ q ∈ (d0.dma ch).opens, (c'.dev.q q).openWords = [] ∧ (c'.dev.q q).packets = (c.dev.q q).packets) ∧
      ((d0.dma ch).opens = [] → c'.dev.queues = c.dev.queues ∧ c'.dev.rake = c.dev.rake) ∧
      { c'.dev with regs := c.dev.regs, dmas := c.dev.dmas, tlbs := c.dev.tlbs, queues := c.dev.queues,
                    rake := c.dev.rake } = c.dev) ∧
  (st = 1 ∨ st = 2 → s.chip.reach (d0.whoDesc ch) w6 4 Access.store = (c1, .error cause) → (d0.dma ch).opens = [] →
    Turns (.dmaAbort ch) s fun _ c' =>
      Sets c1.dev c'.dev [(F.DMA_STATUS_STATE ch, 0), (F.DMA_STATUS_OPEN ch, 0)] [] ∧
      c'.dev.dma ch = resting ∧ c'.mem = c1.mem ∧ idle c1.dev c'.dev) ∧
  -- the descriptor is fetched
  (fresh → (d0.dma ch).prefetch = [] → s.chip.readDescriptor ch at_ = (c1, .ok (ws, sp)) → t.refused = false →
    Turns (.dmaDescFetch ch) s fun c c' =>
      (c'.dev.dma ch).cur = ws ∧ (c'.dev.dma ch).prefetch.length ≤ 2 ∧ c'.dev.dmaState ch = 1 ∧
      Sets c.dev c'.dev [(F.DMA_DONE_BYTES_BYTES ch, 0)] [F.MMU_EVENTS_LOCK_FULL] ∧
      { c'.dev with regs := c.dev.regs, dmas := c.dev.dmas, tlbs := c.dev.tlbs, freeCtr := c.dev.freeCtr } = c.dev) ∧
  (fresh → (d0.dma ch).prefetch = [] → s.chip.readDescriptor ch at_ = (c1, .ok (ws, sp)) → t.refused = true →
    Turns (.dmaDescFetch ch) s fun c c' =>
      Sets c.dev c'.dev [(F.DMA_STATUS_STATE ch, 3), (F.DMA_EVENTS_ERR_EV ch, 1), (F.DMA_DONE_BYTES_BYTES ch, 0)]
        (F.MMU_EVENTS_LOCK_FULL :: eccF) ∧ (c'.dev.dma ch).cur = []) ∧
  (fresh → (d0.dma ch).prefetch = [] → s.chip.readDescriptor ch at_ = (c1, .error (cause, va)) → unseen →
    Turns (.dmaDescFetch ch) s fun c c' =>
      Sets c.dev c'.dev ((F.DMA_DONE_BYTES_BYTES ch, 0) :: failed c.dev cause 0 va) (F.MMU_EVENTS_LOCK_FULL :: eccF) ∧
      ((c.dev.dma ch).ended = none →
        (c'.dev.dma ch).fault = [cause + 112 + ch.val * 128 + c.dev.rd (F.DMA_CTL_ASID ch) * 2 ^ 20, va, 0,
          c.dev.nowNs])) ∧
  (d0.dmaState ch ≠ 1 → Turns (.dmaDescFetch ch) s fun c c' => c' = c)

/-- KICK, FENCE, RESUME and ABORT in every state of a channel, and a descriptor fetched, refused or out of reach (R225,
R227, R228, R231 to R234). RESUME outside FAULTED sets CMD_IGNORED and ABORT in IDLE does nothing (assumption 115);
ABORT of ERROR clears ERR_EV (assumption 166). An event whose own condition does not hold leaves the state as it is
(assumption 1). -/
def DmaCommand : Prop := ∀ s ch p c1 ws sp cause va, Live s → DmaCommandAt s ch p c1 ws sp cause va

/-- The work of channel `ch`, where its pages or pan memory answer. -/
abbrev DmaWorkAt (s : State) (ch : Fin 32) (c1 c2 c3 c4 : Chip) (d2 : Dev) (w : Popped) (p q r : Place)
    (pan : Fin 16) (code : Nat) (eb : Bool) : Prop :=
  let d0 := s.chip.dev
  let cur := Desc.of (d0.dma ch).cur
  let at_ := d0.rd (F.DMA_CUR_VA ch)
  let off := d0.rd (F.DMA_DONE_BYTES_BYTES ch)
  let ended := fun (c' : Chip) (st : Nat) =>
    (c'.dev.dma ch).cur = [] ∧ (c'.dev.dma ch).ended = none ∧
    c'.dev.rd (F.DMA_DONE_BYTES_BYTES ch) = (if cur.last = true then cur.len else 0) ∧
    (if cur.last = true then c'.dev.dmaState ch = st else c'.dev.rd (F.DMA_CUR_VA ch) = cur.next % 2 ^ 32)
  let busy := d0.dmaState ch = 1 ∧ (d0.dma ch).cur ≠ [] ∧ (d0.dma ch).ended = none
  let opens := (if cur.endE = true then [] else [cur.queue]) ++ (d0.dma ch).opens.filter (fun i => i != cur.queue)
  let owner := d0.rd (F.DMA_CTL_OWNER_CORE ch) * 4 + d0.rd (F.DMA_CTL_OWNER_CTX ch)
  let unseen := d0.running owner = false ∧ d0.rd F.MMU_FAULTQ_EN = 0
  let failed := fun (d : Dev) (cause place va : Nat) =>
    [(F.DMA_STATUS_STATE ch, 2), (F.DMA_STATUS_CAUSE ch, cause % 16), (F.DMA_STATUS_WHERE ch, place),
      (F.DMA_FAULT_VA_VA ch, va % 2 ^ 32), (F.DMA_EVENTS_FAULT_EV ch, 1), (F.DMA_STATUS_DELIVERED ch, 2),
      (F.MMU_FAULT_CNT_DMA, min (d.rd F.MMU_FAULT_CNT_DMA + 1) 65535), (F.MMU_EVENTS_FAULTQ_LOST, 1)]
  -- a transfer within pan memory ends, with W6 written
  (busy → cur.mode = 0 → cur.pan = some pan.val → d0.rd (F.DMA_DONE_BYTES_BYTES ch) = 0 → 0 < cur.len →
    0xF0000000 ≤ cur.src → cur.src + cur.len ≤ 0xF0040000 → 0xF0000000 ≤ cur.dst → cur.dst + cur.len ≤ 0xF0040000 →
    cur.src + cur.len ≤ cur.dst ∨ cur.dst + cur.len ≤ cur.src →
    s.chip.reach (d0.whoDesc ch) (at_ + 24) 4 Access.store = (c1, .ok p) → p.key + 4 ≤ 2 ^ 26 →
    p.entry.all (fun e => e.d) = true →
    Turns (.dmaDescComplete ch) s fun c c' =>
      c'.mem.loadBytes (panKey pan (cur.dst - 0xF0000000)) cur.len =
        c.mem.loadBytes (panKey pan (cur.src - 0xF0000000)) cur.len ∧
      c'.mem.load p.key 4 = (cur.len + 2 ^ 31) % 2 ^ 32 ∧
      Sets c.dev c'.dev
        ((F.DMA_CNT_DESCS ch, min (c.dev.rd (F.DMA_CNT_DESCS ch) + 1) (2 ^ 32 - 1)) ::
          (F.DMA_DONE_BYTES_BYTES ch, if cur.last = true then cur.len else 0) ::
          if cur.last = true then [(F.DMA_STATUS_STATE ch, 0), (F.DMA_EVENTS_CHAIN_END ch, 1), (F.DMA_DESC_VA ch, 0)]
          else [(F.DMA_CUR_VA ch, cur.next % 2 ^ 32)])
        [F.DMA_EVENTS_DONE_EV ch, F.MMU_EVENTS_LOCK_FULL] ∧
      (cur.irq = true → c'.dev.rd (F.DMA_EVENTS_DONE_EV ch) = 1) ∧ (c'.dev.dma ch).cur = [] ∧
      { c'.dev with regs := c.dev.regs, dmas := c.dev.dmas, tlbs := c.dev.tlbs } = c.dev) ∧
  -- the last byte or word of a transfer, its pages or pan memory having answered
  (busy → cur.mode = 0 → off + 1 = cur.len → s.chip.reach cur.who ((cur.src + off) % 2 ^ 32) 1 Access.load = (c1, .ok p) →
    c1.reach cur.who ((cur.dst + off) % 2 ^ 32) 1 Access.store = (c2, .ok q) → c3 = c2.storeAt cur.who q 1 (c2.mem.load p.key 1) →
    c3.reach (d0.whoDesc ch) (at_ + 24) 4 Access.store = (c4, .ok r) →
    Turns (.dmaDescComplete ch) s fun _ c' =>
      c'.mem = (c4.storeAt (d0.whoDesc ch) r 4 (cur.len + 2 ^ 31)).mem ∧ ended c' 0) ∧
  (busy → cur.mode = 1 → off + 4 = cur.len → s.chip.reach cur.who ((cur.src + off) % 2 ^ 32) 4 Access.load = (c1, .ok p) →
    c3 = c1.onDev (fun d => (d.push cur.queue ⟨BitVec.ofNat 32 (c1.mem.load p.key 4), cur.endE, cur.k⟩ none).1) →
    c3.reach (d0.whoDesc ch) (at_ + 24) 4 Access.store = (c4, .ok r) →
    Turns (.dmaDescComplete ch) s fun _ c' =>
      c'.mem = (c4.storeAt (d0.whoDesc ch) r 4 (cur.len + 2 ^ 31)).settleCells.mem ∧
      c'.dev.queues = c3.dev.queues ∧ ended c' 0 ∧ (c'.dev.dma ch).opens = opens ∧
      c'.dev.rd (F.DMA_STATUS_OPEN ch) = bit (decide (opens ≠ []))) ∧
  (busy → cur.mode = 2 → off + 4 = cur.len → s.chip.reach cur.who ((cur.dst + off) % 2 ^ 32) 4 Access.store = (c1, .ok p) →
    c1.dev.pop cur.queue = (d2, w) → w.v = true →
    c3 = (⟨d2, c1.mem⟩ : Chip).storeAt cur.who p 4 w.data.toNat →
    c3.reach (d0.whoDesc ch) (at_ + 24) 4 Access.store = (c4, .ok r) →
    Turns (.dmaDescComplete ch) s fun _ c' =>
      c'.mem = (c4.storeAt (d0.whoDesc ch) r 4 (cur.len + bit w.e * 2 ^ 24 + 2 ^ 31)).mem ∧
      c'.dev.queues = d2.queues ∧ ended c' 0) ∧
  ((d0.dma ch).cur = [] → Turns (.dmaDescComplete ch) s fun c c' => c' = c) ∧
  -- it meets a fault at its first byte
  (busy → cur.mode = 0 → cur.pan = none → 0xF0000000 ≤ cur.src → cur.src + cur.len ≤ 2 ^ 32 →
    d0.rd (F.DMA_DONE_BYTES_BYTES ch) < cur.len → unseen →
    Moves (.dmaFault ch) s fun d d' =>
      Sets d d' (failed d 5 1 (cur.src + off)) [] ∧
      d'.dma ch =
        { d.dma ch with fault := [69 + ch.val * 128 + 2 ^ 18 + cur.asid * 2 ^ 20, cur.src + off, off, d.nowNs] } ∧
      { d' with regs := d.regs, dmas := d.dmas } = d) ∧
  -- a transfer that has ended writes the W6 that its page refused before
  (d0.dmaState ch = 1 → (d0.dma ch).cur ≠ [] → (d0.dma ch).ended = some (code, eb) →
    s.chip.reach (d0.whoDesc ch) (at_ + 24) 4 Access.store = (c4, .ok r) →
    Turns (.dmaDescComplete ch) s fun c c' =>
      c'.mem = (c4.storeAt (d0.whoDesc ch) r 4 (off + bit eb * 2 ^ 24 + code * 2 ^ 25 + 2 ^ 31)).mem ∧
      (c'.dev.dma ch).cur = [] ∧ (c'.dev.dma ch).ended = none ∧ c'.dev.queues = c.dev.queues) ∧
  -- it waits at an empty queue
  (busy → cur.mode = 2 → cur.pan = some pan.val → 0xF0000000 ≤ cur.dst → cur.dst + cur.len ≤ 0xF0040000 →
    cur.dst % 4 = 0 → cur.len % 4 = 0 → d0.rd (F.DMA_DONE_BYTES_BYTES ch) % 4 = 0 →
    d0.rd (F.DMA_DONE_BYTES_BYTES ch) < cur.len → d0.rd (F.Q_CFG_EN cur.queue) = 1 →
    (d0.q cur.queue).err = false → (d0.q cur.queue).packets = [] →
    (d0.q cur.queue).epoch = (d0.q cur.queue).remembered →
    Moves (.dmaPopRetry ch) s fun d d' => d' = d.setQ cur.queue { d.q cur.queue with remembered := (d.q cur.queue).epoch })

/-- A transfer ends with its bytes moved and W6 written, a fault is recorded, and an empty queue is tried again (R225,
R227 to R232). The outcome of an ended transfer is kept, and RESUME then writes W6 alone (assumption 113). An event
whose own condition does not hold leaves the state as it is (assumption 1). -/
def DmaWork : Prop := ∀ s ch c1 c2 c3 c4 d2 w p q r pan code eb, Live s →
  DmaWorkAt s ch c1 c2 c3 c4 d2 w p q r pan code eb

/-- Tasks, halts and faulted contexts, for context `x`. -/
abbrev TasksAt (s : State) (x : Fin 64) (t : Task) (e : DmaExc) (es : List DmaExc) (f : Chip → Chip) : Prop :=
  let d0 := s.chip.dev
  let k := d0.ctx x
  let quiet := fun (c c' : Chip) =>
    { c'.dev with regs := c.dev.regs, ctxs := c.dev.ctxs, queues := c.dev.queues, rake := c.dev.rake, pool := c.dev.pool,
                  freeCtr := c.dev.freeCtr, badRows := c.dev.badRows } = c.dev ∧ (k.dmaExc = [] → c'.mem = c.mem)
  let ev := F.X_EVENTS_DMAEXC_EV (x / 4) (x % 4)
  let simple := t.ins = [] ∧ t.outs = [] ∧ k.dmaExc = []
  let halt := d0.rd (F.CORE_HALT_HALT (x / 4))
  let issued := fun (c : Chip) => if (c.fetch x).2 = true then f (c.fetch x).1 else (c.fetch x).1
  let d1 := d0.tickStart
  let calm := d1.switchDue = false ∧ d1.realignEnds = false ∧ d1.sys.lam.drain = none ∧ d0.rxOn = [] ∧ d0.txOn = []
  (k.dmaExc = e :: es → d0.canIssue x = true → k.ecause < 2 ^ 31 → k.task = some t → t.handler ≠ 0 → e.ch < 32 →
    Moves (.dmaFaultException x) s fun d d' =>
      d'.ctx x = { k with epc := k.pc, ecause := k.ecause / 32 * 32 + e.ch + 2 ^ 31, pc := t.handler, dmaExc := es } ∧
      Sets d d' [(ev, 1)] [] ∧ CtxsBut d d' x ∧ { d' with regs := d.regs, ctxs := d.ctxs } = d) ∧
  (k.dmaExc = [] ∨ 2 ^ 31 ≤ k.ecause ∧ k.ecause < 2 ^ 32 → Moves (.dmaFaultException x) s fun d d' => d' = d) ∧
  (k.run = .faulted → d0.halted x = false →
    Moves (.contextResume x) s fun d d' => d' = d.setCtx x { k with run := .ready }) ∧
  (k.run ≠ .faulted → Moves (.contextResume x) s fun d d' => Writes d d' [(F.MMU_EVENTS_CRES_STALE, 1)] []) ∧
  (k.run = .faulted → d0.halted x = false → k.task = some t →
    Turns (.contextAbort x) s fun c c' =>
      (c'.dev.ctx x).run = (if t.free = true then .off else .idle) ∧ CtxsBut c.dev c'.dev x ∧ quiet c c' ∧
      (simple → c'.dev = c.dev.setCtx x { k with run := if t.free = true then .off else .idle })) ∧
  (k.run ≠ .faulted → Moves (.contextAbort x) s fun d d' => Writes d d' [(F.MMU_EVENTS_CRES_STALE, 1)] []) ∧
  (k.task = some t → t.free = false → k.run = .ready ∨ k.run = .yielded ∨ k.run = .faulted →
    Turns (.taskDeadline x) s fun c c' =>
      (c'.dev.ctx x).run = .idle ∧ (c'.dev.ctx x).stall = false ∧ CtxsBut c.dev c'.dev x ∧ quiet c c' ∧
      c'.dev.rd (F.X_EVENTS_OVERRUN_EV (x / 4) (x % 4)) = 1 ∧
      c'.dev.rd (F.X_CNT_COUNT (x / 4) (x % 4) 2) =
        min (c.dev.rd (F.X_CNT_COUNT (x / 4) (x % 4) 2) + 1) (2 ^ 32 - 1) ∧
      c'.dev.rd (F.X_RUNTIME_MAX (x / 4) (x % 4)) = 65535 ∧
      (simple → Sets c.dev c'.dev [(F.X_EVENTS_OVERRUN_EV (x / 4) (x % 4), 1),
        (F.X_CNT_COUNT (x / 4) (x % 4) 2, min (c.dev.rd (F.X_CNT_COUNT (x / 4) (x % 4) 2) + 1) (2 ^ 32 - 1)),
        (F.X_RUNTIME_MAX (x / 4) (x % 4), 65535)] [])) ∧
  (k.run = .idle ∨ k.run = .off → Moves (.taskDeadline x) s fun d d' => d' = d) ∧
  (d0.unitHeld 4 (x / 4) = false → d0.ctxEnabled x = true → k.run = .off → s.chip.readDesc x = .good t → t.free = true →
    Moves (.taskStart x) s fun d d' =>
      (d'.ctx x).run = .ready ∧ (d'.ctx x).pc = t.entry ∧ (d'.ctx x).asid = t.asid ∧ (d'.ctx x).task = some t ∧
      (d'.ctx x).g = [] ∧ (d'.ctx x).a = [] ∧ (d'.ctx x).v = [] ∧ (d'.ctx x).fsr = 0 ∧ (d'.ctx x).ecause = 0 ∧
      (d'.ctx x).epc = 0 ∧ CtxsBut d d' x ∧ { d' with ctxs := d.ctxs } = d) ∧
  (d0.unitHeld 4 (x / 4) = false → d0.ctxEnabled x = true → k.run = .off → s.chip.readDesc x = .refused →
    Moves (.taskStart x) s fun d d' => Writes d d' [(F.X_EVENTS_DESC_ERR (x / 4) (x % 4), 1)] []) ∧
  (d0.unitHeld 4 (x / 4) = false → k.run ≠ .off → Moves (.taskStart x) s fun d d' => d' = d) ∧
  (d0.unitHeld 4 (x / 4) = false → k.task = some t → t.free = true → k.run ≠ .off →
    Turns (.taskStop x) s fun c c' =>
      (c'.dev.ctx x).run = .off ∧ (c'.dev.ctx x).stall = false ∧ (c'.dev.ctx x).outSlots = [] ∧ CtxsBut c.dev c'.dev x ∧
      quiet c c' ∧ (k.outSlots = [] → k.dmaExc = [] → c'.dev = c.dev.setCtx x { k with run := .off, stall := false })) ∧
  (d0.unitHeld 4 (x / 4) = false → k.task = some t → t.free = false → Moves (.taskStop x) s fun d d' => d' = d) ∧
  -- a release at a boundary, and pre-emption: the higher contexts of the core come first
  (calm → k.run = .idle → k.restart = false → d1.dueRelease x = some t → t.ins = [] →
    Turns .tickBoundary s fun _ c' =>
      let k' := c'.dev.ctx x
      k'.run = .ready ∧ k'.pc = t.entry ∧ k'.asid = t.asid ∧ k'.task = some t ∧ k'.g = [] ∧ k'.a = [] ∧ k'.v = [] ∧
        k'.fsr = 0 ∧ k'.ecause = 0 ∧ k'.epc = 0 ∧ k'.release = c'.dev.tick ∧ k'.lastRel = some c'.dev.tick) ∧
  (calm → k.run = .idle → k.restart = false → d1.dueRelease x = none →
    Turns .tickBoundary s fun _ c' => (c'.dev.ctx x).run = .idle) ∧
  (d0.canIssue x = false → s.chip.issue x f = s.chip) ∧
  (d0.running x = true → s.chip.issue x f = issued s.chip) ∧
  (d0.canIssue x = true → d0.running x = false →
    s.chip.issue x f = { s.chip with dev := d0.fresh.2 } ∨ s.chip.issue x f = issued { s.chip with dev := d0.fresh.2 }) ∧
  (d0.unitHeld 4 (x / 4) = false →
    Moves (.haltSet x) s fun d d' =>
      Writes d d' [(F.CORE_HALT_HALT (x / 4), if bitAt halt (x % 4) = true then halt else halt + 2 ^ (x.val % 4))] []) ∧
  (d0.unitHeld 4 (x / 4) = false →
    Moves (.haltClear x) s fun d d' =>
      Writes d d' [(F.CORE_HALT_HALT (x / 4), if bitAt halt (x % 4) = true then halt - 2 ^ (x.val % 4) else halt)] [])

/-- The DMA-fault exception, RESUME and ABORT of a faulted context, the deadline, START, STOP and HALT, the release of a
periodic task at a boundary, and who issues: the highest context of a core that may, and below it one only where those
above stall (R224, R231, R238, R240, R244, R245, R247 to R249, R256, R258, R263). An event whose own condition does not
hold leaves the state as it is (assumption 1). -/
def Tasks : Prop := ∀ s x t e es f, Live s → TasksAt s x t e es f

/-- The registers and hidden state of MAC port `p` are all that differs. -/
abbrev MacOnly (d d' : Dev) (p : Nat) : Prop :=
  { d' with regs := d.regs, net := d.net } = d ∧ { d'.net with macs := d.net.macs } = d.net ∧
    ∀ r : Fin 4, r.val ≠ p → d'.mac r = d.mac r

/-- Port `p` is `m` afterwards, but for the classes that are eligible to be sent, which are judged anew at every
command to the port (R119, R120), and nothing but registers and this port differs. -/
abbrev MacIs (d d' : Dev) (p : Nat) (m : Mac) : Prop := d'.mac p = { m with ripe := (d'.mac p).ripe } ∧ MacOnly d d' p

/-- `Sets`, or no register at all, with the port as it was. -/
abbrev MacWrites (d d' : Dev) (p : Nat) (l : List (Fld × Nat)) (may : List Fld) : Prop :=
  Sets d d' l may ∧ MacIs d d' p (d.mac p)
abbrev MacSame (d d' : Dev) (p : Nat) : Prop := { d' with net := d.net } = d ∧ MacIs d d' p (d.mac p)

/-- A counter of port `p` after it counts one (R124). -/
def macUp (d : Dev) (p k : Nat) : Fld × Nat := (F.MAC_CNT_COUNT p k, min (d.rd (F.MAC_CNT_COUNT p k) + 1) (2 ^ 32 - 1))

/-- Port `p`'s enable, link, auto-negotiation, pause and low-power idle. -/
abbrev MacLinkAt (s : State) (p : Fin 4) (line : BitVec 6) (page : BitVec 16) (cl : Fin 8) : Prop :=
  let d0 := s.chip.dev
  let m0 := d0.mac p
  let mode := if 2 ≤ p.val then 1 else d0.rd (F.MAC_CTL_MODE p)
  let one := d0.on (F.MAC_STATUS_MODE_ACTIVE p)
  let b := fun (i : Nat) => bitsAt line.toNat i 1
  let ten := fun (i : Nat) => if one = true then 0 else b i
  let done := if b 0 = 0 ∨ b 5 = 1 then 0 else d0.rd (F.MAC_STATUS_AN_DONE p)
  let up := b 0 = 1 ∧ (if one = true then m0.anEn = false ∨ done = 1 else b 1 = 0 ∧ b 2 = 0 ∧ b 3 = 0)
  let chg := fun (d d' : Dev) => (d'.rd (F.MAC_EVENTS_LINK_CHG p) =
    if d'.rd (F.MAC_STATUS_LINK_UP p) = d.rd (F.MAC_STATUS_LINK_UP p) then d.rd (F.MAC_EVENTS_LINK_CHG p) else 1)
  (d0.on (F.MAC_CTL_EN p) = false →
    Moves (.macEnable p) s fun d d' =>
      Sets d d' [(F.MAC_CTL_EN p, 1), (F.MAC_STATUS_MODE_ACTIVE p, mode), (F.MAC_STATUS_AN_DONE p, 0)] [] ∧
      MacIs d d' p { m0 with anEn := d.on (F.MAC_CTL_AN_EN p) && mode == 1, rose := d.time.raw }) ∧
  (d0.on (F.MAC_CTL_EN p) = true → Moves (.macEnable p) s fun d d' => MacSame d d' p) ∧
  (d0.on (F.MAC_CTL_EN p) = true → m0.line.isSome = true →
    Moves (.macDisable p) s fun d d' =>
      Sets d d' [(F.MAC_CTL_EN p, 0), (F.MAC_STATUS_BLOCK_LOCK p, 0), (F.MAC_STATUS_AN_DONE p, 0),
        (F.MAC_STATUS_LINK_UP p, 0)] [F.MAC_EVENTS_LINK_CHG p] ∧
      chg d d' ∧ MacIs d d' p { m0 with closing := true, fell := d.time.raw }) ∧
  (d0.on (F.MAC_CTL_EN p) = true → m0.line = none → cl.val ≠ 6 →
    d0.inPages (d0.rd (F.MAC_TXR_CFG_BASE p cl)) (32 * 2 ^ d0.rd (F.MAC_TXR_CFG_SIZE p cl)) = true →
    d0.rd (F.MAC_TXR_CFG_SIZE p cl) ≤ 12 → d0.rd (F.MAC_TXR_PTR_TAIL p cl) < 2 ^ d0.rd (F.MAC_TXR_CFG_SIZE p cl) →
    Turns (.macDisable p) s fun c c' =>
      c'.dev.txQueued p cl = 0 ∧ (c'.dev.mac p).c6 = [] ∧ (c'.dev.mac p).rel = [] ∧ c'.dev.rd (F.MAC_CTL_EN p) = 0 ∧
      c'.dev.rd (F.MAC_STATUS_LINK_UP p) = 0 ∧ chg c.dev c'.dev ∧
      { c'.dev with regs := c.dev.regs, net := c.dev.net, freeCtr := c.dev.freeCtr } = c.dev) ∧
  (d0.on (F.MAC_CTL_EN p) = false → Moves (.macDisable p) s fun d d' => MacSame d d' p) ∧
  (d0.on (F.MAC_CTL_EN p) = true →
    Moves (.linkChange p line) s fun d d' =>
      MacWrites d d' p [(F.MAC_STATUS_BLOCK_LOCK p, b 0), (F.MAC_STATUS_HI_BER p, ten 1), (F.MAC_STATUS_LOCAL_FAULT p, ten 2),
        (F.MAC_STATUS_REMOTE_FAULT p, ten 3), (F.MAC_STATUS_LPI_RX p, b 4), (F.MAC_STATUS_AN_DONE p, done),
        (F.MAC_STATUS_LINK_UP p, if up then 1 else 0)] [F.MAC_EVENTS_LINK_CHG p] ∧ chg d d') ∧
  (d0.on (F.MAC_CTL_EN p) = false → Moves (.linkChange p line) s fun d d' => MacSame d d' p) ∧
  (d0.on (F.MAC_CTL_EN p) = true → one = true → m0.anEn = true → d0.on (F.MAC_STATUS_BLOCK_LOCK p) = true →
    Moves (.anComplete p page) s fun d d' =>
      MacWrites d d' p [(F.MAC_AN_LP p, page.toNat), (F.MAC_STATUS_AN_DONE p, 1), (F.MAC_STATUS_LINK_UP p, 1)]
        [F.MAC_EVENTS_LINK_CHG p] ∧ chg d d') ∧
  (m0.pause ≤ d0.time.raw * 20 →
    Moves (.pauseExpire p) s fun d d' =>
      MacWrites d d' p [] [F.MAC_STATUS_PAUSED p] ∧ d'.on (F.MAC_STATUS_PAUSED p) = false) ∧
  (d0.time.raw * 20 < m0.pause → Moves (.pauseExpire p) s fun d d' => MacSame d d' p) ∧
  (d0.on (F.MAC_CTL_EN p) = true → d0.on (F.MAC_EEE_EN p) = true → d0.on (F.MAC_STATUS_LPI_TX p) = false →
    m0.line = none → m0.idleRaw + 500 ≤ d0.time.raw → s.chip.quiet p = true →
    Moves (.lpiEnter p) s fun d d' => MacWrites d d' p [(F.MAC_STATUS_LPI_TX p, 1), macUp d p 22] []) ∧
  (d0.on (F.MAC_STATUS_LPI_TX p) = true → d0.on (F.MAC_EEE_EN p) = false ∨ s.chip.quiet p = false →
    Moves (.lpiExit p) s fun d d' =>
      Sets d d' [(F.MAC_STATUS_LPI_TX p, 0)] [] ∧
      MacIs d d' p { m0 with wakeRaw := d.time.raw + (d.rd (F.MAC_EEE_TW_NS p) + 1) / 2 })

/-- Enable, disable, the link's condition, auto-negotiation, the end of a pause, and low-power idle (R94, R95, R114,
R122, R123). The fall of EN clears BLOCK_LOCK, AN_DONE and LINK_UP, and the line's changes are not seen while EN is 0
(assumption 197). An event whose own condition does not hold leaves the state as it is (assumption 1). -/
def MacLink : Prop :=
  ∀ s (p : Fin 4) line page cl, Live s → s.chip.dev.unitHeld 1 p = false → MacLinkAt s p line page cl

/-- A frame's words fill the chain of its cells in order, each with its tag, K = 01 and the last one with E = 1;
beside the 16 bytes of its descriptor at `a` and its cells no byte of memory changes (R103, R104). -/
abbrev FrameStored (c c' : Chip) (a : Nat) (chain words : List Nat) : Prop :=
  (∀ b, (b < a ∨ a + 16 ≤ b) → b / 256 ∉ chain → c'.mem.byte b = c.mem.byte b) ∧ c'.mem.flash = c.mem.flash ∧
    (chain.Nodup → ∀ i ∈ List.range words.length,
      c'.mem.load (256 * chain.getD (i / 64) 0 + 4 * (i % 64)) 4 = words.getD i 0 ∧
      Sparse.get (fun _ => 0) c'.dev.pool.tags (64 * chain.getD (i / 64) 0 + i % 64) =
        5 + 2 * bit (decide (i + 1 = words.length)))

/-- A frame received on port `p`, and a receive ring's tail. -/
abbrev FrameReceiveAt (s : State) (p : Fin 4) (bytes : List Byte) (sym align ovf : Bool) (bad : Option (BitVec 26))
    (ago i f b : Nat) : Prop :=
  let d0 := s.chip.dev
  let m0 := d0.mac p
  let len := bytes.length
  let fr := bytes.take (len - 4)
  let maxLen := d0.rd (F.MAC_MAX_LEN_LEN p)
  let stamp := d0.now16 - ago - signedOf 16 (d0.rd (F.TIME_PORT_INGRESS_LAT_LAT p))
  let began := d0.time.raw - ago / 32
  let on_ := m0.rose ≤ began ∧ (d0.on (F.MAC_CTL_EN p) = true ∨ began < m0.fell)
  let free := fun (r hd n : Nat) => (hd + 1) % n ≠ d0.rd (F.MAC_RXR_PTR_TAIL p r) % n ∧ (hd + 1) % n ≠ d0.tailAt p r began % n
  let good := on_ ∧ (sym || align) = false ∧ bytes.drop (len - 4) = fcsOf fr ∧ 64 ≤ len ∧ len ≤ maxLen ∧
    etherType fr ≠ 0x8100 ∧ etherType fr ≠ 0x88A8
  let filtered := d0.filtHit p fr = some i ∧ (fieldAt fr 0 6 = 2 ^ 48 - 1 → d0.on (F.MAC_CTL_BCAST_ACCEPT p) = false)
  let n := d0.rxSize p 1
  let head := d0.rd (F.MAC_RXR_PTR_HEAD p 1) % n
  let a := d0.rd (F.MAC_RXR_CFG_BASE p 1) + 16 * head
  let n0 := d0.rxSize p 0
  let h0 := d0.rd (F.MAC_RXR_PTR_HEAD p 0) % n0
  let a0 := d0.rd (F.MAC_RXR_CFG_BASE p 0) + 16 * h0
  let cells := (fr.length + 255) / 256
  let words := wordsOf ((fr.length + 3) / 4) fr
  let chain := (d0.takeCells (.port p) (.ring p) cells).1
  let chain0 := (d0.fresh.2.takeCells (.port p) (.ring p) cells).1
  let room := ovf = false ∧ d0.ingressFill p + fr.length ≤ 32768
  let fcsErr := if bad.isSome = true then 2 ^ 22 else 0
  let ecc := match bad with
    | none => []
    | some x => [(F.QM_ECC_UNCORR, min (d0.rd F.QM_ECC_UNCORR + 1) 65535), (F.QM_EVENTS_ECC_UNCORR_EV, 1),
        (F.QM_ECC_ADDR_ADDR, x.toNat / 8 * 8), (F.QM_ECC_ADDR_AREA, 0)]
  let quantum := if d0.on (F.MAC_STATUS_MODE_ACTIVE p) = true then 5120 else 512
  let rows := fun (d : Dev) => match bad with
    | none => d.badRows
    | some x => if d.badRows.contains (x.toNat / 8 * 8) then d.badRows else x.toNat / 8 * 8 :: d.badRows
  let rx := fun (l : List (Nat × Nat)) => Moves (.frameReceive p bytes ⟨sym, align⟩ ovf bad ago) s fun d d' =>
    MacWrites d { d' with badRows := d.badRows } p
      (l.map (fun q => if q.1 = 0 then macUp d p q.2 else (F.MAC_EVENTS_OVF p, 1)) ++ ecc) [] ∧ d'.badRows = rows d
  (¬ on_ → Moves (.frameReceive p bytes ⟨sym, align⟩ ovf bad ago) s fun d d' => MacSame d d' p) ∧
  (on_ → len < 14 → rx [(0, 1)]) ∧
  (on_ → 14 ≤ len → d0.on (F.MAC_CTL_DELIVER_BAD p) = false → sym = true → rx [(0, 6)]) ∧
  (on_ → 14 ≤ len → d0.on (F.MAC_CTL_DELIVER_BAD p) = false → sym = false → align = true → rx [(0, 5)]) ∧
  (on_ → 14 ≤ len → d0.on (F.MAC_CTL_DELIVER_BAD p) = false → (sym || align) = false →
    bytes.drop (len - 4) ≠ fcsOf fr → rx [(0, 4)]) ∧
  (on_ → 14 ≤ len → d0.on (F.MAC_CTL_DELIVER_BAD p) = false → (sym || align) = false →
    bytes.drop (len - 4) = fcsOf fr → len < 64 → rx [(0, 2)]) ∧
  (on_ → 64 ≤ len → d0.on (F.MAC_CTL_DELIVER_BAD p) = false → (sym || align) = false →
    bytes.drop (len - 4) = fcsOf fr → maxLen < len → rx [(0, 3)]) ∧
  (on_ → 14 ≤ len → d0.on (F.MAC_CTL_DELIVER_BAD p) = true → sym = true → d0.net.draining = false →
    free 1 head n → (min len maxLen + 255) / 256 ≤ d0.rd (F.MAC_POOL_FREE p) →
    d0.inPages a 16 = true → maxLen < 2 ^ 14 → a % 16 = 0 → 0 < d0.rd F.QM_REGION_CELLS →
    Turns (.frameReceive p bytes ⟨sym, align⟩ ovf bad ago) s fun c c' =>
      c'.mem.load a 4 / 65536 % 2 ^ 14 = min len maxLen ∧ c'.mem.load a 4 / 2 ^ 30 = 3 ∧
      bitAt (c'.mem.load (a + 8) 4) 24 = true ∧ c'.dev.rd (F.MAC_RXR_PTR_HEAD p 1) = (head + 1) % n ∧
      c'.dev.rd (F.MAC_CNT_COUNT p 6) = (macUp c.dev p 6).2 ∧ c'.dev.rd (F.MAC_EVENTS_RXR1_FRAME p) = 1) ∧
  (good → d0.filtHit p fr = none → fieldAt fr 0 6 ≠ 2 ^ 48 - 1 → d0.flowHit p fr none = none → rx [(0, 7)]) ∧
  (good → filtered → ¬room → rx [(0, 10), (1, 0)]) ∧
  (good → filtered → room → etherType fr = 0x8808 → fieldAt fr 14 2 = 1 →
    d0.on (F.MAC_CTL_PAUSE_IGNORE p) = false →
    Moves (.frameReceive p bytes ⟨sym, align⟩ ovf bad ago) s fun d d' =>
      Sets d d' ([macUp d p 0, macUp d p 11, (F.MAC_STATUS_PAUSED p, if fieldAt fr 16 2 = 0 then 0 else 1)] ++ ecc) [] ∧
      d'.badRows = rows d ∧
      MacIs d { d' with badRows := d.badRows } p { m0 with pause := d.time.raw * 20 + fieldAt fr 16 2 * quantum }) ∧
  (good → room → etherType fr ≠ 0x8808 → ptpAt fr = none → d0.flowHit p fr none = some (f, b) →
    d0.net.draining = false → (fieldAt fr 0 6 = 2 ^ 48 - 1 → d0.on (F.MAC_CTL_BCAST_ACCEPT p) = false) →
    Moves (.frameReceive p bytes ⟨sym, align⟩ ovf bad ago) s fun d d' =>
      Sets d d' ([macUp d p 0, macUp d p 15] ++ ecc) [] ∧
      d'.net.ingress = d.net.ingress ++ [⟨f, b, fr, stamp, p, d.tick⟩] ∧
      d'.badRows = rows d ∧
      MacIs d { d' with badRows := d.badRows, net := { d'.net with ingress := d.net.ingress } } p m0) ∧
  -- a ring that was full when the frame began, or is full at its end, drops it whole
  (good → filtered → room → etherType fr ≠ 0x8808 → ptpAt fr = none → d0.flowHit p fr none = none → ¬ free 1 head n →
    Moves (.frameReceive p bytes ⟨sym, align⟩ ovf bad ago) s fun d d' =>
      MacWrites d { d' with badRows := d.badRows } p
        ([macUp d p 0, macUp d p 16, macUp d p 9, (F.MAC_EVENTS_RING_FULL p, 1)] ++ ecc) [] ∧ d'.badRows = rows d) ∧
  (good → filtered → room → etherType fr ≠ 0x8808 → ptpAt fr = none → d0.flowHit p fr none = none →
    d0.net.draining = false → free 1 head n → cells ≤ d0.rd (F.MAC_POOL_FREE p) →
    d0.inPages a 16 = true → maxLen < 2 ^ 14 → a % 16 = 0 → 0 < d0.rd F.QM_REGION_CELLS →
    Turns (.frameReceive p bytes ⟨sym, align⟩ ovf bad ago) s fun c c' =>
      c'.mem.load a 4 = (chain.headD 0 + fr.length * 2 ^ 16 + 2 ^ 31) % 2 ^ 32 ∧
      c'.mem.load (a + 4) 4 = lowOf 32 (stamp / 16) ∧ c'.mem.load (a + 8) 4 = lowOf 4 stamp + fcsErr ∧
      c'.mem.load (a + 12) 4 = (i + 32 + (m0.seq1 + 1) % 65536 * 65536) ∧ FrameStored c c' a chain words ∧
      Sets c.dev c'.dev ([macUp c.dev p 0, macUp c.dev p 16, (F.MAC_EVENTS_RXR1_FRAME p, 1),
        (F.MAC_RXR_PTR_HEAD p 1, (head + 1) % n), (F.MAC_POOL_FREE p, c.dev.rd (F.MAC_POOL_FREE p) - cells)] ++ ecc) [] ∧
      MacIs c.dev { c'.dev with freeCtr := c.dev.freeCtr, pool := c.dev.pool, badRows := c.dev.badRows } p
        { m0 with rx := m0.rx ++ [⟨1, head, chain, words⟩], seq1 := (m0.seq1 + 1) % 65536 }) ∧
  (good → filtered → room → (ptpAt fr).isSome = true → d0.on (F.TIME_PORT_PTP_CTL_ASYM_EN p) = false →
    d0.net.draining = false → free 0 h0 n0 → cells ≤ d0.rd (F.MAC_POOL_FREE p) →
    d0.inPages a0 16 = true → a0 % 16 = 0 → 0 < d0.rd F.QM_REGION_CELLS →
    Turns (.frameReceive p bytes ⟨sym, align⟩ ovf bad ago) s fun c c' =>
      c'.mem.load a0 4 = (chain0.headD 0 + fr.length * 2 ^ 16 + 2 ^ 31) % 2 ^ 32 ∧
      c'.mem.load (a0 + 4) 4 = lowOf 32 (stamp / 16) ∧ c'.mem.load (a0 + 8) 4 = lowOf 4 stamp + fcsErr ∧
      FrameStored c c' a0 chain0 words ∧
      Sets c.dev c'.dev ([macUp c.dev p 0, macUp c.dev p 14, (F.MAC_EVENTS_RXR0_FRAME p, 1),
        (F.MAC_RXR_PTR_HEAD p 0, (h0 + 1) % n0), (F.MAC_POOL_FREE p, c.dev.rd (F.MAC_POOL_FREE p) - cells)] ++ ecc) [] ∧
      MacIs c.dev { c'.dev with freeCtr := c.dev.freeCtr, pool := c.dev.pool, badRows := c.dev.badRows } p
        { m0 with rx := m0.rx ++ [⟨0, h0, chain0, words⟩], seq0 := (m0.seq0 + 1) % 65536 })

/-- A received frame is counted by its error, discarded, taken as a pause, passed to the flow engine or written to a
ring with its descriptor (R96 to R101, R103, R104, R107, R109, R114, R123, R124, R190). SEQ counts the frame itself
(assumption 159), the FCS is Ethernet's (assumption 126), and a frame that began before EN rose is not received
(assumption 197). -/
def FrameReceive : Prop :=
  ∀ s (p : Fin 4) bytes sym align ovf bad ago i f b, Live s → s.chip.dev.unitHeld 1 p = false →
    FrameReceiveAt s p bytes sym align ovf bad ago i f b

/-- The rings of port `p`: tails, a start, an end and a launch time that has passed. `sent` is the frame as it goes
out: an uncorrectable error cuts it at a place that is free, and inverts its FCS. -/
abbrev MacRingAt (s : State) (p : Fin 4) (r : Fin 2) (cl : Fin 8) (tail : BitVec 12) (sfd : Nat) (ecc : Bool)
    (l : OnLine) (b : Nat) : Prop :=
  let d0 := s.chip.dev
  let m0 := d0.mac p
  let n := d0.rxSize p r
  let old := d0.rd (F.MAC_RXR_PTR_TAIL p r) % n
  let held := (d0.rd (F.MAC_RXR_PTR_HEAD p r) + n - old) % n
  let moved := (tail.toNat + n - old) % n
  let gone := fun (x : RxFrame) => x.ring = r.val ∧ (x.idx + n - old) % n < moved
  let h := s.chip.head p cl
  let top := ∀ k : Fin 8, cl < k → s.chip.head p k = .none
  let ready := d0.mayStart p = true ∧ h ≠ .none ∧ top
  let a := d0.txDesc p cl
  let sent := if ecc = true then { l with bytes := cutFrame l.bytes d0.fresh.1 } else l
  let next := (d0.rd (F.MAC_TXR_PTR_HEAD p cl) + 1) % 2 ^ d0.rd (F.MAC_TXR_CFG_SIZE p cl)
  let completes := fun (c c' : Chip) (status : Nat) =>
    c'.mem.load (a + 4) 4 = c.mem.load (a + 4) 4 % 2 ^ 31 + 2 ^ 31 ∧
    c'.mem.load (a + 24) 4 / 16 = status ∧ BytesBut c.mem c'.mem (a + 4) 24 ∧
    c'.dev.rd (F.MAC_TXR_PTR_HEAD p cl) = next ∧
    (bitAt (c.mem.load (a + 4) 4) 19 = true → c'.dev.rd (F.MAC_EVENTS_TX_DONE p) = 1) ∧
    { c'.dev with regs := c.dev.regs, net := c.dev.net, freeCtr := c.dev.freeCtr, badRows := c.dev.badRows } = c.dev
  let failed := fun (d : Dev) => [(F.QM_ECC_UNCORR, min (d.rd F.QM_ECC_UNCORR + 1) 65535),
    (F.QM_EVENTS_ECC_UNCORR_EV, 1), (F.QM_ECC_ADDR_AREA, 2)]
  (tail.toNat < n → moved ≤ held →
    Moves (.rxrTailWrite p r tail) s fun d d' =>
      Sets d d' [(F.MAC_RXR_PTR_TAIL p r, tail.toNat)] [] ∧
      d'.rake = d.rake ++ (m0.rx.filter fun x => gone x).map (fun x => ⟨.ring p, x.cells⟩) ∧
      MacIs d { d' with rake := d.rake } p { m0 with
        rx := m0.rx.filter fun x => ¬ gone x,
        tails := (d.time.raw, r.val, old) :: m0.tails.filter fun e => decide (d.time.raw ≤ e.1 + 2 ^ 17) }) ∧
  (n ≤ tail.toNat ∨ held < moved →
    Moves (.rxrTailWrite p r tail) s fun d d' => MacWrites d d' p [(F.MAC_EVENTS_RING_ERR p, 1)] []) ∧
  (cl.val ≠ 6 →
    Moves (.txrTailWrite p cl tail) s fun d d' =>
      Sets d d' [(F.MAC_TXR_PTR_TAIL p cl, tail.toNat)] [F.MAC_EVENTS_RING_ERR p] ∧ MacOnly d d' p) ∧
  (ready → s.chip.headRefused p cl h = none → s.chip.clearToStart p cl h = true → s.chip.launched h = true →
    s.chip.tooLate p cl h = false →
    Moves (.frameTransmitStart p sfd) s fun d d' =>
      (d'.mac p).line.isSome = true ∧
      (d'.mac p).line.map (·.cls) = some cl.val ∧
      (d'.mac p).line.map (·.stamp) = some (d.now16 + sfd + signedOf 16 (d.rd (F.TIME_PORT_EGRESS_LAT_LAT p))) ∧
      Sparse.get (fun _ => 0) (d'.mac p).rel cl = Sparse.get (fun _ => 0) m0.rel cl - 1 ∧
      (cl.val = 6 → (d'.mac p).c6 = m0.c6.drop 1) ∧ (cl.val ≠ 6 → (d'.mac p).c6 = m0.c6) ∧
      { d' with regs := d.regs, net := d.net } = d) ∧
  (ready → s.chip.headRefused p cl h = some 3 → cl.val ≠ 6 → a + 32 ≤ 2 ^ 26 →
    Turns (.frameTransmitStart p sfd) s fun c c' =>
      completes c c' 3 ∧ (c'.dev.mac p).line = none ∧
      c'.dev.rd (F.MAC_CNT_COUNT p 20) = min (c.dev.rd (F.MAC_CNT_COUNT p 20) + 1) (2 ^ 32 - 1)) ∧
  (d0.mayStart p = false → Moves (.frameTransmitStart p sfd) s fun d d' => MacSame d d' p) ∧
  (m0.line = some l → l.desc = none → l.cls = cl.val → cl.val ≠ 6 → m0.closing = false → a + 32 ≤ 2 ^ 26 →
    Turns (.frameTransmitDone p ecc) s fun c c' =>
      completes c c' (if ecc = true then 4 else 0) ∧ (c'.dev.mac p).line = none ∧ (c'.dev.mac p).last = some sent ∧
      (c'.dev.mac p).idleRaw = c.dev.time.raw ∧
      (bitAt (c.mem.load (a + 4) 4) 14 = true →
        c'.mem.load (a + 20) 4 = lowOf 32 (l.stamp / 16) ∧ c'.mem.load (a + 24) 4 % 16 = lowOf 4 l.stamp) ∧
      c'.dev.rd (F.MAC_CNT_COUNT p 17) =
        (if ecc = true then c.dev.rd (F.MAC_CNT_COUNT p 17) else min (c.dev.rd (F.MAC_CNT_COUNT p 17) + 1) (2 ^ 32 - 1)) ∧
      (ecc = true → ∀ f ∈ failed c.dev, c'.dev.rd f.1 = f.2) ∧ (ecc = false → c'.dev.badRows = c.dev.badRows)) ∧
  -- a frame whose ring was flushed while it went out: its descriptor is completed, and no ring moves
  (m0.line = some l → l.desc = some b → m0.closing = false → b + 32 ≤ 2 ^ 26 →
    Turns (.frameTransmitDone p ecc) s fun c c' =>
      c'.mem.load (b + 4) 4 = c.mem.load (b + 4) 4 % 2 ^ 31 + 2 ^ 31 ∧
      c'.mem.load (b + 24) 4 / 16 = (if ecc = true then 4 else 0) ∧ BytesBut c.mem c'.mem (b + 4) 24 ∧
      (∀ k : Fin 8, c'.dev.rd (F.MAC_TXR_PTR_HEAD p k) = c.dev.rd (F.MAC_TXR_PTR_HEAD p k) ∧
        c'.dev.rd (F.MAC_TXR_PTR_TAIL p k) = c.dev.rd (F.MAC_TXR_PTR_TAIL p k)) ∧ (c'.dev.mac p).line = none) ∧
  (m0.line = some l → l.desc = none → l.cls = 6 → m0.closing = false →
    Moves (.frameTransmitDone p ecc) s fun d d' =>
      Sets d d' (if ecc = true then failed d else [macUp d p 17]) (if ecc = true then [F.QM_ECC_ADDR_ADDR] else []) ∧
      MacIs d { d' with freeCtr := d.freeCtr, badRows := d.badRows } p
        { m0 with line := none, last := some sent, idleRaw := d.time.raw }) ∧
  (m0.line = none → Moves (.frameTransmitDone p ecc) s fun d d' => MacSame d d' p) ∧
  (d0.on (F.MAC_CTL_EN p) = true → h ≠ .none → s.chip.tooLate p cl h = true → d0.on (F.MAC_STATUS_LINK_UP p) = false →
    cl.val ≠ 6 → a + 32 ≤ 2 ^ 26 →
    Turns (.launchTimeReached p cl) s fun c c' =>
      completes c c' 1 ∧ c'.dev.rd (F.MAC_EVENTS_LATE_DROP p) = 1 ∧
      c'.dev.rd (F.MAC_CNT_COUNT p 18) = min (c.dev.rd (F.MAC_CNT_COUNT p 18) + 1) (2 ^ 32 - 1)) ∧
  (s.chip.tooLate p cl h = false ∨ h = .none → Moves (.launchTimeReached p cl) s fun d d' => MacSame d d' p) ∧
  -- which classes are eligible is judged after every command to the port
  (d0.time.raw * 20 < m0.pause →
    Moves (.pauseExpire p) s fun d d' =>
      ((d'.mac p).ripe.contains cl.val = true ↔ h ≠ .none ∧ d.on (F.MAC_STATUS_LINK_UP p) = true ∧
        s.chip.launched h = true ∧ s.chip.clearToStart p cl h = true ∧ s.chip.tooLate p cl h = false) ∧
      MacSame d d' p)

/-- Released and queued descriptors, a frame's start, its refusal, its end with status and stamp, and a launch missed
(R106, R111 to R113, R118 to R120, R123, R190). -/
def MacRing : Prop :=
  ∀ s (p : Fin 4) r cl tail sfd ecc l b, Live s → s.chip.dev.unitHeld 1 p = false →
    MacRingAt s p r cl tail sfd ecc l b

/-- The gate lists of port `p`. -/
abbrev GatesAt (s : State) (p : Fin 4) (g : Gcl) (i : Fin 64) (cl : Fin 8) : Prop :=
  let d0 := s.chip.dev
  let m0 := d0.mac p
  let n := min 64 (max 1 (d0.rd (F.MAC_GCL_CTL_COUNT p)))
  let cyc := min 1000000000 (max 1000 (d0.rd (F.MAC_GCL_CYCLE_NS p)))
  let base := signedOf 64 m0.gclBase
  let phase := ((d0.now10 - g.base * 10) % (g.cycle * 10)).toNat
  let into := fun (k : Nat) => ((g.entries.take k).map (fun e => e.2 * 10)).sum
  let loads := fun (en : Nat) (d d' : Dev) =>
    Sets d d' [(F.MAC_GCL_CTL_EN p, en), (F.MAC_GCL_STATUS_PENDING p, 1)] [] ∧
    (d'.mac p).gclOp = m0.gclOp ∧ (d'.mac p).gclPend.isSome = true ∧
    (d'.mac p).gclPend.map (fun x => (x.entries.length, x.cycle, x.base)) = some (n, cyc, base) ∧
    (i.val < n → (d'.mac p).gclPend.map (fun x => x.entries[i.val]?) =
      some (some (d.rd (F.MAC_GCL_ENTRY_MASK_GATES p i), d.rd (F.MAC_GCL_ENTRY_INTERVAL_NS p i)))) ∧
    (d'.mac p).gclPend.all (fun x => decide ((x.start - base) % (cyc : Int) = 0) && decide (base ≤ x.start) &&
      decide (d.corrAt d.time.raw ≤ x.start * 2 ^ 40) &&
      decide (x.start = base ∨ (x.start - cyc) * 2 ^ 40 < d.corrAt d.time.raw)) = true ∧
    { d'.mac p with gclPend := m0.gclPend, ripe := m0.ripe } = m0 ∧ MacOnly d d' p
  (d0.on (F.MAC_GCL_CTL_EN p) = false → Moves (.gclLoad p true) s (loads 1)) ∧
  (d0.on (F.MAC_GCL_CTL_EN p) = true → Moves (.gclLoad p true) s fun d d' => MacSame d d' p) ∧
  Moves (.gclLoad p false) s (loads (d0.rd (F.MAC_GCL_CTL_EN p))) ∧
  (m0.gclPend = some g → g.start * 2 ^ 40 ≤ d0.corrAt d0.time.raw →
    Moves (.gclSwitch p) s fun d d' =>
      Sets d d' [(F.MAC_GCL_STATUS_PENDING p, 0)] [F.MAC_GCL_STATUS_ENTRY p] ∧
      MacIs d d' p { m0 with gclOp := some g, gclPend := none }) ∧
  (m0.gclPend = some g → d0.corrAt d0.time.raw < g.start * 2 ^ 40 → Moves (.gclSwitch p) s fun d d' => MacSame d d' p) ∧
  (m0.gclOp = some g → d0.on (F.MAC_GCL_CTL_EN p) = true →
    Moves (.gclEntryAdvance p) s fun d d' =>
      MacWrites d d' p [(F.MAC_GCL_STATUS_ENTRY p, (g.sample d.now10).1 % 64)] []) ∧
  (m0.gclOp = none → Moves (.gclEntryAdvance p) s fun d d' => MacSame d d' p) ∧
  -- which gates are open: those of the mask of the entry that the instant falls in, the last entry held to the cycle's end
  (d0.on (F.MAC_GCL_CTL_EN p) = true → m0.gclOp = some g → m0.gclPend = none → i.val < g.entries.length → 0 < g.cycle →
    into i ≤ phase →
    (phase < into (i + 1) ∨ i.val + 1 = g.entries.length) →
    (d0.gateNow p cl d0.now10).1 = bitAt (g.entries.getD i (0, 0)).1 cl ∧
    Moves (.gclEntryAdvance p) s fun d d' => MacWrites d d' p [(F.MAC_GCL_STATUS_ENTRY p, i.val)] []) ∧
  (d0.on (F.MAC_GCL_CTL_EN p) = false ∨ m0.gclOp = none ∧ m0.gclPend = none → (d0.gateNow p cl d0.now10).1 = true)

/-- A gate list becomes pending with its first cycle start, then the operating one, and its entry advances with the
masks that open the gates (R115, R116). That every gate is open before a first list takes over is the model's choice
(assumption 199). COUNT and CYCLE are cut to their ranges when the list is taken (assumption 198), and LOAD with EN 0
makes the list pending too (assumption 89). An event whose own condition does not hold leaves the state as it is
(assumption 1). -/
def Gates : Prop := ∀ s (p : Fin 4) g i cl, Live s → s.chip.dev.unitHeld 1 p = false → GatesAt s p g i cl

/-- The fields of shadowing and of the alignment groups, which every enabled receive flow bears on (R127, R140). -/
def shareF : List Fld :=
  (List.range 128).flatMap (fun f => [F.RXF_STATUS_SHADOWED f, F.RXF_EVENTS_SHADOW_EV f]) ++
    (List.range 16).flatMap fun g =>
      [F.GRP_STATUS_OFFSET_MISMATCH g, F.GRP_EVENTS_MISMATCH_EV g, F.GRP_STATUS_MEMBERS g, F.GRP_OFFSET_CYC_CYCLES g]

/-- Flow `f`'s receive state, the network side's only change. -/
abbrev RxOnly (d d' : Dev) (f g : Nat) : Prop :=
  { d'.net with rxs := d.net.rxs } = d.net ∧ (g ≠ f → d'.rxf g = d.rxf g)

/-- A flow's counter after it counts `n`. -/
def rxUp (d : Dev) (f k n : Nat) : Fld × Nat := (F.RXF_CNT_COUNT f k, min (d.rd (F.RXF_CNT_COUNT f k) + n) (2 ^ 32 - 1))

/-- Only registers, the network side, the queues and the routes' hidden state differ. -/
abbrev RouteNetOnly (d d' : Dev) : Prop :=
  { d' with regs := d.regs, net := d.net, routePend := d.routePend, routeFresh := d.routeFresh, txOld := d.txOld,
            queues := d.queues } = d

/-- Enabling, clearing and disabling receive flow `f`, its path `b`'s deadline; enabling and disabling transmit flow
`f`. -/
abbrev FlowControlAt (s : State) (f : Fin 128) (b : Fin 2) (v : BitVec 16) (k : RxCfg) (s0 dl : Int) (g i : Nat) : Prop :=
  let d0 := s.chip.dev
  let c := d0.rxCfg f
  let t := d0.txCfg f
  let load := rxLoad ((f, c) :: d0.rxOn)
  let tload := txLoad ((f, t) :: d0.txOn)
  let p := if b.val = 0 then (d0.rxf f).a else (d0.rxf f).b
  let states := [F.RXF_STATUS_STATE_A f, F.RXF_STATUS_STATE_B f, F.RXF_STATUS_STATE f]
  let ticks := d0.rd (F.RXF_TIMEOUT_TICKS f)
  let past := p.due = some (s0, dl) ∧ (d0.sysCycles 2480 : Int) ≤ d0.cyclesSince dl ∧ d0.net.ingress = [] ∧
    d0.rd (pathState f b) = 2
  let lost := fun (d d' : Dev) => d'.rd (F.RXF_EVENTS_LOST_EV f) = 1 ∧ d'.rd (rxUp d f 13 1).1 = (rxUp d f 13 1).2 ∧
    Sets d d' [] ((rxUp d f 13 1).1 :: F.RXF_EVENTS_LOST_EV f :: F.RXF_EVENTS_RESUMED_EV f :: states) ∧ RxOnly d d' f g ∧
    { d' with regs := d.regs, net := d.net } = d
  ((d0.rxf f).cfg = none → d0.rxBad f = false → load.1 ≤ 1024 → load.2 ≤ 2048 →
    Moves (.rxfEnable f) s fun d d' =>
      d'.rxf f = { RxFlow.init with cfg := some c } ∧ d'.rd (F.RXF_CTL_EN f) = 1 ∧
      d'.rd F.FLOW_STATUS_RX_CH = load.1 ∧ RxOnly d d' f g ∧ RouteNetOnly d d' ∧
      (i < c.ch → d'.rd (F.ROUTE_E_Q (epRx f i)) = c.qbase + i)) ∧
  ((d0.rxf f).cfg = none → d0.rxBad f = true ∨ 1024 < load.1 ∨ 2048 < load.2 →
    Moves (.rxfEnable f) s fun d d' => Writes d d' [(F.RXF_CTL_EN f, 0), (F.RXF_EVENTS_CFG_ERR f, 1)] []) ∧
  ((d0.rxf f).cfg = some k → Moves (.rxfEnable f) s fun d d' => d' = d) ∧
  ((d0.rxf f).cfg = some k → d0.on (F.RXF_STATUS_READY f) = false →
    Turns (.rxfReady f) s fun m m' =>
      Sets m.dev m'.dev ([(F.RXF_STATUS_READY f, 1), (F.RXF_STATUS_STATE_A f, 1)] ++
        if k.dual = true then [(F.RXF_STATUS_STATE_B f, 1)] else []) [F.RXF_STATUS_STATE f] ∧
      m'.dev.rxf f = { m.dev.rxf f with since := m.dev.tick + 1 } ∧ RxOnly m.dev m'.dev f g ∧
      (i < k.len * k.ch → (m'.mem.byte (k.ring + 4 * i + 3)).toNat = (m.mem.byte (k.ring + 4 * i + 3)).toNat % 128) ∧
      BytesBut m.mem m'.mem k.ring (4 * (k.len * k.ch)) ∧ { m'.dev with regs := m.dev.regs, net := m.dev.net } = m.dev) ∧
  ((d0.rxf f).cfg = some k →
    Moves (.rxfDisable f) s fun d d' =>
      d'.rxf f = RxFlow.init ∧ Sets d d' [(F.RXF_CTL_EN f, 0), (F.RXF_STATUS_READY f, 0), (F.RXF_STATUS_STATE_A f, 0),
        (F.RXF_STATUS_STATE_B f, 0), (F.RXF_STATUS_STATE f, 0)] (F.FLOW_STATUS_RX_CH :: shareF) ∧
      RxOnly d d' f g ∧ { d' with regs := d.regs, net := d.net } = d) ∧
  ((d0.rxf f).cfg = none → Moves (.rxfDisable f) s fun d d' => Writes d d' [(F.RXF_CTL_EN f, 0)] []) ∧
  (past → p.later = false →
    Moves (.pathDeadline f b) s fun d d' =>
      lost d d' ∧ d'.rd (pathState f b) = 3 ∧
      (if b.val = 0 then (d'.rxf f).a else (d'.rxf f).b) = { p with due := none }) ∧
  (past → p.later = true → 0 < ticks →
    Moves (.pathDeadline f b) s fun d d' =>
      lost d d' ∧ d'.rd (pathState f b) = 2 ∧ d'.rd (F.RXF_EVENTS_RESUMED_EV f) = 1 ∧
      (if b.val = 0 then (d'.rxf f).a else (d'.rxf f).b) =
        { p with due := some (p.sLast.getD 0, p.sLast.getD 0 + ticks * 2000000), later := false }) ∧
  (p.due = none → Moves (.pathDeadline f b) s fun d d' => d' = d) ∧
  (p.due = some (s0, dl) → d0.cyclesSince dl < d0.sysCycles 2480 → Moves (.pathDeadline f b) s fun d d' => d' = d) ∧
  ((d0.txf f).cfg = none → d0.txBad f = false → tload.1 ≤ 1024 → tload.2 ≤ 2048 →
    Moves (.txfEnable f) s fun d d' =>
      (d'.txf f).cfg = some t ∧ (d'.txf f).since = d.tick + 2 ∧ (d'.txf f).cur = none ∧ d'.rd (F.TXF_CTL_EN f) = 1 ∧
      d'.rd F.FLOW_STATUS_TX_CH = tload.1 ∧ (g ≠ f.val → d'.txf g = d.txf g) ∧ { d'.net with txs := d.net.txs } = d.net ∧
      (i < t.ch → d'.rd (F.ROUTE_E_Q (epTx f i)) = d.rd (F.TXF_QBASE_Q f) + i) ∧
      RouteNetOnly d { d' with freeCtr := d.freeCtr }) ∧
  ((d0.txf f).cfg = none → d0.txBad f = true ∨ 1024 < tload.1 ∨ 2048 < tload.2 →
    Moves (.txfEnable f) s fun d d' => Writes d d' [(F.TXF_CTL_EN f, 0), (F.TXF_EVENTS_CFG_ERR f, 1)] []) ∧
  ((d0.txf f).cfg.isSome = true → Moves (.txfEnable f) s fun d d' => d' = d) ∧
  Moves (.txfDisable f) s (fun d d' =>
    d'.txf f = TxFlow.init ∧ Sets d d' [(F.TXF_CTL_EN f, 0), (F.TXF_STATUS_RUNNING f, 0)] [F.FLOW_STATUS_TX_CH] ∧
    (g ≠ f.val → d'.txf g = d.txf g) ∧ { d'.net with txs := d.net.txs } = d.net ∧
    { d' with regs := d.regs, net := d.net } = d) ∧
  Moves (.txfSeqWrite f v) s (fun d d' => Writes d d' [(F.TXF_SEQ_NEXT f, v.toNat)] [])

/-- Receive and transmit flows are enabled, refused, readied and disabled, a path is lost, and SEQ.NEXT is written
(R131, R136, R143, R146, R148, R305). A transmit flow begins two ticks after the tick of the write (assumption 136), a
receive flow takes packets from the next tick on (assumption 137). An event whose own condition does not hold leaves the
state as it is (assumption 1). -/
def FlowControl : Prop :=
  ∀ s (f : Fin 128) b v k s0 dl g i, Live s →
    s.chip.dev.unitHeld 2 f = false → s.chip.dev.unitHeld 3 f = false → FlowControlAt s f b v k s0 dl g i

/-- The first waiting frame `x` of a receive flow, its settings `k`, its packet `p` and its sample frames. -/
abbrev FlowPacketAt (s : State) (x : FlowFrame) (rest : List FlowFrame) (k : RxCfg) (p : Parsed)
    (frames : List (List Int)) (bad : Nat) (xs : List Int) (g : Nat) (y : Int) (i j q0 ft : Nat) (kt : TxCfg)
    (pq : Packet) (pqs : List Packet) (fr : TxFrame) : Prop :=
  let d0 := s.chip.dev
  let f := x.flow
  let r := d0.rxf f
  let first := d0.net.ingress = x :: rest
  let taken := fun (d d' : Dev) => d'.net.ingress = rest ∧ { d' with net := d.net } = d ∧
    { d'.net with ingress := d.net.ingress } = d.net
  let ready := first ∧ r.cfg = some k ∧ d0.on (F.RXF_STATUS_READY f) = true ∧ r.since ≤ x.tick
  let parsed := if isAaf k.fmt = true then k.parseAaf x.bytes else k.parseRtp x.bytes
  let sm := x.stamp - d0.time.residual
  let w : Int := k.k * (d0.time.mediaCount + 6 * -((d0.time.tickAt - sm - 128000) / 2000000))
  let q := d0.sampleIndex k p x.stamp + k.link
  let fates := (Mem.placeAll k w q frames s.chip.mem).2
  let n := fun (v : Nat) => (fates.filter (· == v)).length
  let path := if x.path = 0 then r.a else r.b
  let path' := fun (r : RxFlow) => if x.path = 0 then r.a else r.b
  let a := k.ring + 4 * ((q % (k.len : Int)).toNat * k.ch)
  let tag := lowOf 7 (q / spt k.rate)
  let may := [F.RXF_EVENTS_LATE_EV f, F.RXF_EVENTS_EARLY_EV f, F.RXF_EVENTS_CSF_EV f, F.RXF_EVENTS_RESUMED_EV f,
    F.RXF_STATUS_STATE f]
  let play := s.chip.playFlow f k
  let m := spt k.rate
  let t := d0.time.mediaCount / 6
  let slot := fun (i j : Nat) => k.ring + 4 * ((t * m + i) % k.len * k.ch + j)
  let valid := fun (i : Nat) => s.chip.mem.load (slot i 0) 4 % 256 = 128 + t % 128
  let missing := ((List.range m).filter fun i => ¬ valid i).length
  let up := d0.on (F.RXF_STATUS_READY f) = true
  let running := d0.rd (F.RXF_STATUS_STATE f) = 2
  let pk := s.chip.packFlow ft kt
  let starts := d0.time.mediaCount % (6 * kt.m) = 0 ∧ (d0.txf ft).since ≤ d0.tick
  let short := starts ∧ kt.m = 1 ∧ kt.ch = 1 ∧ d0.oldBind (epTx ft 0) = none
  let seq := d0.rd (F.TXF_SEQ_NEXT ft)
  let stamp := if isAaf kt.fmt = true then lowOf 32 (d0.tickTime + kt.pres)
    else (2 ^ kt.rate * d0.time.mediaCount + kt.rtpOff) % 2 ^ 32
  let one := fun (ws : List Nat) (h : Nat × Nat) (path : Nat) => (⟨kt.frame (s.chip.mem.loadBytes h.1 h.2)
    (payloadOut kt.fmt [ws]) seq stamp (((d0.txf ft).ipid + path) % 65536), d0.tickTime + kt.launch, ft, path⟩ : TxFrame)
  let all := fun (ws : List Nat) =>
    if kt.dual = true then [(0, one ws kt.hdrA 0), (1, one ws kt.hdrB 1)] else [(kt.port, one ws kt.hdrA 0)]
  let permit := d0.on F.TWIN_CFG_TX_HOLDER = false ∨ d0.on F.TWIN_STATUS_PERMIT = true
  let sent := fun (ws : List Nat) => pk.2 = (if permit then all ws else []) ∧
    pk.1.dev.rd (F.TXF_SEQ_NEXT ft) = (seq + 1) % 2 ^ 16 ∧ (pk.1.dev.txf ft).cur = none ∧ pk.1.mem = s.chip.mem ∧
    (¬ permit → pk.1.dev.rd (F.TWIN_CNT_COUNT 7) = min (d0.rd (F.TWIN_CNT_COUNT 7) + (all ws).length) (2 ^ 32 - 1))
  (d0.net.ingress = [] → Moves .flowPacketAccept s fun d d' => d' = d) ∧
  (first → r.cfg = none → Moves .flowPacketAccept s taken) ∧
  (first → r.cfg = some k → d0.on (F.RXF_STATUS_READY f) = false ∨ x.tick < r.since → Moves .flowPacketAccept s taken) ∧
  (ready → d0.timeOk = false →
    Moves .flowPacketAccept s fun d d' => Sets d d' [rxUp d f 3 1] [] ∧ taken d { d' with regs := d.regs }) ∧
  (ready → d0.timeOk = true → parsed = none →
    Moves .flowPacketAccept s fun d d' =>
      Sets d d' [rxUp d f 2 1, (F.RXF_EVENTS_HDR_EV f, 1)] [] ∧ taken d { d' with regs := d.regs }) ∧
  (ready → d0.timeOk = true → parsed = some p → payloadIn k.fmt k.ch p.body = some (frames, bad) → x.path < 2 →
    Turns .flowPacketAccept s fun c c' =>
      Sets c.dev c'.dev [rxUp c.dev f x.path 1, rxUp c.dev f (6 + x.path) (n 0), rxUp c.dev f (8 + x.path) (n 1),
        rxUp c.dev f 10 (n 2), rxUp c.dev f 12 bad, (pathState f x.path, 2)] (F.RXF_CNT_COUNT f (4 + x.path) :: may) ∧
      (0 < n 0 → c'.dev.rd (F.RXF_EVENTS_LATE_EV f) = 1) ∧ (0 < n 1 → c'.dev.rd (F.RXF_EVENTS_EARLY_EV f) = 1) ∧
      (0 < bad → c'.dev.rd (F.RXF_EVENTS_CSF_EV f) = 1) ∧
      (path' (c'.dev.rxf f)).seq = some p.seq ∧ RxOnly c.dev { c'.dev with net := { c'.dev.net with ingress := c.dev.net.ingress } } f g ∧
      c'.dev.net.ingress = rest ∧ BytesBut c.mem c'.mem k.ring (4 * (k.len * k.ch)) ∧
      { c'.dev with regs := c.dev.regs, net := c.dev.net } = c.dev) ∧
  (ready → d0.timeOk = true → parsed = some p → payloadIn k.fmt k.ch p.body = some ([xs], bad) → k.ch = 1 → xs = [y] →
    w ≤ q → q < w + ((k.ticks - 2) * spt k.rate : Nat) → 2 ≤ k.ticks → (s.chip.mem.byte (a + 3)).toNat ≠ 128 + tag →
    -(2 ^ 23) ≤ y → y < 2 ^ 23 →
    Turns .flowPacketAccept s fun c c' =>
      c'.mem.load a 4 = lowOf 24 y * 256 + 128 + tag ∧ BytesBut c.mem c'.mem a 4) ∧
  (ready → d0.timeOk = true → parsed = some p → path.seq = some p.seq → x.path < 2 →
    payloadIn k.fmt k.ch p.body = some (frames, bad) →
    Turns .flowPacketAccept s fun c c' =>
      c'.dev.rd (F.RXF_CNT_COUNT f (4 + x.path)) = c.dev.rd (F.RXF_CNT_COUNT f (4 + x.path))) ∧
  -- playout at a boundary: the tick's samples go to the channel's queue, their slots become empty, a gap is counted
  (d0.on (F.RXF_STATUS_READY f) = false → play = (s.chip, true)) ∧
  (up → (play.2 = true ↔ ¬ running ∨ 0 < missing) ∧ BytesBut s.chip.mem play.1.mem k.ring (4 * (k.len * k.ch))) ∧
  (up → i < m → j < k.ch → (play.1.mem.byte (slot i j + 3)).toNat = (s.chip.mem.byte (slot i j + 3)).toNat % 128) ∧
  (up → running → k.ch = 1 → d0.bound (epRx f 0) = some q0 → PacketRoom d0 q0 →
    (play.1.dev.q q0).packets = (d0.q q0).packets ++ [⟨(List.range m).map fun i =>
      ⟨BitVec.ofNat 32 (if valid i then s.chip.mem.load (slot i 0) 4 / 256 * 256 else 0), decide (i + 1 = m), 0⟩,
      none, none, 0, false, 0⟩] ∧ play.1.dev.rd (F.RXF_CNT_COUNT f 11) = (rxUp d0 f 11 missing).2) ∧
  (d0.rxOn = [(f, k)] → k.group < 16 →
    s.chip.playout.mem = play.1.mem ∧ s.chip.playout.dev.queues = play.1.dev.queues ∧
    (play.2 = true → s.chip.playout.dev.rd (F.GRP_STATUS_GAP_NOW k.group) = 1 ∧
      s.chip.playout.dev.rd (F.GRP_EVENTS_GAP_EV k.group) = 1)) ∧
  -- the packetiser at a boundary: a tick of samples from the channel's queue, or zeros, becomes a frame with its launch time
  (¬ starts → d0.on (F.TXF_STATUS_RUNNING ft) = false → pk.2 = [] ∧ pk.1.mem = s.chip.mem) ∧
  (short → d0.bound (epTx ft 0) = none →
    sent (List.replicate (spt kt.rate) 0) ∧ pk.1.dev.rd (F.TXF_EVENTS_UNDERRUN_EV ft) = 1 ∧
    pk.1.dev.rd (F.TXF_CNT_COUNT ft 2) = min (d0.rd (F.TXF_CNT_COUNT ft 2) + 1) (2 ^ 32 - 1)) ∧
  (short → d0.bound (epTx ft 0) = some q0 → d0.firstTake (epTx ft 0) = false → d0.rd (F.Q_CFG_EN q0) ≠ 0 →
    (d0.q q0).err = false → (d0.q q0).packets = pq :: pqs → pq.arrival.isSome = true →
    pq.words.length = spt kt.rate →
    sent (pq.words.map (·.data.toNat)) ∧ (pk.1.dev.q q0).packets = pqs) ∧
  (d0.net.draining = false → d0.realigning = false → d0.txOn = [(ft, kt)] → pk.2 = [(q0, fr)] → q0 < 4 →
    (s.chip.packetise.dev.mac q0).c6 = (pk.1.dev.mac q0).c6 ++ [fr])

/-- The flow engine takes the first waiting frame, counts it, refuses it, or writes its sample frames into the jitter
ring and nowhere else; at a boundary playout empties the tick's slots into the channels' queues, and the packetiser
makes frames with their launch times (R128, R132 to R137, R139, R141 to R147, R366). A frame that fails R128 while
TIME_OK is 0 counts in NOTIME alone (assumption 202), and frames before the flow's first tick are dropped (assumption
137). An event whose own condition does not hold leaves the state as it is (assumption 1). -/
def FlowPacket : Prop :=
  ∀ s x rest k p frames bad xs g y i j q0 ft kt pq pqs fr, Live s →
    FlowPacketAt s x rest k p frames bad xs g y i j q0 ft kt pq pqs fr

/-- A port counter after it counts `c` (R188). -/
def portUp (d : Dev) (n k c : Nat) : Fld × Nat :=
  (F.PORT_CNT_COUNT n k, min (d.rd (F.PORT_CNT_COUNT n k) + c) (2 ^ 32 - 1))

/-- Port `n`'s registers and hidden state are all that differs, with what the reference's validity may move. -/
abbrev SapOnly (d d' : Dev) (n m : Nat) : Prop :=
  { d' with regs := d.regs, saps := d.saps } = d ∧ (m ≠ n → d'.sap m = d.sap m)

/-- The fields that a change of a port's class may move where the port is the media reference (R35, R42). -/
def aesF : List Fld := [F.MEDPLL_STATUS_COAST, F.MEDPLL_STATUS_REF_JUMP_REFUSED] ++ validF ++ fitF

/-- The changes of `aesF` reach the clocks' hidden state alone. -/
abbrev SapClkOnly (d d' : Dev) (n m : Nat) : Prop := SapOnly d { d' with clk := d.clk } n m

/-- Port `n`'s enable, start, stop, masks and frames. -/
abbrev PortRunAt (s : State) (n : Fin 32) (db late short : Bool) (mask : Word) (j phase m f k v : Nat) : Prop :=
  let d0 := s.chip.dev
  let p := d0.sap n
  let cfg := d0.sapCfg n
  let first := p.spt * (d0.tick + 1)
  let running := p.run = .running ∧ p.stopping = false
  let moved := p.laneA.cap ≠ d0.rd (F.PORT_APPLIED_DA_MASK n) ∨ p.laneB.cap ≠ d0.rd (F.PORT_APPLIED_DB_MASK n)
  let epoch := if moved then (d0.rd (F.PORT_MASK_EPOCH_EPOCH n) + 1) % 65536 else d0.rd (F.PORT_MASK_EPOCH_EPOCH n)
  let captured := [(F.PORT_APPLIED_DA_MASK n, p.laneA.cap), (F.PORT_APPLIED_DB_MASK n, p.laneB.cap),
    (F.PORT_MASK_EPOCH_EPOCH n, epoch)]
  let inRange := p.laneA.cap < 2 ^ 32 ∧ p.laneB.cap < 2 ^ 32
  let off := [(F.PORT_STATUS_RUNNING n, 0), (F.PORT_STATUS_LOCKED n, 0), (F.PORT_STATUS_BP_MUTE n, 0), (F.PORT_STATUS_NA_MUTE n, 0)]
  let stops := fun (d d' : Dev) => Sets d d' off [] ∧ d'.sap n = Sap.init ∧ SapOnly d d' n m
  let caught := if p.laneB.cap ≠ d0.rd (F.PORT_APPLIED_DB_MASK n) then (d0.rd (F.PORT_MASK_EPOCH_EPOCH n) + 1) % 65536
    else d0.rd (F.PORT_MASK_EPOCH_EPOCH n)
  let sub := p.subframe db
  let io := fun (out : Bool) => if out = true then PinRole.output else PinRole.input
  let gap := phaseGap p.period phase p.p0
  let at0 := ((p.spt * d0.tick + j) * p.period + phase + p.period - p.p0 + p.period / 2) / p.period - 1
  (d0.on (F.PORT_CTL_EN n) = false → d0.portBad n cfg = false →
    Moves (.portEnable n) s fun d d' =>
      d'.rd (F.PORT_CTL_EN n) = 1 ∧ d'.rd (F.PORT_STATUS_RUNNING n) = 0 ∧ d'.rd (F.PORT_STATUS_LOCKED n) = 0 ∧ d'.sap n = cfg ∧ cfg.run = .starting ∧
      d'.rd (F.PORT_STATUS_BP_MUTE n) = 0 ∧ d'.rd (F.PORT_STATUS_NA_MUTE n) = 0 ∧
      (cfg.slave = false → d'.rd (F.PORT_DEV_PHASE n) = 0) ∧
      (m ≠ n.val → d'.sap m = d.sap m) ∧
      (d'.q (d.rd (F.PORT_QUEUES_Q_DA n))).packets = [] ∧ (d'.q (d.rd (F.PORT_QUEUES_Q_DB n))).packets = [] ∧
      d'.rd (F.ROUTE_E_Q (epLane n db)) = d.rd (queueOf n db) ∧
      RouteNetOnly d { d' with saps := d.saps, rake := d.rake }) ∧
  (d0.on (F.PORT_CTL_EN n) = false → d0.portBad n cfg = true →
    Moves (.portEnable n) s fun d d' => Writes d d' [(F.PORT_EVENTS_CFG_ERR n, 1)] []) ∧
  (d0.on (F.PORT_CTL_EN n) = true → Moves (.portEnable n) s fun d d' => d' = d) ∧
  (p.run = .starting → p.started < d0.tick →
    Moves (.portStart n) s fun d d' =>
      Sets d d' [(F.PORT_STATUS_RUNNING n, 1), (F.PORT_STATUS_LOCKED n, bit (!p.slave))] [] ∧
      d'.sap n = { p with run := .running, frame := p.spt * d.tick, first := first, tol := d.rd (F.PORT_RATE_TOL_PPM n),
                          laneA := { p.laneA with next := first }, laneB := { p.laneB with next := first } } ∧ SapOnly d d' n m) ∧
  (p.run ≠ .starting ∨ d0.tick ≤ p.started → Moves (.portStart n) s fun d d' => d' = d) ∧
  (d0.on (F.PORT_CTL_EN n) = true → p.run = .running →
    Moves (.portDisable n) s fun d d' =>
      Sets d d' ((F.PORT_CTL_EN n, 0) :: if p.slave = true then [(F.PORT_STATUS_LOCKED n, 0)] else [])
        [F.PORT_CAP_IN_CH, F.PORT_CAP_OUT_CH] ∧
      d'.sap n = { p with stopping := true, lock := .unlocked,
                          laneA := { p.laneA with frames := [], ready := [], held := [], taken := [] },
                          laneB := { p.laneB with frames := [], ready := [], held := [], taken := [] } } ∧ SapOnly d d' n m) ∧
  (d0.on (F.PORT_CTL_EN n) = true → p.run ≠ .running →
    Moves (.portDisable n) s fun d d' =>
      Sets d d' ((F.PORT_CTL_EN n, 0) :: off)
        [F.PORT_CAP_IN_CH, F.PORT_CAP_OUT_CH] ∧ d'.sap n = Sap.init ∧ SapOnly d d' n m) ∧
  (d0.on (F.PORT_CTL_EN n) = false → Moves (.portDisable n) s fun d d' => d' = d) ∧
  Moves (.maskWrite n db mask late) s (fun d d' =>
    Sets d d' [(maskOf n db, mask.toNat)] [] ∧
    d'.sap n = p.setLane db { p.lane db with cap := if late = true then (p.lane db).cap else mask.toNat } ∧
    SapOnly d d' n m) ∧
  (running → p.slave = false → p.mode ≠ 4 → p.frame < first → inRange →
    Moves (.portFrameStart n) s fun d d' =>
      Sets d d' (portUp d n 0 1 :: captured) [] ∧ SapOnly d d' n m ∧
      (d'.sap n).frame = p.frame + 1 ∧ (d'.sap n).zpos = (p.zpos + 1) % 192 ∧
      (p.out db = false →
        ((d'.sap n).lane db).frames = (p.lane db).frames ++ [(p.frame + 1, (p.lane db).cap)]) ∧
      (p.out db = true → ((d'.sap n).lane db).shown.length = p.slots)) ∧
  (p.run = .running → p.stopping = true → p.slave = false → p.frame < first → Moves (.portFrameStart n) s stops) ∧
  (p.run ≠ .running → Moves (.portFrameStart n) s fun d d' => d' = d) ∧
  -- DB of a biphase port sends a frame: its mask alone is captured, and a block begins with the status to send
  (running → p.mode = 4 → p.frame < first → p.laneB.cap < 2 ^ 32 →
    Moves (.portFrameStart n) s fun d d' =>
      Sets d d' [(F.PORT_APPLIED_DB_MASK n, p.laneB.cap), (F.PORT_MASK_EPOCH_EPOCH n, caught)] [] ∧ SapOnly d d' n m ∧
      (d'.sap n).frame = p.frame + 1 ∧ (d'.sap n).zpos = (p.zpos + 1) % 192 ∧
      (d'.sap n).csTx = (if p.zpos = 0 then d.csOut n else p.csTx) ∧ (d'.sap n).laneB.shown.length = p.slots ∧
      { (d'.sap n).laneA with cap := p.laneA.cap } = p.laneA) ∧
  (running → p.slave = true → p.mode = 4 → j < p.spt → phase < p.period → p.lock = .locked → 4 * gap ≤ p.period →
    p.laneA.cap < 2 ^ 32 → d0.cut = false →
    Moves (.slaveFrameStart n j phase short) s fun d d' =>
      d'.rd (F.PORT_APPLIED_DA_MASK n) = p.laneA.cap ∧ d'.rd (F.PORT_CNT_COUNT n 0) = (portUp d n 0 1).2 ∧
      SapOnly d d' n m ∧ (d'.sap n).lock = .locked ∧ (d'.sap n).laneA.frames = p.laneA.frames ++ [(at0 + 2, p.laneA.cap)] ∧
      (d'.sap n).laneB = p.laneB) ∧
  sub.2.length = 28 ∧
  sub.2.foldl Bool.xor false = false ∧
  (k < 24 → sub.2[k]? = some (bitAt ((p.laneB.shown.getD (bit db) none).getD 0) k)) ∧
  sub.2[26]? = some (bitAt (p.csTx.getD ((p.zpos + 191) % 192 / 8) 0) ((p.zpos + 191) % 192 % 8)) ∧
  sub.1 = (if db = true then .y else if (p.zpos + 191) % 192 = 0 then .z else .x) ∧
  -- the pins that the port drives, its clocks, and the bits of its slots
  (p.run ≠ .running → p.pins = [.highZ, .highZ, .highZ, .highZ]) ∧
  (p.run = .running → p.mode ≤ 2 → p.pins = [io p.master, io p.master, io p.aOut, io p.bOut]) ∧
  (p.run = .running → p.mode = 3 ∨ p.mode = 5 → p.pins = [.output, .highZ, .input, .input]) ∧
  (p.run = .running → p.mode = 4 → p.pins = [.highZ, .highZ, .input, .output]) ∧
  (p.mode ≤ 2 → p.bckCycles = 4 * 2 ^ p.bckDiv) ∧
  (p.mode = 0 → k < f → p.fsPol = false → (p.fsLevel f k = true ↔ f / 2 ≤ k)) ∧
  (p.mode = 1 → k < f → p.fsPol = false → (p.fsLevel f k = true ↔ k < f / 2)) ∧
  (p.mode = 2 → k < f → p.fsPol = false → (p.fsLevel f k = true ↔ k = 0)) ∧
  (j < p.slots → k < p.width → (p.mode ≠ 0 ∧ p.mode ≠ 1) ∨ p.width ≤ phase → (p.lane db).shown[j]? = some (some v) →
    p.outBit db f phase (p.slotStart phase j + k) = some (bitAt v (p.width - 1 - k))) ∧
  (running → p.slave = true → p.mode ≠ 4 → j < p.spt → phase < p.period → p.lock = .locked → 4 * gap ≤ p.period →
    inRange → d0.cut = false →
    Moves (.slaveFrameStart n j phase short) s fun d d' =>
      Sets d d' ([portUp d n 0 1] ++ captured ++ if short = true then [portUp d n 1 1, (F.PORT_EVENTS_FRAME_EV n, 1)] else [])
        [] ∧ SapOnly d d' n m ∧ (d'.sap n).lock = .locked ∧ (d'.sap n).lastPh = phase ∧
      (p.out db = false → ((d'.sap n).lane db).frames = (p.lane db).frames ++ [(at0 + 2, (p.lane db).cap)])) ∧
  (running → p.slave = true → p.mode ≠ 4 → j < p.spt → phase < p.period → p.lock = .unlocked → inRange →
    d0.cut = false →
    Moves (.slaveFrameStart n j phase short) s fun d d' =>
      Sets d d' ([portUp d n 0 1] ++ captured ++ if short = true then [portUp d n 1 1, (F.PORT_EVENTS_FRAME_EV n, 1)] else [])
        [] ∧ SapOnly d d' n m ∧ (d'.sap n).lock = .unlocked ∧ (d'.sap n).lastPh = phase ∧
      (p.out db = false → ((d'.sap n).lane db).frames = (p.lane db).frames ++ [(0, (p.lane db).cap)])) ∧
  (running → p.slave = true → p.mode ≠ 4 → j < p.spt → phase < p.period → p.lock = .locked → p.period < 4 * gap →
    d0.cut = false →
    Moves (.slaveFrameStart n j phase short) s fun d d' =>
      d'.rd (F.PORT_STATUS_LOCKED n) = 0 ∧ d'.rd (F.PORT_EVENTS_UNLOCK_EV n) = 1 ∧ (d'.sap n).lock = .unlocked ∧
      d'.rd (F.PORT_CNT_COUNT n 7) = (portUp d n 7 1).2 ∧ SapOnly d d' n m) ∧
  (p.run = .running → p.stopping = true → p.slave = true → j < p.spt → phase < p.period → d0.cut = false →
    Moves (.slaveFrameStart n j phase short) s stops) ∧
  (d0.cut = true → Moves (.slaveFrameStart n j phase short) s fun d d' => d' = d) ∧
  (p.lock = .locking j → j < d0.tick →
    Moves (.portLock n) s fun d d' =>
      Sets d d' [(F.PORT_STATUS_LOCKED n, 1), (F.PORT_EVENTS_LOCK_EV n, 1)] [] ∧ d'.sap n = { p with lock := .locked } ∧
      SapOnly d d' n m) ∧
  (p.lock = .locking j → d0.tick ≤ j → Moves (.portLock n) s fun d d' => d' = d)

/-- A port is enabled or refused, starts, stops, takes a mask, starts its frames as a master, a slave or a biphase port,
and locks; its pins, clocks, slots and subframes (R167, R169 to R171, R174, R182, R185 to R187, R463). The mutes end
with the port's run (assumption 205), a master's FS returns at half the frame (assumption 186), and a mode-4 port stops
at DA's or DB's frame start, whichever comes first (assumption 226). An event whose own condition does not hold leaves
the state as it is (assumption 1). -/
def PortRun : Prop :=
  ∀ s (n : Fin 32) db late short mask j phase m f k v, Live s → s.chip.dev.unitHeld 5 n = false →
    PortRunAt s n db late short mask j phase m f k v

/-- What port `n` pushes and takes, and what it measures. -/
abbrev PortDataAt (s : State) (n : Fin 32) (db : Bool) (slots : List (Option Nat)) (status : Bool) (cycles media : Nat)
    (bytes : List Nat) (m tp mask q : Nat) (rest : List (Nat × Nat)) (d1 : Dev) (ws : List QWord) : Prop :=
  let d0 := s.chip.dev
  let p := d0.sap n
  let l := p.lane db
  let olds := fun (tp : Nat) => l.olds.filter fun o => decide (tp < p.spt * o.1)
  let governs := fun (tp : Nat) =>
    ((olds tp).head?.map fun o => if o.2.2 = true then none else some o.2.1).getD (d0.bound (epLane n db))
  let bound := fun (tp : Nat) => governs tp = some q ∧ PacketRoom d0 q
  let sent := fun (c c' : Chip) (k : Nat) (v : Nat → Word) =>
    let d := c.dev
    let d' := c'.dev
    PacketStored c c' q k v 0 ∧ (d'.q q).packets.length = (d.q q).packets.length + 1 ∧
    ((d'.q q).packets.getLast?.map fun x => x.words.map (·.data)) = some ((List.range k).map v) ∧
    ((d'.q q).packets.getLast?.map fun x => x.words.map (·.e)) = some (List.replicate (k - 1) false ++ [true]) ∧
    QueuesBut d d' q ∧ Sets d d' [] (countF q) ∧ (m ≠ n.val → d'.sap m = d.sap m) ∧
    { d' with regs := d.regs, saps := d.saps, queues := d.queues, pool := d.pool, freeCtr := d.freeCtr,
              badRows := d.badRows } = d
  let sel := p.selected mask
  let zeros := p.selected (d0.rd (appliedOf n db))
  let live := p.run = .running ∧ p.stopping = false
  let clean := p.detects = false ∧ d0.on (F.PORT_STATUS_NA_MUTE n) = false ∧ d0.on (F.PORT_STATUS_BP_MUTE n) = false ∧
    (p.slave = false ∨ p.lock = .locked) ∧ p.first ≤ tp ∧
    (tp < p.spt * (d0.tick + 1) ∨ d0.pendOf (epLane n db) = none ∧ l.held = [])
  let pdm := p.mode = 3 ∨ p.mode = 5
  let stream := fun (e : Nat) (h : List Int) =>
    streamIn p.bits ((if p.mode = 5 then 16 else 32) * p.bits) ((slots.getD e none).getD 0) h
  let heard := fun (i : Nat) =>
    lowOf 24 (decimated (p.mode == 5) p.bits (if (i == 0) == p.bckPol then stream 1 l.fall else stream 0 l.rise))
  let meas := (rndDiv 2048000000000 cycles).toNat
  let km : Int := (2 ^ p.rate * media : Nat)
  let dev := satTo 16 (rndDiv (16000000 * (524288 - km)) km)
  let high := decide (16 * p.tol < dev.natAbs)
  let word := fun (i : Nat) => bytes.getD (4 * i) 0 + bytes.getD (4 * i + 1) 0 * 2 ^ 8 +
    bytes.getD (4 * i + 2) 0 * 2 ^ 16 + bytes.getD (4 * i + 3) 0 * 2 ^ 24
  let cs := p.run = .running ∧ p.mode = 4 ∧ bytes.length = 24 ∧ bytes.all (fun x => decide (x < 256)) = true
  let bound' := if p.slave = true ∧ p.mode ≠ 4 then p.spt * (d0.tick + 1) else p.frame
  let due := live ∧ p.out db = true ∧ l.next < bound' ∧ zeros ≠ []
  let shows := p.slave = false ∨ p.mode = 4 ∨ p.lock = .locked
  let takes := fun (d1 d' : Dev) (vs : List Nat) =>
    ((d'.sap n).lane db).taken = (if shows then l.taken ++ [(l.next, vs)] else l.taken) ∧
    ((d'.sap n).lane db).next = l.next + 1 ∧ d'.queues = d1.queues ∧ (m ≠ n.val → d'.sap m = d0.sap m)
  (p.run = .running → p.out db = false → l.frames = (tp, mask) :: rest → tp = l.next → clean → ¬ pdm → bound tp →
    sel ≠ [] → sel.length ≤ 32 → slots.length ≤ 32 → d0.cut = false →
    Turns (.inputPacketPush n db slots status) s fun c c' =>
      sent c c' sel.length (fun i => match slots.getD (sel.getD i 0) none with
        | some v => BitVec.ofNat 32 (v % 2 ^ p.width * 2 ^ (32 - p.width))
        | none => 0) ∧ (c'.dev.sap n).lane db = { l with frames := rest, next := tp + 1, olds := olds tp }) ∧
  (p.run = .running → p.out db = false → l.frames = (tp, mask) :: rest → tp = l.next → clean → pdm → bound tp → sel ≠ [] →
    sel.length ≤ 32 → slots.length ≤ 32 → d0.cut = false →
    Turns (.inputPacketPush n db slots status) s fun c c' =>
      sent c c' sel.length (fun i => BitVec.ofNat 32 (heard (sel.getD i 0) * 2 ^ (32 - p.width))) ∧
      (c'.dev.sap n).lane db =
        { l with frames := rest, next := tp + 1, olds := olds tp, rise := stream 0 l.rise, fall := stream 1 l.fall }) ∧
  (p.run = .running → p.out db = false → l.frames = (tp, mask) :: rest → tp < l.next → clean → ¬ pdm → slots.length ≤ 32 →
    d0.cut = false →
    Moves (.inputPacketPush n db slots status) s fun d d' =>
      Sets d d' [portUp d n 7 1] [] ∧ (d'.sap n).lane db = { l with frames := rest } ∧ SapOnly d d' n m) ∧
  -- while the test port cuts the pins the slots' values are free, and the packet has its length all the same
  (p.run = .running → p.out db = false → l.frames = (tp, mask) :: rest → tp = l.next → clean → ¬ pdm → p.mode ≠ 4 →
    bound tp → sel ≠ [] → sel.length ≤ 32 → slots.length ≤ 32 → d0.cut = true →
    Turns (.inputPacketPush n db slots status) s fun c c' =>
      (c'.dev.q q).packets.length = (c.dev.q q).packets.length + 1 ∧
      ((c'.dev.q q).packets.getLast?.map fun x => x.words.map (·.e)) = some (List.replicate (sel.length - 1) false ++ [true]) ∧
      (c'.dev.sap n).lane db = { l with frames := rest, next := tp + 1, olds := olds tp }) ∧
  (l.frames = [] → slots.length ≤ 32 →
    Moves (.inputPacketPush n db slots status) s fun d d' => { d' with freeCtr := d.freeCtr } = d ∧ (d.cut = false → d' = d)) ∧
  (live → p.slave = true → p.lock ≠ .locked → p.out db = false → l.next < p.spt * (d0.tick + 1) → bound l.next → zeros ≠ [] →
    zeros.length ≤ 32 →
    Turns (.synthPacketPush n db) s fun c c' =>
      sent c c' zeros.length (fun _ => 0) ∧ (c'.dev.sap n).lane db = { l with next := l.next + 1, olds := olds l.next }) ∧
  (p.lock = .locked → Moves (.synthPacketPush n db) s fun d d' => d' = d) ∧
  (due → d0.sinkTake (epLane n db) d0.tick = (d1, []) →
    Moves (.outputPacketTake n db) s fun d d' =>
      Sets d1 d' [portUp d1 n 2 1, (F.PORT_EVENTS_UNDERRUN_EV n, 1)] [] ∧ takes d1 d' (List.replicate zeros.length 0)) ∧
  (due → d0.sinkTake (epLane n db) d0.tick = (d1, ws) → ws ≠ [] → ws.length ≠ zeros.length →
    Moves (.outputPacketTake n db) s fun d d' =>
      Sets d1 d' [portUp d1 n 3 1, (F.PORT_EVENTS_FORM_EV n, 1)] [] ∧
      takes d1 d' ((ws.map (·.data.toNat)).take zeros.length ++ List.replicate (zeros.length - ws.length) 0)) ∧
  (due → d0.sinkTake (epLane n db) d0.tick = (d1, ws) → ws.length = zeros.length →
    Moves (.outputPacketTake n db) s fun d d' =>
      Sets d1 d' [] [] ∧ takes d1 d' (ws.map (·.data.toNat))) ∧
  (p.out db = false ∨ p.run ≠ .running ∨ p.stopping = true ∨ bound' ≤ l.next → Moves (.outputPacketTake n db) s fun d d' => d' = d) ∧
  (p.run = .running → 0 < cycles → 0 < media → meas < 2 ^ 22 →
    Moves (.rateWindowEnd n cycles media) s fun d d' =>
      Sets d d' [(F.PORT_RATE_MEAS n, meas), (F.PORT_RATE_CLASS n, rateClass meas), (F.PORT_DEV_DEV_PPM n, lowOf 16 dev),
        (F.PORT_STATUS_DEV_HIGH n, bit high)]
        ([F.PORT_EVENTS_CLASS_EV n, F.PORT_EVENTS_DEV_EV n, F.PORT_EVENTS_UNLOCK_EV n, F.PORT_STATUS_LOCKED n,
          F.PORT_DEV_PHASE n] ++ aesF) ∧
      (d.rd (F.PORT_RATE_CLASS n) ≠ rateClass meas → d'.rd (F.PORT_EVENTS_CLASS_EV n) = 1) ∧
      (p.slave = true → p.lock = .locked → high = true →
        (d'.sap n).lock = .unlocked ∧ d'.rd (F.PORT_STATUS_LOCKED n) = 0 ∧ d'.rd (F.PORT_EVENTS_UNLOCK_EV n) = 1) ∧
      (p.slave = true → p.lock = .unlocked → p.stopping = false → p.winOk = true → p.winFirst.isSome = true →
        high = false → rateClass meas = p.rate + 1 →
        (d'.sap n).lock = .locking d.tick ∧ d'.rd (F.PORT_DEV_PHASE n) = p.lastPh % 2048) ∧
      (d'.sap n).winFirst = none ∧ (d'.sap n).tol = d.rd (F.PORT_RATE_TOL_PPM n) ∧ SapClkOnly d { d' with freeCtr := d.freeCtr } n m) ∧
  (p.run = .running → p.slave = true →
    Moves (.rateAbsent n) s fun d d' =>
      Sets d d' [(F.PORT_RATE_MEAS n, 0), (F.PORT_RATE_CLASS n, 0)]
        ([F.PORT_EVENTS_CLASS_EV n, F.PORT_EVENTS_UNLOCK_EV n, F.PORT_STATUS_LOCKED n] ++ aesF) ∧
      (p.lock = .locked → (d'.sap n).lock = .unlocked ∧ d'.rd (F.PORT_STATUS_LOCKED n) = 0) ∧ SapClkOnly d d' n m) ∧
  (p.slave = false → Moves (.rateAbsent n) s fun d d' => d' = d) ∧
  (256 ≤ p.bpGood → Moves (.bpUnmute n) s fun d d' => Writes d d' [(F.PORT_STATUS_BP_MUTE n, 0)] []) ∧
  (p.bpGood < 256 → Moves (.bpUnmute n) s fun d d' => d' = d) ∧
  (cs → bytes.getD 0 0 % 2 = 0 ∨ bytes.getD 23 0 = crcc bytes →
    Moves (.csBlockEnd n bytes) s fun d d' =>
      Writes d d' ((F.PORT_STATUS_PRO n, bytes.getD 0 0 % 2) :: (List.range 6).map fun i => (F.PORT_CS_RX_BYTES n i, word i))
        [F.PORT_EVENTS_CS_EV n] ∧
      ((List.range 6).any (fun i => d.rd (F.PORT_CS_RX_BYTES n i) != word i) = true → d'.rd (F.PORT_EVENTS_CS_EV n) = 1)) ∧
  (cs → bytes.getD 0 0 % 2 = 1 → bytes.getD 23 0 ≠ crcc bytes →
    Moves (.csBlockEnd n bytes) s fun d d' => Writes d d' [portUp d n 5 1] []) ∧
  (4096 ≤ p.naSince → Moves (.naHoldExpire n) s fun d d' => Writes d d' [(F.PORT_STATUS_NA_MUTE n, 0)] []) ∧
  (p.naSince < 4096 → Moves (.naHoldExpire n) s fun d d' => d' = d)

/-- A lane's packet is pushed left-justified or as zeros, to the queue that governs its time point, an output lane takes
its packet, cut or filled to its slots, or underruns, and a slave port that is not locked drops what it takes; the rate
is measured, and the biphase mutes and blocks end (R172, R173, R175 to R177, R179 to R181, R183 to R185, R307, R463). A
RATE_TOL write counts from the next window on (assumption 227); cut inputs bring free values (assumption 217). An event
whose own condition does not hold leaves the state as it is (assumption 1). -/
def PortData : Prop :=
  ∀ s (n : Fin 32) db slots status cycles media bytes m tp mask q rest d1 ws, Live s →
    s.chip.dev.unitHeld 5 n = false → PortDataAt s n db slots status cycles media bytes m tp mask q rest d1 ws

/-- Only registers and the host interface's hidden state differ. -/
abbrev HostOnly (d d' : Dev) : Prop :=
  { d' with regs := d.regs, sys := d.sys } = d ∧ { d'.sys with host := d.sys.host } = d.sys

/-- The host's transactions. -/
abbrev HostBusAt (s : State) (addr : BitVec 24) (bytes : List Byte) (n : Nat) (code : BitVec 8) (quad : Bool) (b : Byte)
    (a v r : Nat) (ps : List Posted) (c2 : Chip) (ws : List Nat) (more : Bool) (z next : Nat) : Prop :=
  let d0 := s.chip.dev
  let h0 := d0.sys.host
  let up := d0.hostUp = true
  let w : Instr := if quad = true then .qwrite addr bytes else .write addr bytes
  let r' : Instr := if quad = true then .qread addr (n, more) else .read addr (n, more)
  let room := h0.buf.length + (bytes.length + 3) / 4 ≤ 32
  let bank := d0.rd F.SYS_WIN_BANK_BANK * 2 ^ 23
  let at_ := bank + addr.toNat % 2 ^ 23
  let cells := d0.rd F.QM_REGION_CELLS * 256
  let begun := Chip.drainBuffer 32 (s.chip.onDev Dev.hostBegin)
  let put := fun (c : Chip) =>
    c.onDev fun d => d.modHost fun h => { h with buf := h.buf ++ [.word addr.toNat (word4 bytes)] }
  let inRun := (quad = true ∨ d0.on F.SYS_HQ_CFG_CMD4 = true) ∧ canonDirect addr.toNat = some 0x34
  let run := if inRun then (if h0.buf = [] then 0 else h0.run) + 1 else 0
  let d1 := d0.hostBegin.modHost fun h => { h with run := run }
  (up → addr.toNat + bytes.length ≤ 2 ^ 23 → room →
    Moves w s fun d d' =>
      Sets d d' (if bytes.length % 4 = 0 then [] else [(F.SYS_HQ_STAT_PARTIAL, 1)]) [] ∧ HostOnly d d' ∧
      (bytes.length = 4 → d'.sys.host.run = run) ∧
      d'.sys.host = { h0 with cmd4 := d.on F.SYS_HQ_CFG_CMD4, run := d'.sys.host.run, buf := h0.buf ++
        (List.range (bytes.length / 4)).map fun k => .word (addr.toNat + 4 * k) (word4 (bytes.drop (4 * k))) }) ∧
  (up → 2 ^ 23 ≤ addr.toNat → addr.toNat + bytes.length ≤ 2 ^ 24 → room →
    Moves w s fun d d' =>
      Sets d d' [] [] ∧ HostOnly d d' ∧ (bytes ≠ [] → d'.sys.host.run = 0) ∧
      d'.sys.host = { h0 with cmd4 := d.on F.SYS_HQ_CFG_CMD4, run := d'.sys.host.run, buf := h0.buf ++
        (List.range ((bytes.length + 3) / 4)).map fun k => .bytes (at_ + 4 * k) ((bytes.drop (4 * k)).take 4) }) ∧
  -- a word arrives at a full buffer: its first write is performed by then, but where a run of more than 128 words
  -- outpaces it
  (up → addr.toNat + 4 ≤ 2 ^ 23 → bytes.length = 4 → h0.buf.length = 32 → h0.buf = .word a v :: ps → canonDirect a = none →
    Moves w s fun d d' =>
      Sets d d' [(F.SYS_HQ_STAT_UNMAPPED, 1), (F.SYS_BAD_ADDR_ADDR, a % 2 ^ 24)] [] ∧
      d'.sys.host.buf = ps ++ [.word addr.toNat (word4 bytes)] ∧ HostOnly d d') ∧
  (up → addr.toNat + 4 ≤ 2 ^ 23 → bytes.length = 4 → h0.buf.length = 32 → d0.slowFirst = false ∨ run ≤ 128 →
    Turns w s fun c c' => c' = (put ({ c with dev := d1 } : Chip).performFirst).settleCells) ∧
  (up → addr.toNat + 4 ≤ 2 ^ 23 → bytes.length = 4 → h0.buf.length = 32 → d0.slowFirst = true → 128 < run →
    Turns w s fun c c' => c' = { c with dev := d1.fresh.2.set F.SYS_HQ_STAT_WOVF } ∨
      c' = (put ({ c with dev := d1.fresh.2 } : Chip).performFirst).settleCells) ∧
  (up → n = 1 → more = false → h0.buf = [] → addr.toNat < 2 ^ 23 → canonDirect addr.toNat = some r → r ≠ 0x34 → d0.inReset r = false →
    beforeScrub r = false ∨ d0.sys.scrubbed = true →
    Moves r' s fun d d' =>
      d'.sys.host = { h0 with cmd4 := d.on F.SYS_HQ_CFG_CMD4, out := [d.hostBegin.view 0 r] } ∧
      ((regFields r).all (fun l => l.all fun f => f.ty != .rc) = true → d'.regs = d.regs) ∧
      HostOnly d { d' with freeCtr := d.freeCtr }) ∧
  (up → n = 1 → more = false → h0.buf = [] → 2 ^ 23 ≤ addr.toNat → d0.sys.scrubbed = true → addr.toNat % 4 = 0 → cells ≤ at_ →
    d0.badRow at_ = false →
    Moves r' s fun d d' =>
      d'.sys.host = { h0 with cmd4 := d.on F.SYS_HQ_CFG_CMD4, out := [s.chip.mem.load at_ 4] } ∧
      Sets d d' [] [] ∧ HostOnly d d') ∧
  (up → n = 1 → more = false → h0.buf = [] → 2 ^ 23 ≤ addr.toNat → d0.sys.scrubbed = true → addr.toNat % 4 = 0 →
    cells ≤ at_ → d0.badRow at_ = true →
    Moves r' s fun d d' =>
      d'.sys.host = { h0 with cmd4 := d.on F.SYS_HQ_CFG_CMD4, out := [s.chip.mem.load at_ 4] } ∧
      Sets d d' [(F.SYS_HQ_STAT_RD_ECC, 1), (F.QM_ECC_UNCORR, min (d.rd F.QM_ECC_UNCORR + 1) 65535),
        (F.QM_EVENTS_ECC_UNCORR_EV, 1), (F.QM_ECC_ADDR_AREA, 2)] [F.QM_ECC_ADDR_ADDR] ∧
      HostOnly d { d' with badRows := d.badRows }) ∧
  (up → 0 < n → Chip.readWords bank n addr.toNat begun = (c2, ws, next) →
    (more = false → Turns r' s fun _ c' =>
      c'.dev.sys.host.out = ws ∧ ws.length = n ∧ c'.mem = c2.settleCells.mem ∧ c'.dev.regs = c2.dev.regs) ∧
    (more = true → Turns r' s fun _ c' =>
      c'.dev.sys.host.out = ws ∧ c'.dev.rd F.SYS_HQ_LASTRD_DATA = (c2.readOne bank next).2 % 2 ^ 32) ∧
    Turns (.readTimeout addr (n, z)) s (fun _ c' =>
      c'.dev.sys.host.out = ws ++ List.replicate z 0 ∧ c'.dev.rd F.SYS_HQ_STAT_RD_TIMEOUT = 1 ∧
      c'.dev.rd F.SYS_HQ_LASTRD_DATA = (c2.readOne bank next).2 % 2 ^ 32)) ∧
  (up → n = 0 → h0.buf = [] → canonDirect addr.toNat = some r → addr.toNat < 2 ^ 23 → r ≠ 0x34 → d0.inReset r = false →
    beforeScrub r = false ∨ d0.sys.scrubbed = true →
    Moves r' s fun d d' => d'.rd F.SYS_HQ_LASTRD_DATA = d.hostBegin.view 0 r ∧ d'.sys.host.out = []) ∧
  (up → Moves .status s fun d d' =>
    Sets d d' [] [] ∧ HostOnly d d' ∧
    d'.sys.host = { h0 with cmd4 := d.on F.SYS_HQ_CFG_CMD4, out := [d.hostBegin.view 0 0xC % 65536] }) ∧
  (up → code.toNat ∉ [0x02, 0x0B, 0x32, 0xEB, 0x05] →
    Moves (.badCmd code) s fun d d' => Sets d d' [(F.SYS_HQ_STAT_BAD_CMD, 1)] [] ∧ HostOnly d d' ∧ d'.sys.host.out = []) ∧
  (up → code.toNat ∈ [0x02, 0x0B, 0x32, 0xEB, 0x05] → Moves (.badCmd code) s fun d d' => d' = d) ∧
  (up → h0.buf = [] → canonDirect addr.toNat = some r → addr.toNat < 2 ^ 23 → r ≠ 0x34 → d0.inReset r = false →
    beforeScrub r = false ∨ d0.sys.scrubbed = true → r ≠ 0xC →
    Moves (.readTimeout addr (0, z)) s fun d d' =>
      d'.rd F.SYS_HQ_STAT_RD_TIMEOUT = 1 ∧ d'.rd F.SYS_HQ_LASTRD_DATA = d.hostBegin.view 0 r ∧
      d'.sys.host.out = List.replicate z 0 ∧ HostOnly d { d' with freeCtr := d.freeCtr }) ∧
  (h0.buf = .bytes a [b] :: ps → d0.sys.scrubbed = true → cells ≤ bankByte a 0 →
    Turns .postedWritePerform s fun c c' =>
      c'.mem.byte (bankByte a 0) = b ∧ BytesBut c.mem c'.mem (bankByte a 0) 1 ∧ c'.dev.sys.host.buf = ps ∧
      (c'.dev.req 0).armed = false ∧ Sets c.dev c'.dev [] [] ∧ HostOnly c.dev c'.dev) ∧
  (h0.buf = .bytes a [b] :: ps → d0.sys.scrubbed = true → bankByte a 0 < cells →
    Moves .postedWritePerform s fun d d' =>
      Sets d d' [(F.QM_EVENTS_CELL_WRITE, 1)] [] ∧ d'.sys.host.buf = ps ∧ HostOnly d d') ∧
  (h0.buf = .word a v :: ps → canonDirect a = none →
    Moves .postedWritePerform s fun d d' =>
      Sets d d' [(F.SYS_HQ_STAT_UNMAPPED, 1), (F.SYS_BAD_ADDR_ADDR, a % 2 ^ 24)] [] ∧ d'.sys.host.buf = ps ∧
      HostOnly d d') ∧
  (h0.buf = .word a v :: ps → canonDirect a = some 0x20 → v % 2 ^ 32 = 0x6A95 →
    Moves .postedWritePerform s fun d d' =>
      Sets d d' [] [] ∧ (d'.req 0).armed = true ∧ d'.sys.host.buf = ps ∧ HostOnly d d') ∧
  (h0.buf = [] → Moves .postedWritePerform s fun d d' => d' = d) ∧
  (d0.hostUp = false → Moves w s fun d d' => d' = d) ∧
  (d0.hostUp = false → Moves r' s fun d d' => d' = d) ∧
  (d0.hostUp = false → Moves .status s fun d d' => d' = d) ∧
  (d0.hostUp = false → Moves (.badCmd code) s fun d d' => d' = d) ∧
  (d0.hostUp = false → Moves (.readTimeout addr (n, z)) s fun d d' => d' = d)

/-- Host writes are posted, reads drain the buffer and answer, with a word more that is abandoned or late, and a
buffered write reaches the window or a register (R190, R407 to R413, R416, R417, R422). A word that meets a full buffer
is assumption 215, and an abandoned or late word goes to HQ_LASTRD (assumption 95). An event whose own condition does
not hold leaves the state as it is (assumption 1). -/
def HostBus : Prop :=
  ∀ s addr bytes n code quad b a v r ps c2 ws more z next, Live s →
    HostBusAt s addr bytes n code quad b a v r ps c2 ws more z next

/-- Register accesses of requester `r` to register `k`, whose `j`-th field is `f`. -/
abbrev HostRegsAt (s : State) (r : Fin 65) (addr v : Word) (k j : Nat) (f : FieldD) : Prop :=
  let d0 := s.chip.dev
  let q0 := d0.req r
  let key := q0.armed
  let may := r.val = 0 → d0.hostUp = true ∧ d0.sys.host.buf = []
  let reg := may ∧ inWindow r addr.toNat = false
  let at_ := d0.rd F.SYS_WIN_BANK_BANK * 2 ^ 23 + addr.toNat % 2 ^ 23
  let window := may ∧ inWindow r addr.toNat = true ∧ d0.sys.scrubbed = true ∧ addr.toNat % 4 = 0 ∧
    d0.rd F.QM_REGION_CELLS * 256 ≤ at_
  let field : Fld := ⟨k, f.lo, f.width⟩
  let plain := reg ∧ canonForm addr.toNat = some k ∧ k < 0x100000 ∧
    k ∉ [0x20, 0x30, 0x34, 0x38, 0x40, 0x48, 0x4C, 0x50, 0x54] ∧ ((regFields k).getD [])[j]? = some f
  let bits := bitsAt (storedAs k v.toNat) f.lo f.width
  let out := fun (w : Nat) (d' : Dev) => r.val = 0 → d'.sys.host.out = [w]
  let stepped := if q0.autoinc = true then (q0.offset + 4) % 65536 else q0.offset
  let mb := d0.rd (F.SYS_MBX_D_DATA 0) + 2 ^ 32 * d0.rd (F.SYS_MBX_D_DATA 1)
  let busy := d0.on F.SYS_MBX_STAT_BUSY = true
  (plain → f.ty = .rw →
    Moves (.registerWrite r addr v) s fun d d' =>
      d'.rd field = bits ∧ Sets d d' [] (((regFields k).getD []).map fun g => ⟨k, g.lo, g.width⟩) ∧ HostOnly d d') ∧
  (plain → f.ty = .w1c → f.width = 1 →
    Moves (.registerWrite r addr v) s fun d d' => d'.rd field = if bits = 1 then 0 else d.rd field) ∧
  (plain → f.ty = .ro ∨ f.ty = .rc → Moves (.registerWrite r addr v) s fun d d' => d'.rd field = d.rd field) ∧
  (reg → canonForm addr.toNat = some F.TIME_JUMP_LIMIT →
    Moves (.registerWrite r addr v) s fun d d' =>
      Sets d d' (if key = true then [(F.TIME_JUMP_LIMIT_LIMIT, v.toNat)]
        else if v.toNat = d.rd F.TIME_JUMP_LIMIT_LIMIT then []
        else [(F.SYS_GUARD_DENIED, min (d.rd F.SYS_GUARD_DENIED + 1) 65535), (F.SYS_HQ_STAT_GUARD_EV, 1)]) fitF ∧
      (d'.req r).armed = false ∧ HostOnly d d') ∧
  (reg → canonForm addr.toNat = none →
    Moves (.registerWrite r addr v) s fun d d' =>
      (d'.req r).armed = false ∧ HostOnly d d' ∧
      Sets d d' (if r.val = 0 then [(F.SYS_HQ_STAT_UNMAPPED, 1), (F.SYS_BAD_ADDR_ADDR, addr.toNat % 2 ^ 24)] else []) []) ∧
  (reg → canonForm addr.toNat = some k → k ≠ 0x34 → d0.inReset k = false → beforeScrub k = false ∨ d0.sys.scrubbed = true →
    Moves (.rcRead r addr) s fun d d' =>
      out (d.view r k) d' ∧
      Sets d d' ((((regFields k).getD []).filter fun g => g.ty == .rc).map fun g => (⟨k, g.lo, g.width⟩, 0)) [] ∧
      HostOnly d { d' with freeCtr := d.freeCtr }) ∧
  (reg → canonForm addr.toNat = some k → k ≠ 0x34 → d0.inReset k = true →
    Moves (.rcRead r addr) s fun d d' =>
      out 0 d' ∧ Sets d d' (if r.val = 0 then [(F.SYS_HQ_STAT_RD_ABORT, 1)] else []) [] ∧ HostOnly d d') ∧
  -- the host's window
  (window → Turns (.registerWrite r addr v) s fun c c' =>
    c'.mem.load at_ 4 = v.toNat ∧ BytesBut c.mem c'.mem at_ 4 ∧ (c'.dev.req r).armed = false ∧ Sets c.dev c'.dev [] [] ∧
    HostOnly c.dev c'.dev) ∧
  (window → d0.badRow at_ = false → Moves (.rcRead r addr) s fun d d' =>
    out (s.chip.mem.load at_ 4) d' ∧ Sets d d' [] [] ∧ HostOnly d d') ∧
  (r.val = 0 → d0.hostUp = false → Moves (.registerWrite r addr v) s fun d d' => d' = d) ∧
  (r.val = 0 → d0.hostUp = false → Moves (.rcRead r addr) s fun d d' => d' = d) ∧
  (may → canonInd q0.space q0.offset = none →
    Moves (.indDataWrite r v) s fun d d' =>
      d'.req r = { q0 with armed := false, offset := stepped, err := true } ∧ Sets d d' [] [] ∧ HostOnly d d') ∧
  (may → canonInd q0.space q0.offset = some k → d0.inReset k = false → k = F.PORT_RATE_TOL j → j < 32 →
    Moves (.indDataWrite r v) s fun d d' =>
      d'.req r = { q0 with armed := false, offset := stepped } ∧ Sets d d' [(F.PORT_RATE_TOL_PPM j, v.toNat % 2 ^ 12)] [] ∧
      HostOnly d d') ∧
  (may → canonInd q0.space q0.offset = none →
    Moves (.indDataRead r) s fun d d' =>
      d'.req r = { q0 with offset := stepped, err := true } ∧ out 0 d' ∧ Sets d d' [] [] ∧ HostOnly d d') ∧
  (may → canonInd q0.space q0.offset = some k → d0.inReset k = false → beforeScrub k = false ∨ d0.sys.scrubbed = true →
    Moves (.indDataRead r) s fun d d' =>
      d'.req r = { q0 with offset := stepped } ∧ out (d.view r k) d' ∧
      Sets d d' ((((regFields k).getD []).filter fun g => g.ty == .rc).map fun g => (⟨k, g.lo, g.width⟩, 0)) [] ∧
      HostOnly d { d' with freeCtr := d.freeCtr }) ∧
  (may → v.toNat = 0x6A95 →
    Moves (.unlock r v) s fun d d' => d'.req r = { q0 with armed := true } ∧ Sets d d' [] [] ∧ HostOnly d d') ∧
  (may → v.toNat ≠ 0x6A95 →
    Moves (.unlock r v) s fun d d' =>
      Writes d d' [(F.SYS_GUARD_BAD_KEY, min (d.rd F.SYS_GUARD_BAD_KEY + 1) 255), (F.SYS_HQ_STAT_GUARD_EV, 1)] []) ∧
  (busy → d0.on F.SYS_MBX_REQ_WRITE = false → d0.mbxTarget = some 0x10000080 →
    Moves .mbxReadReq s fun d d' =>
      Sets d d' [((F.SYS_MBX_D_DATA 0), d.time.raw % 2 ^ 32), ((F.SYS_MBX_D_DATA 1), d.time.raw / 2 ^ 32 % 2 ^ 32),
        ((F.SYS_MBX_D_DATA 2), 0), ((F.SYS_MBX_D_DATA 3), 0), (F.SYS_MBX_STAT_VALID, 1), (F.SYS_MBX_STAT_BUSY, 0)] [] ∧
      d'.sys.host.mbx = none ∧ HostOnly d d') ∧
  (busy → d0.on F.SYS_MBX_REQ_WRITE = false → d0.mbxTarget.all (fun a => !isMb a) = true →
    Moves .mbxReadReq s fun d d' => Sets d d' [(F.SYS_MBX_STAT_ERR, 1), (F.SYS_MBX_STAT_BUSY, 0)] [] ∧ HostOnly d d') ∧
  (d0.on F.SYS_MBX_STAT_BUSY = false → Moves .mbxReadReq s fun d d' => d' = d) ∧
  (busy → d0.on F.SYS_MBX_REQ_WRITE = true → d0.mbxTarget = some (0x100410 + j * 0x10000) → j < 4 →
    d0.inReset (0x100410 + j * 0x10000) = false →
    Moves .mbxWriteReq s fun d d' =>
      (d'.mac j).gclBase = mb ∧ Sets d d' [(F.SYS_MBX_STAT_BUSY, 0)] [] ∧ d'.sys.host.mbx = none ∧
      HostOnly d { d' with net := d.net }) ∧
  (busy → d0.on F.SYS_MBX_REQ_WRITE = true → d0.mbxTarget.all (fun a => !isMb a) = true →
    Moves .mbxWriteReq s fun d d' => Sets d d' [(F.SYS_MBX_STAT_ERR, 1), (F.SYS_MBX_STAT_BUSY, 0)] [] ∧ HostOnly d d') ∧
  (d0.on F.SYS_MBX_STAT_BUSY = false → Moves .mbxWriteReq s fun d d' => d' = d)

/-- The types of register fields, the host's window, the indirect pair, the guard and the mailbox (R410, R416 to R418,
R420, R422, R423, R425, R436, R443). An event whose own condition does not hold leaves the state as it is (assumption
1). -/
def HostRegs : Prop := ∀ s r addr v k j f, Live s → HostRegsAt s r addr v k j f

/-- Only registers and Laminate's hidden state differ. -/
abbrev LamOnly (d d' : Dev) : Prop :=
  { d' with regs := d.regs, sys := d.sys } = d ∧ { d'.sys with lam := d.sys.lam } = d.sys

/-- What a counter of Laminate holds after one more (R405). -/
def lamUp (d : Dev) (k : Nat) : Fld × Nat := (F.LAM_CNT_COUNT k, min (d.rd (F.LAM_CNT_COUNT k) + 1) (2 ^ 32 - 1))

/-- RESULT as a refusal leaves it (R396). -/
def verdictF (v : Verdict) : List (Fld × Nat) :=
  [(F.LAM_RESULT_CODE, v.code), (F.LAM_RESULT_SECTION, v.at_.1 % 2 ^ F.LAM_RESULT_SECTION.width),
    (F.LAM_RESULT_RECORD, v.at_.2 % 2 ^ F.LAM_RESULT_RECORD.width)]
def otherF : List Fld := [F.LAM_RESULT_OTHER_CODE, F.LAM_RESULT_OTHER_SECTION, F.LAM_RESULT_OTHER_RECORD]

/-- The commands of LAM.CMD and LAM.GCMD. -/
abbrev LamCommandAt (s : State) (l : Layer) (ss : List Section) (w : Nat × Nat) (slot : Fin 2) (p : Layer) : Prop :=
  let d0 := s.chip.dev
  let m0 := d0.sys.lam
  let st := d0.lstate
  let denied := fun (d d' : Dev) => Writes d d' [(F.LAM_EVENTS_CMD_DENIED, 1)] []
  let dropped := fun (d d' : Dev) =>
    Sets d d' [(F.LAM_STATUS_STATE, m0.prior % 8), (F.LAM_VER_STAGED_VERSION, 0), (F.LAM_STATUS_BUSY, 0)] [] ∧
    d'.sys.lam = { m0 with staged := none, arm := none, auto := false, boot := none } ∧ LamOnly d d'
  let verifying := d0.on F.LAM_STATUS_BUSY = true
  let at_ := d0.rd F.LAM_SWITCH_AT_TICK
  let early := ss.any fun x => x.early && decide (0 < x.dataLen)
  let late := d0.on F.LAM_CTL_TIMED &&
    (d0.tickPassed at_ || (early && decide ((at_ + 2 ^ 32 - d0.mediaTick) % 2 ^ 32 = 1)))
  let timed := if d0.on F.LAM_CTL_TIMED = true ∧ late = false then some at_ else none
  let busy := d0.on F.LAM_STATUS_FLASH_BUSY
  let mayBack := (st = 6 ∨ st = 1) ∧ d0.on F.LAM_STATUS_PREV_VALID = true
  (st = 0 ∨ st = 1 → s.chip.format (d0.rd F.LAM_STAGE_ADDR_ADDR) = .ok l →
    Moves .load s fun d d' =>
      Sets d d' [(F.LAM_VER_STAGED_VERSION, l.version % 2 ^ 32), (F.LAM_STATUS_STATE, 2)] [] ∧
      d'.sys.lam = { m0 with staged := some l, prior := st } ∧ LamOnly d d') ∧
  (st = 0 ∨ st = 1 → s.chip.format (d0.rd F.LAM_STAGE_ADDR_ADDR) = .error w →
    Moves .load s fun d d' =>
      Writes d d' (verdictF ⟨1, w, none⟩ ++ [(F.LAM_EVENTS_VERIFY_FAIL, 1), lamUp d 3]) otherF) ∧
  (st ≠ 0 → st ≠ 1 → Moves .load s denied) ∧
  (st = 2 → d0.on F.LAM_STATUS_BUSY = false → Moves .verify s fun d d' => Writes d d' [(F.LAM_STATUS_BUSY, 1)] []) ∧
  (st ≠ 2 ∨ d0.on F.LAM_STATUS_BUSY = true → Moves .verify s denied) ∧
  (st = 3 → m0.staged = some l → s.chip.image l.addr = .ok (l, ss) →
    Moves .arm s fun d d' =>
      Sets d d' ((F.LAM_STATUS_STATE, 4) :: if late = true then [(F.LAM_EVENTS_LATE_EV, 1)] else []) [] ∧
      d'.sys.lam = { m0 with switch := .staged, arm := some ⟨timed, d.nextBoundary,
        if early = true then none else some d.tick⟩ } ∧ LamOnly d d') ∧
  (st ≠ 3 → Moves .arm s denied) ∧
  (st = 2 ∧ ¬ verifying ∨ st = 3 ∨ st = 4 → Moves .disarm s dropped) ∧
  (st = 0 ∨ st = 1 ∨ st = 2 ∧ verifying ∨ st = 5 ∨ st = 6 → Moves .disarm s denied) ∧
  (st = 6 →
    Moves .confirm s fun d d' =>
      Sets d d' [(F.LAM_EVENTS_CONFIRMED, 1), (F.LAM_STATUS_STATE, 1)] [] ∧ d'.sys.lam = { m0 with window := none } ∧
      LamOnly d d') ∧
  (st ≠ 6 → Moves .confirm s denied) ∧
  (st = 1 → busy = false →
    Moves .save s fun d d' =>
      Sets d d' [(F.LAM_STATUS_FLASH_BUSY, 1)] [] ∧
      d'.sys.lam = { m0 with flash := some (d.rd F.LAM_FLASH_SLOT, m0.cur) } ∧ LamOnly d d') ∧
  (st = 1 → busy = true → Moves .save s fun d d' => Writes d d' [(F.LAM_EVENTS_SAVE_FAIL, 1)] []) ∧
  (st ≠ 1 → Moves .save s denied) ∧
  (mayBack → m0.prev = some p → s.chip.mem.imageCrc p.addr p.length = p.crc →
    Moves .rollback s fun d d' =>
      Sets d d' [(F.LAM_STATUS_STATE, 5)] [] ∧
      d'.sys.lam = { m0 with switch := SwitchKind.rollback false d.nextBoundary, window := none, drain := none } ∧ LamOnly d d') ∧
  (mayBack → m0.prev = some p → s.chip.mem.imageCrc p.addr p.length ≠ p.crc →
    Moves .rollback s fun d d' =>
      Sets d d' [(F.LAM_STATUS_PREV_VALID, 0), (F.LAM_VER_PREV_VERSION, 0), (F.LAM_PREV_ADDR_ADDR, 0),
        (F.LAM_EVENTS_ROLLBACK_FAIL, 1)] [] ∧ d'.sys.lam = { m0 with prev := none } ∧ LamOnly d d') ∧
  (st ≠ 6 ∧ st ≠ 1 ∨ d0.on F.LAM_STATUS_PREV_VALID = false → Moves .rollback s denied) ∧
  (busy = false →
    Moves (.erase slot) s fun d d' =>
      Sets d d' [(F.LAM_STATUS_FLASH_BUSY, 1)] [] ∧ d'.sys.lam = { m0 with flash := some (slot.val, none) } ∧
      LamOnly d d') ∧
  (busy = true → Moves (.erase slot) s fun d d' => Writes d d' [(F.LAM_EVENTS_SAVE_FAIL, 1)] [])

/-- LOAD with its format checks, VERIFY, ARM, DISARM, CONFIRM, SAVE, ROLLBACK and ERASE in every state (R389, R394,
R397, R398, R401 to R403, R405). An event whose own condition does not hold leaves the state as it is (assumption 1). -/
def LamCommand : Prop := ∀ s l ss w slot p, Live s → LamCommandAt s l ss w slot p

/-- What Laminate does by itself, for queue `q`, context `x` and channel `ch`. -/
abbrev LamSwitchAt (s : State) (l : Layer) (ss : List Section) (v : Verdict) (a : Arming) (ok : Bool) (save : Option Layer)
    (b e asked k : Nat)
    (auto : Bool) (slot : Fin 2) (q : Fin 4096) (x : Fin 64) (ch : Fin 32) (l' : Layer) (ss' : List Section) : Prop :=
  let d0 := s.chip.dev
  let m0 := d0.sys.lam
  let st := d0.lstate
  let post := d0.overlay (s.chip.records l.addr ss) true
  let win := d0.rd F.LAM_WINDOW_S
  let plain := m0.drain = some b ∧ b + 2 ≤ d0.tick ∧ m0.recorded = true
  let ver := fun (o : Option Layer) => (o.map (·.version % 2 ^ 32)).getD 0
  (st = 2 → d0.on F.LAM_STATUS_BUSY = true → m0.staged = some l → m0.auto = false → m0.boot = none →
    s.chip.verify l.addr = .ok (l', ss') →
    Moves .verifyDone s fun d d' =>
      Sets d d' ([(F.LAM_STATUS_BUSY, 0), (F.LAM_EVENTS_VERIFY_OK, 1), (F.LAM_STATUS_STATE, 3)] ++ verdictF ⟨0, (0, 0), none⟩)
        otherF ∧ d'.sys.lam = { m0 with staged := some l' } ∧ LamOnly d d') ∧
  (st = 2 → d0.on F.LAM_STATUS_BUSY = true → m0.staged = some l → m0.auto = false → m0.boot = none →
    s.chip.verify l.addr = .error v → v.code < 2 ^ F.LAM_RESULT_CODE.width →
    Moves .verifyDone s fun d d' =>
      Sets d d' ([(F.LAM_STATUS_BUSY, 0), (F.LAM_EVENTS_VERIFY_FAIL, 1), (F.LAM_STATUS_STATE, m0.prior % 8), lamUp d 3,
        (F.LAM_VER_STAGED_VERSION, 0)] ++ verdictF v) otherF ∧
      d'.sys.lam = { m0 with staged := none, arm := none, auto := false, boot := none } ∧ LamOnly d d') ∧
  (st ≠ 2 → Moves .verifyDone s fun d d' => d' = d) ∧
  (m0.arm = some a → m0.staged = some l → st = 4 → a.early = none → s.chip.image l.addr = .ok (l', ss) →
    Turns .earlyCopyDone s fun c c' =>
      c'.dev = c.dev.modLam (fun m => { m with arm := some { a with early := some c.dev.tick } }) ∧
      c'.mem = c.copyEarly l.addr ss ∧
      (∀ h ∈ c.dev.heldImages, h.addr + h.length ≤ 2 ^ 26 → k < h.length →
        c'.mem.byte (h.addr + k) = c.mem.byte (h.addr + k)) ∧
      ((∀ h ∈ c.dev.heldImages, ∀ x ∈ ss, x.early = true → meets x.target x.dataLen h.addr h.length = false) →
        c'.mem = c.mem.copyData l.addr ss (fun x => x.early))) ∧
  (m0.arm = none → Moves .earlyCopyDone s fun d d' => d' = d) ∧
  (st = 4 → d0.armDue = true → m0.switch = .staged → m0.staged = some l → d0.drive.drain = none →
    s.chip.image l.addr = .ok (l', ss) → d0.clk.realign = .none →
    Turns .switchDrainStart s fun c c' =>
      c'.dev.lstate = 5 ∧ c'.dev.sys.lam.drain = some d0.tick ∧ c'.dev.sys.lam.recorded = false ∧
      c'.dev.rd (F.LAM_CNT_COUNT 0) = (lamUp d0 0).2 ∧ c'.dev.net.draining = true ∧
      ((c.dev.ctx x).task.isSome = true → ∀ r ∈ [RunState.ready, .yielded, .faulted], (c'.dev.ctx x).run ≠ r) ∧
      c'.dev.dmaState ch = 0 ∧ c'.dev.rd F.QM_REGION_CELLS = c.dev.rd F.QM_REGION_CELLS ∧
      c'.dev.rd (F.Q_CFG_GRANT q) = c.dev.rd (F.Q_CFG_GRANT q)) ∧
  -- the record step, two ticks later
  (m0.drain = some b → m0.recorded = false → d0.tick = b + 1 → d0.net.draining = true → m0.switch = .staged →
    m0.staged = some l → s.chip.image l.addr = .ok (l', ss) →
    Turns .tickBoundary s fun c c' =>
      c'.dev.sys.lam.recorded = true ∧ c'.dev.sys.lam.drain = some b ∧ c'.dev.net.draining = true ∧
      (c'.dev.q q).packets = [] ∧ (c'.dev.q q).openWords = [] ∧
      (c'.dev.q q).epoch = ((c.dev.q q).epoch + 1) % 65536 ∧
      (c'.dev.ctx x).run = .off ∧ c'.dev.tlbs = [] ∧ c'.dev.icache = [] ∧
      c'.dev.rd F.QM_REGION_CELLS = post.rd F.QM_REGION_CELLS ∧
      c'.dev.rd (F.CORE_CFG_CTX_EN (x / 4)) = post.rd (F.CORE_CFG_CTX_EN (x / 4)) ∧
      c'.dev.rd (F.Q_CFG_GRANT q) = post.rd (F.Q_CFG_GRANT q)) ∧
  (st ≠ 4 → st ≠ 5 → Turns .switchDrainStart s fun c c' => c' = c) ∧
  (plain → m0.switch = .staged → m0.auto = false → m0.staged = some l → d0.clk.realign = .none →
    Turns .switchDrainEnd s fun _ c' =>
      c'.dev.sys.lam.cur = some l ∧ c'.dev.sys.lam.prev = m0.cur ∧ c'.dev.sys.lam.staged = none ∧
      c'.dev.sys.lam.drain = none ∧ c'.dev.lstate = (if win = 0 then 1 else 6) ∧
      c'.dev.rd F.LAM_EVENTS_SWITCHED = 1 ∧ c'.dev.rd F.LAM_STATUS_BY_ROLLBACK = 0 ∧
      c'.dev.rd F.LAM_VER_CUR_VERSION = ver (some l) ∧ c'.dev.rd F.LAM_VER_PREV_VERSION = ver m0.cur ∧
      c'.dev.rd F.LAM_STATUS_PREV_VALID = bit m0.cur.isSome ∧ c'.dev.net.draining = false ∧
      (win ≠ 0 → c'.dev.sys.lam.window = some (d0.time.raw + win * 500000000))) ∧
  (plain → m0.switch = SwitchKind.rollback auto asked → d0.clk.realign = .none →
    Turns .switchDrainEnd s fun _ c' =>
      c'.dev.sys.lam.cur = m0.prev ∧ c'.dev.sys.lam.prev = none ∧ c'.dev.sys.lam.drain = none ∧ c'.dev.lstate = 1 ∧
      c'.dev.rd F.LAM_EVENTS_SWITCHED = 1 ∧ c'.dev.rd F.LAM_STATUS_BY_ROLLBACK = 1 ∧
      c'.dev.rd F.LAM_EVENTS_ROLLED_BACK = 1 ∧ c'.dev.rd F.LAM_VER_REJECTED_VERSION = ver m0.cur ∧
      c'.dev.rd (F.LAM_CNT_COUNT 1) = (lamUp d0 1).2 ∧
      c'.dev.rd (F.LAM_CNT_COUNT 2) = (if auto = true then (lamUp d0 2).2 else d0.rd (F.LAM_CNT_COUNT 2)) ∧
      (auto = true → c'.dev.rd F.LAM_EVENTS_AUTO_ROLLBACK = 1)) ∧
  (m0.drain = some b → d0.tick < b + 2 → Turns .switchDrainEnd s fun c c' => c' = c) ∧
  (m0.window = some e → st = 6 → e ≤ d0.time.raw → d0.on F.LAM_STATUS_PREV_VALID = false →
    Moves .confirmWindowExpire s fun d d' =>
      Sets d d' [(F.LAM_EVENTS_CONFIRM_LAPSED, 1), (F.LAM_STATUS_STATE, 1)] [] ∧
      d'.sys.lam = { m0 with window := none } ∧ LamOnly d d') ∧
  (m0.window = some e → st = 6 → e ≤ d0.time.raw → d0.on F.LAM_STATUS_PREV_VALID = true → m0.prev = some l →
    s.chip.mem.imageCrc l.addr l.length = l.crc →
    Moves .confirmWindowExpire s fun d d' =>
      Sets d d' [(F.LAM_STATUS_STATE, 5)] [] ∧
      d'.sys.lam = { m0 with switch := SwitchKind.rollback true d.nextBoundary, window := none, drain := none } ∧ LamOnly d d') ∧
  (m0.window = some e → d0.time.raw < e → Moves .confirmWindowExpire s fun d d' => d' = d) ∧
  (m0.flash = some (slot.val, none) → ok = true → k < slotBytes →
    Turns (.flashDone ok) s fun c c' =>
      c'.mem.flashByte (slot.val * slotBytes + k) = 0xFF ∧
      c'.mem.flashByte ((1 - slot.val) * slotBytes + k) = c.mem.flashByte ((1 - slot.val) * slotBytes + k) ∧
      c'.mem.cells = c.mem.cells ∧
      Sets c.dev c'.dev [(F.LAM_STATUS_FLASH_BUSY, 0), (F.LAM_EVENTS_SAVE_DONE, 1)]
        [F.LAM_SLOT_VER_VERSION 0, F.LAM_SLOT_VER_VERSION 1] ∧
      c'.dev.sys.lam = { m0 with flash := none } ∧ LamOnly c.dev c'.dev) ∧
  (m0.flash = some (slot.val, some l) → ok = true → k < l.length → l.length ≤ slotBytes - 4096 →
    Turns (.flashDone ok) s fun c c' =>
      c'.mem.flashByte (slot.val * slotBytes + k) = c.mem.byte (l.addr + k) ∧ c'.mem.cells = c.mem.cells ∧
      c'.mem.slotWord slot 0 = l.version % 2 ^ 32 ∧ c'.mem.slotWord slot 1 = l.length ∧
      c'.mem.slotWord slot 2 = l.crc % 2 ^ 32 ∧
      Sets c.dev c'.dev [(F.LAM_STATUS_FLASH_BUSY, 0), (F.LAM_EVENTS_SAVE_DONE, 1)]
        [F.LAM_SLOT_VER_VERSION 0, F.LAM_SLOT_VER_VERSION 1] ∧ LamOnly c.dev c'.dev) ∧
  (m0.flash = some (slot.val, save) → ok = false →
    Turns (.flashDone ok) s fun c c' =>
      Sets c.dev c'.dev [(F.LAM_STATUS_FLASH_BUSY, 0), (F.LAM_EVENTS_SAVE_FAIL, 1)]
        [F.LAM_SLOT_VER_VERSION 0, F.LAM_SLOT_VER_VERSION 1] ∧ c'.mem.cells = c.mem.cells ∧
      c'.dev.sys.lam = { m0 with flash := none } ∧ LamOnly c.dev { c'.dev with freeCtr := c.dev.freeCtr }) ∧
  (m0.flash = none → Moves (.flashDone ok) s fun d d' => d' = d)

/-- VERIFY's end, the EARLY copies, the switch's drain, its record step and its end, the confirm window and the flash
(R392 to R394, R396, R398 to R403). That the record step comes at B + 2 ticks is assumption 70, that AUTO_ROLLBACK is
set at the rollback's completion assumption 76, and what an EARLY copy onto an image that is held does assumption 225.
An event whose own condition does not hold leaves the state as it is (assumption 1). -/
def LamSwitch : Prop :=
  ∀ s l ss v a ok save b e asked k auto slot q x ch l' ss', Live s →
    LamSwitchAt s l ss v a ok save b e asked k auto slot q x ch l' ss'

/-- RESET_N and the supplies, in any state. -/
abbrev ResetPinAt (s : State) (lowNs : Nat) (role boot hqMode bypass : Bool) : Prop :=
  let d0 := s.chip.dev
  let bare := fun (c c' : Chip) (resetN supply : Bool) (j : Jtag) =>
    c'.dev = { Dev.reset with resetN := resetN, supplyOk := supply, missing := c.dev.missing, freeCtr := c.dev.freeCtr,
                              sys := { Sys.init with jtag := j } } ∧ c'.mem = ⟨[], c.mem.flash⟩
  (50 ≤ lowNs →
    Turns (.resetNAssert lowNs) s fun c c' => bare c c' false c.dev.supplyOk { Jtag.init with ir := c.dev.sys.jtag.ir }) ∧
  (lowNs < 50 → Turns (.resetNAssert lowNs) s fun c c' => c' = c) ∧
  Turns .supplyFail s (fun c c' => bare c c' c.dev.resetN false Jtag.init) ∧
  Moves .supplyRestored s (fun d d' => d' = { d with supplyOk := true }) ∧
  (d0.supplyOk = true → d0.resetN = false ∨ d0.time.running = false →
    Moves (.resetNRise role boot hqMode bypass) s fun d d' =>
      d'.resetN = true ∧ Sets d d' [(F.SYS_STRAPS_ROLE, bit role), (F.SYS_STRAPS_BOOT, bit boot),
        (F.SYS_STRAPS_HQ_MODE, bit hqMode), (F.SYS_STRAPS_XTAL_BYPASS, bit bypass), (F.SYS_HQ_CFG_CMD4, bit hqMode),
        (F.TWIN_CFG_ROLE, bit role)] [] ∧ { d' with regs := d.regs, resetN := d.resetN } = d) ∧
  (d0.supplyOk = true → d0.resetN = true → d0.time.running = true →
    Moves (.resetNRise role boot hqMode bypass) s fun d d' => d' = d) ∧
  (d0.supplyOk = false →
    Moves (.resetNRise role boot hqMode bypass) s fun d d' => d' = { d with resetN := true })

/-- A low pulse on RESET_N leaves every register at its reset value, every other state empty and Saltern lost; its rise
samples the straps; the supplies hold and release the chip (R9, R360, R407, R430, R431, R434). The free-value counter,
the flash and the test port's instruction are kept (assumptions 3 and 8), which supplies are absent stands for itself
(assumption 207), a rise while RESET_N is high samples the straps before TIME runs and not after (assumption 5), a
failing supply resets the test port too (assumption 7), and Saltern reads 0 once its contents are lost (assumption 103).
An event whose own condition does not hold leaves the state as it is (assumption 1). -/
def ResetPin : Prop := ∀ s lowNs role boot hqMode bypass, ResetPinAt s lowNs role boot hqMode bypass

/-- Unit reset (`kind`, `index`), for a field `f` of the unit or of another, the units and contexts numbered `j`, and
the drive pads `i`. -/
abbrev UnitResetAt (s : State) (kind : BitVec 4) (index : BitVec 10) (f : Fld) (i : Fin 48) (v : Word) (k j : Nat) : Prop :=
  let d0 := s.chip.dev
  let j0 := d0.sys.jtag
  let ki := kind.toNat
  let ix := index.toNat
  let there := d0.unitExists ki ix = true
  let gen := (Sparse.get (fun _ => 0) j0.gens (1024 * ki + ix) + 1) % 16
  let busyPad := if i < 8 then d0.groupQuiet i = false else if i.val = 8 then ((List.range 8).any fun g => d0.bstate g != bOff) = true
    else if 16 ≤ i.val then d0.on (F.PORT_CTL_EN (i - 16)) = true else False
  let slots := fun (t : Nat) => s.chip.mem.slotValid t
  let scrubs := d0.sys.scrubbed = false ∧ d0.time.running = true
  let other := fun (n : Nat) => ki ≠ n ∨ ix ≠ j
  let verOf := fun (t : Nat) => if slots t = true then s.chip.mem.slotWord t 0 else 0
  (there → unitOf f.reg = some (ki, ix) → keptAt f.reg = false →
    Turns (.unitReset kind index) s fun _ c' =>
      c'.dev.rd f = fieldReset f.id ∧ c'.dev.unitHeld ki ix = true ∧ c'.dev.sys.jtag.done = false ∧
      c'.dev.sys.jtag.refused = false ∧ c'.dev.sys.jtag.kind = ki ∧ c'.dev.sys.jtag.index = ix ∧
      Sparse.get (fun _ => 0) c'.dev.sys.jtag.gens (1024 * ki + ix) = gen) ∧
  (there → Turns (.unitReset kind index) s fun _ c' =>
    (ki = 1 → c'.dev.mac ix = { Mac.init with last := (c'.dev.mac ix).last } ∧ c'.dev.rd (F.MAC_POOL_FREE ix) = 0) ∧
    (ki = 2 → c'.dev.rxf ix = RxFlow.init) ∧ (ki = 3 → c'.dev.txf ix = TxFlow.init) ∧
    (ki = 4 → (c'.dev.ctx (4 * ix + k % 4)).g = [] ∧ (c'.dev.ctx (4 * ix + k % 4)).a = [] ∧
      (c'.dev.ctx (4 * ix + k % 4)).fsr = 0 ∧ c'.dev.tlb ix = [] ∧ c'.dev.lines ix = []) ∧
    (ki = 5 → c'.dev.sap ix = Sap.init) ∧ (ki = 6 → c'.dev.gang ix = Gang.init ∧ c'.dev.fltLive ix = 0) ∧ (ki = 7 → c'.dev.bst ix = Bst.init) ∧
    (ki = 8 → c'.dev.teu ix = Teu.init)) ∧
  (there → Turns (.unitReset kind index) s fun c c' =>
    (other 1 → ki ≠ 8 → c'.dev.mac j = c.dev.mac j) ∧ (other 2 → c'.dev.rxf j = c.dev.rxf j) ∧
    (other 3 → c'.dev.txf j = c.dev.txf j) ∧ (ki ≠ 4 ∨ ix ≠ j / 4 → c'.dev.ctx j = c.dev.ctx j) ∧
    (other 5 → c'.dev.sap j = c.dev.sap j) ∧ (other 6 → ki ≠ 7 → c'.dev.gang j = c.dev.gang j) ∧
    (other 7 → c'.dev.bst j = c.dev.bst j) ∧ (other 8 → c'.dev.teu j = c.dev.teu j) ∧
    c'.dev.time = c.dev.time ∧ c'.dev.sys.twin = c.dev.sys.twin ∧ (ki ≠ 1 → ki ≠ 4 → ki ≠ 8 → c'.mem = c.mem)) ∧
  (there → unitOf f.reg = some (k / 32, j) → k / 32 ≠ ki ∨ j ≠ ix → (ki = 2 → k / 32 ≠ 2) → (ki = 7 → k / 32 ≠ 6) →
      (ki = 8 → k / 32 ≠ 8 ∧ k / 32 ≠ 1) →
    Turns (.unitReset kind index) s fun c c' => c'.dev.rd f = c.dev.rd f) ∧
  (d0.unitExists ki ix = false →
    Moves (.unitReset kind index) s fun d d' =>
      Sets d d' [] [] ∧ { d' with sys := d.sys } = d ∧
      d'.sys.jtag = { j0 with ir := JtagIr.unitReset, kind := ki, index := ix, done := false, refused := true }) ∧
  (d0.unitHeld ki ix = true →
    Moves (.unitResetDone kind index) s fun d d' =>
      d'.unitHeld ki ix = false ∧ (j0.kind = ki → j0.index = ix → d'.sys.jtag.done = true) ∧
      { d' with sys := d.sys } = d ∧ d'.sys.jtag.gens = j0.gens) ∧
  (d0.unitHeld ki ix = false → Moves (.unitResetDone kind index) s fun d d' => d' = d) ∧
  (scrubs → d0.on F.SYS_STRAPS_BOOT = true →
    Turns .scrubDone s fun c c' =>
      Sets c.dev c'.dev [(F.LAM_SLOT_VER_VERSION 0, verOf 0), (F.LAM_SLOT_VER_VERSION 1, verOf 1)] [] ∧
      { c'.dev with regs := c.dev.regs } =
        { c.dev with sys := { c.dev.sys with scrubbed := true }, badRows := [] } ∧ (k < 2 ^ 26 → c'.mem.byte k = 0) ∧
      c'.mem.flash = c.mem.flash) ∧
  (scrubs → d0.on F.SYS_STRAPS_BOOT = false → slots 0 = false → slots 1 = false →
    Turns .scrubDone s fun c c' =>
      c'.dev.sys.scrubbed = true ∧ c'.dev.badRows = [] ∧ (k < 2 ^ 26 → c'.mem.byte k = 0) ∧
      Sets c.dev c'.dev ([(F.LAM_SLOT_VER_VERSION 0, 0), (F.LAM_SLOT_VER_VERSION 1, 0)] ++ verdictF ⟨1, nowhere, none⟩) otherF) ∧
  (scrubs → d0.on F.SYS_STRAPS_BOOT = false → slots 0 = true → slots 1 = false → k < s.chip.mem.slotWord 0 1 →
    Turns .scrubDone s fun c c' =>
      c'.dev.sys.scrubbed = true ∧ c'.mem.byte (bootAddr + k) = c.mem.flashByte k ∧
      c'.dev.rd (F.LAM_SLOT_VER_VERSION 0) = c.mem.slotWord 0 0 ∧ c'.dev.rd F.LAM_STAGE_ADDR_ADDR = bootAddr) ∧
  -- two valid slots: the larger SEQ, slot 0 on a tie; the other one where LOAD refuses that image
  (scrubs → d0.on F.SYS_STRAPS_BOOT = false → slots 0 = true → slots 1 = true →
    let t := if s.chip.mem.slotWord 0 3 < s.chip.mem.slotWord 1 3 then 1 else 0
    let image := fun (u : Nat) => (List.range (s.chip.mem.slotWord u 1)).map fun b => s.chip.mem.flashByte (u * slotBytes + b)
    let lost : Mem := ⟨s.chip.mem.cells.filter fun p => decide (2 ^ 26 ≤ p.1), s.chip.mem.flash⟩
    let staged : Chip := ⟨d0, lost.storeBytes bootAddr (image t)⟩
    let loads := (staged.format bootAddr).toOption.isSome
    let u := if loads = true then t else 1 - t
    Turns .scrubDone s fun c c' =>
      c'.dev.sys.scrubbed = true ∧ c'.dev.rd (F.LAM_SLOT_VER_VERSION 0) = c.mem.slotWord 0 0 ∧
      c'.dev.rd (F.LAM_SLOT_VER_VERSION 1) = c.mem.slotWord 1 0 ∧ c'.dev.rd F.LAM_STAGE_ADDR_ADDR = bootAddr ∧
      (loads = true → c'.dev.lstate = 2 ∧ c'.dev.sys.lam.boot = some [1 - t]) ∧
      (k < c.mem.slotWord u 1 → c'.mem.byte (bootAddr + k) = c.mem.flashByte (u * slotBytes + k))) ∧
  (d0.sys.scrubbed = true → Turns .scrubDone s fun c c' => c' = c) ∧
  (isPad i = true → ¬ busyPad →
    Moves (.padWrite i v) s fun d d' =>
      Writes d d' ([(F.PAD_DRIVE i, v.toNat % 4), (F.PAD_SLEW i, min 2 (v.toNat / 4 % 4))] ++
        if bitAt v.toNat 31 = true then [(F.PAD_DENIED i, 0)] else []) []) ∧
  (isPad i = true → busyPad → Moves (.padWrite i v) s fun d d' =>
    Writes d d' [(F.PAD_DENIED i, bit (!bitAt v.toNat 31))] [])

/-- A unit's reset point and its end, the scrub's end and the boot, and the pads: another unit's registers and state
stay (a reset of a flow, of a rail controller or of a time event unit also shows in the shadowing flows, the group's
gangs and the launch classes), and writing 1 to DENIED clears it even where the rest is refused (R405, R435, R437, R441
to R444, R454). SLOT_VER is brought up to date at the scrub's end with BOOT high too (assumption 83). An event whose own
condition does not hold leaves the state as it is (assumption 1). -/
def UnitReset : Prop :=
  ∀ s kind index f i v k j, Live s → UnitResetAt s kind index f i v k j

/-- The test port's instructions. -/
abbrev TestPortAt (s : State) : Prop :=
  let selects := fun (c : Instr) (r : JtagIr) =>
    Moves c s fun d d' => d' = { d with sys := { d.sys with jtag := { d.sys.jtag with ir := r } } }
  selects .extest JtagIr.extest ∧ selects .idcode JtagIr.idcode ∧ selects .samplePreload JtagIr.samplePreload ∧
  selects .highz JtagIr.highz ∧ selects .clamp JtagIr.clamp ∧ selects .bypass JtagIr.bypass ∧
  selects .testLogicReset JtagIr.idcode

/-- Each JTAG instruction becomes the current one, and Test-Logic-Reset selects IDCODE, in reset or not, while the
supplies hold (R430, R462). -/
def TestPort : Prop := ∀ s, s.chip.dev.supplyOk = true → TestPortAt s

/-- No state but registers and the twin logic's own differs. -/
abbrev TwinOnly (d d' : Dev) : Prop :=
  { d' with regs := d.regs, sys := { d'.sys with twin := d.sys.twin } } = d

/-- The register fields of a take in state `d` (R375, R376). -/
def tookF (d : Dev) : List (Fld × Nat) :=
  [(F.TWIN_STATUS_PERMIT, 1), (F.MOD_STATUS_PERMIT, 1), (F.TWIN_EVENTS_TOOK, 1),
    (F.TWIN_CNT_COUNT 0, min (d.rd (F.TWIN_CNT_COUNT 0) + 1) (2 ^ 32 - 1)), (F.TWIN_TAKE_NS_NS, d.nowNs)]

/-- How many frames wait in class 6 for a holder that a release makes withhold them (R366). -/
def waitsSix (d : Dev) : Nat :=
  if d.rd F.TWIN_CFG_TX_HOLDER = 0 then 0 else (([0, 1, 2, 3] : List Nat).map fun p => (d.mac p).c6.length).sum

/-- The register fields of a release in state `d` (R366, R373, R375). -/
def releasedF (d : Dev) : List (Fld × Nat) :=
  [(F.TWIN_STATUS_PERMIT, 0), (F.MOD_STATUS_PERMIT, 0), (F.TWIN_EVENTS_RELEASED, 1),
    (F.TWIN_CNT_COUNT 1, min (d.rd (F.TWIN_CNT_COUNT 1) + 1) (2 ^ 32 - 1)),
    (F.TWIN_CNT_COUNT 7, min (d.rd (F.TWIN_CNT_COUNT 7) + waitsSix d) (2 ^ 32 - 1))]

/-- The fields that a change of FIT may move (R382, R388). -/
def fitEvF : List Fld :=
  [F.TWIN_STATUS_FIT, F.TWIN_STATUS_UNFIT_CAUSE, F.TWIN_EVENTS_FIT_EV, F.TWIN_EVENTS_UNFIT_EV]

/-- FIT and CONVERGED cleared, in state `d` (R375). -/
def unfitF (d : Dev) : List (Fld × Nat) :=
  [(F.TWIN_STATUS_FIT, 0), (F.TWIN_STATUS_CONVERGED, 0),
    (F.TWIN_EVENTS_UNFIT_EV, if d.rd F.TWIN_STATUS_FIT = 0 then d.rd F.TWIN_EVENTS_UNFIT_EV else 1)]

/-- No deadline is past, none is due and none was missed. -/
abbrev Afresh (t : Twin) : Prop := t.misses = 0 ∧ t.deadline = none ∧ t.due = [] ∧ t.arrived = []

/-- The twin logic holds permission anew: every group waits for its next carrier cycle, HB_OUT is low, the heartbeat is
judged afresh, BST_SCLK is driven from its edge after `e`, and R376's hold runs for 128 BST_SCLK cycles from there. -/
abbrev Takes (d d' : Dev) (e : Nat) : Prop :=
  d'.sys.twin.hbOut = .low ∧ d'.sys.twin.undriven = List.range 8 ∧ d'.sys.twin.force = false ∧
    d'.sys.twin.since = d.sys.twin.since ∧ d'.sys.twin.sclkFrom = (e / 64 + 1) * 64 ∧ Afresh d'.sys.twin ∧
    d'.sys.twin.holdUntil = (if d.sys.twin.since.isSome = true then (e / 64 + 1) * 64 + 8192 else 0) ∧ TwinOnly d d'

/-- The twin logic has let go: HB_OUT high-Z, no confirmation, no pending force and no announced handover; the frames
that waited in class 6 of a holder that sends alone are gone, and no packet now being gathered goes out (R366). -/
abbrev LetsGo (d d' : Dev) : Prop :=
  d'.sys.twin.hbOut = .z ∧ d'.sys.twin.confirmed = false ∧ d'.sys.twin.force = false ∧ d'.sys.twin.since = none ∧
    d'.sys.twin.handover = none ∧
    (∀ p ∈ ([0, 1, 2, 3] : List Nat), d'.mac p = if d.rd F.TWIN_CFG_TX_HOLDER = 0 then d.mac p
      else { d.mac p with c6 := [], ripe := (d.mac p).ripe.filter (· != 6) }) ∧
    (∀ f ∈ List.range 128, d'.txf f = { d.txf f with cur := (d.txf f).cur.map fun g => { g with sent := false } }) ∧
    { d' with regs := d.regs, net := { d'.net with macs := d.net.macs, txs := d.net.txs },
              sys := { d'.sys with twin := d.sys.twin } } = d

/-- The baton's commands and the holder's, at a CLK_EDGE time `e`. -/
abbrev BatonAt (s : State) (e : Nat) : Prop :=
  let d0 := s.chip.dev
  let uncut := d0.cut = false
  let t0 := d0.sys.twin
  let st := d0.rd F.TWIN_STATUS_STATE
  let twin := d0.rd F.TWIN_CFG_MODE = 1
  let solo := d0.rd F.TWIN_CFG_MODE = 0
  let holds := d0.rd F.TWIN_STATUS_PERMIT = 1
  let free := d0.rd F.TWIN_STATUS_PERMIT = 0
  let high := d0.rd F.TWIN_STATUS_BATON = 1
  let low := d0.rd F.TWIN_STATUS_BATON = 0
  let lock := d0.rd F.MEDPLL_STATUS_LOCK = 1
  let own := d0.rd F.LAM_VER_CUR_VERSION
  let agree := t0.partner = none ∨ own = d0.rd F.TWIN_VERSION_PARTNER
  let across := twin ∧ (st = 3 ∨ st = 4 ∨ st = 5) ∧ (t0.holderVer.any fun v => v != own) = true
  let waited := t0.since.isSome = true ∧
    (t0.since.getD (0, 0)).1 + (if d0.rd F.TWIN_CFG_ROLE = 0 then 2 else 16) ≤ d0.tick
  (uncut → Moves (.batonConfirmed (.seen e)) s fun d d' =>
    Sets d d' [(F.TWIN_STATUS_BATON, 1)] [] ∧ TwinOnly d d' ∧
    d'.sys.twin = { t0 with since := if holds ∨ t0.since.isSome = true then t0.since else some (d.tick, e) }) ∧
  (uncut → twin → free → (st = 3 ∨ st = 5) →
    Moves (.batonConfirmed (.confirmed e)) s fun d d' =>
      Sets d d' [(F.TWIN_STATUS_STATE, 4), (F.TWIN_STATUS_BATON, 1)] [] ∧ d'.sys.twin.confirmed = true ∧
      d'.sys.twin.hbOut = .low ∧
      d'.sys.twin.since = (if t0.since.isSome = true then t0.since else some (d.tick, e)) ∧
      TwinOnly d d') ∧
  (uncut → twin → free → st = 1 → t0.force = true → agree →
    Moves (.batonConfirmed (.confirmed e)) s fun d d' =>
      Sets d d' (tookF d ++ [(F.TWIN_STATUS_STATE, 2), (F.TWIN_STATUS_BATON, 1)]) [] ∧
      Takes { d with sys := { d.sys with twin := { t0 with since := some (t0.since.getD (d.tick, e)) } } } d' (e + 256)) ∧
  (holds → Moves (.batonConfirmed (.confirmed e)) s fun d d' => d' = d) ∧
  (¬ uncut → Moves (.batonConfirmed (.seen e)) s (fun d d' => d' = d) ∧
    Moves (.batonConfirmed (.confirmed e)) s (fun d d' => d' = d) ∧ Moves .batonLost s (fun d d' => d' = d) ∧
    Moves .batonFalls s (fun d d' => d' = d)) ∧
  (uncut → twin → st = 2 →
    Moves .batonLost s fun d d' =>
      Sets d d' (releasedF d ++ [(F.TWIN_STATUS_STATE, 1), (F.TWIN_EVENTS_BATON_FAULT, 1)]) [] ∧ LetsGo d d') ∧
  (¬ (twin ∧ st = 2) → Moves .batonLost s fun d d' => d' = d) ∧
  (uncut → Moves .batonFalls s fun d d' =>
      Sets d d' [(F.TWIN_STATUS_BATON, 0), (F.TWIN_STATUS_STATE, if d.twinMode = true ∧ st = 4 then 3 else st)] [] ∧
      d' = { d with regs := d'.regs, sys := { d.sys with twin := { t0 with
        confirmed := false, since := if holds then t0.since else none, force := false } } }) ∧
  (twin → st = 1 → high → waited → lock → d0.rd F.TIME_STATUS_MEDIA_VALID = 1 → own ≠ 0 →
    d0.rd F.TWIN_STATUS_INHIBIT = 0 → d0.rd F.TWIN_STATUS_ROLE_CLASH = 0 →
    Moves (.initialClaim e) s fun d d' => Sets d d' (tookF d ++ [(F.TWIN_STATUS_STATE, 2)]) [] ∧ Takes d d' e) ∧
  ((low ∨ ¬ waited ∨ d0.rd F.TWIN_STATUS_INHIBIT = 1 ∨ d0.rd F.TWIN_STATUS_ROLE_CLASH = 1 ∨ own = 0) →
    Moves (.initialClaim e) s fun d d' => d' = d) ∧
  (twin → st = 5 → t0.claim + 8 ≤ d0.tick →
    Moves .claimTimeout s fun d d' =>
      Sets d d' [(F.TWIN_STATUS_STATE, 3), (F.TWIN_EVENTS_CLAIM_FAIL, 1)] [] ∧
      d' = { d with regs := d'.regs, sys := { d.sys with twin := { t0 with hbOut := .low } } }) ∧
  (d0.tick < t0.claim + 8 → Moves .claimTimeout s fun d d' => d' = d) ∧
  (twin → st = 2 → t0.hbIn = true → d0.cut = false →
    Moves .holderYield s fun d d' =>
      Sets d d' (releasedF d ++ unfitF d ++ [(F.TWIN_STATUS_STATE, 1), (F.TWIN_EVENTS_YIELDED, 1)]) [] ∧ LetsGo d d') ∧
  ((t0.hbIn = false ∨ d0.cut = true) → Moves .holderYield s fun d d' => d' = d) ∧
  (twin → holds →
    Moves .watchdogFire s fun d d' =>
      Sets d d' (releasedF d ++ unfitF d ++ [(F.TWIN_STATUS_STATE, 1), (F.TWIN_EVENTS_WDOG, 1),
        (F.TWIN_CNT_COUNT 4, min (d.rd (F.TWIN_CNT_COUNT 4) + 1) (2 ^ 32 - 1))]) [] ∧ LetsGo d d') ∧
  (solo → holds →
    Moves .watchdogFire s fun d d' =>
      Sets d d' (releasedF d ++ [(F.TWIN_EVENTS_WDOG, 1),
        (F.TWIN_CNT_COUNT 4, min (d.rd (F.TWIN_CNT_COUNT 4) + 1) (2 ^ 32 - 1))]) [] ∧ LetsGo d d' ∧
      d'.sys.twin.released = true) ∧
  (free → Moves .watchdogFire s fun d d' => d' = d) ∧
  (twin → st ≠ 2 → high → agree → ¬ across → t0.confirmed = true →
    Moves (.forceTake e) s fun d d' =>
      Sets d d' (tookF d ++ [(F.TWIN_STATUS_STATE, 2), (F.TWIN_STATUS_INHIBIT, 0)]) [] ∧ Takes d d' e) ∧
  (twin → st ≠ 2 → high → agree → ¬ across → t0.confirmed = false →
    Moves (.forceTake e) s fun d d' =>
      Sets d d' [(F.TWIN_STATUS_INHIBIT, 0)] [] ∧ d'.sys.twin = { t0 with force := true } ∧ TwinOnly d d') ∧
  (twin → st ≠ 2 → (low ∨ ¬ agree ∨ across) →
    Moves (.forceTake e) s fun d d' => Writes d d' [(F.TWIN_EVENTS_TAKE_BLOCKED, 1), (F.TWIN_STATUS_INHIBIT, 0)] []) ∧
  (solo → free → lock → t0.released = true →
    Moves (.forceTake e) s fun d d' =>
      Sets d d' (tookF d) [] ∧ Takes d d' e ∧ d'.sys.twin.released = false) ∧
  (solo → free → ¬ lock →
    Moves (.forceTake e) s fun d d' => Writes d d' [(F.TWIN_EVENTS_TAKE_BLOCKED, 1)] []) ∧
  (solo → holds → Moves (.forceTake e) s fun d d' => d' = d) ∧
  (twin → st = 2 →
    Moves .forceRelease s fun d d' =>
      Sets d d' (releasedF d ++ unfitF d ++ [(F.TWIN_STATUS_STATE, 1), (F.TWIN_STATUS_INHIBIT, 1)]) [] ∧ LetsGo d d') ∧
  (solo → holds →
    Moves .forceRelease s fun d d' => Sets d d' (releasedF d) [] ∧ LetsGo d d' ∧ d'.sys.twin.released = true)

/-- BATON's rise, confirmation and fall, the initial claim, the ends of a claim, and the holder's releases (R364, R366,
R373 to R376, R378, R380, R382, R388). A FORCE.TAKE that is blocked clears INHIBIT too, and one with BATON high and not
confirmed yet waits (assumption 55); BST_SCLK's edges lie at the multiples of 64 (assumption 216); what BATON's events
do is assumption 208, and none reaches the logic while the test port cuts the pins (R463, assumption 217). An event
whose own condition does not hold leaves the state as it is (assumption 1). -/
def Baton : Prop := ∀ s e, Live s → BatonAt s e

/-- The heartbeat and the handover, for an edge stamped `e`, a deadline at `e`, which counts where a carrier cycle start
has set it, and a partner's frame `p`. -/
abbrev HeartbeatAt (s : State) (e : Nat) (l : Bool) (p : List Nat) (at_ : Nat) : Prop :=
  let d0 := s.chip.dev
  let t0 := d0.sys.twin
  let st := d0.rd F.TWIN_STATUS_STATE
  let twin := d0.rd F.TWIN_CFG_MODE = 1
  let hit := t0.arrived.any (fun a => decide (a ≤ e) && decide (t0.deadline.all fun q => decide (q < a))) = true
  let n := if hit then 0 else t0.misses + 1
  let period := d0.rd (F.MOD_GRP_CARRIER_DIV 0)
  let close := fun (a b : Nat) => decide (a ≤ b ∧ 2 * (b - a) ≤ 3 * period)
  let dual := 2 ≤ t0.edges.length ∧ close (t0.edges.reverse.getD 1 0) (t0.edges.reverse.getD 0 0) = true ∧
    close (t0.edges.reverse.getD 0 0) e = true
  let clash := d0.rd F.TWIN_STATUS_ROLE_CLASH = 1
  let forced := t0.force = true ∧ (t0.partner = none ∨ d0.rd F.LAM_VER_CUR_VERSION = d0.rd F.TWIN_VERSION_PARTNER) ∧
    (t0.holderVer = none ∨ t0.holderVer = some (d0.rd F.LAM_VER_CUR_VERSION))
  let due := e ∈ t0.due
  let missed := [(F.TWIN_STATUS_HB_OK, 0), (F.TWIN_CNT_COUNT 2, min (d0.rd (F.TWIN_CNT_COUNT 2) + 1) (2 ^ 32 - 1)),
    (F.TWIN_EVENTS_HB_LOST, if 2 ≤ n then 1 else d0.rd F.TWIN_EVENTS_HB_LOST)]
  let ready := t0.partner = some (p, at_) ∧ bitAt (p.getD 0 0) 21 = true ∧ bitAt (p.getD 0 0) 20 = true
  let noted := fun (t t' : Twin) => t'.deadline = some e ∧ t'.misses = n ∧
    t'.arrived = t.arrived.filter (fun a => decide (e < a)) ∧ t'.due = t.due.filter (fun a => decide (e < a))
  (twin → d0.cut = false → ¬ (st = 2 ∧ dual) →
    Moves (.hbInEdge e l) s fun d d' =>
      d' = { d with sys := { d.sys with twin := { t0 with
        hbIn := l, edges := (t0.edges ++ [e]).drop (t0.edges.length - 2),
        arrived := if st = 3 ∨ st = 4 ∨ st = 5 then t0.arrived ++ [e] else [] } } }) ∧
  (twin → d0.cut = false → st = 2 → dual → (d0.rd F.TWIN_CFG_ROLE = 1 ∨ d0.rd F.TWIN_STATUS_ROLE_CLASH = 1) →
    Moves (.hbInEdge e l) s fun d d' =>
      Sets d d' (releasedF d ++ unfitF d ++
        [(F.TWIN_STATUS_STATE, 1), (F.TWIN_STATUS_INHIBIT, 1), (F.TWIN_EVENTS_DUAL_HOLD, 1)]) [] ∧ LetsGo d d') ∧
  (twin → d0.cut = false → st = 2 → dual → d0.rd F.TWIN_CFG_ROLE = 0 → d0.rd F.TWIN_STATUS_ROLE_CLASH = 0 →
    Moves (.hbInEdge e l) s fun d d' => Sets d d' [(F.TWIN_EVENTS_DUAL_HOLD, 1)] [] ∧ TwinOnly d d') ∧
  ((¬ twin ∨ d0.cut = true) → Moves (.hbInEdge e l) s fun d d' => d' = d) ∧
  (twin → (st = 3 ∨ st = 4 ∨ st = 5) → due → hit →
    Moves (.hbDeadline e) s fun d d' =>
      Sets d d' [(F.TWIN_STATUS_HB_OK, 1), (F.TWIN_STATUS_STATE, 3),
        (F.TWIN_EVENTS_BATON_FAULT, if st = 4 then 1 else d.rd F.TWIN_EVENTS_BATON_FAULT)] fitEvF ∧
      noted d.sys.twin d'.sys.twin ∧ d'.sys.twin.hbOut = (if st = 5 then .low else t0.hbOut) ∧ TwinOnly d d') ∧
  (twin → st = 3 → due → ¬ hit → (n < 2 ∨ d0.rd F.TWIN_STATUS_BATON = 1) →
    Moves (.hbDeadline e) s fun d d' =>
      Sets d d' missed fitEvF ∧ noted d.sys.twin d'.sys.twin ∧ d'.sys.twin.hbOut = t0.hbOut ∧ TwinOnly d d') ∧
  (twin → st = 3 → due → ¬ hit → 2 ≤ n → d0.rd F.TWIN_STATUS_BATON = 0 → d0.unfitCause = 0 →
    Moves (.hbDeadline e) s fun d d' =>
      Sets d d' (missed ++ [(F.TWIN_STATUS_STATE, 5), (F.TWIN_EVENTS_CLAIM_SENT, 1), (F.TWIN_STATUS_FIT, 1),
        (F.TWIN_CNT_COUNT 3, min (d.rd (F.TWIN_CNT_COUNT 3) + 1) (2 ^ 32 - 1))]) fitEvF ∧
      noted d.sys.twin d'.sys.twin ∧ d'.sys.twin.hbOut = .high ∧ d'.sys.twin.claim = d.tick ∧ TwinOnly d d') ∧
  (twin → st = 4 → due → ¬ hit → (d0.unfitCause = 0 ∧ ¬ clash ∨ forced) →
    Moves (.hbDeadline e) s fun d d' =>
      Sets d d' (missed ++ tookF d ++ [(F.TWIN_STATUS_STATE, 2)]) fitEvF ∧ Takes d d' (e + 8)) ∧
  (twin → st = 4 → due → ¬ hit → (d0.unfitCause ≠ 0 ∨ clash) → ¬ forced →
    Moves (.hbDeadline e) s fun d d' =>
      Sets d d' (missed ++ [(F.TWIN_STATUS_STATE, 3), (F.TWIN_EVENTS_TAKE_BLOCKED, 1), 
        (F.TWIN_STATUS_FIT, if d.unfitCause = 0 then 1 else 0), (F.TWIN_STATUS_UNFIT_CAUSE, d.unfitCause)]) fitEvF ∧
      noted d.sys.twin d'.sys.twin ∧ d'.sys.twin.hbOut = t0.hbOut ∧ TwinOnly d d') ∧
  (¬ (twin ∧ (st = 3 ∨ st = 4 ∨ st = 5) ∧ due) → Moves (.hbDeadline e) s fun d d' => d' = d) ∧
  (twin → st = 2 → d0.rd F.TWIN_STATUS_QLINK_UP = 1 → ready →
    Moves .forceHandover s fun d d' =>
      Sets d d' [(F.TWIN_HANDOVER_AT_TICK, (d.mediaTick + 8) % 2 ^ 32)] [] ∧
      d' = { d with regs := d'.regs, sys := { d.sys with twin := { t0 with handover := some ((d.mediaTick + 8) % 2 ^ 32) } } }) ∧
  ((¬ twin ∨ st ≠ 2 ∨ d0.rd F.TWIN_STATUS_QLINK_UP = 0 ∨ t0.partner = none ∨
      (t0.partner = some (p, at_) ∧ (p.getD 0 0 / 2 ^ 21 % 2 = 0 ∨ p.getD 0 0 / 2 ^ 20 % 2 = 0))) →
    Moves .forceHandover s fun d d' => Writes d d' [(F.TWIN_EVENTS_HANDOVER_DENIED, 1)] []) ∧
  (twin → st = 2 → t0.handover = some at_ → (d0.mediaTick + 2 ^ 32 - at_) % 2 ^ 32 < 2 ^ 31 →
    Moves .handoverRelease s fun d d' =>
      Sets d d' (releasedF d ++ [(F.TWIN_STATUS_STATE, 3)]) fitEvF ∧ LetsGo d d' ∧ Afresh d'.sys.twin ∧
      d'.sys.twin.holderVer = t0.partner.map fun q => q.1.getD 2 0) ∧
  (t0.handover = none → Moves .handoverRelease s fun d d' => d' = d)

/-- Heartbeat edges, deadlines and handovers (R364, R371, R372, R375 to R379, R382, R387). HB_LOST is set at every
deadline with two misses or more (assumption 54); HANDOVER_DENIED is set on a chip of a twin that does not hold
(assumption 56). HB_IN does not reach the logic while the test port cuts the pins (R463). An event whose own condition
does not hold leaves the state as it is (assumption 1). -/
def Heartbeat : Prop := ∀ s e l p at_, Live s → HeartbeatAt s e l p at_

/-- Frames `ws` of the Q-link, its state, warm joins and proof channel `i`, whose holder's STATE is `fr`; a holder's
one run of twin pages is `k + 1` frames of 1024 bytes at `own`. -/
abbrev QLinkAt (s : State) (ws : List Word) (lost : Bool) (i : Fin 8) (g : Fin 8) (k : Fin 32) (fr : List Nat) (own : Nat) : Prop :=
  let d0 := s.chip.dev
  let t0 := d0.sys.twin
  let st := d0.rd F.TWIN_STATUS_STATE
  let js := d0.rd F.TWIN_STATUS_JOIN_STATE
  let twin := d0.rd F.TWIN_CFG_MODE = 1
  let standby := twin ∧ (st = 3 ∨ st = 4 ∨ st = 5)
  let v : Nat → Nat := fun j => (ws.map BitVec.toNat).getD j 0
  let crcOk := 2 ≤ ws.length ∧ v (ws.length - 1) = crcWords (ws.map (·.toNat)).dropLast
  let type : Nat := v 0 / 2 ^ 24 % 256
  let isState := crcOk ∧ ws.length = 25 ∧ type = 1
  let isJoin := crcOk ∧ ws.length = 3 ∧ type = 3
  let len : Nat := v 2
  let kind : Nat := v 1 / 2 ^ 31 % 2
  let isData := crcOk ∧ type = 2 ∧ len % 4 = 0 ∧ 4 ≤ len ∧ len ≤ 1024 ∧ ws.length = 4 + len / 4
  let adr : Nat := v 1 % 2 ^ 26
  let holder : Nat := v 0 / 2 ^ 22 % 2
  let partnerF := [(F.TWIN_VERSION_PARTNER, v 2), (F.TWIN_STATUS_PARTNER_HOLDER, holder),
    (F.TWIN_STATUS_PARTNER_FIT, v 0 / 2 ^ 21 % 2),
    (F.TWIN_STATUS_ROLE_CLASH, if v 0 / 2 ^ 23 % 2 = d0.rd F.TWIN_CFG_ROLE then 1 else 0)]
  let bad := fun (d d' : Dev) =>
    Sets d d' [(F.TWIN_CNT_COUNT 5, min (d.rd (F.TWIN_CNT_COUNT 5) + 1) (2 ^ 32 - 1))] [] ∧
    d' = { d with regs := d'.regs, sys := { d.sys with twin := { t0 with goodRun := 0 } } }
  let mine := fun (w : List Nat) => w ++ [crcWords w]
  let kept := t0.out.filter fun w =>
    !(w.getD 0 0 / 2 ^ 24 % 256 == 2 || (w.getD 0 0 / 2 ^ 24 % 256 == 3 && [2, 3, 4].contains (w.getD 1 0)))
  let agree := t0.partner = none ∨ d0.rd F.LAM_VER_CUR_VERSION = d0.rd F.TWIN_VERSION_PARTNER
  let data := fun (b : Nat) => mine ([0x02000000, 2 ^ 31 + (own + 1024 * b) % 2 ^ 26, 1024] ++
    (List.range 256).map fun j => beNat (s.chip.mem.loadBytes (own + 1024 * b + 4 * j) 4))
  let image := match d0.sys.lam.cur with
    | some l => s.chip.mem.dataFrames 0 l.addr l.length
    | none => []
  let prev := (d0.mediaTick + 2 ^ 32 - 1) % 2 ^ 32
  let old := t0.partner.all (fun p => decide (p.2 + 4 ≤ d0.tick)) = true
  let proved := standby ∧ (d0.ownProof i prev).isSome = true
  let held := t0.states.find? (·.1 == prev) = some (prev, fr)
  let both := held ∧ d0.ownProof i prev = some (k.val, some own) ∧ stateGang fr k = 3
  (twin →
    Moves .stateFrameSend s fun d d' =>
      let w := d'.sys.twin.out.getLast?.getD []
      w.length = 25 ∧ w.getD 24 0 = crcWords w.dropLast ∧ w.getD 0 0 % 65536 = (t0.seq + 1) % 65536 ∧
      w.getD 0 0 / 2 ^ 24 = 1 ∧ w.getD 0 0 / 2 ^ 22 % 2 = d.rd F.TWIN_STATUS_PERMIT ∧ w.getD 1 0 = d.mediaTick ∧
      w.getD 0 0 / 2 ^ 23 % 2 = d.rd F.TWIN_CFG_ROLE ∧ w.getD 0 0 / 2 ^ 21 % 2 = d.rd F.TWIN_STATUS_FIT ∧
      w.getD 0 0 / 2 ^ 20 % 2 = d.rd F.TWIN_STATUS_CONVERGED ∧ w.getD 0 0 / 2 ^ 16 % 8 = 0 ∧
      w.getD 0 0 / 2 ^ 19 % 2 = bit t0.handover.isSome ∧
      w.getD (4 + i.val) 0 = (((d.ownProof i d.mediaTick).map (·.2)).join.getD 0) ∧
      w.getD (12 + k.val / 8) 0 / 16 ^ (k.val % 8) % 16 = d.gstate k ∧ w.getD (12 + k.val / 8) 0 < 2 ^ 32 ∧
      w.getD 2 0 = d.rd F.LAM_VER_CUR_VERSION ∧ w.getD 3 0 = t0.handover.getD 0 ∧
      w.getD (16 + g.val) 0 = d.rd (F.BST_STATUS_STATE g) * 2 ^ 26 + d.cMark g d.mediaTick ∧
      d' = { d with sys := { d.sys with twin := { t0 with seq := (t0.seq + 1) % 65536, out := t0.out ++ [w] } } }) ∧
  (twin → isState → holder = 0 →
    Moves (.stateFrameReceive ws) s fun d d' =>
      Sets d d' partnerF fitEvF ∧ d'.sys.twin.partner = some (ws.map (·.toNat), d.tick) ∧
      d'.sys.twin.goodRun = t0.goodRun + 1 ∧ d'.sys.twin.states = t0.states ∧
      d'.sys.twin.holderVer = t0.holderVer ∧ TwinOnly d d') ∧
  (standby → isState → holder = 1 →
    Moves (.stateFrameReceive ws) s fun d d' =>
      Sets d d' partnerF fitEvF ∧ d'.sys.twin.states = ((v 1, ws.map (·.toNat)) :: t0.states).take 8 ∧
      d'.sys.twin.holderVer = some (v 2) ∧
      (d'.bst g).corr = some (v 1, v (16 + g.val) % 2 ^ 26) ∧
      { d' with regs := d.regs, drive := { d'.drive with bsts := d.drive.bsts }, sys := { d'.sys with twin := t0 } } = d) ∧
  (twin → st = 1 → isState → holder = 1 → d0.rd F.TWIN_CFG_AUTO_JOIN = 0 →
    Moves (.stateFrameReceive ws) s fun d d' =>
      Sets d d' (partnerF ++ [(F.TWIN_STATUS_STATE, 3)]) fitEvF ∧ d'.sys.twin.hbOut = .low ∧
      Afresh d'.sys.twin) ∧
  (twin → st = 2 → isState → holder = 1 → d0.rd F.TWIN_CFG_ROLE = 1 →
    Moves (.stateFrameReceive ws) s fun d d' =>
      Sets d d' (partnerF ++ releasedF d ++ [(F.TWIN_EVENTS_DUAL_HOLD, 1), (F.TWIN_STATUS_CONVERGED, 0),
        (F.TWIN_STATUS_INHIBIT, 1), (F.TWIN_STATUS_STATE, 1)]) fitEvF ∧ LetsGo d d') ∧
  (twin → ¬ crcOk → Moves (.stateFrameReceive ws) s bad) ∧
  (¬ twin → Moves (.stateFrameReceive ws) s fun d d' => d' = d) ∧
  (standby → isData → js = 2 + kind → d0.inPages adr len = true → d0.inImage adr len = false → i.val < len →
    Turns (.dataFrameReceive ws) s fun c c' =>
      c'.mem.byte (adr + i.val) = BitVec.ofNat 8 (v (3 + i.val / 4) / 256 ^ (3 - i.val % 4) % 256) ∧ BytesBut c.mem c'.mem adr len ∧
      c'.dev = { c.dev with sys := { c.dev.sys with twin := { t0 with
        layerAt := if kind = 0 ∧ t0.layerAt = none then some adr else t0.layerAt } } }) ∧
  (standby → isData → (js ≠ 2 + kind ∨ d0.inPages adr len = false ∨ d0.inImage adr len = true) →
    Turns (.dataFrameReceive ws) s fun c c' => c' = c) ∧
  (twin → ¬ crcOk → Moves (.dataFrameReceive ws) s bad) ∧
  (¬ standby → crcOk → Moves (.dataFrameReceive ws) s fun d d' => d' = d) ∧
  (twin → st = 2 → isJoin → v 1 = 1 → agree → t0.pages = [(own, 1024 * (k.val + 1))] →
    Moves (.joinFrameReceive ws) s fun d d' =>
      d' = { d with sys := { d.sys with twin := { t0 with
        out := t0.out ++ [mine [0x03000000, 3]] ++ (List.range (k.val + 1)).map data ++ [mine [0x03000000, 4]] } } }) ∧
  (twin → st = 2 → isJoin → v 1 = 1 → ¬ agree → d0.sys.lam.cur.isSome = true → t0.pages = [(own, 1024 * (k.val + 1))] →
    Moves (.joinFrameReceive ws) s fun d d' =>
      d' = { d with sys := { d.sys with twin := { t0 with
        out := t0.out ++ [mine [0x03000000, 2]] ++ image ++ [mine [0x03000000, 3]] ++ (List.range (k.val + 1)).map data ++
          [mine [0x03000000, 4]] } } }) ∧
  (standby → isJoin → v 1 = 2 → js = 1 →
    Moves (.joinFrameReceive ws) s fun d d' => Writes d d' [(F.TWIN_STATUS_JOIN_STATE, 2)] []) ∧
  (standby → isJoin → v 1 = 3 → (js = 1 ∨ js = 2) → t0.layerAt = none →
    Moves (.joinFrameReceive ws) s fun d d' => Writes d d' [(F.TWIN_STATUS_JOIN_STATE, 3)] []) ∧
  (standby → isJoin → v 1 = 4 → js = 3 →
    Moves (.joinFrameReceive ws) s fun d d' =>
      Sets d d' [(F.TWIN_STATUS_JOIN_STATE, 4)] [] ∧ d'.sys.twin = { t0 with joinFrom := d.tick } ∧ TwinOnly d d') ∧
  (twin → isJoin → v 1 = 5 →
    Moves (.joinFrameReceive ws) s fun d d' =>
      Sets d d' [(F.TWIN_STATUS_JOIN_STATE, 0)] [] ∧
      d'.sys.twin = { t0 with out := kept, layerAt := if js = 0 then t0.layerAt else none } ∧ TwinOnly d d') ∧
  (twin → d0.rd F.TWIN_STATUS_QLINK_UP = 0 → t0.blockLock = true → 16 ≤ t0.goodRun →
    Moves .qlinkUp s fun d d' => Writes d d' [(F.TWIN_STATUS_QLINK_UP, 1), (F.TWIN_EVENTS_QLINK_UP_EV, 1)] []) ∧
  (t0.goodRun < 16 ∨ t0.blockLock = false → Moves .qlinkUp s fun d d' => d' = d) ∧
  (twin → (lost = true ∨ old) → d0.rd F.TWIN_STATUS_QLINK_UP = 1 →
    Moves (.qlinkDown lost) s fun d d' =>
      Sets d d' [(F.TWIN_STATUS_QLINK_UP, 0), (F.TWIN_EVENTS_QLINK_DOWN_EV, 1), (F.TWIN_STATUS_JOIN_STATE, 0),
        (F.TWIN_CNT_COUNT 6, min (d.rd (F.TWIN_CNT_COUNT 6) + 1) (2 ^ 32 - 1))] [] ∧
      d'.sys.twin = { t0 with goodRun := 0, blockLock := t0.blockLock && !lost, out := kept,
                              layerAt := if js = 0 then t0.layerAt else none } ∧ TwinOnly d d') ∧
  (lost = false → ¬ old → Moves (.qlinkDown lost) s fun d d' => d' = d) ∧
  (standby → held → (d0.ownProof i prev = some (k.val, none) ∨
      d0.ownProof i prev = some (k.val, some own) ∧ stateGang fr k ≠ 3) →
    Moves (.proofCompare i) s fun d d' => d' = d) ∧
  (proved → t0.states.find? (·.1 == prev) = none →
    Moves (.proofCompare i) s fun d d' => Writes d d' [(F.TWIN_PROOF_LINK_MISS_COUNT i,
      min (d.rd (F.TWIN_PROOF_LINK_MISS_COUNT i) + 1) (2 ^ (F.TWIN_PROOF_LINK_MISS_COUNT i).width - 1))] []) ∧
  (proved → both → own = fr.getD (4 + i.val) 0 →
    Moves (.proofCompare i) s fun d d' => Writes d d' [(F.TWIN_PROOF_BLOCKS_COUNT i,
      min (d.rd (F.TWIN_PROOF_BLOCKS_COUNT i) + 1) (2 ^ (F.TWIN_PROOF_BLOCKS_COUNT i).width - 1))] []) ∧
  (proved → both → own ≠ fr.getD (4 + i.val) 0 →
    Moves (.proofCompare i) s fun d d' =>
      Sets d d' [(F.TWIN_PROOF_BLOCKS_COUNT i,
          min (d.rd (F.TWIN_PROOF_BLOCKS_COUNT i) + 1) (2 ^ (F.TWIN_PROOF_BLOCKS_COUNT i).width - 1)),
        (F.TWIN_PROOF_MISMATCH_COUNT i,
          min (d.rd (F.TWIN_PROOF_MISMATCH_COUNT i) + 1) (2 ^ (F.TWIN_PROOF_MISMATCH_COUNT i).width - 1)),
        (F.TWIN_PROOF_LAST_TICK_TICK i, prev), (F.TWIN_EVENTS_MISMATCH_EV, 1)] [] ∧
      d'.sys.twin = { t0 with bad := true } ∧ TwinOnly d d') ∧
  (¬ proved → Moves (.proofCompare i) s fun d d' => d' = d) ∧
  (standby →
    Moves .joinStart s fun d d' =>
      Sets d d' [(F.TWIN_STATUS_CONVERGED, 0), (F.TWIN_STATUS_JOIN_STATE, 1)] fitEvF ∧
      d'.sys.twin = { t0 with layerAt := none, out := t0.out ++ [mine [0x03000000, 1]] } ∧ TwinOnly d d') ∧
  (¬ standby → Moves .joinStart s fun d d' => d' = d) ∧
  (twin →
    Moves .joinAbort s fun d d' =>
      Sets d d' [(F.TWIN_STATUS_JOIN_STATE, 0)] [] ∧
      d'.sys.twin = { t0 with layerAt := none, out := kept ++ [mine [0x03000000, 5]] } ∧ TwinOnly d d') ∧
  (js = 4 → t0.joinFrom + d0.rd F.TWIN_CONVERGE_TICKS ≤ d0.tick → 64 ≤ t0.run →
    Moves .convergeCountEnd s fun d d' =>
      Writes d d' [(F.TWIN_STATUS_CONVERGED, 1), (F.TWIN_EVENTS_JOIN_DONE, 1), (F.TWIN_STATUS_JOIN_STATE, 0)] fitEvF) ∧
  (js = 4 → t0.joinFrom + d0.rd F.TWIN_CONVERGE_TICKS ≤ d0.tick → t0.run < 64 →
    Moves .convergeCountEnd s fun d d' =>
      d' = { d with sys := { d.sys with twin := { t0 with joinFrom := d.tick } } }) ∧
  ((js ≠ 4 ∨ d0.tick < t0.joinFrom + d0.rd F.TWIN_CONVERGE_TICKS) →
    Moves .convergeCountEnd s fun d d' => d' = d)

/-- The Q-link's frames and state, warm joins and proof channels (R367, R369, R370, R379, R383, R384). DATA outside the
page region or meeting an image is dropped (assumption 64), and a run below 64 starts the count of a join again
(assumption 62). An event whose own condition does not hold leaves the state as it is (assumption 1). -/
def QLink : Prop := ∀ s ws lost (i g : Fin 8) k fr own, Live s → QLinkAt s ws lost i g k fr own

/-- Context `x` may issue and the fetch at its PC does not fault (R238, R303). -/
abbrev Issues (s : State) (x : Fin 64) : Prop :=
  Live s ∧ s.chip.dev.running x = true ∧ (s.chip.fetch x).2 = true

/-- `i` answers a next state that differs from the one after the fetch in context `x` alone; the context before and
after satisfies `p`. No byte of memory changes that the fetch did not change, and no other context. -/
def Runs (i : Instr) (s : State) (x : Fin 64) (p : Ctx → Ctx → Prop) : Prop :=
  ∃ k', exec i s = .next { s with chip := (s.chip.fetch x).1.modCtx x fun _ => k' } ∧ p (s.chip.dev.ctx x) k'

/-- G[rd] holds `v`, or nothing is written when rd is G0; FSR gains the bits `fl`; the next instruction follows; every
other register of the context is as it was. -/
def GWrote (k k' : Ctx) (rd : BitVec 5) (v : Word) (fl : Nat) : Prop :=
  (∀ r : BitVec 5, k'.rdG r = if r = 0 then 0 else if r = rd then v else k.rdG r) ∧ k'.fsr = Nat.lor k.fsr fl ∧
    { k' with g := k.g, fsr := k.fsr } = { k with pc := (k.pc + 4) % 2 ^ 32 }

/-- `p` holds of the integer nearest to `n` / 2^`sh`, the even one of two (R162). -/
def Rounds (n : Int) (sh : Nat) (p : Int → Prop) : Prop :=
  ∃ v : Int, 2 * |n - v * 2 ^ sh| ≤ 2 ^ sh ∧ (2 * |n - v * 2 ^ sh| = 2 ^ sh → v % 2 = 0) ∧ p v

/-- The nearest end of the signed 32-bit range, and FSR.SAT where that changes the value (R275). -/
def sat32 (v : Int) : Word := BitVec.ofInt 32 (max (-(2 ^ 31)) (min (2 ^ 31 - 1) v))
def sat32F (v : Int) : Nat := if -(2 ^ 31) ≤ v ∧ v < 2 ^ 31 then 0 else 256

/-- The instructions of context `x` on G[rs] and G[rt]. -/
abbrev IntegerAt (s : State) (x : Fin 64) (rd rs rt : BitVec 5) : Prop :=
  let a := (s.chip.dev.ctx x).rdG rs
  let b := (s.chip.dev.ctx x).rdG rt
  let sh := b.toNat % 32
  let flag := fun (c : Bool) => if c = true then (1 : Word) else 0
  (Runs (.add x rd rs rt) s x fun k k' => GWrote k k' rd (BitVec.ofNat 32 (a.toNat + b.toNat)) 0) ∧
  (Runs (.sub x rd rs rt) s x fun k k' => GWrote k k' rd (BitVec.ofInt 32 (a.toInt - b.toInt)) 0) ∧
  (Runs (.and x rd rs rt) s x fun k k' => GWrote k k' rd (BitVec.ofNat 32 (Nat.land a.toNat b.toNat)) 0) ∧
  (Runs (.or x rd rs rt) s x fun k k' => GWrote k k' rd (BitVec.ofNat 32 (Nat.lor a.toNat b.toNat)) 0) ∧
  (Runs (.xor x rd rs rt) s x fun k k' => GWrote k k' rd (BitVec.ofNat 32 (Nat.xor a.toNat b.toNat)) 0) ∧
  (Runs (.sll x rd rs rt) s x fun k k' => GWrote k k' rd (BitVec.ofNat 32 (a.toNat * 2 ^ sh)) 0) ∧
  (Runs (.srl x rd rs rt) s x fun k k' => GWrote k k' rd (BitVec.ofNat 32 (a.toNat / 2 ^ sh)) 0) ∧
  (Runs (.sra x rd rs rt) s x fun k k' => GWrote k k' rd (BitVec.ofInt 32 (a.toInt / 2 ^ sh)) 0) ∧
  (Runs (.slt x rd rs rt) s x fun k k' => GWrote k k' rd (flag (decide (a.toInt < b.toInt))) 0) ∧
  (Runs (.sltu x rd rs rt) s x fun k k' => GWrote k k' rd (flag (decide (a.toNat < b.toNat))) 0) ∧
  (Runs (.mul x rd rs rt) s x fun k k' => GWrote k k' rd (BitVec.ofInt 32 (a.toInt * b.toInt)) 0) ∧
  (Runs (.mulh x rd rs rt) s x fun k k' => GWrote k k' rd (BitVec.ofInt 32 (a.toInt * b.toInt / 2 ^ 32)) 0) ∧
  (Rounds (a.toInt * b.toInt) 31 fun v => Runs (.mulq x rd rs rt) s x fun k k' => GWrote k k' rd (sat32 v) (sat32F v)) ∧
  (Runs (.min x rd rs rt) s x fun k k' => GWrote k k' rd (BitVec.ofInt 32 (min a.toInt b.toInt)) 0) ∧
  (Runs (.max x rd rs rt) s x fun k k' => GWrote k k' rd (BitVec.ofInt 32 (max a.toInt b.toInt)) 0) ∧
  (Runs (.adds x rd rs rt) s x fun k k' => GWrote k k' rd (sat32 (a.toInt + b.toInt)) (sat32F (a.toInt + b.toInt))) ∧
  (Runs (.subs x rd rs rt) s x fun k k' => GWrote k k' rd (sat32 (a.toInt - b.toInt)) (sat32F (a.toInt - b.toInt))) ∧
  (∀ n, n ≤ 32 → a.toNat < 2 ^ (32 - n) → (n = 32 ∨ 2 ^ (31 - n) ≤ a.toNat) →
    Runs (.clz x rd rs) s x fun k k' => GWrote k k' rd (BitVec.ofNat 32 n) 0)

/-- Each ALU instruction writes its result to rd, sets SAT only where it saturates, and changes nothing else but the PC
(R162, R240, R276). -/
def Integer : Prop := ∀ s x rd rs rt, Issues s x → IntegerAt s x rd rs rt

/-- The instructions of context `x` with an immediate or a shift count. -/
abbrev ImmediateAt (s : State) (x : Fin 64) (rd rs : BitVec 5) (imm : BitVec 16) (sh : BitVec 5) : Prop :=
  let a := (s.chip.dev.ctx x).rdG rs
  (Runs (.addi x rd rs imm) s x fun k k' => GWrote k k' rd (BitVec.ofInt 32 (a.toInt + imm.toInt)) 0) ∧
  (Runs (.andi x rd rs imm) s x fun k k' => GWrote k k' rd (BitVec.ofNat 32 (Nat.land a.toNat imm.toNat)) 0) ∧
  (Runs (.ori x rd rs imm) s x fun k k' => GWrote k k' rd (BitVec.ofNat 32 (Nat.lor a.toNat imm.toNat)) 0) ∧
  (Runs (.xori x rd rs imm) s x fun k k' => GWrote k k' rd (BitVec.ofNat 32 (Nat.xor a.toNat imm.toNat)) 0) ∧
  (Runs (.slti x rd rs imm) s x fun k k' => GWrote k k' rd (if a.toInt < imm.toInt then 1 else 0) 0) ∧
  (Runs (.lui x rd imm) s x fun k k' => GWrote k k' rd (BitVec.ofNat 32 (imm.toNat * 65536)) 0) ∧
  (Runs (.shiSll x rd rs sh) s x fun k k' => GWrote k k' rd (BitVec.ofNat 32 (a.toNat * 2 ^ sh.toNat)) 0) ∧
  (Runs (.shiSrl x rd rs sh) s x fun k k' => GWrote k k' rd (BitVec.ofNat 32 (a.toNat / 2 ^ sh.toNat)) 0) ∧
  (Runs (.shiSra x rd rs sh) s x fun k k' => GWrote k k' rd (BitVec.ofInt 32 (a.toInt / 2 ^ sh.toNat)) 0)

/-- Immediates are sign-extended by ADDI and SLTI and zero-extended by ANDI, ORI and XORI; nothing but rd and the PC
changes (R240, R268, R276). -/
def Immediate : Prop := ∀ s x rd rs imm sh, Issues s x → ImmediateAt s x rd rs imm sh

/-- The vector instructions of context `x`, for lane `j` and register `u`. -/
abbrev LanesAt (s : State) (x : Fin 64) (vd vs vt : BitVec 4) (g : BitVec 5) (j : Fin 8) (l : BitVec 3) (u : BitVec 4) : Prop :=
  let k0 := s.chip.dev.ctx x
  let a := fun (i : Nat) => (k0.rdV vs i).toInt
  let b := fun (i : Nat) => (k0.rdV vt i).toInt
  let all := List.range 8
  let wrote := fun (k k' : Ctx) (v : Word) (fl : Nat) =>
    k'.rdV vd j = v ∧ (u ≠ vd → k'.rdV u j = k.rdV u j) ∧ k'.fsr = Nat.lor k.fsr fl ∧
      { k' with v := k.v, fsr := k.fsr } = { k with pc := (k.pc + 4) % 2 ^ 32 }
  let any := fun (f : Nat → Int) => if all.all (fun i => decide (sat32F (f i) = 0)) = true then 0 else 256
  let round := fun (i : Nat) => rhe (a i * b i) 31
  (Runs (.vadd x vd vs vt) s x fun k k' => wrote k k' (sat32 (a j + b j)) (any fun i => a i + b i)) ∧
  (Runs (.vsub x vd vs vt) s x fun k k' => wrote k k' (sat32 (a j - b j)) (any fun i => a i - b i)) ∧
  (Rounds (a j * b j) 31 fun v =>
    Runs (.vmulq x vd vs vt) s x fun k k' => wrote k k' (sat32 v) (any round)) ∧
  (Runs (.vmov x vd vs) s x fun k k' => wrote k k' (k.rdV vs j) 0) ∧
  (Runs (.vsplat x vd g) s x fun k k' => wrote k k' (k.rdG g) 0) ∧
  (Runs (.vget x g vs (BitVec.ofNat 3 j)) s x fun k k' => GWrote k k' g (k.rdV vs j) 0) ∧
  (Runs (.vput x vd g l) s x fun k k' => wrote k k' (if l.toNat = j then k.rdG g else k.rdV vd j) 0) ∧
  (Runs (.vabs x vd vs) s x fun k k' => wrote k k' (sat32 (|a j|)) (any fun i => |a i|)) ∧
  ((∀ i : Fin 8, |a i| ≤ |a j|) →
    Runs (.vmaxa x g vs) s x fun k k' => GWrote k k' g (sat32 |a j|) (sat32F |a j|))

/-- Each vector instruction works lane by lane with saturation to SAT, and changes nothing but its destination, FSR.SAT
and the PC (R162, R240, R284). -/
def Lanes : Prop := ∀ s x vd vs vt g j l u, Issues s x → LanesAt s x vd vs vt g j l u

/-- The accumulator instructions of context `x` on A[ad] and A[src]. -/
abbrev AccumulateAt (s : State) (x : Fin 64) (ad src o : BitVec 3) (g : BitVec 5) (vs vt : BitVec 4) (sh : BitVec 6)
    (h n : Bool) (w : Fin 3) : Prop :=
  let k0 := s.chip.dev.ctx x
  let a := k0.rdA ad
  let b := k0.rdA src
  let fits := fun (v : Int) => decide (-(2 ^ 71) ≤ v ∧ v < 2 ^ 71)
  let near := fun (v : Int) => max (-(2 ^ 71)) (min (2 ^ 71 - 1) v)
  let coef := fun (j : Nat) => if h = true then signedOf 16 ((k0.rdV vt j).toNat / 65536) * 65536 else (k0.rdV vt j).toInt
  let prod := fun (j : Nat) => (if n = true then -1 else 1) * ((k0.rdV vs j).toInt * coef j)
  let part := fun (m : Nat) => a + ((List.range m).map prod).sum
  let small := ((List.range 8).all fun m => fits (part (m + 1))) = true
  let wrote := fun (k k' : Ctx) (v : Int) (f : Bool) =>
    k'.rdA ad = v ∧ k'.rdAov ad = f ∧ (o ≠ ad → k'.rdA o = k.rdA o ∧ k'.rdAov o = k.rdAov o) ∧
      { k' with a := k.a, aov := k.aov } = { k with pc := (k.pc + 4) % 2 ^ 32 }
  let grows := fun (k k' : Ctx) (v : Int) => wrote k k' (near v) (k.rdAov ad || !fits v)
  let cut := fun (v : Int) => (v / 2 ^ (32 * w.val)) % 2 ^ 32
  (Runs (.aclr x ad) s x fun k k' => wrote k k' 0 false) ∧
  (Runs (.amov x ad g) s x fun k k' => wrote k k' ((k.rdG g).toInt * 2 ^ 31) (k.rdAov ad)) ∧
  (Runs (.aadd x ad src) s x fun k k' => grows k k' (a + b)) ∧
  (Runs (.asub x ad src) s x fun k k' => grows k k' (a - b)) ∧
  (Rounds a sh.toNat fun v => Runs (.ashr x ad sh) s x fun k k' => wrote k k' v (k.rdAov ad)) ∧
  (Runs (.ashl x ad sh) s x fun k k' => grows k k' (a * 2 ^ sh.toNat)) ∧
  (small → Runs (.vmac x ad vs vt h n) s x fun k k' => wrote k k' (part 8) (k.rdAov ad)) ∧
  (fits (part 1) = false →
    Runs (.vmac x ad vs vt h n) s x fun k k' => k'.rdAov ad = true ∧ k'.rdG g = k.rdG g) ∧
  (small → Rounds (part 8) 31 fun v =>
    Runs (.vmacr x g ad vs vt h n) s x fun k k' =>
      k'.rdA ad = 0 ∧ k'.rdAov ad = k.rdAov ad ∧ (o ≠ ad → k'.rdA o = k.rdA o) ∧
      GWrote { k with a := k'.a, aov := k'.aov } k' g (sat32 v) (sat32F v)) ∧
  (Rounds b 31 fun v => Runs (.arnd x g src) s x fun k k' => GWrote k k' g (sat32 v) (sat32F v)) ∧
  (Rounds b 39 fun v => Runs (.arnd24 x g src) s x fun k k' =>
    GWrote k k' g (BitVec.ofInt 32 (max (-(2 ^ 23)) (min (2 ^ 23 - 1) v) * 256)) (if -(2 ^ 23) ≤ v ∧ v < 2 ^ 23 then 0 else 256)) ∧
  (Runs (.aflag x g src) s x fun k k' =>
    k'.rdAov src = false ∧ k'.a = k.a ∧ (o ≠ src → k'.rdAov o = k.rdAov o) ∧
    GWrote { k with aov := k'.aov } k' g (if k.rdAov src = true then 1 else 0) 0) ∧
  (Runs (.aget x g src w) s x fun k k' =>
    GWrote k k' g (BitVec.ofInt 32 (cut b)) 0) ∧
  (Runs (.aput x ad g w) s x fun k k' =>
    (∀ i : Fin 72, (k'.rdA ad / 2 ^ i.val) % 2 = if 32 * w.val ≤ i ∧ i < 32 * w.val + 32 then
      (((k.rdG g).toNat : Int) / 2 ^ (i.val - 32 * w.val)) % 2 else (k.rdA ad / 2 ^ i.val) % 2) ∧
    wrote k k' (k'.rdA ad) (k.rdAov ad))

/-- Additions to an accumulator are exact or saturate and set AOV; rounding is to the nearest, ties to even; nothing
else changes but the destination, its flags and the PC (R161, R162, R275, R283, R285). -/
def Accumulate : Prop :=
  ∀ s x ad src o g vs vt sh h n w, Issues s x → AccumulateAt s x ad src o g vs vt sh h n w

/-- The value of a binary32 operand; infinities and NaNs have none. -/
def fpVal : Fp → ℚ
  | .fin n m e => (if n then -1 else 1) * (m : ℚ) * (2 : ℚ) ^ e
  | _ => 0

/-- `w` and the flags `fl` are what rounding the number `v`, not zero, to nearest even gives: an infinity with OF and NX
from 2^128 - 2^103 on, a zero with UF and NX below 2^-126 - 2^-151, else a number within half a unit in the last place,
with NX unless it is exact (R241, R275). -/
def FpNear (v : ℚ) (w fl : Nat) : Prop :=
  match Fp.of w with
  | .nan _ => False
  | .inf n => n = decide (v < 0) ∧ (2 : ℚ) ^ 128 - 2 ^ 103 ≤ |v| ∧ fl = 20
  | .fin n m e =>
    n = decide (v < 0) ∧
      if m = 0 then |v| < 1 / 2 ^ 126 - 1 / 2 ^ 151 ∧ fl = 24
      else |v| < (2 : ℚ) ^ 128 - 2 ^ 103 ∧ 2 * |v - fpVal (Fp.of w)| ≤ (2 : ℚ) ^ e ∧
        (2 * |v - fpVal (Fp.of w)| = (2 : ℚ) ^ e → m % 2 = 0) ∧ fl = (if v = fpVal (Fp.of w) then 0 else 16)

/-- `w` and the flags `fl` are what rounding the square root of the number `v` > 0 gives. -/
def FpRoot (v : ℚ) (w fl : Nat) : Prop :=
  match Fp.of w with
  | .fin false m e =>
    ((2 * (m : ℚ) - 1) * 2 ^ (e - 1)) ^ 2 < v ∧ v < ((2 * (m : ℚ) + 1) * 2 ^ (e - 1)) ^ 2 ∧
      fl = (if fpVal (Fp.of w) ^ 2 = v then 0 else 16)
  | _ => False

/-- `p` holds of the integer nearest to `v`, the even one of two. -/
def RoundsQ (v : ℚ) (p : Int → Prop) : Prop :=
  ∃ z : Int, 2 * |v - z| ≤ 1 ∧ (2 * |v - z| = 1 → z % 2 = 0) ∧ p z

/-- G[rd] takes a word `w` and FSR the bits `fl` of which `p` holds. -/
def Yields (k k' : Ctx) (rd : BitVec 5) (p : Nat → Nat → Prop) : Prop :=
  ∃ w fl, w < 2 ^ 32 ∧ p w fl ∧ GWrote k k' rd (BitVec.ofNat 32 w) fl

/-- A zero, an infinity and the canonical NaN (R241, R277). -/
def fpZero (neg : Bool) : Nat := if neg then 0x80000000 else 0
def fpInf (neg : Bool) : Nat := if neg then 0xFF800000 else 0x7F800000

/-- FADD, FSUB, FMUL, FDIV and FSQRT of context `x`; `n`, `m`, `e` are the sign, significand and exponent of a finite
G[rs], `n'`, `m'`, `e'` those of a finite G[rt]. -/
abbrev FloatArithAt (s : State) (x : Fin 64) (rd rs rt : BitVec 5) (n n' : Bool) (m m' : Nat) (e e' : Int) : Prop :=
  let a := ((s.chip.dev.ctx x).rdG rs).toNat
  let b := ((s.chip.dev.ctx x).rdG rt).toNat
  let u := Fp.of a
  let v := Fp.of b
  let ru := fpVal u
  let rv := fpVal v
  let nums := u = .fin n m e ∧ v = .fin n' m' e'
  let out := fun (i : Instr) (p : Nat → Nat → Prop) => Runs i s x fun k k' => Yields k k' rd p
  let one := fun (i : Instr) (w fl : Nat) => Runs i s x fun k k' => GWrote k k' rd (BitVec.ofNat 32 w) fl
  let invalid := fun (i : Instr) => one i 0x7FC00000 1
  let quiet := fun (i : Instr) => out i fun w fl => Fp.of w = .nan false ∧ fl = 0
  (nums → ru + rv ≠ 0 → out (.fadd x rd rs rt) (FpNear (ru + rv))) ∧
  (nums → ru - rv ≠ 0 → out (.fsub x rd rs rt) (FpNear (ru - rv))) ∧
  (nums → m ≠ 0 → m' ≠ 0 → out (.fmul x rd rs rt) (FpNear (ru * rv))) ∧
  (nums → m ≠ 0 → m' ≠ 0 → out (.fdiv x rd rs rt) (FpNear (ru / rv))) ∧
  (u = .fin false m e → m ≠ 0 →
    out (.fsqrt x rd rs) (FpRoot ru)) ∧
  (nums → ru + rv = 0 → m ≠ 0 → one (.fadd x rd rs rt) 0 0) ∧
  (nums → m = 0 → m' = 0 → one (.fadd x rd rs rt) (fpZero (n && n')) 0) ∧
  (nums → m = 0 → m' = 0 → one (.fsub x rd rs rt) (fpZero (n && !n')) 0) ∧
  (nums → (m = 0 ∨ m' = 0) → one (.fmul x rd rs rt) (fpZero (xor n n')) 0) ∧
  (nums → m ≠ 0 → m' = 0 → one (.fdiv x rd rs rt) (fpInf (xor n n')) 2) ∧
  (nums → m = 0 → m' = 0 → invalid (.fdiv x rd rs rt)) ∧
  (nums → m = 0 → m' ≠ 0 → one (.fdiv x rd rs rt) (fpZero (xor n n')) 0) ∧
  (u = .fin n m e → m = 0 → one (.fsqrt x rd rs) (fpZero n) 0) ∧
  (u = .fin true m e → m ≠ 0 → invalid (.fsqrt x rd rs)) ∧
  (u = .inf true → invalid (.fsqrt x rd rs)) ∧
  (u = .inf false → one (.fsqrt x rd rs) (fpInf false) 0) ∧
  (u = .inf n → v = .inf n → one (.fadd x rd rs rt) (fpInf n) 0 ∧ invalid (.fsub x rd rs rt)) ∧
  (u = .inf n → v = .inf (!n) → invalid (.fadd x rd rs rt) ∧ one (.fsub x rd rs rt) (fpInf n) 0) ∧
  (u = .inf n → v = .inf n' → one (.fmul x rd rs rt) (fpInf (xor n n')) 0 ∧ invalid (.fdiv x rd rs rt)) ∧
  (u = .inf n → v = .fin n' m' e' →
    one (.fadd x rd rs rt) (fpInf n) 0 ∧ one (.fsub x rd rs rt) (fpInf n) 0 ∧ one (.fdiv x rd rs rt) (fpInf (xor n n')) 0) ∧
  (u = .fin n m e → v = .inf n' →
    one (.fadd x rd rs rt) (fpInf n') 0 ∧ one (.fsub x rd rs rt) (fpInf (!n')) 0 ∧
    one (.fdiv x rd rs rt) (fpZero (xor n n')) 0) ∧
  (u = .inf n → v = .fin n' m' e' →
    if m' = 0 then invalid (.fmul x rd rs rt) else one (.fmul x rd rs rt) (fpInf (xor n n')) 0) ∧
  (u = .fin n m e → v = .inf n' →
    if m = 0 then invalid (.fmul x rd rs rt) else one (.fmul x rd rs rt) (fpInf (xor n n')) 0) ∧
  ((u = .nan true ∨ v = .nan true) →
    invalid (.fadd x rd rs rt) ∧ invalid (.fsub x rd rs rt) ∧ invalid (.fmul x rd rs rt) ∧ invalid (.fdiv x rd rs rt)) ∧
  (u = .nan true → invalid (.fsqrt x rd rs)) ∧
  (u ≠ .nan true → v ≠ .nan true → (u = .nan false ∨ v = .nan false) →
    quiet (.fadd x rd rs rt) ∧ quiet (.fsub x rd rs rt) ∧ quiet (.fmul x rd rs rt) ∧ quiet (.fdiv x rd rs rt)) ∧
  (u = .nan false → quiet (.fsqrt x rd rs))

/-- The FPU's arithmetic rounds to nearest even with subnormals as zero, and gives infinities, zeros, NaNs and the
sticky flags as IEEE 754 binary32 does; nothing else changes but rd and the PC (R241, R275, R277). Where the rules do
not state them, the flags of a subnormal result (UF and NX also where it is exact) and what an operation on quiet NaNs
sets and gives are the model's choice (assumptions 122 and 123). -/
def FloatArith : Prop := ∀ s x rd rs rt n n' m m' e e', Issues s x → FloatArithAt s x rd rs rt n n' m m' e e'

/-- FMIN, FMAX, the comparisons, the conversions, FABS and FNEG of context `x`. -/
abbrev FloatPickAt (s : State) (x : Fin 64) (rd rs rt : BitVec 5) : Prop :=
  let a := ((s.chip.dev.ctx x).rdG rs).toNat
  let b := ((s.chip.dev.ctx x).rdG rt).toNat
  let i := ((s.chip.dev.ctx x).rdG rs).toInt
  let u := Fp.of a
  let v := Fp.of b
  let ru := fpVal u
  let num : Fp → Bool := fun f => match f with
    | .fin _ _ _ => true
    | _ => false
  let order : Fp → ℚ := fun f => match f with
    | .inf n => if n = true then -(2 ^ 200) else 2 ^ 200
    | f => fpVal f
  let p := order u
  let q := order v
  let nan : Fp → Bool := fun (f : Fp) => decide (f = .nan true ∨ f = .nan false)
  let sane := nan u = false ∧ nan v = false
  let one := fun (c : Instr) (w : Int) (fl : Nat) => Runs c s x fun k k' => GWrote k k' rd (BitVec.ofInt 32 w) fl
  let out := fun (c : Instr) (t : Nat → Nat → Prop) => Runs c s x fun k k' => Yields k k' rd t
  let nv := if u = .nan true ∨ v = .nan true then 1 else 0
  let flush := fun (w : Nat) => if w / 2 ^ 23 % 256 = 0 then w / 2 ^ 31 * 2 ^ 31 else w
  let truth := fun (t : Bool) => if t = true then 1 else 0
  let inexact := fun (q : Nat) (z : Int) => if ru * 2 ^ q = (z : ℚ) then 0 else 16
  let inside := fun (z : Int) => -(2 ^ 31) ≤ z ∧ z < 2 ^ 31
  (sane → p < q → one (.fmin x rd rs rt) (flush a) 0 ∧ one (.fmax x rd rs rt) (flush b) 0) ∧
  (sane → q < p → one (.fmin x rd rs rt) (flush b) 0 ∧ one (.fmax x rd rs rt) (flush a) 0) ∧
  (sane → p = q → p ≠ 0 → one (.fmin x rd rs rt) a 0 ∧ one (.fmax x rd rs rt) a 0) ∧
  (sane → p = 0 → q = 0 →
    out (.fmin x rd rs rt) (fun w fl => (w = flush a ∨ w = flush b) ∧ fl = 0) ∧
    out (.fmax x rd rs rt) fun w fl => (w = flush a ∨ w = flush b) ∧ fl = 0) ∧
  (nan u = true → nan v = false → one (.fmin x rd rs rt) (flush b) nv ∧ one (.fmax x rd rs rt) (flush b) nv) ∧
  (nan u = false → nan v = true → one (.fmin x rd rs rt) (flush a) nv ∧ one (.fmax x rd rs rt) (flush a) nv) ∧
  (nan u = true → nan v = true →
    out (.fmin x rd rs rt) (fun w fl => Fp.of w = .nan false ∧ fl = nv) ∧
    out (.fmax x rd rs rt) fun w fl => Fp.of w = .nan false ∧ fl = nv) ∧
  (sane → one (.feq x rd rs rt) (truth (decide (p = q))) 0 ∧ one (.flt x rd rs rt) (truth (decide (p < q))) 0 ∧
    one (.fle x rd rs rt) (truth (decide (p ≤ q))) 0) ∧
  (nan u = true ∨ nan v = true →
    one (.feq x rd rs rt) 0 nv ∧ one (.flt x rd rs rt) 0 nv ∧ one (.fle x rd rs rt) 0 nv) ∧
  (i ≠ 0 → out (.fcvtsw x rd rs) (FpNear i) ∧ out (.fcvtsq x rd rs) (FpNear ((i : ℚ) / 2 ^ 31))) ∧
  (i = 0 → one (.fcvtsw x rd rs) 0 0 ∧ one (.fcvtsq x rd rs) 0 0) ∧
  (num u = true → RoundsQ (ru * 1) fun z =>
    one (.fcvtws x rd rs) (max (-(2 ^ 31)) (min (2 ^ 31 - 1) z)) (if inside z then inexact 0 z else 1)) ∧
  (num u = true → RoundsQ (ru * 2 ^ 31) fun z =>
    one (.fcvtqs x rd rs) (max (-(2 ^ 31)) (min (2 ^ 31 - 1) z)) (if inside z then inexact 31 z else 256)) ∧
  (u = .inf true → one (.fcvtws x rd rs) (-(2 ^ 31)) 1 ∧ one (.fcvtqs x rd rs) (-(2 ^ 31)) 256) ∧
  (u = .inf false → one (.fcvtws x rd rs) (2 ^ 31 - 1) 1 ∧ one (.fcvtqs x rd rs) (2 ^ 31 - 1) 256) ∧
  (nan u = true → one (.fcvtws x rd rs) 0 1 ∧ one (.fcvtqs x rd rs) 0 1) ∧
  (one (.fabs x rd rs) (flush a % 2 ^ 31 : Nat) 0) ∧
  (one (.fneg x rd rs) (((flush a) + 2 ^ 31) % 2 ^ 32 : Nat) 0)

/-- Minimum, maximum, comparisons, conversions, magnitude and negation follow the operands' values; a NaN counts as R277
says (R241, R275, R277). The flags of the conversions outside their range, of a NaN there and of an inexact value, and
what FMIN and FMAX of two NaNs give and set, are the model's choice (assumptions 123 and 125). -/
def FloatPick : Prop := ∀ s x rd rs rt, Issues s x → FloatPickAt s x rd rs rt

/-- Context `x`'s access of `size` bytes at `va` passes every check in chip `c`: it lands at `p`, and leaves chip
`c1`. -/
abbrev Reaches (c : Chip) (x : Fin 64) (va size : Nat) (k : Access) (c1 : Chip) (p : Place) : Prop :=
  c.reach (c.dev.whoCtx x) va size k = (c1, .ok p)

/-- The access does not pass, with this cause. -/
abbrev Blocked (c : Chip) (x : Fin 64) (va size : Nat) (k : Access) (c1 : Chip) (cause : Nat) : Prop :=
  c.reach (c.dev.whoCtx x) va size k = (c1, .error cause)

/-- Every access of a list passes, in order, at the places `ps`. -/
abbrev ReachesAll (c : Chip) (x : Fin 64) (size : Nat) (k : Access) (rs : List Ref) (c1 : Chip) (ps : List Place) : Prop :=
  c.prepare (c.dev.whoCtx x) size k rs = (c1, .ok ps)

/-- `i` answers a next state that differs in context `x` alone from `s` with chip `c1`. -/
def RunsFrom (i : Instr) (s : State) (x : Fin 64) (c1 : Chip) (p : Ctx → Ctx → Prop) : Prop :=
  ∃ k', exec i s = .next { s with chip := c1.modCtx x fun _ => k' } ∧ p (s.chip.dev.ctx x) k'

/-- A fault's record changes no byte of memory but those of its four words in the cells of the fault queue, and none
where the record is not sent or the queue takes no word (R225, R226). -/
abbrev RecordFrame (c c' : Chip) : Prop :=
  let q := c.dev.rd F.MMU_FAULTQ_Q
  let sent := c.dev.rd F.MMU_FAULTQ_EN ≠ 0
  c'.mem.flash = c.mem.flash ∧ (sent → PacketRoom c.dev q → PacketFrame c c' q 4) ∧
    (¬ sent ∨ c.dev.rd (F.Q_CFG_EN q) = 0 ∨ (c.dev.q q).err = true ∨ (c.dev.q q).discard = true → c'.mem = c.mem)

/-- `i` answers a next state in which context `x` stands FAULTED at its instruction, with every register as it was, and
FAULT_EV is set; no other context changes, and no memory of `c1` but the fault's record (R222, R225, R262). -/
def Halts (i : Instr) (s : State) (x : Fin 64) (c1 : Chip) : Prop :=
  ∃ c2, exec i s = .next { s with chip := c2 } ∧ c2.dev.ctx x = { c1.dev.ctx x with run := .faulted } ∧
    CtxsBut c1.dev c2.dev x ∧ c2.dev.rd (F.X_EVENTS_FAULT_EV (x / 4) (x % 4)) = 1 ∧ RecordFrame c1 c2

/-- `n` bytes from `a`, the first the most significant (R266). -/
def bytesAt (m : Mem) (a n : Nat) : Nat := ((List.range n).map fun j => (m.byte (a + j)).toNat * 256 ^ (n - 1 - j)).sum

/-- `i` answers a next state in which the `size` bytes at `p` hold `v`, and context `x` alone changes otherwise: no
other byte does, but those of the leaf entry when its D bit is 0, which the store sets there (R217). -/
def Stores (i : Instr) (s : State) (x : Fin 64) (c1 : Chip) (p : Place) (size v : Nat) (q : Ctx → Ctx → Prop) : Prop :=
  ∃ c2, exec i s = .next { s with chip := c2 } ∧ q (s.chip.dev.ctx x) (c2.dev.ctx x) ∧ CtxsBut s.chip.dev c2.dev x ∧
    bytesAt c2.mem p.key size = v % 256 ^ size ∧ c2.mem.flash = s.chip.mem.flash ∧
    (∀ b, b < p.key ∨ p.key + size ≤ b → (∀ e, p.entry = some e → e.d = false → b < e.leaf ∨ e.leaf + 4 ≤ b) →
      c2.mem.byte b = c1.mem.byte b) ∧
    ((∀ e, p.entry = some e → e.d = true) → c2.dev = c1.dev.modCtx x fun _ => c2.dev.ctx x)

/-- Loads and stores of context `x` at G[rs] + `imm`; `c` is the chip after the fetch. -/
abbrev MemoryAt (s : State) (x : Fin 64) (rd rs : BitVec 5) (imm : BitVec 16) (c1 : Chip) (p : Place) (cause : Nat) : Prop :=
  let k0 := s.chip.dev.ctx x
  let c := (s.chip.fetch x).1
  let va := (((k0.rdG rs).toInt + imm.toInt) % 2 ^ 32).toNat
  let r := (k0.rdG rd).toNat
  let loads := fun (i : Instr) (v : Int) => RunsFrom i s x c1 fun k k' => GWrote k k' rd (BitVec.ofInt 32 v) 0
  let stores := fun (i : Instr) (n : Nat) => Stores i s x c1 p n r fun k k' => k' = { k with pc := (k.pc + 4) % 2 ^ 32 }
  (Reaches c x va 4 Access.load c1 p → loads (.lw x rd rs imm) (bytesAt c1.mem p.key 4)) ∧
  (Reaches c x va 2 Access.load c1 p → loads (.lhu x rd rs imm) (bytesAt c1.mem p.key 2)) ∧
  (Reaches c x va 2 Access.load c1 p →
    loads (.lh x rd rs imm) (if bytesAt c1.mem p.key 2 < 2 ^ 15 then bytesAt c1.mem p.key 2 else bytesAt c1.mem p.key 2 - 2 ^ 16)) ∧
  (Reaches c x va 1 Access.load c1 p → loads (.lbu x rd rs imm) (c1.mem.byte p.key).toNat) ∧
  (Reaches c x va 1 Access.load c1 p → loads (.lb x rd rs imm) (c1.mem.byte p.key).toInt) ∧
  (Blocked c x va 4 Access.load c1 cause → Halts (.lw x rd rs imm) s x c1) ∧
  (Blocked c x va 2 Access.load c1 cause → Halts (.lh x rd rs imm) s x c1 ∧ Halts (.lhu x rd rs imm) s x c1) ∧
  (Blocked c x va 1 Access.load c1 cause → Halts (.lb x rd rs imm) s x c1 ∧ Halts (.lbu x rd rs imm) s x c1) ∧
  (Reaches c x va 4 Access.store c1 p → stores (.sw x rd rs imm) 4) ∧
  (Reaches c x va 2 Access.store c1 p → stores (.sh x rd rs imm) 2) ∧
  (Reaches c x va 1 Access.store c1 p → stores (.sb x rd rs imm) 1) ∧
  (Blocked c x va 4 Access.store c1 cause → Halts (.sw x rd rs imm) s x c1) ∧
  (Blocked c x va 2 Access.store c1 cause → Halts (.sh x rd rs imm) s x c1) ∧
  (Blocked c x va 1 Access.store c1 cause → Halts (.sb x rd rs imm) s x c1) ∧
  (va % 4 ≠ 0 → c1 = c → 0xF0000000 ≤ va → va < 0xF0040000 → cause = 8 →
    Blocked c x va 4 Access.load c1 cause ∧ Blocked c x va 4 Access.store c1 cause) ∧
  (va % 4 = 0 → 0xF0000000 ≤ va → va < 0xF0040000 → c1 = c → p = ⟨2 ^ 26 + x / 4 * 2 ^ 18 + (va - 0xF0000000), none⟩ →
    Reaches c x va 4 Access.load c1 p ∧ Reaches c x va 4 Access.store c1 p)

/-- A load widens the bytes at its place, a store writes the low bytes of G[rt] there, most significant first, and
nothing else changes but the PC; a refused access stops the context precisely (R211, R217, R222, R240, R262, R266,
R278). -/
def Memory : Prop := ∀ s x rd rs imm c1 p cause, Issues s x → MemoryAt s x rd rs imm c1 p cause

/-- `i` answers a next state in which the places `ps` hold the values `vs` of `size` bytes, and context `x` alone
changes otherwise: no byte outside the places does, but those of a leaf entry whose D bit is 0 (R217). The values are
as listed where no two places overlap and every entry has D set. -/
def StoresAll (i : Instr) (s : State) (x : Fin 64) (c1 : Chip) (ps : List Place) (size : Nat) (vs : List Nat)
    (q : Ctx → Ctx → Prop) : Prop :=
  let clean := ∀ p ∈ ps, ∀ e, p.entry = some e → e.d = true
  ∃ c2, exec i s = .next { s with chip := c2 } ∧ q (s.chip.dev.ctx x) (c2.dev.ctx x) ∧ CtxsBut s.chip.dev c2.dev x ∧
    c2.mem.flash = s.chip.mem.flash ∧
    (∀ b, (∀ p ∈ ps, (b < p.key ∨ p.key + size ≤ b) ∧ ∀ e, p.entry = some e → e.d = false → b < e.leaf ∨ e.leaf + 4 ≤ b) →
      c2.mem.byte b = c1.mem.byte b) ∧
    (clean → c2.dev = c1.dev.modCtx x fun _ => c2.dev.ctx x) ∧
    (clean → ps.length = vs.length → ps.Pairwise (fun p q => p.key + size ≤ q.key ∨ q.key + size ≤ p.key) →
      ps.map (fun p => bytesAt c2.mem p.key size) = vs.map (· % 256 ^ size))

/-- The stream instructions of context `x` on P[p]; `j` names a lane and a byte, `o` and `f` a stream pointer's field. -/
abbrev StreamsAt (s : State) (x : Fin 64) (rd : BitVec 5) (p : BitVec 3) (vd : BitVec 4) (imm : BitVec 16) (c1 : Chip)
    (pl : Place) (ps : List Place) (j : Fin 8) (o : BitVec 3) (f : Fin 3) (w : BitVec 4) : Prop :=
  let k0 := s.chip.dev.ctx x
  let c := (s.chip.fetch x).1
  let base := k0.rdP p 0
  let len := k0.rdP p 1
  let idx := k0.rdP p 2
  let at_ := fun (i : Nat) => (base + (if len = 0 then idx + i else (idx + i) % len)) % 2 ^ 32
  let step := fun (n : Int) => if len = 0 then ((idx + n) % 2 ^ 24).toNat else ((idx + n) % (len : Int)).toNat
  let odd := fun (i n : Nat) => base % n ≠ 0 ∨ (idx + i) % n ≠ 0 ∨ len % n ≠ 0
  let lanes : List Ref := (List.range 8).map fun i => ⟨at_ (4 * i), decide (odd (4 * i) 4)⟩
  let moved := fun (k k' : Ctx) (n : Int) => k'.rdP o f = if o = p ∧ f = 2 then step n else k.rdP o f
  let G := (k0.rdG rd).toNat
  (¬ odd 0 4 → Reaches c x (at_ 0) 4 Access.load c1 pl →
    RunsFrom (.ldp x rd p imm) s x c1 fun k k' =>
      moved k k' (4 * imm.toInt) ∧ GWrote { k with p := k'.p } k' rd (BitVec.ofNat 32 (bytesAt c1.mem pl.key 4)) 0) ∧
  (¬ odd 0 4 → Reaches c x (at_ 0) 4 Access.store c1 pl →
    Stores (.stp x rd p imm) s x c1 pl 4 G fun k k' =>
      moved k k' (4 * imm.toInt) ∧ { k' with p := k.p } = { k with pc := (k.pc + 4) % 2 ^ 32 }) ∧
  (odd 0 4 → Reaches c x (at_ 0) 1 Access.load c1 pl → Halts (.ldp x rd p imm) s x c1) ∧
  (odd 0 4 → Reaches c x (at_ 0) 1 Access.store c1 pl → Halts (.stp x rd p imm) s x c1) ∧
  (ReachesAll c x 4 Access.load lanes c1 ps →
    RunsFrom (.vld x vd p imm) s x c1 fun k k' =>
      moved k k' (4 * imm.toInt) ∧ k'.rdV vd j = BitVec.ofNat 32 (bytesAt c1.mem (ps.getD j ⟨0, none⟩).key 4) ∧
      (w ≠ vd → k'.rdV w j = k.rdV w j) ∧ { k' with p := k.p, v := k.v } = { k with pc := (k.pc + 4) % 2 ^ 32 }) ∧
  (ReachesAll c x 4 Access.store lanes c1 ps →
    StoresAll (.vst x vd p imm) s x c1 ps 4 ((List.range 8).map fun i => (k0.rdV vd i).toNat) fun k k' =>
      moved k k' (4 * imm.toInt) ∧ { k' with p := k.p } = { k with pc := (k.pc + 4) % 2 ^ 32 }) ∧
  (Runs (.pget x rd p f) s x fun k k' => GWrote k k' rd (BitVec.ofNat 32 (k.rdP p f)) 0) ∧
  (Runs (.pput x rd p f) s x fun k k' =>
    k'.rdP p f = (if f = 0 then G else G % 2 ^ 24) ∧ (∀ g : Fin 3, o ≠ p ∨ g ≠ f → k'.rdP o g = k.rdP o g) ∧
      { k' with p := k.p } = { k with pc := (k.pc + 4) % 2 ^ 32 }) ∧
  (Runs (.padd x rd p) s x fun k k' =>
    moved k k' (k.rdG rd).toInt ∧ { k' with p := k.p } = { k with pc := (k.pc + 4) % 2 ^ 32 })

/-- A stream access lies at its pointer's place, whose index wraps at LEN, and moves the pointer by 4 × imm16; a
misaligned pointer stops the context (R222, R240, R274, R278). -/
def Streams : Prop :=
  ∀ s x rd p vd imm c1 pl ps j o f w, Issues s x → StreamsAt s x rd p vd imm c1 pl ps j o f w

/-- Branches and jumps of context `x`. -/
abbrev BranchesAt (s : State) (x : Fin 64) (rd rs rt : BitVec 5) (off : BitVec 16) (far : BitVec 26)
    (c1 : Chip) : Prop :=
  let ok := Issues s x
  let k0 := s.chip.dev.ctx x
  let a := k0.rdG rs
  let b := k0.rdG rt
  let goes := fun (k k' : Ctx) (n : Int) => k' = { k with pc := (((k.pc : Int) + 4 * n) % 2 ^ 32).toNat }
  let linked := fun (k k' : Ctx) (r : BitVec 5) (t : Nat) =>
    (∀ q : BitVec 5, k'.rdG q = if q = 0 then 0 else if q = r then BitVec.ofNat 32 (k.pc + 4) else k.rdG q) ∧
      { k' with g := k.g } = { k with pc := t }
  let branch := fun (i : Instr) (t : Bool) => Runs i s x fun k k' => goes k k' (if t = true then off.toInt else 1)
  (ok → branch (.beq x rs rt off) (decide (a = b))) ∧
  (ok → branch (.bne x rs rt off) (decide (a ≠ b))) ∧
  (ok → branch (.blt x rs rt off) (decide (a.toInt < b.toInt))) ∧
  (ok → branch (.bge x rs rt off) (decide (b.toInt ≤ a.toInt))) ∧
  (ok → branch (.bltu x rs rt off) (decide (a.toNat < b.toNat))) ∧
  (ok → branch (.bgeu x rs rt off) (decide (b.toNat ≤ a.toNat))) ∧
  (ok → Runs (.jal x far) s x fun k k' => linked k k' 1 (((k.pc : Int) + 4 * far.toInt) % 2 ^ 32).toNat) ∧
  (ok → Runs (.jalr x rd rs off) s x fun k k' => linked k k' rd ((a.toInt + off.toInt) % 2 ^ 32).toNat) ∧
  (ok → a.toNat ≠ 1 → rs ≠ 0 →
    Runs (.loop x rs off) s x fun k k' =>
      (∀ q : BitVec 5, k'.rdG q = if q = 0 then 0 else if q = rs then BitVec.ofInt 32 (a.toInt - 1) else k.rdG q) ∧
      goes { k with g := k'.g } k' off.toInt) ∧
  (ok → a.toNat = 1 → Runs (.loop x rs off) s x fun k k' => GWrote k k' rs 0 0) ∧
  (ok → rs = 0 → Runs (.loop x rs off) s x fun k k' => goes k k' off.toInt) ∧
  (s.chip.dev.running x = true → k0.pc % 4 ≠ 0 →
    (s.chip.reach (s.chip.dev.whoCtx x) k0.pc 1 Access.fetch).2.toOption.isSome = true →
    s.chip.reach (s.chip.dev.whoCtx x) k0.pc 4 Access.fetch =
      ((s.chip.reach (s.chip.dev.whoCtx x) k0.pc 1 Access.fetch).1, .error 8)) ∧
  (s.chip.dev.running x = true → k0.pc % 4 ≠ 0 → s.chip.reach (s.chip.dev.whoCtx x) k0.pc 4 Access.fetch = (c1, .error 8) →
    Turns (.nop x) s fun _ c' =>
      c'.dev = (c1.dev.modCtx x fun k => { k with epc := k0.pc }).ctxFault x 8 Access.fetch k0.pc ∧
      c'.dev.ctx x = { c1.dev.ctx x with epc := (c1.dev.ctx x).pc, run := .faulted } ∧ CtxsBut c1.dev c'.dev x ∧
      c'.dev.rd (F.X_EVENTS_FAULT_EV (x / 4) (x % 4)) = 1 ∧ RecordFrame c1 c')

/-- Branch targets are relative to the branch's own address; JAL and JALR write the return address, JALR after its
target is read; LOOP counts down; at a misaligned target, where nothing else refuses the access, the fetch stops the
context with cause 8 and EPC holds the target (R298). -/
def Branches : Prop := ∀ s x rd rs rt off far c1, Live s → BranchesAt s x rd rs rt off far c1

/-- Queue instructions and ENV of context `x` on queue `q`; `w` and `ws` are the words of its first packet `p`. -/
abbrev QueueInstructionsAt (s : State) (x : Fin 64) (rd rt rq : BitVec 5) (qimm : BitVec 11) (t : Fin 3) (g n : BitVec 3)
    (p : Packet) (ps : List Packet) (w : QWord) (ws : List QWord) (tk : Task) (e : (Nat × Nat) × (Nat × Nat)) : Prop :=
  let k0 := s.chip.dev.ctx x
  let c := (s.chip.fetch x).1
  let d0 := c.dev
  let q := ((k0.rdG rq).toNat + qimm.toNat) % 4096
  let z := d0.q q
  let plain := k0.task = none ∨ (k0.task = some tk ∧ (tk.free = true ∨ (tk.ins ++ tk.outs).any (fun e => e.queue == q) = false))
  let live := d0.rd (F.Q_CFG_EN q) ≠ 0 ∧ z.err = false
  let room := live ∧ z.discard = false ∧ (z.needsCell = false ∨ 0 < d0.credit q)
  let two := fun (k k' : Ctx) (v tag : Word) =>
    (∀ r : BitVec 5, k'.rdG r = if r = 0 then 0 else if r = rt then tag else if r = rd then v else k.rdG r) ∧
      { k' with g := k.g, popping := k.popping } = { k with pc := (k.pc + 4) % 2 ^ 32 }
  let rest := fun (d d' : Dev) => Sets d d' [] (countF q) ∧ QueuesBut d d' q ∧ CtxsBut d d' x ∧
    { d' with regs := d.regs, queues := d.queues, ctxs := d.ctxs, pool := d.pool, badRows := d.badRows,
                freeCtr := d.freeCtr } = d
  let v := k0.rdG rd
  let pushed := fun (k k' : Ctx) => { k' with outSlots := k.outSlots, made := k.made } = { k with pc := (k.pc + 4) % 2 ^ 32 } ∧
    k'.made = if k.made.contains q = true then k.made else q :: k.made
  (plain → live → z.packets = p :: ps → p.words = w :: ws → p.arrival.isSome = true →
    Turns (.pop x rd rt rq qimm) s fun _ c' =>
      two k0 (c'.dev.ctx x) w.data (BitVec.ofNat 32 (1 + (if w.e = true then 2 else 0) + 4 * w.k)) ∧
      (c'.dev.q q).packets = (if w.e then ps else { p with words := ws, begun := true } :: ps) ∧ rest d0 c'.dev ∧
      (c'.dev.ctx x).popping = (k0.popping.filter (· != q)) ++ (if w.e = true then [] else [q]) ∧
      c'.dev.badRows = d0.badRows ∧ c'.mem = c.mem) ∧
  (plain → live → z.packets = [] →
    Turns (.pop x rd rt rq qimm) s fun _ c' =>
      two k0 (c'.dev.ctx x) (BitVec.ofNat 32 ((if z.epoch ≠ z.remembered then 1 else 0) + z.epoch % 65536 * 65536)) 0 ∧
      (c'.dev.q q) = { z with remembered := z.epoch } ∧ rest d0 c'.dev ∧ (c'.dev.ctx x).popping = k0.popping ∧
      c'.dev.badRows = d0.badRows ∧ c'.mem = c.mem) ∧
  (plain → room →
    Turns (.push x t rd rq qimm) s fun _ c' =>
      (c'.dev.q q).openWords = z.openWords ++ [⟨v, false, t⟩] ∧ (c'.dev.q q).packets = z.packets ∧
      pushed k0 (c'.dev.ctx x) ∧ rest d0 c'.dev ∧ WordStored c c' q ⟨v, false, t⟩) ∧
  (plain → room →
    Turns (.pushe x t rd rq qimm) s fun _ c' =>
      (c'.dev.q q).openWords = [] ∧
      (c'.dev.q q).packets = z.packets ++ [⟨z.openWords ++ [⟨v, true, t⟩], none, none, 0, false, 0⟩] ∧
      pushed k0 (c'.dev.ctx x) ∧ rest d0 c'.dev ∧ WordStored c c' q ⟨v, true, t⟩) ∧
  (plain →
    Runs (.pktcnt x rd rq qimm) s x fun k k' =>
      GWrote k k' rd (BitVec.ofNat 32 (min 65535 (z.packets.countP (·.arrival.isSome)))) 0) ∧
  (Runs (.pktcntCredit x rd rq qimm) s x fun k k' => GWrote k k' rd (BitVec.ofInt 32 (d0.credit q)) 0) ∧
  (k0.task = some tk → tk.free = false → n.toNat < k0.n →
    Turns (.env x rd g n) s fun _ c' =>
      ((x.val, g.toNat), (k0.release + 1 + n.toNat, v.toNat % 65536)) ∈ c'.dev.envs ∧
      ((e.1 ≠ (x.val, g.toNat) ∨ e.2.1 ≠ k0.release + 1 + n.toNat) → (e ∈ c'.dev.envs ↔ e ∈ d0.envs)) ∧
      c'.dev.ctx x = { k0 with pc := (k0.pc + 4) % 2 ^ 32 } ∧ CtxsBut d0 c'.dev x ∧
      { c'.dev with envs := d0.envs, ctxs := d0.ctxs } = d0 ∧ c'.mem = c.mem) ∧
  ((k0.task = none ∨ k0.n ≤ n.toNat) →
    Runs (.env x rd g n) s x fun k k' => k' = { k with fsr := Nat.lor k.fsr 2048, pc := (k.pc + 4) % 2 ^ 32 })

/-- POP, PUSH, PUSHE, PKTCNT and ENV of queues that are not block inputs or outputs: what they read and write, the
queue's state and the rail target (R198, R199, R201, R279 to R282, R297). A POP whose rd and rt are one register leaves
the tag there (assumption 119). -/
def QueueInstructions : Prop :=
  ∀ s x rd rt rq qimm t g n p ps w ws tk e, Issues s x → QueueInstructionsAt s x rd rt rq qimm t g n p ps w ws tk e

/-- Control instructions and undefined words of context `x`. -/
abbrev ControlAt (s : State) (x : Fin 64) (rd : BitVec 5) (w : Word) (t : Task) (j : Fin 16) (l : Nat × Nat)
    (b : ListEntry) (i : Fin 8) (pt : PtrInit) : Prop :=
  let k0 := s.chip.dev.ctx x
  let c := (s.chip.fetch x).1
  let block := k0.task = some t ∧ t.free = false
  let cnt := fun (k : Nat) => F.X_CNT_COUNT (x / 4) (x % 4) k
  let up := fun (d : Dev) (k n : Nat) => min (d.rd (F.X_CNT_COUNT (x / 4) (x % 4) k) + n) (2 ^ 32 - 1)
  let lastRun := F.X_RUNTIME_LAST (x / 4) (x % 4)
  let maxRun := F.X_RUNTIME_MAX (x / 4) (x % 4)
  let old := fun (p : Packet) => p.arrival.any fun a => decide (a < k0.release)
  let gone := ((c.dev.q b.queue).packets.filter old).length
  let slot := k0.outSlot b.queue
  let left := slot.isOpen = true ∧ (c.dev.q b.queue).openWords ≠ []
  let next := fun (k : Ctx) => { k with pc := (k.pc + 4) % 2 ^ 32 }
  (Runs (.nop x) s x fun k k' => k' = next k) ∧
  ((k0.task = none ∨ (k0.task = some t ∧ t.free = true)) →
    Runs (.waittick x) s x fun k k' => k' = { next k with run := .tickwait }) ∧
  (block → k0.dmaExc = [] →
    Turns (.waittick x) s fun _ c' =>
      { c'.dev.ctx x with outSlots := k0.outSlots, made := k0.made, copy := k0.copy } = { next k0 with run := .idle } ∧
      CtxsBut c.dev c'.dev x ∧ BytesBut c.mem c'.mem (t.desc + 40) 96 ∧ (t.ptrs.all (fun p => !p.wb) = true → c'.mem = c.mem) ∧
      c'.dev.rd (cnt 1) = up c.dev 1 1 ∧ c'.dev.rd maxRun = max (c'.dev.rd lastRun) (c.dev.rd maxRun) ∧
      { c'.dev with regs := c.dev.regs, queues := c.dev.queues, ctxs := c.dev.ctxs, pool := c.dev.pool, rake := c.dev.rake,
                    freeCtr := c.dev.freeCtr } = c.dev) ∧
  (block → k0.dmaExc = [] → t.ins = [] → t.outs = [] → t.ptrs = [] →
    Turns (.waittick x) s fun _ c' =>
      Sets c.dev c'.dev [(cnt 1, up c.dev 1 1)] [lastRun, maxRun] ∧ c'.dev.ctx x = { next k0 with run := .idle } ∧
      c'.dev.queues = c.dev.queues ∧ c'.dev.pool = c.dev.pool ∧ c'.dev.rake = c.dev.rake) ∧
  (block → k0.dmaExc = [] → t.ins = [b] → b.plain = false → t.outs = [] →
    Turns (.waittick x) s fun _ c' =>
      (c'.dev.q b.queue).packets = (c.dev.q b.queue).packets.filter (fun p => !old p) ∧ QueuesBut c.dev c'.dev b.queue ∧
      Sets c.dev c'.dev ([(cnt 1, up c.dev 1 1), (cnt 3, up c.dev 3 gone)] ++
          if gone = 0 then [] else [(F.X_EVENTS_LEFTOVER_EV (x / 4) (x % 4), 1)])
        (countF b.queue ++ [lastRun, maxRun])) ∧
  (block → k0.dmaExc = [] → t.ins = [] → t.outs = [b] → b.plain = false →
    Turns (.waittick x) s fun _ c' =>
      ((c'.dev.ctx x).outSlot b.queue).isOpen = false ∧ QueuesBut c.dev c'.dev b.queue ∧
      (c'.dev.q b.queue).packets = (c.dev.q b.queue).packets ∧
      (slot.isOpen = true → slot.excess = false → (c'.dev.q b.queue).openWords = []) ∧
      Sets c.dev c'.dev ([(cnt 1, up c.dev 1 1)] ++
          (if left then [(cnt 4, up c.dev 4 1), (F.X_EVENTS_ABANDON_EV (x / 4) (x % 4), 1)] else []) ++
          if slot.closed < t.n * b.ppt then [(cnt 6, up c.dev 6 1), (F.X_EVENTS_SHORT_EV (x / 4) (x % 4), 1)] else [])
        [lastRun, maxRun]) ∧
  (block → k0.dmaExc = [] → t.ptrs[i.val]? = some pt → pt.wb = true → t.ptrs.length ≤ 8 → t.desc + 40 + 12 * i < 2 ^ 26 →
    Turns (.waittick x) s fun _ c' =>
      c'.mem.load (t.desc + 40 + 12 * i) 4 = (k0.rdP (BitVec.ofNat 3 i) 2 + 2 ^ 31) % 2 ^ 32) ∧
  (Runs (.yield x) s x fun k k' => k' = { next k with run := .yielded }) ∧
  (2 ^ 31 ≤ k0.ecause →
    Runs (.eret x) s x fun k k' => k' = { k with ecause := k.ecause % 2 ^ 31, pc := k.epc }) ∧
  (k0.ecause < 2 ^ 31 → Halts (.eret x) s x c) ∧
  (Turns (.icinv x rd) s fun _ c' =>
    c'.mem = c.mem ∧ c'.dev.ctx x = next k0 ∧ CtxsBut c.dev c'.dev x ∧ (k0.asid, (k0.rdG rd).toNat / 64) ∉ c'.dev.lines (x / 4) ∧
    (l ≠ (k0.asid, (k0.rdG rd).toNat / 64) → (l ∈ c'.dev.lines (x / 4) ↔ l ∈ c.dev.lines (x / 4))) ∧
    (j.val ≠ x / 4 → c'.dev.lines j = c.dev.lines j)) ∧
  (Turns (.icinva x) s fun _ c' =>
    c'.mem = c.mem ∧ c'.dev.ctx x = next k0 ∧ CtxsBut c.dev c'.dev x ∧ c'.dev.lines (x / 4) = [] ∧
    (j.val ≠ x / 4 → c'.dev.lines j = c.dev.lines j)) ∧
  (Runs (.fsrr x rd) s x fun k k' => GWrote k k' rd (BitVec.ofNat 32 k.fsr) 0) ∧
  (Runs (.fsrw x rd) s x fun k k' =>
    k'.fsr = (k.rdG rd).toNat % 32 + (k.rdG rd).toNat / 256 % 16 * 256 ∧ { k' with fsr := k.fsr } = next k) ∧
  ((w.toNat / 2 ^ 26 = 9 ∨ 61 ≤ w.toNat / 2 ^ 26 ∨ (w.toNat / 2 ^ 26 = 0 ∧ 18 ≤ w.toNat % 64)) →
    Halts (.illegalInstruction x w) s x c) ∧
  (isaDefined w.toNat = true → Moves (.illegalInstruction x w) s fun d d' => d' = d)

/-- Waits, ERET, cache invalidation and FSR act on their context and core alone, but for WAITTICK in a periodic task: it
ends the block, popping what its inputs still held, abandoning its open outputs, counting and writing stream indices
back; ERET without ECAUSE[31] and an undefined word stop the context with its registers as they were (R250, R255, R256,
R259, R262, R263, R267, R275, R299). ILLEGAL_INSTRUCTION with a word that the tables define changes nothing (assumption
10). -/
def Control : Prop := ∀ s x rd w t j l b i pt, Issues s x → ControlAt s x rd w t j l b i pt

/-- Instruction `i` of context `x` does to the chip `c` what the command `b` does, and answers a next state; of the
context itself `q` says what else changes. -/
def ActsAs (i b : Instr) (s : State) (x : Fin 64) (c : Chip) (q : Ctx → Ctx → Prop) : Prop :=
  ∃ t c', exec b { s with chip := c } = .next t ∧ exec i s = .next { s with chip := c' } ∧ c'.mem = t.chip.mem ∧
    q (t.chip.dev.ctx x) (c'.dev.ctx x) ∧ CtxsBut t.chip.dev c'.dev x ∧
    { c'.dev with ctxs := t.chip.dev.ctxs } = t.chip.dev

/-- The system instructions of context `x`, privileged and not. -/
abbrev SystemAt (s : State) (x : Fin 64) (rd rs rt : BitVec 5) (a : Nat) : Prop :=
  let k0 := s.chip.dev.ctx x
  let c := (s.chip.fetch x).1
  let d0 := c.dev
  let me : Fin 65 := Fin.ofNat 65 (x + 1)
  let r0 := d0.req (x + 1)
  let priv := d0.rd (F.CORE_CFG_PRIV (x / 4)) / 2 ^ (x % 4).val % 2 = 1
  let next := fun (k : Ctx) => { k with pc := (k.pc + 4) % 2 ^ 32 }
  let moves := fun (k k' : Ctx) => k' = next k
  let v := (k0.rdG rs).toNat
  let w := (k0.rdG rt).toNat
  let ch := v % 32
  let cmd := v / 256 % 16
  let none := 0x70000000 ≤ v ∨ (v < 2 ^ 28 ∧ 0x800000 ≤ v % 2 ^ 24)
  (¬ priv → Halts (.tlbinv x rs rt) s x c ∧ Halts (.setasid x rs) s x c ∧ Halts (.dmak x rs) s x c ∧
    Halts (.rdreg x rd rs) s x c ∧ Halts (.wrreg x rs rt) s x c ∧ Halts (.lamop x rs) s x c) ∧
  (priv → Runs (.setasid x rs) s x fun k k' => k' = { next k with asid := v % 256 }) ∧
  (priv → v % 4 = 0 → Runs (.tlbinv x rs rt) s x fun k k' => k' = next k) ∧
  (priv → v % 4 ≠ 0 →
    Turns (.tlbinv x rs rt) s fun _ c' =>
      c'.dev.inv = d0.inv ++ [⟨v % 4, v / 4 % 256, (k0.rdG rt).toNat, some (x.val, d0.generation 4 (x / 4))⟩] ∧ Sets d0 c'.dev [(F.MMU_INV_BUSY, 1)] [] ∧
      c'.dev.ctx x = { k0 with stall := true } ∧ CtxsBut d0 c'.dev x ∧ c'.mem = c.mem ∧
      { c'.dev with regs := d0.regs, inv := d0.inv, ctxs := d0.ctxs } = d0) ∧
  (priv → cmd = 1 → d0.rd (F.DMA_STATUS_STATE ch) = 0 →
    Turns (.dmak x rs) s fun _ c' =>
      Sets d0 c'.dev [(F.DMA_STATUS_STATE ch, 1), (F.DMA_CUR_VA ch, d0.rd (F.DMA_DESC_VA ch) / 32 * 32),
        (F.DMA_DONE_BYTES_BYTES ch, 0)] [] ∧ c'.dev.dma ch = (d0.dma ch).rest ∧ c'.dev.ctx x = next k0 ∧ CtxsBut d0 c'.dev x ∧ c'.mem = c.mem) ∧
  (priv → cmd = 4 → d0.rd (F.DMA_STATUS_STATE ch) = 2 →
    Turns (.dmak x rs) s fun _ c' =>
      Sets d0 c'.dev [(F.DMA_STATUS_STATE ch, 1)] [] ∧ c'.dev.ctx x = next k0 ∧ CtxsBut d0 c'.dev x ∧ c'.mem = c.mem) ∧
  (priv → cmd = 0 → Runs (.dmak x rs) s x fun k k' => k' = next k) ∧
  (priv → cmd = 1 → ActsAs (.dmak x rs) (.dmaKick (Fin.ofNat 32 ch)) s x c moves) ∧
  (priv → cmd = 2 → ActsAs (.dmak x rs) (.dmaFence (Fin.ofNat 32 ch)) s x c moves) ∧
  (priv → cmd = 4 → ActsAs (.dmak x rs) (.dmaResume (Fin.ofNat 32 ch)) s x c moves) ∧
  (priv → cmd = 8 → ActsAs (.dmak x rs) (.dmaAbort (Fin.ofNat 32 ch)) s x c moves) ∧
  (priv → v = 0x380020 → Runs (.rdreg x rd rs) s x fun k k' => GWrote k k' rd (BitVec.ofNat 32 (d0.rd F.TWIN_CONVERGE_TICKS)) 0) ∧
  (priv → none → Runs (.rdreg x rd rs) s x fun k k' => GWrote k k' rd 0 0) ∧
  (priv → canonForm v = some a → a ≠ 0x34 → d0.inReset a = false → beforeScrub a = false ∨ d0.sys.scrubbed = true →
    ActsAs (.rdreg x rd rs) (.rcRead me (k0.rdG rs)) s x c fun k k' =>
      GWrote k k' rd (BitVec.ofNat 32 (d0.view (x + 1) a)) 0) ∧
  (priv → canonForm v = some 0x34 → canonInd r0.space r0.offset = some a → d0.inReset a = false →
      beforeScrub a = false ∨ d0.sys.scrubbed = true →
    ActsAs (.rdreg x rd rs) (.indDataRead me) s x c fun k k' => GWrote k k' rd (BitVec.ofNat 32 (d0.view (x + 1) a)) 0) ∧
  (priv → ActsAs (.wrreg x rs rt) (.registerWrite me (k0.rdG rs) (k0.rdG rt)) s x c moves) ∧
  (priv → v = 0x380020 →
    Turns (.wrreg x rs rt) s fun _ c' =>
      Sets d0 c'.dev [(F.TWIN_CONVERGE_TICKS, if w % 65536 = 0 then 64 else w % 65536)] [] ∧
      c'.dev.ctx x = next k0 ∧ CtxsBut d0 c'.dev x ∧ c'.mem = c.mem) ∧
  (priv → ActsAs (.lamop x rs) (.registerWrite me 0x3C0000 (k0.rdG rs)) s x c moves) ∧
  (priv → v % 16 = 2 → d0.rd F.LAM_STATUS_STATE = 2 → d0.rd F.LAM_STATUS_BUSY = 0 →
    Turns (.lamop x rs) s fun _ c' =>
      Sets d0 c'.dev [(F.LAM_STATUS_BUSY, 1)] [] ∧ c'.dev.ctx x = next k0 ∧ CtxsBut d0 c'.dev x ∧ c'.mem = c.mem) ∧
  (priv → (v % 16 = 0 ∨ 7 ≤ v % 16) →
    Turns (.lamop x rs) s fun _ c' =>
      Sets d0 c'.dev [(F.LAM_EVENTS_CMD_DENIED, 1)] [] ∧ c'.dev.ctx x = next k0 ∧ CtxsBut d0 c'.dev x ∧ c'.mem = c.mem)

/-- A context without its core's PRIV bit stops at a system instruction with its registers as they were; a privileged
one carries it out: DMAK is its channel's command, and RDREG, WRREG and LAMOP are the accesses of that context's
requester that HostRegs describes (R220, R231, R239, R300 to R302). -/
def System : Prop := ∀ s x rd rs rt a, Issues s x → SystemAt s x rd rs rt a

/-- The count register after a step of a long instruction (R287): TOTAL kept, DONE at `v`, or 0 when `v` reaches TOTAL;
then the instruction completes and the PC goes on. -/
def Counted (k k' : Ctx) (gn : BitVec 5) (v : Nat) : Prop :=
  let g := (k.rdG gn).toNat
  (∀ r : BitVec 5, k'.rdG r = if r = 0 then 0 else if r = gn then
    BitVec.ofNat 32 (g / 65536 * 65536 + if g / 65536 ≤ v then 0 else v) else k.rdG r) ∧
    k'.pc = if g / 65536 ≤ v then (k.pc + 4) % 2 ^ 32 else k.pc

/-- No register but G, A, V, P, FSR and the PC differs. -/
abbrev Progress (k k' : Ctx) : Prop :=
  { k' with g := k.g, a := k.a, aov := k.aov, v := k.v, p := k.p, fsr := k.fsr, pc := k.pc } = k

/-- P[p] moves by `n` when the instruction completes, and no other stream pointer does (R274, R287). -/
abbrev Moved (k k' : Ctx) (p o : BitVec 3) (n : Int) (ends : Bool) : Prop :=
  k'.rdP o 0 = k.rdP o 0 ∧ k'.rdP o 1 = k.rdP o 1 ∧
    k'.rdP o 2 = if o = p ∧ ends = true then
      (if k.rdP o 1 = 0 then (((k.rdP o 2 : Int) + n) % 2 ^ 24).toNat else (((k.rdP o 2 : Int) + n) % (k.rdP o 1 : Int)).toNat)
      else k.rdP o 2

/-- A signed Q1.31 word, and a number clamped to its range. -/
def q31At (v : Nat) : Int := if v % 2 ^ 32 < 2 ^ 31 then v % 2 ^ 32 else (v % 2 ^ 32 : Int) - 2 ^ 32
def clip (w : Nat) (v : Int) : Int := max (-(2 ^ (w - 1))) (min (2 ^ (w - 1) - 1) v)

/-- FIRB, BIQ, RAMP and LIM of context `x`, step by step; `c1` to `c3` are the chip after each preparation and `ps` to
`ps3` the places it found; `j` names a lane, `o` another accumulator and stream pointer. -/
abbrev FiltersAt (s : State) (x : Fin 64) (a pc px : BitVec 3) (gn gs : BitVec 5) (h : Bool) (vd vs vt : BitVec 4)
    (c1 c2 c3 c4 c5 : Chip) (ps ps2 ps3 ps4 ps5 : List Place) (j : Fin 8) (o : BitVec 3) : Prop :=
  let k0 := s.chip.dev.ctx x
  let c := (s.chip.fetch x).1
  let total := (k0.rdG gn).toNat / 65536
  let done := (k0.rdG gn).toNat % 65536
  let n := min 8 (total - done)
  let taps := (List.range n).map (done + ·)
  let w := if h = true then 2 else 4
  let past := total ≤ done
  let ends := fun (v : Nat) => decide (total ≤ v)
  let word := fun (c : Chip) (ps : List Place) (i : Nat) => q31At (bytesAt c.mem (ps.getD i ⟨0, none⟩).key 4)
  let tapRefs := taps.map fun (t : Nat) => k0.ref pc ((w * t : Nat) : Int) w
  let lineRefs := taps.map fun (t : Nat) => k0.ref px (-((4 * t : Nat) : Int)) 4
  let coef := fun (i : Nat) => if h = true then signedOf 16 (bytesAt c1.mem (ps.getD i ⟨0, none⟩).key 2) * 65536 else word c1 ps i
  let start := if done = 0 then 0 else k0.rdA a
  let sum := fun (m : Nat) => start + ((List.range m).map fun i => coef i * word c2 ps2 i).sum
  let fits := (List.range n).all (fun m => decide (-(2 ^ 71) ≤ sum (m + 1) ∧ sum (m + 1) < 2 ^ 71)) = true
  let span := taps.map fun (t : Nat) => k0.ref px ((4 * t : Nat) : Int) 4
  let gain := fun (i : Nat) => k0.rdA a + i * ((k0.rdG gs).toInt * 2 ^ 31)
  let calm := (List.range (n + 1)).all (fun i => decide (-(2 ^ 71) ≤ gain i ∧ gain i < 2 ^ 71)) = true
  let ramped := fun (i : Nat) => rhe (word c1 ps i * clip 32 (rhe (gain i) 31)) 31
  let sN := (k0.rdG gs).toNat % 16 + 1
  let s0 := (k0.rdG gs).toNat / 16 % 16
  let sd := if sN ≤ s0 then 0 else s0
  let frame := if sd = 0 then (List.range 8).map (fun (j : Nat) => k0.ref px ((32 * done + 4 * j : Nat) : Int) 4) else []
  let out := if sd + 1 = sN then (List.range 8).map (fun (j : Nat) => k0.ref px ((32 * done + 4 * j : Nat) : Int) 4) else []
  let coefs := (List.range 40).map fun (i : Nat) => k0.ref pc ((160 * sd + 4 * i : Nat) : Int) 4
  let states := (List.range 16).map fun (i : Nat) => k0.ref o ((128 * sd + 8 * i : Nat) : Int) 8
  let b := fun (m j : Nat) => word c2 ps2 (8 * m + j)
  let old := fun (i : Nat) => signedOf 64 (bytesAt c3.mem (ps3.getD i ⟨0, none⟩).key 8)
  let xin := fun (j : Nat) => if sd = 0 then word c1 ps j else (k0.rdV vd j).toInt
  let y := fun (j : Nat) => clip 32 (rhe (b 0 j * xin j + old j * 64) 31)
  let s1 := fun (j : Nat) => clip 64 (rhe (2 * b 1 j * xin j - 2 * b 3 j * y j + old (8 + j) * 64) 6)
  let s2 := fun (j : Nat) => clip 64 (rhe (b 2 j * xin j - b 4 j * y j) 6)
  let al := (k0.rdG gs).toNat / 65536
  let be := (k0.rdG gs).toNat % 65536
  let target := fun (i : Nat) => max 0 (k0.rdV vt i).toInt
  let smooth := fun (m : Nat) => (List.range m).foldl (fun (v : Int) i =>
    clip 32 (rhe (v * 65536 + (if target i * 2 ^ 31 < v then (al : Int) else be) * (target i * 2 ^ 31 - v)) 47) * 2 ^ 31)
    (max 0 (min ((2 ^ 31 - 1) * 2 ^ 31) (k0.rdA a)))
  (past →
    Runs (.firb x a pc px gn h) s x fun k k' =>
      Counted k k' gn done ∧ Moved k k' px o 4 true ∧ k'.a = k.a ∧ Progress k k') ∧
  (¬ past → ReachesAll c x w Access.load tapRefs c1 ps → ReachesAll c1 x 4 Access.load lineRefs c2 ps2 → fits →
    RunsFrom (.firb x a pc px gn h) s x c2 fun k k' =>
      Counted k k' gn (done + n) ∧ Moved k k' px o 4 (ends (done + n)) ∧ k'.rdA a = sum n ∧ k'.aov = k.aov ∧
      (o ≠ a → k'.rdA o = k.rdA o) ∧ k'.fsr = k.fsr ∧ k'.v = k.v ∧ Progress k k') ∧
  (past →
    Runs (.ramp x px a gs gn) s x fun k k' =>
      Counted k k' gn done ∧ Moved k k' px o (4 * done) true ∧ k'.a = k.a ∧ Progress k k') ∧
  (¬ past → ReachesAll c x 4 Access.load span c1 ps → ReachesAll c1 x 4 Access.store span c2 ps2 → calm →
    StoresAll (.ramp x px a gs gn) s x c2 ps2 4 ((List.range n).map fun i => (clip 32 (ramped i) % 2 ^ 32).toNat) fun k k' =>
      Counted k k' gn (done + n) ∧ Moved k k' px o (4 * total) (ends (done + n)) ∧ k'.rdA a = gain n ∧ k'.aov = k.aov ∧
      (o ≠ a → k'.rdA o = k.rdA o) ∧
      k'.fsr = Nat.lor k.fsr (if (List.range n).all (fun i => decide (clip 32 (ramped i) = ramped i)) = true then 0 else 256) ∧
      Progress k k') ∧
  (past →
    Runs (.biq x vd px pc o gn gs) s x fun k k' =>
      Counted k k' gn done ∧ Moved k k' px px (32 * done) true ∧ k'.v = k.v ∧ k'.a = k.a ∧ Progress k k') ∧
  (¬ past → gn ≠ gs → ReachesAll c x 4 Access.load frame c1 ps → ReachesAll c1 x 4 Access.load coefs c2 ps2 →
    ReachesAll c2 x 8 Access.load states c3 ps3 → ReachesAll c3 x 8 Access.store states c4 ps4 →
    ReachesAll c4 x 4 Access.store out c5 ps5 → sd + 1 ≠ sN →
    StoresAll (.biq x vd px pc o gn gs) s x c5 ps4 8
      ((List.range 8).map (fun j => (s1 j % 2 ^ 64).toNat) ++ (List.range 8).map fun j => (s2 j % 2 ^ 64).toNat) fun k k' =>
      k'.rdV vd j = BitVec.ofInt 32 (y j) ∧ k'.pc = k.pc ∧ k'.p = k.p ∧ k'.a = k.a ∧
      k'.rdG gs = (if gs = 0 then 0 else BitVec.ofNat 32 ((sd + 1) * 16 + (sN - 1))) ∧ k'.rdG gn = k.rdG gn ∧
      Progress k k') ∧
  (¬ past → gn ≠ gs → ReachesAll c x 4 Access.load frame c1 ps → ReachesAll c1 x 4 Access.load coefs c2 ps2 →
    ReachesAll c2 x 8 Access.load states c3 ps3 → ReachesAll c3 x 8 Access.store states c4 ps4 →
    ReachesAll c4 x 4 Access.store out c5 ps5 → sd + 1 = sN →
    Turns (.biq x vd px pc o gn gs) s fun _ c' =>
      Counted (k0.wrGn gs (sN - 1)) (c'.dev.ctx x) gn (done + 1) ∧ Moved k0 (c'.dev.ctx x) px px (32 * total) (ends (done + 1)) ∧
      (c'.dev.ctx x).rdV vd j = BitVec.ofInt 32 (y j) ∧ CtxsBut s.chip.dev c'.dev x ∧
      ((ps4.map (·.key)).all (fun p => (ps5.map (·.key)).all fun q => decide (p + 8 ≤ q ∨ q + 4 ≤ p)) = true →
        (ps5.map (·.key)).Pairwise (fun p q => p + 4 ≤ q ∨ q + 4 ≤ p) → (ps5.all fun p => p.entry.isNone) = true →
        bytesAt c'.mem (ps5.getD j ⟨0, none⟩).key 4 = (y j % 2 ^ 32).toNat ∧
        ((ps4.map (·.key)).Pairwise (fun p q => p + 8 ≤ q ∨ q + 8 ≤ p) → (ps4.all fun p => p.entry.isNone) = true →
          bytesAt c'.mem (ps4.getD j ⟨0, none⟩).key 8 = (s1 j % 2 ^ 64).toNat ∧
          bytesAt c'.mem (ps4.getD (8 + j) ⟨0, none⟩).key 8 = (s2 j % 2 ^ 64).toNat))) ∧
  (Runs (.lim x vd vs vt a gs) s x fun k k' =>
     k'.rdA a = smooth 8 ∧ k'.rdV vd j = BitVec.ofInt 32 (clip 32 (rhe ((k.rdV vs j).toInt * smooth (j + 1)) 62)) ∧
     (o ≠ a → k'.rdA o = k.rdA o) ∧ (vs ≠ vd → k'.rdV vs j = k.rdV vs j) ∧ k'.g = k.g ∧ k'.p = k.p ∧ k'.aov = k.aov ∧
     k'.pc = (k.pc + 4) % 2 ^ 32 ∧ Progress k k')

/-- One step of FIRB, BIQ and RAMP, and LIM: the results of R288, R289, R293 and R296, with progress only in the count
registers; beginning at DONE ≥ TOTAL only the completion happens (R161, R162, R274, R286, R287). -/
def Filters : Prop :=
  ∀ s x a pc px gn gs h vd vs vt c1 c2 c3 c4 c5 ps ps2 ps3 ps4 ps5 j o, Issues s x →
    FiltersAt s x a pc px gn gs h vd vs vt c1 c2 c3 c4 c5 ps ps2 ps3 ps4 ps5 j o

/-- MIX, DLY, CSFP and CSFU of context `x`, step by step. -/
abbrev MoversAt (s : State) (x : Fin 64) (pt pb o : BitVec 3) (gn gd : BitVec 5) (l f : Bool) (vd : BitVec 4) (m : Fin 3)
    (c1 c2 : Chip) (ps ps2 : List Place) (w : QWord) (ws : List QWord) (p : Packet) (qs : List Packet) (j : Fin 8) : Prop :=
  let k0 := s.chip.dev.ctx x
  let c := (s.chip.fetch x).1
  let g := (k0.rdG gn).toNat
  let total := g / 65536
  let done := g % 65536
  let past := total ≤ done
  let ends := fun (v : Nat) => decide (total ≤ v)
  let read := fun (c : Chip) (ps : List Place) (n : Nat) => ps.map fun p => bytesAt c.mem p.key n
  let base := k0.rdP pt 0
  let len := k0.rdP pt 1
  let pos := k0.rdP pt 2
  let bad := len = 0 ∨ len % 4 ≠ 0
  let badC := len = 0 ∨ len % 96 ≠ 0
  let even := base % 4 = 0
  let evenC := base % 16 = 0
  let n := min 8 (total - done)
  let line := fun (q : Int) => (⟨(base + 4 * (q % (len / 4 : Nat)).toNat) % 2 ^ 32, false⟩ : Ref)
  let slot := fun (q : Int) => (List.range 16).map fun b =>
    (⟨((base + 16 * ((q % (6 * len / 16 : Nat)).toNat / 6)) % 2 ^ 32 + b) % 2 ^ 32, false⟩ : Ref)
  let words := fun (m : Nat) => (List.range m).map fun (i : Nat) => k0.ref pb ((4 * (done + i) : Nat) : Int) 4
  let back : Int := pos - (k0.rdG gd).toNat + done
  let six := min 6 (total - done)
  let away := min (6 - (back % 6).toNat) (total - done)
  let size := if f = true then 10 else 13
  let bytes := (List.range size).map fun (i : Nat) => k0.ref pb ((size * done + i : Nat) : Int) 1
  let six6 := (List.range 6).map fun (i : Nat) => k0.ref pt ((24 * done + 4 * i : Nat) : Int) 4
  let cnt := g % 128
  let i := g / 256 % 128
  let word := g / 2 ^ 16 % 32
  let cl := g / 2 ^ 21 % 8 + 1
  let act := if i = 0 ∧ word = 0 then 0 else g / 2 ^ 24 % 128
  let e := bytesAt c1.mem (ps.getD 0 ⟨0, none⟩).key 4
  let gain := q31At (bytesAt c1.mem (ps.getD 1 ⟨0, none⟩).key 4)
  let q := e % 4096
  let z := c1.dev.q q
  let entry := [k0.ref pt ((8 * i : Nat) : Int) 4, k0.ref pt ((8 * i + 4 : Nat) : Int) 4]
  let opened := i < min cnt 64 ∧ ReachesAll c x 4 Access.load entry c1 ps ∧
    ReachesAll c1 x 4 Access.store [k0.ref pt ((8 * i : Nat) : Int) 4] c2 ps2 ∧ k0.task = none ∧ i + 1 < min cnt 64 ∧ word = 0 ∧
    c1.dev.rd (F.Q_CFG_EN q) ≠ 0 ∧ z.err = false ∧ (ps2.all fun p => p.entry.isNone) = true ∧ c2.dev = c1.dev
  let acc := if i = 0 then 0 else k0.rdA 0
  let again := k0.mixing.contains k0.pc = true
  let fits24 := fun (l : List Nat) => l.all fun v => decide (clip 24 (rhe (q31At v) 8) = rhe (q31At v) 8)
  let went := fun (c' : Chip) (act mark : Nat) =>
    (c'.dev.ctx x).rdG gn = (if gn = 0 then 0 else BitVec.ofNat 32 (cnt + (i + 1) * 256 + word * 2 ^ 16 + (cl - 1) * 2 ^ 21 + act % 128 * 2 ^ 24)) ∧
    (c'.dev.ctx x).pc = k0.pc ∧ bytesAt c'.mem (ps2.getD 0 ⟨0, none⟩).key 4 = e % 2 ^ 29 + mark + e / 2 ^ 31 * 2 ^ 31 ∧
    BytesBut c2.mem c'.mem (ps2.getD 0 ⟨0, none⟩).key 4 ∧ CtxsBut c2.dev c'.dev x ∧ QueuesBut c2.dev c'.dev q
  (min cnt 64 ≤ i → (m = 0 ∨ act = 0) →
    Runs (.mix x vd pt gn m l) s x fun k k' =>
      k'.rdV vd j = (if j < cl ∧ m = 0 ∧ i ≠ 0 ∧ cnt ≠ 0 then BitVec.ofInt 32 (clip 32 (rhe (k.rdA (BitVec.ofNat 3 j)) 31)) else 0) ∧
      k'.rdG gn = (if gn = 0 then 0 else BitVec.ofNat 32 (cnt + (if l = true then 0 else (word + cl) % 32 * 2 ^ 16 + act % 128 * 2 ^ 24) +
        (cl - 1) * 2 ^ 21)) ∧
      k'.pc = (k.pc + 4) % 2 ^ 32 ∧ k'.p = k.p ∧ Progress k k') ∧
  (min cnt 64 ≤ i → m ≠ 0 → act ≠ 0 →
    Runs (.mix x vd pt gn m l) s x fun k k' =>
      k'.rdV vd j = (if j < cl ∧ i ≠ 0 ∧ cnt ≠ 0 then BitVec.ofInt 32 (clip 32 (rhe (k.rdA (BitVec.ofNat 3 j) * (reciprocal m act).1)
        (31 + (reciprocal m act).2))) else 0) ∧ k'.pc = (k.pc + 4) % 2 ^ 32 ∧ Progress k k') ∧
  (opened → ¬ again → z.packets = [] →
    Turns (.mix x vd pt gn m l) s fun _ c' => went c' act (2 ^ 30) ∧ (c'.dev.ctx x).rdA 0 = acc ∧
      (c'.dev.ctx x).fsr = k0.fsr) ∧
  -- a packet that goes on past the block: the step that takes the block, then steps that discard 8 words each
  (opened → ¬ again → z.packets = p :: qs → p.arrival.isSome = true → p.words = w :: ws → w.e = false → cl = 1 →
    -(2 ^ 70) ≤ acc → acc < 2 ^ 70 →
    Turns (.mix x vd pt gn m true) s fun _ c' =>
      (c'.dev.ctx x).rdG gn = k0.rdG gn ∧ (c'.dev.ctx x).pc = k0.pc ∧ (c'.dev.ctx x).mixing.contains k0.pc = true ∧
      (c'.dev.q q).packets = { p with words := ws, begun := true } :: qs ∧ c'.mem = c2.mem ∧
      (c'.dev.ctx x).rdA 0 = acc + (if e / 2 ^ 31 = 0 then gain * w.data.toInt else 0) ∧
      (c'.dev.ctx x).fsr = Nat.lor k0.fsr 1024 ∧ CtxsBut c2.dev c'.dev x ∧ QueuesBut c2.dev c'.dev q) ∧
  (opened → again → z.packets = p :: qs → p.arrival.isSome = true → p.words = w :: ws → 7 < ws.length →
    (w :: ws.take 7).all (fun w => !w.e) = true →
    Turns (.mix x vd pt gn m true) s fun _ c' =>
      (c'.dev.ctx x).rdG gn = k0.rdG gn ∧ (c'.dev.ctx x).pc = k0.pc ∧ (c'.dev.ctx x).mixing.contains k0.pc = true ∧
      (c'.dev.q q).packets = { p with words := ws.drop 7, begun := true } :: qs ∧ c'.mem = c2.mem ∧
      (c'.dev.ctx x).a = k0.a ∧ (c'.dev.ctx x).fsr = Nat.lor k0.fsr 1024 ∧ CtxsBut c2.dev c'.dev x ∧
      QueuesBut c2.dev c'.dev q) ∧
  (opened → again → z.packets = p :: qs → p.arrival.isSome = true → p.words = w :: ws → ws.length ≤ 7 →
    (w :: ws).dropLast.all (fun w => !w.e) = true → (w :: ws).getLast?.any (fun w => w.e) = true →
    Turns (.mix x vd pt gn m true) s fun _ c' =>
      went c' (act + if e / 2 ^ 31 = 0 ∧ gain ≠ 0 then 1 else 0) 0 ∧ (c'.dev.q q).packets = qs ∧
      (c'.dev.ctx x).mixing.contains k0.pc = false ∧ (c'.dev.ctx x).a = k0.a ∧
      (c'.dev.ctx x).fsr = Nat.lor k0.fsr 1024) ∧
  (opened → ¬ again → z.packets = p :: qs → p.words = [w] → w.e = true → p.arrival.isSome = true → cl = 1 → l = true →
    -(2 ^ 70) ≤ acc → acc < 2 ^ 70 →
    Turns (.mix x vd pt gn m l) s fun _ c' =>
      went c' (act + if e / 2 ^ 31 = 0 ∧ gain ≠ 0 then 1 else 0) (2 ^ 29) ∧ (c'.dev.q q).packets = qs ∧
      (c'.dev.ctx x).rdA 0 = acc + (if e / 2 ^ 31 = 0 then gain * w.data.toInt else 0) ∧ (c'.dev.ctx x).fsr = k0.fsr) ∧
  (bad → Halts (.dlyWrite x pt pb gn false) s x c ∧ Halts (.dlyRead x pt pb gn gd false) s x c) ∧
  (badC → Halts (.dlyWrite x pt pb gn true) s x c ∧ Halts (.dlyRead x pt pb gn gd true) s x c) ∧
  (¬ bad → ¬ past → ¬ even → ReachesAll c x 1 Access.load [line back] c1 ps →
    Halts (.dlyRead x pt pb gn gd false) s x c1) ∧
  (¬ badC → ¬ past → ¬ evenC → ReachesAll c x 1 Access.load ((slot back).take 1) c1 ps →
    Halts (.dlyRead x pt pb gn gd true) s x c1) ∧
  (¬ bad → ¬ past → ¬ even → ReachesAll c x 4 Access.load (words n) c1 ps →
    ReachesAll c1 x 1 Access.store [line (pos + done : Nat)] c2 ps2 → Halts (.dlyWrite x pt pb gn false) s x c2) ∧
  (¬ badC → ¬ past → ¬ evenC → pos % 6 = 0 → done % 6 = 0 → total % 6 = 0 → ReachesAll c x 4 Access.load (words six) c1 ps →
    ReachesAll c1 x 1 Access.store ((slot (pos + done : Nat)).take 1) c2 ps2 → Halts (.dlyWrite x pt pb gn true) s x c2) ∧
  (¬ badC → (pos % 6 ≠ 0 ∨ done % 6 ≠ 0 ∨ total % 6 ≠ 0) → Halts (.dlyWrite x pt pb gn true) s x c) ∧
  (¬ bad → past → pt ≠ pb →
    Runs (.dlyWrite x pt pb gn false) s x fun k k' =>
      Counted k k' gn done ∧ k'.rdP pt 2 = (pos + done) % (len / 4) ∧ Moved k k' pb pb (4 * done) true ∧ Progress k k') ∧
  (¬ bad → past →
    Runs (.dlyRead x pt pb gn gd false) s x fun k k' => Counted k k' gn done ∧ Moved k k' pb o (4 * done) true ∧ Progress k k') ∧
  (¬ bad → ¬ past → even → pt ≠ pb → ReachesAll c x 4 Access.load (words n) c1 ps →
    ReachesAll c1 x 4 Access.store ((List.range n).map fun i => line (pos + done + i : Nat)) c2 ps2 →
    StoresAll (.dlyWrite x pt pb gn false) s x c2 ps2 4 (read c1 ps 4) fun k k' =>
      Counted k k' gn (done + n) ∧ Moved k k' pb pb (4 * total) (ends (done + n)) ∧
      k'.rdP pt 2 = (if total ≤ done + n then (pos + total) % (len / 4) else pos) ∧ k'.fsr = k.fsr ∧ Progress k k') ∧
  (¬ badC → ¬ past → evenC → pos % 6 = 0 → done % 6 = 0 → total % 6 = 0 → pt ≠ pb → ReachesAll c x 4 Access.load (words six) c1 ps →
    ReachesAll c1 x 1 Access.store (slot (pos + done : Nat)) c2 ps2 →
    StoresAll (.dlyWrite x pt pb gn true) s x c2 ps2 1
      (csfEncode false ((read c1 ps 4).map fun v => clip 24 (rhe (q31At v) 8)) ++ [0, 0, 0]) fun k k' =>
      Counted k k' gn (done + 6) ∧ k'.rdP pt 2 = (if total ≤ done + 6 then (pos + total) % (6 * len / 16) else pos) ∧
      k'.fsr = Nat.lor k.fsr (if fits24 (read c1 ps 4) = true then 0 else 256) ∧ Progress k k') ∧
  (¬ bad → ¬ past → even → ReachesAll c x 4 Access.load ((List.range n).map fun i => line (back + i)) c1 ps →
    ReachesAll c1 x 4 Access.store (words n) c2 ps2 →
    StoresAll (.dlyRead x pt pb gn gd false) s x c2 ps2 4 (read c1 ps 4) fun k k' =>
      Counted k k' gn (done + n) ∧ Moved k k' pb o (4 * total) (ends (done + n)) ∧ k'.fsr = k.fsr ∧ Progress k k') ∧
  (¬ badC → ¬ past → evenC → ReachesAll c x 1 Access.load ((slot back).take 13) c1 ps →
    ReachesAll c1 x 4 Access.store (words away) c2 ps2 →
    StoresAll (.dlyRead x pt pb gn gd true) s x c2 ps2 4
      ((((csfDecode false (read c1 ps 1)).drop (back % 6).toNat).take away).map fun y => (y * 256 % 2 ^ 32).toNat) fun k k' =>
      Counted k k' gn (done + away) ∧ Moved k k' pb o (4 * total) (ends (done + away)) ∧
      k'.fsr = Nat.lor k.fsr (if csfFailed false (read c1 ps 1) = true then 512 else 0) ∧ Progress k k') ∧
  (past → pt ≠ pb →
    Runs (.csfp x pb pt gn f) s x (fun k k' =>
      Counted k k' gn done ∧ Moved k k' pt pt (24 * done) true ∧ Moved k k' pb pb (size * done) true ∧ Progress k k') ∧
    Runs (.csfu x pt pb gn f) s x fun k k' =>
      Counted k k' gn done ∧ Moved k k' pt pt (24 * done) true ∧ Moved k k' pb pb (size * done) true ∧ Progress k k') ∧
  (¬ past → pt ≠ pb → ReachesAll c x 4 Access.load six6 c1 ps → ReachesAll c1 x 1 Access.store bytes c2 ps2 →
    StoresAll (.csfp x pb pt gn f) s x c2 ps2 1 (csfEncode f ((read c1 ps 4).map fun v => clip 24 (rhe (q31At v) 8))) fun k k' =>
      Counted k k' gn (done + 1) ∧ Moved k k' pt pt (24 * total) (ends (done + 1)) ∧
      Moved k k' pb pb (size * total) (ends (done + 1)) ∧
      k'.fsr = Nat.lor k.fsr (if fits24 (read c1 ps 4) = true then 0 else 256) ∧ Progress k k') ∧
  (¬ past → pt ≠ pb → ReachesAll c x 1 Access.load bytes c1 ps → ReachesAll c1 x 4 Access.store six6 c2 ps2 →
    StoresAll (.csfu x pt pb gn f) s x c2 ps2 4 ((csfDecode f (read c1 ps 1)).map fun y => (y * 256 % 2 ^ 32).toNat) fun k k' =>
      Counted k k' gn (done + 1) ∧ Moved k k' pt pt (24 * total) (ends (done + 1)) ∧
      Moved k k' pb pb (size * total) (ends (done + 1)) ∧
      k'.fsr = Nat.lor k.fsr (if csfFailed f (read c1 ps 1) = true then 512 else 0) ∧ Progress k k')

/-- One step of MIX on an input, its completion, delay lines in both forms and CSF blocks: what is popped, stored,
summed and counted, and the lines that stop the context (R154, R157, R160 to R163, R274, R287, R290 to R292, R294,
R295). Where a packet goes on past the block, rows that discard 8 words each follow, and the context holds the PC of a
MIX that has yet to discard (assumption 168); a compact line's BASE is a multiple of 16 (assumption 210). -/
def Movers : Prop :=
  ∀ s x pt pb o gn gd l f vd m c1 c2 ps ps2 w ws p qs j, Issues s x → MoversAt s x pt pb o gn gd l f vd m c1 c2 ps ps2 w ws p qs j

/-- A step with a command at the front of the queue is that command, on the state with the queue's rest. -/
def StepRunsFront : Prop :=
  ∀ (s : State) (i : Instr) (rest : List Instr), s.pending = i :: rest → step s = exec i { s with pending := rest }

/-- With no command waiting a step is one CLK_TIME cycle while TIME.RAW runs, and changes nothing before (the model's
choice, assumption 2): RAW grows by one modulo 2^64 (R56), and no memory, queue, context or unit changes; MEDPLL's
does not unless the accrual of R47 moves RESIDUAL. Of the registers only TIME.EVENTS.WRAP, which is set where NOW_NS
passes its end, and what follows RESIDUAL may change. -/
def IdleCycle : Prop :=
  ∀ s : State, Live s → s.pending = [] →
    ∃ d, step s = .next { s with chip := { s.chip with dev := d } } ∧
      (s.chip.dev.time.running = false → d = s.chip.dev) ∧
      (s.chip.dev.time.running = true → d.time.raw = (s.chip.dev.time.raw + 1) % 2 ^ 64 ∧
        Sets s.chip.dev d []
          ([F.TIME_EVENTS_WRAP, F.MEDPLL_STATUS_REALIGN_PENDING, F.MEDPLL_EVENTS_REALIGN_DENIED] ++ residF) ∧
        d.rd F.TIME_EVENTS_WRAP = (if s.chip.dev.wrapsNext then 1 else s.chip.dev.rd F.TIME_EVENTS_WRAP) ∧
        (d.time.residual = s.chip.dev.time.residual → d.clk = s.chip.dev.clk) ∧
        { d with regs := s.chip.dev.regs, time := s.chip.dev.time, clk := s.chip.dev.clk } = s.chip.dev)

/-- The frames that the ports and the flow engine hold name a traffic class below 8 and a path below 2. -/
def FramesNamed (s : State) : Prop :=
  (∀ p, match (s.chip.dev.mac p).line with | some l => l.cls < 8 | none => True) ∧
    (∀ p, ∀ f ∈ (s.chip.dev.mac p).c6, f.path < 2) ∧ ∀ x ∈ s.chip.dev.net.ingress, x.path < 2

/-- The status registers say what the block does: in twin mode TWIN.STATUS.PERMIT is 1 exactly in ACTIVE (R375);
MMU.INV.BUSY is 1 exactly while an invalidation is pending (R220); LAM.STATUS.BUSY is 1 only in LOADED (R394, R395);
and a switch's drain runs only in DRAINING (R394, R399). -/
def StatusTrue (s : State) : Prop :=
  (s.chip.dev.rd F.TWIN_CFG_MODE = 1 → (s.chip.dev.on F.TWIN_STATUS_PERMIT = true ↔ s.chip.dev.rd F.TWIN_STATUS_STATE = 2)) ∧
    (s.chip.dev.on F.MMU_INV_BUSY = true ↔ s.chip.dev.inv ≠ []) ∧
    (s.chip.dev.on F.LAM_STATUS_BUSY = true → s.chip.dev.rd F.LAM_STATUS_STATE = 2) ∧
    (s.chip.dev.sys.lam.drain ≠ none → s.chip.dev.rd F.LAM_STATUS_STATE = 5)

/-- After reset no command waits, the memories are empty and canonical, every register field holds its reset value,
every queue is disabled, every context is OFF, no unit is held, no power pin is driven (R9, R197, R240, R342, R388,
R431), and every step's invariants hold. What the spec gives no reset value is 0 or empty (assumption 6), and an
unlisted byte of Saltern and pan memory reads 0 (assumption 103). -/
def AfterReset : Prop :=
  State.reset.pending = [] ∧ State.reset.memWf = true ∧ (∀ a, State.reset.chip.mem.byte a = 0) ∧
    (∀ f : Fld, State.reset.chip.dev.rd f = fieldReset f.id) ∧
    (∀ q : Fin 4096, State.reset.chip.dev.rd (F.Q_CFG_EN q) = 0) ∧
    (∀ x : Fin 64, (State.reset.chip.dev.ctx x).run = .off) ∧ (∀ g : Fin 8, State.reset.chip.dev.drivesPh g = false) ∧
    State.reset.chip.dev.pool.out = [] ∧ (∀ k i : Nat, State.reset.chip.dev.unitHeld k i = false) ∧ State.reset.chip.dev.rd F.TWIN_HB_DELAY = 8 ∧
    State.reset.chip.dev.rd F.TWIN_HB_WIN = 32 ∧ State.reset.chip.dev.rd F.TWIN_CONVERGE_TICKS = 8192 ∧
    FramesNamed State.reset ∧ StatusTrue State.reset

/-- Saltern, pan memory and the flash keep their canonical form over every step, from every state that has it; where
no word waits for its cell before a step, none does after it; and every step keeps `FramesNamed`, and `StatusTrue`
with it. -/
def MemoryStaysCanonical : Prop :=
  ∀ s t : State, step s = .next t →
    (s.memWf = true → t.memWf = true) ∧ (s.chip.dev.pool.out = [] → t.chip.dev.pool.out = []) ∧
    (FramesNamed s → FramesNamed t) ∧ (FramesNamed s → StatusTrue s → StatusTrue t)

/-- Every command answers a next state with the queue of commands as it was, in every state; one whose operands name
nothing that the spec describes changes nothing (the model's choice, assumption 10). -/
def CommandsComplete : Prop :=
  ∀ (i : Instr) (s : State),
    (∃ t, exec i s = .next t ∧ t.pending = s.pending) ∧ (WellFormed i = false → exec i s = .next s)

/-- The events of the reset pin and the supplies. -/
def atThePins : Instr → Bool
  | .resetNAssert _ | .resetNRise _ _ _ _ | .supplyFail | .supplyRestored => true
  | _ => false

/-- The instructions of the test port. -/
def atThePort : Instr → Bool
  | .extest | .idcode | .samplePreload | .highz | .clamp | .bypass | .testLogicReset => true
  | _ => false

/-- While RESET_N is low, or a supply is absent, no command changes anything but the pin events themselves and, with the
supplies present, the test port's instructions (R430, R431, R462). -/
def Held : Prop :=
  ∀ (i : Instr) (s : State), atThePins i = false →
    s.chip.dev.supplyOk = false ∨ (s.chip.dev.resetN = false ∧ atThePort i = false) → exec i s = .next s

/-- POP takes one word from QREF, valid or not, and returns its data to rd and its tag to rt, 0 for a read that is not
valid; a register number 0 discards that part (rd and rt not one register); every other queue and context is as the
taking of the word leaves it (R280). -/
def PopWrites : Prop :=
  ∀ s (x : Fin 64) (rd rt rq : BitVec 5) (qimm : BitVec 11), Issues s x → (rd = 0 ∨ rd ≠ rt) →
    let c := (s.chip.fetch x).1
    let k0 := s.chip.dev.ctx x
    let r := c.dev.ctxPop x (((k0.rdG rq).toNat + qimm.toNat) % 4096)
    let tag := if r.2.v = true then 1 + (if r.2.e = true then 2 else 0) + 4 * r.2.k else 0
    Turns (.pop x rd rt rq qimm) s fun _ c' =>
      c'.mem = c.mem ∧ (∀ q : BitVec 5, (c'.dev.ctx x).rdG q =
        if q = 0 then 0 else if q = rt then BitVec.ofNat 32 tag else if q = rd then r.2.data else k0.rdG q) ∧
      (c'.dev.ctx x).pc = (k0.pc + 4) % 2 ^ 32 ∧ CtxsBut r.1 c'.dev x ∧ { c'.dev with ctxs := r.1.ctxs } = r.1

end Sys2Proof.Claim

/-- SYSPLL's lock and its loss, the crystal's loss and return, spreading, both PLLs' tuning-voltage flags and the die
temperature (R30, R32, R33, R35, R45, R55). An event whose own condition does not hold leaves the state as it is
(assumption 1). Concludes, under conditions on the state and the operands alone, that exec answers a next state for
SYSPLL_LOCK, SYSPLL_LOCK_LOST, SYSPLL_REF_LOST, SYSPLL_REACQUIRE, SPREAD_WRITE, SPREAD_APPLY, VT_CHANGE,
TEMP_MEASUREMENT. -/
def Obligations.SysPll : Prop := Sys2Proof.Claim.SysPll

/-- A measured, a lost and a returned reference, lock, its loss, and the offset after its return (R35, R36, R41, R42, R49,
R51, R54, R472). What OFFSET_PPM shows of an offset beyond its 24 signed bits is the model's choice (assumption 154).
The loss of a reference in use coasts or falls back (assumption 18), and a fall-back replaces a change that waits
(assumption 194). An event whose own condition does not hold leaves the state as it is (assumption 1). Concludes,
under conditions on the state and the operands alone, that exec answers a next state for REF_MEASUREMENT,
MEDPLL_REF_LOST, MEDPLL_REF_RETURN, MEDPLL_LOCK, MEDPLL_LOCK_LOST, LOCK_RETURN_OFFSET. -/
def Obligations.MedPll : Prop := Sys2Proof.Claim.MedPll

/-- A write of MEDPLL.CTL in open mode, into closed mode and refused; a reference change, a divider load and a calibration
(R38 to R43, R52, R71). START in closed mode is refused while a gang is released (assumption 22), and the reserved
code of VT is measured as it stands (assumption 219). An event whose own condition does not hold leaves the state as
it is (assumption 1). Concludes, under conditions on the state and the operands alone, that exec answers a next state
for MEDPLL_CTL_WRITE, REF_CHANGE_APPLY, DIVIDER_LOAD, CAL_START, CAL_DONE. -/
def Obligations.MedCtl : Prop := Sys2Proof.Claim.MedCtl

/-- A slew step, an accepted jump, a realignment from GO to the end of its drain with what that does to the contexts, and
the frequency alarm, whose run of good ticks a worse one breaks (R37, R50 to R54, R340, R341). Concludes, under
conditions on the state and the operands alone, that exec answers a next state for RESIDUAL_SLEW_STEP, REALIGN_ACCEPT,
REALIGN_GO, REALIGN_DRAIN_START, REALIGN_DRAIN_END, FREQ_ALARM_CHECK. -/
def Obligations.Realign : Prop := Sys2Proof.Claim.Realign

/-- A RATE write keeps corrected time continuous and cuts the rate to ±500 ppm (R58, R59); where an OFFSET write came in
the same CLK_TIME cycle, the fold comes before it, and the written OFFSET stands (R67). One cycle is told by equal RAW
(assumption 173). Concludes, under conditions on the state and the operands alone, that exec answers a next state for
RATE_WRITE. -/
def Obligations.RateWrite : Prop := Sys2Proof.Claim.RateWrite

/-- TIME.CTL.LOCK, TIME.CTL.COAST, the servo timeout and TIME.FREE.GO (R62, R66, R69, R70). LOCK written in LOCKED changes
nothing (assumption 26). An event whose own condition does not hold leaves the state as it is (assumption 1).
Concludes, under conditions on the state and the operands alone, that exec answers a next state for TIME_CTL_LOCK,
TIME_CTL_COAST, SERVO_TIMEOUT, TIME_FREE. -/
def Obligations.TimeStates : Prop := Sys2Proof.Claim.TimeStates

/-- OFFSET, the wrap of NOW_NS, TICK_ANCHOR and MEDIA_COUNT (R60, R63 to R70). A snapshot of the cycle of an OFFSET write
shows the time before it (R67). That a later tick grid makes RESIDUAL fall is read from R69 (assumption 191). A
refused anchor leaves TICK_ANCHOR.NS as it was (assumption 27), NOW_NS_WRAP is the cycle of the wrap (assumption 2),
and a load before the boundary sets the count six below the held one, which the boundary then shows (assumption 28).
An event whose own condition does not hold leaves the state as it is (assumption 1). Concludes, under conditions on
the state and the operands alone, that exec answers a next state for OFFSET_WRITE, NOW_NS_WRAP, TICK_ANCHOR_WRITE,
MEDIA_COUNT_WRITE, MEDIA_COUNT_LOAD. -/
def Obligations.TimeWrites : Prop := Sys2Proof.Claim.TimeWrites

/-- A signal-side tick boundary: the tick and MEDIA_COUNT advance, and a held count is the boundary's; the due bindings
are judged, the receive flows play out, packets are made, held packets enter their consumers' view, and free tasks
that wait for a boundary go on (R23, R24, R70, R139, R144, R202, R248, R254, R307). The release of periodic tasks is
in Tasks. A packet closed before the boundary that has not crossed yet carries the tick that begins (assumption 192).
Concludes, under conditions on the state and the operands alone, that exec answers a next state for TICK_BOUNDARY,
ROUTE_APPLY. -/
def Obligations.TickBoundary : Prop := Sys2Proof.Claim.TickBoundary

/-- A time event unit is enabled, refused, disabled, fires, ends its pulse and takes a target: its pin rises at the edge
nearest the event and falls after WIDTH, and its class gives one frame (R80 to R89). An odd WIDTH and a pulse that
lies more than a cycle back are the model's choice (assumptions 156 and 195). A launch finds its class empty where
every frame of it is released already (assumption 34); the instants of arming and firing rest on assumptions 31 to 33.
Concludes, under conditions on the state and the operands alone, that exec answers a next state for TEU_ENABLE,
TEU_DISABLE, TEU_EVENT_FIRE, TEU_PIN_END, TEU_TARGET_WRITE. -/
def Obligations.TimedEvent : Prop := Sys2Proof.Claim.TimedEvent

/-- A gang is run, stopped, cleared, released, plays, stops and turns its gates off (R332 to R335). RATE 3 is judged at a
carrier cycle start and leaves a held gang held (assumption 41); a RUN write of a fault's own cycle is a free choice
(assumption 177). An event whose own condition does not hold leaves the state as it is (assumption 1). Concludes,
under conditions on the state and the operands alone, that exec answers a next state for GANG_RUN, GANG_STOP,
GANG_CLEAR, GANG_RELEASE, GANG_PLAY, GANG_STOPPING, GANG_GATES_OFF. -/
def Obligations.GangLife : Prop := Sys2Proof.Claim.GangLife

/-- Fault decisions, restarts, the tap calibration and the group registers (R318 to R320, R327, R331, R336 to R339, R344).
FLT does not reach the logic while the test port cuts the pins (R463, assumption 217), and a restart with RUN 0 goes
OFF with FLT asserted too (assumption 228). An event whose own condition does not hold leaves the state as it is
(assumption 1). Concludes, under conditions on the state and the operands alone, that exec answers a next state for
FAULT_DECIDED, FAULT_RESTART, CAL_LOSS, CAL_OK_RESTORED, GRP_CONFIG_WRITE. -/
def Obligations.GangFault : Prop := Sys2Proof.Claim.GangFault

/-- The fetch at 64 cycles after a boundary, and the start of a group's carrier cycle: the rail samples of its VSNS stream
and their mean, the half-cycles that wait for samples not fetched yet, the clip at 0.98 of the quotient that
assumption 37 fixes, CARRIER_RUN at every start (assumption 40), the heartbeat and the loopback errors (R16, R322 to
R327, R347, R371, R385). An event whose own condition does not hold leaves the state as it is (assumption 1).
Concludes, under conditions on the state and the operands alone, that exec answers a next state for GANG_FETCH,
CARRIER_CYCLE_START. -/
def Obligations.Carrier : Prop := Sys2Proof.Claim.Carrier

/-- EN, CLEAR and settings writes of a rail controller, and what the next carrier cycle start makes of them (R349, R354,
R357 to R359). The compensator runs from the cycle after the one that enters START (assumption 211); the registers
show a write at once and the orders are taken at the carrier cycle start (assumption 48). An event whose own condition
does not hold leaves the state as it is (assumption 1). Concludes, under conditions on the state and the operands
alone, that exec answers a next state for CARRIER_CYCLE_START, BST_ENABLE, BST_DISABLE, BST_CLEAR, BST_CONFIG_WRITE.
-/
def Obligations.BstControl : Prop := Sys2Proof.Claim.BstControl

/-- A rail controller's goal, reference, compensator and target, and how it becomes ready, ends its on-time, latches,
stops, loses its sense stream and restarts (R347 to R352, R354, R355). A restart after CAUSE 2 or 3 waits for
RESTART_MS alone (assumption 47), and a trip shows in no status field (assumption 165). The end that MAXD sets is
rounded to the grid (assumption 4). An event whose own condition does not hold leaves the state as it is (assumption
1). Concludes, under conditions on the state and the operands alone, that exec answers a next state for
CARRIER_CYCLE_START, BST_READY, ISNS_TRIP, MAX_ON_TIME, BST_OVERVOLTAGE, BST_STOP, SENSE_LOST, BST_RESTART,
GANG_FETCH. -/
def Obligations.BstWork : Prop := Sys2Proof.Claim.BstWork

/-- Pushes with the words they put into cells, overflows, pops, visibility, returned credit and the discards of a parked
queue that no transmit channel still takes from (R192 to R194, R198, R199, R201, R202, R251, R307, R311). Two changes
of a count within two CLK_TIME cycles may be judged as one (assumption 174). An event whose own condition does not
hold leaves the state as it is (assumption 1). Concludes, under conditions on the state and the operands alone, that
exec answers a next state for QUEUE_PUSH, QUEUE_POP, PACKET_VISIBLE, CREDIT_RETURN, PARKED_DISCARD. -/
def Obligations.QueueMove : Prop := Sys2Proof.Claim.QueueMove

/-- Asked and forced resets, the owner scan, the rake and the patrol scrubber (R190, R191, R195, R203, R204, R206 to
R208). An error that an access corrects is a scrubber row too (assumption 176). An event whose own condition does not
hold leaves the state as it is (assumption 1). Concludes, under conditions on the state and the operands alone, that
exec answers a next state for QUEUE_RESET_WRITE, QUEUE_RESET, FORCED_RESET, OWNER_SCAN_END, RAKE_CELL_RETURN,
PATROL_SCRUB. -/
def Obligations.QueueReset : Prop := Sys2Proof.Claim.QueueReset

/-- A ROUTE[e] write is stored, at once or for the tick that APPLY_AT names, and a binding that is due is accepted, at a
sink with its old queue parked, or refused with its cause (R305 to R308, R311, R473). A pending binding of an endpoint
that is no longer live is dropped at its boundary without count or event (assumption 170). An event whose own
condition does not hold leaves the state as it is (assumption 1). Concludes, under conditions on the state and the
operands alone, that exec answers a next state for ROUTE_WRITE, ROUTE_APPLY. -/
def Obligations.Route : Prop := Sys2Proof.Claim.Route

/-- A walk counts a miss, fills its TLB from the two entries it read and sets A, or faults, and its reply to a core in
reset is discarded; a core's TLB and the DMA channels' keep their locked entries to their limits; an invalidation
starts, is refused and completes, with the context that waits for it going on unless its core was reset meanwhile
(R190, R212, R214 to R221, R265, R442, R443). An event whose own condition does not hold leaves the state as it is
(assumption 1). Concludes, under conditions on the state and the operands alone, that exec answers a next state for
PAGE_WALK_DONE, TLB_INVALIDATE, INV_DONE. -/
def Obligations.Pages : Prop := Sys2Proof.Claim.Pages

/-- KICK, FENCE, RESUME and ABORT in every state of a channel, and a descriptor fetched, refused or out of reach (R225,
R227, R228, R231 to R234). RESUME outside FAULTED sets CMD_IGNORED and ABORT in IDLE does nothing (assumption 115);
ABORT of ERROR clears ERR_EV (assumption 166). An event whose own condition does not hold leaves the state as it is
(assumption 1). Concludes, under conditions on the state and the operands alone, that exec answers a next state for
DMA_KICK, DMA_FENCE, DMA_RESUME, DMA_ABORT, DMA_DESC_FETCH. -/
def Obligations.DmaCommand : Prop := Sys2Proof.Claim.DmaCommand

/-- A transfer ends with its bytes moved and W6 written, a fault is recorded, and an empty queue is tried again (R225,
R227 to R232). The outcome of an ended transfer is kept, and RESUME then writes W6 alone (assumption 113). An event
whose own condition does not hold leaves the state as it is (assumption 1). Concludes, under conditions on the state
and the operands alone, that exec answers a next state for DMA_DESC_COMPLETE, DMA_FAULT, DMA_POP_RETRY. -/
def Obligations.DmaWork : Prop := Sys2Proof.Claim.DmaWork

/-- The DMA-fault exception, RESUME and ABORT of a faulted context, the deadline, START, STOP and HALT, the release of a
periodic task at a boundary, and who issues: the highest context of a core that may, and below it one only where those
above stall (R224, R231, R238, R240, R244, R245, R247 to R249, R256, R258, R263). An event whose own condition does
not hold leaves the state as it is (assumption 1). Concludes, under conditions on the state and the operands alone,
that exec answers a next state for DMA_FAULT_EXCEPTION, CONTEXT_RESUME, CONTEXT_ABORT, TASK_DEADLINE, TASK_START,
TASK_STOP, TICK_BOUNDARY, HALT_SET, HALT_CLEAR. -/
def Obligations.Tasks : Prop := Sys2Proof.Claim.Tasks

/-- Enable, disable, the link's condition, auto-negotiation, the end of a pause, and low-power idle (R94, R95, R114, R122,
R123). The fall of EN clears BLOCK_LOCK, AN_DONE and LINK_UP, and the line's changes are not seen while EN is 0
(assumption 197). An event whose own condition does not hold leaves the state as it is (assumption 1). Concludes,
under conditions on the state and the operands alone, that exec answers a next state for MAC_ENABLE, MAC_DISABLE,
LINK_CHANGE, AN_COMPLETE, PAUSE_EXPIRE, LPI_ENTER, LPI_EXIT. -/
def Obligations.MacLink : Prop := Sys2Proof.Claim.MacLink

/-- A received frame is counted by its error, discarded, taken as a pause, passed to the flow engine or written to a ring
with its descriptor (R96 to R101, R103, R104, R107, R109, R114, R123, R124, R190). SEQ counts the frame itself
(assumption 159), the FCS is Ethernet's (assumption 126), and a frame that began before EN rose is not received
(assumption 197). Concludes, under conditions on the state and the operands alone, that exec answers a next state for
FRAME_RECEIVE. -/
def Obligations.FrameReceive : Prop := Sys2Proof.Claim.FrameReceive

/-- Released and queued descriptors, a frame's start, its refusal, its end with status and stamp, and a launch missed
(R106, R111 to R113, R118 to R120, R123, R190). Concludes, under conditions on the state and the operands alone, that
exec answers a next state for RXR_TAIL_WRITE, TXR_TAIL_WRITE, FRAME_TRANSMIT_START, FRAME_TRANSMIT_DONE,
LAUNCH_TIME_REACHED, PAUSE_EXPIRE. -/
def Obligations.MacRing : Prop := Sys2Proof.Claim.MacRing

/-- A gate list becomes pending with its first cycle start, then the operating one, and its entry advances with the masks
that open the gates (R115, R116). That every gate is open before a first list takes over is the model's choice
(assumption 199). COUNT and CYCLE are cut to their ranges when the list is taken (assumption 198), and LOAD with EN 0
makes the list pending too (assumption 89). An event whose own condition does not hold leaves the state as it is
(assumption 1). Concludes, under conditions on the state and the operands alone, that exec answers a next state for
GCL_LOAD, GCL_SWITCH, GCL_ENTRY_ADVANCE. -/
def Obligations.Gates : Prop := Sys2Proof.Claim.Gates

/-- Receive and transmit flows are enabled, refused, readied and disabled, a path is lost, and SEQ.NEXT is written (R131,
R136, R143, R146, R148, R305). A transmit flow begins two ticks after the tick of the write (assumption 136), a
receive flow takes packets from the next tick on (assumption 137). An event whose own condition does not hold leaves
the state as it is (assumption 1). Concludes, under conditions on the state and the operands alone, that exec answers
a next state for RXF_ENABLE, RXF_READY, RXF_DISABLE, PATH_DEADLINE, TXF_ENABLE, TXF_DISABLE, TXF_SEQ_WRITE. -/
def Obligations.FlowControl : Prop := Sys2Proof.Claim.FlowControl

/-- The flow engine takes the first waiting frame, counts it, refuses it, or writes its sample frames into the jitter ring
and nowhere else; at a boundary playout empties the tick's slots into the channels' queues, and the packetiser makes
frames with their launch times (R128, R132 to R137, R139, R141 to R147, R366). A frame that fails R128 while TIME_OK
is 0 counts in NOTIME alone (assumption 202), and frames before the flow's first tick are dropped (assumption 137). An
event whose own condition does not hold leaves the state as it is (assumption 1). Concludes, under conditions on the
state and the operands alone, that exec answers a next state for FLOW_PACKET_ACCEPT. -/
def Obligations.FlowPacket : Prop := Sys2Proof.Claim.FlowPacket

/-- A port is enabled or refused, starts, stops, takes a mask, starts its frames as a master, a slave or a biphase port,
and locks; its pins, clocks, slots and subframes (R167, R169 to R171, R174, R182, R185 to R187, R463). The mutes end
with the port's run (assumption 205), a master's FS returns at half the frame (assumption 186), and a mode-4 port
stops at DA's or DB's frame start, whichever comes first (assumption 226). An event whose own condition does not hold
leaves the state as it is (assumption 1). Concludes, under conditions on the state and the operands alone, that exec
answers a next state for PORT_ENABLE, PORT_START, PORT_DISABLE, MASK_WRITE, PORT_FRAME_START, SLAVE_FRAME_START,
PORT_LOCK. -/
def Obligations.PortRun : Prop := Sys2Proof.Claim.PortRun

/-- A lane's packet is pushed left-justified or as zeros, to the queue that governs its time point, an output lane takes
its packet, cut or filled to its slots, or underruns, and a slave port that is not locked drops what it takes; the
rate is measured, and the biphase mutes and blocks end (R172, R173, R175 to R177, R179 to R181, R183 to R185, R307,
R463). A RATE_TOL write counts from the next window on (assumption 227); cut inputs bring free values (assumption
217). An event whose own condition does not hold leaves the state as it is (assumption 1). Concludes, under conditions
on the state and the operands alone, that exec answers a next state for INPUT_PACKET_PUSH, SYNTH_PACKET_PUSH,
OUTPUT_PACKET_TAKE, RATE_WINDOW_END, RATE_ABSENT, BP_UNMUTE, CS_BLOCK_END, NA_HOLD_EXPIRE. -/
def Obligations.PortData : Prop := Sys2Proof.Claim.PortData

/-- Host writes are posted, reads drain the buffer and answer, with a word more that is abandoned or late, and a buffered
write reaches the window or a register (R190, R407 to R413, R416, R417, R422). A word that meets a full buffer is
assumption 215, and an abandoned or late word goes to HQ_LASTRD (assumption 95). An event whose own condition does not
hold leaves the state as it is (assumption 1). Concludes, under conditions on the state and the operands alone, that
exec answers a next state for QWRITE, WRITE, QREAD, READ, READ_TIMEOUT, STATUS, BAD_CMD, POSTED_WRITE_PERFORM. -/
def Obligations.HostBus : Prop := Sys2Proof.Claim.HostBus

/-- The types of register fields, the host's window, the indirect pair, the guard and the mailbox (R410, R416 to R418,
R420, R422, R423, R425, R436, R443). An event whose own condition does not hold leaves the state as it is (assumption
1). Concludes, under conditions on the state and the operands alone, that exec answers a next state for
REGISTER_WRITE, RC_READ, IND_DATA_WRITE, IND_DATA_READ, UNLOCK, MBX_READ_REQ, MBX_WRITE_REQ. -/
def Obligations.HostRegs : Prop := Sys2Proof.Claim.HostRegs

/-- LOAD with its format checks, VERIFY, ARM, DISARM, CONFIRM, SAVE, ROLLBACK and ERASE in every state (R389, R394, R397,
R398, R401 to R403, R405). An event whose own condition does not hold leaves the state as it is (assumption 1).
Concludes, under conditions on the state and the operands alone, that exec answers a next state for LOAD, VERIFY, ARM,
DISARM, CONFIRM, SAVE, ROLLBACK, ERASE. -/
def Obligations.LamCommand : Prop := Sys2Proof.Claim.LamCommand

/-- VERIFY's end, the EARLY copies, the switch's drain, its record step and its end, the confirm window and the flash
(R392 to R394, R396, R398 to R403). That the record step comes at B + 2 ticks is assumption 70, that AUTO_ROLLBACK is
set at the rollback's completion assumption 76, and what an EARLY copy onto an image that is held does assumption 225.
An event whose own condition does not hold leaves the state as it is (assumption 1). Concludes, under conditions on
the state and the operands alone, that exec answers a next state for VERIFY_DONE, EARLY_COPY_DONE, SWITCH_DRAIN_START,
TICK_BOUNDARY, SWITCH_DRAIN_END, CONFIRM_WINDOW_EXPIRE, FLASH_DONE. -/
def Obligations.LamSwitch : Prop := Sys2Proof.Claim.LamSwitch

/-- A low pulse on RESET_N leaves every register at its reset value, every other state empty and Saltern lost; its rise
samples the straps; the supplies hold and release the chip (R9, R360, R407, R430, R431, R434). The free-value counter,
the flash and the test port's instruction are kept (assumptions 3 and 8), which supplies are absent stands for itself
(assumption 207), a rise while RESET_N is high samples the straps before TIME runs and not after (assumption 5), a
failing supply resets the test port too (assumption 7), and Saltern reads 0 once its contents are lost (assumption
103). An event whose own condition does not hold leaves the state as it is (assumption 1). Concludes, under conditions
on the state and the operands alone, that exec answers a next state for RESET_N_ASSERT, SUPPLY_FAIL, SUPPLY_RESTORED,
RESET_N_RISE. -/
def Obligations.ResetPin : Prop := Sys2Proof.Claim.ResetPin

/-- A unit's reset point and its end, the scrub's end and the boot, and the pads: another unit's registers and state stay
(a reset of a flow, of a rail controller or of a time event unit also shows in the shadowing flows, the group's gangs
and the launch classes), and writing 1 to DENIED clears it even where the rest is refused (R405, R435, R437, R441 to
R444, R454). SLOT_VER is brought up to date at the scrub's end with BOOT high too (assumption 83). An event whose own
condition does not hold leaves the state as it is (assumption 1). Concludes, under conditions on the state and the
operands alone, that exec answers a next state for UNIT_RESET, UNIT_RESET_DONE, SCRUB_DONE, PAD_WRITE. -/
def Obligations.UnitReset : Prop := Sys2Proof.Claim.UnitReset

/-- Each JTAG instruction becomes the current one, and Test-Logic-Reset selects IDCODE, in reset or not, while the
supplies hold (R430, R462). Concludes, under conditions on the state and the operands alone, that exec answers a next
state for EXTEST, IDCODE, SAMPLE_PRELOAD, HIGHZ, CLAMP, BYPASS, TEST_LOGIC_RESET. -/
def Obligations.TestPort : Prop := Sys2Proof.Claim.TestPort

/-- BATON's rise, confirmation and fall, the initial claim, the ends of a claim, and the holder's releases (R364, R366,
R373 to R376, R378, R380, R382, R388). A FORCE.TAKE that is blocked clears INHIBIT too, and one with BATON high and
not confirmed yet waits (assumption 55); BST_SCLK's edges lie at the multiples of 64 (assumption 216); what BATON's
events do is assumption 208, and none reaches the logic while the test port cuts the pins (R463, assumption 217). An
event whose own condition does not hold leaves the state as it is (assumption 1). Concludes, under conditions on the
state and the operands alone, that exec answers a next state for BATON_CONFIRMED, BATON_LOST, BATON_FALLS,
INITIAL_CLAIM, CLAIM_TIMEOUT, HOLDER_YIELD, WATCHDOG_FIRE, FORCE_TAKE, FORCE_RELEASE. -/
def Obligations.Baton : Prop := Sys2Proof.Claim.Baton

/-- Heartbeat edges, deadlines and handovers (R364, R371, R372, R375 to R379, R382, R387). HB_LOST is set at every
deadline with two misses or more (assumption 54); HANDOVER_DENIED is set on a chip of a twin that does not hold
(assumption 56). HB_IN does not reach the logic while the test port cuts the pins (R463). An event whose own condition
does not hold leaves the state as it is (assumption 1). Concludes, under conditions on the state and the operands
alone, that exec answers a next state for HB_IN_EDGE, HB_DEADLINE, FORCE_HANDOVER, HANDOVER_RELEASE. -/
def Obligations.Heartbeat : Prop := Sys2Proof.Claim.Heartbeat

/-- The Q-link's frames and state, warm joins and proof channels (R367, R369, R370, R379, R383, R384). DATA outside the
page region or meeting an image is dropped (assumption 64), and a run below 64 starts the count of a join again
(assumption 62). An event whose own condition does not hold leaves the state as it is (assumption 1). Concludes, under
conditions on the state and the operands alone, that exec answers a next state for STATE_FRAME_SEND,
STATE_FRAME_RECEIVE, DATA_FRAME_RECEIVE, JOIN_FRAME_RECEIVE, QLINK_UP, QLINK_DOWN, PROOF_COMPARE, JOIN_START,
JOIN_ABORT, CONVERGE_COUNT_END. -/
def Obligations.QLink : Prop := Sys2Proof.Claim.QLink

/-- Each ALU instruction writes its result to rd, sets SAT only where it saturates, and changes nothing else but the PC
(R162, R240, R276). Concludes, under conditions on the state and the operands alone, that exec answers a next state
for ADD, SUB, AND, OR, XOR, SLL, SRL, SRA, SLT, SLTU, MUL, MULH, MULQ, MIN, MAX, ADDS, SUBS, CLZ. -/
def Obligations.Integer : Prop := Sys2Proof.Claim.Integer

/-- Immediates are sign-extended by ADDI and SLTI and zero-extended by ANDI, ORI and XORI; nothing but rd and the PC
changes (R240, R268, R276). Concludes, under conditions on the state and the operands alone, that exec answers a next
state for ADDI, ANDI, ORI, XORI, SLTI, LUI, SHI_SLL, SHI_SRL, SHI_SRA. -/
def Obligations.Immediate : Prop := Sys2Proof.Claim.Immediate

/-- Each vector instruction works lane by lane with saturation to SAT, and changes nothing but its destination, FSR.SAT
and the PC (R162, R240, R284). Concludes, under conditions on the state and the operands alone, that exec answers a
next state for VADD, VSUB, VMULQ, VMOV, VSPLAT, VGET, VPUT, VABS, VMAXA. -/
def Obligations.Lanes : Prop := Sys2Proof.Claim.Lanes

/-- Additions to an accumulator are exact or saturate and set AOV; rounding is to the nearest, ties to even; nothing else
changes but the destination, its flags and the PC (R161, R162, R275, R283, R285). Concludes, under conditions on the
state and the operands alone, that exec answers a next state for ACLR, AMOV, AADD, ASUB, ASHR, ASHL, VMAC, VMACR,
ARND, ARND24, AFLAG, AGET, APUT. -/
def Obligations.Accumulate : Prop := Sys2Proof.Claim.Accumulate

/-- The FPU's arithmetic rounds to nearest even with subnormals as zero, and gives infinities, zeros, NaNs and the sticky
flags as IEEE 754 binary32 does; nothing else changes but rd and the PC (R241, R275, R277). Where the rules do not
state them, the flags of a subnormal result (UF and NX also where it is exact) and what an operation on quiet NaNs
sets and gives are the model's choice (assumptions 122 and 123). Concludes, under conditions on the state and the
operands alone, that exec answers a next state for FADD, FSUB, FMUL, FDIV, FSQRT. -/
def Obligations.FloatArith : Prop := Sys2Proof.Claim.FloatArith

/-- Minimum, maximum, comparisons, conversions, magnitude and negation follow the operands' values; a NaN counts as R277
says (R241, R275, R277). The flags of the conversions outside their range, of a NaN there and of an inexact value, and
what FMIN and FMAX of two NaNs give and set, are the model's choice (assumptions 123 and 125). Concludes, under
conditions on the state and the operands alone, that exec answers a next state for FMIN, FMAX, FEQ, FLT, FLE, FCVTSW,
FCVTSQ, FCVTWS, FCVTQS, FABS, FNEG. -/
def Obligations.FloatPick : Prop := Sys2Proof.Claim.FloatPick

/-- A load widens the bytes at its place, a store writes the low bytes of G[rt] there, most significant first, and nothing
else changes but the PC; a refused access stops the context precisely (R211, R217, R222, R240, R262, R266, R278).
Concludes, under conditions on the state and the operands alone, that exec answers a next state for LW, LHU, LH, LBU,
LB, SW, SH, SB. -/
def Obligations.Memory : Prop := Sys2Proof.Claim.Memory

/-- A stream access lies at its pointer's place, whose index wraps at LEN, and moves the pointer by 4 × imm16; a
misaligned pointer stops the context (R222, R240, R274, R278). Concludes, under conditions on the state and the
operands alone, that exec answers a next state for LDP, STP, VLD, VST, PGET, PPUT, PADD. -/
def Obligations.Streams : Prop := Sys2Proof.Claim.Streams

/-- Branch targets are relative to the branch's own address; JAL and JALR write the return address, JALR after its target
is read; LOOP counts down; at a misaligned target, where nothing else refuses the access, the fetch stops the context
with cause 8 and EPC holds the target (R298). Concludes, under conditions on the state and the operands alone, that
exec answers a next state for BEQ, BNE, BLT, BGE, BLTU, BGEU, JAL, JALR, LOOP, NOP. -/
def Obligations.Branches : Prop := Sys2Proof.Claim.Branches

/-- POP, PUSH, PUSHE, PKTCNT and ENV of queues that are not block inputs or outputs: what they read and write, the queue's
state and the rail target (R198, R199, R201, R279 to R282, R297). A POP whose rd and rt are one register leaves the
tag there (assumption 119). Concludes, under conditions on the state and the operands alone, that exec answers a next
state for POP, PUSH, PUSHE, PKTCNT, PKTCNT_CREDIT, ENV. -/
def Obligations.QueueInstructions : Prop := Sys2Proof.Claim.QueueInstructions

/-- Waits, ERET, cache invalidation and FSR act on their context and core alone, but for WAITTICK in a periodic task: it
ends the block, popping what its inputs still held, abandoning its open outputs, counting and writing stream indices
back; ERET without ECAUSE[31] and an undefined word stop the context with its registers as they were (R250, R255,
R256, R259, R262, R263, R267, R275, R299). ILLEGAL_INSTRUCTION with a word that the tables define changes nothing
(assumption 10). Concludes, under conditions on the state and the operands alone, that exec answers a next state for
NOP, WAITTICK, YIELD, ERET, ICINV, ICINVA, FSRR, FSRW, ILLEGAL_INSTRUCTION. -/
def Obligations.Control : Prop := Sys2Proof.Claim.Control

/-- A context without its core's PRIV bit stops at a system instruction with its registers as they were; a privileged one
carries it out: DMAK is its channel's command, and RDREG, WRREG and LAMOP are the accesses of that context's requester
that HostRegs describes (R220, R231, R239, R300 to R302). Concludes, under conditions on the state and the operands
alone, that exec answers a next state for TLBINV, SETASID, DMAK, RDREG, WRREG, LAMOP, DMA_KICK, DMA_FENCE, DMA_RESUME,
DMA_ABORT, RC_READ, IND_DATA_READ, REGISTER_WRITE. -/
def Obligations.System : Prop := Sys2Proof.Claim.System

/-- One step of FIRB, BIQ and RAMP, and LIM: the results of R288, R289, R293 and R296, with progress only in the count
registers; beginning at DONE ≥ TOTAL only the completion happens (R161, R162, R274, R286, R287). Concludes, under
conditions on the state and the operands alone, that exec answers a next state for FIRB, RAMP, BIQ, LIM. -/
def Obligations.Filters : Prop := Sys2Proof.Claim.Filters

/-- One step of MIX on an input, its completion, delay lines in both forms and CSF blocks: what is popped, stored, summed
and counted, and the lines that stop the context (R154, R157, R160 to R163, R274, R287, R290 to R292, R294, R295).
Where a packet goes on past the block, rows that discard 8 words each follow, and the context holds the PC of a MIX
that has yet to discard (assumption 168); a compact line's BASE is a multiple of 16 (assumption 210). Concludes, under
conditions on the state and the operands alone, that exec answers a next state for MIX, DLY_WRITE, DLY_READ, CSFP,
CSFU. -/
def Obligations.Movers : Prop := Sys2Proof.Claim.Movers

/-- A step with a command at the front of the queue is that command, on the state with the queue's rest. -/
def Obligations.StepRunsFront : Prop := Sys2Proof.Claim.StepRunsFront

/-- With no command waiting a step is one CLK_TIME cycle while TIME.RAW runs, and changes nothing before (the model's
choice, assumption 2): RAW grows by one modulo 2^64 (R56), and no memory, queue, context or unit changes; MEDPLL's
does not unless the accrual of R47 moves RESIDUAL. Of the registers only TIME.EVENTS.WRAP, which is set where NOW_NS
passes its end, and what follows RESIDUAL may change. -/
def Obligations.IdleCycle : Prop := Sys2Proof.Claim.IdleCycle

/-- After reset no command waits, the memories are empty and canonical, every register field holds its reset value, every
queue is disabled, every context is OFF, no unit is held, no power pin is driven (R9, R197, R240, R342, R388, R431),
and every step's invariants hold. What the spec gives no reset value is 0 or empty (assumption 6), and an unlisted
byte of Saltern and pan memory reads 0 (assumption 103). -/
def Obligations.AfterReset : Prop := Sys2Proof.Claim.AfterReset

/-- Saltern, pan memory and the flash keep their canonical form over every step, from every state that has it; where no
word waits for its cell before a step, none does after it; and every step keeps `FramesNamed`, and `StatusTrue` with
it. -/
def Obligations.MemoryStaysCanonical : Prop := Sys2Proof.Claim.MemoryStaysCanonical

/-- Every command answers a next state with the queue of commands as it was, in every state; one whose operands name
nothing that the spec describes changes nothing (the model's choice, assumption 10). -/
def Obligations.CommandsComplete : Prop := Sys2Proof.Claim.CommandsComplete

/-- While RESET_N is low, or a supply is absent, no command changes anything but the pin events themselves and, with the
supplies present, the test port's instructions (R430, R431, R462). -/
def Obligations.Held : Prop := Sys2Proof.Claim.Held

/-- POP takes one word from QREF, valid or not, and returns its data to rd and its tag to rt, 0 for a read that is not
valid; a register number 0 discards that part (rd and rt not one register); every other queue and context is as the
taking of the word leaves it (R280). Concludes, under conditions on the state and the operands alone, that exec
answers a next state for POP. -/
def Obligations.PopWrites : Prop := Sys2Proof.Claim.PopWrites
end

