-- ==== Sys2Proof/Laws/Sparse.lean ====
section
/-! SUPPORT. The laws of the sparse maps: a read after a change, and the canonical form kept by every change. -/

namespace Sys2Proof.Machine

variable {α : Type}

theorem Sparse.get_erase (d : Nat → α) (m : List (Nat × α)) (k j : Nat) :
    Sparse.get d (Sparse.erase m k) j = if j = k then d j else Sparse.get d m j := by
  induction m with
  | nil => simp [Sparse.erase, Sparse.get]
  | cons p r ih =>
    obtain ⟨a, v⟩ := p
    simp only [Sparse.erase, Sparse.get]
    by_cases h : a = k
    · rw [if_pos h, ih]
      by_cases hj : j = k
      · rw [if_pos hj, if_pos hj]
      · rw [if_neg hj, if_neg hj, if_neg (by omega)]
    · rw [if_neg h]
      simp only [Sparse.get, ih]
      by_cases hj : j = k
      · rw [if_pos hj, if_pos hj, if_neg (by omega)]
      · rw [if_neg hj, if_neg hj]

theorem Sparse.get_insert (d : Nat → α) (m : List (Nat × α)) (k j : Nat) (v : α) :
    Sparse.get d (Sparse.insert m k v) j = if j = k then v else Sparse.get d m j := by
  induction m with
  | nil =>
    simp only [Sparse.insert, Sparse.get]
    by_cases h : k = j
    · rw [if_pos h, if_pos h.symm]
    · rw [if_neg h, if_neg (fun e => h e.symm)]
  | cons p r ih =>
    obtain ⟨a, w⟩ := p
    simp only [Sparse.insert]
    by_cases h1 : a < k
    · rw [if_pos h1]
      simp only [Sparse.get, ih]
      by_cases hj : j = k
      · rw [if_pos hj, if_pos hj, if_neg (by omega)]
      · rw [if_neg hj, if_neg hj]
    · rw [if_neg h1]
      by_cases h2 : a = k
      · rw [if_pos h2]
        simp only [Sparse.get]
        by_cases hj : j = k
        · rw [if_pos hj, if_pos hj.symm]
        · rw [if_neg hj, if_neg (fun e => hj e.symm), if_neg (by omega)]
      · rw [if_neg h2]
        simp only [Sparse.get]
        by_cases hj : j = k
        · rw [if_pos hj, if_pos hj.symm]
        · rw [if_neg hj, if_neg (fun e => hj e.symm)]

/-- A read after a change: the new value at its key, the old value at every other. -/
theorem Sparse.get_set [DecidableEq α] (d : Nat → α) (m : List (Nat × α)) (k j : Nat) (v : α) :
    Sparse.get d (Sparse.set d m k v) j = if j = k then v else Sparse.get d m j := by
  unfold Sparse.set
  split
  · rename_i h
    rw [Sparse.get_erase, h]
    by_cases hj : j = k
    · rw [if_pos hj, if_pos hj, hj]
    · rw [if_neg hj, if_neg hj]
  · exact Sparse.get_insert d m k j v

@[simp] theorem Sparse.get_set_same [DecidableEq α] (d : Nat → α) (m : List (Nat × α)) (k : Nat) (v : α) :
    Sparse.get d (Sparse.set d m k v) k = v := by simp [Sparse.get_set]

theorem Sparse.get_set_other [DecidableEq α] (d : Nat → α) (m : List (Nat × α)) {k j : Nat} (v : α) (h : j ≠ k) :
    Sparse.get d (Sparse.set d m k v) j = Sparse.get d m j := by simp [Sparse.get_set, h]

/-- The least key that a map may hold, given the key before it. -/
def Sparse.above : Option Nat → Nat → Bool
  | none, _ => true
  | some l, j => decide (l < j)

theorem Sparse.wfFrom_cons [DecidableEq α] (d : Nat → α) (lo : Option Nat) (j : Nat) (v : α) (r : List (Nat × α)) :
    Sparse.wfFrom d lo ((j, v) :: r) =
      (Sparse.above lo j && decide (v ≠ d j) && Sparse.wfFrom d (some j) r) := by
  cases lo <;> rfl

theorem Sparse.wfFrom_mono [DecidableEq α] (d : Nat → α) {lo hi : Option Nat} {m : List (Nat × α)}
    (hl : ∀ j, Sparse.above hi j = true → Sparse.above lo j = true) (h : Sparse.wfFrom d hi m = true) :
    Sparse.wfFrom d lo m = true := by
  cases m with
  | nil => rfl
  | cons p r =>
    obtain ⟨j, v⟩ := p
    rw [Sparse.wfFrom_cons] at h ⊢
    simp only [Bool.and_eq_true] at h ⊢
    exact ⟨⟨hl j h.1.1, h.1.2⟩, h.2⟩

theorem Sparse.wfFrom_erase [DecidableEq α] (d : Nat → α) (k : Nat) :
    ∀ (m : List (Nat × α)) (lo : Option Nat), Sparse.wfFrom d lo m = true →
      Sparse.wfFrom d lo (Sparse.erase m k) = true
  | [], _, _ => rfl
  | (j, v) :: r, lo, h => by
    rw [Sparse.wfFrom_cons] at h
    simp only [Bool.and_eq_true] at h
    have ih := Sparse.wfFrom_erase d k r (some j) h.2
    simp only [Sparse.erase]
    split
    · refine Sparse.wfFrom_mono d ?_ ih
      intro i hi
      cases lo with
      | none => rfl
      | some l =>
        have := h.1.1
        simp only [Sparse.above, decide_eq_true_eq] at this hi ⊢
        omega
    · rw [Sparse.wfFrom_cons, ih, h.1.1]; simpa using h.1.2

theorem Sparse.wfFrom_insert [DecidableEq α] (d : Nat → α) (k : Nat) (v : α) (hv : v ≠ d k) :
    ∀ (m : List (Nat × α)) (lo : Option Nat), Sparse.above lo k = true → Sparse.wfFrom d lo m = true →
      Sparse.wfFrom d lo (Sparse.insert m k v) = true
  | [], lo, hk, _ => by simp only [Sparse.insert, Sparse.wfFrom_cons, hk]; simp [Sparse.wfFrom, hv]
  | (j, w) :: r, lo, hk, h => by
    have h0 := h
    rw [Sparse.wfFrom_cons] at h
    simp only [Bool.and_eq_true] at h
    simp only [Sparse.insert]
    split
    · rename_i hjk
      have ih := Sparse.wfFrom_insert d k v hv r (some j) (by simpa [Sparse.above] using hjk) h.2
      rw [Sparse.wfFrom_cons, ih, h.1.1]; simpa using h.1.2
    · split
      · rename_i _ hjk
        subst hjk
        rw [Sparse.wfFrom_cons, h.1.1, h.2]; simpa using hv
      · rename_i h1 h2
        rw [Sparse.wfFrom_cons, hk]
        have : Sparse.wfFrom d (some k) ((j, w) :: r) = true := by
          rw [Sparse.wfFrom_cons, h.2]
          simp only [Sparse.above]
          simp only [Bool.and_true, Bool.and_eq_true, decide_eq_true_eq]
          exact ⟨by omega, by simpa using h.1.2⟩
        rw [this]; simpa using hv

/-- A change keeps the canonical form. -/
theorem Sparse.wf_set [DecidableEq α] (d : Nat → α) (m : List (Nat × α)) (k : Nat) (v : α)
    (h : Sparse.wf d m = true) : Sparse.wf d (Sparse.set d m k v) = true := by
  unfold Sparse.set Sparse.wf at *
  split
  · exact Sparse.wfFrom_erase d k m none h
  · rename_i hv; exact Sparse.wfFrom_insert d k v hv m none rfl h

end Sys2Proof.Machine
end

