-- ==== Sys2Proof/Laws/Mem.lean ====
section
/-! SUPPORT. The memories: what a read gives after each change, and that every change keeps the canonical form. -/

namespace Sys2Proof.Machine

variable (m : Mem)

/-! ### One byte -/

theorem Mem.byte_setByte (a b : Nat) (v : Byte) : (m.setByte a v).byte b = if b = a then v else m.byte b :=
  Sparse.get_set _ _ _ _ _
@[simp] theorem Mem.byte_setByte_same (a : Nat) (v : Byte) : (m.setByte a v).byte a = v := Sparse.get_set_same _ _ _ _
theorem Mem.byte_setByte_other {a b : Nat} (v : Byte) (h : b ≠ a) : (m.setByte a v).byte b = m.byte b :=
  Sparse.get_set_other _ _ _ h
@[simp] theorem Mem.flashByte_setByte (a b : Nat) (v : Byte) : (m.setByte a v).flashByte b = m.flashByte b := rfl
@[simp] theorem Mem.byte_setFlash (a b : Nat) (v : Byte) : (m.setFlash a v).byte b = m.byte b := rfl
theorem Mem.flashByte_setFlash (a b : Nat) (v : Byte) :
    (m.setFlash a v).flashByte b = if b = a then v else m.flashByte b := Sparse.get_set _ _ _ _ _

theorem Mem.wf_iff : m.wf = true ↔ Sparse.wf Mem.unlisted m.cells = true ∧ Sparse.wf Mem.erased m.flash = true := by
  simp [Mem.wf]

theorem Mem.setByte_wf (a : Nat) (v : Byte) (h : m.wf = true) : (m.setByte a v).wf = true := by
  rw [Mem.wf_iff] at *
  exact ⟨Sparse.wf_set _ _ _ _ h.1, h.2⟩

theorem Mem.setFlash_wf (a : Nat) (v : Byte) (h : m.wf = true) : (m.setFlash a v).wf = true := by
  rw [Mem.wf_iff] at *
  exact ⟨h.1, Sparse.wf_set _ _ _ _ h.2⟩

/-! ### Many bytes -/

/-- A fold of changes that each keep a property keeps it. -/
theorem foldl_keeps {α β : Type} (p : α → Prop) (f : α → β → α) (hf : ∀ x y, p x → p (f x y)) :
    ∀ (l : List β) (x : α), p x → p (l.foldl f x)
  | [], _, h => h
  | y :: l, x, h => foldl_keeps p f hf l (f x y) (hf x y h)

theorem Mem.store_wf : ∀ (n a v : Nat) (m : Mem), m.wf = true → (m.store a n v).wf = true
  | 0, _, _, _, h => h
  | n + 1, a, v, m, h => Mem.store_wf n (a + 1) v _ (m.setByte_wf a _ h)

theorem Mem.storeBytes_wf : ∀ (l : List Byte) (a : Nat) (m : Mem), m.wf = true → (m.storeBytes a l).wf = true
  | [], _, _, h => h
  | b :: l, a, m, h => Mem.storeBytes_wf l (a + 1) _ (m.setByte_wf a b h)

/-- A store changes the bytes it stores to and no other. -/
theorem Mem.byte_store_other : ∀ (n a v : Nat) (m : Mem) {b : Nat}, b < a ∨ a + n ≤ b → (m.store a n v).byte b = m.byte b
  | 0, _, _, _, _, _ => rfl
  | n + 1, a, v, m, b, h => by
    rw [Mem.store, Mem.byte_store_other n (a + 1) v _ (by omega), Mem.byte_setByte_other _ _ (by omega)]

theorem Mem.byte_storeBytes_other : ∀ (l : List Byte) (a : Nat) (m : Mem) {b : Nat}, b < a ∨ a + l.length ≤ b →
    (m.storeBytes a l).byte b = m.byte b
  | [], _, _, _, _ => rfl
  | x :: l, a, m, b, h => by
    simp only [List.length_cons] at h
    rw [Mem.storeBytes, Mem.byte_storeBytes_other l (a + 1) _ (by omega), Mem.byte_setByte_other _ _ (by omega)]

/-- A load depends on the bytes it reads alone. -/
theorem Mem.load_congr : ∀ (n a : Nat) {m m' : Mem}, (∀ b, a ≤ b → b < a + n → m.byte b = m'.byte b) →
    m.load a n = m'.load a n
  | 0, _, _, _, _ => rfl
  | n + 1, a, m, m', h => by
    simp only [Mem.load]
    rw [h a (by omega) (by omega), Mem.load_congr n (a + 1) fun b h1 h2 => h b (by omega) (by omega)]

/-- A load elsewhere reads what it read before a store. -/
theorem Mem.load_store_other (n a v k b : Nat) (h : b + k ≤ a ∨ a + n ≤ b) : (m.store a n v).load b k = m.load b k :=
  Mem.load_congr k b fun c h1 h2 => Mem.byte_store_other n a v m (by omega)

/-- A load of what a store has stored gives it, cut to the bytes stored. -/
theorem Mem.load_store : ∀ (n a v : Nat) (m : Mem), (m.store a n v).load a n = v % 256 ^ n
  | 0, _, v, _ => by simp [Mem.load, Nat.mod_one]
  | n + 1, a, v, m => by
    simp only [Mem.load, Mem.store]
    rw [Mem.load_store n (a + 1) v, Mem.byte_store_other n (a + 1) v _ (by omega), Mem.byte_setByte_same]
    simp only [BitVec.toNat_ofNat]
    have h : v / 256 ^ n % 256 * 256 ^ n + v % 256 ^ n = v % (256 ^ n * 256) := by
      rw [Nat.mod_mul, Nat.mul_comm]; omega
    rw [show (2 : Nat) ^ 8 = 256 from rfl, h, Nat.pow_succ]

/-! ### The layer's data, the flash and the end of a command -/

theorem Mem.copyData_wf (a : Nat) (ss : List Section) (f : Section → Bool) (h : m.wf = true) :
    (m.copyData a ss f).wf = true :=
  foldl_keeps (fun m : Mem => m.wf = true) _ (fun m _ h => Mem.storeBytes_wf _ _ m h) _ _ h

theorem Mem.storeFlash_wf (a : Nat) (l : List Byte) (h : m.wf = true) : (m.storeFlash a l).wf = true :=
  foldl_keeps (fun m : Mem => m.wf = true) _ (fun m _ h => m.setFlash_wf _ _ h) _ _ h

theorem Sparse.wfFrom_filter {α : Type} [DecidableEq α] (d : Nat → α) (p : Nat × α → Bool) :
    ∀ (l : List (Nat × α)) (lo : Option Nat), Sparse.wfFrom d lo l = true → Sparse.wfFrom d lo (l.filter p) = true
  | [], _, _ => rfl
  | (j, v) :: r, lo, h => by
    rw [Sparse.wfFrom_cons] at h
    simp only [Bool.and_eq_true] at h
    have ih := Sparse.wfFrom_filter d p r (some j) h.2
    rw [List.filter_cons]
    split
    · rw [Sparse.wfFrom_cons, ih, h.1.1]; simpa using h.1.2
    · refine Sparse.wfFrom_mono d ?_ ih
      intro i hi
      cases lo with
      | none => rfl
      | some l =>
        have := h.1.1
        simp only [Sparse.above, decide_eq_true_eq] at this hi ⊢
        omega

theorem Mem.flashDo_wf (k : FlashCmd) (h : m.wf = true) : (m.flashDo k).wf = true := by
  cases k with
  | program a bs => exact m.storeFlash_wf a bs h
  | erase a =>
    rw [Mem.wf_iff] at *
    exact ⟨h.1, Sparse.wfFrom_filter _ _ _ none h.2⟩
  | _ => exact h

/-- Every command to the flash keeps the canonical form (R438). -/
theorem Mem.flashDos_wf (ks : List FlashCmd) (h : m.wf = true) : (ks.foldl Mem.flashDo m).wf = true :=
  foldl_keeps (fun m : Mem => m.wf = true) _ (fun m k h => m.flashDo_wf k h) _ _ h

theorem Mem.eraseSlot_wf (s : Nat) (h : m.wf = true) : (m.eraseSlot s).wf = true := m.flashDos_wf _ h

theorem Mem.saveSlot_wf (s : Nat) (l : Layer) (seq : Nat) (h : m.wf = true) : (m.saveSlot s l seq).wf = true :=
  Mem.flashDos_wf _ _ (m.eraseSlot_wf s h)

/-- The end of a command keeps the canonical form, leaves no word waiting for its cell, and changes nothing else. -/
theorem Chip.settleCells_spec (c : Chip) :
    (c.mem.wf = true → c.settleCells.mem.wf = true) ∧ c.settleCells.dev.pool.out = [] ∧
      { c.settleCells.dev with pool := c.dev.pool } = c.dev ∧ c.settleCells.mem.flash = c.mem.flash := by
  unfold Chip.settleCells
  split
  · next h => exact ⟨id, h, rfl, rfl⟩
  · refine ⟨fun h => ?_, rfl, rfl, ?_⟩
    · exact foldl_keeps (fun m : Mem => m.wf = true) _ (fun m _ h => Mem.store_wf _ _ _ m h) _ _ h
    · have hs : ∀ (n a v : Nat) (m : Mem), (m.store a n v).flash = m.flash := by
        intro n
        induction n with
        | zero => intros; rfl
        | succ n ih => intro a v m; rw [Mem.store, ih]; rfl
      exact foldl_keeps (fun m : Mem => m.flash = c.mem.flash) _ (fun m _ h => (hs _ _ _ m).trans h) _ _ rfl

end Sys2Proof.Machine
end

