-- ==== Sys2Proof/Laws/Ops.lean ====
section
/-! SUPPORT. What the operations that the commands share can do, each said once. -/

namespace Sys2Proof.Machine

/-- The chip answers commands: RESET_N is high and the supplies hold. -/
abbrev State.awake (s : State) : Bool := s.chip.dev.resetN && s.chip.dev.supplyOk

variable {s t : State}

/-- A command answers a next state in every state. -/
theorem State.run_next (f : Chip → Chip) :
    s.run f = .next (if s.awake then { s with chip := (f s.chip).settleCells } else s) := rfl

/-- What a command can do: the queue of commands stands; awake, the chip is what the command makes of it, and asleep
nothing changes. -/
theorem State.run_cases {f : Chip → Chip} (h : s.run f = .next t) :
    t.pending = s.pending ∧
      (s.awake = true ∧ t.chip = (f s.chip).settleCells ∨ s.awake = false ∧ t = s) := by
  rw [State.run_next] at h
  injection h with h
  subst h
  cases hs : s.awake <;> simp

/-- A command of the device leaves the memories as they were where it puts no word into a cell. -/
theorem State.dev_cases {f : Dev → Dev} (h : s.dev f = .next t) :
    t.pending = s.pending ∧ (s.awake = false ∧ t = s ∨ s.awake = true ∧
      ((f s.chip.dev).pool.out = [] → t.chip.dev = f s.chip.dev ∧ t.chip.mem = s.chip.mem)) := by
  obtain ⟨hp, ⟨ha, hc⟩ | ⟨ha, hc⟩⟩ := State.run_cases h
  · refine ⟨hp, .inr ⟨ha, fun ho => ?_⟩⟩
    have : (s.chip.onDev f).settleCells = s.chip.onDev f := by
      unfold Chip.settleCells; exact if_pos ho
    rw [hc, this]; exact ⟨rfl, rfl⟩
  · exact ⟨hp, .inl ⟨ha, hc⟩⟩

/-- A command to a unit that a unit reset holds is one that does nothing; to any other it is the command itself. -/
theorem State.unit_eq (kind index : Nat) (f : Chip → Chip) :
    s.unit kind index f = if s.chip.dev.unitHeld kind index then s.run id else s.run f := by
  unfold State.unit State.run
  cases h : s.chip.dev.unitHeld kind index <;> simp [h]

theorem State.unit_free {kind index : Nat} (f : Chip → Chip) (h : s.chip.dev.unitHeld kind index = false) :
    s.unit kind index f = s.run f := by rw [State.unit_eq, h]; rfl

/-- A command to a port is one to its unit, with what is eligible judged after it. -/
theorem State.port_free {p : Nat} (f : Chip → Chip) (h : s.chip.dev.unitHeld 1 p = false) :
    s.port p f = s.run fun c => (f c).ripen p := State.unit_free _ h

/-- A command to a time event unit is one to its unit, with what is eligible judged after it on every port. -/
theorem State.teu_free {u : Nat} (f : Dev → Dev) (h : s.chip.dev.unitHeld 8 u = false) :
    s.teu u f = s.run fun c => (c.onDev f).ripenAll := State.unit_free _ h

/-- What a pin brings in acts where no instruction cuts the pins. -/
theorem State.fromPin_free (o : Out) (h : s.chip.dev.cut = false) : s.fromPin o = o := by simp [State.fromPin, h]

@[simp] theorem State.checked_true (o : Out) : s.checked true o = o := rfl
@[simp] theorem State.checked_false (o : Out) : s.checked false o = .next s := rfl

/-- A JTAG instruction becomes current while the supplies hold, and changes nothing else. -/
theorem State.jtag_cases {i : JtagIr} (h : s.jtag i = .next t) :
    t.pending = s.pending ∧ t.chip.mem = s.chip.mem ∧
      t.chip.dev = if s.chip.dev.supplyOk then s.chip.dev.select i else s.chip.dev := by
  unfold State.jtag at h
  injection h with h
  subst h
  cases s.chip.dev.supplyOk <;> exact ⟨rfl, rfl, rfl⟩

/-- A context acts at once; the host, requester 0, after its buffered writes, and only while its interface answers. -/
theorem Chip.asRequester_ctx (c : Chip) (r : Nat) (f : Chip → Chip) (h : r ≠ 0) : c.asRequester r f = f c := if_pos h

theorem Chip.drainBuffer_nil (n : Nat) (c : Chip) (h : c.dev.sys.host.buf = []) : Chip.drainBuffer n c = c := by
  have one : c.performFirst = c := by unfold Chip.performFirst; rw [h]
  induction n with
  | zero => rfl
  | succ n ih => rw [Chip.drainBuffer, one, ih]

theorem Chip.asRequester_host (c : Chip) (f : Chip → Chip) (up : c.dev.hostUp = true) (h : c.dev.sys.host.buf = []) :
    c.asRequester 0 f = f c := by
  simp [Chip.asRequester, up, Chip.drainBuffer_nil 32 c h]

/-- An instruction of the running context does nothing where its fetch faults, past what the fetch does; else it acts on what
the fetch leaves. One that may not issue does nothing. -/
theorem Chip.issue_running (c : Chip) (x : Nat) (f : Chip → Chip) (h : c.dev.running x = true) :
    c.issue x f = if (c.fetch x).2 then f (c.fetch x).1 else (c.fetch x).1 := by
  simp only [Chip.issue, Dev.getsCycle, h, if_true]
  split <;> next h => rw [h]; rfl

theorem Chip.issue_blocked (c : Chip) (x : Nat) (f : Chip → Chip) (h : c.dev.canIssue x = false) : c.issue x f = c := by
  have r : c.dev.running x = false := by simp [Dev.running, h]
  simp [Chip.issue, Dev.getsCycle, r, h]

end Sys2Proof.Machine
end

