-- ==== Sys2Proof/Laws/State.lean ====
section
/-! SUPPORT. What every update of the device leaves: one lemma per field per update, and what each named part of the
device reads after each update. -/

namespace Sys2Proof.Machine

variable (d : Dev)

@[simp] theorem Dev.wr_resetN (f : Fld) (v : Nat) : (d.wr f v).resetN = d.resetN := rfl
@[simp] theorem Dev.wr_supplyOk (f : Fld) (v : Nat) : (d.wr f v).supplyOk = d.supplyOk := rfl
@[simp] theorem Dev.wr_freeCtr (f : Fld) (v : Nat) : (d.wr f v).freeCtr = d.freeCtr := rfl
@[simp] theorem Dev.wr_tick (f : Fld) (v : Nat) : (d.wr f v).tick = d.tick := rfl
@[simp] theorem Dev.wr_tickNum (f : Fld) (v : Nat) : (d.wr f v).tickNum = d.tickNum := rfl
@[simp] theorem Dev.wr_queues (f : Fld) (v : Nat) : (d.wr f v).queues = d.queues := rfl
@[simp] theorem Dev.wr_rake (f : Fld) (v : Nat) : (d.wr f v).rake = d.rake := rfl
@[simp] theorem Dev.wr_pool (f : Fld) (v : Nat) : (d.wr f v).pool = d.pool := rfl
@[simp] theorem Dev.wr_tlbs (f : Fld) (v : Nat) : (d.wr f v).tlbs = d.tlbs := rfl
@[simp] theorem Dev.wr_inv (f : Fld) (v : Nat) : (d.wr f v).inv = d.inv := rfl
@[simp] theorem Dev.wr_ctxs (f : Fld) (v : Nat) : (d.wr f v).ctxs = d.ctxs := rfl
@[simp] theorem Dev.wr_dmas (f : Fld) (v : Nat) : (d.wr f v).dmas = d.dmas := rfl
@[simp] theorem Dev.wr_icache (f : Fld) (v : Nat) : (d.wr f v).icache = d.icache := rfl
@[simp] theorem Dev.wr_badRows (f : Fld) (v : Nat) : (d.wr f v).badRows = d.badRows := rfl
@[simp] theorem Dev.wr_perf (f : Fld) (v : Nat) : (d.wr f v).perf = d.perf := rfl
@[simp] theorem Dev.wr_routePend (f : Fld) (v : Nat) : (d.wr f v).routePend = d.routePend := rfl
@[simp] theorem Dev.wr_routeFresh (f : Fld) (v : Nat) : (d.wr f v).routeFresh = d.routeFresh := rfl
@[simp] theorem Dev.wr_txOld (f : Fld) (v : Nat) : (d.wr f v).txOld = d.txOld := rfl
@[simp] theorem Dev.wr_envs (f : Fld) (v : Nat) : (d.wr f v).envs = d.envs := rfl
@[simp] theorem Dev.wr_time (f : Fld) (v : Nat) : (d.wr f v).time = d.time := rfl
@[simp] theorem Dev.wr_clk (f : Fld) (v : Nat) : (d.wr f v).clk = d.clk := rfl
@[simp] theorem Dev.wr_teus (f : Fld) (v : Nat) : (d.wr f v).teus = d.teus := rfl
@[simp] theorem Dev.wr_saps (f : Fld) (v : Nat) : (d.wr f v).saps = d.saps := rfl
@[simp] theorem Dev.wr_drive (f : Fld) (v : Nat) : (d.wr f v).drive = d.drive := rfl
@[simp] theorem Dev.wr_net (f : Fld) (v : Nat) : (d.wr f v).net = d.net := rfl
@[simp] theorem Dev.wr_sys (f : Fld) (v : Nat) : (d.wr f v).sys = d.sys := rfl

@[simp] theorem Dev.setQ_regs (n : Nat) (v : Queue) : (d.setQ n v).regs = d.regs := rfl
@[simp] theorem Dev.setQ_resetN (n : Nat) (v : Queue) : (d.setQ n v).resetN = d.resetN := rfl
@[simp] theorem Dev.setQ_supplyOk (n : Nat) (v : Queue) : (d.setQ n v).supplyOk = d.supplyOk := rfl
@[simp] theorem Dev.setQ_freeCtr (n : Nat) (v : Queue) : (d.setQ n v).freeCtr = d.freeCtr := rfl
@[simp] theorem Dev.setQ_tick (n : Nat) (v : Queue) : (d.setQ n v).tick = d.tick := rfl
@[simp] theorem Dev.setQ_tickNum (n : Nat) (v : Queue) : (d.setQ n v).tickNum = d.tickNum := rfl
@[simp] theorem Dev.setQ_rake (n : Nat) (v : Queue) : (d.setQ n v).rake = d.rake := rfl
@[simp] theorem Dev.setQ_pool (n : Nat) (v : Queue) : (d.setQ n v).pool = d.pool := rfl
@[simp] theorem Dev.setQ_tlbs (n : Nat) (v : Queue) : (d.setQ n v).tlbs = d.tlbs := rfl
@[simp] theorem Dev.setQ_inv (n : Nat) (v : Queue) : (d.setQ n v).inv = d.inv := rfl
@[simp] theorem Dev.setQ_ctxs (n : Nat) (v : Queue) : (d.setQ n v).ctxs = d.ctxs := rfl
@[simp] theorem Dev.setQ_dmas (n : Nat) (v : Queue) : (d.setQ n v).dmas = d.dmas := rfl
@[simp] theorem Dev.setQ_icache (n : Nat) (v : Queue) : (d.setQ n v).icache = d.icache := rfl
@[simp] theorem Dev.setQ_badRows (n : Nat) (v : Queue) : (d.setQ n v).badRows = d.badRows := rfl
@[simp] theorem Dev.setQ_perf (n : Nat) (v : Queue) : (d.setQ n v).perf = d.perf := rfl
@[simp] theorem Dev.setQ_routePend (n : Nat) (v : Queue) : (d.setQ n v).routePend = d.routePend := rfl
@[simp] theorem Dev.setQ_routeFresh (n : Nat) (v : Queue) : (d.setQ n v).routeFresh = d.routeFresh := rfl
@[simp] theorem Dev.setQ_txOld (n : Nat) (v : Queue) : (d.setQ n v).txOld = d.txOld := rfl
@[simp] theorem Dev.setQ_envs (n : Nat) (v : Queue) : (d.setQ n v).envs = d.envs := rfl
@[simp] theorem Dev.setQ_time (n : Nat) (v : Queue) : (d.setQ n v).time = d.time := rfl
@[simp] theorem Dev.setQ_clk (n : Nat) (v : Queue) : (d.setQ n v).clk = d.clk := rfl
@[simp] theorem Dev.setQ_teus (n : Nat) (v : Queue) : (d.setQ n v).teus = d.teus := rfl
@[simp] theorem Dev.setQ_saps (n : Nat) (v : Queue) : (d.setQ n v).saps = d.saps := rfl
@[simp] theorem Dev.setQ_drive (n : Nat) (v : Queue) : (d.setQ n v).drive = d.drive := rfl
@[simp] theorem Dev.setQ_net (n : Nat) (v : Queue) : (d.setQ n v).net = d.net := rfl
@[simp] theorem Dev.setQ_sys (n : Nat) (v : Queue) : (d.setQ n v).sys = d.sys := rfl

@[simp] theorem Dev.setCtx_regs (n : Nat) (v : Ctx) : (d.setCtx n v).regs = d.regs := rfl
@[simp] theorem Dev.setCtx_resetN (n : Nat) (v : Ctx) : (d.setCtx n v).resetN = d.resetN := rfl
@[simp] theorem Dev.setCtx_supplyOk (n : Nat) (v : Ctx) : (d.setCtx n v).supplyOk = d.supplyOk := rfl
@[simp] theorem Dev.setCtx_freeCtr (n : Nat) (v : Ctx) : (d.setCtx n v).freeCtr = d.freeCtr := rfl
@[simp] theorem Dev.setCtx_tick (n : Nat) (v : Ctx) : (d.setCtx n v).tick = d.tick := rfl
@[simp] theorem Dev.setCtx_tickNum (n : Nat) (v : Ctx) : (d.setCtx n v).tickNum = d.tickNum := rfl
@[simp] theorem Dev.setCtx_queues (n : Nat) (v : Ctx) : (d.setCtx n v).queues = d.queues := rfl
@[simp] theorem Dev.setCtx_rake (n : Nat) (v : Ctx) : (d.setCtx n v).rake = d.rake := rfl
@[simp] theorem Dev.setCtx_pool (n : Nat) (v : Ctx) : (d.setCtx n v).pool = d.pool := rfl
@[simp] theorem Dev.setCtx_tlbs (n : Nat) (v : Ctx) : (d.setCtx n v).tlbs = d.tlbs := rfl
@[simp] theorem Dev.setCtx_inv (n : Nat) (v : Ctx) : (d.setCtx n v).inv = d.inv := rfl
@[simp] theorem Dev.setCtx_dmas (n : Nat) (v : Ctx) : (d.setCtx n v).dmas = d.dmas := rfl
@[simp] theorem Dev.setCtx_icache (n : Nat) (v : Ctx) : (d.setCtx n v).icache = d.icache := rfl
@[simp] theorem Dev.setCtx_badRows (n : Nat) (v : Ctx) : (d.setCtx n v).badRows = d.badRows := rfl
@[simp] theorem Dev.setCtx_perf (n : Nat) (v : Ctx) : (d.setCtx n v).perf = d.perf := rfl
@[simp] theorem Dev.setCtx_routePend (n : Nat) (v : Ctx) : (d.setCtx n v).routePend = d.routePend := rfl
@[simp] theorem Dev.setCtx_routeFresh (n : Nat) (v : Ctx) : (d.setCtx n v).routeFresh = d.routeFresh := rfl
@[simp] theorem Dev.setCtx_txOld (n : Nat) (v : Ctx) : (d.setCtx n v).txOld = d.txOld := rfl
@[simp] theorem Dev.setCtx_envs (n : Nat) (v : Ctx) : (d.setCtx n v).envs = d.envs := rfl
@[simp] theorem Dev.setCtx_time (n : Nat) (v : Ctx) : (d.setCtx n v).time = d.time := rfl
@[simp] theorem Dev.setCtx_clk (n : Nat) (v : Ctx) : (d.setCtx n v).clk = d.clk := rfl
@[simp] theorem Dev.setCtx_teus (n : Nat) (v : Ctx) : (d.setCtx n v).teus = d.teus := rfl
@[simp] theorem Dev.setCtx_saps (n : Nat) (v : Ctx) : (d.setCtx n v).saps = d.saps := rfl
@[simp] theorem Dev.setCtx_drive (n : Nat) (v : Ctx) : (d.setCtx n v).drive = d.drive := rfl
@[simp] theorem Dev.setCtx_net (n : Nat) (v : Ctx) : (d.setCtx n v).net = d.net := rfl
@[simp] theorem Dev.setCtx_sys (n : Nat) (v : Ctx) : (d.setCtx n v).sys = d.sys := rfl

@[simp] theorem Dev.setDma_regs (n : Nat) (v : Dma) : (d.setDma n v).regs = d.regs := rfl
@[simp] theorem Dev.setDma_resetN (n : Nat) (v : Dma) : (d.setDma n v).resetN = d.resetN := rfl
@[simp] theorem Dev.setDma_supplyOk (n : Nat) (v : Dma) : (d.setDma n v).supplyOk = d.supplyOk := rfl
@[simp] theorem Dev.setDma_freeCtr (n : Nat) (v : Dma) : (d.setDma n v).freeCtr = d.freeCtr := rfl
@[simp] theorem Dev.setDma_tick (n : Nat) (v : Dma) : (d.setDma n v).tick = d.tick := rfl
@[simp] theorem Dev.setDma_tickNum (n : Nat) (v : Dma) : (d.setDma n v).tickNum = d.tickNum := rfl
@[simp] theorem Dev.setDma_queues (n : Nat) (v : Dma) : (d.setDma n v).queues = d.queues := rfl
@[simp] theorem Dev.setDma_rake (n : Nat) (v : Dma) : (d.setDma n v).rake = d.rake := rfl
@[simp] theorem Dev.setDma_pool (n : Nat) (v : Dma) : (d.setDma n v).pool = d.pool := rfl
@[simp] theorem Dev.setDma_tlbs (n : Nat) (v : Dma) : (d.setDma n v).tlbs = d.tlbs := rfl
@[simp] theorem Dev.setDma_inv (n : Nat) (v : Dma) : (d.setDma n v).inv = d.inv := rfl
@[simp] theorem Dev.setDma_ctxs (n : Nat) (v : Dma) : (d.setDma n v).ctxs = d.ctxs := rfl
@[simp] theorem Dev.setDma_icache (n : Nat) (v : Dma) : (d.setDma n v).icache = d.icache := rfl
@[simp] theorem Dev.setDma_badRows (n : Nat) (v : Dma) : (d.setDma n v).badRows = d.badRows := rfl
@[simp] theorem Dev.setDma_perf (n : Nat) (v : Dma) : (d.setDma n v).perf = d.perf := rfl
@[simp] theorem Dev.setDma_routePend (n : Nat) (v : Dma) : (d.setDma n v).routePend = d.routePend := rfl
@[simp] theorem Dev.setDma_routeFresh (n : Nat) (v : Dma) : (d.setDma n v).routeFresh = d.routeFresh := rfl
@[simp] theorem Dev.setDma_txOld (n : Nat) (v : Dma) : (d.setDma n v).txOld = d.txOld := rfl
@[simp] theorem Dev.setDma_envs (n : Nat) (v : Dma) : (d.setDma n v).envs = d.envs := rfl
@[simp] theorem Dev.setDma_time (n : Nat) (v : Dma) : (d.setDma n v).time = d.time := rfl
@[simp] theorem Dev.setDma_clk (n : Nat) (v : Dma) : (d.setDma n v).clk = d.clk := rfl
@[simp] theorem Dev.setDma_teus (n : Nat) (v : Dma) : (d.setDma n v).teus = d.teus := rfl
@[simp] theorem Dev.setDma_saps (n : Nat) (v : Dma) : (d.setDma n v).saps = d.saps := rfl
@[simp] theorem Dev.setDma_drive (n : Nat) (v : Dma) : (d.setDma n v).drive = d.drive := rfl
@[simp] theorem Dev.setDma_net (n : Nat) (v : Dma) : (d.setDma n v).net = d.net := rfl
@[simp] theorem Dev.setDma_sys (n : Nat) (v : Dma) : (d.setDma n v).sys = d.sys := rfl

@[simp] theorem Dev.setTlb_regs (n : Nat) (v : List TlbEntry) : (d.setTlb n v).regs = d.regs := rfl
@[simp] theorem Dev.setTlb_resetN (n : Nat) (v : List TlbEntry) : (d.setTlb n v).resetN = d.resetN := rfl
@[simp] theorem Dev.setTlb_supplyOk (n : Nat) (v : List TlbEntry) : (d.setTlb n v).supplyOk = d.supplyOk := rfl
@[simp] theorem Dev.setTlb_freeCtr (n : Nat) (v : List TlbEntry) : (d.setTlb n v).freeCtr = d.freeCtr := rfl
@[simp] theorem Dev.setTlb_tick (n : Nat) (v : List TlbEntry) : (d.setTlb n v).tick = d.tick := rfl
@[simp] theorem Dev.setTlb_tickNum (n : Nat) (v : List TlbEntry) : (d.setTlb n v).tickNum = d.tickNum := rfl
@[simp] theorem Dev.setTlb_queues (n : Nat) (v : List TlbEntry) : (d.setTlb n v).queues = d.queues := rfl
@[simp] theorem Dev.setTlb_rake (n : Nat) (v : List TlbEntry) : (d.setTlb n v).rake = d.rake := rfl
@[simp] theorem Dev.setTlb_pool (n : Nat) (v : List TlbEntry) : (d.setTlb n v).pool = d.pool := rfl
@[simp] theorem Dev.setTlb_inv (n : Nat) (v : List TlbEntry) : (d.setTlb n v).inv = d.inv := rfl
@[simp] theorem Dev.setTlb_ctxs (n : Nat) (v : List TlbEntry) : (d.setTlb n v).ctxs = d.ctxs := rfl
@[simp] theorem Dev.setTlb_dmas (n : Nat) (v : List TlbEntry) : (d.setTlb n v).dmas = d.dmas := rfl
@[simp] theorem Dev.setTlb_icache (n : Nat) (v : List TlbEntry) : (d.setTlb n v).icache = d.icache := rfl
@[simp] theorem Dev.setTlb_badRows (n : Nat) (v : List TlbEntry) : (d.setTlb n v).badRows = d.badRows := rfl
@[simp] theorem Dev.setTlb_perf (n : Nat) (v : List TlbEntry) : (d.setTlb n v).perf = d.perf := rfl
@[simp] theorem Dev.setTlb_routePend (n : Nat) (v : List TlbEntry) : (d.setTlb n v).routePend = d.routePend := rfl
@[simp] theorem Dev.setTlb_routeFresh (n : Nat) (v : List TlbEntry) : (d.setTlb n v).routeFresh = d.routeFresh := rfl
@[simp] theorem Dev.setTlb_txOld (n : Nat) (v : List TlbEntry) : (d.setTlb n v).txOld = d.txOld := rfl
@[simp] theorem Dev.setTlb_envs (n : Nat) (v : List TlbEntry) : (d.setTlb n v).envs = d.envs := rfl
@[simp] theorem Dev.setTlb_time (n : Nat) (v : List TlbEntry) : (d.setTlb n v).time = d.time := rfl
@[simp] theorem Dev.setTlb_clk (n : Nat) (v : List TlbEntry) : (d.setTlb n v).clk = d.clk := rfl
@[simp] theorem Dev.setTlb_teus (n : Nat) (v : List TlbEntry) : (d.setTlb n v).teus = d.teus := rfl
@[simp] theorem Dev.setTlb_saps (n : Nat) (v : List TlbEntry) : (d.setTlb n v).saps = d.saps := rfl
@[simp] theorem Dev.setTlb_drive (n : Nat) (v : List TlbEntry) : (d.setTlb n v).drive = d.drive := rfl
@[simp] theorem Dev.setTlb_net (n : Nat) (v : List TlbEntry) : (d.setTlb n v).net = d.net := rfl
@[simp] theorem Dev.setTlb_sys (n : Nat) (v : List TlbEntry) : (d.setTlb n v).sys = d.sys := rfl

@[simp] theorem Dev.setLines_regs (n : Nat) (v : List (Nat × Nat)) : (d.setLines n v).regs = d.regs := rfl
@[simp] theorem Dev.setLines_resetN (n : Nat) (v : List (Nat × Nat)) : (d.setLines n v).resetN = d.resetN := rfl
@[simp] theorem Dev.setLines_supplyOk (n : Nat) (v : List (Nat × Nat)) : (d.setLines n v).supplyOk = d.supplyOk := rfl
@[simp] theorem Dev.setLines_freeCtr (n : Nat) (v : List (Nat × Nat)) : (d.setLines n v).freeCtr = d.freeCtr := rfl
@[simp] theorem Dev.setLines_tick (n : Nat) (v : List (Nat × Nat)) : (d.setLines n v).tick = d.tick := rfl
@[simp] theorem Dev.setLines_tickNum (n : Nat) (v : List (Nat × Nat)) : (d.setLines n v).tickNum = d.tickNum := rfl
@[simp] theorem Dev.setLines_queues (n : Nat) (v : List (Nat × Nat)) : (d.setLines n v).queues = d.queues := rfl
@[simp] theorem Dev.setLines_rake (n : Nat) (v : List (Nat × Nat)) : (d.setLines n v).rake = d.rake := rfl
@[simp] theorem Dev.setLines_pool (n : Nat) (v : List (Nat × Nat)) : (d.setLines n v).pool = d.pool := rfl
@[simp] theorem Dev.setLines_tlbs (n : Nat) (v : List (Nat × Nat)) : (d.setLines n v).tlbs = d.tlbs := rfl
@[simp] theorem Dev.setLines_inv (n : Nat) (v : List (Nat × Nat)) : (d.setLines n v).inv = d.inv := rfl
@[simp] theorem Dev.setLines_ctxs (n : Nat) (v : List (Nat × Nat)) : (d.setLines n v).ctxs = d.ctxs := rfl
@[simp] theorem Dev.setLines_dmas (n : Nat) (v : List (Nat × Nat)) : (d.setLines n v).dmas = d.dmas := rfl
@[simp] theorem Dev.setLines_badRows (n : Nat) (v : List (Nat × Nat)) : (d.setLines n v).badRows = d.badRows := rfl
@[simp] theorem Dev.setLines_perf (n : Nat) (v : List (Nat × Nat)) : (d.setLines n v).perf = d.perf := rfl
@[simp] theorem Dev.setLines_routePend (n : Nat) (v : List (Nat × Nat)) : (d.setLines n v).routePend = d.routePend := rfl
@[simp] theorem Dev.setLines_routeFresh (n : Nat) (v : List (Nat × Nat)) : (d.setLines n v).routeFresh = d.routeFresh := rfl
@[simp] theorem Dev.setLines_txOld (n : Nat) (v : List (Nat × Nat)) : (d.setLines n v).txOld = d.txOld := rfl
@[simp] theorem Dev.setLines_envs (n : Nat) (v : List (Nat × Nat)) : (d.setLines n v).envs = d.envs := rfl
@[simp] theorem Dev.setLines_time (n : Nat) (v : List (Nat × Nat)) : (d.setLines n v).time = d.time := rfl
@[simp] theorem Dev.setLines_clk (n : Nat) (v : List (Nat × Nat)) : (d.setLines n v).clk = d.clk := rfl
@[simp] theorem Dev.setLines_teus (n : Nat) (v : List (Nat × Nat)) : (d.setLines n v).teus = d.teus := rfl
@[simp] theorem Dev.setLines_saps (n : Nat) (v : List (Nat × Nat)) : (d.setLines n v).saps = d.saps := rfl
@[simp] theorem Dev.setLines_drive (n : Nat) (v : List (Nat × Nat)) : (d.setLines n v).drive = d.drive := rfl
@[simp] theorem Dev.setLines_net (n : Nat) (v : List (Nat × Nat)) : (d.setLines n v).net = d.net := rfl
@[simp] theorem Dev.setLines_sys (n : Nat) (v : List (Nat × Nat)) : (d.setLines n v).sys = d.sys := rfl

@[simp] theorem Dev.setPend_regs (n : Nat) (v : Option RoutePend) : (d.setPend n v).regs = d.regs := rfl
@[simp] theorem Dev.setPend_resetN (n : Nat) (v : Option RoutePend) : (d.setPend n v).resetN = d.resetN := rfl
@[simp] theorem Dev.setPend_supplyOk (n : Nat) (v : Option RoutePend) : (d.setPend n v).supplyOk = d.supplyOk := rfl
@[simp] theorem Dev.setPend_freeCtr (n : Nat) (v : Option RoutePend) : (d.setPend n v).freeCtr = d.freeCtr := rfl
@[simp] theorem Dev.setPend_tick (n : Nat) (v : Option RoutePend) : (d.setPend n v).tick = d.tick := rfl
@[simp] theorem Dev.setPend_tickNum (n : Nat) (v : Option RoutePend) : (d.setPend n v).tickNum = d.tickNum := rfl
@[simp] theorem Dev.setPend_queues (n : Nat) (v : Option RoutePend) : (d.setPend n v).queues = d.queues := rfl
@[simp] theorem Dev.setPend_rake (n : Nat) (v : Option RoutePend) : (d.setPend n v).rake = d.rake := rfl
@[simp] theorem Dev.setPend_pool (n : Nat) (v : Option RoutePend) : (d.setPend n v).pool = d.pool := rfl
@[simp] theorem Dev.setPend_tlbs (n : Nat) (v : Option RoutePend) : (d.setPend n v).tlbs = d.tlbs := rfl
@[simp] theorem Dev.setPend_inv (n : Nat) (v : Option RoutePend) : (d.setPend n v).inv = d.inv := rfl
@[simp] theorem Dev.setPend_ctxs (n : Nat) (v : Option RoutePend) : (d.setPend n v).ctxs = d.ctxs := rfl
@[simp] theorem Dev.setPend_dmas (n : Nat) (v : Option RoutePend) : (d.setPend n v).dmas = d.dmas := rfl
@[simp] theorem Dev.setPend_icache (n : Nat) (v : Option RoutePend) : (d.setPend n v).icache = d.icache := rfl
@[simp] theorem Dev.setPend_badRows (n : Nat) (v : Option RoutePend) : (d.setPend n v).badRows = d.badRows := rfl
@[simp] theorem Dev.setPend_perf (n : Nat) (v : Option RoutePend) : (d.setPend n v).perf = d.perf := rfl
@[simp] theorem Dev.setPend_routeFresh (n : Nat) (v : Option RoutePend) : (d.setPend n v).routeFresh = d.routeFresh := rfl
@[simp] theorem Dev.setPend_txOld (n : Nat) (v : Option RoutePend) : (d.setPend n v).txOld = d.txOld := rfl
@[simp] theorem Dev.setPend_envs (n : Nat) (v : Option RoutePend) : (d.setPend n v).envs = d.envs := rfl
@[simp] theorem Dev.setPend_time (n : Nat) (v : Option RoutePend) : (d.setPend n v).time = d.time := rfl
@[simp] theorem Dev.setPend_clk (n : Nat) (v : Option RoutePend) : (d.setPend n v).clk = d.clk := rfl
@[simp] theorem Dev.setPend_teus (n : Nat) (v : Option RoutePend) : (d.setPend n v).teus = d.teus := rfl
@[simp] theorem Dev.setPend_saps (n : Nat) (v : Option RoutePend) : (d.setPend n v).saps = d.saps := rfl
@[simp] theorem Dev.setPend_drive (n : Nat) (v : Option RoutePend) : (d.setPend n v).drive = d.drive := rfl
@[simp] theorem Dev.setPend_net (n : Nat) (v : Option RoutePend) : (d.setPend n v).net = d.net := rfl
@[simp] theorem Dev.setPend_sys (n : Nat) (v : Option RoutePend) : (d.setPend n v).sys = d.sys := rfl

@[simp] theorem Dev.setFirstTake_regs (n : Nat) (v : Bool) : (d.setFirstTake n v).regs = d.regs := rfl
@[simp] theorem Dev.setFirstTake_resetN (n : Nat) (v : Bool) : (d.setFirstTake n v).resetN = d.resetN := rfl
@[simp] theorem Dev.setFirstTake_supplyOk (n : Nat) (v : Bool) : (d.setFirstTake n v).supplyOk = d.supplyOk := rfl
@[simp] theorem Dev.setFirstTake_freeCtr (n : Nat) (v : Bool) : (d.setFirstTake n v).freeCtr = d.freeCtr := rfl
@[simp] theorem Dev.setFirstTake_tick (n : Nat) (v : Bool) : (d.setFirstTake n v).tick = d.tick := rfl
@[simp] theorem Dev.setFirstTake_tickNum (n : Nat) (v : Bool) : (d.setFirstTake n v).tickNum = d.tickNum := rfl
@[simp] theorem Dev.setFirstTake_queues (n : Nat) (v : Bool) : (d.setFirstTake n v).queues = d.queues := rfl
@[simp] theorem Dev.setFirstTake_rake (n : Nat) (v : Bool) : (d.setFirstTake n v).rake = d.rake := rfl
@[simp] theorem Dev.setFirstTake_pool (n : Nat) (v : Bool) : (d.setFirstTake n v).pool = d.pool := rfl
@[simp] theorem Dev.setFirstTake_tlbs (n : Nat) (v : Bool) : (d.setFirstTake n v).tlbs = d.tlbs := rfl
@[simp] theorem Dev.setFirstTake_inv (n : Nat) (v : Bool) : (d.setFirstTake n v).inv = d.inv := rfl
@[simp] theorem Dev.setFirstTake_ctxs (n : Nat) (v : Bool) : (d.setFirstTake n v).ctxs = d.ctxs := rfl
@[simp] theorem Dev.setFirstTake_dmas (n : Nat) (v : Bool) : (d.setFirstTake n v).dmas = d.dmas := rfl
@[simp] theorem Dev.setFirstTake_icache (n : Nat) (v : Bool) : (d.setFirstTake n v).icache = d.icache := rfl
@[simp] theorem Dev.setFirstTake_badRows (n : Nat) (v : Bool) : (d.setFirstTake n v).badRows = d.badRows := rfl
@[simp] theorem Dev.setFirstTake_perf (n : Nat) (v : Bool) : (d.setFirstTake n v).perf = d.perf := rfl
@[simp] theorem Dev.setFirstTake_routePend (n : Nat) (v : Bool) : (d.setFirstTake n v).routePend = d.routePend := rfl
@[simp] theorem Dev.setFirstTake_txOld (n : Nat) (v : Bool) : (d.setFirstTake n v).txOld = d.txOld := rfl
@[simp] theorem Dev.setFirstTake_envs (n : Nat) (v : Bool) : (d.setFirstTake n v).envs = d.envs := rfl
@[simp] theorem Dev.setFirstTake_time (n : Nat) (v : Bool) : (d.setFirstTake n v).time = d.time := rfl
@[simp] theorem Dev.setFirstTake_clk (n : Nat) (v : Bool) : (d.setFirstTake n v).clk = d.clk := rfl
@[simp] theorem Dev.setFirstTake_teus (n : Nat) (v : Bool) : (d.setFirstTake n v).teus = d.teus := rfl
@[simp] theorem Dev.setFirstTake_saps (n : Nat) (v : Bool) : (d.setFirstTake n v).saps = d.saps := rfl
@[simp] theorem Dev.setFirstTake_drive (n : Nat) (v : Bool) : (d.setFirstTake n v).drive = d.drive := rfl
@[simp] theorem Dev.setFirstTake_net (n : Nat) (v : Bool) : (d.setFirstTake n v).net = d.net := rfl
@[simp] theorem Dev.setFirstTake_sys (n : Nat) (v : Bool) : (d.setFirstTake n v).sys = d.sys := rfl

@[simp] theorem Dev.setTeu_regs (n : Nat) (v : Teu) : (d.setTeu n v).regs = d.regs := rfl
@[simp] theorem Dev.setTeu_resetN (n : Nat) (v : Teu) : (d.setTeu n v).resetN = d.resetN := rfl
@[simp] theorem Dev.setTeu_supplyOk (n : Nat) (v : Teu) : (d.setTeu n v).supplyOk = d.supplyOk := rfl
@[simp] theorem Dev.setTeu_freeCtr (n : Nat) (v : Teu) : (d.setTeu n v).freeCtr = d.freeCtr := rfl
@[simp] theorem Dev.setTeu_tick (n : Nat) (v : Teu) : (d.setTeu n v).tick = d.tick := rfl
@[simp] theorem Dev.setTeu_tickNum (n : Nat) (v : Teu) : (d.setTeu n v).tickNum = d.tickNum := rfl
@[simp] theorem Dev.setTeu_queues (n : Nat) (v : Teu) : (d.setTeu n v).queues = d.queues := rfl
@[simp] theorem Dev.setTeu_rake (n : Nat) (v : Teu) : (d.setTeu n v).rake = d.rake := rfl
@[simp] theorem Dev.setTeu_pool (n : Nat) (v : Teu) : (d.setTeu n v).pool = d.pool := rfl
@[simp] theorem Dev.setTeu_tlbs (n : Nat) (v : Teu) : (d.setTeu n v).tlbs = d.tlbs := rfl
@[simp] theorem Dev.setTeu_inv (n : Nat) (v : Teu) : (d.setTeu n v).inv = d.inv := rfl
@[simp] theorem Dev.setTeu_ctxs (n : Nat) (v : Teu) : (d.setTeu n v).ctxs = d.ctxs := rfl
@[simp] theorem Dev.setTeu_dmas (n : Nat) (v : Teu) : (d.setTeu n v).dmas = d.dmas := rfl
@[simp] theorem Dev.setTeu_icache (n : Nat) (v : Teu) : (d.setTeu n v).icache = d.icache := rfl
@[simp] theorem Dev.setTeu_badRows (n : Nat) (v : Teu) : (d.setTeu n v).badRows = d.badRows := rfl
@[simp] theorem Dev.setTeu_perf (n : Nat) (v : Teu) : (d.setTeu n v).perf = d.perf := rfl
@[simp] theorem Dev.setTeu_routePend (n : Nat) (v : Teu) : (d.setTeu n v).routePend = d.routePend := rfl
@[simp] theorem Dev.setTeu_routeFresh (n : Nat) (v : Teu) : (d.setTeu n v).routeFresh = d.routeFresh := rfl
@[simp] theorem Dev.setTeu_txOld (n : Nat) (v : Teu) : (d.setTeu n v).txOld = d.txOld := rfl
@[simp] theorem Dev.setTeu_envs (n : Nat) (v : Teu) : (d.setTeu n v).envs = d.envs := rfl
@[simp] theorem Dev.setTeu_time (n : Nat) (v : Teu) : (d.setTeu n v).time = d.time := rfl
@[simp] theorem Dev.setTeu_clk (n : Nat) (v : Teu) : (d.setTeu n v).clk = d.clk := rfl
@[simp] theorem Dev.setTeu_saps (n : Nat) (v : Teu) : (d.setTeu n v).saps = d.saps := rfl
@[simp] theorem Dev.setTeu_drive (n : Nat) (v : Teu) : (d.setTeu n v).drive = d.drive := rfl
@[simp] theorem Dev.setTeu_net (n : Nat) (v : Teu) : (d.setTeu n v).net = d.net := rfl
@[simp] theorem Dev.setTeu_sys (n : Nat) (v : Teu) : (d.setTeu n v).sys = d.sys := rfl

@[simp] theorem Dev.setOldBind_regs (n : Nat) (v : Option (Nat × Bool)) : (d.setOldBind n v).regs = d.regs := rfl
@[simp] theorem Dev.setOldBind_resetN (n : Nat) (v : Option (Nat × Bool)) : (d.setOldBind n v).resetN = d.resetN := rfl
@[simp] theorem Dev.setOldBind_supplyOk (n : Nat) (v : Option (Nat × Bool)) : (d.setOldBind n v).supplyOk = d.supplyOk := rfl
@[simp] theorem Dev.setOldBind_freeCtr (n : Nat) (v : Option (Nat × Bool)) : (d.setOldBind n v).freeCtr = d.freeCtr := rfl
@[simp] theorem Dev.setOldBind_tick (n : Nat) (v : Option (Nat × Bool)) : (d.setOldBind n v).tick = d.tick := rfl
@[simp] theorem Dev.setOldBind_tickNum (n : Nat) (v : Option (Nat × Bool)) : (d.setOldBind n v).tickNum = d.tickNum := rfl
@[simp] theorem Dev.setOldBind_queues (n : Nat) (v : Option (Nat × Bool)) : (d.setOldBind n v).queues = d.queues := rfl
@[simp] theorem Dev.setOldBind_rake (n : Nat) (v : Option (Nat × Bool)) : (d.setOldBind n v).rake = d.rake := rfl
@[simp] theorem Dev.setOldBind_pool (n : Nat) (v : Option (Nat × Bool)) : (d.setOldBind n v).pool = d.pool := rfl
@[simp] theorem Dev.setOldBind_tlbs (n : Nat) (v : Option (Nat × Bool)) : (d.setOldBind n v).tlbs = d.tlbs := rfl
@[simp] theorem Dev.setOldBind_inv (n : Nat) (v : Option (Nat × Bool)) : (d.setOldBind n v).inv = d.inv := rfl
@[simp] theorem Dev.setOldBind_ctxs (n : Nat) (v : Option (Nat × Bool)) : (d.setOldBind n v).ctxs = d.ctxs := rfl
@[simp] theorem Dev.setOldBind_dmas (n : Nat) (v : Option (Nat × Bool)) : (d.setOldBind n v).dmas = d.dmas := rfl
@[simp] theorem Dev.setOldBind_icache (n : Nat) (v : Option (Nat × Bool)) : (d.setOldBind n v).icache = d.icache := rfl
@[simp] theorem Dev.setOldBind_badRows (n : Nat) (v : Option (Nat × Bool)) : (d.setOldBind n v).badRows = d.badRows := rfl
@[simp] theorem Dev.setOldBind_perf (n : Nat) (v : Option (Nat × Bool)) : (d.setOldBind n v).perf = d.perf := rfl
@[simp] theorem Dev.setOldBind_routePend (n : Nat) (v : Option (Nat × Bool)) : (d.setOldBind n v).routePend = d.routePend := rfl
@[simp] theorem Dev.setOldBind_routeFresh (n : Nat) (v : Option (Nat × Bool)) : (d.setOldBind n v).routeFresh = d.routeFresh := rfl
@[simp] theorem Dev.setOldBind_envs (n : Nat) (v : Option (Nat × Bool)) : (d.setOldBind n v).envs = d.envs := rfl
@[simp] theorem Dev.setOldBind_time (n : Nat) (v : Option (Nat × Bool)) : (d.setOldBind n v).time = d.time := rfl
@[simp] theorem Dev.setOldBind_clk (n : Nat) (v : Option (Nat × Bool)) : (d.setOldBind n v).clk = d.clk := rfl
@[simp] theorem Dev.setOldBind_teus (n : Nat) (v : Option (Nat × Bool)) : (d.setOldBind n v).teus = d.teus := rfl
@[simp] theorem Dev.setOldBind_saps (n : Nat) (v : Option (Nat × Bool)) : (d.setOldBind n v).saps = d.saps := rfl
@[simp] theorem Dev.setOldBind_drive (n : Nat) (v : Option (Nat × Bool)) : (d.setOldBind n v).drive = d.drive := rfl
@[simp] theorem Dev.setOldBind_net (n : Nat) (v : Option (Nat × Bool)) : (d.setOldBind n v).net = d.net := rfl
@[simp] theorem Dev.setOldBind_sys (n : Nat) (v : Option (Nat × Bool)) : (d.setOldBind n v).sys = d.sys := rfl

@[simp] theorem Dev.setSap_regs (n : Nat) (v : Sap) : (d.setSap n v).regs = d.regs := rfl
@[simp] theorem Dev.setSap_resetN (n : Nat) (v : Sap) : (d.setSap n v).resetN = d.resetN := rfl
@[simp] theorem Dev.setSap_supplyOk (n : Nat) (v : Sap) : (d.setSap n v).supplyOk = d.supplyOk := rfl
@[simp] theorem Dev.setSap_freeCtr (n : Nat) (v : Sap) : (d.setSap n v).freeCtr = d.freeCtr := rfl
@[simp] theorem Dev.setSap_tick (n : Nat) (v : Sap) : (d.setSap n v).tick = d.tick := rfl
@[simp] theorem Dev.setSap_tickNum (n : Nat) (v : Sap) : (d.setSap n v).tickNum = d.tickNum := rfl
@[simp] theorem Dev.setSap_queues (n : Nat) (v : Sap) : (d.setSap n v).queues = d.queues := rfl
@[simp] theorem Dev.setSap_rake (n : Nat) (v : Sap) : (d.setSap n v).rake = d.rake := rfl
@[simp] theorem Dev.setSap_pool (n : Nat) (v : Sap) : (d.setSap n v).pool = d.pool := rfl
@[simp] theorem Dev.setSap_tlbs (n : Nat) (v : Sap) : (d.setSap n v).tlbs = d.tlbs := rfl
@[simp] theorem Dev.setSap_inv (n : Nat) (v : Sap) : (d.setSap n v).inv = d.inv := rfl
@[simp] theorem Dev.setSap_ctxs (n : Nat) (v : Sap) : (d.setSap n v).ctxs = d.ctxs := rfl
@[simp] theorem Dev.setSap_dmas (n : Nat) (v : Sap) : (d.setSap n v).dmas = d.dmas := rfl
@[simp] theorem Dev.setSap_icache (n : Nat) (v : Sap) : (d.setSap n v).icache = d.icache := rfl
@[simp] theorem Dev.setSap_badRows (n : Nat) (v : Sap) : (d.setSap n v).badRows = d.badRows := rfl
@[simp] theorem Dev.setSap_perf (n : Nat) (v : Sap) : (d.setSap n v).perf = d.perf := rfl
@[simp] theorem Dev.setSap_routePend (n : Nat) (v : Sap) : (d.setSap n v).routePend = d.routePend := rfl
@[simp] theorem Dev.setSap_routeFresh (n : Nat) (v : Sap) : (d.setSap n v).routeFresh = d.routeFresh := rfl
@[simp] theorem Dev.setSap_txOld (n : Nat) (v : Sap) : (d.setSap n v).txOld = d.txOld := rfl
@[simp] theorem Dev.setSap_envs (n : Nat) (v : Sap) : (d.setSap n v).envs = d.envs := rfl
@[simp] theorem Dev.setSap_time (n : Nat) (v : Sap) : (d.setSap n v).time = d.time := rfl
@[simp] theorem Dev.setSap_clk (n : Nat) (v : Sap) : (d.setSap n v).clk = d.clk := rfl
@[simp] theorem Dev.setSap_teus (n : Nat) (v : Sap) : (d.setSap n v).teus = d.teus := rfl
@[simp] theorem Dev.setSap_drive (n : Nat) (v : Sap) : (d.setSap n v).drive = d.drive := rfl
@[simp] theorem Dev.setSap_net (n : Nat) (v : Sap) : (d.setSap n v).net = d.net := rfl
@[simp] theorem Dev.setSap_sys (n : Nat) (v : Sap) : (d.setSap n v).sys = d.sys := rfl

@[simp] theorem Dev.setMac_regs (n : Nat) (v : Mac) : (d.setMac n v).regs = d.regs := rfl
@[simp] theorem Dev.setMac_resetN (n : Nat) (v : Mac) : (d.setMac n v).resetN = d.resetN := rfl
@[simp] theorem Dev.setMac_supplyOk (n : Nat) (v : Mac) : (d.setMac n v).supplyOk = d.supplyOk := rfl
@[simp] theorem Dev.setMac_freeCtr (n : Nat) (v : Mac) : (d.setMac n v).freeCtr = d.freeCtr := rfl
@[simp] theorem Dev.setMac_tick (n : Nat) (v : Mac) : (d.setMac n v).tick = d.tick := rfl
@[simp] theorem Dev.setMac_tickNum (n : Nat) (v : Mac) : (d.setMac n v).tickNum = d.tickNum := rfl
@[simp] theorem Dev.setMac_queues (n : Nat) (v : Mac) : (d.setMac n v).queues = d.queues := rfl
@[simp] theorem Dev.setMac_rake (n : Nat) (v : Mac) : (d.setMac n v).rake = d.rake := rfl
@[simp] theorem Dev.setMac_pool (n : Nat) (v : Mac) : (d.setMac n v).pool = d.pool := rfl
@[simp] theorem Dev.setMac_tlbs (n : Nat) (v : Mac) : (d.setMac n v).tlbs = d.tlbs := rfl
@[simp] theorem Dev.setMac_inv (n : Nat) (v : Mac) : (d.setMac n v).inv = d.inv := rfl
@[simp] theorem Dev.setMac_ctxs (n : Nat) (v : Mac) : (d.setMac n v).ctxs = d.ctxs := rfl
@[simp] theorem Dev.setMac_dmas (n : Nat) (v : Mac) : (d.setMac n v).dmas = d.dmas := rfl
@[simp] theorem Dev.setMac_icache (n : Nat) (v : Mac) : (d.setMac n v).icache = d.icache := rfl
@[simp] theorem Dev.setMac_badRows (n : Nat) (v : Mac) : (d.setMac n v).badRows = d.badRows := rfl
@[simp] theorem Dev.setMac_perf (n : Nat) (v : Mac) : (d.setMac n v).perf = d.perf := rfl
@[simp] theorem Dev.setMac_routePend (n : Nat) (v : Mac) : (d.setMac n v).routePend = d.routePend := rfl
@[simp] theorem Dev.setMac_routeFresh (n : Nat) (v : Mac) : (d.setMac n v).routeFresh = d.routeFresh := rfl
@[simp] theorem Dev.setMac_txOld (n : Nat) (v : Mac) : (d.setMac n v).txOld = d.txOld := rfl
@[simp] theorem Dev.setMac_envs (n : Nat) (v : Mac) : (d.setMac n v).envs = d.envs := rfl
@[simp] theorem Dev.setMac_time (n : Nat) (v : Mac) : (d.setMac n v).time = d.time := rfl
@[simp] theorem Dev.setMac_clk (n : Nat) (v : Mac) : (d.setMac n v).clk = d.clk := rfl
@[simp] theorem Dev.setMac_teus (n : Nat) (v : Mac) : (d.setMac n v).teus = d.teus := rfl
@[simp] theorem Dev.setMac_saps (n : Nat) (v : Mac) : (d.setMac n v).saps = d.saps := rfl
@[simp] theorem Dev.setMac_drive (n : Nat) (v : Mac) : (d.setMac n v).drive = d.drive := rfl
@[simp] theorem Dev.setMac_sys (n : Nat) (v : Mac) : (d.setMac n v).sys = d.sys := rfl

@[simp] theorem Dev.setRxf_regs (n : Nat) (v : RxFlow) : (d.setRxf n v).regs = d.regs := rfl
@[simp] theorem Dev.setRxf_resetN (n : Nat) (v : RxFlow) : (d.setRxf n v).resetN = d.resetN := rfl
@[simp] theorem Dev.setRxf_supplyOk (n : Nat) (v : RxFlow) : (d.setRxf n v).supplyOk = d.supplyOk := rfl
@[simp] theorem Dev.setRxf_freeCtr (n : Nat) (v : RxFlow) : (d.setRxf n v).freeCtr = d.freeCtr := rfl
@[simp] theorem Dev.setRxf_tick (n : Nat) (v : RxFlow) : (d.setRxf n v).tick = d.tick := rfl
@[simp] theorem Dev.setRxf_tickNum (n : Nat) (v : RxFlow) : (d.setRxf n v).tickNum = d.tickNum := rfl
@[simp] theorem Dev.setRxf_queues (n : Nat) (v : RxFlow) : (d.setRxf n v).queues = d.queues := rfl
@[simp] theorem Dev.setRxf_rake (n : Nat) (v : RxFlow) : (d.setRxf n v).rake = d.rake := rfl
@[simp] theorem Dev.setRxf_pool (n : Nat) (v : RxFlow) : (d.setRxf n v).pool = d.pool := rfl
@[simp] theorem Dev.setRxf_tlbs (n : Nat) (v : RxFlow) : (d.setRxf n v).tlbs = d.tlbs := rfl
@[simp] theorem Dev.setRxf_inv (n : Nat) (v : RxFlow) : (d.setRxf n v).inv = d.inv := rfl
@[simp] theorem Dev.setRxf_ctxs (n : Nat) (v : RxFlow) : (d.setRxf n v).ctxs = d.ctxs := rfl
@[simp] theorem Dev.setRxf_dmas (n : Nat) (v : RxFlow) : (d.setRxf n v).dmas = d.dmas := rfl
@[simp] theorem Dev.setRxf_icache (n : Nat) (v : RxFlow) : (d.setRxf n v).icache = d.icache := rfl
@[simp] theorem Dev.setRxf_badRows (n : Nat) (v : RxFlow) : (d.setRxf n v).badRows = d.badRows := rfl
@[simp] theorem Dev.setRxf_perf (n : Nat) (v : RxFlow) : (d.setRxf n v).perf = d.perf := rfl
@[simp] theorem Dev.setRxf_routePend (n : Nat) (v : RxFlow) : (d.setRxf n v).routePend = d.routePend := rfl
@[simp] theorem Dev.setRxf_routeFresh (n : Nat) (v : RxFlow) : (d.setRxf n v).routeFresh = d.routeFresh := rfl
@[simp] theorem Dev.setRxf_txOld (n : Nat) (v : RxFlow) : (d.setRxf n v).txOld = d.txOld := rfl
@[simp] theorem Dev.setRxf_envs (n : Nat) (v : RxFlow) : (d.setRxf n v).envs = d.envs := rfl
@[simp] theorem Dev.setRxf_time (n : Nat) (v : RxFlow) : (d.setRxf n v).time = d.time := rfl
@[simp] theorem Dev.setRxf_clk (n : Nat) (v : RxFlow) : (d.setRxf n v).clk = d.clk := rfl
@[simp] theorem Dev.setRxf_teus (n : Nat) (v : RxFlow) : (d.setRxf n v).teus = d.teus := rfl
@[simp] theorem Dev.setRxf_saps (n : Nat) (v : RxFlow) : (d.setRxf n v).saps = d.saps := rfl
@[simp] theorem Dev.setRxf_drive (n : Nat) (v : RxFlow) : (d.setRxf n v).drive = d.drive := rfl
@[simp] theorem Dev.setRxf_sys (n : Nat) (v : RxFlow) : (d.setRxf n v).sys = d.sys := rfl

@[simp] theorem Dev.setTxf_regs (n : Nat) (v : TxFlow) : (d.setTxf n v).regs = d.regs := rfl
@[simp] theorem Dev.setTxf_resetN (n : Nat) (v : TxFlow) : (d.setTxf n v).resetN = d.resetN := rfl
@[simp] theorem Dev.setTxf_supplyOk (n : Nat) (v : TxFlow) : (d.setTxf n v).supplyOk = d.supplyOk := rfl
@[simp] theorem Dev.setTxf_freeCtr (n : Nat) (v : TxFlow) : (d.setTxf n v).freeCtr = d.freeCtr := rfl
@[simp] theorem Dev.setTxf_tick (n : Nat) (v : TxFlow) : (d.setTxf n v).tick = d.tick := rfl
@[simp] theorem Dev.setTxf_tickNum (n : Nat) (v : TxFlow) : (d.setTxf n v).tickNum = d.tickNum := rfl
@[simp] theorem Dev.setTxf_queues (n : Nat) (v : TxFlow) : (d.setTxf n v).queues = d.queues := rfl
@[simp] theorem Dev.setTxf_rake (n : Nat) (v : TxFlow) : (d.setTxf n v).rake = d.rake := rfl
@[simp] theorem Dev.setTxf_pool (n : Nat) (v : TxFlow) : (d.setTxf n v).pool = d.pool := rfl
@[simp] theorem Dev.setTxf_tlbs (n : Nat) (v : TxFlow) : (d.setTxf n v).tlbs = d.tlbs := rfl
@[simp] theorem Dev.setTxf_inv (n : Nat) (v : TxFlow) : (d.setTxf n v).inv = d.inv := rfl
@[simp] theorem Dev.setTxf_ctxs (n : Nat) (v : TxFlow) : (d.setTxf n v).ctxs = d.ctxs := rfl
@[simp] theorem Dev.setTxf_dmas (n : Nat) (v : TxFlow) : (d.setTxf n v).dmas = d.dmas := rfl
@[simp] theorem Dev.setTxf_icache (n : Nat) (v : TxFlow) : (d.setTxf n v).icache = d.icache := rfl
@[simp] theorem Dev.setTxf_badRows (n : Nat) (v : TxFlow) : (d.setTxf n v).badRows = d.badRows := rfl
@[simp] theorem Dev.setTxf_perf (n : Nat) (v : TxFlow) : (d.setTxf n v).perf = d.perf := rfl
@[simp] theorem Dev.setTxf_routePend (n : Nat) (v : TxFlow) : (d.setTxf n v).routePend = d.routePend := rfl
@[simp] theorem Dev.setTxf_routeFresh (n : Nat) (v : TxFlow) : (d.setTxf n v).routeFresh = d.routeFresh := rfl
@[simp] theorem Dev.setTxf_txOld (n : Nat) (v : TxFlow) : (d.setTxf n v).txOld = d.txOld := rfl
@[simp] theorem Dev.setTxf_envs (n : Nat) (v : TxFlow) : (d.setTxf n v).envs = d.envs := rfl
@[simp] theorem Dev.setTxf_time (n : Nat) (v : TxFlow) : (d.setTxf n v).time = d.time := rfl
@[simp] theorem Dev.setTxf_clk (n : Nat) (v : TxFlow) : (d.setTxf n v).clk = d.clk := rfl
@[simp] theorem Dev.setTxf_teus (n : Nat) (v : TxFlow) : (d.setTxf n v).teus = d.teus := rfl
@[simp] theorem Dev.setTxf_saps (n : Nat) (v : TxFlow) : (d.setTxf n v).saps = d.saps := rfl
@[simp] theorem Dev.setTxf_drive (n : Nat) (v : TxFlow) : (d.setTxf n v).drive = d.drive := rfl
@[simp] theorem Dev.setTxf_sys (n : Nat) (v : TxFlow) : (d.setTxf n v).sys = d.sys := rfl

@[simp] theorem Dev.setGang_regs (n : Nat) (v : Gang) : (d.setGang n v).regs = d.regs := rfl
@[simp] theorem Dev.setGang_resetN (n : Nat) (v : Gang) : (d.setGang n v).resetN = d.resetN := rfl
@[simp] theorem Dev.setGang_supplyOk (n : Nat) (v : Gang) : (d.setGang n v).supplyOk = d.supplyOk := rfl
@[simp] theorem Dev.setGang_freeCtr (n : Nat) (v : Gang) : (d.setGang n v).freeCtr = d.freeCtr := rfl
@[simp] theorem Dev.setGang_tick (n : Nat) (v : Gang) : (d.setGang n v).tick = d.tick := rfl
@[simp] theorem Dev.setGang_tickNum (n : Nat) (v : Gang) : (d.setGang n v).tickNum = d.tickNum := rfl
@[simp] theorem Dev.setGang_queues (n : Nat) (v : Gang) : (d.setGang n v).queues = d.queues := rfl
@[simp] theorem Dev.setGang_rake (n : Nat) (v : Gang) : (d.setGang n v).rake = d.rake := rfl
@[simp] theorem Dev.setGang_pool (n : Nat) (v : Gang) : (d.setGang n v).pool = d.pool := rfl
@[simp] theorem Dev.setGang_tlbs (n : Nat) (v : Gang) : (d.setGang n v).tlbs = d.tlbs := rfl
@[simp] theorem Dev.setGang_inv (n : Nat) (v : Gang) : (d.setGang n v).inv = d.inv := rfl
@[simp] theorem Dev.setGang_ctxs (n : Nat) (v : Gang) : (d.setGang n v).ctxs = d.ctxs := rfl
@[simp] theorem Dev.setGang_dmas (n : Nat) (v : Gang) : (d.setGang n v).dmas = d.dmas := rfl
@[simp] theorem Dev.setGang_icache (n : Nat) (v : Gang) : (d.setGang n v).icache = d.icache := rfl
@[simp] theorem Dev.setGang_badRows (n : Nat) (v : Gang) : (d.setGang n v).badRows = d.badRows := rfl
@[simp] theorem Dev.setGang_perf (n : Nat) (v : Gang) : (d.setGang n v).perf = d.perf := rfl
@[simp] theorem Dev.setGang_routePend (n : Nat) (v : Gang) : (d.setGang n v).routePend = d.routePend := rfl
@[simp] theorem Dev.setGang_routeFresh (n : Nat) (v : Gang) : (d.setGang n v).routeFresh = d.routeFresh := rfl
@[simp] theorem Dev.setGang_txOld (n : Nat) (v : Gang) : (d.setGang n v).txOld = d.txOld := rfl
@[simp] theorem Dev.setGang_envs (n : Nat) (v : Gang) : (d.setGang n v).envs = d.envs := rfl
@[simp] theorem Dev.setGang_time (n : Nat) (v : Gang) : (d.setGang n v).time = d.time := rfl
@[simp] theorem Dev.setGang_clk (n : Nat) (v : Gang) : (d.setGang n v).clk = d.clk := rfl
@[simp] theorem Dev.setGang_teus (n : Nat) (v : Gang) : (d.setGang n v).teus = d.teus := rfl
@[simp] theorem Dev.setGang_saps (n : Nat) (v : Gang) : (d.setGang n v).saps = d.saps := rfl
@[simp] theorem Dev.setGang_net (n : Nat) (v : Gang) : (d.setGang n v).net = d.net := rfl
@[simp] theorem Dev.setGang_sys (n : Nat) (v : Gang) : (d.setGang n v).sys = d.sys := rfl

@[simp] theorem Dev.setGroup_regs (n : Nat) (v : Group) : (d.setGroup n v).regs = d.regs := rfl
@[simp] theorem Dev.setGroup_resetN (n : Nat) (v : Group) : (d.setGroup n v).resetN = d.resetN := rfl
@[simp] theorem Dev.setGroup_supplyOk (n : Nat) (v : Group) : (d.setGroup n v).supplyOk = d.supplyOk := rfl
@[simp] theorem Dev.setGroup_freeCtr (n : Nat) (v : Group) : (d.setGroup n v).freeCtr = d.freeCtr := rfl
@[simp] theorem Dev.setGroup_tick (n : Nat) (v : Group) : (d.setGroup n v).tick = d.tick := rfl
@[simp] theorem Dev.setGroup_tickNum (n : Nat) (v : Group) : (d.setGroup n v).tickNum = d.tickNum := rfl
@[simp] theorem Dev.setGroup_queues (n : Nat) (v : Group) : (d.setGroup n v).queues = d.queues := rfl
@[simp] theorem Dev.setGroup_rake (n : Nat) (v : Group) : (d.setGroup n v).rake = d.rake := rfl
@[simp] theorem Dev.setGroup_pool (n : Nat) (v : Group) : (d.setGroup n v).pool = d.pool := rfl
@[simp] theorem Dev.setGroup_tlbs (n : Nat) (v : Group) : (d.setGroup n v).tlbs = d.tlbs := rfl
@[simp] theorem Dev.setGroup_inv (n : Nat) (v : Group) : (d.setGroup n v).inv = d.inv := rfl
@[simp] theorem Dev.setGroup_ctxs (n : Nat) (v : Group) : (d.setGroup n v).ctxs = d.ctxs := rfl
@[simp] theorem Dev.setGroup_dmas (n : Nat) (v : Group) : (d.setGroup n v).dmas = d.dmas := rfl
@[simp] theorem Dev.setGroup_icache (n : Nat) (v : Group) : (d.setGroup n v).icache = d.icache := rfl
@[simp] theorem Dev.setGroup_badRows (n : Nat) (v : Group) : (d.setGroup n v).badRows = d.badRows := rfl
@[simp] theorem Dev.setGroup_perf (n : Nat) (v : Group) : (d.setGroup n v).perf = d.perf := rfl
@[simp] theorem Dev.setGroup_routePend (n : Nat) (v : Group) : (d.setGroup n v).routePend = d.routePend := rfl
@[simp] theorem Dev.setGroup_routeFresh (n : Nat) (v : Group) : (d.setGroup n v).routeFresh = d.routeFresh := rfl
@[simp] theorem Dev.setGroup_txOld (n : Nat) (v : Group) : (d.setGroup n v).txOld = d.txOld := rfl
@[simp] theorem Dev.setGroup_envs (n : Nat) (v : Group) : (d.setGroup n v).envs = d.envs := rfl
@[simp] theorem Dev.setGroup_time (n : Nat) (v : Group) : (d.setGroup n v).time = d.time := rfl
@[simp] theorem Dev.setGroup_clk (n : Nat) (v : Group) : (d.setGroup n v).clk = d.clk := rfl
@[simp] theorem Dev.setGroup_teus (n : Nat) (v : Group) : (d.setGroup n v).teus = d.teus := rfl
@[simp] theorem Dev.setGroup_saps (n : Nat) (v : Group) : (d.setGroup n v).saps = d.saps := rfl
@[simp] theorem Dev.setGroup_net (n : Nat) (v : Group) : (d.setGroup n v).net = d.net := rfl
@[simp] theorem Dev.setGroup_sys (n : Nat) (v : Group) : (d.setGroup n v).sys = d.sys := rfl

@[simp] theorem Dev.setBst_regs (n : Nat) (v : Bst) : (d.setBst n v).regs = d.regs := rfl
@[simp] theorem Dev.setBst_resetN (n : Nat) (v : Bst) : (d.setBst n v).resetN = d.resetN := rfl
@[simp] theorem Dev.setBst_supplyOk (n : Nat) (v : Bst) : (d.setBst n v).supplyOk = d.supplyOk := rfl
@[simp] theorem Dev.setBst_freeCtr (n : Nat) (v : Bst) : (d.setBst n v).freeCtr = d.freeCtr := rfl
@[simp] theorem Dev.setBst_tick (n : Nat) (v : Bst) : (d.setBst n v).tick = d.tick := rfl
@[simp] theorem Dev.setBst_tickNum (n : Nat) (v : Bst) : (d.setBst n v).tickNum = d.tickNum := rfl
@[simp] theorem Dev.setBst_queues (n : Nat) (v : Bst) : (d.setBst n v).queues = d.queues := rfl
@[simp] theorem Dev.setBst_rake (n : Nat) (v : Bst) : (d.setBst n v).rake = d.rake := rfl
@[simp] theorem Dev.setBst_pool (n : Nat) (v : Bst) : (d.setBst n v).pool = d.pool := rfl
@[simp] theorem Dev.setBst_tlbs (n : Nat) (v : Bst) : (d.setBst n v).tlbs = d.tlbs := rfl
@[simp] theorem Dev.setBst_inv (n : Nat) (v : Bst) : (d.setBst n v).inv = d.inv := rfl
@[simp] theorem Dev.setBst_ctxs (n : Nat) (v : Bst) : (d.setBst n v).ctxs = d.ctxs := rfl
@[simp] theorem Dev.setBst_dmas (n : Nat) (v : Bst) : (d.setBst n v).dmas = d.dmas := rfl
@[simp] theorem Dev.setBst_icache (n : Nat) (v : Bst) : (d.setBst n v).icache = d.icache := rfl
@[simp] theorem Dev.setBst_badRows (n : Nat) (v : Bst) : (d.setBst n v).badRows = d.badRows := rfl
@[simp] theorem Dev.setBst_perf (n : Nat) (v : Bst) : (d.setBst n v).perf = d.perf := rfl
@[simp] theorem Dev.setBst_routePend (n : Nat) (v : Bst) : (d.setBst n v).routePend = d.routePend := rfl
@[simp] theorem Dev.setBst_routeFresh (n : Nat) (v : Bst) : (d.setBst n v).routeFresh = d.routeFresh := rfl
@[simp] theorem Dev.setBst_txOld (n : Nat) (v : Bst) : (d.setBst n v).txOld = d.txOld := rfl
@[simp] theorem Dev.setBst_envs (n : Nat) (v : Bst) : (d.setBst n v).envs = d.envs := rfl
@[simp] theorem Dev.setBst_time (n : Nat) (v : Bst) : (d.setBst n v).time = d.time := rfl
@[simp] theorem Dev.setBst_clk (n : Nat) (v : Bst) : (d.setBst n v).clk = d.clk := rfl
@[simp] theorem Dev.setBst_teus (n : Nat) (v : Bst) : (d.setBst n v).teus = d.teus := rfl
@[simp] theorem Dev.setBst_saps (n : Nat) (v : Bst) : (d.setBst n v).saps = d.saps := rfl
@[simp] theorem Dev.setBst_net (n : Nat) (v : Bst) : (d.setBst n v).net = d.net := rfl
@[simp] theorem Dev.setBst_sys (n : Nat) (v : Bst) : (d.setBst n v).sys = d.sys := rfl

@[simp] theorem Dev.modTwin_regs (h : Twin → Twin) : (d.modTwin h).regs = d.regs := rfl
@[simp] theorem Dev.modTwin_resetN (h : Twin → Twin) : (d.modTwin h).resetN = d.resetN := rfl
@[simp] theorem Dev.modTwin_supplyOk (h : Twin → Twin) : (d.modTwin h).supplyOk = d.supplyOk := rfl
@[simp] theorem Dev.modTwin_freeCtr (h : Twin → Twin) : (d.modTwin h).freeCtr = d.freeCtr := rfl
@[simp] theorem Dev.modTwin_tick (h : Twin → Twin) : (d.modTwin h).tick = d.tick := rfl
@[simp] theorem Dev.modTwin_tickNum (h : Twin → Twin) : (d.modTwin h).tickNum = d.tickNum := rfl
@[simp] theorem Dev.modTwin_queues (h : Twin → Twin) : (d.modTwin h).queues = d.queues := rfl
@[simp] theorem Dev.modTwin_rake (h : Twin → Twin) : (d.modTwin h).rake = d.rake := rfl
@[simp] theorem Dev.modTwin_pool (h : Twin → Twin) : (d.modTwin h).pool = d.pool := rfl
@[simp] theorem Dev.modTwin_tlbs (h : Twin → Twin) : (d.modTwin h).tlbs = d.tlbs := rfl
@[simp] theorem Dev.modTwin_inv (h : Twin → Twin) : (d.modTwin h).inv = d.inv := rfl
@[simp] theorem Dev.modTwin_ctxs (h : Twin → Twin) : (d.modTwin h).ctxs = d.ctxs := rfl
@[simp] theorem Dev.modTwin_dmas (h : Twin → Twin) : (d.modTwin h).dmas = d.dmas := rfl
@[simp] theorem Dev.modTwin_icache (h : Twin → Twin) : (d.modTwin h).icache = d.icache := rfl
@[simp] theorem Dev.modTwin_badRows (h : Twin → Twin) : (d.modTwin h).badRows = d.badRows := rfl
@[simp] theorem Dev.modTwin_perf (h : Twin → Twin) : (d.modTwin h).perf = d.perf := rfl
@[simp] theorem Dev.modTwin_routePend (h : Twin → Twin) : (d.modTwin h).routePend = d.routePend := rfl
@[simp] theorem Dev.modTwin_routeFresh (h : Twin → Twin) : (d.modTwin h).routeFresh = d.routeFresh := rfl
@[simp] theorem Dev.modTwin_txOld (h : Twin → Twin) : (d.modTwin h).txOld = d.txOld := rfl
@[simp] theorem Dev.modTwin_envs (h : Twin → Twin) : (d.modTwin h).envs = d.envs := rfl
@[simp] theorem Dev.modTwin_time (h : Twin → Twin) : (d.modTwin h).time = d.time := rfl
@[simp] theorem Dev.modTwin_clk (h : Twin → Twin) : (d.modTwin h).clk = d.clk := rfl
@[simp] theorem Dev.modTwin_teus (h : Twin → Twin) : (d.modTwin h).teus = d.teus := rfl
@[simp] theorem Dev.modTwin_saps (h : Twin → Twin) : (d.modTwin h).saps = d.saps := rfl
@[simp] theorem Dev.modTwin_drive (h : Twin → Twin) : (d.modTwin h).drive = d.drive := rfl
@[simp] theorem Dev.modTwin_net (h : Twin → Twin) : (d.modTwin h).net = d.net := rfl

@[simp] theorem Dev.modLam_regs (h : Lam → Lam) : (d.modLam h).regs = d.regs := rfl
@[simp] theorem Dev.modLam_resetN (h : Lam → Lam) : (d.modLam h).resetN = d.resetN := rfl
@[simp] theorem Dev.modLam_supplyOk (h : Lam → Lam) : (d.modLam h).supplyOk = d.supplyOk := rfl
@[simp] theorem Dev.modLam_freeCtr (h : Lam → Lam) : (d.modLam h).freeCtr = d.freeCtr := rfl
@[simp] theorem Dev.modLam_tick (h : Lam → Lam) : (d.modLam h).tick = d.tick := rfl
@[simp] theorem Dev.modLam_tickNum (h : Lam → Lam) : (d.modLam h).tickNum = d.tickNum := rfl
@[simp] theorem Dev.modLam_queues (h : Lam → Lam) : (d.modLam h).queues = d.queues := rfl
@[simp] theorem Dev.modLam_rake (h : Lam → Lam) : (d.modLam h).rake = d.rake := rfl
@[simp] theorem Dev.modLam_pool (h : Lam → Lam) : (d.modLam h).pool = d.pool := rfl
@[simp] theorem Dev.modLam_tlbs (h : Lam → Lam) : (d.modLam h).tlbs = d.tlbs := rfl
@[simp] theorem Dev.modLam_inv (h : Lam → Lam) : (d.modLam h).inv = d.inv := rfl
@[simp] theorem Dev.modLam_ctxs (h : Lam → Lam) : (d.modLam h).ctxs = d.ctxs := rfl
@[simp] theorem Dev.modLam_dmas (h : Lam → Lam) : (d.modLam h).dmas = d.dmas := rfl
@[simp] theorem Dev.modLam_icache (h : Lam → Lam) : (d.modLam h).icache = d.icache := rfl
@[simp] theorem Dev.modLam_badRows (h : Lam → Lam) : (d.modLam h).badRows = d.badRows := rfl
@[simp] theorem Dev.modLam_perf (h : Lam → Lam) : (d.modLam h).perf = d.perf := rfl
@[simp] theorem Dev.modLam_routePend (h : Lam → Lam) : (d.modLam h).routePend = d.routePend := rfl
@[simp] theorem Dev.modLam_routeFresh (h : Lam → Lam) : (d.modLam h).routeFresh = d.routeFresh := rfl
@[simp] theorem Dev.modLam_txOld (h : Lam → Lam) : (d.modLam h).txOld = d.txOld := rfl
@[simp] theorem Dev.modLam_envs (h : Lam → Lam) : (d.modLam h).envs = d.envs := rfl
@[simp] theorem Dev.modLam_time (h : Lam → Lam) : (d.modLam h).time = d.time := rfl
@[simp] theorem Dev.modLam_clk (h : Lam → Lam) : (d.modLam h).clk = d.clk := rfl
@[simp] theorem Dev.modLam_teus (h : Lam → Lam) : (d.modLam h).teus = d.teus := rfl
@[simp] theorem Dev.modLam_saps (h : Lam → Lam) : (d.modLam h).saps = d.saps := rfl
@[simp] theorem Dev.modLam_drive (h : Lam → Lam) : (d.modLam h).drive = d.drive := rfl
@[simp] theorem Dev.modLam_net (h : Lam → Lam) : (d.modLam h).net = d.net := rfl

@[simp] theorem Dev.modHost_regs (h : HostIf → HostIf) : (d.modHost h).regs = d.regs := rfl
@[simp] theorem Dev.modHost_resetN (h : HostIf → HostIf) : (d.modHost h).resetN = d.resetN := rfl
@[simp] theorem Dev.modHost_supplyOk (h : HostIf → HostIf) : (d.modHost h).supplyOk = d.supplyOk := rfl
@[simp] theorem Dev.modHost_freeCtr (h : HostIf → HostIf) : (d.modHost h).freeCtr = d.freeCtr := rfl
@[simp] theorem Dev.modHost_tick (h : HostIf → HostIf) : (d.modHost h).tick = d.tick := rfl
@[simp] theorem Dev.modHost_tickNum (h : HostIf → HostIf) : (d.modHost h).tickNum = d.tickNum := rfl
@[simp] theorem Dev.modHost_queues (h : HostIf → HostIf) : (d.modHost h).queues = d.queues := rfl
@[simp] theorem Dev.modHost_rake (h : HostIf → HostIf) : (d.modHost h).rake = d.rake := rfl
@[simp] theorem Dev.modHost_pool (h : HostIf → HostIf) : (d.modHost h).pool = d.pool := rfl
@[simp] theorem Dev.modHost_tlbs (h : HostIf → HostIf) : (d.modHost h).tlbs = d.tlbs := rfl
@[simp] theorem Dev.modHost_inv (h : HostIf → HostIf) : (d.modHost h).inv = d.inv := rfl
@[simp] theorem Dev.modHost_ctxs (h : HostIf → HostIf) : (d.modHost h).ctxs = d.ctxs := rfl
@[simp] theorem Dev.modHost_dmas (h : HostIf → HostIf) : (d.modHost h).dmas = d.dmas := rfl
@[simp] theorem Dev.modHost_icache (h : HostIf → HostIf) : (d.modHost h).icache = d.icache := rfl
@[simp] theorem Dev.modHost_badRows (h : HostIf → HostIf) : (d.modHost h).badRows = d.badRows := rfl
@[simp] theorem Dev.modHost_perf (h : HostIf → HostIf) : (d.modHost h).perf = d.perf := rfl
@[simp] theorem Dev.modHost_routePend (h : HostIf → HostIf) : (d.modHost h).routePend = d.routePend := rfl
@[simp] theorem Dev.modHost_routeFresh (h : HostIf → HostIf) : (d.modHost h).routeFresh = d.routeFresh := rfl
@[simp] theorem Dev.modHost_txOld (h : HostIf → HostIf) : (d.modHost h).txOld = d.txOld := rfl
@[simp] theorem Dev.modHost_envs (h : HostIf → HostIf) : (d.modHost h).envs = d.envs := rfl
@[simp] theorem Dev.modHost_time (h : HostIf → HostIf) : (d.modHost h).time = d.time := rfl
@[simp] theorem Dev.modHost_clk (h : HostIf → HostIf) : (d.modHost h).clk = d.clk := rfl
@[simp] theorem Dev.modHost_teus (h : HostIf → HostIf) : (d.modHost h).teus = d.teus := rfl
@[simp] theorem Dev.modHost_saps (h : HostIf → HostIf) : (d.modHost h).saps = d.saps := rfl
@[simp] theorem Dev.modHost_drive (h : HostIf → HostIf) : (d.modHost h).drive = d.drive := rfl
@[simp] theorem Dev.modHost_net (h : HostIf → HostIf) : (d.modHost h).net = d.net := rfl

@[simp] theorem Dev.modJtag_regs (h : Jtag → Jtag) : (d.modJtag h).regs = d.regs := rfl
@[simp] theorem Dev.modJtag_resetN (h : Jtag → Jtag) : (d.modJtag h).resetN = d.resetN := rfl
@[simp] theorem Dev.modJtag_supplyOk (h : Jtag → Jtag) : (d.modJtag h).supplyOk = d.supplyOk := rfl
@[simp] theorem Dev.modJtag_freeCtr (h : Jtag → Jtag) : (d.modJtag h).freeCtr = d.freeCtr := rfl
@[simp] theorem Dev.modJtag_tick (h : Jtag → Jtag) : (d.modJtag h).tick = d.tick := rfl
@[simp] theorem Dev.modJtag_tickNum (h : Jtag → Jtag) : (d.modJtag h).tickNum = d.tickNum := rfl
@[simp] theorem Dev.modJtag_queues (h : Jtag → Jtag) : (d.modJtag h).queues = d.queues := rfl
@[simp] theorem Dev.modJtag_rake (h : Jtag → Jtag) : (d.modJtag h).rake = d.rake := rfl
@[simp] theorem Dev.modJtag_pool (h : Jtag → Jtag) : (d.modJtag h).pool = d.pool := rfl
@[simp] theorem Dev.modJtag_tlbs (h : Jtag → Jtag) : (d.modJtag h).tlbs = d.tlbs := rfl
@[simp] theorem Dev.modJtag_inv (h : Jtag → Jtag) : (d.modJtag h).inv = d.inv := rfl
@[simp] theorem Dev.modJtag_ctxs (h : Jtag → Jtag) : (d.modJtag h).ctxs = d.ctxs := rfl
@[simp] theorem Dev.modJtag_dmas (h : Jtag → Jtag) : (d.modJtag h).dmas = d.dmas := rfl
@[simp] theorem Dev.modJtag_icache (h : Jtag → Jtag) : (d.modJtag h).icache = d.icache := rfl
@[simp] theorem Dev.modJtag_badRows (h : Jtag → Jtag) : (d.modJtag h).badRows = d.badRows := rfl
@[simp] theorem Dev.modJtag_perf (h : Jtag → Jtag) : (d.modJtag h).perf = d.perf := rfl
@[simp] theorem Dev.modJtag_routePend (h : Jtag → Jtag) : (d.modJtag h).routePend = d.routePend := rfl
@[simp] theorem Dev.modJtag_routeFresh (h : Jtag → Jtag) : (d.modJtag h).routeFresh = d.routeFresh := rfl
@[simp] theorem Dev.modJtag_txOld (h : Jtag → Jtag) : (d.modJtag h).txOld = d.txOld := rfl
@[simp] theorem Dev.modJtag_envs (h : Jtag → Jtag) : (d.modJtag h).envs = d.envs := rfl
@[simp] theorem Dev.modJtag_time (h : Jtag → Jtag) : (d.modJtag h).time = d.time := rfl
@[simp] theorem Dev.modJtag_clk (h : Jtag → Jtag) : (d.modJtag h).clk = d.clk := rfl
@[simp] theorem Dev.modJtag_teus (h : Jtag → Jtag) : (d.modJtag h).teus = d.teus := rfl
@[simp] theorem Dev.modJtag_saps (h : Jtag → Jtag) : (d.modJtag h).saps = d.saps := rfl
@[simp] theorem Dev.modJtag_drive (h : Jtag → Jtag) : (d.modJtag h).drive = d.drive := rfl
@[simp] theorem Dev.modJtag_net (h : Jtag → Jtag) : (d.modJtag h).net = d.net := rfl

@[simp] theorem Dev.setReq_regs (n : Nat) (v : Requester) : (d.setReq n v).regs = d.regs := rfl
@[simp] theorem Dev.setReq_resetN (n : Nat) (v : Requester) : (d.setReq n v).resetN = d.resetN := rfl
@[simp] theorem Dev.setReq_supplyOk (n : Nat) (v : Requester) : (d.setReq n v).supplyOk = d.supplyOk := rfl
@[simp] theorem Dev.setReq_freeCtr (n : Nat) (v : Requester) : (d.setReq n v).freeCtr = d.freeCtr := rfl
@[simp] theorem Dev.setReq_tick (n : Nat) (v : Requester) : (d.setReq n v).tick = d.tick := rfl
@[simp] theorem Dev.setReq_tickNum (n : Nat) (v : Requester) : (d.setReq n v).tickNum = d.tickNum := rfl
@[simp] theorem Dev.setReq_queues (n : Nat) (v : Requester) : (d.setReq n v).queues = d.queues := rfl
@[simp] theorem Dev.setReq_rake (n : Nat) (v : Requester) : (d.setReq n v).rake = d.rake := rfl
@[simp] theorem Dev.setReq_pool (n : Nat) (v : Requester) : (d.setReq n v).pool = d.pool := rfl
@[simp] theorem Dev.setReq_tlbs (n : Nat) (v : Requester) : (d.setReq n v).tlbs = d.tlbs := rfl
@[simp] theorem Dev.setReq_inv (n : Nat) (v : Requester) : (d.setReq n v).inv = d.inv := rfl
@[simp] theorem Dev.setReq_ctxs (n : Nat) (v : Requester) : (d.setReq n v).ctxs = d.ctxs := rfl
@[simp] theorem Dev.setReq_dmas (n : Nat) (v : Requester) : (d.setReq n v).dmas = d.dmas := rfl
@[simp] theorem Dev.setReq_icache (n : Nat) (v : Requester) : (d.setReq n v).icache = d.icache := rfl
@[simp] theorem Dev.setReq_badRows (n : Nat) (v : Requester) : (d.setReq n v).badRows = d.badRows := rfl
@[simp] theorem Dev.setReq_perf (n : Nat) (v : Requester) : (d.setReq n v).perf = d.perf := rfl
@[simp] theorem Dev.setReq_routePend (n : Nat) (v : Requester) : (d.setReq n v).routePend = d.routePend := rfl
@[simp] theorem Dev.setReq_routeFresh (n : Nat) (v : Requester) : (d.setReq n v).routeFresh = d.routeFresh := rfl
@[simp] theorem Dev.setReq_txOld (n : Nat) (v : Requester) : (d.setReq n v).txOld = d.txOld := rfl
@[simp] theorem Dev.setReq_envs (n : Nat) (v : Requester) : (d.setReq n v).envs = d.envs := rfl
@[simp] theorem Dev.setReq_time (n : Nat) (v : Requester) : (d.setReq n v).time = d.time := rfl
@[simp] theorem Dev.setReq_clk (n : Nat) (v : Requester) : (d.setReq n v).clk = d.clk := rfl
@[simp] theorem Dev.setReq_teus (n : Nat) (v : Requester) : (d.setReq n v).teus = d.teus := rfl
@[simp] theorem Dev.setReq_saps (n : Nat) (v : Requester) : (d.setReq n v).saps = d.saps := rfl
@[simp] theorem Dev.setReq_drive (n : Nat) (v : Requester) : (d.setReq n v).drive = d.drive := rfl
@[simp] theorem Dev.setReq_net (n : Nat) (v : Requester) : (d.setReq n v).net = d.net := rfl

@[simp] theorem Dev.setCell_regs (n : Nat) (v : CellMeta) : (d.setCell n v).regs = d.regs := rfl
@[simp] theorem Dev.setCell_resetN (n : Nat) (v : CellMeta) : (d.setCell n v).resetN = d.resetN := rfl
@[simp] theorem Dev.setCell_supplyOk (n : Nat) (v : CellMeta) : (d.setCell n v).supplyOk = d.supplyOk := rfl
@[simp] theorem Dev.setCell_freeCtr (n : Nat) (v : CellMeta) : (d.setCell n v).freeCtr = d.freeCtr := rfl
@[simp] theorem Dev.setCell_tick (n : Nat) (v : CellMeta) : (d.setCell n v).tick = d.tick := rfl
@[simp] theorem Dev.setCell_tickNum (n : Nat) (v : CellMeta) : (d.setCell n v).tickNum = d.tickNum := rfl
@[simp] theorem Dev.setCell_queues (n : Nat) (v : CellMeta) : (d.setCell n v).queues = d.queues := rfl
@[simp] theorem Dev.setCell_rake (n : Nat) (v : CellMeta) : (d.setCell n v).rake = d.rake := rfl
@[simp] theorem Dev.setCell_tlbs (n : Nat) (v : CellMeta) : (d.setCell n v).tlbs = d.tlbs := rfl
@[simp] theorem Dev.setCell_inv (n : Nat) (v : CellMeta) : (d.setCell n v).inv = d.inv := rfl
@[simp] theorem Dev.setCell_ctxs (n : Nat) (v : CellMeta) : (d.setCell n v).ctxs = d.ctxs := rfl
@[simp] theorem Dev.setCell_dmas (n : Nat) (v : CellMeta) : (d.setCell n v).dmas = d.dmas := rfl
@[simp] theorem Dev.setCell_icache (n : Nat) (v : CellMeta) : (d.setCell n v).icache = d.icache := rfl
@[simp] theorem Dev.setCell_badRows (n : Nat) (v : CellMeta) : (d.setCell n v).badRows = d.badRows := rfl
@[simp] theorem Dev.setCell_perf (n : Nat) (v : CellMeta) : (d.setCell n v).perf = d.perf := rfl
@[simp] theorem Dev.setCell_routePend (n : Nat) (v : CellMeta) : (d.setCell n v).routePend = d.routePend := rfl
@[simp] theorem Dev.setCell_routeFresh (n : Nat) (v : CellMeta) : (d.setCell n v).routeFresh = d.routeFresh := rfl
@[simp] theorem Dev.setCell_txOld (n : Nat) (v : CellMeta) : (d.setCell n v).txOld = d.txOld := rfl
@[simp] theorem Dev.setCell_envs (n : Nat) (v : CellMeta) : (d.setCell n v).envs = d.envs := rfl
@[simp] theorem Dev.setCell_time (n : Nat) (v : CellMeta) : (d.setCell n v).time = d.time := rfl
@[simp] theorem Dev.setCell_clk (n : Nat) (v : CellMeta) : (d.setCell n v).clk = d.clk := rfl
@[simp] theorem Dev.setCell_teus (n : Nat) (v : CellMeta) : (d.setCell n v).teus = d.teus := rfl
@[simp] theorem Dev.setCell_saps (n : Nat) (v : CellMeta) : (d.setCell n v).saps = d.saps := rfl
@[simp] theorem Dev.setCell_drive (n : Nat) (v : CellMeta) : (d.setCell n v).drive = d.drive := rfl
@[simp] theorem Dev.setCell_net (n : Nat) (v : CellMeta) : (d.setCell n v).net = d.net := rfl
@[simp] theorem Dev.setCell_sys (n : Nat) (v : CellMeta) : (d.setCell n v).sys = d.sys := rfl

@[simp] theorem Dev.modTime_regs (h : TimeSt → TimeSt) : (d.modTime h).regs = d.regs := rfl
@[simp] theorem Dev.modTime_resetN (h : TimeSt → TimeSt) : (d.modTime h).resetN = d.resetN := rfl
@[simp] theorem Dev.modTime_supplyOk (h : TimeSt → TimeSt) : (d.modTime h).supplyOk = d.supplyOk := rfl
@[simp] theorem Dev.modTime_freeCtr (h : TimeSt → TimeSt) : (d.modTime h).freeCtr = d.freeCtr := rfl
@[simp] theorem Dev.modTime_tick (h : TimeSt → TimeSt) : (d.modTime h).tick = d.tick := rfl
@[simp] theorem Dev.modTime_tickNum (h : TimeSt → TimeSt) : (d.modTime h).tickNum = d.tickNum := rfl
@[simp] theorem Dev.modTime_queues (h : TimeSt → TimeSt) : (d.modTime h).queues = d.queues := rfl
@[simp] theorem Dev.modTime_rake (h : TimeSt → TimeSt) : (d.modTime h).rake = d.rake := rfl
@[simp] theorem Dev.modTime_pool (h : TimeSt → TimeSt) : (d.modTime h).pool = d.pool := rfl
@[simp] theorem Dev.modTime_tlbs (h : TimeSt → TimeSt) : (d.modTime h).tlbs = d.tlbs := rfl
@[simp] theorem Dev.modTime_inv (h : TimeSt → TimeSt) : (d.modTime h).inv = d.inv := rfl
@[simp] theorem Dev.modTime_ctxs (h : TimeSt → TimeSt) : (d.modTime h).ctxs = d.ctxs := rfl
@[simp] theorem Dev.modTime_dmas (h : TimeSt → TimeSt) : (d.modTime h).dmas = d.dmas := rfl
@[simp] theorem Dev.modTime_icache (h : TimeSt → TimeSt) : (d.modTime h).icache = d.icache := rfl
@[simp] theorem Dev.modTime_badRows (h : TimeSt → TimeSt) : (d.modTime h).badRows = d.badRows := rfl
@[simp] theorem Dev.modTime_perf (h : TimeSt → TimeSt) : (d.modTime h).perf = d.perf := rfl
@[simp] theorem Dev.modTime_routePend (h : TimeSt → TimeSt) : (d.modTime h).routePend = d.routePend := rfl
@[simp] theorem Dev.modTime_routeFresh (h : TimeSt → TimeSt) : (d.modTime h).routeFresh = d.routeFresh := rfl
@[simp] theorem Dev.modTime_txOld (h : TimeSt → TimeSt) : (d.modTime h).txOld = d.txOld := rfl
@[simp] theorem Dev.modTime_envs (h : TimeSt → TimeSt) : (d.modTime h).envs = d.envs := rfl
@[simp] theorem Dev.modTime_clk (h : TimeSt → TimeSt) : (d.modTime h).clk = d.clk := rfl
@[simp] theorem Dev.modTime_teus (h : TimeSt → TimeSt) : (d.modTime h).teus = d.teus := rfl
@[simp] theorem Dev.modTime_saps (h : TimeSt → TimeSt) : (d.modTime h).saps = d.saps := rfl
@[simp] theorem Dev.modTime_drive (h : TimeSt → TimeSt) : (d.modTime h).drive = d.drive := rfl
@[simp] theorem Dev.modTime_net (h : TimeSt → TimeSt) : (d.modTime h).net = d.net := rfl
@[simp] theorem Dev.modTime_sys (h : TimeSt → TimeSt) : (d.modTime h).sys = d.sys := rfl

@[simp] theorem Dev.modClk_regs (h : ClkSt → ClkSt) : (d.modClk h).regs = d.regs := rfl
@[simp] theorem Dev.modClk_resetN (h : ClkSt → ClkSt) : (d.modClk h).resetN = d.resetN := rfl
@[simp] theorem Dev.modClk_supplyOk (h : ClkSt → ClkSt) : (d.modClk h).supplyOk = d.supplyOk := rfl
@[simp] theorem Dev.modClk_freeCtr (h : ClkSt → ClkSt) : (d.modClk h).freeCtr = d.freeCtr := rfl
@[simp] theorem Dev.modClk_tick (h : ClkSt → ClkSt) : (d.modClk h).tick = d.tick := rfl
@[simp] theorem Dev.modClk_tickNum (h : ClkSt → ClkSt) : (d.modClk h).tickNum = d.tickNum := rfl
@[simp] theorem Dev.modClk_queues (h : ClkSt → ClkSt) : (d.modClk h).queues = d.queues := rfl
@[simp] theorem Dev.modClk_rake (h : ClkSt → ClkSt) : (d.modClk h).rake = d.rake := rfl
@[simp] theorem Dev.modClk_pool (h : ClkSt → ClkSt) : (d.modClk h).pool = d.pool := rfl
@[simp] theorem Dev.modClk_tlbs (h : ClkSt → ClkSt) : (d.modClk h).tlbs = d.tlbs := rfl
@[simp] theorem Dev.modClk_inv (h : ClkSt → ClkSt) : (d.modClk h).inv = d.inv := rfl
@[simp] theorem Dev.modClk_ctxs (h : ClkSt → ClkSt) : (d.modClk h).ctxs = d.ctxs := rfl
@[simp] theorem Dev.modClk_dmas (h : ClkSt → ClkSt) : (d.modClk h).dmas = d.dmas := rfl
@[simp] theorem Dev.modClk_icache (h : ClkSt → ClkSt) : (d.modClk h).icache = d.icache := rfl
@[simp] theorem Dev.modClk_badRows (h : ClkSt → ClkSt) : (d.modClk h).badRows = d.badRows := rfl
@[simp] theorem Dev.modClk_perf (h : ClkSt → ClkSt) : (d.modClk h).perf = d.perf := rfl
@[simp] theorem Dev.modClk_routePend (h : ClkSt → ClkSt) : (d.modClk h).routePend = d.routePend := rfl
@[simp] theorem Dev.modClk_routeFresh (h : ClkSt → ClkSt) : (d.modClk h).routeFresh = d.routeFresh := rfl
@[simp] theorem Dev.modClk_txOld (h : ClkSt → ClkSt) : (d.modClk h).txOld = d.txOld := rfl
@[simp] theorem Dev.modClk_envs (h : ClkSt → ClkSt) : (d.modClk h).envs = d.envs := rfl
@[simp] theorem Dev.modClk_time (h : ClkSt → ClkSt) : (d.modClk h).time = d.time := rfl
@[simp] theorem Dev.modClk_teus (h : ClkSt → ClkSt) : (d.modClk h).teus = d.teus := rfl
@[simp] theorem Dev.modClk_saps (h : ClkSt → ClkSt) : (d.modClk h).saps = d.saps := rfl
@[simp] theorem Dev.modClk_drive (h : ClkSt → ClkSt) : (d.modClk h).drive = d.drive := rfl
@[simp] theorem Dev.modClk_net (h : ClkSt → ClkSt) : (d.modClk h).net = d.net := rfl
@[simp] theorem Dev.modClk_sys (h : ClkSt → ClkSt) : (d.modClk h).sys = d.sys := rfl

@[simp] theorem Dev.wr_at_q (f : Fld) (v : Nat) (m : Nat) : (d.wr f v).q m = d.q m := rfl
@[simp] theorem Dev.wr_at_ctx (f : Fld) (v : Nat) (m : Nat) : (d.wr f v).ctx m = d.ctx m := rfl
@[simp] theorem Dev.wr_at_dma (f : Fld) (v : Nat) (m : Nat) : (d.wr f v).dma m = d.dma m := rfl
@[simp] theorem Dev.wr_at_tlb (f : Fld) (v : Nat) (m : Nat) : (d.wr f v).tlb m = d.tlb m := rfl
@[simp] theorem Dev.wr_at_lines (f : Fld) (v : Nat) (m : Nat) : (d.wr f v).lines m = d.lines m := rfl
@[simp] theorem Dev.wr_at_pendOf (f : Fld) (v : Nat) (m : Nat) : (d.wr f v).pendOf m = d.pendOf m := rfl
@[simp] theorem Dev.wr_at_firstTake (f : Fld) (v : Nat) (m : Nat) : (d.wr f v).firstTake m = d.firstTake m := rfl
@[simp] theorem Dev.wr_at_teu (f : Fld) (v : Nat) (m : Nat) : (d.wr f v).teu m = d.teu m := rfl
@[simp] theorem Dev.wr_at_oldBind (f : Fld) (v : Nat) (m : Nat) : (d.wr f v).oldBind m = d.oldBind m := rfl
@[simp] theorem Dev.wr_at_sap (f : Fld) (v : Nat) (m : Nat) : (d.wr f v).sap m = d.sap m := rfl
@[simp] theorem Dev.wr_at_mac (f : Fld) (v : Nat) (m : Nat) : (d.wr f v).mac m = d.mac m := rfl
@[simp] theorem Dev.wr_at_rxf (f : Fld) (v : Nat) (m : Nat) : (d.wr f v).rxf m = d.rxf m := rfl
@[simp] theorem Dev.wr_at_txf (f : Fld) (v : Nat) (m : Nat) : (d.wr f v).txf m = d.txf m := rfl
@[simp] theorem Dev.wr_at_gang (f : Fld) (v : Nat) (m : Nat) : (d.wr f v).gang m = d.gang m := rfl
@[simp] theorem Dev.wr_at_group (f : Fld) (v : Nat) (m : Nat) : (d.wr f v).group m = d.group m := rfl
@[simp] theorem Dev.wr_at_bst (f : Fld) (v : Nat) (m : Nat) : (d.wr f v).bst m = d.bst m := rfl
@[simp] theorem Dev.wr_at_req (f : Fld) (v : Nat) (m : Nat) : (d.wr f v).req m = d.req m := rfl
@[simp] theorem Dev.wr_at_cell (f : Fld) (v : Nat) (m : Nat) : (d.wr f v).cell m = d.cell m := rfl

@[simp] theorem Dev.setQ_at_rd (n : Nat) (v : Queue) (g : Fld) : (d.setQ n v).rd g = d.rd g := rfl
@[simp] theorem Dev.setQ_at_ctx (n : Nat) (v : Queue) (m : Nat) : (d.setQ n v).ctx m = d.ctx m := rfl
@[simp] theorem Dev.setQ_at_dma (n : Nat) (v : Queue) (m : Nat) : (d.setQ n v).dma m = d.dma m := rfl
@[simp] theorem Dev.setQ_at_tlb (n : Nat) (v : Queue) (m : Nat) : (d.setQ n v).tlb m = d.tlb m := rfl
@[simp] theorem Dev.setQ_at_lines (n : Nat) (v : Queue) (m : Nat) : (d.setQ n v).lines m = d.lines m := rfl
@[simp] theorem Dev.setQ_at_pendOf (n : Nat) (v : Queue) (m : Nat) : (d.setQ n v).pendOf m = d.pendOf m := rfl
@[simp] theorem Dev.setQ_at_firstTake (n : Nat) (v : Queue) (m : Nat) : (d.setQ n v).firstTake m = d.firstTake m := rfl
@[simp] theorem Dev.setQ_at_teu (n : Nat) (v : Queue) (m : Nat) : (d.setQ n v).teu m = d.teu m := rfl
@[simp] theorem Dev.setQ_at_oldBind (n : Nat) (v : Queue) (m : Nat) : (d.setQ n v).oldBind m = d.oldBind m := rfl
@[simp] theorem Dev.setQ_at_sap (n : Nat) (v : Queue) (m : Nat) : (d.setQ n v).sap m = d.sap m := rfl
@[simp] theorem Dev.setQ_at_mac (n : Nat) (v : Queue) (m : Nat) : (d.setQ n v).mac m = d.mac m := rfl
@[simp] theorem Dev.setQ_at_rxf (n : Nat) (v : Queue) (m : Nat) : (d.setQ n v).rxf m = d.rxf m := rfl
@[simp] theorem Dev.setQ_at_txf (n : Nat) (v : Queue) (m : Nat) : (d.setQ n v).txf m = d.txf m := rfl
@[simp] theorem Dev.setQ_at_gang (n : Nat) (v : Queue) (m : Nat) : (d.setQ n v).gang m = d.gang m := rfl
@[simp] theorem Dev.setQ_at_group (n : Nat) (v : Queue) (m : Nat) : (d.setQ n v).group m = d.group m := rfl
@[simp] theorem Dev.setQ_at_bst (n : Nat) (v : Queue) (m : Nat) : (d.setQ n v).bst m = d.bst m := rfl
@[simp] theorem Dev.setQ_at_req (n : Nat) (v : Queue) (m : Nat) : (d.setQ n v).req m = d.req m := rfl
@[simp] theorem Dev.setQ_at_cell (n : Nat) (v : Queue) (m : Nat) : (d.setQ n v).cell m = d.cell m := rfl

@[simp] theorem Dev.setCtx_at_rd (n : Nat) (v : Ctx) (g : Fld) : (d.setCtx n v).rd g = d.rd g := rfl
@[simp] theorem Dev.setCtx_at_q (n : Nat) (v : Ctx) (m : Nat) : (d.setCtx n v).q m = d.q m := rfl
@[simp] theorem Dev.setCtx_at_dma (n : Nat) (v : Ctx) (m : Nat) : (d.setCtx n v).dma m = d.dma m := rfl
@[simp] theorem Dev.setCtx_at_tlb (n : Nat) (v : Ctx) (m : Nat) : (d.setCtx n v).tlb m = d.tlb m := rfl
@[simp] theorem Dev.setCtx_at_lines (n : Nat) (v : Ctx) (m : Nat) : (d.setCtx n v).lines m = d.lines m := rfl
@[simp] theorem Dev.setCtx_at_pendOf (n : Nat) (v : Ctx) (m : Nat) : (d.setCtx n v).pendOf m = d.pendOf m := rfl
@[simp] theorem Dev.setCtx_at_firstTake (n : Nat) (v : Ctx) (m : Nat) : (d.setCtx n v).firstTake m = d.firstTake m := rfl
@[simp] theorem Dev.setCtx_at_teu (n : Nat) (v : Ctx) (m : Nat) : (d.setCtx n v).teu m = d.teu m := rfl
@[simp] theorem Dev.setCtx_at_oldBind (n : Nat) (v : Ctx) (m : Nat) : (d.setCtx n v).oldBind m = d.oldBind m := rfl
@[simp] theorem Dev.setCtx_at_sap (n : Nat) (v : Ctx) (m : Nat) : (d.setCtx n v).sap m = d.sap m := rfl
@[simp] theorem Dev.setCtx_at_mac (n : Nat) (v : Ctx) (m : Nat) : (d.setCtx n v).mac m = d.mac m := rfl
@[simp] theorem Dev.setCtx_at_rxf (n : Nat) (v : Ctx) (m : Nat) : (d.setCtx n v).rxf m = d.rxf m := rfl
@[simp] theorem Dev.setCtx_at_txf (n : Nat) (v : Ctx) (m : Nat) : (d.setCtx n v).txf m = d.txf m := rfl
@[simp] theorem Dev.setCtx_at_gang (n : Nat) (v : Ctx) (m : Nat) : (d.setCtx n v).gang m = d.gang m := rfl
@[simp] theorem Dev.setCtx_at_group (n : Nat) (v : Ctx) (m : Nat) : (d.setCtx n v).group m = d.group m := rfl
@[simp] theorem Dev.setCtx_at_bst (n : Nat) (v : Ctx) (m : Nat) : (d.setCtx n v).bst m = d.bst m := rfl
@[simp] theorem Dev.setCtx_at_req (n : Nat) (v : Ctx) (m : Nat) : (d.setCtx n v).req m = d.req m := rfl
@[simp] theorem Dev.setCtx_at_cell (n : Nat) (v : Ctx) (m : Nat) : (d.setCtx n v).cell m = d.cell m := rfl

@[simp] theorem Dev.setDma_at_rd (n : Nat) (v : Dma) (g : Fld) : (d.setDma n v).rd g = d.rd g := rfl
@[simp] theorem Dev.setDma_at_q (n : Nat) (v : Dma) (m : Nat) : (d.setDma n v).q m = d.q m := rfl
@[simp] theorem Dev.setDma_at_ctx (n : Nat) (v : Dma) (m : Nat) : (d.setDma n v).ctx m = d.ctx m := rfl
@[simp] theorem Dev.setDma_at_tlb (n : Nat) (v : Dma) (m : Nat) : (d.setDma n v).tlb m = d.tlb m := rfl
@[simp] theorem Dev.setDma_at_lines (n : Nat) (v : Dma) (m : Nat) : (d.setDma n v).lines m = d.lines m := rfl
@[simp] theorem Dev.setDma_at_pendOf (n : Nat) (v : Dma) (m : Nat) : (d.setDma n v).pendOf m = d.pendOf m := rfl
@[simp] theorem Dev.setDma_at_firstTake (n : Nat) (v : Dma) (m : Nat) : (d.setDma n v).firstTake m = d.firstTake m := rfl
@[simp] theorem Dev.setDma_at_teu (n : Nat) (v : Dma) (m : Nat) : (d.setDma n v).teu m = d.teu m := rfl
@[simp] theorem Dev.setDma_at_oldBind (n : Nat) (v : Dma) (m : Nat) : (d.setDma n v).oldBind m = d.oldBind m := rfl
@[simp] theorem Dev.setDma_at_sap (n : Nat) (v : Dma) (m : Nat) : (d.setDma n v).sap m = d.sap m := rfl
@[simp] theorem Dev.setDma_at_mac (n : Nat) (v : Dma) (m : Nat) : (d.setDma n v).mac m = d.mac m := rfl
@[simp] theorem Dev.setDma_at_rxf (n : Nat) (v : Dma) (m : Nat) : (d.setDma n v).rxf m = d.rxf m := rfl
@[simp] theorem Dev.setDma_at_txf (n : Nat) (v : Dma) (m : Nat) : (d.setDma n v).txf m = d.txf m := rfl
@[simp] theorem Dev.setDma_at_gang (n : Nat) (v : Dma) (m : Nat) : (d.setDma n v).gang m = d.gang m := rfl
@[simp] theorem Dev.setDma_at_group (n : Nat) (v : Dma) (m : Nat) : (d.setDma n v).group m = d.group m := rfl
@[simp] theorem Dev.setDma_at_bst (n : Nat) (v : Dma) (m : Nat) : (d.setDma n v).bst m = d.bst m := rfl
@[simp] theorem Dev.setDma_at_req (n : Nat) (v : Dma) (m : Nat) : (d.setDma n v).req m = d.req m := rfl
@[simp] theorem Dev.setDma_at_cell (n : Nat) (v : Dma) (m : Nat) : (d.setDma n v).cell m = d.cell m := rfl

@[simp] theorem Dev.setTlb_at_rd (n : Nat) (v : List TlbEntry) (g : Fld) : (d.setTlb n v).rd g = d.rd g := rfl
@[simp] theorem Dev.setTlb_at_q (n : Nat) (v : List TlbEntry) (m : Nat) : (d.setTlb n v).q m = d.q m := rfl
@[simp] theorem Dev.setTlb_at_ctx (n : Nat) (v : List TlbEntry) (m : Nat) : (d.setTlb n v).ctx m = d.ctx m := rfl
@[simp] theorem Dev.setTlb_at_dma (n : Nat) (v : List TlbEntry) (m : Nat) : (d.setTlb n v).dma m = d.dma m := rfl
@[simp] theorem Dev.setTlb_at_lines (n : Nat) (v : List TlbEntry) (m : Nat) : (d.setTlb n v).lines m = d.lines m := rfl
@[simp] theorem Dev.setTlb_at_pendOf (n : Nat) (v : List TlbEntry) (m : Nat) : (d.setTlb n v).pendOf m = d.pendOf m := rfl
@[simp] theorem Dev.setTlb_at_firstTake (n : Nat) (v : List TlbEntry) (m : Nat) : (d.setTlb n v).firstTake m = d.firstTake m := rfl
@[simp] theorem Dev.setTlb_at_teu (n : Nat) (v : List TlbEntry) (m : Nat) : (d.setTlb n v).teu m = d.teu m := rfl
@[simp] theorem Dev.setTlb_at_oldBind (n : Nat) (v : List TlbEntry) (m : Nat) : (d.setTlb n v).oldBind m = d.oldBind m := rfl
@[simp] theorem Dev.setTlb_at_sap (n : Nat) (v : List TlbEntry) (m : Nat) : (d.setTlb n v).sap m = d.sap m := rfl
@[simp] theorem Dev.setTlb_at_mac (n : Nat) (v : List TlbEntry) (m : Nat) : (d.setTlb n v).mac m = d.mac m := rfl
@[simp] theorem Dev.setTlb_at_rxf (n : Nat) (v : List TlbEntry) (m : Nat) : (d.setTlb n v).rxf m = d.rxf m := rfl
@[simp] theorem Dev.setTlb_at_txf (n : Nat) (v : List TlbEntry) (m : Nat) : (d.setTlb n v).txf m = d.txf m := rfl
@[simp] theorem Dev.setTlb_at_gang (n : Nat) (v : List TlbEntry) (m : Nat) : (d.setTlb n v).gang m = d.gang m := rfl
@[simp] theorem Dev.setTlb_at_group (n : Nat) (v : List TlbEntry) (m : Nat) : (d.setTlb n v).group m = d.group m := rfl
@[simp] theorem Dev.setTlb_at_bst (n : Nat) (v : List TlbEntry) (m : Nat) : (d.setTlb n v).bst m = d.bst m := rfl
@[simp] theorem Dev.setTlb_at_req (n : Nat) (v : List TlbEntry) (m : Nat) : (d.setTlb n v).req m = d.req m := rfl
@[simp] theorem Dev.setTlb_at_cell (n : Nat) (v : List TlbEntry) (m : Nat) : (d.setTlb n v).cell m = d.cell m := rfl

@[simp] theorem Dev.setLines_at_rd (n : Nat) (v : List (Nat × Nat)) (g : Fld) : (d.setLines n v).rd g = d.rd g := rfl
@[simp] theorem Dev.setLines_at_q (n : Nat) (v : List (Nat × Nat)) (m : Nat) : (d.setLines n v).q m = d.q m := rfl
@[simp] theorem Dev.setLines_at_ctx (n : Nat) (v : List (Nat × Nat)) (m : Nat) : (d.setLines n v).ctx m = d.ctx m := rfl
@[simp] theorem Dev.setLines_at_dma (n : Nat) (v : List (Nat × Nat)) (m : Nat) : (d.setLines n v).dma m = d.dma m := rfl
@[simp] theorem Dev.setLines_at_tlb (n : Nat) (v : List (Nat × Nat)) (m : Nat) : (d.setLines n v).tlb m = d.tlb m := rfl
@[simp] theorem Dev.setLines_at_pendOf (n : Nat) (v : List (Nat × Nat)) (m : Nat) : (d.setLines n v).pendOf m = d.pendOf m := rfl
@[simp] theorem Dev.setLines_at_firstTake (n : Nat) (v : List (Nat × Nat)) (m : Nat) : (d.setLines n v).firstTake m = d.firstTake m := rfl
@[simp] theorem Dev.setLines_at_teu (n : Nat) (v : List (Nat × Nat)) (m : Nat) : (d.setLines n v).teu m = d.teu m := rfl
@[simp] theorem Dev.setLines_at_oldBind (n : Nat) (v : List (Nat × Nat)) (m : Nat) : (d.setLines n v).oldBind m = d.oldBind m := rfl
@[simp] theorem Dev.setLines_at_sap (n : Nat) (v : List (Nat × Nat)) (m : Nat) : (d.setLines n v).sap m = d.sap m := rfl
@[simp] theorem Dev.setLines_at_mac (n : Nat) (v : List (Nat × Nat)) (m : Nat) : (d.setLines n v).mac m = d.mac m := rfl
@[simp] theorem Dev.setLines_at_rxf (n : Nat) (v : List (Nat × Nat)) (m : Nat) : (d.setLines n v).rxf m = d.rxf m := rfl
@[simp] theorem Dev.setLines_at_txf (n : Nat) (v : List (Nat × Nat)) (m : Nat) : (d.setLines n v).txf m = d.txf m := rfl
@[simp] theorem Dev.setLines_at_gang (n : Nat) (v : List (Nat × Nat)) (m : Nat) : (d.setLines n v).gang m = d.gang m := rfl
@[simp] theorem Dev.setLines_at_group (n : Nat) (v : List (Nat × Nat)) (m : Nat) : (d.setLines n v).group m = d.group m := rfl
@[simp] theorem Dev.setLines_at_bst (n : Nat) (v : List (Nat × Nat)) (m : Nat) : (d.setLines n v).bst m = d.bst m := rfl
@[simp] theorem Dev.setLines_at_req (n : Nat) (v : List (Nat × Nat)) (m : Nat) : (d.setLines n v).req m = d.req m := rfl
@[simp] theorem Dev.setLines_at_cell (n : Nat) (v : List (Nat × Nat)) (m : Nat) : (d.setLines n v).cell m = d.cell m := rfl

@[simp] theorem Dev.setPend_at_rd (n : Nat) (v : Option RoutePend) (g : Fld) : (d.setPend n v).rd g = d.rd g := rfl
@[simp] theorem Dev.setPend_at_q (n : Nat) (v : Option RoutePend) (m : Nat) : (d.setPend n v).q m = d.q m := rfl
@[simp] theorem Dev.setPend_at_ctx (n : Nat) (v : Option RoutePend) (m : Nat) : (d.setPend n v).ctx m = d.ctx m := rfl
@[simp] theorem Dev.setPend_at_dma (n : Nat) (v : Option RoutePend) (m : Nat) : (d.setPend n v).dma m = d.dma m := rfl
@[simp] theorem Dev.setPend_at_tlb (n : Nat) (v : Option RoutePend) (m : Nat) : (d.setPend n v).tlb m = d.tlb m := rfl
@[simp] theorem Dev.setPend_at_lines (n : Nat) (v : Option RoutePend) (m : Nat) : (d.setPend n v).lines m = d.lines m := rfl
@[simp] theorem Dev.setPend_at_firstTake (n : Nat) (v : Option RoutePend) (m : Nat) : (d.setPend n v).firstTake m = d.firstTake m := rfl
@[simp] theorem Dev.setPend_at_teu (n : Nat) (v : Option RoutePend) (m : Nat) : (d.setPend n v).teu m = d.teu m := rfl
@[simp] theorem Dev.setPend_at_oldBind (n : Nat) (v : Option RoutePend) (m : Nat) : (d.setPend n v).oldBind m = d.oldBind m := rfl
@[simp] theorem Dev.setPend_at_sap (n : Nat) (v : Option RoutePend) (m : Nat) : (d.setPend n v).sap m = d.sap m := rfl
@[simp] theorem Dev.setPend_at_mac (n : Nat) (v : Option RoutePend) (m : Nat) : (d.setPend n v).mac m = d.mac m := rfl
@[simp] theorem Dev.setPend_at_rxf (n : Nat) (v : Option RoutePend) (m : Nat) : (d.setPend n v).rxf m = d.rxf m := rfl
@[simp] theorem Dev.setPend_at_txf (n : Nat) (v : Option RoutePend) (m : Nat) : (d.setPend n v).txf m = d.txf m := rfl
@[simp] theorem Dev.setPend_at_gang (n : Nat) (v : Option RoutePend) (m : Nat) : (d.setPend n v).gang m = d.gang m := rfl
@[simp] theorem Dev.setPend_at_group (n : Nat) (v : Option RoutePend) (m : Nat) : (d.setPend n v).group m = d.group m := rfl
@[simp] theorem Dev.setPend_at_bst (n : Nat) (v : Option RoutePend) (m : Nat) : (d.setPend n v).bst m = d.bst m := rfl
@[simp] theorem Dev.setPend_at_req (n : Nat) (v : Option RoutePend) (m : Nat) : (d.setPend n v).req m = d.req m := rfl
@[simp] theorem Dev.setPend_at_cell (n : Nat) (v : Option RoutePend) (m : Nat) : (d.setPend n v).cell m = d.cell m := rfl

@[simp] theorem Dev.setFirstTake_at_rd (n : Nat) (v : Bool) (g : Fld) : (d.setFirstTake n v).rd g = d.rd g := rfl
@[simp] theorem Dev.setFirstTake_at_q (n : Nat) (v : Bool) (m : Nat) : (d.setFirstTake n v).q m = d.q m := rfl
@[simp] theorem Dev.setFirstTake_at_ctx (n : Nat) (v : Bool) (m : Nat) : (d.setFirstTake n v).ctx m = d.ctx m := rfl
@[simp] theorem Dev.setFirstTake_at_dma (n : Nat) (v : Bool) (m : Nat) : (d.setFirstTake n v).dma m = d.dma m := rfl
@[simp] theorem Dev.setFirstTake_at_tlb (n : Nat) (v : Bool) (m : Nat) : (d.setFirstTake n v).tlb m = d.tlb m := rfl
@[simp] theorem Dev.setFirstTake_at_lines (n : Nat) (v : Bool) (m : Nat) : (d.setFirstTake n v).lines m = d.lines m := rfl
@[simp] theorem Dev.setFirstTake_at_pendOf (n : Nat) (v : Bool) (m : Nat) : (d.setFirstTake n v).pendOf m = d.pendOf m := rfl
@[simp] theorem Dev.setFirstTake_at_teu (n : Nat) (v : Bool) (m : Nat) : (d.setFirstTake n v).teu m = d.teu m := rfl
@[simp] theorem Dev.setFirstTake_at_oldBind (n : Nat) (v : Bool) (m : Nat) : (d.setFirstTake n v).oldBind m = d.oldBind m := rfl
@[simp] theorem Dev.setFirstTake_at_sap (n : Nat) (v : Bool) (m : Nat) : (d.setFirstTake n v).sap m = d.sap m := rfl
@[simp] theorem Dev.setFirstTake_at_mac (n : Nat) (v : Bool) (m : Nat) : (d.setFirstTake n v).mac m = d.mac m := rfl
@[simp] theorem Dev.setFirstTake_at_rxf (n : Nat) (v : Bool) (m : Nat) : (d.setFirstTake n v).rxf m = d.rxf m := rfl
@[simp] theorem Dev.setFirstTake_at_txf (n : Nat) (v : Bool) (m : Nat) : (d.setFirstTake n v).txf m = d.txf m := rfl
@[simp] theorem Dev.setFirstTake_at_gang (n : Nat) (v : Bool) (m : Nat) : (d.setFirstTake n v).gang m = d.gang m := rfl
@[simp] theorem Dev.setFirstTake_at_group (n : Nat) (v : Bool) (m : Nat) : (d.setFirstTake n v).group m = d.group m := rfl
@[simp] theorem Dev.setFirstTake_at_bst (n : Nat) (v : Bool) (m : Nat) : (d.setFirstTake n v).bst m = d.bst m := rfl
@[simp] theorem Dev.setFirstTake_at_req (n : Nat) (v : Bool) (m : Nat) : (d.setFirstTake n v).req m = d.req m := rfl
@[simp] theorem Dev.setFirstTake_at_cell (n : Nat) (v : Bool) (m : Nat) : (d.setFirstTake n v).cell m = d.cell m := rfl

@[simp] theorem Dev.setTeu_at_rd (n : Nat) (v : Teu) (g : Fld) : (d.setTeu n v).rd g = d.rd g := rfl
@[simp] theorem Dev.setTeu_at_q (n : Nat) (v : Teu) (m : Nat) : (d.setTeu n v).q m = d.q m := rfl
@[simp] theorem Dev.setTeu_at_ctx (n : Nat) (v : Teu) (m : Nat) : (d.setTeu n v).ctx m = d.ctx m := rfl
@[simp] theorem Dev.setTeu_at_dma (n : Nat) (v : Teu) (m : Nat) : (d.setTeu n v).dma m = d.dma m := rfl
@[simp] theorem Dev.setTeu_at_tlb (n : Nat) (v : Teu) (m : Nat) : (d.setTeu n v).tlb m = d.tlb m := rfl
@[simp] theorem Dev.setTeu_at_lines (n : Nat) (v : Teu) (m : Nat) : (d.setTeu n v).lines m = d.lines m := rfl
@[simp] theorem Dev.setTeu_at_pendOf (n : Nat) (v : Teu) (m : Nat) : (d.setTeu n v).pendOf m = d.pendOf m := rfl
@[simp] theorem Dev.setTeu_at_firstTake (n : Nat) (v : Teu) (m : Nat) : (d.setTeu n v).firstTake m = d.firstTake m := rfl
@[simp] theorem Dev.setTeu_at_oldBind (n : Nat) (v : Teu) (m : Nat) : (d.setTeu n v).oldBind m = d.oldBind m := rfl
@[simp] theorem Dev.setTeu_at_sap (n : Nat) (v : Teu) (m : Nat) : (d.setTeu n v).sap m = d.sap m := rfl
@[simp] theorem Dev.setTeu_at_mac (n : Nat) (v : Teu) (m : Nat) : (d.setTeu n v).mac m = d.mac m := rfl
@[simp] theorem Dev.setTeu_at_rxf (n : Nat) (v : Teu) (m : Nat) : (d.setTeu n v).rxf m = d.rxf m := rfl
@[simp] theorem Dev.setTeu_at_txf (n : Nat) (v : Teu) (m : Nat) : (d.setTeu n v).txf m = d.txf m := rfl
@[simp] theorem Dev.setTeu_at_gang (n : Nat) (v : Teu) (m : Nat) : (d.setTeu n v).gang m = d.gang m := rfl
@[simp] theorem Dev.setTeu_at_group (n : Nat) (v : Teu) (m : Nat) : (d.setTeu n v).group m = d.group m := rfl
@[simp] theorem Dev.setTeu_at_bst (n : Nat) (v : Teu) (m : Nat) : (d.setTeu n v).bst m = d.bst m := rfl
@[simp] theorem Dev.setTeu_at_req (n : Nat) (v : Teu) (m : Nat) : (d.setTeu n v).req m = d.req m := rfl
@[simp] theorem Dev.setTeu_at_cell (n : Nat) (v : Teu) (m : Nat) : (d.setTeu n v).cell m = d.cell m := rfl

@[simp] theorem Dev.setOldBind_at_rd (n : Nat) (v : Option (Nat × Bool)) (g : Fld) : (d.setOldBind n v).rd g = d.rd g := rfl
@[simp] theorem Dev.setOldBind_at_q (n : Nat) (v : Option (Nat × Bool)) (m : Nat) : (d.setOldBind n v).q m = d.q m := rfl
@[simp] theorem Dev.setOldBind_at_ctx (n : Nat) (v : Option (Nat × Bool)) (m : Nat) : (d.setOldBind n v).ctx m = d.ctx m := rfl
@[simp] theorem Dev.setOldBind_at_dma (n : Nat) (v : Option (Nat × Bool)) (m : Nat) : (d.setOldBind n v).dma m = d.dma m := rfl
@[simp] theorem Dev.setOldBind_at_tlb (n : Nat) (v : Option (Nat × Bool)) (m : Nat) : (d.setOldBind n v).tlb m = d.tlb m := rfl
@[simp] theorem Dev.setOldBind_at_lines (n : Nat) (v : Option (Nat × Bool)) (m : Nat) : (d.setOldBind n v).lines m = d.lines m := rfl
@[simp] theorem Dev.setOldBind_at_pendOf (n : Nat) (v : Option (Nat × Bool)) (m : Nat) : (d.setOldBind n v).pendOf m = d.pendOf m := rfl
@[simp] theorem Dev.setOldBind_at_firstTake (n : Nat) (v : Option (Nat × Bool)) (m : Nat) : (d.setOldBind n v).firstTake m = d.firstTake m := rfl
@[simp] theorem Dev.setOldBind_at_teu (n : Nat) (v : Option (Nat × Bool)) (m : Nat) : (d.setOldBind n v).teu m = d.teu m := rfl
@[simp] theorem Dev.setOldBind_at_sap (n : Nat) (v : Option (Nat × Bool)) (m : Nat) : (d.setOldBind n v).sap m = d.sap m := rfl
@[simp] theorem Dev.setOldBind_at_mac (n : Nat) (v : Option (Nat × Bool)) (m : Nat) : (d.setOldBind n v).mac m = d.mac m := rfl
@[simp] theorem Dev.setOldBind_at_rxf (n : Nat) (v : Option (Nat × Bool)) (m : Nat) : (d.setOldBind n v).rxf m = d.rxf m := rfl
@[simp] theorem Dev.setOldBind_at_txf (n : Nat) (v : Option (Nat × Bool)) (m : Nat) : (d.setOldBind n v).txf m = d.txf m := rfl
@[simp] theorem Dev.setOldBind_at_gang (n : Nat) (v : Option (Nat × Bool)) (m : Nat) : (d.setOldBind n v).gang m = d.gang m := rfl
@[simp] theorem Dev.setOldBind_at_group (n : Nat) (v : Option (Nat × Bool)) (m : Nat) : (d.setOldBind n v).group m = d.group m := rfl
@[simp] theorem Dev.setOldBind_at_bst (n : Nat) (v : Option (Nat × Bool)) (m : Nat) : (d.setOldBind n v).bst m = d.bst m := rfl
@[simp] theorem Dev.setOldBind_at_req (n : Nat) (v : Option (Nat × Bool)) (m : Nat) : (d.setOldBind n v).req m = d.req m := rfl
@[simp] theorem Dev.setOldBind_at_cell (n : Nat) (v : Option (Nat × Bool)) (m : Nat) : (d.setOldBind n v).cell m = d.cell m := rfl

@[simp] theorem Dev.setSap_at_rd (n : Nat) (v : Sap) (g : Fld) : (d.setSap n v).rd g = d.rd g := rfl
@[simp] theorem Dev.setSap_at_q (n : Nat) (v : Sap) (m : Nat) : (d.setSap n v).q m = d.q m := rfl
@[simp] theorem Dev.setSap_at_ctx (n : Nat) (v : Sap) (m : Nat) : (d.setSap n v).ctx m = d.ctx m := rfl
@[simp] theorem Dev.setSap_at_dma (n : Nat) (v : Sap) (m : Nat) : (d.setSap n v).dma m = d.dma m := rfl
@[simp] theorem Dev.setSap_at_tlb (n : Nat) (v : Sap) (m : Nat) : (d.setSap n v).tlb m = d.tlb m := rfl
@[simp] theorem Dev.setSap_at_lines (n : Nat) (v : Sap) (m : Nat) : (d.setSap n v).lines m = d.lines m := rfl
@[simp] theorem Dev.setSap_at_pendOf (n : Nat) (v : Sap) (m : Nat) : (d.setSap n v).pendOf m = d.pendOf m := rfl
@[simp] theorem Dev.setSap_at_firstTake (n : Nat) (v : Sap) (m : Nat) : (d.setSap n v).firstTake m = d.firstTake m := rfl
@[simp] theorem Dev.setSap_at_teu (n : Nat) (v : Sap) (m : Nat) : (d.setSap n v).teu m = d.teu m := rfl
@[simp] theorem Dev.setSap_at_oldBind (n : Nat) (v : Sap) (m : Nat) : (d.setSap n v).oldBind m = d.oldBind m := rfl
@[simp] theorem Dev.setSap_at_mac (n : Nat) (v : Sap) (m : Nat) : (d.setSap n v).mac m = d.mac m := rfl
@[simp] theorem Dev.setSap_at_rxf (n : Nat) (v : Sap) (m : Nat) : (d.setSap n v).rxf m = d.rxf m := rfl
@[simp] theorem Dev.setSap_at_txf (n : Nat) (v : Sap) (m : Nat) : (d.setSap n v).txf m = d.txf m := rfl
@[simp] theorem Dev.setSap_at_gang (n : Nat) (v : Sap) (m : Nat) : (d.setSap n v).gang m = d.gang m := rfl
@[simp] theorem Dev.setSap_at_group (n : Nat) (v : Sap) (m : Nat) : (d.setSap n v).group m = d.group m := rfl
@[simp] theorem Dev.setSap_at_bst (n : Nat) (v : Sap) (m : Nat) : (d.setSap n v).bst m = d.bst m := rfl
@[simp] theorem Dev.setSap_at_req (n : Nat) (v : Sap) (m : Nat) : (d.setSap n v).req m = d.req m := rfl
@[simp] theorem Dev.setSap_at_cell (n : Nat) (v : Sap) (m : Nat) : (d.setSap n v).cell m = d.cell m := rfl

@[simp] theorem Dev.setMac_at_rd (n : Nat) (v : Mac) (g : Fld) : (d.setMac n v).rd g = d.rd g := rfl
@[simp] theorem Dev.setMac_at_q (n : Nat) (v : Mac) (m : Nat) : (d.setMac n v).q m = d.q m := rfl
@[simp] theorem Dev.setMac_at_ctx (n : Nat) (v : Mac) (m : Nat) : (d.setMac n v).ctx m = d.ctx m := rfl
@[simp] theorem Dev.setMac_at_dma (n : Nat) (v : Mac) (m : Nat) : (d.setMac n v).dma m = d.dma m := rfl
@[simp] theorem Dev.setMac_at_tlb (n : Nat) (v : Mac) (m : Nat) : (d.setMac n v).tlb m = d.tlb m := rfl
@[simp] theorem Dev.setMac_at_lines (n : Nat) (v : Mac) (m : Nat) : (d.setMac n v).lines m = d.lines m := rfl
@[simp] theorem Dev.setMac_at_pendOf (n : Nat) (v : Mac) (m : Nat) : (d.setMac n v).pendOf m = d.pendOf m := rfl
@[simp] theorem Dev.setMac_at_firstTake (n : Nat) (v : Mac) (m : Nat) : (d.setMac n v).firstTake m = d.firstTake m := rfl
@[simp] theorem Dev.setMac_at_teu (n : Nat) (v : Mac) (m : Nat) : (d.setMac n v).teu m = d.teu m := rfl
@[simp] theorem Dev.setMac_at_oldBind (n : Nat) (v : Mac) (m : Nat) : (d.setMac n v).oldBind m = d.oldBind m := rfl
@[simp] theorem Dev.setMac_at_sap (n : Nat) (v : Mac) (m : Nat) : (d.setMac n v).sap m = d.sap m := rfl
@[simp] theorem Dev.setMac_at_rxf (n : Nat) (v : Mac) (m : Nat) : (d.setMac n v).rxf m = d.rxf m := rfl
@[simp] theorem Dev.setMac_at_txf (n : Nat) (v : Mac) (m : Nat) : (d.setMac n v).txf m = d.txf m := rfl
@[simp] theorem Dev.setMac_at_gang (n : Nat) (v : Mac) (m : Nat) : (d.setMac n v).gang m = d.gang m := rfl
@[simp] theorem Dev.setMac_at_group (n : Nat) (v : Mac) (m : Nat) : (d.setMac n v).group m = d.group m := rfl
@[simp] theorem Dev.setMac_at_bst (n : Nat) (v : Mac) (m : Nat) : (d.setMac n v).bst m = d.bst m := rfl
@[simp] theorem Dev.setMac_at_req (n : Nat) (v : Mac) (m : Nat) : (d.setMac n v).req m = d.req m := rfl
@[simp] theorem Dev.setMac_at_cell (n : Nat) (v : Mac) (m : Nat) : (d.setMac n v).cell m = d.cell m := rfl

@[simp] theorem Dev.setRxf_at_rd (n : Nat) (v : RxFlow) (g : Fld) : (d.setRxf n v).rd g = d.rd g := rfl
@[simp] theorem Dev.setRxf_at_q (n : Nat) (v : RxFlow) (m : Nat) : (d.setRxf n v).q m = d.q m := rfl
@[simp] theorem Dev.setRxf_at_ctx (n : Nat) (v : RxFlow) (m : Nat) : (d.setRxf n v).ctx m = d.ctx m := rfl
@[simp] theorem Dev.setRxf_at_dma (n : Nat) (v : RxFlow) (m : Nat) : (d.setRxf n v).dma m = d.dma m := rfl
@[simp] theorem Dev.setRxf_at_tlb (n : Nat) (v : RxFlow) (m : Nat) : (d.setRxf n v).tlb m = d.tlb m := rfl
@[simp] theorem Dev.setRxf_at_lines (n : Nat) (v : RxFlow) (m : Nat) : (d.setRxf n v).lines m = d.lines m := rfl
@[simp] theorem Dev.setRxf_at_pendOf (n : Nat) (v : RxFlow) (m : Nat) : (d.setRxf n v).pendOf m = d.pendOf m := rfl
@[simp] theorem Dev.setRxf_at_firstTake (n : Nat) (v : RxFlow) (m : Nat) : (d.setRxf n v).firstTake m = d.firstTake m := rfl
@[simp] theorem Dev.setRxf_at_teu (n : Nat) (v : RxFlow) (m : Nat) : (d.setRxf n v).teu m = d.teu m := rfl
@[simp] theorem Dev.setRxf_at_oldBind (n : Nat) (v : RxFlow) (m : Nat) : (d.setRxf n v).oldBind m = d.oldBind m := rfl
@[simp] theorem Dev.setRxf_at_sap (n : Nat) (v : RxFlow) (m : Nat) : (d.setRxf n v).sap m = d.sap m := rfl
@[simp] theorem Dev.setRxf_at_mac (n : Nat) (v : RxFlow) (m : Nat) : (d.setRxf n v).mac m = d.mac m := rfl
@[simp] theorem Dev.setRxf_at_txf (n : Nat) (v : RxFlow) (m : Nat) : (d.setRxf n v).txf m = d.txf m := rfl
@[simp] theorem Dev.setRxf_at_gang (n : Nat) (v : RxFlow) (m : Nat) : (d.setRxf n v).gang m = d.gang m := rfl
@[simp] theorem Dev.setRxf_at_group (n : Nat) (v : RxFlow) (m : Nat) : (d.setRxf n v).group m = d.group m := rfl
@[simp] theorem Dev.setRxf_at_bst (n : Nat) (v : RxFlow) (m : Nat) : (d.setRxf n v).bst m = d.bst m := rfl
@[simp] theorem Dev.setRxf_at_req (n : Nat) (v : RxFlow) (m : Nat) : (d.setRxf n v).req m = d.req m := rfl
@[simp] theorem Dev.setRxf_at_cell (n : Nat) (v : RxFlow) (m : Nat) : (d.setRxf n v).cell m = d.cell m := rfl

@[simp] theorem Dev.setTxf_at_rd (n : Nat) (v : TxFlow) (g : Fld) : (d.setTxf n v).rd g = d.rd g := rfl
@[simp] theorem Dev.setTxf_at_q (n : Nat) (v : TxFlow) (m : Nat) : (d.setTxf n v).q m = d.q m := rfl
@[simp] theorem Dev.setTxf_at_ctx (n : Nat) (v : TxFlow) (m : Nat) : (d.setTxf n v).ctx m = d.ctx m := rfl
@[simp] theorem Dev.setTxf_at_dma (n : Nat) (v : TxFlow) (m : Nat) : (d.setTxf n v).dma m = d.dma m := rfl
@[simp] theorem Dev.setTxf_at_tlb (n : Nat) (v : TxFlow) (m : Nat) : (d.setTxf n v).tlb m = d.tlb m := rfl
@[simp] theorem Dev.setTxf_at_lines (n : Nat) (v : TxFlow) (m : Nat) : (d.setTxf n v).lines m = d.lines m := rfl
@[simp] theorem Dev.setTxf_at_pendOf (n : Nat) (v : TxFlow) (m : Nat) : (d.setTxf n v).pendOf m = d.pendOf m := rfl
@[simp] theorem Dev.setTxf_at_firstTake (n : Nat) (v : TxFlow) (m : Nat) : (d.setTxf n v).firstTake m = d.firstTake m := rfl
@[simp] theorem Dev.setTxf_at_teu (n : Nat) (v : TxFlow) (m : Nat) : (d.setTxf n v).teu m = d.teu m := rfl
@[simp] theorem Dev.setTxf_at_oldBind (n : Nat) (v : TxFlow) (m : Nat) : (d.setTxf n v).oldBind m = d.oldBind m := rfl
@[simp] theorem Dev.setTxf_at_sap (n : Nat) (v : TxFlow) (m : Nat) : (d.setTxf n v).sap m = d.sap m := rfl
@[simp] theorem Dev.setTxf_at_mac (n : Nat) (v : TxFlow) (m : Nat) : (d.setTxf n v).mac m = d.mac m := rfl
@[simp] theorem Dev.setTxf_at_rxf (n : Nat) (v : TxFlow) (m : Nat) : (d.setTxf n v).rxf m = d.rxf m := rfl
@[simp] theorem Dev.setTxf_at_gang (n : Nat) (v : TxFlow) (m : Nat) : (d.setTxf n v).gang m = d.gang m := rfl
@[simp] theorem Dev.setTxf_at_group (n : Nat) (v : TxFlow) (m : Nat) : (d.setTxf n v).group m = d.group m := rfl
@[simp] theorem Dev.setTxf_at_bst (n : Nat) (v : TxFlow) (m : Nat) : (d.setTxf n v).bst m = d.bst m := rfl
@[simp] theorem Dev.setTxf_at_req (n : Nat) (v : TxFlow) (m : Nat) : (d.setTxf n v).req m = d.req m := rfl
@[simp] theorem Dev.setTxf_at_cell (n : Nat) (v : TxFlow) (m : Nat) : (d.setTxf n v).cell m = d.cell m := rfl

@[simp] theorem Dev.setGang_at_rd (n : Nat) (v : Gang) (g : Fld) : (d.setGang n v).rd g = d.rd g := rfl
@[simp] theorem Dev.setGang_at_q (n : Nat) (v : Gang) (m : Nat) : (d.setGang n v).q m = d.q m := rfl
@[simp] theorem Dev.setGang_at_ctx (n : Nat) (v : Gang) (m : Nat) : (d.setGang n v).ctx m = d.ctx m := rfl
@[simp] theorem Dev.setGang_at_dma (n : Nat) (v : Gang) (m : Nat) : (d.setGang n v).dma m = d.dma m := rfl
@[simp] theorem Dev.setGang_at_tlb (n : Nat) (v : Gang) (m : Nat) : (d.setGang n v).tlb m = d.tlb m := rfl
@[simp] theorem Dev.setGang_at_lines (n : Nat) (v : Gang) (m : Nat) : (d.setGang n v).lines m = d.lines m := rfl
@[simp] theorem Dev.setGang_at_pendOf (n : Nat) (v : Gang) (m : Nat) : (d.setGang n v).pendOf m = d.pendOf m := rfl
@[simp] theorem Dev.setGang_at_firstTake (n : Nat) (v : Gang) (m : Nat) : (d.setGang n v).firstTake m = d.firstTake m := rfl
@[simp] theorem Dev.setGang_at_teu (n : Nat) (v : Gang) (m : Nat) : (d.setGang n v).teu m = d.teu m := rfl
@[simp] theorem Dev.setGang_at_oldBind (n : Nat) (v : Gang) (m : Nat) : (d.setGang n v).oldBind m = d.oldBind m := rfl
@[simp] theorem Dev.setGang_at_sap (n : Nat) (v : Gang) (m : Nat) : (d.setGang n v).sap m = d.sap m := rfl
@[simp] theorem Dev.setGang_at_mac (n : Nat) (v : Gang) (m : Nat) : (d.setGang n v).mac m = d.mac m := rfl
@[simp] theorem Dev.setGang_at_rxf (n : Nat) (v : Gang) (m : Nat) : (d.setGang n v).rxf m = d.rxf m := rfl
@[simp] theorem Dev.setGang_at_txf (n : Nat) (v : Gang) (m : Nat) : (d.setGang n v).txf m = d.txf m := rfl
@[simp] theorem Dev.setGang_at_group (n : Nat) (v : Gang) (m : Nat) : (d.setGang n v).group m = d.group m := rfl
@[simp] theorem Dev.setGang_at_bst (n : Nat) (v : Gang) (m : Nat) : (d.setGang n v).bst m = d.bst m := rfl
@[simp] theorem Dev.setGang_at_req (n : Nat) (v : Gang) (m : Nat) : (d.setGang n v).req m = d.req m := rfl
@[simp] theorem Dev.setGang_at_cell (n : Nat) (v : Gang) (m : Nat) : (d.setGang n v).cell m = d.cell m := rfl

@[simp] theorem Dev.setGroup_at_rd (n : Nat) (v : Group) (g : Fld) : (d.setGroup n v).rd g = d.rd g := rfl
@[simp] theorem Dev.setGroup_at_q (n : Nat) (v : Group) (m : Nat) : (d.setGroup n v).q m = d.q m := rfl
@[simp] theorem Dev.setGroup_at_ctx (n : Nat) (v : Group) (m : Nat) : (d.setGroup n v).ctx m = d.ctx m := rfl
@[simp] theorem Dev.setGroup_at_dma (n : Nat) (v : Group) (m : Nat) : (d.setGroup n v).dma m = d.dma m := rfl
@[simp] theorem Dev.setGroup_at_tlb (n : Nat) (v : Group) (m : Nat) : (d.setGroup n v).tlb m = d.tlb m := rfl
@[simp] theorem Dev.setGroup_at_lines (n : Nat) (v : Group) (m : Nat) : (d.setGroup n v).lines m = d.lines m := rfl
@[simp] theorem Dev.setGroup_at_pendOf (n : Nat) (v : Group) (m : Nat) : (d.setGroup n v).pendOf m = d.pendOf m := rfl
@[simp] theorem Dev.setGroup_at_firstTake (n : Nat) (v : Group) (m : Nat) : (d.setGroup n v).firstTake m = d.firstTake m := rfl
@[simp] theorem Dev.setGroup_at_teu (n : Nat) (v : Group) (m : Nat) : (d.setGroup n v).teu m = d.teu m := rfl
@[simp] theorem Dev.setGroup_at_oldBind (n : Nat) (v : Group) (m : Nat) : (d.setGroup n v).oldBind m = d.oldBind m := rfl
@[simp] theorem Dev.setGroup_at_sap (n : Nat) (v : Group) (m : Nat) : (d.setGroup n v).sap m = d.sap m := rfl
@[simp] theorem Dev.setGroup_at_mac (n : Nat) (v : Group) (m : Nat) : (d.setGroup n v).mac m = d.mac m := rfl
@[simp] theorem Dev.setGroup_at_rxf (n : Nat) (v : Group) (m : Nat) : (d.setGroup n v).rxf m = d.rxf m := rfl
@[simp] theorem Dev.setGroup_at_txf (n : Nat) (v : Group) (m : Nat) : (d.setGroup n v).txf m = d.txf m := rfl
@[simp] theorem Dev.setGroup_at_gang (n : Nat) (v : Group) (m : Nat) : (d.setGroup n v).gang m = d.gang m := rfl
@[simp] theorem Dev.setGroup_at_bst (n : Nat) (v : Group) (m : Nat) : (d.setGroup n v).bst m = d.bst m := rfl
@[simp] theorem Dev.setGroup_at_req (n : Nat) (v : Group) (m : Nat) : (d.setGroup n v).req m = d.req m := rfl
@[simp] theorem Dev.setGroup_at_cell (n : Nat) (v : Group) (m : Nat) : (d.setGroup n v).cell m = d.cell m := rfl

@[simp] theorem Dev.setBst_at_rd (n : Nat) (v : Bst) (g : Fld) : (d.setBst n v).rd g = d.rd g := rfl
@[simp] theorem Dev.setBst_at_q (n : Nat) (v : Bst) (m : Nat) : (d.setBst n v).q m = d.q m := rfl
@[simp] theorem Dev.setBst_at_ctx (n : Nat) (v : Bst) (m : Nat) : (d.setBst n v).ctx m = d.ctx m := rfl
@[simp] theorem Dev.setBst_at_dma (n : Nat) (v : Bst) (m : Nat) : (d.setBst n v).dma m = d.dma m := rfl
@[simp] theorem Dev.setBst_at_tlb (n : Nat) (v : Bst) (m : Nat) : (d.setBst n v).tlb m = d.tlb m := rfl
@[simp] theorem Dev.setBst_at_lines (n : Nat) (v : Bst) (m : Nat) : (d.setBst n v).lines m = d.lines m := rfl
@[simp] theorem Dev.setBst_at_pendOf (n : Nat) (v : Bst) (m : Nat) : (d.setBst n v).pendOf m = d.pendOf m := rfl
@[simp] theorem Dev.setBst_at_firstTake (n : Nat) (v : Bst) (m : Nat) : (d.setBst n v).firstTake m = d.firstTake m := rfl
@[simp] theorem Dev.setBst_at_teu (n : Nat) (v : Bst) (m : Nat) : (d.setBst n v).teu m = d.teu m := rfl
@[simp] theorem Dev.setBst_at_oldBind (n : Nat) (v : Bst) (m : Nat) : (d.setBst n v).oldBind m = d.oldBind m := rfl
@[simp] theorem Dev.setBst_at_sap (n : Nat) (v : Bst) (m : Nat) : (d.setBst n v).sap m = d.sap m := rfl
@[simp] theorem Dev.setBst_at_mac (n : Nat) (v : Bst) (m : Nat) : (d.setBst n v).mac m = d.mac m := rfl
@[simp] theorem Dev.setBst_at_rxf (n : Nat) (v : Bst) (m : Nat) : (d.setBst n v).rxf m = d.rxf m := rfl
@[simp] theorem Dev.setBst_at_txf (n : Nat) (v : Bst) (m : Nat) : (d.setBst n v).txf m = d.txf m := rfl
@[simp] theorem Dev.setBst_at_gang (n : Nat) (v : Bst) (m : Nat) : (d.setBst n v).gang m = d.gang m := rfl
@[simp] theorem Dev.setBst_at_group (n : Nat) (v : Bst) (m : Nat) : (d.setBst n v).group m = d.group m := rfl
@[simp] theorem Dev.setBst_at_req (n : Nat) (v : Bst) (m : Nat) : (d.setBst n v).req m = d.req m := rfl
@[simp] theorem Dev.setBst_at_cell (n : Nat) (v : Bst) (m : Nat) : (d.setBst n v).cell m = d.cell m := rfl

@[simp] theorem Dev.modTwin_at_rd (h : Twin → Twin) (g : Fld) : (d.modTwin h).rd g = d.rd g := rfl
@[simp] theorem Dev.modTwin_at_q (h : Twin → Twin) (m : Nat) : (d.modTwin h).q m = d.q m := rfl
@[simp] theorem Dev.modTwin_at_ctx (h : Twin → Twin) (m : Nat) : (d.modTwin h).ctx m = d.ctx m := rfl
@[simp] theorem Dev.modTwin_at_dma (h : Twin → Twin) (m : Nat) : (d.modTwin h).dma m = d.dma m := rfl
@[simp] theorem Dev.modTwin_at_tlb (h : Twin → Twin) (m : Nat) : (d.modTwin h).tlb m = d.tlb m := rfl
@[simp] theorem Dev.modTwin_at_lines (h : Twin → Twin) (m : Nat) : (d.modTwin h).lines m = d.lines m := rfl
@[simp] theorem Dev.modTwin_at_pendOf (h : Twin → Twin) (m : Nat) : (d.modTwin h).pendOf m = d.pendOf m := rfl
@[simp] theorem Dev.modTwin_at_firstTake (h : Twin → Twin) (m : Nat) : (d.modTwin h).firstTake m = d.firstTake m := rfl
@[simp] theorem Dev.modTwin_at_teu (h : Twin → Twin) (m : Nat) : (d.modTwin h).teu m = d.teu m := rfl
@[simp] theorem Dev.modTwin_at_oldBind (h : Twin → Twin) (m : Nat) : (d.modTwin h).oldBind m = d.oldBind m := rfl
@[simp] theorem Dev.modTwin_at_sap (h : Twin → Twin) (m : Nat) : (d.modTwin h).sap m = d.sap m := rfl
@[simp] theorem Dev.modTwin_at_mac (h : Twin → Twin) (m : Nat) : (d.modTwin h).mac m = d.mac m := rfl
@[simp] theorem Dev.modTwin_at_rxf (h : Twin → Twin) (m : Nat) : (d.modTwin h).rxf m = d.rxf m := rfl
@[simp] theorem Dev.modTwin_at_txf (h : Twin → Twin) (m : Nat) : (d.modTwin h).txf m = d.txf m := rfl
@[simp] theorem Dev.modTwin_at_gang (h : Twin → Twin) (m : Nat) : (d.modTwin h).gang m = d.gang m := rfl
@[simp] theorem Dev.modTwin_at_group (h : Twin → Twin) (m : Nat) : (d.modTwin h).group m = d.group m := rfl
@[simp] theorem Dev.modTwin_at_bst (h : Twin → Twin) (m : Nat) : (d.modTwin h).bst m = d.bst m := rfl
@[simp] theorem Dev.modTwin_at_req (h : Twin → Twin) (m : Nat) : (d.modTwin h).req m = d.req m := rfl
@[simp] theorem Dev.modTwin_at_cell (h : Twin → Twin) (m : Nat) : (d.modTwin h).cell m = d.cell m := rfl

@[simp] theorem Dev.modLam_at_rd (h : Lam → Lam) (g : Fld) : (d.modLam h).rd g = d.rd g := rfl
@[simp] theorem Dev.modLam_at_q (h : Lam → Lam) (m : Nat) : (d.modLam h).q m = d.q m := rfl
@[simp] theorem Dev.modLam_at_ctx (h : Lam → Lam) (m : Nat) : (d.modLam h).ctx m = d.ctx m := rfl
@[simp] theorem Dev.modLam_at_dma (h : Lam → Lam) (m : Nat) : (d.modLam h).dma m = d.dma m := rfl
@[simp] theorem Dev.modLam_at_tlb (h : Lam → Lam) (m : Nat) : (d.modLam h).tlb m = d.tlb m := rfl
@[simp] theorem Dev.modLam_at_lines (h : Lam → Lam) (m : Nat) : (d.modLam h).lines m = d.lines m := rfl
@[simp] theorem Dev.modLam_at_pendOf (h : Lam → Lam) (m : Nat) : (d.modLam h).pendOf m = d.pendOf m := rfl
@[simp] theorem Dev.modLam_at_firstTake (h : Lam → Lam) (m : Nat) : (d.modLam h).firstTake m = d.firstTake m := rfl
@[simp] theorem Dev.modLam_at_teu (h : Lam → Lam) (m : Nat) : (d.modLam h).teu m = d.teu m := rfl
@[simp] theorem Dev.modLam_at_oldBind (h : Lam → Lam) (m : Nat) : (d.modLam h).oldBind m = d.oldBind m := rfl
@[simp] theorem Dev.modLam_at_sap (h : Lam → Lam) (m : Nat) : (d.modLam h).sap m = d.sap m := rfl
@[simp] theorem Dev.modLam_at_mac (h : Lam → Lam) (m : Nat) : (d.modLam h).mac m = d.mac m := rfl
@[simp] theorem Dev.modLam_at_rxf (h : Lam → Lam) (m : Nat) : (d.modLam h).rxf m = d.rxf m := rfl
@[simp] theorem Dev.modLam_at_txf (h : Lam → Lam) (m : Nat) : (d.modLam h).txf m = d.txf m := rfl
@[simp] theorem Dev.modLam_at_gang (h : Lam → Lam) (m : Nat) : (d.modLam h).gang m = d.gang m := rfl
@[simp] theorem Dev.modLam_at_group (h : Lam → Lam) (m : Nat) : (d.modLam h).group m = d.group m := rfl
@[simp] theorem Dev.modLam_at_bst (h : Lam → Lam) (m : Nat) : (d.modLam h).bst m = d.bst m := rfl
@[simp] theorem Dev.modLam_at_req (h : Lam → Lam) (m : Nat) : (d.modLam h).req m = d.req m := rfl
@[simp] theorem Dev.modLam_at_cell (h : Lam → Lam) (m : Nat) : (d.modLam h).cell m = d.cell m := rfl

@[simp] theorem Dev.modHost_at_rd (h : HostIf → HostIf) (g : Fld) : (d.modHost h).rd g = d.rd g := rfl
@[simp] theorem Dev.modHost_at_q (h : HostIf → HostIf) (m : Nat) : (d.modHost h).q m = d.q m := rfl
@[simp] theorem Dev.modHost_at_ctx (h : HostIf → HostIf) (m : Nat) : (d.modHost h).ctx m = d.ctx m := rfl
@[simp] theorem Dev.modHost_at_dma (h : HostIf → HostIf) (m : Nat) : (d.modHost h).dma m = d.dma m := rfl
@[simp] theorem Dev.modHost_at_tlb (h : HostIf → HostIf) (m : Nat) : (d.modHost h).tlb m = d.tlb m := rfl
@[simp] theorem Dev.modHost_at_lines (h : HostIf → HostIf) (m : Nat) : (d.modHost h).lines m = d.lines m := rfl
@[simp] theorem Dev.modHost_at_pendOf (h : HostIf → HostIf) (m : Nat) : (d.modHost h).pendOf m = d.pendOf m := rfl
@[simp] theorem Dev.modHost_at_firstTake (h : HostIf → HostIf) (m : Nat) : (d.modHost h).firstTake m = d.firstTake m := rfl
@[simp] theorem Dev.modHost_at_teu (h : HostIf → HostIf) (m : Nat) : (d.modHost h).teu m = d.teu m := rfl
@[simp] theorem Dev.modHost_at_oldBind (h : HostIf → HostIf) (m : Nat) : (d.modHost h).oldBind m = d.oldBind m := rfl
@[simp] theorem Dev.modHost_at_sap (h : HostIf → HostIf) (m : Nat) : (d.modHost h).sap m = d.sap m := rfl
@[simp] theorem Dev.modHost_at_mac (h : HostIf → HostIf) (m : Nat) : (d.modHost h).mac m = d.mac m := rfl
@[simp] theorem Dev.modHost_at_rxf (h : HostIf → HostIf) (m : Nat) : (d.modHost h).rxf m = d.rxf m := rfl
@[simp] theorem Dev.modHost_at_txf (h : HostIf → HostIf) (m : Nat) : (d.modHost h).txf m = d.txf m := rfl
@[simp] theorem Dev.modHost_at_gang (h : HostIf → HostIf) (m : Nat) : (d.modHost h).gang m = d.gang m := rfl
@[simp] theorem Dev.modHost_at_group (h : HostIf → HostIf) (m : Nat) : (d.modHost h).group m = d.group m := rfl
@[simp] theorem Dev.modHost_at_bst (h : HostIf → HostIf) (m : Nat) : (d.modHost h).bst m = d.bst m := rfl
@[simp] theorem Dev.modHost_at_cell (h : HostIf → HostIf) (m : Nat) : (d.modHost h).cell m = d.cell m := rfl

@[simp] theorem Dev.modJtag_at_rd (h : Jtag → Jtag) (g : Fld) : (d.modJtag h).rd g = d.rd g := rfl
@[simp] theorem Dev.modJtag_at_q (h : Jtag → Jtag) (m : Nat) : (d.modJtag h).q m = d.q m := rfl
@[simp] theorem Dev.modJtag_at_ctx (h : Jtag → Jtag) (m : Nat) : (d.modJtag h).ctx m = d.ctx m := rfl
@[simp] theorem Dev.modJtag_at_dma (h : Jtag → Jtag) (m : Nat) : (d.modJtag h).dma m = d.dma m := rfl
@[simp] theorem Dev.modJtag_at_tlb (h : Jtag → Jtag) (m : Nat) : (d.modJtag h).tlb m = d.tlb m := rfl
@[simp] theorem Dev.modJtag_at_lines (h : Jtag → Jtag) (m : Nat) : (d.modJtag h).lines m = d.lines m := rfl
@[simp] theorem Dev.modJtag_at_pendOf (h : Jtag → Jtag) (m : Nat) : (d.modJtag h).pendOf m = d.pendOf m := rfl
@[simp] theorem Dev.modJtag_at_firstTake (h : Jtag → Jtag) (m : Nat) : (d.modJtag h).firstTake m = d.firstTake m := rfl
@[simp] theorem Dev.modJtag_at_teu (h : Jtag → Jtag) (m : Nat) : (d.modJtag h).teu m = d.teu m := rfl
@[simp] theorem Dev.modJtag_at_oldBind (h : Jtag → Jtag) (m : Nat) : (d.modJtag h).oldBind m = d.oldBind m := rfl
@[simp] theorem Dev.modJtag_at_sap (h : Jtag → Jtag) (m : Nat) : (d.modJtag h).sap m = d.sap m := rfl
@[simp] theorem Dev.modJtag_at_mac (h : Jtag → Jtag) (m : Nat) : (d.modJtag h).mac m = d.mac m := rfl
@[simp] theorem Dev.modJtag_at_rxf (h : Jtag → Jtag) (m : Nat) : (d.modJtag h).rxf m = d.rxf m := rfl
@[simp] theorem Dev.modJtag_at_txf (h : Jtag → Jtag) (m : Nat) : (d.modJtag h).txf m = d.txf m := rfl
@[simp] theorem Dev.modJtag_at_gang (h : Jtag → Jtag) (m : Nat) : (d.modJtag h).gang m = d.gang m := rfl
@[simp] theorem Dev.modJtag_at_group (h : Jtag → Jtag) (m : Nat) : (d.modJtag h).group m = d.group m := rfl
@[simp] theorem Dev.modJtag_at_bst (h : Jtag → Jtag) (m : Nat) : (d.modJtag h).bst m = d.bst m := rfl
@[simp] theorem Dev.modJtag_at_req (h : Jtag → Jtag) (m : Nat) : (d.modJtag h).req m = d.req m := rfl
@[simp] theorem Dev.modJtag_at_cell (h : Jtag → Jtag) (m : Nat) : (d.modJtag h).cell m = d.cell m := rfl

@[simp] theorem Dev.setReq_at_rd (n : Nat) (v : Requester) (g : Fld) : (d.setReq n v).rd g = d.rd g := rfl
@[simp] theorem Dev.setReq_at_q (n : Nat) (v : Requester) (m : Nat) : (d.setReq n v).q m = d.q m := rfl
@[simp] theorem Dev.setReq_at_ctx (n : Nat) (v : Requester) (m : Nat) : (d.setReq n v).ctx m = d.ctx m := rfl
@[simp] theorem Dev.setReq_at_dma (n : Nat) (v : Requester) (m : Nat) : (d.setReq n v).dma m = d.dma m := rfl
@[simp] theorem Dev.setReq_at_tlb (n : Nat) (v : Requester) (m : Nat) : (d.setReq n v).tlb m = d.tlb m := rfl
@[simp] theorem Dev.setReq_at_lines (n : Nat) (v : Requester) (m : Nat) : (d.setReq n v).lines m = d.lines m := rfl
@[simp] theorem Dev.setReq_at_pendOf (n : Nat) (v : Requester) (m : Nat) : (d.setReq n v).pendOf m = d.pendOf m := rfl
@[simp] theorem Dev.setReq_at_firstTake (n : Nat) (v : Requester) (m : Nat) : (d.setReq n v).firstTake m = d.firstTake m := rfl
@[simp] theorem Dev.setReq_at_teu (n : Nat) (v : Requester) (m : Nat) : (d.setReq n v).teu m = d.teu m := rfl
@[simp] theorem Dev.setReq_at_oldBind (n : Nat) (v : Requester) (m : Nat) : (d.setReq n v).oldBind m = d.oldBind m := rfl
@[simp] theorem Dev.setReq_at_sap (n : Nat) (v : Requester) (m : Nat) : (d.setReq n v).sap m = d.sap m := rfl
@[simp] theorem Dev.setReq_at_mac (n : Nat) (v : Requester) (m : Nat) : (d.setReq n v).mac m = d.mac m := rfl
@[simp] theorem Dev.setReq_at_rxf (n : Nat) (v : Requester) (m : Nat) : (d.setReq n v).rxf m = d.rxf m := rfl
@[simp] theorem Dev.setReq_at_txf (n : Nat) (v : Requester) (m : Nat) : (d.setReq n v).txf m = d.txf m := rfl
@[simp] theorem Dev.setReq_at_gang (n : Nat) (v : Requester) (m : Nat) : (d.setReq n v).gang m = d.gang m := rfl
@[simp] theorem Dev.setReq_at_group (n : Nat) (v : Requester) (m : Nat) : (d.setReq n v).group m = d.group m := rfl
@[simp] theorem Dev.setReq_at_bst (n : Nat) (v : Requester) (m : Nat) : (d.setReq n v).bst m = d.bst m := rfl
@[simp] theorem Dev.setReq_at_cell (n : Nat) (v : Requester) (m : Nat) : (d.setReq n v).cell m = d.cell m := rfl

@[simp] theorem Dev.setCell_at_rd (n : Nat) (v : CellMeta) (g : Fld) : (d.setCell n v).rd g = d.rd g := rfl
@[simp] theorem Dev.setCell_at_q (n : Nat) (v : CellMeta) (m : Nat) : (d.setCell n v).q m = d.q m := rfl
@[simp] theorem Dev.setCell_at_ctx (n : Nat) (v : CellMeta) (m : Nat) : (d.setCell n v).ctx m = d.ctx m := rfl
@[simp] theorem Dev.setCell_at_dma (n : Nat) (v : CellMeta) (m : Nat) : (d.setCell n v).dma m = d.dma m := rfl
@[simp] theorem Dev.setCell_at_tlb (n : Nat) (v : CellMeta) (m : Nat) : (d.setCell n v).tlb m = d.tlb m := rfl
@[simp] theorem Dev.setCell_at_lines (n : Nat) (v : CellMeta) (m : Nat) : (d.setCell n v).lines m = d.lines m := rfl
@[simp] theorem Dev.setCell_at_pendOf (n : Nat) (v : CellMeta) (m : Nat) : (d.setCell n v).pendOf m = d.pendOf m := rfl
@[simp] theorem Dev.setCell_at_firstTake (n : Nat) (v : CellMeta) (m : Nat) : (d.setCell n v).firstTake m = d.firstTake m := rfl
@[simp] theorem Dev.setCell_at_teu (n : Nat) (v : CellMeta) (m : Nat) : (d.setCell n v).teu m = d.teu m := rfl
@[simp] theorem Dev.setCell_at_oldBind (n : Nat) (v : CellMeta) (m : Nat) : (d.setCell n v).oldBind m = d.oldBind m := rfl
@[simp] theorem Dev.setCell_at_sap (n : Nat) (v : CellMeta) (m : Nat) : (d.setCell n v).sap m = d.sap m := rfl
@[simp] theorem Dev.setCell_at_mac (n : Nat) (v : CellMeta) (m : Nat) : (d.setCell n v).mac m = d.mac m := rfl
@[simp] theorem Dev.setCell_at_rxf (n : Nat) (v : CellMeta) (m : Nat) : (d.setCell n v).rxf m = d.rxf m := rfl
@[simp] theorem Dev.setCell_at_txf (n : Nat) (v : CellMeta) (m : Nat) : (d.setCell n v).txf m = d.txf m := rfl
@[simp] theorem Dev.setCell_at_gang (n : Nat) (v : CellMeta) (m : Nat) : (d.setCell n v).gang m = d.gang m := rfl
@[simp] theorem Dev.setCell_at_group (n : Nat) (v : CellMeta) (m : Nat) : (d.setCell n v).group m = d.group m := rfl
@[simp] theorem Dev.setCell_at_bst (n : Nat) (v : CellMeta) (m : Nat) : (d.setCell n v).bst m = d.bst m := rfl
@[simp] theorem Dev.setCell_at_req (n : Nat) (v : CellMeta) (m : Nat) : (d.setCell n v).req m = d.req m := rfl

@[simp] theorem Dev.modTime_at_rd (h : TimeSt → TimeSt) (g : Fld) : (d.modTime h).rd g = d.rd g := rfl
@[simp] theorem Dev.modTime_at_q (h : TimeSt → TimeSt) (m : Nat) : (d.modTime h).q m = d.q m := rfl
@[simp] theorem Dev.modTime_at_ctx (h : TimeSt → TimeSt) (m : Nat) : (d.modTime h).ctx m = d.ctx m := rfl
@[simp] theorem Dev.modTime_at_dma (h : TimeSt → TimeSt) (m : Nat) : (d.modTime h).dma m = d.dma m := rfl
@[simp] theorem Dev.modTime_at_tlb (h : TimeSt → TimeSt) (m : Nat) : (d.modTime h).tlb m = d.tlb m := rfl
@[simp] theorem Dev.modTime_at_lines (h : TimeSt → TimeSt) (m : Nat) : (d.modTime h).lines m = d.lines m := rfl
@[simp] theorem Dev.modTime_at_pendOf (h : TimeSt → TimeSt) (m : Nat) : (d.modTime h).pendOf m = d.pendOf m := rfl
@[simp] theorem Dev.modTime_at_firstTake (h : TimeSt → TimeSt) (m : Nat) : (d.modTime h).firstTake m = d.firstTake m := rfl
@[simp] theorem Dev.modTime_at_teu (h : TimeSt → TimeSt) (m : Nat) : (d.modTime h).teu m = d.teu m := rfl
@[simp] theorem Dev.modTime_at_oldBind (h : TimeSt → TimeSt) (m : Nat) : (d.modTime h).oldBind m = d.oldBind m := rfl
@[simp] theorem Dev.modTime_at_sap (h : TimeSt → TimeSt) (m : Nat) : (d.modTime h).sap m = d.sap m := rfl
@[simp] theorem Dev.modTime_at_mac (h : TimeSt → TimeSt) (m : Nat) : (d.modTime h).mac m = d.mac m := rfl
@[simp] theorem Dev.modTime_at_rxf (h : TimeSt → TimeSt) (m : Nat) : (d.modTime h).rxf m = d.rxf m := rfl
@[simp] theorem Dev.modTime_at_txf (h : TimeSt → TimeSt) (m : Nat) : (d.modTime h).txf m = d.txf m := rfl
@[simp] theorem Dev.modTime_at_gang (h : TimeSt → TimeSt) (m : Nat) : (d.modTime h).gang m = d.gang m := rfl
@[simp] theorem Dev.modTime_at_group (h : TimeSt → TimeSt) (m : Nat) : (d.modTime h).group m = d.group m := rfl
@[simp] theorem Dev.modTime_at_bst (h : TimeSt → TimeSt) (m : Nat) : (d.modTime h).bst m = d.bst m := rfl
@[simp] theorem Dev.modTime_at_req (h : TimeSt → TimeSt) (m : Nat) : (d.modTime h).req m = d.req m := rfl
@[simp] theorem Dev.modTime_at_cell (h : TimeSt → TimeSt) (m : Nat) : (d.modTime h).cell m = d.cell m := rfl

@[simp] theorem Dev.modClk_at_rd (h : ClkSt → ClkSt) (g : Fld) : (d.modClk h).rd g = d.rd g := rfl
@[simp] theorem Dev.modClk_at_q (h : ClkSt → ClkSt) (m : Nat) : (d.modClk h).q m = d.q m := rfl
@[simp] theorem Dev.modClk_at_ctx (h : ClkSt → ClkSt) (m : Nat) : (d.modClk h).ctx m = d.ctx m := rfl
@[simp] theorem Dev.modClk_at_dma (h : ClkSt → ClkSt) (m : Nat) : (d.modClk h).dma m = d.dma m := rfl
@[simp] theorem Dev.modClk_at_tlb (h : ClkSt → ClkSt) (m : Nat) : (d.modClk h).tlb m = d.tlb m := rfl
@[simp] theorem Dev.modClk_at_lines (h : ClkSt → ClkSt) (m : Nat) : (d.modClk h).lines m = d.lines m := rfl
@[simp] theorem Dev.modClk_at_pendOf (h : ClkSt → ClkSt) (m : Nat) : (d.modClk h).pendOf m = d.pendOf m := rfl
@[simp] theorem Dev.modClk_at_firstTake (h : ClkSt → ClkSt) (m : Nat) : (d.modClk h).firstTake m = d.firstTake m := rfl
@[simp] theorem Dev.modClk_at_teu (h : ClkSt → ClkSt) (m : Nat) : (d.modClk h).teu m = d.teu m := rfl
@[simp] theorem Dev.modClk_at_oldBind (h : ClkSt → ClkSt) (m : Nat) : (d.modClk h).oldBind m = d.oldBind m := rfl
@[simp] theorem Dev.modClk_at_sap (h : ClkSt → ClkSt) (m : Nat) : (d.modClk h).sap m = d.sap m := rfl
@[simp] theorem Dev.modClk_at_mac (h : ClkSt → ClkSt) (m : Nat) : (d.modClk h).mac m = d.mac m := rfl
@[simp] theorem Dev.modClk_at_rxf (h : ClkSt → ClkSt) (m : Nat) : (d.modClk h).rxf m = d.rxf m := rfl
@[simp] theorem Dev.modClk_at_txf (h : ClkSt → ClkSt) (m : Nat) : (d.modClk h).txf m = d.txf m := rfl
@[simp] theorem Dev.modClk_at_gang (h : ClkSt → ClkSt) (m : Nat) : (d.modClk h).gang m = d.gang m := rfl
@[simp] theorem Dev.modClk_at_group (h : ClkSt → ClkSt) (m : Nat) : (d.modClk h).group m = d.group m := rfl
@[simp] theorem Dev.modClk_at_bst (h : ClkSt → ClkSt) (m : Nat) : (d.modClk h).bst m = d.bst m := rfl
@[simp] theorem Dev.modClk_at_req (h : ClkSt → ClkSt) (m : Nat) : (d.modClk h).req m = d.req m := rfl
@[simp] theorem Dev.modClk_at_cell (h : ClkSt → ClkSt) (m : Nat) : (d.modClk h).cell m = d.cell m := rfl

theorem Dev.q_setQ (n m : Nat) (v : Queue) : (d.setQ n v).q m = if m = n then v else d.q m := Sparse.get_set _ _ _ _ _
@[simp] theorem Dev.q_setQ_same (n : Nat) (v : Queue) : (d.setQ n v).q n = v := Sparse.get_set_same _ _ _ _
theorem Dev.ctx_setCtx (n m : Nat) (v : Ctx) : (d.setCtx n v).ctx m = if m = n then v else d.ctx m := Sparse.get_set _ _ _ _ _
@[simp] theorem Dev.ctx_setCtx_same (n : Nat) (v : Ctx) : (d.setCtx n v).ctx n = v := Sparse.get_set_same _ _ _ _
theorem Dev.dma_setDma (n m : Nat) (v : Dma) : (d.setDma n v).dma m = if m = n then v else d.dma m := Sparse.get_set _ _ _ _ _
@[simp] theorem Dev.dma_setDma_same (n : Nat) (v : Dma) : (d.setDma n v).dma n = v := Sparse.get_set_same _ _ _ _
theorem Dev.tlb_setTlb (n m : Nat) (v : List TlbEntry) : (d.setTlb n v).tlb m = if m = n then v else d.tlb m := Sparse.get_set _ _ _ _ _
@[simp] theorem Dev.tlb_setTlb_same (n : Nat) (v : List TlbEntry) : (d.setTlb n v).tlb n = v := Sparse.get_set_same _ _ _ _
theorem Dev.lines_setLines (n m : Nat) (v : List (Nat × Nat)) : (d.setLines n v).lines m = if m = n then v else d.lines m := Sparse.get_set _ _ _ _ _
@[simp] theorem Dev.lines_setLines_same (n : Nat) (v : List (Nat × Nat)) : (d.setLines n v).lines n = v := Sparse.get_set_same _ _ _ _
theorem Dev.pendOf_setPend (n m : Nat) (v : Option RoutePend) : (d.setPend n v).pendOf m = if m = n then v else d.pendOf m := Sparse.get_set _ _ _ _ _
@[simp] theorem Dev.pendOf_setPend_same (n : Nat) (v : Option RoutePend) : (d.setPend n v).pendOf n = v := Sparse.get_set_same _ _ _ _
theorem Dev.firstTake_setFirstTake (n m : Nat) (v : Bool) : (d.setFirstTake n v).firstTake m = if m = n then v else d.firstTake m := Sparse.get_set _ _ _ _ _
@[simp] theorem Dev.firstTake_setFirstTake_same (n : Nat) (v : Bool) : (d.setFirstTake n v).firstTake n = v := Sparse.get_set_same _ _ _ _
theorem Dev.teu_setTeu (n m : Nat) (v : Teu) : (d.setTeu n v).teu m = if m = n then v else d.teu m := Sparse.get_set _ _ _ _ _
@[simp] theorem Dev.teu_setTeu_same (n : Nat) (v : Teu) : (d.setTeu n v).teu n = v := Sparse.get_set_same _ _ _ _
theorem Dev.oldBind_setOldBind (n m : Nat) (v : Option (Nat × Bool)) : (d.setOldBind n v).oldBind m = if m = n then v else d.oldBind m := Sparse.get_set _ _ _ _ _
@[simp] theorem Dev.oldBind_setOldBind_same (n : Nat) (v : Option (Nat × Bool)) : (d.setOldBind n v).oldBind n = v := Sparse.get_set_same _ _ _ _
theorem Dev.sap_setSap (n m : Nat) (v : Sap) : (d.setSap n v).sap m = if m = n then v else d.sap m := Sparse.get_set _ _ _ _ _
@[simp] theorem Dev.sap_setSap_same (n : Nat) (v : Sap) : (d.setSap n v).sap n = v := Sparse.get_set_same _ _ _ _
theorem Dev.mac_setMac (n m : Nat) (v : Mac) : (d.setMac n v).mac m = if m = n then v else d.mac m := Sparse.get_set _ _ _ _ _
@[simp] theorem Dev.mac_setMac_same (n : Nat) (v : Mac) : (d.setMac n v).mac n = v := Sparse.get_set_same _ _ _ _
theorem Dev.rxf_setRxf (n m : Nat) (v : RxFlow) : (d.setRxf n v).rxf m = if m = n then v else d.rxf m := Sparse.get_set _ _ _ _ _
@[simp] theorem Dev.rxf_setRxf_same (n : Nat) (v : RxFlow) : (d.setRxf n v).rxf n = v := Sparse.get_set_same _ _ _ _
theorem Dev.txf_setTxf (n m : Nat) (v : TxFlow) : (d.setTxf n v).txf m = if m = n then v else d.txf m := Sparse.get_set _ _ _ _ _
@[simp] theorem Dev.txf_setTxf_same (n : Nat) (v : TxFlow) : (d.setTxf n v).txf n = v := Sparse.get_set_same _ _ _ _
theorem Dev.gang_setGang (n m : Nat) (v : Gang) : (d.setGang n v).gang m = if m = n then v else d.gang m := Sparse.get_set _ _ _ _ _
@[simp] theorem Dev.gang_setGang_same (n : Nat) (v : Gang) : (d.setGang n v).gang n = v := Sparse.get_set_same _ _ _ _
theorem Dev.group_setGroup (n m : Nat) (v : Group) : (d.setGroup n v).group m = if m = n then v else d.group m := Sparse.get_set _ _ _ _ _
@[simp] theorem Dev.group_setGroup_same (n : Nat) (v : Group) : (d.setGroup n v).group n = v := Sparse.get_set_same _ _ _ _
theorem Dev.bst_setBst (n m : Nat) (v : Bst) : (d.setBst n v).bst m = if m = n then v else d.bst m := Sparse.get_set _ _ _ _ _
@[simp] theorem Dev.bst_setBst_same (n : Nat) (v : Bst) : (d.setBst n v).bst n = v := Sparse.get_set_same _ _ _ _
theorem Dev.req_setReq (n m : Nat) (v : Requester) : (d.setReq n v).req m = if m = n then v else d.req m := Sparse.get_set _ _ _ _ _
@[simp] theorem Dev.req_setReq_same (n : Nat) (v : Requester) : (d.setReq n v).req n = v := Sparse.get_set_same _ _ _ _
theorem Dev.cell_setCell (n m : Nat) (v : CellMeta) : (d.setCell n v).cell m = if m = n then v else d.cell m := Sparse.get_set _ _ _ _ _
@[simp] theorem Dev.cell_setCell_same (n : Nat) (v : CellMeta) : (d.setCell n v).cell n = v := Sparse.get_set_same _ _ _ _

/-- A register field after a write of one: two fields of one register differ in their lowest bit. -/
theorem Dev.rd_wr (f g : Fld) (v : Nat) : (d.wr f v).rd g = if g.id = f.id then v % 2 ^ f.width else d.rd g :=
  Sparse.get_set _ _ _ _ _
@[simp] theorem Dev.rd_wr_same (f : Fld) (v : Nat) : (d.wr f v).rd f = v % 2 ^ f.width := Sparse.get_set_same _ _ _ _
theorem Dev.rd_wr_other {f g : Fld} (v : Nat) (h : g.id ≠ f.id) : (d.wr f v).rd g = d.rd g := by
  rw [Dev.rd_wr, if_neg h]

/-- Setting, clearing and counting are writes. -/
theorem Dev.set_eq (f : Fld) : d.set f = d.wr f 1 := rfl
theorem Dev.clr_eq (f : Fld) : d.clr f = d.wr f 0 := rfl
theorem Dev.bump_eq (f : Fld) (n : Nat) : d.bump f n = d.wr f (min (d.rd f + n) (2 ^ f.width - 1)) := rfl
/-- Changing one part is setting it to what the change makes of it. -/
theorem Dev.modMac_eq (p : Nat) (h : Mac → Mac) : d.modMac p h = d.setMac p (h (d.mac p)) := rfl
theorem Dev.modSap_eq (n : Nat) (h : Sap → Sap) : d.modSap n h = d.setSap n (h (d.sap n)) := rfl
theorem Dev.modRx_eq (f : Nat) (h : RxFlow → RxFlow) : d.modRx f h = d.setRxf f (h (d.rxf f)) := rfl
theorem Dev.modTx_eq (f : Nat) (h : TxFlow → TxFlow) : d.modTx f h = d.setTxf f (h (d.txf f)) := rfl
theorem Dev.modCtx_eq (x : Nat) (h : Ctx → Ctx) : d.modCtx x h = d.setCtx x (h (d.ctx x)) := rfl
@[simp] theorem Dev.wrs_nil : d.wrs [] = d := rfl
@[simp] theorem Dev.wrs_cons (p : Fld × Nat) (l : List (Fld × Nat)) : d.wrs (p :: l) = (d.wr p.1 p.2).wrs l := rfl
@[simp] theorem Dev.when_true (f : Dev → Dev) : d.when true f = f d := rfl
@[simp] theorem Dev.when_false (f : Dev → Dev) : d.when false f = d := rfl
@[simp] theorem Chip.onDev_dev (c : Chip) (f : Dev → Dev) : (c.onDev f).dev = f c.dev := rfl
@[simp] theorem Chip.onDev_mem (c : Chip) (f : Dev → Dev) : (c.onDev f).mem = c.mem := rfl

end Sys2Proof.Machine
end

