-- ==== Sys2Proof/Machine/Pins.lean ====
section
/-! DEFINITION. Which of the other output pins are driven and with what: the drive set of a twin, the pins outside it,
the host's lanes and the boot flash (R346, R361, R376, R408, R432, R438, R463). -/

namespace Sys2Proof.Machine

/-- Has the chip its pins: every supply, RESET_N high, and no JTAG instruction that cuts the pins (R429, R430, R432,
R463)? -/
def Dev.pinsUp (d : Dev) : Bool := d.supplyOk && d.resetN && !d.pinsOff

/-- May a pin be driven that is in the drive set where `shared` (R361)? -/
def Dev.mayDrive (d : Dev) (shared : Bool) : Bool := d.pinsUp && (!shared || d.on F.TWIN_STATUS_PERMIT)

/-- Is BSTg_GATE driven? From the group's next carrier cycle start after permission, as its PH pins are, and whatever
PIN_EN says (R346, R376). -/
def Dev.drivesGate (d : Dev) (g : Nat) : Bool := d.mayDrive true && !d.sys.twin.undriven.contains g

/-- BSTg_GATE at `x` eighths of a CLK_EDGE cycle after the start of the group's running carrier cycle: low outside
START and RUN, none where it is high-Z (R346, R348). -/
def Dev.gatePin (d : Dev) (g : Nat) (x : Int) : Option Bool :=
  if !d.drivesGate g then none
  else some ((d.bstate g == bStart || d.bstate g == bRun) && (d.bst g).gateAt x)

/-- BST_SCLK at CLK_EDGE cycle `t`, MEDPLL divided by 256: driven from the first edge of the internal clock after a take
(R361, R376). -/
def Dev.sclkPin (d : Dev) (t : Nat) : Option Bool :=
  if d.mayDrive true && decide (d.sys.twin.sclkFrom ≤ t) then some (decide (t % 64 < 32)) else none

/-- The rate in Hz at which MCLK_OUT is driven, none where it is high-Z (R361). -/
def Dev.mclkPin (d : Dev) : Option Nat :=
  if d.mayDrive (d.on F.TWIN_SHARE_MISC_MCLK) && d.on F.MEDPLL_CTL_MCLK_EN then
    some (if d.on F.MEDPLL_CTL_MCLK_DIV then 12288000 else 24576000)
  else none

/-- TE_OUT`n` in the CLK_TIME cycle RAW = `t` (R85, R86, R361). -/
def Dev.tePin (d : Dev) (n t : Nat) : TeOut :=
  if d.mayDrive (bitAt (d.rd F.TWIN_SHARE_MISC_TE) n) then d.teOut n t else .highZ

/-- The pins of SAP`n`: those that it would drive are high-Z where it may not (R167, R187, R361). -/
def Dev.sapPins (d : Dev) (n : Nat) : List PinRole :=
  (d.sap n).pins.map fun r =>
    if r = .output ∧ !d.mayDrive (bitAt (d.rd F.TWIN_SHARE_SAP_PORTS) n) then .highZ else r

/-- HB_OUT (R371, R432, R463). -/
def Dev.hbPin (d : Dev) : PinLevel := if d.pinsUp then d.sys.twin.hbOut else .z

/-- Are the boot flash pins driven: in a SAVE or ERASE, and where the boot ROM, whose reads take no time in the model,
uses them, which between its steps is free (R432, R438)? -/
def Dev.drivesFlash (d : Dev) : Bool :=
  d.pinsUp && (d.on F.LAM_STATUS_FLASH_BUSY || (d.sys.lam.boot.isSome && Config.free d.freeCtr % 2 == 1))

/-- The wait cycle of a read's ready token, where its data is ready in wait cycle `ready`: no later than 1024, from
which the data is zeros (R408, R410). -/
def Dev.tokenAt (d : Dev) (ready : Nat) : Nat := max (d.rd F.SYS_HQ_CFG_DUMMY) (min 1024 ready)

/-- Lane `lane` in data cycle `i` of words of `n` bits: HQ_D1 with the most significant bit first in single-lane form,
HQ_D0 to HQ_D3 with the most significant nibble first in quad form (R407). -/
def hqData (quad : Bool) (lane n : Nat) (ws : List Nat) (i : Nat) : Option Bool :=
  let k := if quad then n / 4 else n
  if (!quad && lane != 1) || decide (ws.length * k ≤ i) then none
  else if quad then some (bitAt (ws.getD (i / k) 0) (4 * (k - 1 - i % k) + lane))
  else some (bitAt (ws.getD (i / k) 0) (k - 1 - i % k))

/-- The level of HQ_D`lane` in cycle `w` after the last address bit of a read, or after the last bit of the word
before in a register block, whose data is ready in wait cycle `ready` and goes on as `ws`: none in cycle 1, low up to
the token, high in it, and then the data (R407, R408, R410, R411, R432). -/
def Dev.hqLane (d : Dev) (quad : Bool) (lane : Nat) (ws : List Nat) (ready w : Nat) : Option Bool :=
  if !d.hostUp || d.pinsOff || decide (w < 2) || (!quad && lane != 1) then none
  else if w ≤ d.tokenAt ready then some (w == d.tokenAt ready)
  else hqData quad lane 32 ws (w - d.tokenAt ready - 1)

/-- The level of HQ_D`lane` in data cycle `i` of STATUS, which has no wait (R407). -/
def Dev.hqStatus (d : Dev) (lane i : Nat) : Option Bool :=
  if !d.hostUp || d.pinsOff then none else hqData d.sys.host.cmd4 lane 16 d.sys.host.out i

/-! ### The boundary-scan cells (R462, R463) -/

/-- What boundary cell `n` drives on its output-capable pin: under EXTEST and CLAMP its update latch, whose bits are
free since the table has no row that scans the register; none at a pin whose cell only observes, `power` (R462, R463). -/
def Dev.cellPin (d : Dev) (power : Bool) (n : Nat) : Option Bool :=
  if power || !(d.sys.jtag.ir == .extest || d.sys.jtag.ir == .clamp) || !d.missing.isEmpty then none
  else some (Config.scanLatch n)

/-- The pins whose cells only observe while an instruction cuts the pins: PHn_H, PHn_L, BSTg_GATE and BATON, none of
which is driven then. -/
theorem Dev.cut_power (d : Dev) (h : d.cut = true) (g ph : Nat) (x : Int) :
    d.drivesBaton = false ∧ d.phPins ph x = none ∧ d.gatePin g x = none := by
  simp [Dev.drivesBaton, Dev.phPins, Dev.drivesPh, Dev.gatePin, Dev.drivesGate, Dev.mayDrive, Dev.pinsUp,
    Dev.pinsOff, h]

end Sys2Proof.Machine
end

