-- ==== Sys2Proof/Tests/Fixtures.lean ====
section
/-! SUPPORT. Small states that the tests build on. -/

namespace Sys2Proof.Test
open Sys2Proof.Machine

/-- A pseudo-random number. -/
def rnd (k : Nat) : Nat := (k * 6364136223846793005 + 1442695040888963407) % 2 ^ 64 / 2 ^ 20

/-- The device after reset with values drawn from `seed` in the fields `fs`. -/
def rst (fs : List Fld) (seed : Nat) : Dev :=
  (fs.foldl (fun (p : Dev × Nat) f => (p.1.wr f (p.2 / 64), rnd p.2)) (Dev.reset, rnd (rnd seed))).1

/-- The state after reset with the device `d`. -/
def mkS (d : Dev) : State := { State.reset with chip := { State.reset.chip with dev := d } }

end Sys2Proof.Test
end

