-- ==== Sys2Proof/Tests/Slice0.lean ====
section
/-! SUPPORT. Tests: a command of every kind that WellFormed refuses, the words of the command table, single steps whose
results the spec's rules and worked examples give, and witnesses for the statements over all commands. -/

namespace Sys2Proof.Test
open Sys2Proof.Machine Sys2Proof.Claim

-- one theorem at a time: side by side their evaluations take too much memory
set_option Elab.async false
set_option maxRecDepth 20000

/-! ### What WellFormed refuses -/

/-- One command for each of its checks, with an operand that names nothing. -/
theorem test_illFormed :
    [Instr.padWrite 12 0, .vtChange true true true, .rateWindowEnd 0 0 524288, .rateWindowEnd 0 2730666 0,
      .csBlockEnd 0 (List.replicate 23 0), .inputPacketPush 0 false (List.replicate 33 none) true,
      .routeWrite 0x2050 0 false, .carrierCycleStart 0 [] false 0 (List.replicate 9 0),
      .illegalInstruction 0 0].any WellFormed = false := by decide +kernel

/-- The same with operands at the edge of what they may name. -/
theorem test_wellFormed :
    [Instr.padWrite 16 0, .vtChange true true false, .rateWindowEnd 0 1 1, .csBlockEnd 0 (List.replicate 24 0),
      .inputPacketPush 0 false (List.replicate 32 none) true, .routeWrite 0x209F 0 false,
      .carrierCycleStart 0 [true] false 0 (List.replicate 8 0), .bstOvervoltage 0 [],
      .illegalInstruction 0 0x24000000, .nop 0].all WellFormed = true := by decide +kernel

/-! ### The command table gives no word -/

theorem test_decodeTableWord : decodeTableWord 32 0x2902C000 = none := rfl
theorem test_withFetchWord : State.reset.withFetchWord 32 0x2902C000 = State.reset := rfl

/-- The encodings of chapter 11's example and the all-zero word are defined; op 9 and a non-zero reserved field are not
(R267). -/
theorem test_isaDefined :
    [0x2902C000, 0x4CA20002, 0xA8053803, 0].all isaDefined = true ∧ [0x24000000, 0x2902C001].any isaDefined = false := by
  decide +kernel

/-! ### Formats -/

/-- The worked example of chapter 6: one CSF-16 block, and the samples read back. -/
theorem test_csf16 :
    let b := [0x3D, 0x30, 0xD4, 0x85, 0xEE, 0x00, 0x00, 0x13, 0x88, 0xDD, 0xD0, 0x40, 0x00]
    csfEncode false [100000, -250000, 3, 40004, -70012, 131071] = b ∧
      csfDecode false b = [100000, -250000, 0, 40000, -70016, 131072] := by decide +kernel

/-- The same samples in CSF-12 take the exponent 7. -/
theorem test_csf12_exponent : csfExp true [100000, -250000, 3, 40004, -70012, 131071] = 7 := by decide +kernel

/-! ### Single steps -/

/-- Context 5, ready at PC 64 with its line cached and the registers `g`. -/
def ready (g : List (Nat × Word)) (d : Dev) : State :=
  mkS ((d.setCtx 5 { Ctx.init with run := .ready, pc := 64, g := g }).setLines 1 [(0, 1)])

/-- Does the step of `i` from `s` answer a next state that satisfies `p`? -/
def steps (s : State) (i : Instr) (p : Dev → Bool) : Bool :=
  match step { s with pending := [i] } with
  | .next t => t.pending.isEmpty && p t.chip.dev
  | _ => false

theorem test_add_wraps :
    steps (ready [(1, 0xFFFFFFFF), (2, 2)] Dev.reset) (.add 5 3 1 2)
      (fun d => (d.ctx 5).rdG 3 == 1 && (d.ctx 5).pc == 68) = true := by decide +kernel

/-- Register 0 takes nothing. -/
theorem test_add_to_zero :
    steps (ready [(1, 5)] Dev.reset) (.add 5 0 1 1) (fun d => (d.ctx 5).rdG 0 == 0) = true := by decide +kernel

/-- ADDS saturates and sets SAT, FSR[8] (R275). -/
theorem test_adds_saturates :
    steps (ready [(1, 0x7FFFFFFF), (2, 1)] Dev.reset) (.adds 5 3 1 2)
      (fun d => (d.ctx 5).rdG 3 == 0x7FFFFFFF && (d.ctx 5).fsr == 256) = true := by decide +kernel

/-- 1.5 + 1.5 = 3, exactly. -/
theorem test_fadd :
    steps (ready [(1, 0x3FC00000), (2, 0x3FC00000)] Dev.reset) (.fadd 5 3 1 2)
      (fun d => (d.ctx 5).rdG 3 == 0x40400000 && (d.ctx 5).fsr == 0) = true := by decide +kernel

/-- A taken branch goes to its own address + 4 × off16; one not taken goes on (R298). -/
theorem test_beq :
    steps (ready [(1, 7)] Dev.reset) (.beq 5 1 0 0xFFFF) (fun d => (d.ctx 5).pc == 68) = true ∧
      steps (ready [(1, 7), (2, 7)] Dev.reset) (.beq 5 1 2 0xFFFF) (fun d => (d.ctx 5).pc == 60) = true := by
  decide +kernel

/-- The worked example of chapter 8: a reset in the middle of a packet. Words of the packet cut off are discarded to its
end mark, and the next packet is stored in the new epoch. -/
def q900 : Dev :=
  (Dev.reset.wrs [(F.Q_CFG_EN 900, 1), (F.Q_CFG_GRANT 900, 4), (F.QM_REGION_CELLS, 64)]).setQ 900
    { Queue.init with epoch := 17, openWords := [⟨1, false, 0⟩, ⟨2, false, 0⟩, ⟨3, false, 0⟩], chain := [9] }

theorem test_reset_in_packet :
    steps (mkS q900) (.queueResetWrite 900) (fun d => (d.q 900).asked == 1 && (d.q 900).epoch == 17) = true ∧
    steps (mkS (q900.setQ 900 { q900.q 900 with asked := 1 })) (.queueReset 900)
      (fun d => (d.q 900).epoch == 18 && (d.q 900).openWords.isEmpty && (d.q 900).discard) = true := by decide +kernel

theorem test_discard_to_end :
    steps (mkS (q900.setQ 900 { Queue.init with discard := true })) (.queuePush 900 4 false 0)
      (fun d => (d.q 900).discard && (d.q 900).openWords.isEmpty) = true ∧
    steps (mkS (q900.setQ 900 { Queue.init with discard := true })) (.queuePush 900 6 true 0)
      (fun d => !(d.q 900).discard && (d.q 900).packets.isEmpty) = true := by decide +kernel

/-- The worked example of chapter 3: an OFFSET step of -1500 ns moves RESIDUAL by -24 000 and sets ANCHOR_CHECK. -/
theorem test_offset_step :
    steps (mkS ((Dev.reset.wrs [(F.TIME_STATUS_STATE, 1), (F.TIME_JUMP_LIMIT_LIMIT, 10000)]).modTime
        fun t => { t with running := true }))
      (.offsetWrite (BitVec.ofInt 64 (-1500)) false)
      (fun d => decide (d.time.offset = -1500) && decide (d.time.residual = -24000) &&
        d.on F.TIME_STATUS_ANCHOR_CHECK) = true := by decide +kernel

/-- The same step of 15 µs is refused. -/
theorem test_offset_refused :
    steps (mkS ((Dev.reset.wrs [(F.TIME_STATUS_STATE, 1), (F.TIME_JUMP_LIMIT_LIMIT, 10000)]).modTime
        fun t => { t with running := true }))
      (.offsetWrite (BitVec.ofInt 64 (-15000)) false)
      (fun d => decide (d.time.offset = 0) && decide (d.time.residual = 0) &&
        d.on F.TIME_STATUS_JUMP_REFUSED) = true := by decide +kernel

/-- TIME.RATE is cut to 500 ppm (R59). -/
theorem test_rate_clamped :
    steps (mkS Dev.reset) (.rateWrite 0x7FFFFFFF)
      (fun d => d.rd F.TIME_RATE_RATE == 549755813 && d.on F.TIME_STATUS_RATE_CLAMPED &&
        d.on F.TIME_EVENTS_RATE_CLAMP_EV) = true := by decide +kernel

/-- In reset a command does nothing (R431). -/
theorem test_held_in_reset :
    steps (mkS { Dev.reset with resetN := false }) (.rateWrite 5) (fun d => d.rd F.TIME_RATE_RATE == 0) = true := by
  decide +kernel

/-! ### Witnesses for the statements over all commands -/

theorem witness_StepRunsFront : ∃ s : State, ∃ i rest, s.pending = i :: rest :=
  ⟨{ State.reset with pending := [.nop 0] }, .nop 0, [], rfl⟩

/-- A state with RAW running and no command waiting. -/
def running : State := mkS (Dev.reset.modTime fun t => { t with running := true })

theorem witness_IdleCycle :
    (Live running ∧ running.pending = [] ∧ running.chip.dev.time.running = true) ∧
      State.reset.chip.dev.time.running = false := by decide +kernel

/-- The holder of a pair, with an invalidation pending and an image that VERIFY reads. -/
def busyState : State :=
  mkS { (Dev.reset.modTime fun t => { t with running := true }).wrs [(F.TWIN_CFG_MODE, 1), (F.TWIN_STATUS_PERMIT, 1),
    (F.TWIN_STATUS_STATE, 2), (F.MMU_INV_BUSY, 1), (F.LAM_STATUS_BUSY, 1), (F.LAM_STATUS_STATE, 2)] with
      inv := [⟨3, 0, 0, none⟩] }

theorem witness_MemoryStaysCanonical :
    ∃ t, step busyState = .next t ∧ busyState.memWf = true ∧ busyState.chip.dev.pool.out = [] ∧ FramesNamed busyState ∧
      StatusTrue busyState :=
  ⟨_, rfl, by decide +kernel, by decide +kernel, ⟨fun _ => trivial, fun _ _ h => (List.not_mem_nil h).elim,
    fun _ h => (List.not_mem_nil h).elim⟩, by unfold StatusTrue; decide +kernel⟩

theorem witness_CommandsComplete : WellFormed (.padWrite 12 0) = false := by decide +kernel

theorem witness_Held :
    atThePins (.nop 0) = false ∧ { Dev.reset with supplyOk := false }.supplyOk = false ∧
      { Dev.reset with resetN := false }.resetN = false ∧ atThePort (.nop 0) = false := by decide +kernel

/-- A pop of a word that waits, and one of an empty queue. -/
def popState (ps : List Packet) : State :=
  ready [] ((Dev.reset.wr (F.Q_CFG_EN 7) 1).setQ 7 { Queue.init with packets := ps, chain := [3] })

theorem witness_PopWrites :
    Issues (popState [⟨[⟨5, true, 2⟩], none, some 0, 0, false, 0⟩]) 5 ∧ Issues (popState []) 5 ∧ (1 : BitVec 5) ≠ 2 := by
  decide +kernel

end Sys2Proof.Test
end

