-- ==== Sys2Proof/Tests/WitnessClock.lean ====
section
/-! SUPPORT. Witnesses for the statements of the claims' part long: for every clause a state and operands that meet its
hypotheses together. -/

namespace Sys2Proof.Test.Clock
open Sys2Proof.Machine Sys2Proof.Claim

-- one theorem at a time: side by side their evaluations take too much memory
set_option Elab.async false
set_option synthInstance.maxHeartbeats 2000000
set_option synthInstance.maxSize 100000
set_option maxRecDepth 20000

def fs1 : List Fld := [F.SYSPLL_STATUS_LOCK, F.MEDPLL_STATUS_REF_VALID, F.SYSPLL_STATUS_REF_LOST,
    F.SYSPLL_SPREAD_EN, F.MEDPLL_CTL_MODE, F.SYSPLL_STATUS_VT_LOW, F.MEDPLL_STATUS_VT_LOW, F.TWIN_CFG_MODE,
    F.TWIN_STATUS_STATE, F.TWIN_STATUS_FIT]
/-- A small state that varies with `n`. -/
def s1 (n : Nat) : State := mkS { (rst fs1 n).wrs [(F.SYSPLL_BANDTAB_A_VALID 3, 1),
    (F.SYSPLL_BANDTAB_A_T_HI 3, 100)] with
  time := { TimeSt.init with running := n % 2 == 0 },
  clk := { ClkSt.init with active := ⟨n / 2 % 3, 0, 0⟩ } }

/-- The hypotheses of the clauses of `SysPll`, each once. -/
def sysPllHyps (s : State) (_en low high : Bool) (_t : Int) : List Bool :=
  let outer := Live s
  [decide outer,
    decide (outer ∧ s.chip.dev.on F.SYSPLL_STATUS_LOCK = true ∧ s.chip.dev.clk.active.sel = 0 ∧
        s.chip.dev.on F.MEDPLL_STATUS_REF_VALID = true),
    decide (outer ∧ s.chip.dev.on F.SYSPLL_STATUS_LOCK = false),
    decide (outer ∧ s.chip.dev.on F.SYSPLL_STATUS_REF_LOST = false),
    decide (outer ∧ s.chip.dev.on F.SYSPLL_STATUS_REF_LOST = true),
    decide (outer ∧ (low && high) = false ∧ s.chip.dev.time.running = true),
    decide (outer ∧ (low && high) = false ∧ s.chip.dev.on F.MEDPLL_CTL_MODE = true)]

theorem witness_SysPll :
    ((List.range 7).zip [0, 1, 0, 0, 2, 2, 7]).all (fun (k, n) =>
      ((sysPllHyps (s1 n) (n % 3 == 0) (n % 5 == 0) (n % 3 == 0) (n * 7-100))[k]?).getD false) = true := by
  decide +kernel

end Sys2Proof.Test.Clock

namespace Sys2Proof.Test.Media
open Sys2Proof.Machine Sys2Proof.Claim

-- one theorem at a time: side by side their evaluations take too much memory
set_option Elab.async false
set_option synthInstance.maxHeartbeats 2000000
set_option synthInstance.maxSize 100000
set_option maxRecDepth 20000

def fs1 : List Fld := [F.SYSPLL_STATUS_LOCK, F.MEDPLL_STATUS_REF_VALID, F.MEDPLL_STATUS_LOCK, F.MEDPLL_CTL_MODE,
    F.MEDPLL_CTL_FALLBACK, F.MEDPLL_STATUS_COAST, F.MEDPLL_STATUS_REF_JUMP_REFUSED, F.MEDPLL_STATUS_REALIGN_PENDING,
    F.MEDPLL_STATUS_FREQ_ALARM, F.TWIN_STATUS_STATE, F.TWIN_STATUS_FIT, F.LAM_VER_CUR_VERSION,
    F.MEDPLL_CTL_OPEN_BAND, F.MOD_GANG_STATUS_STATE 0, F.MOD_GANG_STATUS_STATE 5, F.MOD_GRP_CFG_LAYOUT 0,
    F.MOD_GRP_CFG_LAYOUT 1]
/-- A small state that varies with `n`. -/
def s1 (n : Nat) : State := mkS { (rst fs1 n).wrs ([(F.MEDPLL_BANDTAB_A_VALID 3, 1),
    (F.MEDPLL_BANDTAB_A_T_HI 3, 100), (F.TWIN_CFG_MODE, n % 2),
    (F.MEDPLL_BANDTAB_B_F_HI 3, 1000)]++ (if n % 4<3 then [(F.MOD_GANG_STATUS_STATE 0, 0),
    (F.MOD_GANG_STATUS_STATE 5, 0)] else [])) with
  tick := n,
  sys := { Dev.reset.sys with jtag := { Jtag.init with ir := if n % 11 == 10 then .extest else .idcode } },
  time := { TimeSt.init with
    running := n % 2 == 0,
    raw := 100000,
    residual := [0, 5, -7, 100000, 3].getD (n % 5) 0,
    mediaCount := 7 },
  clk := { ClkSt.init with
    active := ⟨n / 2 % 3, 0, n % 4⟩,
    measure := n % 4 != 0,
    relockMark := n % 5 != 0,
    acq := if n % 5 == 2 then .none else .mark,
    realign := [.none, .acquiring, .waiting 0, .draining 0, .acquiring].getD (n % 5) .none,
    cal := if n % 3 == 0 then none else some (1, 2),
    refused := if n % 3 == 0 then none else some (n * 500),
    freqGood := if n % 3 == 0 then 1 else 7,
    pending := if n % 3 == 0 then none else some (⟨n % 3, 0, 1⟩, 3) } }

/-- The hypotheses of the clauses of `MedPll`, each once. -/
def medPllHyps (s : State) (o : Int) : List Bool :=
  let outer := Live s
  let d0 := s.chip.dev
  [decide (outer ∧ d0.cut = false),
    decide (outer ∧ d0.cut = true ∧ d0.clk.active.sel ≠ 0),
    decide (outer ∧ d0.clk.active.sel ≠ 0 ∧ d0.on F.MEDPLL_STATUS_REF_VALID = true ∧
        d0.on F.MEDPLL_CTL_MODE = true),
    decide (outer ∧ d0.clk.measure = true ∧ d0.on F.MEDPLL_CTL_MODE = true ∧
        d0.on F.MEDPLL_STATUS_REF_VALID = true ∧ o.natAbs ≤ 16 * d0.rd F.TIME_JUMP_LIMIT_LIMIT ∧
        (d0.time.residual + o).natAbs ≤ 1600000000),
    decide (outer ∧ d0.clk.measure = true ∧ d0.on F.MEDPLL_CTL_MODE = true ∧
        d0.on F.MEDPLL_STATUS_REF_VALID = true ∧ d0.clk.active.sel ≠ 0 ∧
        16 * d0.rd F.TIME_JUMP_LIMIT_LIMIT < o.natAbs),
    decide (outer ∧ d0.on F.MEDPLL_CTL_MODE = true ∧ d0.on F.MEDPLL_STATUS_LOCK = false),
    decide (outer ∧ d0.on F.MEDPLL_CTL_MODE = true ∧ d0.on F.MEDPLL_STATUS_LOCK = true),
    decide (outer ∧ d0.clk.relockMark = true ∧ o.natAbs ≤ 16 * d0.rd F.TIME_JUMP_LIMIT_LIMIT ∧
        (d0.time.residual + o).natAbs ≤ 1600000000),
    decide (outer ∧ d0.clk.relockMark = true ∧ 16 * d0.rd F.TIME_JUMP_LIMIT_LIMIT < o.natAbs)]

theorem witness_MedPll :
    ((List.range 9).zip [0, 10, 3, 1, 45, 0, 2, 1, 38]).all (fun (k, n) =>
      ((medPllHyps (s1 n) (n * 7000-100000))[k]?).getD false) = true := by
  decide +kernel

/-- The hypotheses of the clauses of `MedCtl`, each once. -/
def medCtlHyps (s : State) (v : Word) (_k : Int) (_band : BitVec 5) (_vt : BitVec 2) (_n : Nat) (r : RefChoice)
    (t : Nat) : List Bool :=
  let outer := Live s
  let d0 := s.chip.dev
  [decide (outer ∧ d0.rd F.MEDPLL_CTL_MODE = 0 ∧ v.toNat % 2 = 0 ∧ d0.anyReleased = false),
    decide (outer ∧ d0.rd F.MEDPLL_CTL_MODE = 0 ∧ v.toNat % 2 = 1 ∧ d0.anyReleased = false),
    decide (outer ∧ d0.rd F.MEDPLL_CTL_MODE = 1 ∧ v.toNat % 2 = 0 ∧ d0.anyReleased = true),
    decide (outer ∧ d0.clk.pending = some (r, t) ∧ t < d0.tick ∧ d0.on F.MEDPLL_CTL_MODE = true),
    decide (outer ∧ d0.clk.acq = .mark ∧ d0.on F.MEDPLL_STATUS_LOCK = true ∧ d0.clk.realign ≠ .acquiring),
    decide (outer ∧ d0.clk.acq = .mark ∧ d0.on F.MEDPLL_STATUS_LOCK = true ∧ d0.clk.realign = .acquiring ∧
        d0.time.mediaLoaded = false),
    decide (outer ∧ d0.on F.MEDPLL_CTL_MODE = false ∧ d0.anyReleased = false),
    decide (outer ∧ d0.anyReleased = true),
    decide (outer ∧ d0.clk.cal ≠ none)]

theorem witness_MedCtl :
    ((List.range 9).zip [15, 4, 31, 8, 10, 4, 4, 23, 1]).all (fun (k, n) =>
      ((medCtlHyps (s1 n) (BitVec.ofNat 32 (rnd n)) (n-7) (BitVec.ofNat 5 n) (BitVec.ofNat 2 n) (n * 3) ⟨n % 3, 0,
          1⟩ 3)[k]?).getD false) = true := by
  decide +kernel

end Sys2Proof.Test.Media

namespace Sys2Proof.Test.Slew
open Sys2Proof.Machine Sys2Proof.Claim

-- one theorem at a time: side by side their evaluations take too much memory
set_option Elab.async false
set_option synthInstance.maxHeartbeats 2000000
set_option synthInstance.maxSize 100000
set_option maxRecDepth 20000

def fs1 : List Fld := [F.SYSPLL_STATUS_LOCK, F.MEDPLL_STATUS_REF_VALID, F.MEDPLL_STATUS_LOCK, F.MEDPLL_CTL_MODE,
    F.MEDPLL_CTL_FALLBACK, F.MEDPLL_STATUS_COAST, F.MEDPLL_STATUS_REF_JUMP_REFUSED, F.MEDPLL_STATUS_REALIGN_PENDING,
    F.MEDPLL_STATUS_FREQ_ALARM, F.TWIN_STATUS_STATE, F.TWIN_STATUS_FIT, F.LAM_VER_CUR_VERSION,
    F.MEDPLL_CTL_OPEN_BAND, F.MOD_GANG_STATUS_STATE 0, F.MOD_GANG_STATUS_STATE 5, F.MOD_GRP_CFG_LAYOUT 0,
    F.MOD_GRP_CFG_LAYOUT 1]
/-- A task, periodic or free, and a context with its block. -/
def tk1 (n : Nat) : Task := ⟨n % 3 == 1, true, 4, 0, 3, 0x1000, 0, [], [⟨7, 1, false⟩], [], 0x2000⟩
def ctx1 (n : Nat) : Ctx :=
  { Ctx.init with run := .ready, task := some (tk1 n), copy := .good (tk1 n), lastRel := some 0 }
/-- A small state that varies with `n`. -/
def s1 (n : Nat) : State := mkS { (rst fs1 n).wrs ([(F.MEDPLL_BANDTAB_A_VALID 3, 1),
    (F.MEDPLL_BANDTAB_A_T_HI 3, 100), (F.TWIN_CFG_MODE, n % 2),
    (F.MEDPLL_BANDTAB_B_F_HI 3, 1000)]++ (if n % 4<3 then [(F.MOD_GANG_STATUS_STATE 0, 0),
    (F.MOD_GANG_STATUS_STATE 5, 0)] else [])) with
  tick := if n == 8 then 2 else n,
  ctxs := [(5, ctx1 n)],
  time := { TimeSt.init with
    running := n % 2 == 0,
    raw := 100000,
    residual := [0, 5, -7, 100000, 3].getD (n % 5) 0,
    mediaCount := 7 },
  clk := { ClkSt.init with
    active := ⟨n / 2 % 3, 0, 0⟩,
    measure := n % 4 != 0,
    relockMark := n % 5 != 0,
    acq := if n % 5 == 2 then .none else .mark,
    realign := [.none, .acquiring, .waiting 0, .draining 0, .acquiring].getD (n % 5) .none,
    cal := if n % 3 == 0 then none else some (1, 2),
    refused := if n % 3 == 0 then none else some (n * 500),
    freqGood := if n % 6 == 1 then 1 else 7,
    pending := if n % 3 == 0 then none else some (⟨n % 3, 0, 1⟩, 3) } }
def noDrain (n : Nat) : Bool := n % 5 != 3

/-- The hypotheses of the clauses of `Realign`, each once. -/
def realignHyps (s : State) (n : Nat) (o : Int) (b : Nat) (x : Fin 64) (tk : Task) : List Bool :=
  let outer := Live s
  let d0 := s.chip.dev
  [decide (outer ∧ d0.time.residual ≠ 0 ∧ 31250 ≤ (d0.time.raw - d0.time.slewRaw) * d0.rd F.MEDPLL_SLEW_SLEW_MAX ∧
      d0.rd F.TIME_RATE_RATE = 0),
    decide (outer ∧ d0.clk.refused = some o ∧ (d0.time.residual + o).natAbs ≤ 1600000000),
    decide (outer ∧ d0.on F.MEDPLL_STATUS_REALIGN_PENDING = false ∧ d0.on F.MEDPLL_STATUS_REF_VALID = true ∧
        d0.on F.MEDPLL_CTL_MODE = true),
    decide (outer ∧ d0.on F.MEDPLL_STATUS_REALIGN_PENDING = false ∧ (d0.on F.MEDPLL_STATUS_REF_VALID = false ∨
        d0.on F.MEDPLL_CTL_MODE = false)),
    decide (outer ∧ d0.on F.MEDPLL_STATUS_REALIGN_PENDING = true),
    decide (outer ∧ d0.clk.realign = .waiting b ∧ b < d0.tick ∧ d0.drive.drain = none ∧ d0.switchDue = false),
    decide (outer ∧ d0.clk.realign = .draining b ∧ b + 2 ≤ d0.tick),
    decide (outer ∧ d0.clk.realign = .draining b ∧ b + 2 ≤ d0.tick ∧ (d0.ctx x).restart = false ∧
        (d0.ctx x).task.any (fun t => !t.free) = true ∧ ((d0.ctx x).run = .ready ∨ (d0.ctx x).run = .yielded ∨
        (d0.ctx x).run = .faulted) ∧ (d0.ctx x).lastRel = some b ∧ (d0.ctx x).copy = .good tk ∧ 3 ≤ tk.n ∧
        d0.tick = b + 2),
    decide (outer ∧ d0.clk.realign = .draining b ∧ b + 2 ≤ d0.tick ∧ (d0.ctx x).restart = false ∧
        (d0.ctx x).task.all (fun t => t.free) = true ∧ (d0.ctx x).run ≠ .idle),
    decide (outer ∧ d0.on F.MEDPLL_STATUS_FREQ_ALARM = false ∧ 12288 < ((n : Int) - 12288).natAbs * 1000),
    decide (outer ∧ d0.on F.MEDPLL_STATUS_FREQ_ALARM = false ∧ ((n : Int) - 12288).natAbs * 1000 ≤ 12288),
    decide (outer ∧ d0.on F.MEDPLL_STATUS_FREQ_ALARM = true ∧ 12288 < ((n : Int) - 12288).natAbs * 2000),
    decide (outer ∧ d0.on F.MEDPLL_STATUS_FREQ_ALARM = true ∧ ((n : Int) - 12288).natAbs * 2000 ≤ 12288 ∧
        d0.clk.freqGood < 7),
    decide (outer ∧ d0.on F.MEDPLL_STATUS_FREQ_ALARM = true ∧ ((n : Int) - 12288).natAbs * 2000 ≤ 12288 ∧
        d0.clk.freqGood = 7)]

theorem witness_Realign :
    ((List.range 14).zip [1, 2, 1, 4, 0, 12, 8, 8, 28, 3, 1, 0, 85, 40]).all (fun (k, n) =>
      ((realignHyps (s1 n) (if n % 3 == 1 then 12288 + n % 20 else n * 3) (if n % 2 == 0 then n * 500
          else n * 7000-100000) (n % 4) 5 (tk1 n))[k]?).getD false) = true := by
  decide +kernel

end Sys2Proof.Test.Slew
end

