-- ==== Sys2Proof/Tests/WitnessControl.lean ====
section
/-! SUPPORT. Witnesses for the statements of the claims' part mem: for every clause a state and operands that meet its
hypotheses together. -/

namespace Sys2Proof.Test.Control
open Sys2Proof.Machine Sys2Proof.Claim

-- one theorem at a time: side by side their evaluations take too much memory
set_option Elab.async false
set_option synthInstance.maxHeartbeats 2000000
set_option synthInstance.maxSize 100000
set_option maxRecDepth 20000

def fs6 : List Fld := [F.X_CNT_COUNT 1 1 7, F.MMU_FAULT_CNT_CORE, F.MMU_FAULT_CNT_DMA, F.DMA_STATUS_CAUSE 3,
    F.DMA_EVENTS_DONE_EV 3, F.CORE_HALT_HALT 1, F.X_CNT_COUNT 1 1 2, F.DMA_CNT_DESCS 3, F.DMA_STATUS_WHERE 3,
    F.DMA_DESC_VA 3]
def kv (k : Nat) : Word :=
  let r := rnd (rnd (k + 77)); let c := r % 9
  BitVec.ofNat 32 (if c == 0 then 0x80000000 else if c == 1 then 0x7FFFFFFF else if c == 2 then 0
      else if c == 3 then 0xFFFFFFFF else if c == 4 then r / 16 % 64 else r / 16)
def fs17 : List Fld := fs6 ++ [F.TWIN_CONVERGE_TICKS, F.MMU_INV_BUSY]
def k17 (n : Nat) : Ctx :=
  let v := fun j => let r := rnd (rnd (n * 40 + j)); BitVec.ofNat 32 (if r % 23 == 11 then 0x34 else if r % 8 == 0 then 0 else if r % 8 == 1 then 1
      else if r % 8 == 2 then [0x380020, 0x3C0000, 0x70000000, 0x800004, 0xF0000000].getD (r / 8 % 5) 0
      else if r % 8 == 3 then if r % 16 == 11 then 2 + 16 * (r / 16 % 9) else (r / 8 % 32) + 256 * ([1, 4, 0,
      2, 8].getD (r / 256 % 5) 0) else if r % 8 == 4 then 2 ^ 32-1-r / 8 % 3 else if r % 8 == 5 then 2 ^ 31 + r / 8 % 3
      else if r % 8 == 6 then 7 + 4096 * (r / 8 % 3) else r / 8)
  let tk : Task := ⟨n % 3 == 0, false, 1, 0, 3, 0x1000, 0,
    if n % 5 == 0 then [⟨7, 1, false⟩] else if n % 5 == 3 then [⟨1000, 1, false⟩] else [],
    if n % 5 == 1 then [⟨7, 1, false⟩] else [],
    if n % 5 == 4 then [⟨0, 0, 0, n % 2 == 0⟩, ⟨0, 64, 4, n % 2 == 1⟩] else [], 0x2000⟩
  { Ctx.init with
    run := .ready,
    asid := 3,
    pc := if n % 7 == 0 then 2 ^ 32-4 else if n % 19 == 3 then 0xF0000002 else 64,
    fsr := if n % 3 == 0 then 0 else rnd n % 4096,
    g := ((List.range 32).drop 1).filterMap fun j => if v j == 0 then none else some (j, v j),
    task := if n % 4 == 0 then none else some tk,
    epc := 0x1230,
    outSlots := if n % 2 == 0 then [] else [(7, ⟨1, n / 2 % 2, n / 4 % 2 == 0, n / 8 % 2 == 0, false⟩)],
    p := [(2, 0x123), (5, 0x80)],
    ecause := if n % 2 == 0 then 2 ^ 31 + 7 else 6,
    release := 5 }
/-- A small state that varies with `n`. -/
def s17 (n : Nat) : State :=
  let k := k17 n
  let d := (rst fs17 (n * 31 + 5)).wrs [(F.MMU_FAULTQ_EN, 0), (F.CORE_HALT_HALT 1, 0),
      (F.CORE_CFG_PRIV 1, if n % 6 == 0 then 13 else 15), (F.Q_CFG_EN 7, bit (n % 11 != 1)),
      (F.Q_CFG_GRANT 7, n % 3), (F.DMA_DESC_VA 3, 0x1234), (F.QM_FREE_COMMON, 77), (F.LAM_STATUS_STATE, 2)]
  let d := (List.range 32).foldl (fun d ch => (d.wr (F.DMA_STATUS_STATE ch) (if n % 2 == 0 then 0
      else ch % 4)).wr (F.DMA_DESC_VA ch) (64 * ch + 3)) d
  let d := (d.setCtx 5 k).setCtx 6 { Ctx.init with pc := 9 }
  let d := d.setReq 6 { Requester.init with space := n % 3, offset := [8, 0, 4, 0x24].getD (n / 3 % 4) 0, autoinc := n % 2 == 0 }
  let d := d.setQ 7 { Queue.init with
    epoch := 70000 + n % 2,
    remembered := 70000,
    openWords := if n / 5 % 2 == 0 then [⟨5, false, 1⟩] else [],
    packets := if n % 2 == 0 then [] else [⟨[⟨BitVec.ofNat 32 (n * 99), n % 4 == 1, n % 3⟩]++(if n % 4 == 1 then []
        else [⟨6, true, 0⟩]), none, if n % 7 == 0 then none else some 0, 0, false, 0⟩],
    chain := (List.range (bit (n % 2 == 1))).map (· + 5),
    discard := n % 13 == 0 }
  let d := d.setLines 1 [(3, 1), (3, k.pc / 64), (3, 0), (4, 0)]
  let d := (d.setLines 2 [(3, 1)])
  let d := { d with envs := [((5, n % 8), (6 + n / 8 % 8, 1)), ((6, 1), (6, 2))] }
  { State.reset with chip := ⟨{ d with resetN := true, supplyOk := true }, ⟨[(5, 7#8)], []⟩⟩ }
def mf17 (n : Nat) : Chip := ((s17 n).chip.reach ((s17 n).chip.dev.whoCtx 5)
    ((s17 n).chip.dev.ctx 5).pc 4 Access.fetch).1
def g5 (n : Nat) : BitVec 5 := BitVec.ofNat 5 (rnd n)
-- make QREF = 7 often
def rq17 (n : Nat) : BitVec 5 := if n % 2 == 0 then 0 else g5 (n * 17)
def qi17 (n : Nat) : BitVec 11 := if n % 2 == 0 then 7 else BitVec.ofInt 11 (7 - ((k17 n).rdG (rq17 n)).toInt)
def pk17 (n : Nat) : Packet := ((s17 n).chip.dev.q 7).packets.headD ⟨[], none, none, 0, false, 0⟩
def wd17 (n : Nat) : QWord := (pk17 n).words.headD ⟨0, false, 0⟩
def tk17 (n : Nat) : Task := (k17 n).task.getD ⟨false, false, 1, 0, 3, 0, 0, [], [], [], 0⟩
def iw17 (n : Nat) : Word := match n % 4 with
  | 0 => BitVec.ofNat 32 (9 * 2 ^ 26 + rnd n % 2 ^ 26)
  | 1 => BitVec.ofNat 32 (rnd n % 2 ^ 26 / 64 * 64 + 18 + n % 46)
  | 2 => if n % 9 == 4 then 0 else BitVec.ofNat 32 (61 * 2 ^ 26 + n)
  | _ => BitVec.ofNat 32 (2 ^ 32-1-rnd n % 2 ^ 20)

/-- The hypotheses of the clauses of `Branches`, each once. -/
def branchesHyps (s : State) (x : Fin 64) (_rd rs _rt : BitVec 5) (_off : BitVec 16) (_far : BitVec 26)
    (c1 : Chip) : List Bool :=
  let outer := Live s
  let ok := Issues s x
  let k0 := s.chip.dev.ctx x
  let a := k0.rdG rs
  [decide (outer ∧ ok),
    decide (outer ∧ ok ∧ a.toNat ≠ 1 ∧ rs ≠ 0),
    decide (outer ∧ ok ∧ a.toNat = 1),
    decide (outer ∧ ok ∧ rs = 0),
    decide (outer ∧ s.chip.dev.running x = true ∧ k0.pc % 4 ≠ 0 ∧
        (s.chip.reach (s.chip.dev.whoCtx x) k0.pc 1 Access.fetch).2.toOption.isSome = true),
    decide (outer ∧ s.chip.dev.running x = true ∧ k0.pc % 4 ≠ 0 ∧
        s.chip.reach (s.chip.dev.whoCtx x) k0.pc 4 Access.fetch = (c1, .error 8))]

theorem witness_Branches :
    ((List.range 6).zip [0, 0, 10, 5, 3, 3]).all (fun (k, n) =>
      ((branchesHyps (s17 n) 5 (g5 (n * 3)) (g5 (n * 5)) (if n % 3 == 0 then g5 (n * 5) else g5 (n * 7))
          (BitVec.ofNat 16 (rnd (n * 9))) (BitVec.ofNat 26 (rnd (n * 11))) (mf17 n))[k]?).getD false) = true := by
  decide +kernel

/-- The hypotheses of the clauses of `QueueInstructions`, each once. -/
def queueInstructionsHyps (s : State) (x : Fin 64) (_rd _rt rq : BitVec 5) (qimm : BitVec 11) (_t : Fin 3)
    (_g n : BitVec 3)
    (p : Packet) (ps : List Packet) (w : QWord) (ws : List QWord) (tk : Task)
        (e : (Nat × Nat) × (Nat × Nat)) : List Bool :=
  let outer := Issues s x
  let k0 := s.chip.dev.ctx x
  let c := (s.chip.fetch x).1
  let d0 := c.dev
  let q := ((k0.rdG rq).toNat + qimm.toNat) % 4096
  let z := d0.q q
  let plain := k0.task = none ∨ (k0.task = some tk ∧ (tk.free = true ∨ (tk.ins ++ tk.outs).any (fun e =>
      e.queue == q) = false))
  let live := d0.rd (F.Q_CFG_EN q) ≠ 0 ∧ z.err = false
  let room := live ∧ z.discard = false ∧ (z.needsCell = false ∨ 0 < d0.credit q)
  [decide (outer ∧ plain ∧ live ∧ z.packets = p :: ps ∧ p.words = w :: ws ∧ p.arrival.isSome = true),
    decide (outer ∧ plain ∧ live ∧ z.packets = []),
    decide (outer ∧ plain ∧ room),
    decide (outer ∧ plain),
    decide outer,
    decide (outer ∧ k0.task = some tk ∧ tk.free = false ∧ n.toNat < k0.n),
    decide (outer ∧ ((k0.task = none ∨ k0.n ≤ n.toNat)))]

theorem witness_QueueInstructions :
    ((List.range 7).zip [9, 0, 2, 0, 0, 1, 0]).all (fun (k, n) =>
      ((queueInstructionsHyps (s17 n) 5 (g5 (n * 3)) (g5 (n * 5)) (rq17 n) (qi17 n) (Fin.ofNat 3 n)
          (BitVec.ofNat 3 n) (BitVec.ofNat 3 (if n % 2 == 0 then 0 else n / 8)) (pk17 n)
          (((s17 n).chip.dev.q 7).packets.drop 1) (wd17 n) ((pk17 n).words.drop 1) (tk17 n) (if n % 2 == 0 then ((5,
          n % 8), (6 + n / 8 % 8, 1)) else ((6, 1), (6, 2))))[k]?).getD false) = true := by
  decide +kernel

/-- The hypotheses of the clauses of `Control`, each once. -/
def controlHyps (s : State) (x : Fin 64) (_rd : BitVec 5) (w : Word) (t : Task) (_j : Fin 16) (_l : Nat × Nat)
    (b : ListEntry) (i : Fin 8) (pt : PtrInit) : List Bool :=
  let outer := Issues s x
  let k0 := s.chip.dev.ctx x
  let block := k0.task = some t ∧ t.free = false
  [decide outer,
    decide (outer ∧ ((k0.task = none ∨ (k0.task = some t ∧ t.free = true)))),
    decide (outer ∧ block ∧ k0.dmaExc = []),
    decide (outer ∧ block ∧ k0.dmaExc = [] ∧ t.ins = [] ∧ t.outs = [] ∧ t.ptrs = []),
    decide (outer ∧ block ∧ k0.dmaExc = [] ∧ t.ins = [b] ∧ b.plain = false ∧ t.outs = []),
    decide (outer ∧ block ∧ k0.dmaExc = [] ∧ t.ins = [] ∧ t.outs = [b] ∧ b.plain = false),
    decide (outer ∧ block ∧ k0.dmaExc = [] ∧ t.ptrs[i.val]? = some pt ∧ pt.wb = true ∧ t.ptrs.length ≤ 8 ∧
        t.desc + 40 + 12 * i < 2 ^ 26),
    decide (outer ∧ 2 ^ 31 ≤ k0.ecause),
    decide (outer ∧ k0.ecause < 2 ^ 31),
    decide (outer ∧ ((w.toNat / 2 ^ 26 = 9 ∨ 61 ≤ w.toNat / 2 ^ 26 ∨ (w.toNat / 2 ^ 26 = 0 ∧ 18 ≤ w.toNat % 64)))),
    decide (outer ∧ isaDefined w.toNat = true)]

theorem witness_Control :
    ((List.range 11).zip [0, 0, 1, 2, 5, 1, 14, 0, 1, 0, 58]).all (fun (k, n) =>
      ((controlHyps (s17 n) 5 (g5 (n * 3)) (iw17 n) (tk17 n) (Fin.ofNat 16 n) (if n % 3 == 0 then (4, 0) else (3,
          n / 3 % 3)) (match (tk17 n).ins, (tk17 n).outs with | e :: _, _ => e | _, e :: _ => e | _, _ => ⟨0, 0,
          true⟩) (Fin.ofNat 8 (n % 2)) ((tk17 n).ptrs.getD (n % 2) ⟨0, 0, 0, false⟩))[k]?).getD false) = true := by
  decide +kernel

/-- The hypotheses of the clauses of `System`, each once. -/
def systemHyps (s : State) (x : Fin 64) (_rd rs _rt : BitVec 5) (a : Nat) : List Bool :=
  let outer := Issues s x
  let k0 := s.chip.dev.ctx x
  let c := (s.chip.fetch x).1
  let d0 := c.dev
  let r0 := d0.req (x + 1)
  let priv := d0.rd (F.CORE_CFG_PRIV (x / 4)) / 2 ^ (x % 4).val % 2 = 1
  let v := (k0.rdG rs).toNat
  let ch := v % 32
  let cmd := v / 256 % 16
  let none := 0x70000000 ≤ v ∨ (v < 2 ^ 28 ∧ 0x800000 ≤ v % 2 ^ 24)
  [decide (outer ∧ ¬ priv),
    decide (outer ∧ priv),
    decide (outer ∧ priv ∧ v % 4 = 0),
    decide (outer ∧ priv ∧ v % 4 ≠ 0),
    decide (outer ∧ priv ∧ cmd = 1 ∧ d0.rd (F.DMA_STATUS_STATE ch) = 0),
    decide (outer ∧ priv ∧ cmd = 4 ∧ d0.rd (F.DMA_STATUS_STATE ch) = 2),
    decide (outer ∧ priv ∧ cmd = 0),
    decide (outer ∧ priv ∧ cmd = 1),
    decide (outer ∧ priv ∧ cmd = 2),
    decide (outer ∧ priv ∧ cmd = 4),
    decide (outer ∧ priv ∧ cmd = 8),
    decide (outer ∧ priv ∧ v = 0x380020),
    decide (outer ∧ priv ∧ none),
    decide (outer ∧ priv ∧ canonForm v = some a ∧ a ≠ 0x34 ∧ d0.inReset a = false ∧ (beforeScrub a = false ∨
        d0.sys.scrubbed = true)),
    decide (outer ∧ priv ∧ canonForm v = some 0x34 ∧ canonInd r0.space r0.offset = some a ∧ d0.inReset a = false ∧
        (beforeScrub a = false ∨ d0.sys.scrubbed = true)),
    decide (outer ∧ priv ∧ v % 16 = 2 ∧ d0.rd F.LAM_STATUS_STATE = 2 ∧ d0.rd F.LAM_STATUS_BUSY = 0),
    decide (outer ∧ priv ∧ ((v % 16 = 0 ∨ 7 ≤ v % 16)))]

theorem witness_System :
    ((List.range 17).zip [0, 1, 1, 4, 436, 287, 1, 373, 14, 159, 104, 46, 1, 2, 166, 4, 1]).all (fun (k, n) =>
      ((systemHyps (s17 n) 5 (g5 (n * 3)) (g5 (n * 5)) (g5 (n * 7)) (let w :=
          (((s17 n).chip.dev.ctx 5).rdG (g5 (n * 5))).toNat; match canonForm w with
        | some 0x34 => (canonInd ((s17 n).chip.dev.req 6).space ((s17 n).chip.dev.req 6).offset).getD 0
        | some a => a
        | none => 0))[k]?).getD false) = true := by
  decide +kernel

end Sys2Proof.Test.Control
end

