-- ==== Sys2Proof/Tests/WitnessDrive.lean ====
section
/-! SUPPORT. Witnesses for the statements of the claims' part time: for every clause a state and operands that meet its
hypotheses together. -/

namespace Sys2Proof.Test.Drive
open Sys2Proof.Machine Sys2Proof.Claim

-- one theorem at a time: side by side their evaluations take too much memory
set_option Elab.async false
set_option synthInstance.maxHeartbeats 2000000
set_option synthInstance.maxSize 100000
set_option maxRecDepth 20000

def ks : List Nat := [0, 1, 2, 5]
def fs3 : List Fld := ks.flatMap (fun k => [F.MOD_GANG_STATUS_STATE k, F.MOD_GANG_CTL_RUN k,
    F.MOD_GANG_CTL_FLT_MASK k, F.MOD_GANG_CFG_RATE k, F.MOD_GANG_CNT_COUNT k 2]) ++ [F.MOD_GRP_CFG_LAYOUT 0,
    F.MOD_GRP_CFG_LAYOUT 1, F.MEDPLL_STATUS_LOCK, F.MOD_GRP_STATUS_CARRIER_RUN 0, F.MOD_GRP_CFG_LA 0,
    F.MOD_GRP_STATUS_ALL_DOWN 0, F.MOD_GRP_STATUS_CAL_OK 0, F.MOD_GRP_PROT_RETRY_MAX 0, F.BST_STATUS_STATE 0,
    F.BST_LOOP_KI 0, F.BST_ILIM_CODE 0]
/-- A small state that varies with `n`. -/
def s3 (n : Nat) : State := mkS { (rst fs3 (n * 31 + 5)).wrs ([(F.BST_SENSE_FS 0, 20000),
    (F.MOD_GANG_STATUS_STATE 0, n % 8), (F.MOD_GRP_CFG_LAYOUT 0, n / 8 % 5)] ++ if n % 3 == 0 then
    [(F.MOD_GRP_CFG_LA 0, n % 8), (F.MEDPLL_STATUS_LOCK, 1), (F.MOD_GRP_STATUS_CARRIER_RUN 0, 1),
    (F.MOD_GRP_STATUS_CAL_OK 0, 1), (F.MOD_GRP_STATUS_RAIL_READY 0, 1)] else []) with
  tick := n / 7,
  sys := { Dev.reset.sys with jtag := { Jtag.init with ir := if n % 8 == 7 then .extest else .idcode } },
  drive := { Drive.init with
    bsts := [(0, { Bst.init with vNum := 5000 })],
    flt := if n % 4 == 0 then 1 else 4,
    fetched := if n % 5 == 4 then n / 7 + 1 else n / 9,
    gangs := [(0, { Gang.init with
      stopAt := if n % 9 == 0 then none else some (n % 5),
      due := n % 2 == 1,
      faultRaw := if n % 12 < 6 then some 0 else none,
      restartAt := n % 17 })] } }
/-- A small state that varies with `n`. -/
def s3q (n : Nat) : State := mkS ((s3 n).chip.dev.wrs (([(F.BST_SENSE_FS 0, 32768), (F.MOD_GANG_CTL_RUN 0, 1)] ++
    (List.range 8).map fun k => (F.MOD_GANG_STATUS_STATE k, [0, 1, 3].getD (n / 2 % 3) 0)) ++
    [(F.BST_STATUS_STATE 0, n / 8 % 2 * 2)]))

/-- The hypotheses of the clauses of `GangLife`, each once. -/
def gangLifeHyps (s : State) (k : Fin 32) (_late : Bool) (b : Nat) : List Bool :=
  let outer := Live s ∧ s.chip.dev.unitHeld 6 k = false
  let d0 := s.chip.dev
  [decide (outer ∧ GangExists d0 k ∧ d0.gstate k = gOff),
    decide (outer ∧ GangExists d0 k ∧ d0.gstate k ≠ gOff),
    decide (outer ∧ d0.gangSize k = 0),
    decide (outer ∧ GangExists d0 k ∧ (d0.gstate k = gArmed ∨ d0.gstate k = gHeld ∨ (d0.gstate k = gFaultHold ∧
        (d0.gang k).faultRaw ≠ some d0.time.raw))),
    decide (outer ∧ GangExists d0 k ∧ d0.gstate k = gFaultHold ∧ (d0.gang k).faultRaw = some d0.time.raw),
    decide (outer ∧ GangExists d0 k ∧ (d0.gstate k = gHalf ∨ d0.gstate k = gPlaying) ∧ (d0.gang k).stopAt = none),
    decide (outer ∧ GangExists d0 k ∧ (d0.gstate k = gOff ∨ d0.gstate k = gStopping ∨ d0.gstate k = gLatched)),
    decide (outer ∧ GangExists d0 k ∧ d0.gstate k = gLatched),
    decide (outer ∧ d0.gstate k ≠ gLatched),
    decide (outer ∧ DueRelease d0 k ∧ d0.rd (F.MOD_GANG_CFG_RATE k) ≠ 3),
    decide (outer ∧ DueRelease d0 k ∧ d0.rd (F.MOD_GANG_CFG_RATE k) = 3),
    decide (outer ∧ ¬DueRelease d0 k),
    decide (outer ∧ d0.gstate k = gHalf ∧ (d0.gang k).relTick < d0.tick ∧ (d0.gang k).stopAt = none),
    decide (outer ∧ (d0.gstate k = gHalf ∨ d0.gstate k = gPlaying) ∧ (d0.gang k).stopAt = some b ∧ b ≤ d0.tick),
    decide (outer ∧ d0.gstate k = gStopping ∧ (d0.gang k).stopAt = some b ∧ (d0.gang k).stopLa = none ∧
        98304 * (b + 1) + 16384 * d0.rd (F.MOD_GRP_CFG_LA (k / 4)) ≤ d0.runStart (k / 4) ∧ GangExists d0 k ∧
        (d0.group (k / 4)).waiting = []),
    decide (outer ∧ (d0.gang k).stopAt = some b ∧ (d0.gang k).stopLa = none ∧ (d0.group (k / 4)).waiting = [] ∧
        d0.runStart (k / 4) < 98304 * (b + 1) + 16384 * d0.rd (F.MOD_GRP_CFG_LA (k / 4)))]

theorem witness_GangLife :
    ((List.range 16).zip [0, 1, 10, 1, 14, 18, 0, 7, 0, 9, 1, 0, 18, 11, 60, 1]).all (fun (k, n) =>
      ((gangLifeHyps (s3 n) (if n % 11 == 10 then 1 else 0) (n % 3 == 0) (n % 5))[k]?).getD false) = true := by
  decide +kernel

/-- The hypotheses of the clauses of `GangFault`, each once. -/
def gangFaultHyps (s : State) (k : Fin 32) (_lv : BitVec 32) (g : Fin 8) (v : Word) : List Bool :=
  let outer := Live s
  let d0 := s.chip.dev
  [decide (outer ∧ d0.cut = true),
    decide (outer ∧ d0.cut = false),
    decide (outer ∧ s.chip.dev.unitHeld 6 k = false ∧ d0.gstate k = gFaultHold ∧ d0.tick < (d0.gang k).restartAt),
    decide (outer ∧ s.chip.dev.unitHeld 6 k = false ∧ d0.gstate k = gFaultHold ∧ (d0.gang k).restartAt ≤ d0.tick ∧
        d0.on (F.MOD_GANG_CTL_RUN k) = true ∧ d0.fltOpen k = 0),
    decide (outer ∧ s.chip.dev.unitHeld 6 k = false ∧ d0.gstate k = gFaultHold ∧ (d0.gang k).restartAt ≤ d0.tick ∧
        d0.on (F.MOD_GANG_CTL_RUN k) = false),
    decide (outer ∧ s.chip.dev.unitHeld 6 k = false ∧ d0.gstate k = gFaultHold ∧ (d0.gang k).restartAt ≤ d0.tick ∧
        d0.on (F.MOD_GANG_CTL_RUN k) = true ∧ d0.fltOpen k ≠ 0),
    decide outer,
    decide (outer ∧ d0.groupQuiet g = true ∧ 1573 ≤ v.toNat % 4096 ∧ v.toNat % 4096 ≤ 2621),
    decide (outer ∧ d0.groupQuiet g = true ∧ (v.toNat % 4096 < 1573 ∨ 2621 < v.toNat % 4096)),
    decide (outer ∧ d0.groupQuiet g = false),
    decide (outer ∧ v.toNat % 8 = d0.rd (F.MOD_GRP_CFG_LAYOUT g) ∧ v.toNat % 8 ≤ 4 ∧ v.toNat / 16 % 128 ≤ 96 ∧
        d0.groupQuiet g = true),
    decide (outer ∧ v.toNat % 8 ≠ d0.rd (F.MOD_GRP_CFG_LAYOUT g) ∧ v.toNat % 8 ≤ 4 ∧ v.toNat / 16 % 128 ≤ 96 ∧
        d0.groupQuiet g = true),
    decide (outer ∧ d0.groupQuiet g = false ∧ (v.toNat % 8 ≠ d0.rd (F.MOD_GRP_CFG_LAYOUT g) ∨
        v.toNat / 16 % 128 ≠ d0.rd (F.MOD_GRP_CFG_LA g) ∨ v.toNat / 2048 % 256 ≠ d0.rd (F.MOD_GRP_CFG_DT g) ∨
        v.toNat / 524288 % 2 = 0)),
    decide (outer ∧ (4 < v.toNat % 8 ∨ 96 < v.toNat / 16 % 128))]

theorem witness_GangFault :
    ((List.range 14).zip [7, 0, 6, 54, 38, 118, 0, 15, 184, 0, 288, 32, 0, 0]).all (fun (k, n) =>
      ((gangFaultHyps (s3 n) 0 (BitVec.ofNat 32 (rnd n)) 0 (BitVec.ofNat 32 (if n % 2 == 0 then rnd n
          else 1600 + rnd n % 1000 * 65536)))[k]?).getD false) = true := by
  decide +kernel

/-- The hypotheses of the clauses of `Carrier`, each once. -/
def carrierHyps (s : State) (g : Fin 8) (bits : List Bool) (late : Bool) (edge : Nat)
    (errs : List Nat) : List Bool :=
  let outer := Live s ∧ s.chip.dev.cut = false
  let d0 := s.chip.dev
  let b0 := d0.bst g
  let ns := b0.rails ++ railsOf b0.stream bits
  [decide (outer ∧ d0.drive.fetched ≠ d0.tick + 1),
    decide (outer ∧ d0.drive.fetched = d0.tick + 1),
    decide (outer ∧ errs.length ≤ 8),
    decide (outer ∧ errs.length ≤ 8 ∧ ns = [] ∧ late = false ∧ d0.bstate g = bOff ∧ (d0.bst g).orders = [] ∧
        d0.sys.twin.holdUntil ≤ edge ∧ 256 * (d0.bst g).vDen ≤ (d0.bst g).vNum)]

theorem witness_Carrier :
    ((List.range 4).zip [0, 4, 0, 3]).all (fun (k, n) =>
      ((carrierHyps (s3q n) 0 (if n % 3 == 0 then [] else [n % 2 == 0, n % 5 == 0, true]) (n % 2 == 0) (n * 30) [0,
          n % 3])[k]?).getD false) = true := by
  decide +kernel

end Sys2Proof.Test.Drive

namespace Sys2Proof.Test.Rail
open Sys2Proof.Machine Sys2Proof.Claim

-- one theorem at a time: side by side their evaluations take too much memory
set_option Elab.async false
set_option synthInstance.maxHeartbeats 2000000
set_option synthInstance.maxSize 100000
set_option maxRecDepth 20000

def fs3 : List Fld := [F.MOD_GANG_STATUS_STATE 1, F.MOD_GANG_STATUS_STATE 3, F.BST_STATUS_STATE 0, F.BST_CTL_EN 0,
    F.BST_RAIL_LIM_MIN 0, F.BST_RAIL_LIM_MAX 0, F.BST_OVP_V 0, F.BST_LOOP_KI 0, F.BST_ILIM_CODE 0, F.BST_UV_CYC 0,
    F.BST_PWM_MAXD 0, F.BST_PWM_LEB 0, F.BST_STATUS_SENSE_OK 0, F.MEDPLL_STATUS_FREQ_ALARM, F.BST_CTL_MODE 0]
/-- A small state that varies with `n`. -/
def s4 (n : Nat) : State := mkS { (rst fs3 (n * 31 + 5)).wrs ([(F.BST_SENSE_FS 0, 32768),
    (F.BST_STATUS_STATE 0, n % 5), (F.BST_CTL_EN 0, n / 5 % 2),
    (F.BST_RESTART_MS 0, if n % 3 == 1 then 5000 else 20), (F.BST_UV_CYC 0, 3), (F.BST_ILIM_CYC 0, 3)] ++
    (if n % 3 == 0 then [(F.BST_RAIL_LIM_MIN 0, n % 8), (F.BST_RAIL_LIM_MAX 0, 1000), (F.BST_OVP_V 0, 20000),
    (F.BST_CTL_MODE 0, 1)] else []) ++ (if n % 2 == 0 then [] else [(F.MOD_GANG_STATUS_STATE 1, 0),
    (F.MOD_GANG_STATUS_STATE 3, 7)])++(if n % 7<5 then [(F.BST_STATUS_CAUSE 0, 2 + n % 2)] else [])) with
  tick := n / 7,
  time := {TimeSt.init with raw := n * 30000000},
  drive := { Drive.init with
    bsts := [(0, { Bst.init with
      settled := n,
      ons := if n % 3 == 1 then [] else [⟨-5000, some (-4000), 20000, 7⟩, ⟨-16, none, if n % 7 == 0 then 600 else 30000, 9⟩],
      cfg := { BstCfg.init with fs := 32768, ovp := n % 3 * 9000, leb := n % 5 * 30, maxd := 20 + n % 50,
                                                     slope := n % 3, restart := if n % 3 == 1 then 5000 else 20 },
      orders := [[], [.enable], [.disable], [.clear]].getD (n / 3 % 4) [],
      ovSeen := n % 7 == 0,
      uvRun := n % 6,
      ilRun := n / 5 % 3,
      ref := n * 1000 * 65536,
      due := if n % 3 == 2 then some (n * 7) else none,
      env := if n % 4 == 1 then some (n * 50) else none,
      run := if n % 9 == 2 then 1024 else if n % 9 == 4 then 1023 else n,
      held := n % 17 == 3,
      stream := if n % 5 == 2 then [] else if n % 5 == 3 then [n % 2 == 1] else List.replicate 190 (n % 4 != 0),
      peaks := if n % 4 == 2 then [(n / 7, 2 ^ 30), (0, 2 ^ 31)] else [],
      vNum := n * 1000 })] } }

/-- The hypotheses of the clauses of `BstControl`, each once. -/
def bstControlHyps (s : State) (g : Fin 8) (_reg : Fin 11) (v : Word) (_late : Bool) (e : Nat) : List Bool :=
  let outer := Live s ∧ s.chip.dev.unitHeld 7 g = false
  let d0 := s.chip.dev
  let b0 := d0.bst g
  let on := d0.on (F.BST_CTL_EN g) = true
  [decide (outer ∧ d0.on (F.BST_CTL_EN g) = false ∧ BstSettings d0 g),
    decide (outer ∧ d0.on (F.BST_CTL_EN g) = false ∧ ¬BstSettings d0 g),
    decide (outer ∧ on),
    decide (outer ∧ d0.groupQuiet g = true),
    decide (outer ∧ d0.groupQuiet g = false),
    decide outer,
    decide (outer ∧ b0.orders = [.enable] ∧ d0.bstate g = bOff ∧ d0.sys.twin.holdUntil ≤ e),
    decide (outer ∧ b0.orders = [.enable] ∧ d0.bstate g = bLatched),
    decide (outer ∧ b0.orders = [.disable] ∧ (d0.bstate g = bStart ∨ d0.bstate g = bRun ∨ d0.bstate g = bOff ∨
        d0.bstate g = bStopped)),
    decide (outer ∧ b0.orders = [.disable] ∧ d0.bstate g = bLatched),
    decide (outer ∧ b0.orders = [.clear] ∧ d0.bstate g = bLatched ∧ b0.ovSeen = false ∧ on),
    decide (outer ∧ b0.orders = [.clear] ∧ d0.bstate g = bLatched ∧ b0.ovSeen = false ∧
        d0.on (F.BST_CTL_EN g) = false),
    decide (outer ∧ b0.orders = [.clear] ∧ d0.bstate g = bLatched ∧ b0.ovSeen = true),
    decide (outer ∧ d0.on (F.BST_CTL_EN g) = false),
    decide (outer ∧ d0.on (F.BST_CTL_EN g) = true ∧ v.toNat / 65536 % 65536 = 0),
    decide (outer ∧ d0.on (F.BST_CTL_EN g) = true ∧ BstSettings d0 g ∧ v.toNat / 65536 % 65536 ≠ 0)]

theorem witness_BstControl :
    ((List.range 16).zip [0, 1, 5, 1, 0, 0, 5, 4, 6, 19, 9, 34, 119, 0, 17, 6]).all (fun (k, n) =>
      ((bstControlHyps (s4 n) 0 (Fin.ofNat 11 n) (BitVec.ofNat 32 (if n % 7 == 3 then n else rnd n)) (n % 2 == 0)
          (n * 30))[k]?).getD false) = true := by
  decide +kernel

/-- The hypotheses of the clauses of `BstWork`, each once. -/
def bstWorkHyps (s : State) (g : Fin 8) (level t : Nat) (v : Bool) (cause : Fin 4) (st last : Int) (code : Nat)
    (pre post : List OnTime) (_late : Bool) (e : Nat) : List Bool :=
  let outer := Live s ∧ s.chip.dev.unitHeld 7 g = false ∧ s.chip.dev.cut = false
  let d0 := s.chip.dev
  let k0 := (d0.bst g).cfg
  let div := d0.rd (F.MOD_GRP_CARRIER_DIV g)
  let on := (d0.bst g).ons = pre ++ ⟨st, none, last, code⟩ :: post ∧ pre.all (fun o => o.stop.isSome) = true
  let old := (d0.bst g).stream
  let n := sinc3 ((v :: old).take 190)
  let b := d0.bst g
  let go := NoStop d0 g ∧ b.orders = [] ∧ b.corr = none ∧ d0.sys.twin.holdUntil ≤ e ∧ 0 < b.vDen
  let works := d0.bstate g = bStart ∨ d0.bstate g = bRun
  [decide (outer ∧ d0.bstate g = bStart ∧ 16 ≤ (d0.bst g).settled),
    decide (outer ∧ (d0.bst g).settled < 16),
    decide (outer ∧ on ∧ k0.leb ≤ t ∧ 0 < level ∧ code * div < level * div + k0.slope * t),
    decide (outer ∧ t < k0.leb),
    decide (outer ∧ on ∧ last ≤ st + 8 * t),
    decide (outer ∧ on ∧ st + 8 * t < last),
    decide (outer ∧ k0.ovp * 2 ^ 18 < n * k0.fs ∧ (d0.bstate g = bStart ∨ d0.bstate g = bRun ∨
        d0.bstate g = bStopped)),
    decide (outer ∧ (n * k0.fs ≤ k0.ovp * 2 ^ 18 ∨ d0.bstate g = bOff ∨ d0.bstate g = bLatched)),
    decide outer,
    decide (outer ∧ d0.bstCond g (cause + 2) = true),
    decide (outer ∧ d0.bstCond g (cause + 2) = false),
    decide (outer ∧ (d0.bst g).held = false ∧ 1024 ≤ (d0.bst g).run ∧ (d0.bstate g = bStart ∨ d0.bstate g = bRun)),
    decide (outer ∧ (d0.bst g).held = false ∧ 1024 ≤ (d0.bst g).run ∧ d0.bstate g = bOff),
    decide (outer ∧ ((d0.bst g).held = true ∨ (d0.bst g).run < 1024)),
    decide (outer ∧ d0.bstate g = bStopped ∧ (d0.rd (F.BST_STATUS_CAUSE g) = 2 ∨ d0.rd (F.BST_STATUS_CAUSE g) = 3) ∧
        (d0.bst g).stopRaw + k0.restart * 500000 ≤ d0.time.raw),
    decide (outer ∧ d0.bstate g = bStopped ∧ d0.rd (F.BST_STATUS_CAUSE g) = 2 ∧
        d0.time.raw < (d0.bst g).stopRaw + k0.restart * 500000),
    decide (outer ∧ go ∧ Forced d0 g),
    decide (outer ∧ go ∧ ¬Forced d0 g),
    decide (outer ∧ go),
    decide (outer ∧ go ∧ works),
    decide (outer ∧ d0.drive.fetched ≠ d0.tick + 1)]

theorem witness_BstWork :
    ((List.range 21).zip [16, 0, 5, 1, 14, 0, 1, 0, 0, 7, 0, 2, 65, 0, 3, 28, 0, 60, 0, 61, 0]).all (fun (k, n) =>
      ((bstWorkHyps (s4 n) 0 (n * 3) (n * 9) (n % 2 == 0) (Fin.ofNat 4 (n / 2)) (-16) (if n % 7 == 0 then 600
          else 30000) 9 [⟨-5000, some (-4000), 20000, 7⟩] [] (n % 2 == 0) (n * 30))[k]?).getD false) = true := by
  decide +kernel

end Sys2Proof.Test.Rail
end

