-- ==== Sys2Proof/Tests/WitnessEngine.lean ====
section
/-! SUPPORT. Witnesses for the statements of the claims' part queue: for every clause a state and operands that meet its
hypotheses together. -/

namespace Sys2Proof.Test.Engine
open Sys2Proof.Machine Sys2Proof.Claim

-- one theorem at a time: side by side their evaluations take too much memory
set_option Elab.async false
set_option synthInstance.maxHeartbeats 2000000
set_option synthInstance.maxSize 100000
set_option maxRecDepth 20000

def fs6 : List Fld := [F.X_CNT_COUNT 1 1 7, F.MMU_FAULT_CNT_CORE, F.MMU_FAULT_CNT_DMA, F.DMA_STATUS_CAUSE 3,
    F.DMA_EVENTS_DONE_EV 3, F.CORE_HALT_HALT 1, F.X_CNT_COUNT 1 1 2, F.DMA_CNT_DESCS 3, F.DMA_STATUS_WHERE 3,
    F.DMA_DESC_VA 3]
-- root at page 64 (0x40000), second at page 65, data page 66; virtual page 0 and 1
def pmem (n : Nat) : Mem :=
  let m : Mem := ⟨[], []⟩
  let m := m.store 0x40000 4 (if n % 13 == 5 then 0 else 65 * 2 ^ 18 + 1)
  let m := m.store 0x41000 4 (if n % 11 == 3 then 0 else 66 * 2 ^ 18 + 1 + (if n / 16 % 2 == 1 then 0
      else (rnd n % 128) * 2 % 64) + 2 + 4+ (if n / 2 % 2 == 0 then 0xC0 else 0))
  let m := m.store 0x42000 4 ((if n % 4 == 3 then 3 else 0) + (if n % 5 == 0 || n % 5 == 2 && n % 3 == 0 then 2 ^ 7
      else 0) + 2 ^ 8 + 2 ^ 6 * (n % 2) + (if n % 5 == 2 then 2 ^ 5 else 0))
  let m := m.store 0x42004 4 (0xF0000010)
  let m := m.store 0x42008 4 (0xF0000100)
  let m := m.store 0x4200c 4 (if n % 8 == 1 then 8 else if n % 2 == 1 then 0 else 8 * 2 ^ 24)
  (m.store (2 ^ 26 + 2 ^ 18 + 0x10) 4 0x12345678).store (2 ^ 26 + 2 ^ 18 + 0x14) 4 0x9abcdef0
def w6 (n : Nat) : List Nat := [n % 3 + (n % 2) * 4 + 8 + 64 * (n % 2) + 128 * (n / 3 % 2) + (if n % 5 == 4 then 0
    else 256 + 512), 0xF0000010, 0xF0000100, if n % 4 == 0 then 4 else 8, 7, 0x40, 0]
/-- A small state that varies with `n`. -/
def s6 (n : Nat) : State :=
  let tk : Task := ⟨n % 2 == 0, false, 1, 0, 3, 0x1000, if n % 7 == 0 then 0 else 0x2000, if n % 3 == 0 then [⟨7, 1,
      false⟩] else [], if n % 6 == 0 then [⟨8, 1, false⟩] else [], [], 0⟩
  let d := (rst fs6 (n * 31 + 5)).wrs [(F.MMU_ROOT_V 3, bit (n % 7 != 6)), (F.MMU_ROOT_PPN 3, 64),
      (F.QM_REGION_CELLS, 16), (F.MMU_FAULTQ_EN, 0), (F.DMA_CTL_ASID 3, 3), (F.DMA_STATUS_STATE 3, n % 4),
      (F.DMA_CUR_VA 3, 0), (F.Q_CFG_EN 7, bit (n % 5 != 1)), (F.Q_CFG_GRANT 7, 3), (F.CORE_CFG_CTX_EN 1, 15),
      (F.X_DESC_ADDR 1 1, 0x42000), (F.DMA_DONE_BYTES_BYTES 3, n / 4 % 2 * (if n % 3 == 0 then 7 else 4))]
  let d := { d with
    badRows := if n % 19 == 7 then [0x40000] else [],
    inv := if n % 2 == 0 then [] else [⟨n % 4, 3, 0, if n % 3 == 0 then none else some (5, bit (n % 9 == 1))⟩] }
  let d := d.setCtx 5 { Ctx.init with
    asid := 3,
    pc := 0x40 + n,
    run := match n % 5 with | 0 => .ready | 1 => .faulted | 2 => .off | 3 => .idle | _ => .yielded,
    stall := n % 4 == 1,
    task := some tk,
    copy := .good tk,
    dmaExc := if n % 3 == 0 then [⟨3, [1, 2, 3, 4]⟩, ⟨4, [5, 6, 7, 8]⟩] else [],
    ecause := n * 77,
    outSlots := if n % 4 == 0 then [(8, ⟨1, 0, true, false, false⟩)] else [] }
  let d := if n % 6 == 0 then d.setCtx 4 { Ctx.init with run := .ready, pc := 0x40 } else d
  let d := d.setTlb 1 ((List.range (n % 3)).map fun i => ⟨i + 9, 3, i == 0, 70, true, true, true, true, false,
      false, 0⟩)
  let d := d.setTlb 16 ((List.range (n % 5 * 8)).map fun i => ⟨i + 9, 3, false, 70, true, true, true,
      decide (i < n % 9 + 3), false, false, 0⟩)
  let d := { d with sys := { d.sys with jtag := { d.sys.jtag with busy := if n % 23 == 8 then [(4, 1)] else [] } } }
  let d := d.setQ 7 { Queue.init with
    packets := if n / 32 % 2 == 0 then [] else [⟨[⟨5, true, 0⟩], none, some 0, 0, false, 0⟩],
    chain := (List.range (bit (n % 2 == 1))).map (· + 5) }
  let d := d.setDma 3 {
    cur := if n % 17 == 0 || n % 16 == 5 then [] else w6 n,
    prefetch := if n % 5 == 1 then [(64, w6 n)] else [],
    ended := if n % 7 == 2 then some (n % 4, n % 2 == 0) else none,
    opens := if n % 6<3 then [7] else [],
    fault := if n % 2 == 0 then [] else [7, 64, 0] }
  { State.reset with chip := ⟨d, pmem n⟩ }
def ic (n : Nat) : Chip × Place := match (s6 n).chip.reach ((s6 n).chip.dev.whoDesc 3)
    ((s6 n).chip.dev.rd (F.DMA_CUR_VA 3) + 24) 4 Access.store with
  | (c, .ok p) => (c, p) | (c, _) => (c, ⟨0, none⟩)
def ic6 (n : Nat) : Chip × Place := ic n
def rd6 (n : Nat) : Chip × List Nat × Bool × Nat × Nat := match (s6 n).chip.readDescriptor 3 0 with
  | (c, .ok p) => (c, p.1, p.2, 0, 0) | (c, .error e) => (c, [], false, e.1, e.2)
def task6 (n : Nat) : Task := match (s6 n).chip.readDesc 5 with
  | .good t => t
  | _ => ⟨false, false, 1, 0, 0, 0, 0, [], [], [], 0⟩
def iv (n : Nat) : InvReq := (s6 n).chip.dev.inv.headD ⟨0, 0, 0, none⟩
def gok (r : Chip × Except Nat Place) : Chip × Place :=
    match r with | (c, .ok p) => (c, p) | (c, _) => (c, ⟨0, none⟩)
def l6 (n : Nat) : (Chip × Chip × Chip × Chip × Dev × Popped) × Place × Place × Place :=
  let s := (s6 n).chip
  let cur := Desc.of (s.dev.dma 3).cur
  let off := s.dev.rd (F.DMA_DONE_BYTES_BYTES 3)
  let (c1, p) := if cur.mode == 2 then gok (s.reach cur.who ((cur.dst + off) % 2 ^ 32) 4 Access.store)
      else gok (s.reach cur.who ((cur.src + off) % 2 ^ 32) (if cur.mode == 0 then 1 else 4) Access.load)
  let (c2, q) := gok (c1.reach cur.who ((cur.dst + off) % 2 ^ 32) 1 Access.store)
  let (d2, w) := c1.dev.pop cur.queue
  let c3 := match cur.mode with
   | 0 => c2.storeAt cur.who q 1 (c2.mem.load p.key 1)
   | 1 => c1.onDev (fun d => (d.push cur.queue ⟨BitVec.ofNat 32 (c1.mem.load p.key 4), cur.endE, cur.k⟩ none).1)
   | _ => (⟨d2, c1.mem⟩ : Chip).storeAt cur.who p 4 w.data.toNat
  let (c4, r) := gok (c3.reach (s.dev.whoDesc 3) 24 4 Access.store)
  ((c1, c2, c3, c4, d2, w), p, q, r)

/-- The hypotheses of the clauses of `Pages`, each once. -/
def pagesHyps (s : State) (x : Fin 64) (va : Word) (kind : Fin 3) (_spec : Bool) (op : BitVec 2) (_asid : BitVec 8)
    (_n : Fin 17) (i : InvReq) (is : List InvReq) (y gen : Nat) : List Bool :=
  let outer := Live s
  let d0 := s.chip.dev
  let m0 := s.chip.mem
  let w := d0.whoCtx x
  let root := d0.rd (F.MMU_ROOT_PPN w.asid)
  let a1 := root * 4096 + va.toNat / 4096 / 1024 * 4
  let e1 := m0.load a1 4
  let a0 := bitsAt e1 18 14 * 4096 + va.toNat / 4096 % 1024 * 4
  let e0 := m0.load a0 4
  let rooted := va.toNat < 0xF0000000 ∧ d0.rd (F.MMU_ROOT_V w.asid) = 1 ∧ d0.inCells root = false ∧
    d0.badRow a1 = false
  let inner := rooted ∧ bitAt e1 0 = true ∧ bitsAt e1 1 3 = 0 ∧ d0.inCells (bitsAt e1 18 14) = false ∧
    d0.badRow a0 = false
  let free := d0.unitHeld 4 (x / 4) = false
  let leaf := inner ∧ bitAt e0 0 = true ∧ bitAt e0 1 = true ∧ d0.inCells (bitsAt e0 18 14) = false
  let mayIssue := d0.running x = true ∧ d0.rd F.MMU_FAULTQ_EN = 0 ∧ free
  let granted := kind.val = 0 ∨ kind.val = 1 ∧ bitAt e0 2 = true ∨ kind.val = 2 ∧ bitAt e0 3 = true
  [decide (outer ∧ leaf ∧ granted ∧ free),
    decide (outer ∧ va.toNat < 0xF0000000 ∧ d0.rd (F.MMU_ROOT_V w.asid) = 0 ∧ mayIssue),
    decide (outer ∧ rooted ∧ bitAt e1 0 = false ∧ mayIssue),
    decide (outer ∧ inner ∧ bitAt e0 0 = false ∧ mayIssue),
    decide (outer ∧ va.toNat < 0xF0000000 ∧ d0.rd (F.MMU_ROOT_V w.asid) = 1 ∧ d0.inCells root = false ∧
        d0.badRow a1 = true ∧ mayIssue),
    decide (outer ∧ leaf ∧ granted),
    decide (outer ∧ ¬ free),
    decide (outer ∧ inner ∧ bitAt e0 0 = false ∧ free),
    decide (outer ∧ 0xF0000000 ≤ va.toNat),
    decide (outer ∧ d0.inv = [] ∧ op.toNat ≠ 0),
    decide (outer ∧ d0.inv ≠ []),
    decide (outer ∧ d0.inv = i :: is),
    decide (outer ∧ d0.inv = i :: is ∧ i.waiter = some (y, gen) ∧ (d0.ctx y).stall = true ∧
        d0.generation 4 (y / 4) = gen),
    decide (outer ∧ d0.inv = i :: is ∧ i.waiter = some (y, gen) ∧ d0.generation 4 (y / 4) ≠ gen),
    decide (outer ∧ d0.inv = i :: is ∧ i.waiter = none),
    decide (outer ∧ d0.inv = [])]

theorem witness_Pages :
    ((List.range 16).zip [0, 55, 135, 35, 520, 0, 8, 1, 5, 2, 1, 1, 5, 1, 3, 0]).all (fun (k, n) =>
      ((pagesHyps (s6 n) 5 (BitVec.ofNat 32 (if n % 23 == 5 then 0xF0000000 else n % 3 * 4096)) (Fin.ofNat 3 n)
          (n % 2 == 0) (BitVec.ofNat 2 n) 3 (Fin.ofNat 17 n) (iv n)
          ((s6 n).chip.dev.inv.tail) 5 (bit (n % 9 == 1)))[k]?).getD false) = true := by
  decide +kernel

/-- The hypotheses of the clauses of `DmaCommand`, each once. -/
def dmaCommandHyps (s : State) (ch : Fin 32) (p : Place) (c1 : Chip) (ws : List Nat) (sp : Bool)
    (cause va : Nat) : List Bool :=
  let outer := Live s
  let d0 := s.chip.dev
  let st := d0.dmaState ch
  let w6 := d0.rd (F.DMA_CUR_VA ch) + 24
  let t := Desc.of ws
  let at_ := d0.rd (F.DMA_CUR_VA ch)
  let fresh := d0.dmaState ch = 1 ∧ (d0.dma ch).cur = []
  let owner := d0.rd (F.DMA_CTL_OWNER_CORE ch) * 4 + d0.rd (F.DMA_CTL_OWNER_CTX ch)
  let unseen := d0.running owner = false ∧ d0.rd F.MMU_FAULTQ_EN = 0
  [decide (outer ∧ st = 0),
    decide (outer ∧ st = 1),
    decide (outer ∧ (st = 2 ∨ st = 3)),
    decide (outer ∧ st ≠ 1),
    decide (outer ∧ st = 2),
    decide (outer ∧ st ≠ 2),
    decide (outer ∧ st = 3),
    decide (outer ∧ (st = 1 ∨ st = 2) ∧ s.chip.reach (d0.whoDesc ch) w6 4 Access.store = (c1, .ok p)),
    decide (outer ∧ (st = 1 ∨ st = 2) ∧ s.chip.reach (d0.whoDesc ch) w6 4 Access.store = (c1, .error cause) ∧
        (d0.dma ch).opens = []),
    decide (outer ∧ fresh ∧ (d0.dma ch).prefetch = [] ∧ s.chip.readDescriptor ch at_ = (c1, .ok (ws, sp)) ∧
        t.refused = false),
    decide (outer ∧ fresh ∧ (d0.dma ch).prefetch = [] ∧ s.chip.readDescriptor ch at_ = (c1, .ok (ws, sp)) ∧
        t.refused = true),
    decide (outer ∧ fresh ∧ (d0.dma ch).prefetch = [] ∧ s.chip.readDescriptor ch at_ = (c1, .error (cause, va)) ∧
        unseen),
    decide (outer ∧ d0.dmaState ch ≠ 1)]

theorem witness_DmaCommand :
    ((List.range 13).zip [0, 1, 2, 0, 2, 0, 3, 17, 5, 17, 37, 5, 0]).all (fun (k, n) =>
      ((dmaCommandHyps (s6 n) 3 (ic n).2 (if n % 2 == 0 then (ic n).1 else (rd6 n).1)
          (rd6 n).2.1 (rd6 n).2.2.1 (rd6 n).2.2.2.1 (rd6 n).2.2.2.2)[k]?).getD false) = true := by
  decide +kernel

/-- The hypotheses of the clauses of `DmaWork`, each once. -/
def dmaWorkHyps (s : State) (ch : Fin 32) (c1 c2 c3 c4 : Chip) (d2 : Dev) (w : Popped) (p q r : Place)
    (pan : Fin 16) (code : Nat) (eb : Bool) : List Bool :=
  let outer := Live s
  let d0 := s.chip.dev
  let cur := Desc.of (d0.dma ch).cur
  let at_ := d0.rd (F.DMA_CUR_VA ch)
  let off := d0.rd (F.DMA_DONE_BYTES_BYTES ch)
  let busy := d0.dmaState ch = 1 ∧ (d0.dma ch).cur ≠ [] ∧ (d0.dma ch).ended = none
  let owner := d0.rd (F.DMA_CTL_OWNER_CORE ch) * 4 + d0.rd (F.DMA_CTL_OWNER_CTX ch)
  let unseen := d0.running owner = false ∧ d0.rd F.MMU_FAULTQ_EN = 0
  [decide (outer ∧ busy ∧ cur.mode = 0 ∧ cur.pan = some pan.val ∧ d0.rd (F.DMA_DONE_BYTES_BYTES ch) = 0 ∧
      0 < cur.len ∧ 0xF0000000 ≤ cur.src ∧ cur.src + cur.len ≤ 0xF0040000 ∧ 0xF0000000 ≤ cur.dst ∧
      cur.dst + cur.len ≤ 0xF0040000 ∧ (cur.src + cur.len ≤ cur.dst ∨ cur.dst + cur.len ≤ cur.src) ∧
      s.chip.reach (d0.whoDesc ch) (at_ + 24) 4 Access.store = (c1, .ok p) ∧ p.key + 4 ≤ 2 ^ 26 ∧
      p.entry.all (fun e => e.d) = true),
    decide (outer ∧ busy ∧ cur.mode = 0 ∧ off + 1 = cur.len ∧
        s.chip.reach cur.who ((cur.src + off) % 2 ^ 32) 1 Access.load = (c1, .ok p) ∧
        c1.reach cur.who ((cur.dst + off) % 2 ^ 32) 1 Access.store = (c2, .ok q) ∧
        c3 = c2.storeAt cur.who q 1 (c2.mem.load p.key 1) ∧ c3.reach (d0.whoDesc ch)
        (at_ + 24) 4 Access.store = (c4, .ok r)),
    decide (outer ∧ busy ∧ cur.mode = 1 ∧ off + 4 = cur.len ∧
        s.chip.reach cur.who ((cur.src + off) % 2 ^ 32) 4 Access.load = (c1, .ok p) ∧ c3 = c1.onDev (fun d =>
        (d.push cur.queue ⟨BitVec.ofNat 32 (c1.mem.load p.key 4), cur.endE, cur.k⟩ none).1) ∧
        c3.reach (d0.whoDesc ch) (at_ + 24) 4 Access.store = (c4, .ok r)),
    decide (outer ∧ busy ∧ cur.mode = 2 ∧ off + 4 = cur.len ∧
        s.chip.reach cur.who ((cur.dst + off) % 2 ^ 32) 4 Access.store = (c1, .ok p) ∧ c1.dev.pop cur.queue = (d2,
        w) ∧ w.v = true ∧ c3 = (⟨d2, c1.mem⟩ : Chip).storeAt cur.who p 4 w.data.toNat ∧ c3.reach (d0.whoDesc ch)
        (at_ + 24) 4 Access.store = (c4, .ok r)),
    decide (outer ∧ (d0.dma ch).cur = []),
    decide (outer ∧ busy ∧ cur.mode = 0 ∧ cur.pan = none ∧ 0xF0000000 ≤ cur.src ∧ cur.src + cur.len ≤ 2 ^ 32 ∧
        d0.rd (F.DMA_DONE_BYTES_BYTES ch) < cur.len ∧ unseen),
    decide (outer ∧ d0.dmaState ch = 1 ∧ (d0.dma ch).cur ≠ [] ∧ (d0.dma ch).ended = some (code, eb) ∧
        s.chip.reach (d0.whoDesc ch) (at_ + 24) 4 Access.store = (c4, .ok r)),
    decide (outer ∧ busy ∧ cur.mode = 2 ∧ cur.pan = some pan.val ∧ 0xF0000000 ≤ cur.dst ∧
        cur.dst + cur.len ≤ 0xF0040000 ∧ cur.dst % 4 = 0 ∧ cur.len % 4 = 0 ∧
        d0.rd (F.DMA_DONE_BYTES_BYTES ch) % 4 = 0 ∧ d0.rd (F.DMA_DONE_BYTES_BYTES ch) < cur.len ∧
        d0.rd (F.Q_CFG_EN cur.queue) = 1 ∧ (d0.q cur.queue).err = false ∧ (d0.q cur.queue).packets = [] ∧
        (d0.q cur.queue).epoch = (d0.q cur.queue).remembered)]

theorem witness_DmaWork :
    ((List.range 8).zip [81, 285, 61, 365, 0, 129, 93, 77]).all (fun (k, n) =>
      ((dmaWorkHyps (s6 n) 3 (if n / 4 % 2 == 0 && n % 3 == 0 then (ic6 n).1 else (l6 n).1.1)
          (l6 n).1.2.1 (l6 n).1.2.2.1 (if n % 7 == 2 then (ic6 n).1 else (l6 n).1.2.2.2.1)
          (l6 n).1.2.2.2.2.1 (l6 n).1.2.2.2.2.2 (if n / 4 % 2 == 0 && n % 3 == 0 then (ic n).2 else (l6 n).2.1)
          (l6 n).2.2.1 (if n % 7 == 2 then (ic6 n).2 else (l6 n).2.2.2) 1 (n % 4)
          (n % 2 == 0))[k]?).getD false) = true := by
  decide +kernel

/-- The hypotheses of the clauses of `Tasks`, each once. -/
def tasksHyps (s : State) (x : Fin 64) (t : Task) (e : DmaExc) (es : List DmaExc) (_f : Chip → Chip) : List Bool :=
  let outer := Live s
  let d0 := s.chip.dev
  let k := d0.ctx x
  let d1 := d0.tickStart
  let calm := d1.switchDue = false ∧ d1.realignEnds = false ∧ d1.sys.lam.drain = none ∧ d0.rxOn = [] ∧ d0.txOn = []
  [decide (outer ∧ k.dmaExc = e :: es ∧ d0.canIssue x = true ∧ k.ecause < 2 ^ 31 ∧ k.task = some t ∧ t.handler ≠ 0 ∧
      e.ch < 32),
    decide (outer ∧ (k.dmaExc = [] ∨ 2 ^ 31 ≤ k.ecause ∧ k.ecause < 2 ^ 32)),
    decide (outer ∧ k.run = .faulted ∧ d0.halted x = false),
    decide (outer ∧ k.run ≠ .faulted),
    decide (outer ∧ k.run = .faulted ∧ d0.halted x = false ∧ k.task = some t),
    decide (outer ∧ k.task = some t ∧ t.free = false ∧ (k.run = .ready ∨ k.run = .yielded ∨ k.run = .faulted)),
    decide (outer ∧ (k.run = .idle ∨ k.run = .off)),
    decide (outer ∧ d0.unitHeld 4 (x / 4) = false ∧ d0.ctxEnabled x = true ∧ k.run = .off ∧
        s.chip.readDesc x = .good t ∧ t.free = true),
    decide (outer ∧ d0.unitHeld 4 (x / 4) = false ∧ d0.ctxEnabled x = true ∧ k.run = .off ∧
        s.chip.readDesc x = .refused),
    decide (outer ∧ d0.unitHeld 4 (x / 4) = false ∧ k.run ≠ .off),
    decide (outer ∧ d0.unitHeld 4 (x / 4) = false ∧ k.task = some t ∧ t.free = true ∧ k.run ≠ .off),
    decide (outer ∧ d0.unitHeld 4 (x / 4) = false ∧ k.task = some t ∧ t.free = false),
    decide (outer ∧ calm ∧ k.run = .idle ∧ k.restart = false ∧ d1.dueRelease x = some t ∧ t.ins = []),
    decide (outer ∧ calm ∧ k.run = .idle ∧ k.restart = false ∧ d1.dueRelease x = none),
    decide (outer ∧ d0.canIssue x = false),
    decide (outer ∧ d0.running x = true),
    decide (outer ∧ d0.canIssue x = true ∧ d0.running x = false),
    decide (outer ∧ d0.unitHeld 4 (x / 4) = false)]

theorem witness_Tasks :
    ((List.range 18).zip [30, 1, 6, 0, 6, 5, 2, 7, 12, 0, 0, 3, 23, 8, 1, 0, 30, 0]).all (fun (k, n) =>
      ((tasksHyps (s6 n) 5 (if n % 3 != 1 then (((s6 n).chip.dev.ctx 5).task.getD (task6 n)) else task6 n) ⟨3, [1,
          2, 3, 4]⟩ [⟨4, [5, 6, 7, 8]⟩] (fun c => c.onDev fun d => d.setCtx 5 Ctx.init))[k]?).getD false) = true :=
          by
  decide +kernel

end Sys2Proof.Test.Engine
end

