-- ==== Sys2Proof/Tests/WitnessEth.lean ====
section
/-! SUPPORT. Witnesses for the statements of the claims' part engine: for every clause a state and operands that meet its
hypotheses together. -/

namespace Sys2Proof.Test.Eth
open Sys2Proof.Machine Sys2Proof.Claim

-- one theorem at a time: side by side their evaluations take too much memory
set_option Elab.async false
set_option synthInstance.maxHeartbeats 2000000
set_option synthInstance.maxSize 100000
set_option maxRecDepth 20000

def fs7 : List Fld := [F.MAC_CTL_MODE 1, F.MAC_CTL_AN_EN 1, F.MAC_CTL_DELIVER_BAD 1, F.MAC_CTL_BCAST_ACCEPT 1,
    F.MAC_CTL_PAUSE_IGNORE 1, F.MAC_STATUS_BLOCK_LOCK 1, F.MAC_STATUS_MODE_ACTIVE 1, F.MAC_STATUS_AN_DONE 1,
    F.MAC_STATUS_LINK_UP 1, F.MAC_EVENTS_LINK_CHG 1, F.MAC_STATUS_PAUSED 1, F.MAC_EEE_EN 1, F.MAC_EEE_TW_NS 1,
    F.MAC_CNT_COUNT 1 0, F.MAC_CNT_COUNT 1 17, F.TIME_PORT_INGRESS_LAT_LAT 1, F.MAC_GCL_ENTRY_MASK_GATES 1 0,
    F.MAC_GCL_ENTRY_INTERVAL_NS 1 0, F.TIME_PORT_EGRESS_LAT_LAT 1, F.MAC_STATUS_LPI_TX 1, F.MAC_GCL_CTL_COUNT 1,
    F.MAC_GCL_CYCLE_NS 1]
def dst (n : Nat) : List Byte := if n % 9 == 0 then List.replicate 6 255 else [1, 2, 3, 4, 5,
    BitVec.ofNat 8 (n % 2)]
def frm (n : Nat) : List Byte :=
  let b := dst n ++ [9, 9, 9, 9, 9, 9] ++ (if n % 5 == 1 then [0x88, 0x08, 0, 1, 0, BitVec.ofNat 8 (n % 3)]
      else if n % 5 == 3 then [0x88, 0xf7] else if n % 5 == 2 then [0x22, 0xf0, 2, 128, 0, 0, 0, 0, 0, 7, 0, 0, 0,
      8] else [0x08, 0x00, 0x12, 0x13, 5, 6]) ++ (List.range (40 + n % 5)).map (BitVec.ofNat 8)
  let b := if n % 13 == 4 then b.take 30 else b
  let b := b ++ List.replicate (if n % 13 == 4 then 0 else 60 - b.length) 0
  if n % 17 == 3 then b.take (n % 16) else b ++ (if n % 11 == 7 then [1, 2, 3, 4] else fcsOf b)
/-- A small state that varies with `n`. -/
def s7 (n : Nat) : State :=
  let d := (rst fs7 (n * 31 + 5)).wrs [(F.MAC_CTL_EN 1, bit (n % 7 != 6)), (F.QM_REGION_CELLS, 16),
      (F.MAC_MAX_LEN_LEN 1, if n % 15 == 14 then 60 else 1518), (F.MAC_FILT_HI_EN 1 3, 1),
      (F.MAC_FILT_HI_ADDR_HI 1 3, 0x102), (F.MAC_FILT_LO_ADDR_LO 1 3, 0x03040500), (F.MAC_RXR_CFG_BASE 1 1, 0x5000),
      (F.MAC_RXR_CFG_SIZE 1 1, 3), (F.MAC_RXR_PTR_HEAD 1 1, n % 8), (F.MAC_RXR_PTR_TAIL 1 1, (n * 3) % 8),
      (F.MAC_POOL_FREE 1, n % 6), (F.MAC_TXR_CFG_BASE 1 5, 0x6000), (F.MAC_TXR_CFG_SIZE 1 5, 2),
      (F.MAC_TXR_PTR_HEAD 1 5, n % 4), (F.MAC_TXR_PTR_TAIL 1 5, n / 4 % 4), (F.MAC_GCL_CTL_EN 1, bit (n % 5 == 0)),
      (F.MAC_LATE_LIMIT_NS 1, n % 3 * 50), (F.MAC_RXR_CFG_BASE 1 0, 0x5100), (F.MAC_RXR_CFG_SIZE 1 0, 3),
      (F.MAC_RXR_PTR_HEAD 1 0, n % 8), (F.MAC_RXR_PTR_TAIL 1 0, (n * 3) % 8),
      (F.MAC_STATUS_LINK_UP 1, bit (n % 3 != 0)), (F.MAC_STATUS_LPI_TX 1, bit (n % 8 == 7))]
  let d := { d with time := { d.time with raw := 100000 * n, running := true }}
  let m : Mem := (List.range 4).foldl (fun m i => let a :=
      0x6000 + 32 * i; ((((m.store a 4 0x7000).store (a + 4) 4 ((if n % 5 == 0 then 2000
      else 64) + 2 ^ 14 * (n % 2) + 2 ^ 16 * (n / 2 % 2) + 2 ^ 19 * (n / 3 % 2))).store (a + 12) 4 (if n % 3 == 0 then
      10 else 100000 * n * 2-5))).store 0x7000 4 0x11223344) ⟨[], []⟩
  let d := d.setMac 1 { Mac.init with
    rx := [⟨1, (n * 3) % 8, [3, 4], [5]⟩, ⟨1, (n * 3 + 1) % 8, [6], [5]⟩, ⟨0, 0, [7], [6]⟩],
    seq1 := n,
    rose := if n % 29 == 5 then 100000 * n else 0,
    fell := if n % 3 == 0 then 100000 * n else 0,
    tails := if n % 8 == 2 then [(100000 * n, 1, (n + 1) % 8), (100000 * n - 5, 0, 2)] else [],
    line := if n % 4 == 0 then some ⟨if n % 8 == 0 then 5 else 6, [1], 77, none,
      if n % 20 == 4 then some 0x6100 else none, none⟩ else none,
    pause := 1500000 * n + (if n % 3 == 0 then 10 ^ 9 else 0),
    anEn := n % 2 == 0,
    heads := if n % 2 == 1 then [(5, if n % 5 == 0 then none else if n % 5 == 1 then some (200000 * n-20)
        else some (199000 * n))] else [],
    c6 := if n % 10 == 9 then [⟨[1, 2], 100, 3, 0⟩] else [],
    closing := n % 16 == 12,
    gclOp := if n % 2 == 0 then some ⟨[(255, 1000), (15, 2000)], 5000, 0, 0⟩ else none,
    gclPend := if n % 3 == 0 then some ⟨[(255, 1000), (15, 2000)], 5000, 0,
        200000 * n-200 + n * 20 + (if n % 9 == 0 then 10 ^ 6 else 0)⟩ else none,
    gclBase := n * n * 5000,
    idleRaw := 99000 * n }
  let d := { d with
    net := { d.net with
      rxs := if n % 5 == 2 then [(4, {RxFlow.init with cfg := some ⟨2, 0, 2, 0, 1, false, false, 1, false, (7, 8),
          (0, 0), 0, 0, 0, 0, 0, 0⟩})] else [] } }
  { State.reset with chip := ⟨d, m⟩ }
def ln (n : Nat) : OnLine := ((s7 n).chip.dev.mac 1).line.getD ⟨0, [], 0, none, none, none⟩
def gl (n : Nat) : Gcl := let m := (s7 n).chip.dev.mac 1; if n % 3 == 0 then m.gclPend.getD ⟨[], 1, 0, 0⟩
    else m.gclOp.getD ⟨[], 1, 0, 0⟩

/-- The hypotheses of the clauses of `MacLink`, each once. -/
def macLinkHyps (s : State) (p : Fin 4) (_line : BitVec 6) (_page : BitVec 16) (cl : Fin 8) : List Bool :=
  let outer := Live s ∧ s.chip.dev.unitHeld 1 p = false
  let d0 := s.chip.dev
  let m0 := d0.mac p
  let one := d0.on (F.MAC_STATUS_MODE_ACTIVE p)
  [decide (outer ∧ d0.on (F.MAC_CTL_EN p) = false),
    decide (outer ∧ d0.on (F.MAC_CTL_EN p) = true),
    decide (outer ∧ d0.on (F.MAC_CTL_EN p) = true ∧ m0.line.isSome = true),
    decide (outer ∧ d0.on (F.MAC_CTL_EN p) = true ∧ m0.line = none ∧ cl.val ≠ 6 ∧
        d0.inPages (d0.rd (F.MAC_TXR_CFG_BASE p cl)) (32 * 2 ^ d0.rd (F.MAC_TXR_CFG_SIZE p cl)) = true ∧
        d0.rd (F.MAC_TXR_CFG_SIZE p cl) ≤ 12 ∧
        d0.rd (F.MAC_TXR_PTR_TAIL p cl) < 2 ^ d0.rd (F.MAC_TXR_CFG_SIZE p cl)),
    decide (outer ∧ d0.on (F.MAC_CTL_EN p) = true ∧ one = true ∧ m0.anEn = true ∧
        d0.on (F.MAC_STATUS_BLOCK_LOCK p) = true),
    decide (outer ∧ m0.pause ≤ d0.time.raw * 20),
    decide (outer ∧ d0.time.raw * 20 < m0.pause),
    decide (outer ∧ d0.on (F.MAC_CTL_EN p) = true ∧ d0.on (F.MAC_EEE_EN p) = true ∧
        d0.on (F.MAC_STATUS_LPI_TX p) = false ∧ m0.line = none ∧ m0.idleRaw + 500 ≤ d0.time.raw ∧
        s.chip.quiet p = true),
    decide (outer ∧ d0.on (F.MAC_STATUS_LPI_TX p) = true ∧ (d0.on (F.MAC_EEE_EN p) = false ∨
        s.chip.quiet p = false))]

theorem witness_MacLink :
    ((List.range 9).zip [6, 0, 0, 1, 0, 1, 0, 10, 7]).all (fun (k, n) =>
      ((macLinkHyps (s7 n) 1 (BitVec.ofNat 6 (rnd n)) 0x1234 5)[k]?).getD false) = true := by
  decide +kernel

/-- The hypotheses of the clauses of `FrameReceive`, each once. -/
def frameReceiveHyps (s : State) (p : Fin 4) (bytes : List Byte) (sym align ovf : Bool) (_bad : Option (BitVec 26))
    (ago i f b : Nat) : List Bool :=
  let outer := Live s ∧ s.chip.dev.unitHeld 1 p = false
  let d0 := s.chip.dev
  let m0 := d0.mac p
  let len := bytes.length
  let fr := bytes.take (len - 4)
  let maxLen := d0.rd (F.MAC_MAX_LEN_LEN p)
  let began := d0.time.raw - ago / 32
  let on_ := m0.rose ≤ began ∧ (d0.on (F.MAC_CTL_EN p) = true ∨ began < m0.fell)
  let free := fun (r hd n : Nat) => (hd + 1) % n ≠ d0.rd (F.MAC_RXR_PTR_TAIL p r) % n ∧
      (hd + 1) % n ≠ d0.tailAt p r began % n
  let good := on_ ∧ (sym || align) = false ∧ bytes.drop (len - 4) = fcsOf fr ∧ 64 ≤ len ∧ len ≤ maxLen ∧
    etherType fr ≠ 0x8100 ∧ etherType fr ≠ 0x88A8
  let filtered := d0.filtHit p fr = some i ∧ (fieldAt fr 0 6 = 2 ^ 48 - 1 →
      d0.on (F.MAC_CTL_BCAST_ACCEPT p) = false)
  let n := d0.rxSize p 1
  let head := d0.rd (F.MAC_RXR_PTR_HEAD p 1) % n
  let a := d0.rd (F.MAC_RXR_CFG_BASE p 1) + 16 * head
  let n0 := d0.rxSize p 0
  let h0 := d0.rd (F.MAC_RXR_PTR_HEAD p 0) % n0
  let a0 := d0.rd (F.MAC_RXR_CFG_BASE p 0) + 16 * h0
  let cells := (fr.length + 255) / 256
  let room := ovf = false ∧ d0.ingressFill p + fr.length ≤ 32768
  [decide (outer ∧ ¬ on_),
    decide (outer ∧ on_ ∧ len < 14),
    decide (outer ∧ on_ ∧ 14 ≤ len ∧ d0.on (F.MAC_CTL_DELIVER_BAD p) = false ∧ sym = true),
    decide (outer ∧ on_ ∧ 14 ≤ len ∧ d0.on (F.MAC_CTL_DELIVER_BAD p) = false ∧ sym = false ∧ align = true),
    decide (outer ∧ on_ ∧ 14 ≤ len ∧ d0.on (F.MAC_CTL_DELIVER_BAD p) = false ∧ (sym || align) = false ∧
        bytes.drop (len - 4) ≠ fcsOf fr),
    decide (outer ∧ on_ ∧ 14 ≤ len ∧ d0.on (F.MAC_CTL_DELIVER_BAD p) = false ∧ (sym || align) = false ∧
        bytes.drop (len - 4) = fcsOf fr ∧ len < 64),
    decide (outer ∧ on_ ∧ 64 ≤ len ∧ d0.on (F.MAC_CTL_DELIVER_BAD p) = false ∧ (sym || align) = false ∧
        bytes.drop (len - 4) = fcsOf fr ∧ maxLen < len),
    decide (outer ∧ on_ ∧ 14 ≤ len ∧ d0.on (F.MAC_CTL_DELIVER_BAD p) = true ∧ sym = true ∧ d0.net.draining = false ∧
        free 1 head n ∧ (min len maxLen + 255) / 256 ≤ d0.rd (F.MAC_POOL_FREE p) ∧ d0.inPages a 16 = true ∧
        maxLen < 2 ^ 14 ∧ a % 16 = 0 ∧ 0 < d0.rd F.QM_REGION_CELLS),
    decide (outer ∧ good ∧ d0.filtHit p fr = none ∧ fieldAt fr 0 6 ≠ 2 ^ 48 - 1 ∧ d0.flowHit p fr none = none),
    decide (outer ∧ good ∧ filtered ∧ ¬room),
    decide (outer ∧ good ∧ filtered ∧ room ∧ etherType fr = 0x8808 ∧ fieldAt fr 14 2 = 1 ∧
        d0.on (F.MAC_CTL_PAUSE_IGNORE p) = false),
    decide (outer ∧ good ∧ room ∧ etherType fr ≠ 0x8808 ∧ ptpAt fr = none ∧ d0.flowHit p fr none = some (f, b) ∧
        d0.net.draining = false ∧ ((fieldAt fr 0 6 = 2 ^ 48 - 1 → d0.on (F.MAC_CTL_BCAST_ACCEPT p) = false))),
    decide (outer ∧ good ∧ filtered ∧ room ∧ etherType fr ≠ 0x8808 ∧ ptpAt fr = none ∧ d0.flowHit p fr none = none ∧
        ¬ free 1 head n),
    decide (outer ∧ good ∧ filtered ∧ room ∧ etherType fr ≠ 0x8808 ∧ ptpAt fr = none ∧ d0.flowHit p fr none = none ∧
        d0.net.draining = false ∧ free 1 head n ∧ cells ≤ d0.rd (F.MAC_POOL_FREE p) ∧ d0.inPages a 16 = true ∧
        maxLen < 2 ^ 14 ∧ a % 16 = 0 ∧ 0 < d0.rd F.QM_REGION_CELLS),
    decide (outer ∧ good ∧ filtered ∧ room ∧ (ptpAt fr).isSome = true ∧
        d0.on (F.TIME_PORT_PTP_CTL_ASYM_EN p) = false ∧ d0.net.draining = false ∧ free 0 h0 n0 ∧
        cells ≤ d0.rd (F.MAC_POOL_FREE p) ∧ d0.inPages a0 16 = true ∧ a0 % 16 = 0 ∧ 0 < d0.rd F.QM_REGION_CELLS)]

theorem witness_FrameReceive :
    ((List.range 15).zip [6, 3, 39, 2, 29, 30, 59, 1, 5, 8, 66, 12, 114, 10, 28]).all (fun (k, n) =>
      ((frameReceiveHyps (s7 n) 1 (frm n) (n % 19 == 1) (n % 23 == 2) (n % 12 == 5||n % 6 == 2) (if n % 5 == 3 then
          some 0x1238 else none) (n * 3) 3 4 0)[k]?).getD false) = true := by
  decide +kernel

/-- The hypotheses of the clauses of `MacRing`, each once. -/
def macRingHyps (s : State) (p : Fin 4) (r : Fin 2) (cl : Fin 8) (tail : BitVec 12) (_sfd : Nat) (_ecc : Bool)
    (l : OnLine) (b : Nat) : List Bool :=
  let outer := Live s ∧ s.chip.dev.unitHeld 1 p = false
  let d0 := s.chip.dev
  let m0 := d0.mac p
  let n := d0.rxSize p r
  let old := d0.rd (F.MAC_RXR_PTR_TAIL p r) % n
  let held := (d0.rd (F.MAC_RXR_PTR_HEAD p r) + n - old) % n
  let moved := (tail.toNat + n - old) % n
  let h := s.chip.head p cl
  let top := ∀ k : Fin 8, cl < k → s.chip.head p k = .none
  let ready := d0.mayStart p = true ∧ h ≠ .none ∧ top
  let a := d0.txDesc p cl
  [decide (outer ∧ tail.toNat < n ∧ moved ≤ held),
    decide (outer ∧ (n ≤ tail.toNat ∨ held < moved)),
    decide (outer ∧ cl.val ≠ 6),
    decide (outer ∧ ready ∧ s.chip.headRefused p cl h = none ∧ s.chip.clearToStart p cl h = true ∧
        s.chip.launched h = true ∧ s.chip.tooLate p cl h = false),
    decide (outer ∧ ready ∧ s.chip.headRefused p cl h = some 3 ∧ cl.val ≠ 6 ∧ a + 32 ≤ 2 ^ 26),
    decide (outer ∧ d0.mayStart p = false),
    decide (outer ∧ m0.line = some l ∧ l.desc = none ∧ l.cls = cl.val ∧ cl.val ≠ 6 ∧ m0.closing = false ∧
        a + 32 ≤ 2 ^ 26),
    decide (outer ∧ m0.line = some l ∧ l.desc = some b ∧ m0.closing = false ∧ b + 32 ≤ 2 ^ 26),
    decide (outer ∧ m0.line = some l ∧ l.desc = none ∧ l.cls = 6 ∧ m0.closing = false),
    decide (outer ∧ m0.line = none),
    decide (outer ∧ d0.on (F.MAC_CTL_EN p) = true ∧ h ≠ .none ∧ s.chip.tooLate p cl h = true ∧
        d0.on (F.MAC_STATUS_LINK_UP p) = false ∧ cl.val ≠ 6 ∧ a + 32 ≤ 2 ^ 26),
    decide (outer ∧ (s.chip.tooLate p cl h = false ∨ h = .none)),
    decide (outer ∧ d0.time.raw * 20 < m0.pause)]

theorem witness_MacRing :
    ((List.range 13).zip [0, 2, 0, 1, 5, 0, 0, 4, 20, 1, 3, 0, 0]).all (fun (k, n) =>
      ((macRingHyps (s7 n) 1 1 5 (BitVec.ofNat 12 (n * 3 % 8 + n % 4)) (n % 5) (n % 3 == 0)
          (ln n) 0x6100)[k]?).getD false) = true := by
  decide +kernel

/-- The hypotheses of the clauses of `Gates`, each once. -/
def gatesHyps (s : State) (p : Fin 4) (g : Gcl) (i : Fin 64) (_cl : Fin 8) : List Bool :=
  let outer := Live s ∧ s.chip.dev.unitHeld 1 p = false
  let d0 := s.chip.dev
  let m0 := d0.mac p
  let phase := ((d0.now10 - g.base * 10) % (g.cycle * 10)).toNat
  let into := fun (k : Nat) => ((g.entries.take k).map (fun e => e.2 * 10)).sum
  [decide (outer ∧ d0.on (F.MAC_GCL_CTL_EN p) = false),
    decide (outer ∧ d0.on (F.MAC_GCL_CTL_EN p) = true),
    decide outer,
    decide (outer ∧ m0.gclPend = some g ∧ g.start * 2 ^ 40 ≤ d0.corrAt d0.time.raw),
    decide (outer ∧ m0.gclPend = some g ∧ d0.corrAt d0.time.raw < g.start * 2 ^ 40),
    decide (outer ∧ m0.gclOp = some g ∧ d0.on (F.MAC_GCL_CTL_EN p) = true),
    decide (outer ∧ m0.gclOp = none),
    decide (outer ∧ d0.on (F.MAC_GCL_CTL_EN p) = true ∧ m0.gclOp = some g ∧ m0.gclPend = none ∧
        i.val < g.entries.length ∧ 0 < g.cycle ∧ into i ≤ phase ∧ ((phase < into (i + 1) ∨
        i.val + 1 = g.entries.length))),
    decide (outer ∧ (d0.on (F.MAC_GCL_CTL_EN p) = false ∨ m0.gclOp = none ∧ m0.gclPend = none))]

theorem witness_Gates :
    ((List.range 9).zip [1, 0, 0, 3, 0, 10, 1, 20, 1]).all (fun (k, n) =>
      ((gatesHyps (s7 n) 1 (gl n) (Fin.ofNat 64 (n / 2 % 2)) 5)[k]?).getD false) = true := by
  decide +kernel

end Sys2Proof.Test.Eth
end

