-- ==== Sys2Proof/Tests/WitnessFloat.lean ====
section
/-! SUPPORT. Witnesses for the statements of the claims' part int: for every clause a state and operands that meet its
hypotheses together. -/

namespace Sys2Proof.Test.Floats
open Sys2Proof.Machine Sys2Proof.Claim

-- one theorem at a time: side by side their evaluations take too much memory
set_option Elab.async false
set_option synthInstance.maxHeartbeats 2000000
set_option synthInstance.maxSize 100000
set_option maxRecDepth 20000

def fv (k : Nat) : Word :=
  let r := rnd (rnd (k + 55)); let c := r % 16; let q := r / 16
  BitVec.ofNat 32 (match c with
    | 0 => q % 2 * 2 ^ 31 + q / 8 % 2
    | 1 => q % 2 * 2 ^ 31 + 0x7F800000
    | 2 => q % 2 * 2 ^ 31 + 0x7F800000 + 1 + q / 2 % 2 ^ 22
    | 3 => q % 2 * 2 ^ 31 + 0x7FC00000 + q / 2 % 2 ^ 22
    | 4 => q % 2 * 2 ^ 31 + 0x7F7FFFFF- q / 2 % 3
    | 5 => q % 2 * 2 ^ 31 + 0x00800000 + q / 2 % 4
    | 6 => q % 2 * 2 ^ 31 + 0x3F800000 + q / 2 % 4
    | 7 => q % 2 * 2 ^ 31 + (120 + q / 2 % 40) * 2 ^ 23 + q / 128 % 2 ^ 23
    | 8 => q % 2 * 2 ^ 31 + (120 + q / 2 % 40) * 2 ^ 23 + (q / 128 % 8) * 2 ^ 20
    | 9 => q % 2 * 2 ^ 31 + (120 + q / 2 % 40) * 2 ^ 23
    | 10 => q % 2 * 2 ^ 31 + (157 + q / 2 % 3) * 2 ^ 23 + 2 ^ 23-1-q / 16 % 2
    | 11 => q % 2 * 2 ^ 31 + (126 + q / 2 % 3) * 2 ^ 23 + 2 ^ 23-1-q / 16 % 2
    | _ => q)
/-- A small state that varies with `n`. -/
def s15 (n : Nat) : State :=
  let g := fun j => if n % 5 == 4 && j % 2 == 0 then fv (n * 40 + j + 1) else if n % 5 == 3 && j % 2 == 0 then
      fv (n * 40 + j + 1) ^^^ 0x80000000 else fv (n * 40 + j)
  let k := { Ctx.init with
    run := .ready,
    asid := 3,
    pc := 64,
    fsr := if n % 3 == 0 then 0 else rnd n % 4096,
    g := ((List.range 32).drop 1).filterMap fun j => if g j == 0 then none else some (j, g j) }
  let d := Dev.reset.setCtx 5 k
  let d := d.setLines 1 [(3, k.pc / 64)]
  { State.reset with chip := ⟨{ d with resetN := true, supplyOk := true }, State.reset.chip.mem⟩ }
def rsn (n : Nat) : BitVec 5 := BitVec.ofNat 5 (rnd (n * 3))
def rtn (n : Nat) : BitVec 5 := if n % 5 ≥ 3 then rsn n + 1 else BitVec.ofNat 5 (rnd (n * 7))
def fpn (s : State) (r : BitVec 5) : Fp := Fp.of ((s.chip.dev.ctx 5).rdG r).toNat
def negF : Fp → Bool | .fin n _ _ => n | .inf n => n | _ => false
def mF : Fp → Nat | .fin _ m _ => m | _ => 0
def eF : Fp → Int | .fin _ _ m => m | _ => 0

/-- The hypotheses of the clauses of `FloatArith`, each once. -/
def floatArithHyps (s : State) (x : Fin 64) (_rd rs rt : BitVec 5) (n n' : Bool) (m m' : Nat)
    (e e' : Int) : List Bool :=
  let outer := Issues s x
  let a := ((s.chip.dev.ctx x).rdG rs).toNat
  let b := ((s.chip.dev.ctx x).rdG rt).toNat
  let u := Fp.of a
  let v := Fp.of b
  let ru := fpVal u
  let rv := fpVal v
  let nums := u = .fin n m e ∧ v = .fin n' m' e'
  [decide (outer ∧ nums ∧ ru + rv ≠ 0),
    decide (outer ∧ nums ∧ ru - rv ≠ 0),
    decide (outer ∧ nums ∧ m ≠ 0 ∧ m' ≠ 0),
    decide (outer ∧ u = .fin false m e ∧ m ≠ 0),
    decide (outer ∧ nums ∧ ru + rv = 0 ∧ m ≠ 0),
    decide (outer ∧ nums ∧ m = 0 ∧ m' = 0),
    decide (outer ∧ nums ∧ ((m = 0 ∨ m' = 0))),
    decide (outer ∧ nums ∧ m ≠ 0 ∧ m' = 0),
    decide (outer ∧ nums ∧ m = 0 ∧ m' ≠ 0),
    decide (outer ∧ u = .fin n m e ∧ m = 0),
    decide (outer ∧ u = .fin true m e ∧ m ≠ 0),
    decide (outer ∧ u = .inf true),
    decide (outer ∧ u = .inf false),
    decide (outer ∧ u = .inf n ∧ v = .inf n),
    decide (outer ∧ u = .inf n ∧ v = .inf (!n)),
    decide (outer ∧ u = .inf n ∧ v = .inf n'),
    decide (outer ∧ u = .inf n ∧ v = .fin n' m' e'),
    decide (outer ∧ u = .fin n m e ∧ v = .inf n'),
    decide (outer ∧ ((u = .nan true ∨ v = .nan true))),
    decide (outer ∧ u = .nan true),
    decide (outer ∧ u ≠ .nan true ∧ v ≠ .nan true ∧ ((u = .nan false ∨ v = .nan false))),
    decide (outer ∧ u = .nan false)]

theorem witness_FloatArith :
    ((List.range 22).zip [0, 2, 0, 3, 3, 262, 5, 7, 5, 5, 0, 21, 38, 444, 248, 248, 21, 35, 34, 34, 1,
        45]).all (fun (k, n) =>
      ((floatArithHyps (s15 n) 5 (BitVec.ofNat 5 (rnd (n * 11))) (rsn n) (rtn n) (negF (fpn (s15 n) (rsn n)))
          (negF (fpn (s15 n) (rtn n))) (mF (fpn (s15 n) (rsn n))) (mF (fpn (s15 n) (rtn n))) (eF (fpn (s15 n)
          (rsn n))) (eF (fpn (s15 n) (rtn n))))[k]?).getD false) = true := by
  decide +kernel

/-- The hypotheses of the clauses of `FloatPick`, each once. -/
def floatPickHyps (s : State) (x : Fin 64) (_rd rs rt : BitVec 5) : List Bool :=
  let outer := Issues s x
  let a := ((s.chip.dev.ctx x).rdG rs).toNat
  let b := ((s.chip.dev.ctx x).rdG rt).toNat
  let i := ((s.chip.dev.ctx x).rdG rs).toInt
  let u := Fp.of a
  let v := Fp.of b
  let num : Fp → Bool := fun f => match f with
    | .fin _ _ _ => true
    | _ => false
  let order : Fp → ℚ := fun f => match f with
    | .inf n => if n = true then -(2 ^ 200) else 2 ^ 200
    | f => fpVal f
  let p := order u
  let q := order v
  let nan : Fp → Bool := fun (f : Fp) => decide (f = .nan true ∨ f = .nan false)
  let sane := nan u = false ∧ nan v = false
  [decide (outer ∧ sane ∧ p < q),
    decide (outer ∧ sane ∧ q < p),
    decide (outer ∧ sane ∧ p = q ∧ p ≠ 0),
    decide (outer ∧ sane ∧ p = 0 ∧ q = 0),
    decide (outer ∧ nan u = true ∧ nan v = false),
    decide (outer ∧ nan u = false ∧ nan v = true),
    decide (outer ∧ nan u = true ∧ nan v = true),
    decide (outer ∧ sane),
    decide (outer ∧ (nan u = true ∨ nan v = true)),
    decide (outer ∧ i ≠ 0),
    decide (outer ∧ i = 0),
    decide (outer ∧ num u = true),
    decide (outer ∧ u = .inf true),
    decide (outer ∧ u = .inf false),
    decide (outer ∧ nan u = true),
    decide outer]

theorem witness_FloatPick :
    ((List.range 16).zip [2, 3, 0, 262, 34, 1, 59, 0, 1, 0, 16, 0, 21, 38, 34, 0]).all (fun (k, n) =>
      ((floatPickHyps (s15 n) 5 (BitVec.ofNat 5 (rnd (n * 11))) (rsn n) (rtn n))[k]?).getD false) = true := by
  decide +kernel

end Sys2Proof.Test.Floats
end

