-- ==== Sys2Proof/Tests/WitnessFlow.lean ====
section
/-! SUPPORT. Witnesses for the statements of the claims' part eth: for every clause a state and operands that meet its
hypotheses together. -/

namespace Sys2Proof.Test.Flow
open Sys2Proof.Machine Sys2Proof.Claim

-- one theorem at a time: side by side their evaluations take too much memory
set_option Elab.async false
set_option synthInstance.maxHeartbeats 2000000
set_option synthInstance.maxSize 100000
set_option maxRecDepth 20000

def fs8 : List Fld := [F.RXF_EVENTS_LATE_EV 3, F.RXF_CNT_COUNT 3 0, F.RXF_CNT_COUNT 3 13, F.RXF_TIMEOUT_TICKS 3,
    F.TXF_LAUNCH_OFFSET_NS 3, F.RXF_RTP_OFFSET_OFFSET 3]
def k8 (n : Nat) : RxCfg := ⟨if n % 5 == 4 then 2 else if n % 5 ==3 then 1 else 0, n % 3, 1, n % 4, 1, n % 2 == 1,
    n % 7 == 0, 8, false, (7, 8), (9, 10), 97, 0x55, n % 5 * 3, 0x8000, 20, n % 5 * 3⟩
-- an RTP frame: 14 eth + 20 ip + 8 udp + 12 rtp + payload
def rtp (n : Nat) : List Byte :=
  let pl := if n % 5 == 3 then 2 else 3
  List.replicate 14 1 ++ List.replicate 20 0 ++ [0, 0, 0, 0, 0, BitVec.ofNat 8 (20 + pl), 0, 0] ++
      [if n % 11 == 10 then 0 else 0x80, 97, BitVec.ofNat 8 (n / 256), BitVec.ofNat 8 n, 0, 0,
      BitVec.ofNat 8 ((626 + 6 * (n % 9) + n % 4) / 256), BitVec.ofNat 8 (if n % 7 == 0 then 0
      else 626 + 6 * (n % 9) + n % 4)] ++ [0, 0, 0, 0x55] ++ (List.range pl).map (BitVec.ofNat 8 <| n * 37+·)
def x8 (n : Nat) : FlowFrame := ⟨3, if n % 4 == 3 then 1 else 0, rtp n, 2000000 + n * 1000, 0, n % 5⟩
/-- A small state that varies with `n`. -/
def s8 (n : Nat) : State :=
  let d := (rst fs8 (n * 31 + 5)).wrs [(F.QM_REGION_CELLS, 16), (F.MAC_MAX_LEN_LEN 1, 1518),
      (F.MAC_MAX_LEN_LEN 0, 1518), (F.RXF_CTL_FORMAT 3, n % 8), (F.RXF_CTL_RATE 3, n % 3),
      (F.RXF_CTL_CHANNELS 3, 1 + n % 4), (F.RXF_CTL_RING_TICKS 3, n % 4), (F.RXF_RING_BASE_BASE 3, 0x8000),
      (F.RXF_QBASE_Q 3, 20), (F.TXF_CTL_FORMAT 3, n % 8), (F.TXF_CTL_RATE 3, n % 3),
      (F.TXF_CTL_CHANNELS 3, 1 + n % 4), (F.TXF_CTL_PTIME 3, n % 3), (F.TXF_QBASE_Q 3, 40),
      (F.TXF_HDR_A_ADDR 3, 0x9000), (F.TXF_HDR_LEN_LEN_A 3, if n % 8 == 2||n % 8 == 3||n % 8 == 4 then 38 else 54),
      (F.TXF_HDR_B_ADDR 3, 0x9100), (F.TXF_LAUNCH_OFFSET_NS 3, n),
    (F.RXF_STATUS_READY 3, bit (n % 4 != 1)), (F.RXF_STATUS_STATE_A 3, if n % 2 == 0 then 2 else n % 4),
        (F.RXF_STATUS_STATE_B 3, if n % 3 == 0 then 2 else n % 4), (F.TIME_STATUS_MEDIA_VALID, bit (n % 9 != 8)),
        (F.RXF_TIMEOUT_TICKS 3, n % 5)]
  let d := { d with
    tick := 3,
    time := { d.time with
      raw := 1000000 * n,
      running := true,
      mediaCount := 6 * (n % 9 + 100),
      tickAt := 2000000 ,
      residual := (n % 5 : Nat) } }
  let pt : Path := ⟨some 1900000, if n % 4 == 1 then none else some (1900000, 1800000 + n * 100000 + (if n % 16 == 12 then 10 ^ 13 else 0)),
      n % 3 == 0,
      some (if n % 2 == 0 then n else 5)⟩
  let d := { d with
    net := { d.net with
      ingress := if n % 8>4 then [] else [x8 n],
      rxs := if n % 5 == 0 then [] else [(3, ⟨some (k8 n), n % 4 + 1, pt, pt⟩), (5, ⟨some (k8 4), 1, Path.init,
          Path.init⟩)],
      txs := if n % 5 == 1 then [(3, ⟨some (d.txCfg 3), 1, none, 5⟩)] else [] } }
  { State.reset with chip := ⟨d, (Mem.store ⟨[], []⟩ 0x8000 4 0x1234ff85).store (0x8000 + 2 ^ 10) 4 255⟩ }
/-- The settings of transmit flow 6, which sends a packet each tick, and the state with its queue or without one. -/
def kt8 (n : Nat) : TxCfg := ⟨n % 3, n % 2, 1, 1, 1, n % 4 == 0, false, (0x9000, 54), (0x9100, 54), 700, 5, 9⟩
def s8t (n : Nat) : State :=
  let d := (s8 n).chip.dev
  let d := d.wrs [(F.ROUTE_E_OFF_ACTIVE (epTx 6 0), bit (n % 3 == 0)), (F.ROUTE_E_Q_ACTIVE (epTx 6 0), 9),
    (F.ROUTE_E_OFF_ACTIVE (epRx 3 0), 0), (F.ROUTE_E_Q_ACTIVE (epRx 3 0), 9), (F.Q_CFG_EN 9, 1), (F.Q_CFG_GRANT 9, 3),
    (F.TWIN_CFG_TX_HOLDER, bit (n % 5 == 0)), (F.RXF_STATUS_STATE 3, if n % 7 == 0 then 1 else 2),
    (F.TXF_SEQ_NEXT 6, 65530 + n % 6)]
  let d := d.setQ 9 { Queue.init with
    chain := [5],
    packets := if n % 4 == 1 then [] else [⟨(List.range (6 * 2 ^ (n % 2))).map fun i => ⟨BitVec.ofNat 32 (i * n * 99991),
      i + 1 == 6 * 2 ^ (n % 2), 0⟩, none, some 2, 0, false, 0⟩] }
  { s8 n with chip := ⟨{ d with net := { d.net with
      rxs := d.net.rxs.take 1, txs := [(6, ⟨some (kt8 n), if n % 11 == 3 then 9 else 1, none, 65535⟩)] } }, (s8 n).chip.mem⟩ }
def pq8 (n : Nat) : Packet := ((s8t n).chip.dev.q 9).packets.headD ⟨[], none, none, 0, false, 0⟩
def fq8 (n : Nat) : TxFrame := (((s8t n).chip.packFlow 6 (kt8 n)).2.headD (0, ⟨[], 0, 0, 0⟩)).2
def dl8 (n : Nat) : Int × Int := (let r := (s8 n).chip.dev.rxf 3; (if n % 2 == 0 then r.a else r.b).due.getD (0, 0))
def kk (n : Nat) : RxCfg := ((s8 n).chip.dev.rxf 3).cfg.getD (k8 n)
def pp8 (n : Nat) : Parsed := ((if isAaf (k8 n).fmt then (k8 n).parseAaf (rtp n)
    else (k8 n).parseRtp (rtp n))).getD ⟨0, 0, 0, []⟩
def fr8 (n : Nat) := (payloadIn (k8 n).fmt 1 (pp8 n).body).getD ([], 0)

/-- The hypotheses of the clauses of `FlowControl`, each once. -/
def flowControlHyps (s : State) (f : Fin 128) (b : Fin 2) (_v : BitVec 16) (k : RxCfg) (s0 dl : Int)
    (_g _i : Nat) : List Bool :=
  let outer := Live s ∧ s.chip.dev.unitHeld 2 f = false ∧ s.chip.dev.unitHeld 3 f = false
  let d0 := s.chip.dev
  let c := d0.rxCfg f
  let t := d0.txCfg f
  let load := rxLoad ((f, c) :: d0.rxOn)
  let tload := txLoad ((f, t) :: d0.txOn)
  let p := if b.val = 0 then (d0.rxf f).a else (d0.rxf f).b
  let ticks := d0.rd (F.RXF_TIMEOUT_TICKS f)
  let past := p.due = some (s0, dl) ∧ (d0.sysCycles 2480 : Int) ≤ d0.cyclesSince dl ∧ d0.net.ingress = [] ∧
    d0.rd (pathState f b) = 2
  [decide (outer ∧ (d0.rxf f).cfg = none ∧ d0.rxBad f = false ∧ load.1 ≤ 1024 ∧ load.2 ≤ 2048),
    decide (outer ∧ (d0.rxf f).cfg = none ∧ (d0.rxBad f = true ∨ 1024 < load.1 ∨ 2048 < load.2)),
    decide (outer ∧ (d0.rxf f).cfg = some k),
    decide (outer ∧ (d0.rxf f).cfg = some k ∧ d0.on (F.RXF_STATUS_READY f) = false),
    decide (outer ∧ (d0.rxf f).cfg = none),
    decide (outer ∧ past ∧ p.later = false),
    decide (outer ∧ past ∧ p.later = true ∧ 0 < ticks),
    decide (outer ∧ p.due = none),
    decide (outer ∧ p.due = some (s0, dl) ∧ d0.cyclesSince dl < d0.sysCycles 2480),
    decide (outer ∧ (d0.txf f).cfg = none ∧ d0.txBad f = false ∧ tload.1 ≤ 1024 ∧ tload.2 ≤ 2048),
    decide (outer ∧ (d0.txf f).cfg = none ∧ (d0.txBad f = true ∨ 1024 < tload.1 ∨ 2048 < tload.2)),
    decide (outer ∧ (d0.txf f).cfg.isSome = true),
    decide outer]

theorem witness_FlowControl :
    ((List.range 13).zip [0, 15, 1, 1, 0, 14, 6, 0, 12, 0, 7, 1, 0]).all (fun (k, n) =>
      ((flowControlHyps (s8 n) 3 (Fin.ofNat 2 n) 99 (kk n) (dl8 n).1 (dl8 n).2 5 (n % 5))[k]?).getD false) = true := by
  decide +kernel

/-- The hypotheses of the clauses of `FlowPacket`, each once. -/
def flowPacketHyps (s : State) (x : FlowFrame) (rest : List FlowFrame) (k : RxCfg) (p : Parsed)
    (frames : List (List Int)) (bad : Nat) (xs : List Int) (_g : Nat) (y : Int) (i j q0 ft : Nat) (kt : TxCfg)
    (pq : Packet) (pqs : List Packet) (fr : TxFrame) : List Bool :=
  let outer := Live s
  let d0 := s.chip.dev
  let f := x.flow
  let r := d0.rxf f
  let first := d0.net.ingress = x :: rest
  let ready := first ∧ r.cfg = some k ∧ d0.on (F.RXF_STATUS_READY f) = true ∧ r.since ≤ x.tick
  let parsed := if isAaf k.fmt = true then k.parseAaf x.bytes else k.parseRtp x.bytes
  let sm := x.stamp - d0.time.residual
  let w : Int := k.k * (d0.time.mediaCount + 6 * -((d0.time.tickAt - sm - 128000) / 2000000))
  let q := d0.sampleIndex k p x.stamp + k.link
  let path := if x.path = 0 then r.a else r.b
  let a := k.ring + 4 * ((q % (k.len : Int)).toNat * k.ch)
  let tag := lowOf 7 (q / spt k.rate)
  let m := spt k.rate
  let up := d0.on (F.RXF_STATUS_READY f) = true
  let running := d0.rd (F.RXF_STATUS_STATE f) = 2
  let pk := s.chip.packFlow ft kt
  let starts := d0.time.mediaCount % (6 * kt.m) = 0 ∧ (d0.txf ft).since ≤ d0.tick
  let short := starts ∧ kt.m = 1 ∧ kt.ch = 1 ∧ d0.oldBind (epTx ft 0) = none
  [decide (outer ∧ d0.net.ingress = []),
    decide (outer ∧ first ∧ r.cfg = none),
    decide (outer ∧ first ∧ r.cfg = some k ∧ (d0.on (F.RXF_STATUS_READY f) = false ∨ x.tick < r.since)),
    decide (outer ∧ ready ∧ d0.timeOk = false),
    decide (outer ∧ ready ∧ d0.timeOk = true ∧ parsed = none),
    decide (outer ∧ ready ∧ d0.timeOk = true ∧ parsed = some p ∧ payloadIn k.fmt k.ch p.body = some (frames, bad) ∧
        x.path < 2),
    decide (outer ∧ ready ∧ d0.timeOk = true ∧ parsed = some p ∧ payloadIn k.fmt k.ch p.body = some ([xs], bad) ∧
        k.ch = 1 ∧ xs = [y] ∧ w ≤ q ∧ q < w + ((k.ticks - 2) * spt k.rate : Nat) ∧ 2 ≤ k.ticks ∧
        (s.chip.mem.byte (a + 3)).toNat ≠ 128 + tag ∧ -(2 ^ 23) ≤ y ∧ y < 2 ^ 23),
    decide (outer ∧ ready ∧ d0.timeOk = true ∧ parsed = some p ∧ path.seq = some p.seq ∧ x.path < 2 ∧
        payloadIn k.fmt k.ch p.body = some (frames, bad)),
    decide (outer ∧ d0.on (F.RXF_STATUS_READY f) = false),
    decide (outer ∧ up),
    decide (outer ∧ up ∧ i < m ∧ j < k.ch),
    decide (outer ∧ up ∧ running ∧ k.ch = 1 ∧ d0.bound (epRx f 0) = some q0 ∧ PacketRoom d0 q0),
    decide (outer ∧ d0.rxOn = [(f, k)] ∧ k.group < 16),
    decide (outer ∧ ¬ starts ∧ d0.on (F.TXF_STATUS_RUNNING ft) = false),
    decide (outer ∧ short ∧ d0.bound (epTx ft 0) = none),
    decide (outer ∧ short ∧ d0.bound (epTx ft 0) = some q0 ∧ d0.firstTake (epTx ft 0) = false ∧
        d0.rd (F.Q_CFG_EN q0) ≠ 0 ∧ (d0.q q0).err = false ∧ (d0.q q0).packets = pq :: pqs ∧
        pq.arrival.isSome = true ∧ pq.words.length = spt kt.rate),
    decide (outer ∧ d0.net.draining = false ∧ d0.realigning = false ∧ d0.txOn = [(ft, kt)] ∧ pk.2 = [(q0, fr)] ∧
        q0 < 4)]

theorem witness_FlowPacket :
    ((List.range 17).zip [5, 0, 1, 8, 4, 12, 12, 12, 1, 0, 0, 2, 1, 3, 0, 2, 1]).all (fun (k, n) =>
      ((flowPacketHyps (s8t n) (x8 n) [] (kk n) (pp8 n)
          (fr8 n).1 (fr8 n).2 ((fr8 n).1.headD []) 5 (((fr8 n).1.headD []).headD 0) (n % 6) (n % 2)
          (if n % 5 == 1 then 1 else 9) 6 (kt8 n) (pq8 n) [] (fq8 n))[k]?).getD false) = true := by
  decide +kernel

end Sys2Proof.Test.Flow
end

