-- ==== Sys2Proof/Tests/WitnessHost.lean ====
section
/-! SUPPORT. Witnesses for the statements of the claims' part port: for every clause a state and operands that meet its
hypotheses together. -/

namespace Sys2Proof.Test.HostPort
open Sys2Proof.Machine Sys2Proof.Claim

-- one theorem at a time: side by side their evaluations take too much memory
set_option Elab.async false
set_option synthInstance.maxHeartbeats 2000000
set_option synthInstance.maxSize 100000
set_option maxRecDepth 20000

def fs10 : List Fld := [F.SYS_HQ_CFG_CMD4, F.SYS_GUARD_BAD_KEY, F.SYS_GUARD_DENIED, F.SYS_WIN_BANK_BANK,
    F.SYS_HQ_STAT_PARTIAL, F.SYS_WIN_BANK_BANK]
def ks : List Nat := [0x10000080, 0x100410, 0x110410, 0x10000000, 0x30000018, 0x200000, 0x120410]
def ad10 (n : Nat) : BitVec 24 := BitVec.ofNat 24 (match n % 5 with
  | 0 => 2 ^ 23 + n * 4 % 100 * 4
  | 1 => [0, 4, 8, 0xC, 0x34, 0x200000, 0x100004].getD (n / 5 % 9) 0
  | 2 => 0x100000 + n * 4
  | 3 => rnd n
  | _ => 2 ^ 23 + 25600 + rnd n % 250 * 4)
/-- A small state that varies with `n`. -/
def s10 (n : Nat) : State :=
  let d := (rst [F.SYS_HQ_CFG_CMD4, F.SYS_GUARD_BAD_KEY,
      F.SYS_HQ_STAT_PARTIAL] (n * 31 + 5)).wrs [(F.QM_REGION_CELLS, 100), (F.SYS_WIN_BANK_BANK, n % 8),
      (F.SYS_MBX_STAT_BUSY, bit (n % 5 != 0)), (F.SYS_MBX_REQ_WRITE, n % 2), (F.SYS_MBX_D_DATA 0, rnd n),
      (F.SYS_MBX_REQ_SEL, if n % 3 == 0 then 1 else if n % 3 == 1 then 0 else 7),
      (F.SYS_MBX_REQ_ADDR, if n % 3 == 0 then 0x80 else 0x120410)]
  let d := { d with time := { d.time with raw := 100000 * n * n * n, running := n % 8 != 7 } }
  let d := { d with
    badRows := if n % 11 < 4 then [(n % 8 * 2 ^ 23 + (ad10 n).toNat % 2 ^ 23) / 8 * 8] else [],
    sys := { d.sys with
      jtag := { d.sys.jtag with busy := if n % 4 == 1 then [(1, 0), (5, 0)] else [] },
      scrubbed := n % 6 != 5,
      host := { d.sys.host with
        buf := match n % 7 with
          | 0 => [.bytes (if n % 2 == 0 then 2 ^ 23 * 3 + n else n) [BitVec.ofNat 8 n]]
          | 1 => [.word (if n % 2 == 0 then 0x150000 else 0x20) (if n % 3 == 0 then 0x6A95 else 7), .word 8 8]
          | 2 => .word (if n % 2 == 0 then 0x34 else 0x150000) 5 :: (List.range 31).map fun i => .word (0x10 * i) 5
          | _ => [],
        run := if n % 14 < 7 then 127 + n % 4 else n,
        reqs := [(n % 3, ⟨n % 4 == 0, (if n % 2 == 0 then 0x20 else 0x20), (if n % 2 == 0 then 2 else n % 8),
            n % 3 == 0, false⟩)] } } }
  { State.reset with chip := ⟨d, Mem.store ⟨[], []⟩ (n % 8 * 2 ^ 23 + n * 4 % 100 * 4) 4 0x12345678⟩ }
def hb10 (n : Nat) : Nat × Byte × Nat × Nat × List Posted := match (s10 n).chip.dev.sys.host.buf with
 | .bytes a (b::_) :: ps => (a, b, 0, 0, ps) | .word a v :: ps => (0, 0, a, v, ps) | _ => (0, 0, 0, 0, [])
def bg (n : Nat) : Chip := Chip.drainBuffer 32 ((s10 n).chip.onDev Dev.hostBegin)
def rw10 (n : Nat) := Chip.readWords (n % 8 * 2 ^ 23) (n % 3) (ad10 n).toNat (bg n)
def fa10 (n : Nat) : Word := BitVec.ofNat 32 (match n % 6 with
  | 0 => [0x8, 0x10, 0x18, 0xC, 0x80, 0x84, 0x24, 0x28, 0x2c].getD (n / 6 % 9) 0
  | 1 => rnd n % 0x200
  | 2 => if n % 4 == 0 then 0x10000018 else 0x70000000 + n
  | 3 => if n / 6 % 2 == 0 then 2 ^ 23 + 25600 + rnd n % 250 * 4 else 0x100000 + rnd n % 0x1000
  | 4 => 0x30000000 + 4 * (rnd n % 0x100)
  | _ => 0x200000 + 4 * (rnd n % 0x1000))
def fk10 (n : Nat) : Nat := if n / 2 % 2 == 0 then (canonForm (fa10 n).toNat).getD 0
    else (canonInd ((s10 n).chip.dev.req (n % 3)).space ((s10 n).chip.dev.req (n % 3)).offset).getD 0
def ff10 (n : Nat) : FieldD := (((regFields (fk10 n)).getD [])[n / 6 % 4]?).getD ⟨0, 1, .rw, 0⟩

/-- The hypotheses of the clauses of `HostBus`, each once. -/
def hostBusHyps (s : State) (addr : BitVec 24) (bytes : List Byte) (n : Nat) (code : BitVec 8) (quad : Bool)
    (b : Byte)
    (a v r : Nat) (ps : List Posted) (c2 : Chip) (ws : List Nat) (more : Bool) (_z next : Nat) : List Bool :=
  let outer := Live s
  let d0 := s.chip.dev
  let h0 := d0.sys.host
  let up := d0.hostUp = true
  let room := h0.buf.length + (bytes.length + 3) / 4 ≤ 32
  let bank := d0.rd F.SYS_WIN_BANK_BANK * 2 ^ 23
  let at_ := bank + addr.toNat % 2 ^ 23
  let cells := d0.rd F.QM_REGION_CELLS * 256
  let begun := Chip.drainBuffer 32 (s.chip.onDev Dev.hostBegin)
  let inRun := (quad = true ∨ d0.on F.SYS_HQ_CFG_CMD4 = true) ∧ canonDirect addr.toNat = some 0x34
  let run := if inRun then (if h0.buf = [] then 0 else h0.run) + 1 else 0
  [decide (outer ∧ up ∧ addr.toNat + bytes.length ≤ 2 ^ 23 ∧ room),
    decide (outer ∧ up ∧ 2 ^ 23 ≤ addr.toNat ∧ addr.toNat + bytes.length ≤ 2 ^ 24 ∧ room),
    decide (outer ∧ up ∧ addr.toNat + 4 ≤ 2 ^ 23 ∧ bytes.length = 4 ∧ h0.buf.length = 32 ∧
        h0.buf = .word a v :: ps ∧ canonDirect a = none),
    decide (outer ∧ up ∧ addr.toNat + 4 ≤ 2 ^ 23 ∧ bytes.length = 4 ∧ h0.buf.length = 32 ∧ (d0.slowFirst = false ∨
        run ≤ 128)),
    decide (outer ∧ up ∧ addr.toNat + 4 ≤ 2 ^ 23 ∧ bytes.length = 4 ∧ h0.buf.length = 32 ∧ d0.slowFirst = true ∧
        128 < run),
    decide (outer ∧ up ∧ n = 1 ∧ more = false ∧ h0.buf = [] ∧ addr.toNat < 2 ^ 23 ∧
        canonDirect addr.toNat = some r ∧ r ≠ 0x34 ∧ d0.inReset r = false ∧ (beforeScrub r = false ∨
        d0.sys.scrubbed = true)),
    decide (outer ∧ up ∧ n = 1 ∧ more = false ∧ h0.buf = [] ∧ 2 ^ 23 ≤ addr.toNat ∧ d0.sys.scrubbed = true ∧
        addr.toNat % 4 = 0 ∧ cells ≤ at_ ∧ d0.badRow at_ = false),
    decide (outer ∧ up ∧ n = 1 ∧ more = false ∧ h0.buf = [] ∧ 2 ^ 23 ≤ addr.toNat ∧ d0.sys.scrubbed = true ∧
        addr.toNat % 4 = 0 ∧ cells ≤ at_ ∧ d0.badRow at_ = true),
    decide (outer ∧ up ∧ 0 < n ∧ Chip.readWords bank n addr.toNat begun = (c2, ws, next)),
    decide (outer ∧ up ∧ n = 0 ∧ h0.buf = [] ∧ canonDirect addr.toNat = some r ∧ addr.toNat < 2 ^ 23 ∧ r ≠ 0x34 ∧
        d0.inReset r = false ∧ (beforeScrub r = false ∨ d0.sys.scrubbed = true)),
    decide (outer ∧ up),
    decide (outer ∧ up ∧ code.toNat ∉ [0x02, 0x0B, 0x32, 0xEB, 0x05]),
    decide (outer ∧ up ∧ code.toNat ∈ [0x02, 0x0B, 0x32, 0xEB, 0x05]),
    decide (outer ∧ up ∧ h0.buf = [] ∧ canonDirect addr.toNat = some r ∧ addr.toNat < 2 ^ 23 ∧ r ≠ 0x34 ∧
        d0.inReset r = false ∧ (beforeScrub r = false ∨ d0.sys.scrubbed = true) ∧ r ≠ 0xC),
    decide (outer ∧ h0.buf = .bytes a [b] :: ps ∧ d0.sys.scrubbed = true ∧ cells ≤ bankByte a 0),
    decide (outer ∧ h0.buf = .bytes a [b] :: ps ∧ d0.sys.scrubbed = true ∧ bankByte a 0 < cells),
    decide (outer ∧ h0.buf = .word a v :: ps ∧ canonDirect a = none),
    decide (outer ∧ h0.buf = .word a v :: ps ∧ canonDirect a = some 0x20 ∧ v % 2 ^ 32 = 0x6A95),
    decide (outer ∧ h0.buf = []),
    decide (outer ∧ d0.hostUp = false)]

theorem witness_HostBus :
    ((List.range 20).zip [0, 0, 37, 2, 786, 67, 10, 25, 2, 6, 0, 0, 1, 6, 0, 7, 8, 15, 3, 7]).all (fun (k, n) =>
      ((hostBusHyps (s10 n) (ad10 n) ((List.range (if n % 7 == 2 then 4 else n % 10)).map (BitVec.ofNat 8 ·))
          (n % 3) (BitVec.ofNat 8 (if n % 2 == 0 then n else 2)) (n / 3 % 2 == 0)
          (hb10 n).2.1 (if n % 7 == 1 || n % 7 == 2 then (hb10 n).2.2.1 else (hb10 n).1)
          (hb10 n).2.2.2.1 ((canonDirect (ad10 n).toNat).getD 0)
          (hb10 n).2.2.2.2 (rw10 n).1 (rw10 n).2.1 (n / 4 % 2 == 1) (n % 4) (rw10 n).2.2)[k]?).getD false) = true :=
          by
  decide +kernel

/-- The hypotheses of the clauses of `HostRegs`, each once. -/
def hostRegsHyps (s : State) (r : Fin 65) (addr v : Word) (k j : Nat) (f : FieldD) : List Bool :=
  let outer := Live s
  let d0 := s.chip.dev
  let q0 := d0.req r
  let may := r.val = 0 → d0.hostUp = true ∧ d0.sys.host.buf = []
  let reg := may ∧ inWindow r addr.toNat = false
  let at_ := d0.rd F.SYS_WIN_BANK_BANK * 2 ^ 23 + addr.toNat % 2 ^ 23
  let window := may ∧ inWindow r addr.toNat = true ∧ d0.sys.scrubbed = true ∧ addr.toNat % 4 = 0 ∧
    d0.rd F.QM_REGION_CELLS * 256 ≤ at_
  let plain := reg ∧ canonForm addr.toNat = some k ∧ k < 0x100000 ∧
    k ∉ [0x20, 0x30, 0x34, 0x38, 0x40, 0x48, 0x4C, 0x50, 0x54] ∧ ((regFields k).getD [])[j]? = some f
  let busy := d0.on F.SYS_MBX_STAT_BUSY = true
  [decide (outer ∧ plain ∧ f.ty = .rw),
    decide (outer ∧ plain ∧ f.ty = .w1c ∧ f.width = 1),
    decide (outer ∧ plain ∧ (f.ty = .ro ∨ f.ty = .rc)),
    decide (outer ∧ reg ∧ canonForm addr.toNat = some F.TIME_JUMP_LIMIT),
    decide (outer ∧ reg ∧ canonForm addr.toNat = none),
    decide (outer ∧ reg ∧ canonForm addr.toNat = some k ∧ k ≠ 0x34 ∧ d0.inReset k = false ∧ (beforeScrub k = false ∨
        d0.sys.scrubbed = true)),
    decide (outer ∧ reg ∧ canonForm addr.toNat = some k ∧ k ≠ 0x34 ∧ d0.inReset k = true),
    decide (outer ∧ window),
    decide (outer ∧ window ∧ d0.badRow at_ = false),
    decide (outer ∧ r.val = 0 ∧ d0.hostUp = false),
    decide (outer ∧ may ∧ canonInd q0.space q0.offset = none),
    decide (outer ∧ may ∧ canonInd q0.space q0.offset = some k ∧ d0.inReset k = false ∧ k = F.PORT_RATE_TOL j ∧
        j < 32),
    decide (outer ∧ may ∧ canonInd q0.space q0.offset = some k ∧ d0.inReset k = false ∧ (beforeScrub k = false ∨
        d0.sys.scrubbed = true)),
    decide (outer ∧ may ∧ v.toNat = 0x6A95),
    decide (outer ∧ may ∧ v.toNat ≠ 0x6A95),
    decide (outer ∧ busy ∧ d0.on F.SYS_MBX_REQ_WRITE = false ∧ d0.mbxTarget = some 0x10000080),
    decide (outer ∧ busy ∧ d0.on F.SYS_MBX_REQ_WRITE = false ∧ d0.mbxTarget.all (fun a => !isMb a) = true),
    decide (outer ∧ d0.on F.SYS_MBX_STAT_BUSY = false),
    decide (outer ∧ busy ∧ d0.on F.SYS_MBX_REQ_WRITE = true ∧ d0.mbxTarget = some (0x100410 + j * 0x10000) ∧ j < 4 ∧
        d0.inReset (0x100410 + j * 0x10000) = false),
    decide (outer ∧ busy ∧ d0.on F.SYS_MBX_REQ_WRITE = true ∧ d0.mbxTarget.all (fun a => !isMb a) = true)]

theorem witness_HostRegs :
    ((List.range 20).zip [169, 180, 24, 8, 2, 1, 33, 3, 3, 15, 7, 2, 2, 18, 1, 6, 2, 0, 13, 11]).all (fun (k, n) =>
      ((hostRegsHyps (s10 n) (Fin.ofNat 65 (n % 3)) (fa10 n) (BitVec.ofNat 32 (if n % 9 == 0 then 0x6A95
          else rnd (n * 7))) (fk10 n) (n / 6 % 4) (ff10 n))[k]?).getD false) = true := by
  decide +kernel

end Sys2Proof.Test.HostPort
end

