-- ==== Sys2Proof/Tests/WitnessLam.lean ====
section
/-! SUPPORT. Witnesses for the statements of the claims' part host: for every clause a state and operands that meet its
hypotheses together. -/

namespace Sys2Proof.Test.Laminate
open Sys2Proof.Machine Sys2Proof.Claim

-- one theorem at a time: side by side their evaluations take too much memory
set_option Elab.async false
set_option synthInstance.maxHeartbeats 2000000
set_option synthInstance.maxSize 100000
set_option maxRecDepth 20000

def fs11 : List Fld := [F.LAM_STATUS_FLASH_BUSY, F.LAM_CTL_TIMED, F.LAM_FLASH_SLOT, F.LAM_CNT_COUNT 0,
    F.LAM_CNT_COUNT 1, F.LAM_CNT_COUNT 3, F.LAM_EVENTS_LATE_EV, F.LAM_RESULT_OTHER_CODE]
def ver11 (n : Nat) : Nat := 5 + n % 3
def img0 (n : Nat) (crc : Nat) : List Nat :=
  [0x4C414D31, if n % 29 == 3 then 0 else ver11 n, 216, crc, 2, 0, 0, 0] ++ [1, 64, 20, 0] ++
      [2 + (if n % 2 == 0 then 256 else 0), 84, 132, 0x3001000] ++ [2, 0x300000, 0x22, 0x300200, 0x3001000] ++ [0,
      0x20, 0x1000] ++ List.replicate 30 0
/-- The words of an image as bytes, most significant first. -/
def by11 (ws : List Nat) : List Byte := ws.flatMap fun w => [BitVec.ofNat 8 (w / 2 ^ 24), BitVec.ofNat 8 (w / 2 ^ 16),
    BitVec.ofNat 8 (w / 2 ^ 8), BitVec.ofNat 8 w]
/-- Cells that hold these words from `a` on. -/
def cells11 (a : Nat) (ws : List Nat) : List Host.Cell := ((by11 ws).mapIdx fun i b => (a + i, b)).filter fun c => c.2 != 0
def img11 (n : Nat) : List Nat :=
  let bs := by11 (img0 n 0)
  let c := crc32 bs
  img0 n (if n % 11 == 5 then c + 1 else c)
/-- A small state that varies with `n`. -/
def s11 (n : Nat) : State :=
  let m : Mem := ⟨cells11 0x3000000 (if n % 9 == 8 then 3 :: (img11 n).drop 1 else img11 n) ++
      cells11 0x3001000 [0x20, 0x1000], [(5, 7), (2 ^ 24 + 9, 3)]⟩
  let d := (rst fs11 (n * 31 + 5)).wrs [(F.QM_REGION_CELLS, 64), (F.LAM_STATUS_STATE, n % 7),
      (F.LAM_STATUS_BUSY, bit (n / 7 % 2 == 0)), (F.LAM_STATUS_PREV_VALID, bit (n / 7 % 3 != 0)),
      (F.LAM_STAGE_ADDR_ADDR, 0x3000000), (F.LAM_SWITCH_AT_TICK, n % 5), (F.LAM_WINDOW_S, n / 7 % 2),
      (F.CORE_CFG_CTX_EN 1, 15), (F.DMA_STATUS_STATE 3, n % 4)]
  let c0 : Chip := ⟨d, m⟩
  let l : Layer := match c0.image 0x3000000 with | .ok (l, _) => l | _ => ⟨0x3000000, 1, 216, 0⟩
  let l' : Layer := { l with
    crc := if n % 5 == 0 then l.crc + 1 else l.crc,
    version := l.version + 1,
    addr := l.addr + 0x10000 * (n / 7 % 2) }
  let a : Arming := ⟨if n % 4 == 0 then some (n % 6) else none, 0, if n % 3 == 0 then none else some 1⟩
  let d := { d with
    tick := 2 + n % 4,
    time := { d.time with raw := 500000000 * ((n + n / 21) % 3), running := true, mediaCount := 6 * (n % 6) } }
  let d := d.setCtx 5 { Ctx.init with run := .ready, task := some ⟨n % 2 == 0, false, 1, 0, 3, 0x1000, 0, [], [], [], 0⟩ }
  let d := d.setQ 7 { Queue.init with
    packets := [⟨[⟨5, true, 0⟩], none, some 0, 0, false, 0⟩],
    chain := (List.range (1)).map (· + 5),
    epoch := n * 2000 }
  let d := { d with
    net := { d.net with draining := n % 7 == 5 },
    sys := { d.sys with
      lam := {
        cur := if n % 3 == 1 then none else some l',
        prev := if n % 4 == 2 then none else some l',
        staged := if n % 13 == 12 then none else some l,
        prior := n % 2,
        arm := if n % 7 == 4 then some a else none,
        switch := if n % 7 == 5 && n % 2 == 0 then SwitchKind.rollback (n % 4 == 0) 0 else .staged,
        drain := if n % 7 == 5 then some (if n % 3 == 1 then 1 + n % 4 else n % 4 + (if n % 6 == 0 then 1 else 0)) else none,
        recorded := n % 3 != 1,
        window := if n % 7 == 6 then some (500000000 * (n / 7 % 3)) else none,
        flash := if n % 5 == 4 then none else some (n % 2, if n % 3 != 0 then some l' else none),
        auto := n % 17 == 3,
        boot := none } } }
  { State.reset with chip := ⟨d, m⟩ }
def im11 (n : Nat) : Layer × List Section × Nat × Nat := match (s11 n).chip.image 0x3000000 with
  | .ok (l, ss) => (l, ss, 0, 0)
  | .error w => (⟨0x3000000, 1, 216, 0⟩, [], w.1, w.2)
def vf11 (n : Nat) : Layer × List Section × Verdict := match (s11 n).chip.verify 0x3000000 with
  | .ok (l, ss) => (l, ss, ⟨0, (0, 0), none⟩)
  | .error v => (⟨0, 0, 0, 0⟩, [], v)
def pv11 (n : Nat) : Layer := (s11 n).chip.dev.sys.lam.prev.getD ⟨0, 0, 0, 0⟩
def ar11 (n : Nat) : Arming := (s11 n).chip.dev.sys.lam.arm.getD ⟨none, 0, none⟩
def L11 (n : Nat) : Layer := let m := (s11 n).chip.dev.sys.lam; if n % 7 == 6 then pv11 n
    else if n % 7 == 2||n % 7 == 4||n % 7 == 5 then m.staged.getD ⟨0, 0, 0, 0⟩ else m.cur.getD ⟨0, 0, 0, 0⟩
def l2 (n : Nat) : Layer := if n % 7 == 2 then (vf11 n).1 else (im11 n).1

/-- The hypotheses of the clauses of `LamCommand`, each once. -/
def lamCommandHyps (s : State) (l : Layer) (ss : List Section) (w : Nat × Nat) (_slot : Fin 2)
    (p : Layer) : List Bool :=
  let outer := Live s
  let d0 := s.chip.dev
  let m0 := d0.sys.lam
  let st := d0.lstate
  let verifying := d0.on F.LAM_STATUS_BUSY = true
  let busy := d0.on F.LAM_STATUS_FLASH_BUSY
  let mayBack := (st = 6 ∨ st = 1) ∧ d0.on F.LAM_STATUS_PREV_VALID = true
  [decide (outer ∧ (st = 0 ∨ st = 1) ∧ s.chip.format (d0.rd F.LAM_STAGE_ADDR_ADDR) = .ok l),
    decide (outer ∧ (st = 0 ∨ st = 1) ∧ s.chip.format (d0.rd F.LAM_STAGE_ADDR_ADDR) = .error w),
    decide (outer ∧ st ≠ 0 ∧ st ≠ 1),
    decide (outer ∧ st = 2 ∧ d0.on F.LAM_STATUS_BUSY = false),
    decide (outer ∧ (st ≠ 2 ∨ d0.on F.LAM_STATUS_BUSY = true)),
    decide (outer ∧ st = 3 ∧ m0.staged = some l ∧ s.chip.image l.addr = .ok (l, ss)),
    decide (outer ∧ st ≠ 3),
    decide (outer ∧ (st = 2 ∧ ¬ verifying ∨ st = 3 ∨ st = 4)),
    decide (outer ∧ (st = 0 ∨ st = 1 ∨ st = 2 ∧ verifying ∨ st = 5 ∨ st = 6)),
    decide (outer ∧ st = 6),
    decide (outer ∧ st ≠ 6),
    decide (outer ∧ st = 1 ∧ busy = false),
    decide (outer ∧ st = 1 ∧ busy = true),
    decide (outer ∧ st ≠ 1),
    decide (outer ∧ mayBack ∧ m0.prev = some p ∧ s.chip.mem.imageCrc p.addr p.length = p.crc),
    decide (outer ∧ mayBack ∧ m0.prev = some p ∧ s.chip.mem.imageCrc p.addr p.length ≠ p.crc),
    decide (outer ∧ (st ≠ 6 ∧ st ≠ 1 ∨ d0.on F.LAM_STATUS_PREV_VALID = false)),
    decide (outer ∧ busy = false),
    decide (outer ∧ busy = true)]

theorem witness_LamCommand_1 :
    ([(0, 0), (1, 8), (2, 2), (3, 9), (4, 0)] : List (Nat × Nat)).all (fun (k, n) =>
      ((lamCommandHyps (s11 n) (im11 n).1 (im11 n).2.1 (im11 n).2.2 (Fin.ofNat 2 n)
          (pv11 n))[k]?).getD false) = true := by
  decide +kernel

theorem witness_LamCommand_2 :
    ([(5, 3), (6, 0), (7, 3), (8, 0), (9, 6)] : List (Nat × Nat)).all (fun (k, n) =>
      ((lamCommandHyps (s11 n) (im11 n).1 (im11 n).2.1 (im11 n).2.2 (Fin.ofNat 2 n)
          (pv11 n))[k]?).getD false) = true := by
  decide +kernel

theorem witness_LamCommand_3 :
    ([(10, 0), (11, 8), (12, 1), (13, 0), (14, 29)] : List (Nat × Nat)).all (fun (k, n) =>
      ((lamCommandHyps (s11 n) (im11 n).1 (im11 n).2.1 (im11 n).2.2 (Fin.ofNat 2 n)
          (pv11 n))[k]?).getD false) = true := by
  decide +kernel

theorem witness_LamCommand_4 :
    ([(15, 8), (16, 0), (17, 0), (18, 1)] : List (Nat × Nat)).all (fun (k, n) =>
      ((lamCommandHyps (s11 n) (im11 n).1 (im11 n).2.1 (im11 n).2.2 (Fin.ofNat 2 n)
          (pv11 n))[k]?).getD false) = true := by
  decide +kernel

/-- The hypotheses of the clauses of `LamSwitch`, each once. -/
def lamSwitchHyps (s : State) (l : Layer) (ss : List Section) (v : Verdict) (a : Arming) (ok : Bool)
    (save : Option Layer)
    (b e asked k : Nat)
    (auto : Bool) (slot : Fin 2) (_q : Fin 4096) (_x : Fin 64) (_ch : Fin 32) (l' : Layer)
        (ss' : List Section) : List Bool :=
  let outer := Live s
  let d0 := s.chip.dev
  let m0 := d0.sys.lam
  let st := d0.lstate
  let plain := m0.drain = some b ∧ b + 2 ≤ d0.tick ∧ m0.recorded = true
  [decide (outer ∧ st = 2 ∧ d0.on F.LAM_STATUS_BUSY = true ∧ m0.staged = some l ∧ m0.auto = false ∧ m0.boot = none ∧
      s.chip.verify l.addr = .ok (l', ss')),
    decide (outer ∧ st = 2 ∧ d0.on F.LAM_STATUS_BUSY = true ∧ m0.staged = some l ∧ m0.auto = false ∧
        m0.boot = none ∧ s.chip.verify l.addr = .error v ∧ v.code < 2 ^ F.LAM_RESULT_CODE.width),
    decide (outer ∧ st ≠ 2),
    decide (outer ∧ m0.arm = some a ∧ m0.staged = some l ∧ st = 4 ∧ a.early = none ∧ s.chip.image l.addr = .ok (l',
        ss)),
    decide (outer ∧ m0.arm = none),
    decide (outer ∧ st = 4 ∧ d0.armDue = true ∧ m0.switch = .staged ∧ m0.staged = some l ∧ d0.drive.drain = none ∧
        s.chip.image l.addr = .ok (l', ss) ∧ d0.clk.realign = .none),
    decide (outer ∧ m0.drain = some b ∧ m0.recorded = false ∧ d0.tick = b + 1 ∧ d0.net.draining = true ∧
        m0.switch = .staged ∧ m0.staged = some l ∧ s.chip.image l.addr = .ok (l', ss)),
    decide (outer ∧ st ≠ 4 ∧ st ≠ 5),
    decide (outer ∧ plain ∧ m0.switch = .staged ∧ m0.auto = false ∧ m0.staged = some l ∧ d0.clk.realign = .none),
    decide (outer ∧ plain ∧ m0.switch = SwitchKind.rollback auto asked ∧ d0.clk.realign = .none),
    decide (outer ∧ m0.drain = some b ∧ d0.tick < b + 2),
    decide (outer ∧ m0.window = some e ∧ st = 6 ∧ e ≤ d0.time.raw ∧ d0.on F.LAM_STATUS_PREV_VALID = false),
    decide (outer ∧ m0.window = some e ∧ st = 6 ∧ e ≤ d0.time.raw ∧ d0.on F.LAM_STATUS_PREV_VALID = true ∧
        m0.prev = some l ∧ s.chip.mem.imageCrc l.addr l.length = l.crc),
    decide (outer ∧ m0.window = some e ∧ d0.time.raw < e),
    decide (outer ∧ m0.flash = some (slot.val, none) ∧ ok = true ∧ k < slotBytes),
    decide (outer ∧ m0.flash = some (slot.val, some l) ∧ ok = true ∧ k < l.length ∧ l.length ≤ slotBytes - 4096),
    decide (outer ∧ m0.flash = some (slot.val, save) ∧ ok = false),
    decide (outer ∧ m0.flash = none)]

/-- `s11 58` with two register fields: a state in which a verification ends well. -/
def good11 : State :=
  let s := s11 58
  { s with chip := ⟨({ s.chip.dev with regs := [] }).wrs [(F.LAM_STATUS_STATE, 2), (F.LAM_STATUS_BUSY, 1)], s.chip.mem⟩ }

def lay11 : Layer := (im11 58).1
def secs11 : List Section := (im11 58).2.1
def recs11 : List Record := good11.chip.records 0x3000000 secs11
def asked11 : Chip :=
  ⟨good11.chip.dev.overlay recs11 false, (good11.chip.copyEarly 0x3000000 secs11).copyPart good11.chip.mem
    0x3000000 (secs11.filter fun s => !s.early)⟩

def post11 : Chip := { asked11 with dev := good11.chip.dev.overlay recs11 true }

theorem good11_image : good11.chip.image 0x3000000 = .ok (lay11, secs11) := by decide +kernel

theorem good11_checks :
    refuse (decide (good11.chip.mem.imageCrc 0x3000000 lay11.length ≠ lay11.crc)) 2 nowhere = none ∧
      refuse (decide (lay11.version = 0) || good11.chip.dev.sys.lam.cur.any (·.version == lay11.version)) 3 nowhere = none ∧
      recs11.find? asked11.dev.recordBad = none ∧ post11.dev.pinBad recs11 = none ∧ post11.dev.teuBad recs11 = none ∧
      post11.bufferBad recs11 secs11 lay11 good11.chip.dev.sys.lam.cur = none ∧ post11.queueBad recs11 = none := by
  decide +kernel
theorem good11_checks' : post11.dev.capacityBad = none ∧ post11.dev.stewardBad recs11 = none ∧
    post11.dev.groupBad recs11 = none ∧
    ({ good11.chip with dev := post11.dev } : Chip).twinBad 0x3000000 secs11 = none := by
  decide +kernel
theorem good11_range : asked11.rangeBad recs11 secs11 = none := by decide +kernel
theorem good11_credit : post11.dev.creditBad recs11 = none := by decide +kernel

/-- A verification ends well where no check refuses. -/
theorem verify_of {c : Chip} {a : Nat} {img : Layer} {ss : List Section} {rs : List Record} {asked post : Chip}
    (hr : c.records a ss = rs) (ha : ⟨c.dev.overlay rs false, (c.copyEarly a ss).copyPart c.mem a (ss.filter fun s => !s.early)⟩ = asked)
    (hp : { asked with dev := c.dev.overlay rs true } = post)
    (hi : c.image a = .ok (img, ss))
    (checks : refuse (decide (c.mem.imageCrc a img.length ≠ img.crc)) 2 nowhere = none ∧
      refuse (decide (img.version = 0) || c.dev.sys.lam.cur.any (·.version == img.version)) 3 nowhere = none ∧
      rs.find? asked.dev.recordBad = none ∧ post.dev.pinBad rs = none ∧ post.dev.teuBad rs = none ∧
      post.bufferBad rs ss img c.dev.sys.lam.cur = none ∧ post.queueBad rs = none)
    (checks' : post.dev.capacityBad = none ∧ post.dev.stewardBad rs = none ∧ post.dev.groupBad rs = none ∧
      ({ c with dev := post.dev } : Chip).twinBad a ss = none)
    (range : asked.rangeBad rs ss = none) (credit : post.dev.creditBad rs = none) :
    c.verify a = .ok (img, ss) := by
  subst hr ha hp
  obtain ⟨h1, h2, h3, h4, h5, h6, h7⟩ := checks
  obtain ⟨h8, h9, h10, h11⟩ := checks'
  simp only [Chip.verify, hi]
  rw [h1, h2, h3, h4, h5, h6, h7, h8, h9, h10, h11, range, credit]
  rfl

theorem good11_verify : good11.chip.verify 0x3000000 = .ok (lay11, secs11) :=
  verify_of (rs := recs11) (asked := asked11) (post := post11) rfl rfl rfl good11_image good11_checks good11_checks' good11_range good11_credit

theorem witness_LamSwitch_1 :
    Live good11 ∧ good11.chip.dev.lstate = 2 ∧ good11.chip.dev.on F.LAM_STATUS_BUSY = true ∧
      good11.chip.dev.sys.lam.staged = some lay11 ∧ good11.chip.dev.sys.lam.auto = false ∧
      good11.chip.dev.sys.lam.boot = none ∧ good11.chip.verify lay11.addr = .ok (lay11, secs11) := by
  have h : lay11.addr = 0x3000000 := by decide +kernel
  rw [h, good11_verify]
  decide +kernel

theorem witness_LamSwitch_2 :
    ([(1, 44), (2, 0), (3, 18), (4, 0), (5, 4)] : List (Nat × Nat)).all (fun (k, n) =>
      ((lamSwitchHyps (s11 n) (if n % 5 == 0 || n % 5 == 3 && n % 7 != 5 && n % 7 != 4 then
          (((s11 n).chip.dev.sys.lam.flash.getD (0, none)).2.getD (L11 n)) else L11 n) (if n % 7 == 2 then []
          else (im11 n).2.1) (vf11 n).2.2 (ar11 n) (n % 2 == 0) (((s11 n).chip.dev.sys.lam.flash.getD (0, none)).2)
          (((s11 n).chip.dev.sys.lam.drain).getD 0) (((s11 n).chip.dev.sys.lam.window).getD 0) 0 (n % 10)
          (n % 4 == 0) (Fin.ofNat 2 n) 7 5 3 (l2 n) (if n % 7 == 2 then (vf11 n).2.1
          else []))[k]?).getD false) = true := by
  decide +kernel

theorem witness_LamSwitch_3 :
    ([(6, 19), (7, 0), (8, 33), (9, 26), (10, 12)] : List (Nat × Nat)).all (fun (k, n) =>
      ((lamSwitchHyps (s11 n) (if n % 5 == 0 || n % 5 == 3 && n % 7 != 5 && n % 7 != 4 then
          (((s11 n).chip.dev.sys.lam.flash.getD (0, none)).2.getD (L11 n)) else L11 n) (if n % 7 == 2 then []
          else (im11 n).2.1) (vf11 n).2.2 (ar11 n) (n % 2 == 0) (((s11 n).chip.dev.sys.lam.flash.getD (0, none)).2)
          (((s11 n).chip.dev.sys.lam.drain).getD 0) (((s11 n).chip.dev.sys.lam.window).getD 0) 0 (n % 10)
          (n % 4 == 0) (Fin.ofNat 2 n) 7 5 3 (l2 n) (if n % 7 == 2 then (vf11 n).2.1
          else []))[k]?).getD false) = true := by
  decide +kernel

theorem witness_LamSwitch_4 :
    ([(11, 6), (12, 76), (13, 41), (14, 0), (15, 8)] : List (Nat × Nat)).all (fun (k, n) =>
      ((lamSwitchHyps (s11 n) (if n % 5 == 0 || n % 5 == 3 && n % 7 != 5 && n % 7 != 4 then
          (((s11 n).chip.dev.sys.lam.flash.getD (0, none)).2.getD (L11 n)) else L11 n) (if n % 7 == 2 then []
          else (im11 n).2.1) (vf11 n).2.2 (ar11 n) (n % 2 == 0) (((s11 n).chip.dev.sys.lam.flash.getD (0, none)).2)
          (((s11 n).chip.dev.sys.lam.drain).getD 0) (((s11 n).chip.dev.sys.lam.window).getD 0) 0 (n % 10)
          (n % 4 == 0) (Fin.ofNat 2 n) 7 5 3 (l2 n) (if n % 7 == 2 then (vf11 n).2.1
          else []))[k]?).getD false) = true := by
  decide +kernel

theorem witness_LamSwitch_5 :
    ([(16, 1), (17, 4)] : List (Nat × Nat)).all (fun (k, n) =>
      ((lamSwitchHyps (s11 n) (if n % 5 == 0 || n % 5 == 3 && n % 7 != 5 && n % 7 != 4 then
          (((s11 n).chip.dev.sys.lam.flash.getD (0, none)).2.getD (L11 n)) else L11 n) (if n % 7 == 2 then []
          else (im11 n).2.1) (vf11 n).2.2 (ar11 n) (n % 2 == 0) (((s11 n).chip.dev.sys.lam.flash.getD (0, none)).2)
          (((s11 n).chip.dev.sys.lam.drain).getD 0) (((s11 n).chip.dev.sys.lam.window).getD 0) 0 (n % 10)
          (n % 4 == 0) (Fin.ofNat 2 n) 7 5 3 (l2 n) (if n % 7 == 2 then (vf11 n).2.1
          else []))[k]?).getD false) = true := by
  decide +kernel

end Sys2Proof.Test.Laminate
end

