-- ==== Sys2Proof/Tests/WitnessLong.lean ====
section
/-! SUPPORT. Witnesses for the statements of the claims' part control: for every clause a state and operands that meet its
hypotheses together. -/

namespace Sys2Proof.Test.Long
open Sys2Proof.Machine Sys2Proof.Claim

-- one theorem at a time: side by side their evaluations take too much memory
set_option Elab.async false
set_option synthInstance.maxHeartbeats 2000000
set_option synthInstance.maxSize 100000
set_option maxRecDepth 20000

def fs6 : List Fld := [F.X_CNT_COUNT 1 1 7, F.MMU_FAULT_CNT_CORE, F.MMU_FAULT_CNT_DMA, F.DMA_STATUS_CAUSE 3,
    F.DMA_EVENTS_DONE_EV 3, F.CORE_HALT_HALT 1, F.X_CNT_COUNT 1 1 2, F.DMA_CNT_DESCS 3, F.DMA_STATUS_WHERE 3,
    F.DMA_DESC_VA 3]
def kv (k : Nat) : Word :=
  let r := rnd (rnd (k + 77)); let c := r % 9
  BitVec.ofNat 32 (if c == 0 then 0x80000000 else if c == 1 then 0x7FFFFFFF else if c == 2 then 0
      else if c == 3 then 0xFFFFFFFF else if c == 4 then r / 16 % 64 else r / 16)
def cnt18 (k : Nat) : Nat := let r := rnd (rnd (k + 5)); let t := r % 13; let d := r / 16 % 15; let t :=
    if r / 256 % 3 == 0 then t / 6 * 6 else t; let d := if r / 1024 % 2 == 0 then d / 6 * 6 else d; t * 65536 + d
def mixg (k : Nat) : Nat := let r := rnd (rnd (k + 9)); (r % 6) + (r / 8 % 5) * 256 + (if r / 64 % 3 == 0 then
    r / 256 % 20 else 0) * 2 ^ 16 + (if r / 8192 % 2 == 0 then 0
    else r / 16384 % 8) * 2 ^ 21 + (r / 2 ^ 17 % 4) * 2 ^ 24
def k18 (n : Nat) : Ctx :=
  let v := fun j => BitVec.ofNat 32 (if j % 4 == 0 then (if n % 6 == 5 then rnd (n * 40 + j) % 4 * 17
        else rnd (n * 40 + j) % 16 * 16 + rnd (n * 40 + j + 1) % 4)
      else if j % 4 == 1 then cnt18 (n * 40 + j) else if j % 4 == 2 then mixg (n * 40 + j)
      else rnd (rnd (n * 40 + j)))
  let pr := fun (p:Nat) => rnd (rnd (n * 8 + p))
  let pl := fun (p:Nat) => (if p == 1 then [0, 96, 192, 96, 64, 12] else [0, 0, 0, 0, 4096, 6]).getD (pr p % 6) 0
  let pp := fun (p:Nat) =>
    let r := pr p
    let l := pl p
    [(3 * p, 0xF0000000 + p * 0x2000 + r / 64 % 8 * 16 +
        (if n % 6 == 5 && p == 1 then 2 else 0)), (3 * p + 1, l), (3 * p + 2, if n % 6 == 5 && p == 1 then 0 else if l == 0 then (r / 64 % 9 * 4)
        else r / 64 % l / 4 * 4)]
  { Ctx.init with
    run := .ready,
    asid := 3,
    pc := if n % 7 == 0 then 2 ^ 32-4 else 64,
    fsr := if n % 3 == 0 then 0 else rnd n % 4096,
    g := ((List.range 32).drop 1).filterMap fun j => if v j == 0 then none else some (j, v j),
    v := (List.range 128).filterMap fun j => let v := kv (n * 140 + j); if v == 0 then none else some (j, v),
    p := ((List.range 8).flatMap pp).filter (·.2 != 0),
     a := (List.range 8).filterMap fun j => let v := (let r := rnd (rnd (n * 8 + j)); if r % 7 == 0 then 2 ^ 71-1
        else if r % 7 == 1 then 2 ^ 71 else if r % 7 == 2 then (r * 2 ^ 30 + 2 ^ 30) else if r % 7 == 3 then
        2 ^ 62 + r * 2 ^ 40 else r % 2 ^ 31 * 2 ^ 31); let b := BitVec.ofNat 72 v; if b == 0 then none else some (j,
        b),
    aov := if n % 2 == 0 then [(n % 8, true)] else [],
    mixing := if rnd (n + 7) % 2 == 0 && n % 5 != 3 then [if n % 7 == 0 then 2 ^ 32-4 else 64] else [] }
/-- A small state that varies with `n`. -/
def s18 (n : Nat) : State :=
  let k := k18 n
  let d := (rst fs6 (n * 31 + 5)).wrs [(F.MMU_FAULTQ_EN, 0), (F.CORE_HALT_HALT 1, 0),
      (F.Q_CFG_EN 7, bit (n % 11 != 1)), (F.Q_CFG_GRANT 7, 9), (F.QM_FREE_COMMON, 77)]
  let d := (d.setCtx 5 k).setCtx 6 { Ctx.init with pc := 9 }
  let d := d.setQ 7 { Queue.init with
    packets := if n % 4 == 3 then [] else [⟨[⟨BitVec.ofNat 32 (n * 9999), n % 4 == 0, n % 3⟩]++(if n % 4 == 0 then
        [] else if n % 4 == 1 then List.replicate 8 ⟨5, false, 0⟩ ++ [⟨6, true, 0⟩] else [⟨6, true, 0⟩]), none,
        some 0, 0, false, 0⟩],
    chain := (List.range (bit (n % 2 == 1))).map (· + 5) }
  let d := d.setLines 1 [(3, 1), (3, k.pc / 64), (3, 0), (4, 0)]
  -- random pan contents near each pointer
  let ap := fun (p:Nat) => 2 ^ 26 + 2 ^ 18 + p * 0x2000
  let m : Mem := ⟨[], [(3, 9#8)]⟩
  let m := [1, 2, 3].foldl (fun m p => m.storeBytes (ap p + rnd (n) % 16 * 4) ((List.range 48).map fun i =>
      BitVec.ofNat 8 (rnd (rnd (n * 640 + i + p * 1000))))) m
  let m := m.storeBytes (ap 1) (((List.range 8).map fun i => ((csfEncode (n % 2 == 0) ((List.range 6).map fun j =>
      (rnd (n * 99 + i * 6 + j) % 2 ^ 20 : Int)-2 ^ 19)).map (BitVec.ofNat 8) ++ [0, 0, 0]).take (if n % 3 == 0 then
      16 else if n % 2 == 0 then 10 else 13)).flatten)
  -- mix table at P4
  let i := (k.rdG 6).toNat / 256 % 128
  let tb := k.addr 4 (8 * i)
  let m := if n % 3 == 0 then m else (m.store (2 ^ 26 + 2 ^ 18 + tb-0xF0000000) 4 (7 + (if n % 5 == 0 then 2 ^ 31
      else 0)+ (n % 4) * 2 ^ 29)).store (2 ^ 26 + 2 ^ 18 + tb-0xF0000000 + 4) 4 (if n % 7 == 0 then 0
      else rnd (rnd n) % 2 ^ 32)
  { State.reset with chip := ⟨{ d with resetN := true, supplyOk := true }, m⟩ }
def pre (c : Chip) (sz : Nat) (a : Access) (rs : List Ref) : Chip × List Place := match c.prepare (c.dev.whoCtx 5) sz a rs with
  | (c, .ok l) => (c, l)
  | (c, _) => (c, [])
def gn18 (n : Nat) : BitVec 5 := BitVec.ofNat 5 (4 * (rnd n % 8) + 1)
def gs18 (n : Nat) : BitVec 5 := BitVec.ofNat 5 (if n % 3 == 0 then 0 else 4 * (rnd (n * 3) % 8))
abbrev refsF (n kind : Nat) (h : Bool) : List (Nat × Access × List Ref) :=
  let k0 := k18 n
  let total := (k0.rdG (gn18 n)).toNat / 65536
  let done := (k0.rdG (gn18 n)).toNat % 65536
  let m := min 8 (total - done)
  let taps := (List.range m).map (done + ·)
  let w := if h then 2 else 4
  let sN := (k0.rdG (gs18 n)).toNat % 16 + 1
  let s0 := (k0.rdG (gs18 n)).toNat / 16 % 16
  let sd := if sN ≤ s0 then 0 else s0
  let frame := if sd = 0 then (List.range 8).map (fun (j : Nat) => k0.ref 3 ((32 * done + 4 * j : Nat) : Int) 4)
      else []
  let out := if sd + 1 = sN then (List.range 8).map (fun (j : Nat) => k0.ref 3 ((32 * done + 4 * j : Nat) : Int) 4)
      else []
  let coefs := (List.range 40).map fun (i : Nat) => k0.ref 2 ((160 * sd + 4 * i : Nat) : Int) 4
  let states := (List.range 16).map fun (i : Nat) => k0.ref 5 ((128 * sd + 8 * i : Nat) : Int) 8
  match kind with
  | 0 => [(w, Access.load, taps.map fun (t : Nat) => k0.ref 2 ((w * t : Nat) : Int) w), (4, Access.load,
      taps.map fun (t : Nat) => k0.ref 3 (-((4 * t : Nat) : Int)) 4)]
  | 1 => [(4, Access.load, taps.map fun (t : Nat) => k0.ref 3 ((4 * t : Nat) : Int) 4), (4, Access.store,
      taps.map fun (t : Nat) => k0.ref 3 ((4 * t : Nat) : Int) 4)]
  | _ => [(4, Access.load, frame), (4, Access.load, coefs), (8, Access.load, states), (8, Access.store, states), (4,
      Access.store, out)]
def chain (n kind : Nat) (h : Bool) (j : Nat) : Chip × List Place :=
  ((refsF n kind h).take (j + 1)).foldl (fun cp r => pre cp.1 r.1 r.2.1 r.2.2) (((s18 n).chip.fetch 5).1, [])
abbrev refsM (n kind : Nat) (l f : Bool) : List (Nat × Access × List Ref) :=
  let k0 := k18 n
  let g := if kind == 0 then (k0.rdG 6).toNat else (k0.rdG (gn18 n)).toNat
  let gd : BitVec 5 := 3
  let total := g / 65536
  let done := g % 65536
  let base := k0.rdP 1 0
  let len := k0.rdP 1 1
  let pos := k0.rdP 1 2
  let m := min 8 (total - done)
  let line := fun (q : Int) => (⟨(base + 4 * (q % (len / 4 : Nat)).toNat) % 2 ^ 32, false⟩ : Ref)
  let slot := fun (q : Int) => (List.range 16).map fun b =>
      (⟨((base + 16 * ((q % (6 * len / 16 : Nat)).toNat / 6)) % 2 ^ 32 + b) % 2 ^ 32, false⟩ : Ref)
  let words := fun (m : Nat) => (List.range m).map fun (i : Nat) => k0.ref 2 ((4 * (done + i) : Nat) : Int) 4
  let back : Int := pos - (k0.rdG gd).toNat + done
  let six := min 6 (total - done)
  let away := min (6 - (back % 6).toNat) (total - done)
  let size := if f then 10 else 13
  let i := g / 256 % 128
  let odd := base % 16 != 0
  match kind with
  | 0 => [(4, Access.load, [k0.ref 4 ((8 * i : Nat) : Int) 4, k0.ref 4 ((8 * i + 4 : Nat) : Int) 4]), (4,
      Access.store, [k0.ref 4 ((8 * i : Nat) : Int) 4])]
  | 1 => if odd then [(4, Access.load, words m), (1, Access.store, [line (pos + done : Nat)])]
      else [(4, Access.load, words m), (4, Access.store, (List.range m).map fun i => line (pos + done + i : Nat))]
  | 2 => if odd then [(4, Access.load, words six), (1, Access.store, (slot (pos + done : Nat)).take 1)]
      else [(4, Access.load, words six), (1, Access.store, slot (pos + done : Nat))]
  | 3 => if odd then [(1, Access.load, [line back])] else [(4, Access.load, (List.range m).map fun i => line (back + i)), (4, Access.store, words m)]
  | 4 => if odd then [(1, Access.load, (slot back).take 1)] else [(1, Access.load, (slot back).take 13), (4, Access.store, words away)]
  | 5 => [(4, Access.load, (List.range 6).map fun (i : Nat) => k0.ref 1 ((24 * done + 4 * i : Nat) : Int) 4), (1,
      Access.store, (List.range size).map fun (i : Nat) => k0.ref 2 ((size * done + i : Nat) : Int) 1)]
  | _ => [(1, Access.load, (List.range size).map fun (i : Nat) => k0.ref 2 ((size * done + i : Nat) : Int) 1), (4,
      Access.store, (List.range 6).map fun (i : Nat) => k0.ref 1 ((24 * done + 4 * i : Nat) : Int) 4)]
def chainM (n kind : Nat) (l f : Bool) (j : Nat) : Chip × List Place :=
  ((refsM n kind l f).take (j + 1)).foldl (fun cp r => pre cp.1 r.1 r.2.1 r.2.2) (((s18 n).chip.fetch 5).1, [])
def ptM (kind : Nat) : BitVec 3 := if kind == 0 then 4 else 1
def gnM (n kind : Nat) : BitVec 5 := if kind == 0 then 6 else gn18 n
def pk18 (n : Nat) : Packet := ((s18 n).chip.dev.q 7).packets.headD ⟨[], none, none, 0, false, 0⟩
def wd18 (n : Nat) : QWord := (pk18 n).words.headD ⟨0, false, 0⟩

/-- The hypotheses of the clauses of `Filters`, each once. -/
def filtersHyps (s : State) (x : Fin 64) (a pc px : BitVec 3) (gn gs : BitVec 5) (h : Bool) (_vd _vs _vt : BitVec 4)
    (c1 c2 c3 c4 c5 : Chip) (ps ps2 ps3 ps4 ps5 : List Place) (j : Fin 8) (o : BitVec 3) : List Bool :=
  let outer := Issues s x
  let k0 := s.chip.dev.ctx x
  let c := (s.chip.fetch x).1
  let total := (k0.rdG gn).toNat / 65536
  let done := (k0.rdG gn).toNat % 65536
  let n := min 8 (total - done)
  let taps := (List.range n).map (done + ·)
  let w := if h = true then 2 else 4
  let past := total ≤ done
  let word := fun (c : Chip) (ps : List Place) (i : Nat) => q31At (bytesAt c.mem (ps.getD i ⟨0, none⟩).key 4)
  let tapRefs := taps.map fun (t : Nat) => k0.ref pc ((w * t : Nat) : Int) w
  let lineRefs := taps.map fun (t : Nat) => k0.ref px (-((4 * t : Nat) : Int)) 4
  let coef := fun (i : Nat) => if h = true then signedOf 16 (bytesAt c1.mem (ps.getD i ⟨0, none⟩).key 2) * 65536
      else word c1 ps i
  let start := if done = 0 then 0 else k0.rdA a
  let sum := fun (m : Nat) => start + ((List.range m).map fun i => coef i * word c2 ps2 i).sum
  let fits := (List.range n).all (fun m => decide (-(2 ^ 71) ≤ sum (m + 1) ∧ sum (m + 1) < 2 ^ 71)) = true
  let span := taps.map fun (t : Nat) => k0.ref px ((4 * t : Nat) : Int) 4
  let gain := fun (i : Nat) => k0.rdA a + i * ((k0.rdG gs).toInt * 2 ^ 31)
  let calm := (List.range (n + 1)).all (fun i => decide (-(2 ^ 71) ≤ gain i ∧ gain i < 2 ^ 71)) = true
  let sN := (k0.rdG gs).toNat % 16 + 1
  let s0 := (k0.rdG gs).toNat / 16 % 16
  let sd := if sN ≤ s0 then 0 else s0
  let frame := if sd = 0 then (List.range 8).map (fun (j : Nat) => k0.ref px ((32 * done + 4 * j : Nat) : Int) 4)
      else []
  let out := if sd + 1 = sN then (List.range 8).map (fun (j : Nat) => k0.ref px ((32 * done + 4 * j : Nat) : Int) 4)
      else []
  let coefs := (List.range 40).map fun (i : Nat) => k0.ref pc ((160 * sd + 4 * i : Nat) : Int) 4
  let states := (List.range 16).map fun (i : Nat) => k0.ref o ((128 * sd + 8 * i : Nat) : Int) 8
  [decide (outer ∧ past),
    decide (outer ∧ ¬ past ∧ ReachesAll c x w Access.load tapRefs c1 ps ∧
        ReachesAll c1 x 4 Access.load lineRefs c2 ps2 ∧ fits),
    decide (outer ∧ ¬ past ∧ ReachesAll c x 4 Access.load span c1 ps ∧ ReachesAll c1 x 4 Access.store span c2 ps2 ∧
        calm),
    decide (outer ∧ ¬ past ∧ gn ≠ gs ∧ ReachesAll c x 4 Access.load frame c1 ps ∧
        ReachesAll c1 x 4 Access.load coefs c2 ps2 ∧ ReachesAll c2 x 8 Access.load states c3 ps3 ∧
        ReachesAll c3 x 8 Access.store states c4 ps4 ∧ ReachesAll c4 x 4 Access.store out c5 ps5 ∧ sd + 1 ≠ sN),
    decide (outer ∧ ¬ past ∧ gn ≠ gs ∧ ReachesAll c x 4 Access.load frame c1 ps ∧
        ReachesAll c1 x 4 Access.load coefs c2 ps2 ∧ ReachesAll c2 x 8 Access.load states c3 ps3 ∧
        ReachesAll c3 x 8 Access.store states c4 ps4 ∧ ReachesAll c4 x 4 Access.store out c5 ps5 ∧ sd + 1 = sN),
    decide outer]

theorem witness_Filters_1 :
    ([(0, 1), (1, 0)] : List (Nat × Nat)).all (fun (k, n) =>
      ((filtersHyps (s18 n) 5 (BitVec.ofNat 3 n) 2 3 (gn18 n) (gs18 n) (n % 2 == 0) (BitVec.ofNat 4 n)
          (BitVec.ofNat 4 (if n % 5 == 0 then n else n * 3)) (BitVec.ofNat 4 (n * 7)) (chain n (n % 3)
          (n % 2 == 0) 0).1 (chain n (n % 3) (n % 2 == 0) 1).1 (chain n (n % 3) (n % 2 == 0) 2).1 (chain n (n % 3)
          (n % 2 == 0) 3).1 (chain n (n % 3) (n % 2 == 0) 4).1 (chain n (n % 3) (n % 2 == 0) 0).2 (chain n (n % 3)
          (n % 2 == 0) 1).2 (chain n (n % 3) (n % 2 == 0) 2).2 (chain n (n % 3) (n % 2 == 0) 3).2 (chain n (n % 3)
          (n % 2 == 0) 4).2 (Fin.ofNat 8 (n * 5)) 5)[k]?).getD false) = true := by
  decide +kernel

theorem witness_Filters_2 :
    ([(2, 7), (3, 38)] : List (Nat × Nat)).all (fun (k, n) =>
      ((filtersHyps (s18 n) 5 (BitVec.ofNat 3 n) 2 3 (gn18 n) (gs18 n) (n % 2 == 0) (BitVec.ofNat 4 n)
          (BitVec.ofNat 4 (if n % 5 == 0 then n else n * 3)) (BitVec.ofNat 4 (n * 7)) (chain n (n % 3)
          (n % 2 == 0) 0).1 (chain n (n % 3) (n % 2 == 0) 1).1 (chain n (n % 3) (n % 2 == 0) 2).1 (chain n (n % 3)
          (n % 2 == 0) 3).1 (chain n (n % 3) (n % 2 == 0) 4).1 (chain n (n % 3) (n % 2 == 0) 0).2 (chain n (n % 3)
          (n % 2 == 0) 1).2 (chain n (n % 3) (n % 2 == 0) 2).2 (chain n (n % 3) (n % 2 == 0) 3).2 (chain n (n % 3)
          (n % 2 == 0) 4).2 (Fin.ofNat 8 (n * 5)) 5)[k]?).getD false) = true := by
  decide +kernel

theorem witness_Filters_3 :
    ([(4, 101), (5, 0)] : List (Nat × Nat)).all (fun (k, n) =>
      ((filtersHyps (s18 n) 5 (BitVec.ofNat 3 n) 2 3 (gn18 n) (gs18 n) (n % 2 == 0) (BitVec.ofNat 4 n)
          (BitVec.ofNat 4 (if n % 5 == 0 then n else n * 3)) (BitVec.ofNat 4 (n * 7)) (chain n (n % 3)
          (n % 2 == 0) 0).1 (chain n (n % 3) (n % 2 == 0) 1).1 (chain n (n % 3) (n % 2 == 0) 2).1 (chain n (n % 3)
          (n % 2 == 0) 3).1 (chain n (n % 3) (n % 2 == 0) 4).1 (chain n (n % 3) (n % 2 == 0) 0).2 (chain n (n % 3)
          (n % 2 == 0) 1).2 (chain n (n % 3) (n % 2 == 0) 2).2 (chain n (n % 3) (n % 2 == 0) 3).2 (chain n (n % 3)
          (n % 2 == 0) 4).2 (Fin.ofNat 8 (n * 5)) 5)[k]?).getD false) = true := by
  decide +kernel

/-- The hypotheses of the clauses of `Movers`, each once. -/
def moversHyps (s : State) (x : Fin 64) (pt pb _o : BitVec 3) (gn gd : BitVec 5) (l f : Bool) (_vd : BitVec 4)
    (m : Fin 3)
    (c1 c2 : Chip) (ps ps2 : List Place) (w : QWord) (ws : List QWord) (p : Packet) (qs : List Packet)
        (_j : Fin 8) : List Bool :=
  let outer := Issues s x
  let k0 := s.chip.dev.ctx x
  let c := (s.chip.fetch x).1
  let g := (k0.rdG gn).toNat
  let total := g / 65536
  let done := g % 65536
  let past := total ≤ done
  let base := k0.rdP pt 0
  let len := k0.rdP pt 1
  let pos := k0.rdP pt 2
  let bad := len = 0 ∨ len % 4 ≠ 0
  let badC := len = 0 ∨ len % 96 ≠ 0
  let even := base % 4 = 0
  let evenC := base % 16 = 0
  let n := min 8 (total - done)
  let line := fun (q : Int) => (⟨(base + 4 * (q % (len / 4 : Nat)).toNat) % 2 ^ 32, false⟩ : Ref)
  let slot := fun (q : Int) => (List.range 16).map fun b =>
    (⟨((base + 16 * ((q % (6 * len / 16 : Nat)).toNat / 6)) % 2 ^ 32 + b) % 2 ^ 32, false⟩ : Ref)
  let words := fun (m : Nat) => (List.range m).map fun (i : Nat) => k0.ref pb ((4 * (done + i) : Nat) : Int) 4
  let back : Int := pos - (k0.rdG gd).toNat + done
  let six := min 6 (total - done)
  let away := min (6 - (back % 6).toNat) (total - done)
  let size := if f = true then 10 else 13
  let bytes := (List.range size).map fun (i : Nat) => k0.ref pb ((size * done + i : Nat) : Int) 1
  let six6 := (List.range 6).map fun (i : Nat) => k0.ref pt ((24 * done + 4 * i : Nat) : Int) 4
  let cnt := g % 128
  let i := g / 256 % 128
  let word := g / 2 ^ 16 % 32
  let cl := g / 2 ^ 21 % 8 + 1
  let act := if i = 0 ∧ word = 0 then 0 else g / 2 ^ 24 % 128
  let e := bytesAt c1.mem (ps.getD 0 ⟨0, none⟩).key 4
  let q := e % 4096
  let z := c1.dev.q q
  let entry := [k0.ref pt ((8 * i : Nat) : Int) 4, k0.ref pt ((8 * i + 4 : Nat) : Int) 4]
  let opened := i < min cnt 64 ∧ ReachesAll c x 4 Access.load entry c1 ps ∧
    ReachesAll c1 x 4 Access.store [k0.ref pt ((8 * i : Nat) : Int) 4] c2 ps2 ∧ k0.task = none ∧
        i + 1 < min cnt 64 ∧ word = 0 ∧
    c1.dev.rd (F.Q_CFG_EN q) ≠ 0 ∧ z.err = false ∧ (ps2.all fun p => p.entry.isNone) = true ∧ c2.dev = c1.dev
  let acc := if i = 0 then 0 else k0.rdA 0
  let again := k0.mixing.contains k0.pc = true
  [decide (outer ∧ min cnt 64 ≤ i ∧ ((m = 0 ∨ act = 0))),
    decide (outer ∧ min cnt 64 ≤ i ∧ m ≠ 0 ∧ act ≠ 0),
    decide (outer ∧ opened ∧ ¬ again ∧ z.packets = []),
    decide (outer ∧ opened ∧ ¬ again ∧ z.packets = p :: qs ∧ p.arrival.isSome = true ∧ p.words = w :: ws ∧
        w.e = false ∧ cl = 1 ∧ -(2 ^ 70) ≤ acc ∧ acc < 2 ^ 70),
    decide (outer ∧ opened ∧ again ∧ z.packets = p :: qs ∧ p.arrival.isSome = true ∧ p.words = w :: ws ∧
        7 < ws.length ∧ (w :: ws.take 7).all (fun w => !w.e) = true),
    decide (outer ∧ opened ∧ again ∧ z.packets = p :: qs ∧ p.arrival.isSome = true ∧ p.words = w :: ws ∧
        ws.length ≤ 7 ∧ (w :: ws).dropLast.all (fun w => !w.e) = true ∧ (w :: ws).getLast?.any (fun w =>
        w.e) = true),
    decide (outer ∧ opened ∧ ¬ again ∧ z.packets = p :: qs ∧ p.words = [w] ∧ w.e = true ∧ p.arrival.isSome = true ∧
        cl = 1 ∧ l = true ∧ -(2 ^ 70) ≤ acc ∧ acc < 2 ^ 70),
    decide (outer ∧ bad),
    decide (outer ∧ badC),
    decide (outer ∧ ¬ bad ∧ ¬ past ∧ ¬ even ∧ ReachesAll c x 1 Access.load [line back] c1 ps),
    decide (outer ∧ ¬ badC ∧ ¬ past ∧ ¬ evenC ∧ ReachesAll c x 1 Access.load ((slot back).take 1) c1 ps),
    decide (outer ∧ ¬ bad ∧ ¬ past ∧ ¬ even ∧ ReachesAll c x 4 Access.load (words n) c1 ps ∧
        ReachesAll c1 x 1 Access.store [line (pos + done : Nat)] c2 ps2),
    decide (outer ∧ ¬ badC ∧ ¬ past ∧ ¬ evenC ∧ pos % 6 = 0 ∧ done % 6 = 0 ∧ total % 6 = 0 ∧
        ReachesAll c x 4 Access.load (words six) c1 ps ∧
        ReachesAll c1 x 1 Access.store ((slot (pos + done : Nat)).take 1) c2 ps2),
    decide (outer ∧ ¬ badC ∧ ((pos % 6 ≠ 0 ∨ done % 6 ≠ 0 ∨ total % 6 ≠ 0))),
    decide (outer ∧ ¬ bad ∧ past ∧ pt ≠ pb),
    decide (outer ∧ ¬ bad ∧ past),
    decide (outer ∧ ¬ bad ∧ ¬ past ∧ even ∧ pt ≠ pb ∧ ReachesAll c x 4 Access.load (words n) c1 ps ∧
        ReachesAll c1 x 4 Access.store ((List.range n).map fun i => line (pos + done + i : Nat)) c2 ps2),
    decide (outer ∧ ¬ badC ∧ ¬ past ∧ evenC ∧ pos % 6 = 0 ∧ done % 6 = 0 ∧ total % 6 = 0 ∧ pt ≠ pb ∧
        ReachesAll c x 4 Access.load (words six) c1 ps ∧
        ReachesAll c1 x 1 Access.store (slot (pos + done : Nat)) c2 ps2),
    decide (outer ∧ ¬ bad ∧ ¬ past ∧ even ∧ ReachesAll c x 4 Access.load ((List.range n).map fun i =>
        line (back + i)) c1 ps ∧ ReachesAll c1 x 4 Access.store (words n) c2 ps2),
    decide (outer ∧ ¬ badC ∧ ¬ past ∧ evenC ∧ ReachesAll c x 1 Access.load ((slot back).take 13) c1 ps ∧
        ReachesAll c1 x 4 Access.store (words away) c2 ps2),
    decide (outer ∧ past ∧ pt ≠ pb),
    decide (outer ∧ ¬ past ∧ pt ≠ pb ∧ ReachesAll c x 4 Access.load six6 c1 ps ∧
        ReachesAll c1 x 1 Access.store bytes c2 ps2),
    decide (outer ∧ ¬ past ∧ pt ≠ pb ∧ ReachesAll c x 1 Access.load bytes c1 ps ∧
        ReachesAll c1 x 4 Access.store six6 c2 ps2)]

theorem witness_Movers_1 :
    ([(0, 5), (1, 21)] : List (Nat × Nat)).all (fun (k, n) =>
      ((moversHyps (s18 n) 5 (ptM (n % 7)) 2 (BitVec.ofNat 3 (if n % 3 == 0 then 2 else n))
          (gnM n (n % 7)) 3 (n % 2 == 0) (n % 4 == 0) (BitVec.ofNat 4 n) (Fin.ofNat 3 (n / 2)) (chainM n (n % 7)
          (n % 2 == 0) (n % 4 == 0) 0).1 (chainM n (n % 7) (n % 2 == 0) (n % 4 == 0) 1).1 (chainM n (n % 7)
          (n % 2 == 0) (n % 4 == 0) 0).2 (chainM n (n % 7) (n % 2 == 0) (n % 4 == 0) 1).2 (wd18 n)
          ((pk18 n).words.drop 1) (pk18 n) (((s18 n).chip.dev.q 7).packets.drop 1)
          (Fin.ofNat 8 (n * 5)))[k]?).getD false) = true := by
  decide +kernel

theorem witness_Movers_2 :
    ([(2, 875), (3, 553)] : List (Nat × Nat)).all (fun (k, n) =>
      ((moversHyps (s18 n) 5 (ptM (n % 7)) 2 (BitVec.ofNat 3 (if n % 3 == 0 then 2 else n))
          (gnM n (n % 7)) 3 (n % 2 == 0) (n % 4 == 0) (BitVec.ofNat 4 n) (Fin.ofNat 3 (n / 2)) (chainM n (n % 7)
          (n % 2 == 0) (n % 4 == 0) 0).1 (chainM n (n % 7) (n % 2 == 0) (n % 4 == 0) 1).1 (chainM n (n % 7)
          (n % 2 == 0) (n % 4 == 0) 0).2 (chainM n (n % 7) (n % 2 == 0) (n % 4 == 0) 1).2 (wd18 n)
          ((pk18 n).words.drop 1) (pk18 n) (((s18 n).chip.dev.q 7).packets.drop 1)
          (Fin.ofNat 8 (n * 5)))[k]?).getD false) = true := by
  decide +kernel

theorem witness_Movers_3 :
    ([(4, 161), (5, 154)] : List (Nat × Nat)).all (fun (k, n) =>
      ((moversHyps (s18 n) 5 (ptM (n % 7)) 2 (BitVec.ofNat 3 (if n % 3 == 0 then 2 else n))
          (gnM n (n % 7)) 3 (n % 2 == 0) (n % 4 == 0) (BitVec.ofNat 4 n) (Fin.ofNat 3 (n / 2)) (chainM n (n % 7)
          (n % 2 == 0) (n % 4 == 0) 0).1 (chainM n (n % 7) (n % 2 == 0) (n % 4 == 0) 1).1 (chainM n (n % 7)
          (n % 2 == 0) (n % 4 == 0) 0).2 (chainM n (n % 7) (n % 2 == 0) (n % 4 == 0) 1).2 (wd18 n)
          ((pk18 n).words.drop 1) (pk18 n) (((s18 n).chip.dev.q 7).packets.drop 1)
          (Fin.ofNat 8 (n * 5)))[k]?).getD false) = true := by
  decide +kernel

theorem witness_Movers_4 :
    ([(6, 196), (7, 0)] : List (Nat × Nat)).all (fun (k, n) =>
      ((moversHyps (s18 n) 5 (ptM (n % 7)) 2 (BitVec.ofNat 3 (if n % 3 == 0 then 2 else n))
          (gnM n (n % 7)) 3 (n % 2 == 0) (n % 4 == 0) (BitVec.ofNat 4 n) (Fin.ofNat 3 (n / 2)) (chainM n (n % 7)
          (n % 2 == 0) (n % 4 == 0) 0).1 (chainM n (n % 7) (n % 2 == 0) (n % 4 == 0) 1).1 (chainM n (n % 7)
          (n % 2 == 0) (n % 4 == 0) 0).2 (chainM n (n % 7) (n % 2 == 0) (n % 4 == 0) 1).2 (wd18 n)
          ((pk18 n).words.drop 1) (pk18 n) (((s18 n).chip.dev.q 7).packets.drop 1)
          (Fin.ofNat 8 (n * 5)))[k]?).getD false) = true := by
  decide +kernel

theorem witness_Movers_5 :
    ([(8, 0), (9, 17)] : List (Nat × Nat)).all (fun (k, n) =>
      ((moversHyps (s18 n) 5 (ptM (n % 7)) 2 (BitVec.ofNat 3 (if n % 3 == 0 then 2 else n))
          (gnM n (n % 7)) 3 (n % 2 == 0) (n % 4 == 0) (BitVec.ofNat 4 n) (Fin.ofNat 3 (n / 2)) (chainM n (n % 7)
          (n % 2 == 0) (n % 4 == 0) 0).1 (chainM n (n % 7) (n % 2 == 0) (n % 4 == 0) 1).1 (chainM n (n % 7)
          (n % 2 == 0) (n % 4 == 0) 0).2 (chainM n (n % 7) (n % 2 == 0) (n % 4 == 0) 1).2 (wd18 n)
          ((pk18 n).words.drop 1) (pk18 n) (((s18 n).chip.dev.q 7).packets.drop 1)
          (Fin.ofNat 8 (n * 5)))[k]?).getD false) = true := by
  decide +kernel

theorem witness_Movers_6 :
    ([(10, 179), (11, 71)] : List (Nat × Nat)).all (fun (k, n) =>
      ((moversHyps (s18 n) 5 (ptM (n % 7)) 2 (BitVec.ofNat 3 (if n % 3 == 0 then 2 else n))
          (gnM n (n % 7)) 3 (n % 2 == 0) (n % 4 == 0) (BitVec.ofNat 4 n) (Fin.ofNat 3 (n / 2)) (chainM n (n % 7)
          (n % 2 == 0) (n % 4 == 0) 0).1 (chainM n (n % 7) (n % 2 == 0) (n % 4 == 0) 1).1 (chainM n (n % 7)
          (n % 2 == 0) (n % 4 == 0) 0).2 (chainM n (n % 7) (n % 2 == 0) (n % 4 == 0) 1).2 (wd18 n)
          ((pk18 n).words.drop 1) (pk18 n) (((s18 n).chip.dev.q 7).packets.drop 1)
          (Fin.ofNat 8 (n * 5)))[k]?).getD false) = true := by
  decide +kernel

theorem witness_Movers_7 :
    ([(12, 611), (13, 1)] : List (Nat × Nat)).all (fun (k, n) =>
      ((moversHyps (s18 n) 5 (ptM (n % 7)) 2 (BitVec.ofNat 3 (if n % 3 == 0 then 2 else n))
          (gnM n (n % 7)) 3 (n % 2 == 0) (n % 4 == 0) (BitVec.ofNat 4 n) (Fin.ofNat 3 (n / 2)) (chainM n (n % 7)
          (n % 2 == 0) (n % 4 == 0) 0).1 (chainM n (n % 7) (n % 2 == 0) (n % 4 == 0) 1).1 (chainM n (n % 7)
          (n % 2 == 0) (n % 4 == 0) 0).2 (chainM n (n % 7) (n % 2 == 0) (n % 4 == 0) 1).2 (wd18 n)
          ((pk18 n).words.drop 1) (pk18 n) (((s18 n).chip.dev.q 7).packets.drop 1)
          (Fin.ofNat 8 (n * 5)))[k]?).getD false) = true := by
  decide +kernel

theorem witness_Movers_8 :
    ([(14, 1), (15, 1)] : List (Nat × Nat)).all (fun (k, n) =>
      ((moversHyps (s18 n) 5 (ptM (n % 7)) 2 (BitVec.ofNat 3 (if n % 3 == 0 then 2 else n))
          (gnM n (n % 7)) 3 (n % 2 == 0) (n % 4 == 0) (BitVec.ofNat 4 n) (Fin.ofNat 3 (n / 2)) (chainM n (n % 7)
          (n % 2 == 0) (n % 4 == 0) 0).1 (chainM n (n % 7) (n % 2 == 0) (n % 4 == 0) 1).1 (chainM n (n % 7)
          (n % 2 == 0) (n % 4 == 0) 0).2 (chainM n (n % 7) (n % 2 == 0) (n % 4 == 0) 1).2 (wd18 n)
          ((pk18 n).words.drop 1) (pk18 n) (((s18 n).chip.dev.q 7).packets.drop 1)
          (Fin.ofNat 8 (n * 5)))[k]?).getD false) = true := by
  decide +kernel

theorem witness_Movers_9 :
    ([(16, 8), (17, 128)] : List (Nat × Nat)).all (fun (k, n) =>
      ((moversHyps (s18 n) 5 (ptM (n % 7)) 2 (BitVec.ofNat 3 (if n % 3 == 0 then 2 else n))
          (gnM n (n % 7)) 3 (n % 2 == 0) (n % 4 == 0) (BitVec.ofNat 4 n) (Fin.ofNat 3 (n / 2)) (chainM n (n % 7)
          (n % 2 == 0) (n % 4 == 0) 0).1 (chainM n (n % 7) (n % 2 == 0) (n % 4 == 0) 1).1 (chainM n (n % 7)
          (n % 2 == 0) (n % 4 == 0) 0).2 (chainM n (n % 7) (n % 2 == 0) (n % 4 == 0) 1).2 (wd18 n)
          ((pk18 n).words.drop 1) (pk18 n) (((s18 n).chip.dev.q 7).packets.drop 1)
          (Fin.ofNat 8 (n * 5)))[k]?).getD false) = true := by
  decide +kernel

theorem witness_Movers_10 :
    ([(18, 38), (19, 25)] : List (Nat × Nat)).all (fun (k, n) =>
      ((moversHyps (s18 n) 5 (ptM (n % 7)) 2 (BitVec.ofNat 3 (if n % 3 == 0 then 2 else n))
          (gnM n (n % 7)) 3 (n % 2 == 0) (n % 4 == 0) (BitVec.ofNat 4 n) (Fin.ofNat 3 (n / 2)) (chainM n (n % 7)
          (n % 2 == 0) (n % 4 == 0) 0).1 (chainM n (n % 7) (n % 2 == 0) (n % 4 == 0) 1).1 (chainM n (n % 7)
          (n % 2 == 0) (n % 4 == 0) 0).2 (chainM n (n % 7) (n % 2 == 0) (n % 4 == 0) 1).2 (wd18 n)
          ((pk18 n).words.drop 1) (pk18 n) (((s18 n).chip.dev.q 7).packets.drop 1)
          (Fin.ofNat 8 (n * 5)))[k]?).getD false) = true := by
  decide +kernel

theorem witness_Movers_11 :
    ([(20, 0), (21, 33)] : List (Nat × Nat)).all (fun (k, n) =>
      ((moversHyps (s18 n) 5 (ptM (n % 7)) 2 (BitVec.ofNat 3 (if n % 3 == 0 then 2 else n))
          (gnM n (n % 7)) 3 (n % 2 == 0) (n % 4 == 0) (BitVec.ofNat 4 n) (Fin.ofNat 3 (n / 2)) (chainM n (n % 7)
          (n % 2 == 0) (n % 4 == 0) 0).1 (chainM n (n % 7) (n % 2 == 0) (n % 4 == 0) 1).1 (chainM n (n % 7)
          (n % 2 == 0) (n % 4 == 0) 0).2 (chainM n (n % 7) (n % 2 == 0) (n % 4 == 0) 1).2 (wd18 n)
          ((pk18 n).words.drop 1) (pk18 n) (((s18 n).chip.dev.q 7).packets.drop 1)
          (Fin.ofNat 8 (n * 5)))[k]?).getD false) = true := by
  decide +kernel

theorem witness_Movers_12 :
    ([(22, 48)] : List (Nat × Nat)).all (fun (k, n) =>
      ((moversHyps (s18 n) 5 (ptM (n % 7)) 2 (BitVec.ofNat 3 (if n % 3 == 0 then 2 else n))
          (gnM n (n % 7)) 3 (n % 2 == 0) (n % 4 == 0) (BitVec.ofNat 4 n) (Fin.ofNat 3 (n / 2)) (chainM n (n % 7)
          (n % 2 == 0) (n % 4 == 0) 0).1 (chainM n (n % 7) (n % 2 == 0) (n % 4 == 0) 1).1 (chainM n (n % 7)
          (n % 2 == 0) (n % 4 == 0) 0).2 (chainM n (n % 7) (n % 2 == 0) (n % 4 == 0) 1).2 (wd18 n)
          ((pk18 n).words.drop 1) (pk18 n) (((s18 n).chip.dev.q 7).packets.drop 1)
          (Fin.ofNat 8 (n * 5)))[k]?).getD false) = true := by
  decide +kernel

end Sys2Proof.Test.Long
end

