-- ==== Sys2Proof/Tests/WitnessMem.lean ====
section
/-! SUPPORT. Witnesses for the statements of the claims' part float: for every clause a state and operands that meet its
hypotheses together. -/

namespace Sys2Proof.Test.Mems
open Sys2Proof.Machine Sys2Proof.Claim

-- one theorem at a time: side by side their evaluations take too much memory
set_option Elab.async false
set_option synthInstance.maxHeartbeats 2000000
set_option synthInstance.maxSize 100000
set_option maxRecDepth 20000

def fs6 : List Fld := [F.X_CNT_COUNT 1 1 7, F.MMU_FAULT_CNT_CORE, F.MMU_FAULT_CNT_DMA, F.DMA_STATUS_CAUSE 3,
    F.DMA_EVENTS_DONE_EV 3, F.CORE_HALT_HALT 1, F.X_CNT_COUNT 1 1 2, F.DMA_CNT_DESCS 3, F.DMA_STATUS_WHERE 3,
    F.DMA_DESC_VA 3]
def kv (k : Nat) : Word :=
  let r := rnd (rnd (k + 77)); let c := r % 9
  BitVec.ofNat 32 (if c == 0 then 0x80000000 else if c == 1 then 0x7FFFFFFF else if c == 2 then 0
      else if c == 3 then 0xFFFFFFFF else if c == 4 then r / 16 % 64 else r / 16)
def pm16 (n : Nat) : Mem :=
  let m : Mem := ⟨[], [(3, 9#8)]⟩
  let m := m.store 0x40000 4 (if n % 13 == 5 then 0 else 65 * 2 ^ 18 + 1)
  let m := m.store 0x41000 4 (if n % 11 == 3 then 0 else 66 * 2 ^ 18 + 1 + 2 + (if n % 7 == 2 then 0
      else 4)+ (if n % 2 == 0 then 0xC0 else 0) + (if n % 5 == 0 then 0x40 else 0))
  let m := m.store 0x41004 4 (65 * 2 ^ 18 + 1 + 2 + 4)
  let m := m.storeBytes 0x42000 ((List.range 64).map fun i => BitVec.ofNat 8 (rnd (n * 64 + i)))
  m.storeBytes (2 ^ 26 + 2 ^ 18) ((List.range 100).map fun i => BitVec.ofNat 8 (rnd (n * 64 + i + 9)))
def va16 (k : Nat) : Nat := let r := rnd (rnd (k + 3)); let c := r % 8; let q := r / 8
  match c with
    | 0 | 1 => 0xF0000000 + q % 25 * 4
    | 2 | 3 => q % 16 * 4
    | 4 => q % 64
    | 5 => 0xF0000000 + q % 90
    | 6 => 0x1000 + q % 8 * 4
    | _ => [0xF003FFFE, 0xF0040000, 0xFFFFFFFC, 0x2000, 0xF003FFFC, 0xF003FFE0].getD (q % 6) 0
def k16 (n : Nat) : Ctx :=
  let v := fun j => BitVec.ofNat 32 (if j % 2 == 1 then va16 (n * 40 + j) else rnd (n * 40 + j) % 64)
  let pp := fun (p:Nat) => let r := rnd (n * 8 + p); let l := [0, 0, 8, 16, 36, 2].getD (r % 6) 0
    [(3 * p, va16 (n * 9 + p) / (if r % 11 == 0 then 1 else 4) * (if r % 11 == 0 then 1 else 4)), (3 * p + 1, l),
        (3 * p + 2, if l == 0 then (if r / 64 % 5 == 0 then 2 ^ 24-4 else r / 64 % 9 * 4)
        else r / 64 % l / (if r % 7 == 0 then 1 else 4) * (if r % 7 == 0 then 1 else 4))]
  { Ctx.init with
    run := .ready,
    asid := 3,
    pc := if n % 7 == 0 then 2 ^ 32-4 else 64,
    fsr := if n % 3 == 0 then 0 else rnd n % 4096,
    g := ((List.range 32).drop 1).filterMap fun j => if v j == 0 then none else some (j, v j),
    v := (List.range 128).filterMap fun j => let v := kv (n * 140 + j); if v == 0 then none else some (j, v),
    p := ((List.range 8).flatMap pp).filter (·.2 != 0) }
/-- A small state that varies with `n`. -/
def s16 (n : Nat) : State :=
  let k := k16 n
  let d := (rst fs6 (n * 31 + 5)).wrs [(F.MMU_ROOT_V 3, bit (n % 17 != 6)), (F.MMU_ROOT_PPN 3, 64),
      (F.MMU_FAULTQ_EN, 0), (F.CORE_HALT_HALT 1, 0)]
  let d := (d.setCtx 5 k).setCtx 6 { Ctx.init with pc := 9 }
  let d := d.setTlb 1 (if n % 3 == 0 then [⟨0, 3, n % 2 == 0, 70, true, n % 5 != 4, true, true, false, n % 4 == 3,
      0x41000⟩] else [])
  let d := d.setLines 1 [(3, k.pc / 64)]
  { State.reset with chip := ⟨{ d with resetN := true, supplyOk := true }, pm16 n⟩ }
def rs16 (n : Nat) : BitVec 5 := BitVec.ofNat 5 (rnd (n * 5) * 2 + 1)
def im16 (n : Nat) : BitVec 16 := BitVec.ofInt 16 ([0, 0, 0, 4, -4, 1, 2, -8].getD (rnd (n * 17) % 8) 0)
def rr (n sz : Nat) (k : Access) : Chip × Except Nat Place := let c :=
    ((s16 n).chip.fetch 5).1; c.reach (c.dev.whoCtx 5)
    (((c.dev.ctx 5).rdG (rs16 n)) + (im16 n).signExtend 32).toNat sz k
def ac (n : Nat) : Nat × Access := match n % 6 with
  | 0 => (4, Access.load)
  | 1 => (4, .store)
  | 2 => (2, Access.load)
  | 3 => (2, .store)
  | 4 => (1, Access.load)
  | _ => (1, .store)
def rq (n : Nat) := rr n (ac (n / 2)).1 (ac (n / 2)).2
def rqp (n : Nat) : Place := match (rq n).2 with | .ok p => p | _ => ⟨0, none⟩
def rqe (n : Nat) : Nat := match (rq n).2 with | .error e => e | _ => 8
def p16 (n : Nat) : BitVec 3 := BitVec.ofNat 3 (rnd (n * 23))
def pr (n : Nat) (sz : Nat) (k : Access) : Chip × Except Nat Place := let c :=
    ((s16 n).chip.fetch 5).1; c.reach (c.dev.whoCtx 5) ((c.dev.ctx 5).addr (p16 n) 0) sz k
def pq (n : Nat) := match n % 4 with
  | 0 => pr n 4 Access.load
  | 1 => pr n 4 .store
  | 2 => pr n 1 Access.load
  | _ => pr n 1 .store
def pqp (n : Nat) : Place := match (pq n).2 with | .ok p => p | _ => ⟨0, none⟩
def pl (n : Nat) : Chip × List Place := let c := ((s16 n).chip.fetch 5).1; match c.prepare (c.dev.whoCtx 5) 4 Access.load ((c.dev.ctx 5).laneRefs (p16 n)) with
  | (c, .ok l) => (c, l)
  | (c, _) => (c, [])

/-- The hypotheses of the clauses of `Memory`, each once. -/
def memoryHyps (s : State) (x : Fin 64) (_rd rs : BitVec 5) (imm : BitVec 16) (c1 : Chip) (p : Place)
    (cause : Nat) : List Bool :=
  let outer := Issues s x
  let k0 := s.chip.dev.ctx x
  let c := (s.chip.fetch x).1
  let va := (((k0.rdG rs).toInt + imm.toInt) % 2 ^ 32).toNat
  [decide (outer ∧ Reaches c x va 4 Access.load c1 p),
    decide (outer ∧ Reaches c x va 2 Access.load c1 p),
    decide (outer ∧ Reaches c x va 1 Access.load c1 p),
    decide (outer ∧ Blocked c x va 4 Access.load c1 cause),
    decide (outer ∧ Blocked c x va 2 Access.load c1 cause),
    decide (outer ∧ Blocked c x va 1 Access.load c1 cause),
    decide (outer ∧ Reaches c x va 4 Access.store c1 p),
    decide (outer ∧ Reaches c x va 2 Access.store c1 p),
    decide (outer ∧ Reaches c x va 1 Access.store c1 p),
    decide (outer ∧ Blocked c x va 4 Access.store c1 cause),
    decide (outer ∧ Blocked c x va 2 Access.store c1 cause),
    decide (outer ∧ Blocked c x va 1 Access.store c1 cause),
    decide (outer ∧ va % 4 ≠ 0 ∧ c1 = c ∧ 0xF0000000 ≤ va ∧ va < 0xF0040000 ∧ cause = 8),
    decide (outer ∧ va % 4 = 0 ∧ 0xF0000000 ≤ va ∧ va < 0xF0040000 ∧ c1 = c ∧
        p = ⟨2 ^ 26 + x / 4 * 2 ^ 18 + (va - 0xF0000000), none⟩)]

theorem witness_Memory_1 :
    ([(0, 2), (1, 2), (2, 2), (3, 1), (4, 1), (5, 3), (6, 2), (7, 2)] : List (Nat × Nat)).all (fun (k, n) =>
      ((memoryHyps (s16 n) 5 (BitVec.ofNat 5 (rnd (n * 3))) (rs16 n) (im16 n) (if n % 29 == 0 then
          ((s16 n).chip.fetch 5).1 else (rq n).1) (rqp n) (rqe n))[k]?).getD false) = true := by
  decide +kernel

theorem witness_Memory_2 :
    ([(8, 2), (9, 1), (10, 1), (11, 3), (12, 1), (13, 2)] : List (Nat × Nat)).all (fun (k, n) =>
      ((memoryHyps (s16 n) 5 (BitVec.ofNat 5 (rnd (n * 3))) (rs16 n) (im16 n) (if n % 29 == 0 then
          ((s16 n).chip.fetch 5).1 else (rq n).1) (rqp n) (rqe n))[k]?).getD false) = true := by
  decide +kernel

/-- The hypotheses of the clauses of `Streams`, each once. -/
def streamsHyps (s : State) (x : Fin 64) (_rd : BitVec 5) (p : BitVec 3) (_vd : BitVec 4) (_imm : BitVec 16)
    (c1 : Chip)
    (pl : Place) (ps : List Place) (_j : Fin 8) (_o : BitVec 3) (_f : Fin 3) (_w : BitVec 4) : List Bool :=
  let outer := Issues s x
  let k0 := s.chip.dev.ctx x
  let c := (s.chip.fetch x).1
  let base := k0.rdP p 0
  let len := k0.rdP p 1
  let idx := k0.rdP p 2
  let at_ := fun (i : Nat) => (base + (if len = 0 then idx + i else (idx + i) % len)) % 2 ^ 32
  let odd := fun (i n : Nat) => base % n ≠ 0 ∨ (idx + i) % n ≠ 0 ∨ len % n ≠ 0
  let lanes : List Ref := (List.range 8).map fun i => ⟨at_ (4 * i), decide (odd (4 * i) 4)⟩
  [decide (outer ∧ ¬ odd 0 4 ∧ Reaches c x (at_ 0) 4 Access.load c1 pl),
    decide (outer ∧ ¬ odd 0 4 ∧ Reaches c x (at_ 0) 4 Access.store c1 pl),
    decide (outer ∧ odd 0 4 ∧ Reaches c x (at_ 0) 1 Access.load c1 pl),
    decide (outer ∧ odd 0 4 ∧ Reaches c x (at_ 0) 1 Access.store c1 pl),
    decide (outer ∧ ReachesAll c x 4 Access.load lanes c1 ps),
    decide (outer ∧ ReachesAll c x 4 Access.store lanes c1 ps),
    decide outer]

theorem witness_Streams_1 :
    ([(0, 0), (1, 0), (2, 10), (3, 10), (4, 0), (5, 0), (6, 0)] : List (Nat × Nat)).all (fun (k, n) =>
      ((streamsHyps (s16 n) 5 (BitVec.ofNat 5 (rnd (n * 3))) (p16 n) (BitVec.ofNat 4 (rnd (n * 7))) (im16 n)
          (if n % 3 == 0 then (pl n).1 else (pq n).1) (pqp n) (pl n).2 (Fin.ofNat 8 n)
          (BitVec.ofNat 3 (if n % 2 == 0 then rnd (n * 23) else n)) (Fin.ofNat 3 (n * 2))
          (BitVec.ofNat 4 n))[k]?).getD false) = true := by
  decide +kernel

end Sys2Proof.Test.Mems
end

