-- ==== Sys2Proof/Tests/WitnessPort.lean ====
section
/-! SUPPORT. Witnesses for the statements of the claims' part flow: for every clause a state and operands that meet its
hypotheses together. -/

namespace Sys2Proof.Test.Ports
open Sys2Proof.Machine Sys2Proof.Claim

-- one theorem at a time: side by side their evaluations take too much memory
set_option Elab.async false
set_option synthInstance.maxHeartbeats 2000000
set_option synthInstance.maxSize 100000
set_option maxRecDepth 20000

def fs9 : List Fld := [F.PORT_CTL_MASTER 3, F.PORT_CTL_DA_DIR 3, F.PORT_CTL_DB_DIR 3, F.PORT_CTL_IDLE 3,
    F.PORT_FMT_SLOTS 3, F.PORT_MASK_EPOCH_EPOCH 3, F.PORT_CNT_COUNT 3 0, F.PORT_CNT_COUNT 3 5, F.PORT_RATE_CLASS 3,
    F.PORT_STATUS_DEV_HIGH 3, F.PORT_EVENTS_CLASS_EV 3, F.PORT_CS_RX_BYTES 3 0]
/-- A small state that varies with `n`. -/
def s9 (n : Nat) : State :=
  let d := (rst fs9 (n * 31 + 5)).wrs [(F.PORT_CTL_EN 3, bit (n % 3 != 0)), (F.PORT_CTL_MODE 3, n % 7),
      (F.PORT_CTL_RATE 3, n % 3), (F.PORT_FMT_BCK_DIV 3, n % 4), (F.PORT_QUEUES_Q_DA 3, 20),
      (F.PORT_QUEUES_Q_DB 3, 21), (F.PORT_APPLIED_DA_MASK 3, if n % 2 == 0 then 3 else 1),
      (F.PORT_APPLIED_DB_MASK 3, 3), (F.Q_CFG_EN 20, bit (n % 9 != 8)), (F.Q_CFG_EN 21, 1), (F.Q_CFG_GRANT 20, 4),
      (F.Q_CFG_GRANT 21, 4), (F.ROUTE_E_Q_ACTIVE (epLane 3 false), 20), (F.ROUTE_E_Q_ACTIVE (epLane 3 true), 21),
      (F.ROUTE_E_OFF_ACTIVE (epLane 3 false), bit (n % 8 == 7)), (F.ROUTE_E_OFF_ACTIVE (epLane 3 true), 0),
      (F.QM_REGION_CELLS, 100), (F.PORT_RATE_TOL_PPM 3, if n % 2 == 0 then 100 else 4000),
      (F.PORT_STATUS_NA_MUTE 3, bit (n % 6 == 0)), (F.PORT_STATUS_BP_MUTE 3, bit (n % 12 == 5)), (F.PORT_STATUS_LOCKED 3, 1)]
  let l (k : Nat) : Lane := ⟨(if n % 7 == 5 then 38 else 36) + k * (n % 3), (if n % 2 == 0 then 3 else 1),
      if n % 4 == 0 then [] else [(36 + k * (n % 3), 3), (40, 1)], [], if n % 10 == 3 then [(36, [5])] else [],
      if n % 6 == 1 then [(5 + n % 4, 20, n % 5 == 2)] else [], if n % 5 == 0 then [(36, [1, 2])] else [],
      if n % 2 == 0 then [some (n * 77), none] else [none, some (n * 99)], [], (List.range (n % 5 * 7)).map fun i => if i % 3 == 0 then 1
      else -1, (List.range (n % 4 * 5)).map fun i => if i % 2 == 0 then 1 else -1⟩
  let d := d.setSap 3 { Sap.init with
    run := (match n % 4 with | 0 => .starting | _ => .running),
    stopping := n % 6 == 5,
    mode := n % 5,
    master := n / 2 % 2 == 0,
    rate := n % 3,
    slots := 2,
    width := [16, 24, 32].getD (n % 3) 24,
    aOut := n / 3 % 2 == 0,
    bOut := n % 2 == 0,
    started := n % 3,
    frame := 36 * 2 ^ (n % 3) + n % 5,
    lock := match n / 2 % 3 with | 0 => .unlocked | 1 => .locking (n % 7 + n % 3 * 3) | _ => .locked,
    p0 := 30,
    winFirst := if n % 3 == 0 then none else some 5,
    winOk := n % 4 != 1,
    lastPh := n,
    bpGood := n * 10,
    naSince := n * 100,
    zpos := n,
    bckDiv := n % 3,
    csTx := [n, n + 1, 7],
    laneA := l 0,
    laneB := l 1 }
  let d := { d with tick := 4 + n % 7 }
  let d := d.setQ 20 { Queue.init with
    packets := (List.range (n % 3)).map fun i => ⟨[⟨7, false, 0⟩, ⟨8, true, 0⟩], none, some (i + 1), 0, false, 0⟩,
    chain := (List.range (bit (n % 3 != 0))).map (· + 5) }
  let d := d.setQ 21 { Queue.init with
    packets := (List.range (n % 3)).map fun i => ⟨[⟨7, false, 0⟩, ⟨8, true, 0⟩], none, some (i + n % 4), 0, false, 0⟩,
    chain := (List.range (bit (n % 3 != 0))).map (· + 5) }
  mkS { d with sys := { d.sys with jtag := { d.sys.jtag with ir := if n % 31 == 30 then .extest else d.sys.jtag.ir } } }
def ln9 (n : Nat) : Lane := ((s9 n).chip.dev.sap 3).lane (n / 4 % 2 == 0)
def fr9 (n : Nat) : Nat × Nat := (ln9 n).frames.headD (0, 0)
def tk9 (n : Nat) : Dev × List QWord := (s9 n).chip.dev.sinkTake (epLane 3 (n / 4 % 2 == 0)) (s9 n).chip.dev.tick
def by9 (n : Nat) : List Nat := let b := (List.range 24).map fun i => (i * n + n) % 256; if n % 3 == 0 then
    b.take 23 ++ [crcc b] else b
def lk9 (n : Nat) : Nat := match ((s9 n).chip.dev.sap 3).lock with | .locking t => t | _ => n % 6

/-- The hypotheses of the clauses of `PortRun`, each once. -/
def portRunHyps (s : State) (n : Fin 32) (db _late _short : Bool) (_mask : Word)
    (j phase _m f k v : Nat) : List Bool :=
  let outer := Live s ∧ s.chip.dev.unitHeld 5 n = false
  let d0 := s.chip.dev
  let p := d0.sap n
  let cfg := d0.sapCfg n
  let first := p.spt * (d0.tick + 1)
  let running := p.run = .running ∧ p.stopping = false
  let inRange := p.laneA.cap < 2 ^ 32 ∧ p.laneB.cap < 2 ^ 32
  let gap := phaseGap p.period phase p.p0
  [decide (outer ∧ d0.on (F.PORT_CTL_EN n) = false ∧ d0.portBad n cfg = false),
    decide (outer ∧ d0.on (F.PORT_CTL_EN n) = false ∧ d0.portBad n cfg = true),
    decide (outer ∧ d0.on (F.PORT_CTL_EN n) = true),
    decide (outer ∧ p.run = .starting ∧ p.started < d0.tick),
    decide (outer ∧ (p.run ≠ .starting ∨ d0.tick ≤ p.started)),
    decide (outer ∧ d0.on (F.PORT_CTL_EN n) = true ∧ p.run = .running),
    decide (outer ∧ d0.on (F.PORT_CTL_EN n) = true ∧ p.run ≠ .running),
    decide (outer ∧ d0.on (F.PORT_CTL_EN n) = false),
    decide outer,
    decide (outer ∧ running ∧ p.slave = false ∧ p.mode ≠ 4 ∧ p.frame < first ∧ inRange),
    decide (outer ∧ p.run = .running ∧ p.stopping = true ∧ p.slave = false ∧ p.frame < first),
    decide (outer ∧ p.run ≠ .running),
    decide (outer ∧ running ∧ p.mode = 4 ∧ p.frame < first ∧ p.laneB.cap < 2 ^ 32),
    decide (outer ∧ running ∧ p.slave = true ∧ p.mode = 4 ∧ j < p.spt ∧ phase < p.period ∧ p.lock = .locked ∧
        4 * gap ≤ p.period ∧ p.laneA.cap < 2 ^ 32 ∧ d0.cut = false),
    decide (outer ∧ k < 24),
    decide (outer ∧ p.run = .running ∧ p.mode ≤ 2),
    decide (outer ∧ p.run = .running ∧ (p.mode = 3 ∨ p.mode = 5)),
    decide (outer ∧ p.run = .running ∧ p.mode = 4),
    decide (outer ∧ p.mode ≤ 2),
    decide (outer ∧ p.mode = 0 ∧ k < f ∧ p.fsPol = false),
    decide (outer ∧ p.mode = 1 ∧ k < f ∧ p.fsPol = false),
    decide (outer ∧ p.mode = 2 ∧ k < f ∧ p.fsPol = false),
    decide (outer ∧ j < p.slots ∧ k < p.width ∧ ((p.mode ≠ 0 ∧ p.mode ≠ 1) ∨ p.width ≤ phase) ∧
        (p.lane db).shown[j]? = some (some v)),
    decide (outer ∧ running ∧ p.slave = true ∧ p.mode ≠ 4 ∧ j < p.spt ∧ phase < p.period ∧ p.lock = .locked ∧
        4 * gap ≤ p.period ∧ inRange ∧ d0.cut = false),
    decide (outer ∧ running ∧ p.slave = true ∧ p.mode ≠ 4 ∧ j < p.spt ∧ phase < p.period ∧ p.lock = .unlocked ∧
        inRange ∧ d0.cut = false),
    decide (outer ∧ running ∧ p.slave = true ∧ p.mode ≠ 4 ∧ j < p.spt ∧ phase < p.period ∧ p.lock = .locked ∧
        p.period < 4 * gap ∧ d0.cut = false),
    decide (outer ∧ p.run = .running ∧ p.stopping = true ∧ p.slave = true ∧ j < p.spt ∧ phase < p.period ∧
        d0.cut = false),
    decide (outer ∧ d0.cut = true),
    decide (outer ∧ p.lock = .locking j ∧ j < d0.tick),
    decide (outer ∧ p.lock = .locking j ∧ d0.tick ≤ j)]

theorem witness_PortRun :
    ((List.range 30).zip [0, 6, 1, 0, 1, 1, 4, 0, 0, 3, 5, 0, 9, 34, 0, 1, 3, 9, 0, 0, 1, 2, 6, 22, 6, 10, 11, 30,
        3, 2]).all (fun (k, n) =>
      ((portRunHyps (s9 n) 3 (n / 4 % 2 == 0) (n % 3 == 0) (n % 5 == 0) (BitVec.ofNat 32 (rnd n)) (lk9 n)
          (if n / 8 % 2 == 0 then n * 5 % 100 else n * 37 % 700) 4 64 (n % 30)
          ((((s9 n).chip.dev.sap 3).lane (n / 4 % 2 == 0)).shown.getD (lk9 n) none |>.getD 0))[k]?).getD false) = true :=
          by
  decide +kernel

/-- The hypotheses of the clauses of `PortData`, each once. -/
def portDataHyps (s : State) (n : Fin 32) (db : Bool) (slots : List (Option Nat)) (_status : Bool)
    (cycles media : Nat)
    (bytes : List Nat) (_m tp mask q : Nat) (rest : List (Nat × Nat)) (d1 : Dev) (ws : List QWord) : List Bool :=
  let outer := Live s ∧ s.chip.dev.unitHeld 5 n = false
  let d0 := s.chip.dev
  let p := d0.sap n
  let l := p.lane db
  let olds := fun (tp : Nat) => l.olds.filter fun o => decide (tp < p.spt * o.1)
  let governs := fun (tp : Nat) =>
    ((olds tp).head?.map fun o => if o.2.2 = true then none else some o.2.1).getD (d0.bound (epLane n db))
  let bound := fun (tp : Nat) => governs tp = some q ∧ PacketRoom d0 q
  let sel := p.selected mask
  let zeros := p.selected (d0.rd (appliedOf n db))
  let live := p.run = .running ∧ p.stopping = false
  let clean := p.detects = false ∧ d0.on (F.PORT_STATUS_NA_MUTE n) = false ∧
      d0.on (F.PORT_STATUS_BP_MUTE n) = false ∧
    (p.slave = false ∨ p.lock = .locked) ∧ p.first ≤ tp ∧
    (tp < p.spt * (d0.tick + 1) ∨ d0.pendOf (epLane n db) = none ∧ l.held = [])
  let pdm := p.mode = 3 ∨ p.mode = 5
  let meas := (rndDiv 2048000000000 cycles).toNat
  let cs := p.run = .running ∧ p.mode = 4 ∧ bytes.length = 24 ∧ bytes.all (fun x => decide (x < 256)) = true
  let bound' := if p.slave = true ∧ p.mode ≠ 4 then p.spt * (d0.tick + 1) else p.frame
  let due := live ∧ p.out db = true ∧ l.next < bound' ∧ zeros ≠ []
  [decide (outer ∧ p.run = .running ∧ p.out db = false ∧ l.frames = (tp, mask) :: rest ∧ tp = l.next ∧ clean ∧
      ¬ pdm ∧ bound tp ∧ sel ≠ [] ∧ sel.length ≤ 32 ∧ slots.length ≤ 32 ∧ d0.cut = false),
    decide (outer ∧ p.run = .running ∧ p.out db = false ∧ l.frames = (tp, mask) :: rest ∧ tp = l.next ∧ clean ∧
        pdm ∧ bound tp ∧ sel ≠ [] ∧ sel.length ≤ 32 ∧ slots.length ≤ 32 ∧ d0.cut = false),
    decide (outer ∧ p.run = .running ∧ p.out db = false ∧ l.frames = (tp, mask) :: rest ∧ tp < l.next ∧ clean ∧
        ¬ pdm ∧ slots.length ≤ 32 ∧ d0.cut = false),
    decide (outer ∧ p.run = .running ∧ p.out db = false ∧ l.frames = (tp, mask) :: rest ∧ tp = l.next ∧ clean ∧
        ¬ pdm ∧ p.mode ≠ 4 ∧ bound tp ∧ sel ≠ [] ∧ sel.length ≤ 32 ∧ slots.length ≤ 32 ∧ d0.cut = true),
    decide (outer ∧ l.frames = [] ∧ slots.length ≤ 32),
    decide (outer ∧ live ∧ p.slave = true ∧ p.lock ≠ .locked ∧ p.out db = false ∧ l.next < p.spt * (d0.tick + 1) ∧
        bound l.next ∧ zeros ≠ [] ∧ zeros.length ≤ 32),
    decide (outer ∧ p.lock = .locked),
    decide (outer ∧ due ∧ d0.sinkTake (epLane n db) d0.tick = (d1, [])),
    decide (outer ∧ due ∧ d0.sinkTake (epLane n db) d0.tick = (d1, ws) ∧ ws ≠ [] ∧ ws.length ≠ zeros.length),
    decide (outer ∧ due ∧ d0.sinkTake (epLane n db) d0.tick = (d1, ws) ∧ ws.length = zeros.length),
    decide (outer ∧ (p.out db = false ∨ p.run ≠ .running ∨ p.stopping = true ∨ bound' ≤ l.next)),
    decide (outer ∧ p.run = .running ∧ 0 < cycles ∧ 0 < media ∧ meas < 2 ^ 22),
    decide (outer ∧ p.run = .running ∧ p.slave = true),
    decide (outer ∧ p.slave = false),
    decide (outer ∧ 256 ≤ p.bpGood),
    decide (outer ∧ p.bpGood < 256),
    decide (outer ∧ cs ∧ (bytes.getD 0 0 % 2 = 0 ∨ bytes.getD 23 0 = crcc bytes)),
    decide (outer ∧ cs ∧ bytes.getD 0 0 % 2 = 1 ∧ bytes.getD 23 0 ≠ crcc bytes),
    decide (outer ∧ 4096 ≤ p.naSince),
    decide (outer ∧ p.naSince < 4096)]

theorem witness_PortData :
    ((List.range 20).zip [11, 3, 47, 371, 0, 9, 4, 6, 13, 2, 0, 2, 2, 0, 26, 0, 9, 19, 41, 0]).all (fun (k, n) =>
      ((portDataHyps (s9 n) 3 (n / 4 % 2 == 0) [some (n * 7919), if n % 3 == 0 then none else some 9] (n % 2 == 0)
          (if n % 2 == 0 then 2730666 else 2 * n * 100000) (if n % 2 == 0 then 524288 / 2 ^ (n % 3) else n)
          (by9 n) 4 (fr9 n).1 (fr9 n).2 (if n / 4 % 2 == 0 then 21 else 20)
          (ln9 n).frames.tail (tk9 n).1 (tk9 n).2)[k]?).getD false) = true := by
  decide +kernel

end Sys2Proof.Test.Ports
end

