-- ==== Sys2Proof/Tests/WitnessQueue.lean ====
section
/-! SUPPORT. Witnesses for the statements of the claims' part boost: for every clause a state and operands that meet its
hypotheses together. -/

namespace Sys2Proof.Test.Queues
open Sys2Proof.Machine Sys2Proof.Claim

-- one theorem at a time: side by side their evaluations take too much memory
set_option Elab.async false
set_option synthInstance.maxHeartbeats 2000000
set_option synthInstance.maxSize 100000
set_option maxRecDepth 20000

def fs5 : List Fld := [F.Q_CFG_EN 7, F.Q_WM_HIGH 7, F.QM_OVF_COUNT, F.ROUTE_CTL_TIMED, F.ROUTE_E_Q 65]
def pk (n : Nat) : Packet := ⟨(List.range (n % 3)).map fun i => ⟨BitVec.ofNat 32 i, i + 1 == n % 3, 0⟩, none,
    if n % 2 == 0 then some (n % 7) else none, 0, false, n % 5⟩
/-- A small state that varies with `n`. -/
def s5 (n : Nat) : State := mkS { (rst fs5 (n * 31 + 5)).wrs ([(F.Q_CFG_GRANT 7, n % 4),
    (F.Q_CFG_EN 7, bit (n % 4 != 1)), (F.Q_CFG_PROD_DOM 7, 2), (F.QM_REGION_CELLS, 100)] ++ if n % 6 == 2 then
    [(F.ROUTE_E_OFF_ACTIVE 65, 1), (F.Q_CFG_EN 7, 1)] else []) with
  tick := n % 7,
  pool := { Pool.init with
    cells := if n % 4 == 0 then [] else [(5, ⟨.queue 7, 0⟩), (8, ⟨.queue 7, 0⟩), (6, ⟨.ring 3, 0⟩)],
    tags := if n % 3 == 0 then [] else [(321, 5)] },
  queues := [(7, { Queue.init with
    packets := (List.range (n % 4)).map fun i => pk (n / 4 + i + 1),
    openWords := if n % 3 == 0 then [] else [⟨5, false, 1⟩],
    chain := (List.range (if n % 5 == 0 then 0 else 1)).map (· + 5),
    discard := n % 7 == 0,
    err := n % 11 == 0,
    asked := n % 3,
    parked := n % 3 != 0,
    crossing := n % 3,
    epoch := n,
    arrTick := n % 3,
    arrCount := 2 })],
  rake := match n % 5 with
    | 0 => []
    | 1 => [⟨.scan 7, []⟩]
    | 2 => [⟨.reset 7, (List.range (n % 3)).map (· + 7)⟩, ⟨.scan 7, []⟩]
    | 3 => [⟨.ring 3, (List.range (n % 3)).map (· + 7)⟩]
    | _ => [⟨.abandon 7, [if n % 3 == 0 then 9 else 5]⟩],
  routePend := if n % 2 == 0 || n % 8 == 5 then [(65, some ⟨7, n % 3 == 0, none, n % 5⟩)] else [] ,
  net := { Net.init with
    rxs := if n % 3 == 0 then [] else [(1, { RxFlow.init with
      cfg := some ⟨0, 0, 3, 0, 0, false, false, 0, false, (0, 0), (0, 0), 0, 0, 0, 0, 0, 0⟩ })] } }
/-- The endpoint of a route entry that varies with `n`: a receive channel or a gang. -/
def e5 (n : Nat) : BitVec 15 := if n % 2 == 0 then 65 else 0x2081
def r5 (n : Nat) : RoutePend := ⟨7, n % 7 == 0, if n / 18 % 3 == 0 then some 5 else none, n % 6⟩
/-- A small state of the route table that varies with `n`. -/
def s5r (n : Nat) : State :=
  let d := (s5 0).chip.dev
  mkS { d.wrs ([(F.Q_CFG_EN 7, bit (n % 3 != 0)), (F.Q_CFG_PROD_DOM 7, if n % 5 == 0 then 1 else 2),
      (F.Q_CFG_CONS_DOM 7, if n % 5 == 1 then 1 else 2), (F.ROUTE_CTL_TIMED, n / 54 % 2)] ++
      match n / 6 % 3 with
      | 0 => []
      | 1 => [(F.ROUTE_E_OFF_ACTIVE 66, 0), (F.ROUTE_E_Q_ACTIVE 66, 7)]
      | _ => [(F.ROUTE_E_OFF_ACTIVE (e5 n).toNat, 0), (F.ROUTE_E_Q_ACTIVE (e5 n).toNat, 9)]) with
    tick := 4,
    routePend := [((e5 n).toNat, some (r5 n))],
    net := { Net.init with
      rxs := if n % 11 == 0 then [] else [(1, { RxFlow.init with
        cfg := some ⟨0, 0, 3, 0, 0, false, false, 0, false, (0, 0), (0, 0), 0, 0, 0, 0, 0, 0⟩ })] } }
def hp (n : Nat) : Packet := ((s5 n).chip.dev.q 7).packets.headD (pk 0)
def tp (n : Nat) := ((s5 n).chip.dev.q 7).packets.tail
def hw (n : Nat) : QWord := (hp n).words.headD ⟨0, false, 0⟩
def tw (n : Nat) := (hp n).words.tail
def hr (n : Nat) : RakeJob := (s5 n).chip.dev.rake.headD ⟨.scan 0, []⟩
def tr (n : Nat) := (s5 n).chip.dev.rake.tail

/-- The hypotheses of the clauses of `QueueMove`, each once. -/
def queueMoveHyps (s : State) (q : Fin 4096) (_w : Word) (_e : Bool) (_k : Fin 3) (p : Packet)
    (ps : List Packet) (v : QWord) (vs : List QWord) : List Bool :=
  let outer := Live s
  let d0 := s.chip.dev
  let x := d0.q q
  let room := d0.rd (F.Q_CFG_EN q) ≠ 0 ∧ x.err = false ∧ x.discard = false ∧ (x.needsCell = false ∨ 0 < d0.credit q)
  [decide (outer ∧ room),
    decide (outer ∧ d0.rd (F.Q_CFG_EN q) = 0),
    decide (outer ∧ d0.rd (F.Q_CFG_EN q) ≠ 0 ∧ x.err = false ∧ x.discard = false ∧ x.needsCell = true ∧
        d0.credit q ≤ 0),
    decide (outer ∧ x.packets = p :: ps ∧ p.words = v :: vs ∧ d0.rd (F.Q_CFG_EN q) ≠ 0 ∧ x.err = false ∧
        p.arrival.isSome = true),
    decide (outer ∧ x.packets = [] ∧ d0.rd (F.Q_CFG_EN q) ≠ 0 ∧ x.err = false),
    decide (outer ∧ x.packets = p :: ps ∧ p.arrival = none ∧ p.hold = none),
    decide (outer ∧ x.packets = []),
    decide outer,
    decide (outer ∧ x.parked = true ∧ (d0.txOld.any fun r => r.2 == some (q.val, false)) = false),
    decide (outer ∧ (x.parked = false ∨ (d0.txOld.any fun r => r.2 == some (q.val, false)) = true))]

theorem witness_QueueMove :
    ((List.range 10).zip [2, 1, 10, 6, 4, 1, 0, 0, 1, 0]).all (fun (k, n) =>
      ((queueMoveHyps (s5 n) 7 77 (n % 2 == 0) (Fin.ofNat 3 n) (hp n) (tp n) (hw n)
          (tw n))[k]?).getD false) = true := by
  decide +kernel

/-- The hypotheses of the clauses of `QueueReset`, each once. -/
def queueResetHyps (s : State) (q : Fin 4096) (cause : Fin 4) (addr : BitVec 26) (j : RakeJob)
    (js : List RakeJob) : List Bool :=
  let outer := Live s
  let d0 := s.chip.dev
  let x := d0.q q
  let row := addr.toNat / 8 * 8
  let inCells := row < d0.rd F.QM_REGION_CELLS * 256
  let cell := addr.toNat / 256
  [decide outer,
    decide (outer ∧ 0 < x.asked),
    decide (outer ∧ x.asked = 0),
    decide (outer ∧ cause.val = 0),
    decide (outer ∧ cause.val = 1 ∧ (d0.cell cell).owner = .queue q),
    decide (outer ∧ cause.val = 2 ∧ (d0.cell cell).owner = .queue q),
    decide (outer ∧ cause.val = 2 ∧ (d0.cell cell).owner = .ring (q % 4)),
    decide (outer ∧ cause.val = 3 ∧ d0.rake = j :: js ∧ j.ofQueue q = true ∧ j.isScan = false),
    decide (outer ∧ cause.val = 3 ∧ d0.rakes q = false),
    decide (outer ∧ d0.rake = j :: js ∧ j.owner = .scan q),
    decide (outer ∧ d0.rake = j :: js ∧ j.ofQueue q = true ∧ j.isScan = false ∧ d0.chainBroken q j.cells = true),
    decide (outer ∧ d0.rake = j :: js ∧ 0 < j.cells.length ∧ j.ofQueue q = true ∧ j.isScan = false ∧
        d0.chainBroken q j.cells = false),
    decide (outer ∧ d0.rake = j :: js ∧ j.owner = .scan q ∧ 0 < d0.held q),
    decide (outer ∧ d0.rake = j :: js ∧ 0 < j.cells.length ∧ j.owner = .ring (q % 4)),
    decide (outer ∧ d0.rake = []),
    decide (outer ∧ ¬inCells),
    decide (outer ∧ inCells ∧ (d0.cell cell).owner = .queue q),
    decide (outer ∧ inCells ∧ (d0.cell cell).owner = .ring (q % 4)),
    decide (outer ∧ inCells ∧ (d0.cell cell).owner = .free)]

theorem witness_QueueReset :
    ((List.range 19).zip [0, 1, 0, 0, 1, 10, 2, 7, 3, 1, 2, 14, 1, 8, 0, 33, 1, 2, 0]).all (fun (k, n) =>
      ((queueResetHyps (s5 n) 7 (Fin.ofNat 4 n) (BitVec.ofNat 26 (if n % 3 == 1 then 1300 + n % 100
          else if n % 6 == 2 then 1540 + n % 100 else n * 777)) (hr n) (tr n))[k]?).getD false) = true := by
  decide +kernel

/-- The hypotheses of the clauses of `Route`, each once. -/
def routeHyps (s : State) (e : BitVec 15) (_v : Word) (_late : Bool) (r : RoutePend) (x q0 m : Nat) : List Bool :=
  let outer := Live s
  let d0 := s.chip.dev
  let n := e.toNat
  let due := d0.routePend = [(n, some r)] ∧ d0.epLive n = true ∧ d0.txOld = [] ∧ r.off = false ∧ r.timed = none ∧
    r.after ≤ d0.tick
  [decide (outer ∧ isEndpoint n = true ∧ d0.epLive n = false),
    decide (outer ∧ isEndpoint n = true ∧ d0.epLive n = true ∧ d0.on F.ROUTE_CTL_TIMED = false),
    decide (outer ∧ isEndpoint n = true ∧ d0.epLive n = true ∧ d0.on F.ROUTE_CTL_TIMED = true),
    decide (outer ∧ d0.routePend = [(n, some r)] ∧ r.timed = some m ∧ (m ≠ d0.mediaTick ∨ d0.tick < r.after)),
    decide (outer ∧ d0.routePend = [(n, some r)] ∧ n < 0x2000 ∧ d0.txOld = [] ∧ d0.epLive n = false ∧
        r.timed = none ∧ r.after ≤ d0.tick),
    decide (outer ∧ d0.routePend = [(n, some r)] ∧ n < 0x2000 ∧ d0.epLive n = true ∧ d0.txOld = [] ∧
        d0.boundCodes = [] ∧ r.off = false ∧ r.timed = none ∧ r.after ≤ d0.tick ∧ d0.rd (F.Q_CFG_EN r.q) ≠ 0 ∧
        d0.rd (F.Q_CFG_PROD_DOM r.q) = 2),
    decide (outer ∧ due ∧ n < 0x4000 ∧ d0.rd (F.Q_CFG_EN r.q) = 0),
    decide (outer ∧ due ∧ n < 0x2000 ∧ d0.rd (F.Q_CFG_EN r.q) ≠ 0 ∧ d0.rd (F.Q_CFG_PROD_DOM r.q) ≠ 2),
    decide (outer ∧ due ∧ 0x2080 ≤ n ∧ n < 0x20A0 ∧ d0.rd (F.Q_CFG_EN r.q) ≠ 0 ∧ d0.rd (F.Q_CFG_CONS_DOM r.q) ≠ 2),
    decide (outer ∧ due ∧ n < 0x2000 ∧ d0.rd (F.Q_CFG_EN r.q) ≠ 0 ∧ d0.rd (F.Q_CFG_PROD_DOM r.q) = 2 ∧
        d0.boundCodes = [x] ∧ x ≠ n ∧ d0.epLive x = true ∧ d0.isSink x = false ∧ d0.bound x = some r.q),
    decide (outer ∧ due ∧ 0x2080 ≤ n ∧ n < 0x20A0 ∧ d0.rd (F.Q_CFG_EN r.q) ≠ 0 ∧ d0.rd (F.Q_CFG_CONS_DOM r.q) = 2 ∧
        d0.boundCodes = [n] ∧ d0.bound n = some q0 ∧ q0 ≠ r.q ∧ r.q < 4096)]

theorem witness_Route :
    ((List.range 11).zip [0, 1, 54, 0, 22, 38, 18, 20, 31, 26, 85]).all (fun (k, n) =>
      ((routeHyps (s5r n) (e5 n) (BitVec.ofNat 32 (rnd n)) (n % 5 == 1) (r5 n) 66 9 5)[k]?).getD false) = true := by
  decide +kernel

end Sys2Proof.Test.Queues
end

