-- ==== Sys2Proof/Tests/WitnessScalar.lean ====
section
/-! SUPPORT. Witnesses for the statements of the claims' part twin: for every clause a state and operands that meet its
hypotheses together. -/

namespace Sys2Proof.Test.Scalar
open Sys2Proof.Machine Sys2Proof.Claim

-- one theorem at a time: side by side their evaluations take too much memory
set_option Elab.async false
set_option synthInstance.maxHeartbeats 2000000
set_option synthInstance.maxSize 100000
set_option maxRecDepth 20000

def kv (k : Nat) : Word :=
  let r := rnd (rnd (k + 77)); let c := r % 9
  BitVec.ofNat 32 (if c == 0 then 0x80000000 else if c == 1 then 0x7FFFFFFF else if c == 2 then 0
      else if c == 3 then 0xFFFFFFFF else if c == 4 then r / 16 % 64 else r / 16)
def k14 (n : Nat) : Ctx :=
  { Ctx.init with
    run := .ready,
    asid := 3,
    pc := if n % 7 == 0 then 2 ^ 32-4 else 64,
    fsr := if n % 3 == 0 then 0 else rnd n % 4096,
    g := ((List.range 32).drop 1).filterMap fun j => let v := kv (n * 40 + j); if v == 0 then none else some (j, v),
    v := (List.range 128).filterMap fun j => let v := kv (n * 140 + j); if v == 0 then none else some (j, v),
    a := (List.range 8).filterMap fun j => let v := (let r := rnd (rnd (n * 8 + j)); if r % 5 == 0 then 2 ^ 71-1
        else if r % 5 == 1 then 2 ^ 71 else if r % 5 == 2 then (r * 2 ^ 30 + 2 ^ 30) else if r % 5 == 3 then
        2 ^ 62 + r * 2 ^ 40 else rnd r * 2 ^ 30 + r); let b := BitVec.ofNat 72 v; if b == 0 then none else some (j,
        b),
    aov := if n % 2 == 0 then [(n % 8, true)] else [] }
/-- A small state that varies with `n`. -/
def s14 (n : Nat) : State :=
  let k := k14 n
  let d := Dev.reset.setCtx 5 k
  let d := d.setLines 1 [(3, k.pc / 64)]
  { State.reset with chip := ⟨{ d with resetN := true, supplyOk := true }, State.reset.chip.mem⟩ }

/-- The hypotheses of the clauses of `Accumulate`, each once. -/
def accumulateHyps (s : State) (x : Fin 64) (ad _src _o : BitVec 3) (_g : BitVec 5) (vs vt : BitVec 4)
    (_sh : BitVec 6)
    (h n : Bool) (_w : Fin 3) : List Bool :=
  let outer := Issues s x
  let k0 := s.chip.dev.ctx x
  let a := k0.rdA ad
  let fits := fun (v : Int) => decide (-(2 ^ 71) ≤ v ∧ v < 2 ^ 71)
  let coef := fun (j : Nat) => if h = true then signedOf 16 ((k0.rdV vt j).toNat / 65536) * 65536
      else (k0.rdV vt j).toInt
  let prod := fun (j : Nat) => (if n = true then -1 else 1) * ((k0.rdV vs j).toInt * coef j)
  let part := fun (m : Nat) => a + ((List.range m).map prod).sum
  let small := ((List.range 8).all fun m => fits (part (m + 1))) = true
  [decide outer,
    decide (outer ∧ small),
    decide (outer ∧ fits (part 1) = false)]

theorem witness_Accumulate :
    ((List.range 3).zip [0, 0, 3]).all (fun (k, n) =>
      ((accumulateHyps (s14 n) 5  (BitVec.ofNat 3 (rnd (n * 3))) (BitVec.ofNat 3 (rnd (n * 5)))
          (BitVec.ofNat 3 (rnd (n * 7))) (BitVec.ofNat 5 (rnd (n * 11))) (BitVec.ofNat 4 (rnd (n * 13)))
          (BitVec.ofNat 4 (rnd (n * 17))) (BitVec.ofNat 6 (rnd (n * 23))) (n % 2 == 0) (n % 3 == 0)
          (Fin.ofNat 3 n))[k]?).getD false) = true := by
  decide +kernel

/-- The hypotheses of the clauses of `Lanes`, each once. -/
def lanesHyps (s : State) (x : Fin 64) (_vd vs _vt : BitVec 4) (_g : BitVec 5) (j : Fin 8) (_l : BitVec 3)
    (_u : BitVec 4) : List Bool :=
  let outer := Issues s x
  let k0 := s.chip.dev.ctx x
  let a := fun (i : Nat) => (k0.rdV vs i).toInt
  [decide outer,
    decide (outer ∧ (∀ i : Fin 8, |a i| ≤ |a j|))]

theorem witness_Lanes :
    ((List.range 2).zip [0, 15]).all (fun (k, n) =>
      ((lanesHyps (s14 n) 5  (BitVec.ofNat 4 (rnd (n * 3))) (BitVec.ofNat 4 (rnd (n * 5)))
          (BitVec.ofNat 4 (rnd (n * 7))) (BitVec.ofNat 5 (rnd (n * 11))) (Fin.ofNat 8 (rnd (n * 13)))
          (BitVec.ofNat 3 (rnd (n * 17))) (BitVec.ofNat 4 (rnd (n * 19))))[k]?).getD false) = true := by
  decide +kernel

/-- The hypotheses of the clauses of `Integer`, each once. -/
def integerHyps (s : State) (x : Fin 64) (_rd rs _rt : BitVec 5) : List Bool :=
  let outer := Issues s x
  let a := (s.chip.dev.ctx x).rdG rs
  [decide outer,
    decide (outer ∧ a.toNat < 2 ^ 32 ∧ 2 ^ 31 ≤ a.toNat)]

theorem witness_Integer :
    ((List.range 2).zip [0, 9]).all (fun (k, n) =>
      ((integerHyps (s14 n) 5 (BitVec.ofNat 5 (rnd (n * 3))) (BitVec.ofNat 5 (rnd (n * 5)))
          (BitVec.ofNat 5 (rnd (n * 7))))[k]?).getD false) = true := by
  decide +kernel

/-- The hypotheses of the clauses of `Immediate`, each once. -/
def immediateHyps (s : State) (x : Fin 64) (_rd _rs : BitVec 5) (_imm : BitVec 16) (_sh : BitVec 5) : List Bool :=
  let outer := Issues s x
  [decide outer]

theorem witness_Immediate :
    ((List.range 1).zip [0]).all (fun (k, n) =>
      ((immediateHyps (s14 n) 5 (BitVec.ofNat 5 (rnd (n * 3))) (BitVec.ofNat 5 (rnd (n * 5)))
          (BitVec.ofNat 16 (rnd (n * 7))) (BitVec.ofNat 5 (rnd (n * 11))))[k]?).getD false) = true := by
  decide +kernel

end Sys2Proof.Test.Scalar
end

