-- ==== Sys2Proof/Tests/WitnessStart.lean ====
section
/-! SUPPORT. Witnesses for the statements of the claims' part lam: for every clause a state and operands that meet its
hypotheses together. -/

namespace Sys2Proof.Test.Start
open Sys2Proof.Machine Sys2Proof.Claim

-- one theorem at a time: side by side their evaluations take too much memory
set_option Elab.async false
set_option synthInstance.maxHeartbeats 2000000
set_option synthInstance.maxSize 100000
set_option maxRecDepth 20000

def fs12 : List Fld := [F.SYS_STRAPS_ROLE, F.MAC_CTL_MODE 1, F.PORT_CTL_MASTER 1, F.PAD_DENIED 3, F.TEU_CTL_EN 1,
    F.MOD_GANG_CTL_RUN 1, F.BST_CTL_EN 1, F.PAD_DENIED 20]
def u12 (n : Nat) : Nat × Nat := ([1, 2, 3, 4, 5, 6, 7, 8, 9, 1].getD (n % 10) 0, if n % 23 == 22 then 200
    else n / 10 % 4)
/-- A small state that varies with `n`. -/
def s12 (n : Nat) : State :=
  let d := (rst fs12 (n * 31 + 5)).wrs [(F.MAC_POOL_FREE 1, 5), (F.MAC_MAX_LEN_LEN 1, 1600), (F.RXF_CTL_EN 1, 1),
      (F.TXF_CTL_EN 1, 1), (F.X_CNT_COUNT 1 1 0, 7), (F.PORT_CTL_EN 4, 1), (F.SYS_STRAPS_BOOT, bit (n % 3 == 0)),
      (F.MOD_GANG_STATUS_STATE 1, n % 8), (F.BST_STATUS_STATE 1, n % 5), (F.TEU_STATUS_ARMED 1, 1),
      (F.PORT_RATE_TOL_PPM 1, 99), (F.MOD_GRP_CFG_LAYOUT 0, n / 2 % 4)]
  let d := { d with
    resetN := n % 4 != 1,
    supplyOk := n % 5 != 1,
    time := { d.time with running := n % 2 == 0 , raw := n},
    tick := n,
    freeCtr := n
    badRows := if n % 5 == 0 then [3] else [] }
  let d := d.setMac 1 { Mac.init with seq0 := 4, rx := [⟨0, 0, [6], []⟩] }
  let d := ((d.setSap 1 { Sap.init with run := .running }).setCtx 5 { Ctx.init with
    run := .ready,
    g := [(1, 5)],
    fsr := 1,
    task := some ⟨n % 2 == 0, false, 1, 0, 1, 2, 3, [], [], [], 0⟩ }).setTlb 1 [⟨1, 1, true, 1, true, true, true,
        false, false, false, 0⟩]
  let d := d.setLines 1 [(1, 1)]
  let d := { d with
    sys := { d.sys with
      scrubbed := n % 4 == 3,
      jtag := { d.sys.jtag with
        busy := if n % 3 == 0 then [u12 n] else [(5, 7)],
        kind := n % 10,
        index := n / 10 % 4 } } }
  let m : Mem := ⟨[(5, 7#8)], []⟩
  let img := (List.range 64).map fun i => BitVec.ofNat 8 (i * n)
  let crc := crc32 (img.take 12 ++ [0, 0, 0, 0] ++ img.drop 16)
  let m := if n % 6 == 2 then (m.storeFlash 0 img).storeFlash (2 ^ 24-4096) (([9, 64, crc,
      1].map (beBytes 4)).flatten) else m
  let boot := fun (v : Nat) =>
    let w := fun (c : Nat) => (([0x4C414D31, v, 64, c, if n % 12 == 4 then 1 else 0, 0, 0, 0, 1, 48, 4, 0, v, v, v,
      v].map (beBytes 4)).flatten)
    (w (crc32 (w 0)), crc32 (w 0))
  let slot := fun (m : Mem) (b v q : Nat) => (m.storeFlash (b * 2 ^ 24) (boot v).1).storeFlash ((b + 1) * 2 ^ 24 - 4096)
    (([v, 64, (boot v).2, q].map (beBytes 4)).flatten)
  let m := if n % 6 == 4 && n % 24 != 22 then slot (slot m 0 9 1) 1 8 (n / 6 % 3) else m
  { State.reset with chip := ⟨d, m⟩ }
/-- A small state that varies with `n`. -/
def sL (n : Nat) : State := let s := s12 n; { s with
  chip := { s.chip with dev := { s.chip.dev with resetN := true, supplyOk := true }} }
def ff12 (n : Nat) : Fld := [F.MAC_CTL_MODE (n / 10 % 4), F.RXF_CTL_EN (n / 10 % 4), F.TXF_CTL_EN (n / 10 % 4),
    F.X_CNT_COUNT (n / 10 % 4) 1 0, F.PORT_RATE_TOL_PPM (n / 10 % 4), F.MOD_GANG_CTL_RUN (n / 10 % 4),
    F.BST_CTL_EN (n / 10 % 4), F.TEU_STATUS_ARMED (n / 10 % 4), F.MAC_CTL_MODE 1,
    F.MAC_MAX_LEN_LEN (n / 10 % 4)].getD (n % 10) F.SYS_STRAPS_ROLE

/-- The hypotheses of the clauses of `ResetPin`, each once. -/
def resetPinHyps (s : State) (lowNs : Nat) (_role _boot _hqMode _bypass : Bool) : List Bool :=
  let d0 := s.chip.dev
  [decide (50 ≤ lowNs),
    decide (lowNs < 50),
    decide (True),
    decide (d0.supplyOk = true ∧ (d0.resetN = false ∨ d0.time.running = false)),
    decide (d0.supplyOk = true ∧ d0.resetN = true ∧ d0.time.running = true),
    decide (d0.supplyOk = false)]

theorem witness_ResetPin :
    ((List.range 6).zip [17, 0, 0, 3, 0, 1]).all (fun (k, n) =>
      ((resetPinHyps (s12 n) (n * 3 % 100) (n % 2 == 0) (n % 3 == 0) (n % 5 == 0)
          (n % 7 == 0))[k]?).getD false) = true := by
  decide +kernel

/-- The hypotheses of the clauses of `UnitReset`, each once. -/
def unitResetHyps (s : State) (kind : BitVec 4) (index : BitVec 10) (f : Fld) (i : Fin 48) (_v : Word)
    (k j : Nat) : List Bool :=
  let outer := Live s
  let d0 := s.chip.dev
  let ki := kind.toNat
  let ix := index.toNat
  let there := d0.unitExists ki ix = true
  let busyPad := if i < 8 then d0.groupQuiet i = false else if i.val = 8 then ((List.range 8).any fun g =>
      d0.bstate g != bOff) = true
    else if 16 ≤ i.val then d0.on (F.PORT_CTL_EN (i - 16)) = true else False
  let slots := fun (t : Nat) => s.chip.mem.slotValid t
  let scrubs := d0.sys.scrubbed = false ∧ d0.time.running = true
  [decide (outer ∧ there ∧ unitOf f.reg = some (ki, ix) ∧ keptAt f.reg = false),
    decide (outer ∧ there),
    decide (outer ∧ there ∧ unitOf f.reg = some (k / 32, j) ∧ (k / 32 ≠ ki ∨ j ≠ ix) ∧ ((ki = 2 → k / 32 ≠ 2)) ∧
        ((ki = 7 → k / 32 ≠ 6)) ∧ ((ki = 8 → k / 32 ≠ 8 ∧ k / 32 ≠ 1))),
    decide (outer ∧ d0.unitExists ki ix = false),
    decide (outer ∧ d0.unitHeld ki ix = true),
    decide (outer ∧ d0.unitHeld ki ix = false),
    decide (outer ∧ scrubs ∧ d0.on F.SYS_STRAPS_BOOT = true),
    decide (outer ∧ scrubs ∧ d0.on F.SYS_STRAPS_BOOT = false ∧ slots 0 = false ∧ slots 1 = false),
    decide (outer ∧ scrubs ∧ d0.on F.SYS_STRAPS_BOOT = false ∧ slots 0 = true ∧ slots 1 = false ∧
        k < s.chip.mem.slotWord 0 1),
    decide (outer ∧ scrubs ∧ d0.on F.SYS_STRAPS_BOOT = false ∧ slots 0 = true ∧ slots 1 = true),
    decide (outer ∧ d0.sys.scrubbed = true),
    decide (outer ∧ isPad i = true ∧ ¬ busyPad),
    decide (outer ∧ isPad i = true ∧ busyPad)]

theorem witness_UnitReset :
    ((List.range 13).zip [0, 0, 2, 8, 0, 1, 0, 22, 8, 4, 3, 0, 8]).all (fun (k, n) =>
      ((unitResetHyps (sL n) (BitVec.ofNat 4 (u12 n).1) (BitVec.ofNat 10 (u12 n).2) (if n % 4 < 2 then ff12 n
          else ff12 (n + 3)) (Fin.ofNat 48 n) (BitVec.ofNat 32 (rnd n)) (if n % 4 < 2 then n % 64
          else 32 * (u12 (n + 3)).1 + n % 32) (if n % 4 < 2 then n % 8
          else (n + 3) / 10 % 4))[k]?).getD false) = true := by
  decide +kernel

/-- The hypotheses of the clauses of `TestPort`, each once. -/
def testPortHyps (s : State) : List Bool :=
  let outer := s.chip.dev.supplyOk = true
  [decide outer]

theorem witness_TestPort :
    ((List.range 1).zip [0]).all (fun (k, n) =>
      ((testPortHyps (sL n))[k]?).getD false) = true := by
  decide +kernel

end Sys2Proof.Test.Start
end

