-- ==== Sys2Proof/Tests/WitnessTime.lean ====
section
/-! SUPPORT. Witnesses for the statements of the claims' part clock: for every clause a state and operands that meet its
hypotheses together. -/

namespace Sys2Proof.Test.TimeBase
open Sys2Proof.Machine Sys2Proof.Claim

-- one theorem at a time: side by side their evaluations take too much memory
set_option Elab.async false
set_option synthInstance.maxHeartbeats 2000000
set_option synthInstance.maxSize 100000
set_option maxRecDepth 20000

def fs2 : List Fld := [F.TIME_STATUS_STATE, F.TIME_STATUS_MEDIA_VALID, F.TIME_STATUS_JUMP_REFUSED,
    F.TIME_STATUS_ANCHOR_CHECK, F.MEDPLL_CTL_MODE, F.TWIN_STATUS_STATE, F.TWIN_STATUS_FIT, F.TEU_CTL_EN 3,
    F.TEU_CTL_EN 4, F.TEU_CTL_PERIODIC 3, F.TEU_CTL_IRQ 3, F.TEU_PERIOD_NS_NS 3, F.TEU_START_NS_NS 3,
    F.TEU_TARGET_CLASS 3, F.TEU_TARGET_PORT 3, F.TEU_CTL_PIN_ACT 3, F.TEU_CTL_LAUNCH_ACT 3, F.TEU_STATUS_ARMED 3,
    F.TEU_STATUS_FIRED 3, F.TEU_CTL_BASE 3, F.TEU_STATUS_PIN_HELD 4]
/-- A small state that varies with `n`. -/
def s2a (n : Nat) : State := mkS { (rst fs2 n).wrs ([(F.TWIN_CFG_MODE, n % 2), (F.TIME_SERVO_TIMEOUT_MS, n % 3),
    (F.TIME_RATE_RATE, rnd (n + 77)), (F.MAC_TXR_CFG_SIZE 0 0, 4),
    (F.MAC_TXR_PTR_TAIL 0 0, n % 3), (F.TEU_PERIOD_NS_NS 3, [2000, 500, 1000, 7000].getD (n % 4) 0),
    (F.TEU_START_NS_NS 3, [2000, 500, 2 ^ 31, 4200000000].getD (n / 4 % 4) 0)]) with
  tick := n,
  time := { TimeSt.init with
    running := n % 3 != 0,
    raw := if n % 4 == 0 then 2147483647 else 1000000,
    rawR := if n % 4 == 0 then 2147483647 else n * 10,
    offset := if n % 4 == 0 then 1 else if n % 3 == 0 then (n * 1000) else -(n * 1000),
    frac := if n % 4 == 0 then 0 else n * 700000,
    grid := n * 777,
    residual := [0, 5, -7, 100000, 3].getD (n % 5) 0,
    mediaCount := 7,
    mediaHeld := if n % 2 == 0 then none else some (n * 6),
    step := if n % 3 == 1 then some ⟨if n % 4 == 0 then 2147483647 else 1000000, n * 50, n % 2 == 0, 5, 3, 9, 0,
      [0, 1, 0, 0, 0, 1], .none⟩ else none },
  queues := [(3, { Queue.init with packets := [⟨[⟨1, true, 0⟩], none, some 0, 0, true, 0⟩, ⟨[⟨2, true, 0⟩], none, none, 0, false, 0⟩,
      ⟨[⟨3, true, 0⟩], some (n + n % 3), none, 0, false, 0⟩, ⟨[⟨4, true, 0⟩], none, none, 0, false, 0⟩] })],
  ctxs := if n % 2 == 0 then [] else [(7, { Ctx.init with
    run := if n % 4 == 1 then .tickwait else .yielded,
    task := if n % 3 == 0 then none else some ⟨n % 3 == 1, false, 1, 0, 1, 2, 3, [], [], [], 0⟩ })],
  routePend := if n % 4 < 2 then [] else [(5, some ⟨9, n % 8 == 2, none, 0⟩)],
  clk := { ClkSt.init with realign := if n % 11 == 5 then .draining 1 else .none },
  teus := [(3, { Teu.init with
    width := n * 3,
    pin := [4, 2, 7].getD (n % 3) 0,
    pol := n % 2 == 1,
    port := n / 2 % 2,
    nextE := n * 100,
    periodic := n % 2 == 0,
    pinAct := n % 3 == 0,
    launchAct := n % 3 != 1,
    period := 300000 + n,
    pinUntil := if n % 4 == 0 then none else some (n * n * 7000) }), (4, { Teu.init with pin := 4 })] }

/-- The same, at times with unit 3's event a little back. -/
def s2 (n : Nat) : State :=
  let d := (s2a n).chip.dev
  if n % 7 == 4 then mkS (d.setTeu 3 { d.teu 3 with nextE := d.baseAt (d.teu 3).base / 2 ^ 32 - n }) else s2a n

/-- The hypotheses of the clauses of `RateWrite`, each once. -/
def rateWriteHyps (s : State) (_v : Word) (w : OffsetStep) : List Bool :=
  let outer := Live s
  let d0 := s.chip.dev
  [decide (outer ∧ d0.stepNow = none),
    decide (outer ∧ d0.stepNow = some w)]

theorem witness_RateWrite :
    ((List.range 2).zip [0, 1]).all (fun (k, n) =>
      ((rateWriteHyps (s2 n) (BitVec.ofNat 32 (rnd n)) (((s2 n).chip.dev.stepNow).getD ⟨0, 0, false, 0, 0, 0, 0, [],
          .none⟩))[k]?).getD false) = true := by
  decide +kernel

/-- The hypotheses of the clauses of `TimeStates`, each once. -/
def timeStatesHyps (s : State) : List Bool :=
  let outer := Live s
  let d0 := s.chip.dev
  [decide (outer ∧ d0.rd F.TIME_STATUS_STATE ≠ 1),
    decide (outer ∧ d0.rd F.TIME_STATUS_STATE = 1),
    decide (outer ∧ d0.rd F.TIME_STATUS_STATE = 1 ∧ d0.rd F.TIME_SERVO_TIMEOUT_MS ≠ 0 ∧
        d0.time.servoRaw + d0.rd F.TIME_SERVO_TIMEOUT_MS * 500000 ≤ d0.time.raw),
    decide (outer ∧ (d0.rd F.TIME_SERVO_TIMEOUT_MS = 0 ∨
        d0.time.raw < d0.time.servoRaw + d0.rd F.TIME_SERVO_TIMEOUT_MS * 500000)),
    decide (outer ∧ d0.rd F.TIME_STATUS_STATE ≠ 0)]

theorem witness_TimeStates :
    ((List.range 5).zip [0, 1, 1, 0, 0]).all (fun (k, n) =>
      ((timeStatesHyps (s2 n))[k]?).getD false) = true := by
  decide +kernel

/-- The hypotheses of the clauses of `TimeWrites`, each once. -/
def timeWritesHyps (s : State) (v : BitVec 64) (ov : Bool) (ns : Word) (g : Bool) (w : Nat) : List Bool :=
  let outer := Live s
  let d0 := s.chip.dev
  let step := v.toInt - d0.time.offset
  let phase := (instantNear d0.nowWide ns.toNat % 125000).toNat
  let m := (d0.time.grid - (phase : Int)) % 125000
  let move := if m ≤ 62500 then m else m - 125000
  [decide (outer ∧ d0.rd F.TIME_STATUS_STATE = 0 ∧ (d0.on F.MEDPLL_CTL_MODE &&
      d0.rd F.MEDPLL_CTL_REF_SEL == 0) = false),
    decide (outer ∧ d0.rd F.TIME_STATUS_STATE ≠ 0 ∧ (ov = true ∨ step.natAbs ≤ d0.rd F.TIME_JUMP_LIMIT_LIMIT) ∧
        (d0.time.residual + 16 * step).natAbs ≤ 1600000000),
    decide (outer ∧ d0.rd F.TIME_STATUS_STATE ≠ 0 ∧ ov = false ∧ d0.rd F.TIME_JUMP_LIMIT_LIMIT < step.natAbs),
    decide (outer ∧ d0.wrapsNext = true),
    decide (outer ∧ d0.wrapsNext = false),
    decide (outer ∧ (g = true ∨ d0.rd F.TIME_STATUS_STATE = 0 ∨ move.natAbs ≤ d0.rd F.TIME_JUMP_LIMIT_LIMIT) ∧
        (d0.time.residual + 16 * move).natAbs ≤ 1600000000),
    decide (outer ∧ g = false ∧ d0.rd F.TIME_STATUS_STATE ≠ 0 ∧ d0.rd F.TIME_JUMP_LIMIT_LIMIT < move.natAbs),
    decide outer,
    decide (outer ∧ d0.time.mediaHeld = some w)]

theorem witness_TimeWrites :
    ((List.range 9).zip [4, 2, 1, 4, 0, 0, 1, 0, 1]).all (fun (k, n) =>
      ((timeWritesHyps (s2 n) (if n % 5 == 2 then BitVec.ofInt 64 ((s2 n).chip.dev.time.offset + n % 9)
          else BitVec.ofNat 64 (rnd n)) (n % 2 == 0) (BitVec.ofNat 32 (rnd (n + 5))) (n % 3 == 0)
          (n * 6))[k]?).getD false) = true := by
  decide +kernel

/-- The hypotheses of the clauses of `TickBoundary`, each once. -/
def tickBoundaryHyps (s : State) (_w q i _e : Nat) (p : Packet) (x : Fin 64) : List Bool :=
  let outer := Live s
  let d0 := s.chip.dev
  let d1 := d0.tickStart
  let calm := d1.switchDue = false ∧ d1.realignEnds = false ∧ d0.sys.lam.drain = none ∧ d0.net.draining = false
  let quiet := calm ∧ d0.routePend = [] ∧ (∀ p ∈ d0.saps, p.2.laneA.held = [] ∧ p.2.laneB.held = []) ∧
    ∀ y : Fin 64, (d0.ctx y).run = .off ∧ (d0.ctx y).restart = false
  let k0 := d0.ctx x
  [decide outer,
    decide (outer ∧ calm),
    decide (outer ∧ quiet),
    decide (outer ∧ quiet ∧ d0.rxOn = [] ∧ d0.txOn = [] ∧ (d0.q q).packets[i]? = some p),
    decide (outer ∧ calm ∧ (k0.run = .tickwait ∨ k0.run = .yielded) ∧ d0.halted x = false ∧ k0.restart = false ∧
        k0.task.all (fun t => t.free) = true)]

theorem witness_TickBoundary :
    ((List.range 5).zip [0, 0, 0, 0, 1]).all (fun (k, n) =>
      ((tickBoundaryHyps (s2 n) (n * 6) 3 (n / 2 % 4) 5 (((s2 n).chip.dev.q 3).packets.getD (n / 2 % 4) ⟨[], none,
          none, 0, false, 0⟩) 7)[k]?).getD false) = true := by
  decide +kernel

/-- The hypotheses of the clauses of `TimedEvent`, each once. -/
def timedEventHyps (s : State) (u : Fin 16) (_port : BitVec 2) (_cls : BitVec 3) (r : Nat)
    (k n : Int) : List Bool :=
  let outer := Live s ∧ s.chip.dev.unitHeld 8 u = false
  let d0 := s.chip.dev
  let period := d0.rd (F.TEU_PERIOD_NS_NS u) * 256 + d0.rd (F.TEU_PERIOD_FRAC_FRAC u)
  let t0 := d0.teu u
  let here := d0.baseAt t0.base
  let cycle := 2 ^ 41 + 2 * d0.rate
  let nearest := fun (m at_ : Int) => -cycle ≤ 2 * (fine at_ - here) - 2 * m * cycle ∧
      2 * (fine at_ - here) - 2 * m * cycle < cycle
  let owns := d0.rd (F.TEU_STATUS_PIN_HELD u) = 1
  let taken := ((List.range 16).any fun v => v != u && (d0.teu v).pin == t0.pin &&
    (d0.on (F.TEU_STATUS_PIN_HELD v) || (decide (v < u) && (d0.teu v).pinAct && d0.teuDue v))) = true ∨
      t0.pin = 7 ∧ d0.rd F.TIME_WCLK_OUT_EN = 1
  let fires := d0.teuDue u = true
  let freed := Sparse.get (fun _ => 0) (d0.mac t0.port).rel t0.cls
  [decide (outer ∧ d0.on (F.TEU_CTL_EN u) = false ∧ (d0.on (F.TEU_CTL_PERIODIC u) = false ∨ 256000 ≤ period)),
    decide (outer ∧ d0.on (F.TEU_CTL_EN u) = false ∧ d0.on (F.TEU_CTL_PERIODIC u) = true ∧ period < 256000),
    decide (outer ∧ d0.on (F.TEU_CTL_EN u) = true ∧ d0.teuDue u = false),
    decide (outer ∧ d0.teuDue u = true),
    decide (outer ∧ fires ∧ t0.pinAct = true ∧ t0.periodic = false ∧ (owns ∨ ¬ taken) ∧ nearest k t0.nextE),
    decide (outer ∧ fires ∧ t0.pinAct = true ∧ t0.periodic = true ∧ fine t0.period > here - fine t0.nextE ∧ (owns ∨
        ¬ taken) ∧ nearest k t0.nextE ∧ nearest n (t0.nextE + t0.period)),
    decide (outer ∧ fires ∧ t0.pinAct = true ∧ ¬ owns ∧ taken),
    decide (outer ∧ fires ∧ t0.launchAct = true ∧ d0.rd (F.TEU_STATUS_LAUNCH_DENIED u) = 0 ∧
        freed < d0.txWaiting t0.port t0.cls),
    decide (outer ∧ fires ∧ t0.launchAct = true ∧ d0.rd (F.TEU_STATUS_LAUNCH_DENIED u) = 0 ∧
        d0.txWaiting t0.port t0.cls ≤ freed),
    decide (outer ∧ fires ∧ (t0.launchAct = false ∨ d0.rd (F.TEU_STATUS_LAUNCH_DENIED u) = 1)),
    decide (outer ∧ (d0.teu u).pinUntil = some r ∧ r ≤ d0.time.raw),
    decide outer]

theorem witness_TimedEvent :
    ((List.range 12).zip [1, 5, 0, 1, 33, 186, 6, 5, 2, 1, 1, 0]).all (fun (k, n) =>
      ((timedEventHyps (s2 n) 3 (BitVec.ofNat 2 n) (BitVec.ofNat 3 n) (n * n * 7000)
          ((s2 n).chip.dev.edgeIn ((s2 n).chip.dev.teu 3).base ((s2 n).chip.dev.teu 3).nextE)
          ((s2 n).chip.dev.edgeIn ((s2 n).chip.dev.teu 3).base (((s2 n).chip.dev.teu 3).nextE + ((s2 n).chip.dev.teu 3).period)))[k]?).getD false) = true :=
          by
  decide +kernel

end Sys2Proof.Test.TimeBase
end

