-- ==== Sys2Proof/Tests/WitnessTwin.lean ====
section
/-! SUPPORT. Witnesses for the statements of the claims' part start: for every clause a state and operands that meet its
hypotheses together. -/

namespace Sys2Proof.Test.Twins
open Sys2Proof.Machine Sys2Proof.Claim

-- one theorem at a time: side by side their evaluations take too much memory
set_option Elab.async false
set_option synthInstance.maxHeartbeats 2000000
set_option synthInstance.maxSize 100000
set_option maxRecDepth 20000

def fs13 : List Fld := [F.TWIN_STATUS_INHIBIT, F.TWIN_STATUS_FIT, F.TWIN_STATUS_CONVERGED, F.TWIN_STATUS_QLINK_UP,
    F.TWIN_STATUS_ROLE_CLASH, F.TWIN_STATUS_BATON, F.TWIN_CFG_ROLE, F.TWIN_CFG_AUTO_JOIN, F.MEDPLL_STATUS_LOCK,
    F.TIME_STATUS_MEDIA_VALID, F.TIME_STATUS_STATE, F.TWIN_EVENTS_UNFIT_EV, F.TWIN_EVENTS_BATON_FAULT]
/-- A small state that varies with `n`. -/
def sB (n : Nat) : State :=
  let r := fun k => rnd (rnd (n * 97 + k))
  let d := (rst fs13 (n * 31 + 5)).wrs [(F.TWIN_CFG_MODE, if r 1 % 8<2 then 0 else 1),
      (F.TWIN_STATUS_STATE, [1, 2, 3, 4, 5, 2, 3, 1].getD (r 2 % 8) 0), (F.TWIN_STATUS_PERMIT, r 3 % 2),
      (F.MOD_STATUS_PERMIT, r 3 % 2), (F.TWIN_STATUS_BATON, if r 4 % 3 == 0 then 1 else 0),
      (F.LAM_VER_CUR_VERSION, r 5 % 3), (F.TWIN_VERSION_PARTNER, r 6 % 3), (F.TWIN_CNT_COUNT 0, 7),
      (F.TWIN_CNT_COUNT 1, 2 ^ 32-1), (F.MOD_GRP_CARRIER_DIV 0, 2048), (F.TWIN_CONVERGE_TICKS, 64),
      (F.TWIN_STATUS_JOIN_STATE, r 7 % 5), (F.TWIN_PROOF_CFG_EN 1, 1), (F.TWIN_PROOF_CFG_EN 2, 1),
      (F.TWIN_PROOF_CFG_GANG 1, 3), (F.MEDPLL_STATUS_LOCK, bit (r 8 % 4 != 0)),
      (F.TWIN_STATUS_INHIBIT, bit (r 9 % 4 == 0)), (F.TWIN_STATUS_ROLE_CLASH, bit (r 10 % 4 == 0)),
      (F.TWIN_STATUS_FIT, r 11 % 2)]
  let t := { d.time with running := true, raw := 777777777, mediaCount := 6 * (1000 + n) }
  let d := { d with time := t, tick := 100 }
  let fr : List Nat := (List.range 25).map fun j => if j == 0 then 2 ^ 24 + 3 * 2 ^ 20 * (r 12 % 2)+ 2 ^ 22
      else if j == 12 then 0x33333333 else r (50 + j) % 2 ^ 32
  let st : List (Nat × List Nat) := if r 13 % 3 == 0 then [] else [(999 + n, fr)]
  let tw := { Twin.init with
    confirmed := r 14 % 2 == 0,
    force := r 15 % 2 == 0,
    since := if r 16 % 3 == 0 then none else (some (90 + r 17 % 10, 12345)),
    hbIn := r 18 % 2 == 0,
    edges := ([[], [5], [100, 200], [100, 3000], [100, 5000], [90, 200]] : List (List Nat)).getD (r 19 % 6) [],
    arrived := ([[], [5000], [5000, 6000, 7000], [6100]] : List (List Nat)).getD (r 20 % 4) [],
    deadline := if r 21 % 2 == 0 then none else some 5500,
    misses := r 22 % 3,
    claim := 88 + r 23 % 8,
    seq := 65535,
    partner := if r 24 % 4 == 0 then none else some (fr, 94 + r 25 % 5),
    goodRun := 12 + r 26 % 8,
    blockLock := n % 3 != 0,
    states := st,
    own := [(999 + n, [none, some (r 28 % 32, if r 36 % 4 == 0 then none else some (r (55) % 2 ^ 32)), some (3, some 9)])],
    due := if r 37 % 5 == 0 then [] else [4500, 5600, 6050, 6200],
    holderVer := if r 38 % 4 == 0 then none else some (if r 38 % 4 == 1 then 9 else r 5 % 3),
    proofs := [none, some (r 28 % 32), some 3],
    run := 60 + r 29 % 8,
    layerAt := if r 30 % 2 == 0 then none else some 0x4000,
    joinFrom := 34 + r 31 % 4,
    pages := if r 39 % 3 == 0 then [(4096, 4096)] else [(0x5000, 2048)],
    handover := if r 32 % 3 == 0 then none else some (1000 + n-2 + r 33 % 4),
    hbOut := .high,
    released := r 34 % 2 == 0,
    out := [[0x02000000, 1], [0x03000000, 1, 2], [0x03000000, 3, 7]] }
  let jt := { d.sys.jtag with ir := if r 35 % 8 == 0 then .highz else .idcode }
  let lm := { d.sys.lam with cur := if r 40 % 2 == 0 then none else some ⟨0x3000, 1, 12, 5⟩ }
  { State.reset with chip := ⟨{ d with sys := { d.sys with twin := tw, jtag := jt, lam := lm } }, ⟨[(5, 7#8)], []⟩⟩ }
def ws13 (n : Nat) : List Word :=
  let r := fun k => rnd (rnd (n * 89 + k))
  let b : List Nat := match (if 250 < n then 1 else r 1 % 4) with
   | 0 => (List.range 24).map fun j => if j == 0 then 2 ^ 24 + 2 ^ 20 * (r 2 % 16) else r (50 + j) % 2 ^ 32
   | 1 => [0x03000000, 1 + r 2 % 6]
   | 2 => [0x02000000, 2 ^ 31 * (r 2 % 2)+ r 3 % 2 ^ 26, 8, r 4 % 2 ^ 32, r 5 % 2 ^ 32]
   | _ => [0x02000000, 2 ^ 31 * (r 2 % 2)+ r 3 % 2 ^ 20 * 4, 12, r 4 % 2 ^ 32, r 5 % 2 ^ 32, r 6 % 2 ^ 32]
  let c := crcWords b
  (b ++ [if r 9 % 8 == 0 then c + 1 else c]).map (BitVec.ofNat 32)

/-- The hypotheses of the clauses of `Baton`, each once. -/
def batonHyps (s : State) (_e : Nat) : List Bool :=
  let outer := Live s
  let d0 := s.chip.dev
  let uncut := d0.cut = false
  let t0 := d0.sys.twin
  let st := d0.rd F.TWIN_STATUS_STATE
  let twin := d0.rd F.TWIN_CFG_MODE = 1
  let solo := d0.rd F.TWIN_CFG_MODE = 0
  let holds := d0.rd F.TWIN_STATUS_PERMIT = 1
  let free := d0.rd F.TWIN_STATUS_PERMIT = 0
  let high := d0.rd F.TWIN_STATUS_BATON = 1
  let low := d0.rd F.TWIN_STATUS_BATON = 0
  let lock := d0.rd F.MEDPLL_STATUS_LOCK = 1
  let own := d0.rd F.LAM_VER_CUR_VERSION
  let agree := t0.partner = none ∨ own = d0.rd F.TWIN_VERSION_PARTNER
  let across := twin ∧ (st = 3 ∨ st = 4 ∨ st = 5) ∧ (t0.holderVer.any fun v => v != own) = true
  let waited := t0.since.isSome = true ∧
    (t0.since.getD (0, 0)).1 + (if d0.rd F.TWIN_CFG_ROLE = 0 then 2 else 16) ≤ d0.tick
  [decide (outer ∧ uncut),
    decide (outer ∧ uncut ∧ twin ∧ free ∧ ((st = 3 ∨ st = 5))),
    decide (outer ∧ uncut ∧ twin ∧ free ∧ st = 1 ∧ t0.force = true ∧ agree),
    decide (outer ∧ holds),
    decide (outer ∧ ¬ uncut),
    decide (outer ∧ uncut ∧ twin ∧ st = 2),
    decide (outer ∧ (¬ (twin ∧ st = 2))),
    decide (outer ∧ twin ∧ st = 1 ∧ high ∧ waited ∧ lock ∧ d0.rd F.TIME_STATUS_MEDIA_VALID = 1 ∧ own ≠ 0 ∧
        d0.rd F.TWIN_STATUS_INHIBIT = 0 ∧ d0.rd F.TWIN_STATUS_ROLE_CLASH = 0),
    decide (outer ∧ ((low ∨ ¬ waited ∨ d0.rd F.TWIN_STATUS_INHIBIT = 1 ∨ d0.rd F.TWIN_STATUS_ROLE_CLASH = 1 ∨
        own = 0))),
    decide (outer ∧ twin ∧ st = 5 ∧ t0.claim + 8 ≤ d0.tick),
    decide (outer ∧ d0.tick < t0.claim + 8),
    decide (outer ∧ twin ∧ st = 2 ∧ t0.hbIn = true ∧ d0.cut = false),
    decide (outer ∧ ((t0.hbIn = false ∨ d0.cut = true))),
    decide (outer ∧ twin ∧ holds),
    decide (outer ∧ solo ∧ holds),
    decide (outer ∧ free),
    decide (outer ∧ twin ∧ st ≠ 2 ∧ high ∧ agree ∧ ¬ across ∧ t0.confirmed = true),
    decide (outer ∧ twin ∧ st ≠ 2 ∧ high ∧ agree ∧ ¬ across ∧ t0.confirmed = false),
    decide (outer ∧ twin ∧ st ≠ 2 ∧ ((low ∨ ¬ agree ∨ across))),
    decide (outer ∧ solo ∧ free ∧ lock ∧ t0.released = true),
    decide (outer ∧ solo ∧ free ∧ ¬ lock),
    decide (outer ∧ twin ∧ st = 2)]

theorem witness_Baton :
    ((List.range 22).zip [0, 21, 26, 2, 3, 2, 0, 72, 0, 10, 1, 2, 0, 2, 18, 0, 70, 33, 1, 22, 7, 2]).all (fun (k, n) =>
      ((batonHyps (sB n) (5000 + n % 7 * 300))[k]?).getD false) = true := by
  decide +kernel

/-- The hypotheses of the clauses of `Heartbeat`, each once. -/
def heartbeatHyps (s : State) (e : Nat) (_l : Bool) (p : List Nat) (at_ : Nat) : List Bool :=
  let outer := Live s
  let d0 := s.chip.dev
  let t0 := d0.sys.twin
  let st := d0.rd F.TWIN_STATUS_STATE
  let twin := d0.rd F.TWIN_CFG_MODE = 1
  let hit := t0.arrived.any (fun a => decide (a ≤ e) && decide (t0.deadline.all fun q => decide (q < a))) = true
  let n := if hit then 0 else t0.misses + 1
  let period := d0.rd (F.MOD_GRP_CARRIER_DIV 0)
  let close := fun (a b : Nat) => decide (a ≤ b ∧ 2 * (b - a) ≤ 3 * period)
  let dual := 2 ≤ t0.edges.length ∧ close (t0.edges.reverse.getD 1 0) (t0.edges.reverse.getD 0 0) = true ∧
    close (t0.edges.reverse.getD 0 0) e = true
  let clash := d0.rd F.TWIN_STATUS_ROLE_CLASH = 1
  let forced := t0.force = true ∧ (t0.partner = none ∨ d0.rd F.LAM_VER_CUR_VERSION = d0.rd F.TWIN_VERSION_PARTNER) ∧
    (t0.holderVer = none ∨ t0.holderVer = some (d0.rd F.LAM_VER_CUR_VERSION))
  let due := e ∈ t0.due
  let ready := t0.partner = some (p, at_) ∧ bitAt (p.getD 0 0) 21 = true ∧ bitAt (p.getD 0 0) 20 = true
  [decide (outer ∧ twin ∧ d0.cut = false ∧ (¬ (st = 2 ∧ dual))),
    decide (outer ∧ twin ∧ d0.cut = false ∧ st = 2 ∧ dual ∧ ((d0.rd F.TWIN_CFG_ROLE = 1 ∨
        d0.rd F.TWIN_STATUS_ROLE_CLASH = 1))),
    decide (outer ∧ twin ∧ d0.cut = false ∧ st = 2 ∧ dual ∧ d0.rd F.TWIN_CFG_ROLE = 0 ∧
        d0.rd F.TWIN_STATUS_ROLE_CLASH = 0),
    decide (outer ∧ ((¬ twin ∨ d0.cut = true))),
    decide (outer ∧ twin ∧ ((st = 3 ∨ st = 4 ∨ st = 5)) ∧ due ∧ hit),
    decide (outer ∧ twin ∧ st = 3 ∧ due ∧ ¬ hit ∧ ((n < 2 ∨ d0.rd F.TWIN_STATUS_BATON = 1))),
    decide (outer ∧ twin ∧ st = 3 ∧ due ∧ ¬ hit ∧ 2 ≤ n ∧ d0.rd F.TWIN_STATUS_BATON = 0 ∧ d0.unfitCause = 0),
    decide (outer ∧ twin ∧ st = 4 ∧ due ∧ ¬ hit ∧ ((d0.unfitCause = 0 ∧ ¬ clash ∨ forced))),
    decide (outer ∧ twin ∧ st = 4 ∧ due ∧ ¬ hit ∧ ((d0.unfitCause ≠ 0 ∨ clash)) ∧ ¬ forced),
    decide (outer ∧ (¬ (twin ∧ (st = 3 ∨ st = 4 ∨ st = 5) ∧ due))),
    decide (outer ∧ twin ∧ st = 2 ∧ d0.rd F.TWIN_STATUS_QLINK_UP = 1 ∧ ready),
    decide (outer ∧ ((¬ twin ∨ st ≠ 2 ∨ d0.rd F.TWIN_STATUS_QLINK_UP = 0 ∨ t0.partner = none ∨
        (t0.partner = some (p, at_) ∧ (p.getD 0 0 / 2 ^ 21 % 2 = 0 ∨ p.getD 0 0 / 2 ^ 20 % 2 = 0))))),
    decide (outer ∧ twin ∧ st = 2 ∧ t0.handover = some at_ ∧ (d0.mediaTick + 2 ^ 32 - at_) % 2 ^ 32 < 2 ^ 31),
    decide (outer ∧ t0.handover = none)]

theorem witness_Heartbeat :
    ((List.range 14).zip [1, 48, 46, 0, 6, 4, 20, 13, 17, 0, 16, 0, 12, 2]).all (fun (k, n) =>
      ((heartbeatHyps (sB n) ([4500, 5600, 6050, 6200].getD (n % 4) 0) (n % 2 == 0)
          (match (sB n).chip.dev.sys.twin.partner with | some p => p.1 | none => []) (match n / 4 % 2 with
        | 0 => ((sB n).chip.dev.sys.twin.partner.getD ([], 0)).2
        | _ => (sB n).chip.dev.sys.twin.handover.getD 0))[k]?).getD false) = true := by
  decide +kernel

/-- The hypotheses of the clauses of `QLink`, each once. -/
def qLinkHyps (s : State) (ws : List Word) (lost : Bool) (i : Fin 8) (_g : Fin 8) (k : Fin 32) (fr : List Nat)
    (own : Nat) : List Bool :=
  let outer := Live s
  let d0 := s.chip.dev
  let t0 := d0.sys.twin
  let st := d0.rd F.TWIN_STATUS_STATE
  let js := d0.rd F.TWIN_STATUS_JOIN_STATE
  let twin := d0.rd F.TWIN_CFG_MODE = 1
  let standby := twin ∧ (st = 3 ∨ st = 4 ∨ st = 5)
  let v : Nat → Nat := fun j => (ws.map BitVec.toNat).getD j 0
  let crcOk := 2 ≤ ws.length ∧ v (ws.length - 1) = crcWords (ws.map (·.toNat)).dropLast
  let type : Nat := v 0 / 2 ^ 24 % 256
  let isState := crcOk ∧ ws.length = 25 ∧ type = 1
  let isJoin := crcOk ∧ ws.length = 3 ∧ type = 3
  let len : Nat := v 2
  let kind : Nat := v 1 / 2 ^ 31 % 2
  let isData := crcOk ∧ type = 2 ∧ len % 4 = 0 ∧ 4 ≤ len ∧ len ≤ 1024 ∧ ws.length = 4 + len / 4
  let adr : Nat := v 1 % 2 ^ 26
  let holder : Nat := v 0 / 2 ^ 22 % 2
  let agree := t0.partner = none ∨ d0.rd F.LAM_VER_CUR_VERSION = d0.rd F.TWIN_VERSION_PARTNER
  let prev := (d0.mediaTick + 2 ^ 32 - 1) % 2 ^ 32
  let old := t0.partner.all (fun p => decide (p.2 + 4 ≤ d0.tick)) = true
  let proved := standby ∧ (d0.ownProof i prev).isSome = true
  let held := t0.states.find? (·.1 == prev) = some (prev, fr)
  let both := held ∧ d0.ownProof i prev = some (k.val, some own) ∧ stateGang fr k = 3
  [decide (outer ∧ twin),
    decide (outer ∧ twin ∧ isState ∧ holder = 0),
    decide (outer ∧ standby ∧ isState ∧ holder = 1),
    decide (outer ∧ twin ∧ st = 1 ∧ isState ∧ holder = 1 ∧ d0.rd F.TWIN_CFG_AUTO_JOIN = 0),
    decide (outer ∧ twin ∧ st = 2 ∧ isState ∧ holder = 1 ∧ d0.rd F.TWIN_CFG_ROLE = 1),
    decide (outer ∧ twin ∧ ¬ crcOk),
    decide (outer ∧ ¬ twin),
    decide (outer ∧ standby ∧ isData ∧ js = 2 + kind ∧ d0.inPages adr len = true ∧ d0.inImage adr len = false ∧
        i.val < len),
    decide (outer ∧ standby ∧ isData ∧ ((js ≠ 2 + kind ∨ d0.inPages adr len = false ∨ d0.inImage adr len = true))),
    decide (outer ∧ ¬ standby ∧ crcOk),
    decide (outer ∧ twin ∧ st = 2 ∧ isJoin ∧ v 1 = 1 ∧ agree ∧ t0.pages = [(own, 1024 * (k.val + 1))]),
    decide (outer ∧ twin ∧ st = 2 ∧ isJoin ∧ v 1 = 1 ∧ ¬ agree ∧ d0.sys.lam.cur.isSome = true ∧ t0.pages = [(own,
        1024 * (k.val + 1))]),
    decide (outer ∧ standby ∧ isJoin ∧ v 1 = 2 ∧ js = 1),
    decide (outer ∧ standby ∧ isJoin ∧ v 1 = 3 ∧ ((js = 1 ∨ js = 2)) ∧ t0.layerAt = none),
    decide (outer ∧ standby ∧ isJoin ∧ v 1 = 4 ∧ js = 3),
    decide (outer ∧ twin ∧ isJoin ∧ v 1 = 5),
    decide (outer ∧ twin ∧ d0.rd F.TWIN_STATUS_QLINK_UP = 0 ∧ t0.blockLock = true ∧ 16 ≤ t0.goodRun),
    decide (outer ∧ (t0.goodRun < 16 ∨ t0.blockLock = false)),
    decide (outer ∧ twin ∧ ((lost = true ∨ old)) ∧ d0.rd F.TWIN_STATUS_QLINK_UP = 1),
    decide (outer ∧ lost = false ∧ ¬ old),
    decide (outer ∧ standby ∧ held ∧ ((d0.ownProof i prev = some (k.val, none) ∨ d0.ownProof i prev = some (k.val,
        some own) ∧ stateGang fr k ≠ 3))),
    decide (outer ∧ proved ∧ t0.states.find? (·.1 == prev) = none),
    decide (outer ∧ proved ∧ both ∧ own = fr.getD (4 + i.val) 0),
    decide (outer ∧ proved ∧ both ∧ own ≠ fr.getD (4 + i.val) 0),
    decide (outer ∧ ¬ proved),
    decide (outer ∧ standby),
    decide (outer ∧ ¬ standby),
    decide (outer ∧ js = 4 ∧ t0.joinFrom + d0.rd F.TWIN_CONVERGE_TICKS ≤ d0.tick ∧ 64 ≤ t0.run),
    decide (outer ∧ js = 4 ∧ t0.joinFrom + d0.rd F.TWIN_CONVERGE_TICKS ≤ d0.tick ∧ t0.run < 64),
    decide (outer ∧ ((js ≠ 4 ∨ d0.tick < t0.joinFrom + d0.rd F.TWIN_CONVERGE_TICKS)))]

theorem witness_QLink :
    ((List.range 30).zip [1, 8, 17, 33, 2, 12, 0, 6, 4, 0, 248, 787, 324, 359, 285, 3, 8, 0, 1, 7, 45, 20, 9, 4, 0,
        4, 0, 13, 18, 0]).all (fun (k, n) =>
      ((qLinkHyps (sB n) (ws13 n) (n % 2 == 0) (Fin.ofNat 8 (n / 2 % 3)) (Fin.ofNat 8 (n % 8))
          (Fin.ofNat 32 (if (ws13 n).length == 3 then 1
          else (((sB n).chip.dev.sys.twin.proofs.getD (n / 2 % 3) none).getD 0)))
          (match (sB n).chip.dev.sys.twin.states with | x :: _ => x.2 | [] => []) (if (ws13 n).length == 3 then
          0x5000 else ((((((sB n).chip.dev.sys.twin.own.getD 0 (0, [])).2.getD (n / 2 % 3) none).getD (0,
          none)).2).getD 0)))[k]?).getD false) = true := by
  decide +kernel

end Sys2Proof.Test.Twins
end

section
/-! SUPPORT. A list of register writes: what a field reads after it, and that it changes no other state. -/

namespace Sys2Proof.Machine

variable (d : Dev)

theorem bit_lt_two (b : Bool) : bit b < 2 := by cases b <;> decide

/-- A field that a list of writes does not name keeps its value. -/
theorem Dev.rd_wrs_other {f : Fld} {l : List (Fld × Nat)} (h : f.id ∉ l.map fun p => p.1.id) :
    (d.wrs l).rd f = d.rd f := by
  induction l generalizing d with
  | nil => rfl
  | cons q l ih =>
    obtain ⟨hq, hl⟩ := not_or.mp (List.mem_cons.not.mp h)
    rw [Dev.wrs_cons, ih _ hl, Dev.rd_wr_other d _ hq]

/-- A field that a list of writes names once reads the value written, cut to the field's width. -/
theorem Dev.rd_wrs_mem {p : Fld × Nat} {l : List (Fld × Nat)} (hn : (l.map fun p => p.1.id).Nodup) (hp : p ∈ l) :
    (d.wrs l).rd p.1 = p.2 % 2 ^ p.1.width := by
  induction l generalizing d with
  | nil => exact absurd hp List.not_mem_nil
  | cons q l ih =>
    obtain ⟨hq, hl⟩ := List.nodup_cons.mp hn
    rw [Dev.wrs_cons]
    rcases List.mem_cons.mp hp with rfl | hp
    · rw [Dev.rd_wrs_other _ hq, Dev.rd_wr_same]
    · exact ih _ hl hp

/-- A list of writes changes register fields alone. -/
theorem Dev.wrs_eq (l : List (Fld × Nat)) : d.wrs l = { d with regs := (d.wrs l).regs } := by
  induction l generalizing d with
  | nil => rfl
  | cons q l ih => rw [Dev.wrs_cons, ih]; rfl

end Sys2Proof.Machine

namespace Sys2Proof.Claim

open Sys2Proof.Machine

/-- A list of writes, each of a field of its own and of a value that fits it, sets those fields and no other. -/
theorem sets_wrs (d : Dev) (l : List (Fld × Nat)) (hn : (l.map fun p => p.1.id).Nodup)
    (hw : ∀ p ∈ l, p.2 < 2 ^ p.1.width) : Sets d (d.wrs l) l [] :=
  ⟨fun p hp => by rw [Dev.rd_wrs_mem d hn hp, Nat.mod_eq_of_lt (hw p hp)], fun _ hf _ => Dev.rd_wrs_other d hf⟩

end Sys2Proof.Claim
end

section
/-! SUPPORT. The events of RESET_N and the supplies, each by the condition it acts under (R430, R431, R434). -/

namespace Sys2Proof.Machine

variable (s : State) (role boot hqMode bypass : Bool)

/-- A pulse of RESET_N that lasts 50 ns is a reset with the pin low (R431). -/
theorem Chip.resetAssert_long (c : Chip) {ns : Nat} (h : 50 ≤ ns) :
    c.resetAssert ns = Chip.hardReset { c with dev := { c.dev with resetN := false } } := if_neg (Nat.not_lt.mpr h)

theorem Chip.resetAssert_short (c : Chip) {ns : Nat} (h : ns < 50) : c.resetAssert ns = c := if_pos h

theorem Dev.resetRise_before_time (d : Dev) (h : d.resetN = false ∨ d.time.running = false) :
    d.resetRise role boot hqMode bypass = Dev.strap { d with resetN := true } role boot hqMode bypass :=
  if_neg <| by rcases h with h | h <;> simp [h]

theorem Dev.resetRise_running (d : Dev) (hr : d.resetN = true) (ht : d.time.running = true) :
    d.resetRise role boot hqMode bypass = d := if_pos <| by simp [hr, ht]

theorem exec_resetNAssert (lowNs : Nat) :
    exec (.resetNAssert lowNs) s = .next { s with chip := s.chip.resetAssert lowNs } := rfl

theorem exec_supplyFail : exec .supplyFail s = .next { s with chip := s.chip.supplyFail } := rfl

theorem exec_supplyRestored : exec .supplyRestored s = .next { s with chip := s.chip.onDev Dev.supplyBack } := rfl

theorem exec_resetNRise_supplied (h : s.chip.dev.supplyOk = true) :
    exec (.resetNRise role boot hqMode bypass) s =
      .next { s with chip := s.chip.onDev fun d => d.resetRise role boot hqMode bypass } := by
  change execResetNRise role boot hqMode bypass s = _
  rw [execResetNRise, if_pos h]

theorem exec_resetNRise_unsupplied (h : s.chip.dev.supplyOk = false) :
    exec (.resetNRise role boot hqMode bypass) s =
      .next { s with chip := s.chip.onDev fun d => { d with resetN := true } } := by
  change execResetNRise role boot hqMode bypass s = _
  rw [execResetNRise, if_neg (by simp [h])]

/-- The fields in which the straps show: SYS.STRAPS, CMD4 and TWIN.CFG (R360, R407, R434). -/
def strapWrites : List (Fld × Nat) :=
  [(F.SYS_STRAPS_ROLE, bit role), (F.SYS_STRAPS_BOOT, bit boot), (F.SYS_STRAPS_HQ_MODE, bit hqMode),
    (F.SYS_STRAPS_XTAL_BYPASS, bit bypass), (F.SYS_HQ_CFG_CMD4, bit hqMode), (F.TWIN_CFG_ROLE, bit role)]

theorem Dev.strap_eq_wrs (d : Dev) : d.strap role boot hqMode bypass = d.wrs (strapWrites role boot hqMode bypass) := rfl

theorem strapWrites_nodup : ((strapWrites role boot hqMode bypass).map fun p => p.1.id).Nodup := by
  change [F.SYS_STRAPS_ROLE.id, F.SYS_STRAPS_BOOT.id, F.SYS_STRAPS_HQ_MODE.id, F.SYS_STRAPS_XTAL_BYPASS.id,
    F.SYS_HQ_CFG_CMD4.id, F.TWIN_CFG_ROLE.id].Nodup
  decide

theorem strapWrites_fit : ∀ p ∈ strapWrites role boot hqMode bypass, p.2 < 2 ^ p.1.width := by
  intro p hp
  simp only [strapWrites, List.mem_cons, List.not_mem_nil, or_false] at hp
  rcases hp with rfl | rfl | rfl | rfl | rfl | rfl <;> exact bit_lt_two _

end Sys2Proof.Machine

namespace Sys2Proof.Claim

open Sys2Proof.Machine

/-- A rise that samples the straps: RESET_N reads high, the straps show in their fields, and nothing else moves. -/
theorem resetNRise_samples (s : State) (role boot hqMode bypass : Bool) (hs : s.chip.dev.supplyOk = true)
    (h : s.chip.dev.resetN = false ∨ s.chip.dev.time.running = false) :
    Moves (.resetNRise role boot hqMode bypass) s fun d d' =>
      d'.resetN = true ∧ Sets d d' (strapWrites role boot hqMode bypass) [] ∧
        { d' with regs := d.regs, resetN := d.resetN } = d := by
  let high : Dev := { s.chip.dev with resetN := true }
  let l := strapWrites role boot hqMode bypass
  refine ⟨high.wrs l, ?next, ?pin, ?straps, ?frame⟩
  case next =>
    rw [exec_resetNRise_supplied s role boot hqMode bypass hs, Chip.onDev,
      Dev.resetRise_before_time role boot hqMode bypass s.chip.dev h, Dev.strap_eq_wrs]
  case pin => rw [Dev.wrs_eq]
  case straps =>
    exact sets_wrs high l (strapWrites_nodup role boot hqMode bypass) (strapWrites_fit role boot hqMode bypass)
  case frame => rw [Dev.wrs_eq]

/-- Settles O34: each event by the condition it acts under, the rise that samples the straps by the list of writes
that the straps are. -/
theorem resetPin : Obligations.ResetPin := by
  intro s lowNs role boot hqMode bypass
  refine ⟨fun h => ?long, fun h => ?short, ?fail, ?restored, fun hs h => ?samples, fun hs hr ht => ?running,
    fun hs => ?unsupplied⟩
  case long => exact ⟨_, exec_resetNAssert s lowNs, by rw [Chip.resetAssert_long _ h]; exact ⟨rfl, rfl⟩⟩
  case short => exact ⟨_, exec_resetNAssert s lowNs, Chip.resetAssert_short _ h⟩
  case fail => exact ⟨_, exec_supplyFail s, rfl, rfl⟩
  case restored => exact ⟨_, exec_supplyRestored s, rfl⟩
  case samples => exact resetNRise_samples s role boot hqMode bypass hs h
  case running =>
    exact ⟨_, exec_resetNRise_supplied s role boot hqMode bypass hs, Dev.resetRise_running role boot hqMode bypass _ hr ht⟩
  case unsupplied => exact ⟨_, exec_resetNRise_unsupplied s role boot hqMode bypass hs, rfl⟩

end Sys2Proof.Claim
end

section
/-! SUPPORT. The state after reset: what a register field reads there, and the fields that the spec's rules name. -/

namespace Sys2Proof.Machine

/-- The reset value of a field of a register that the tables list, by the register's fields (R9). -/
theorem fieldReset_of_regFields {f : Fld} {fs : List FieldD} (hl : f.lo < 32) (h : regFields f.reg = some fs) :
    fieldReset f.id = ((fs.find? fun g => g.lo == f.lo).map FieldD.reset).getD 0 := by
  have hreg : f.id / 32 = f.reg := by unfold Fld.id; omega
  have hlo : f.id % 32 = f.lo := by unfold Fld.id; omega
  simp only [fieldReset, hreg, h, hlo]
  cases fs.find? fun g => g.lo == f.lo <;> rfl

/-- After reset every register field reads its reset value (R9, R431). -/
@[simp] theorem Dev.rd_reset (f : Fld) : Dev.reset.rd f = fieldReset f.id := rfl

/-- Q[n].CFG is the first register of the queue manager's table (R210). -/
theorem regFields_Q_CFG {n : Nat} (h : n < 4096) :
    regFields (F.Q_CFG n) = some
      [⟨0, 1, .ro, 0⟩, ⟨1, 2, .ro, 0⟩, ⟨3, 2, .ro, 0⟩, ⟨5, 1, .rw, 0⟩, ⟨16, 16, .ro, 0⟩] := by
  have hb : blockRegs (F.Q_CFG n) = qmRegs := by
    unfold F.Q_CFG blockRegs
    rw [if_neg (by omega), if_neg (by omega), if_neg (by omega), if_pos (by omega)]
  have hc (fs : List FieldD) : RegD.covers ⟨0x200000, [(0x10, 4096)], fs⟩ (F.Q_CFG n) = true := by
    simp [RegD.covers, dimsHit, F.Q_CFG, h]
  have hr : ¬(0x218000 ≤ F.Q_CFG n ∧ F.Q_CFG n < 0x230000 ∧ isEndpoint ((F.Q_CFG n - 0x218000) / 4) = false) := by
    unfold F.Q_CFG; omega
  have hp : ¬(0x20000300 ≤ F.Q_CFG n ∧ F.Q_CFG n < 0x200003c0 ∧ isPad ((F.Q_CFG n - 0x20000300) / 4) = false) := by
    unfold F.Q_CFG; omega
  rw [regFields, if_neg hr, if_neg hp, hb]
  exact congrArg (Option.map _) (List.find?_cons_of_pos (p := fun r : RegD => r.covers (F.Q_CFG n)) (hc _))

/-- Every queue is disabled after reset (R197). -/
theorem Dev.reset_Q_CFG_EN {n : Nat} (h : n < 4096) : Dev.reset.rd (F.Q_CFG_EN n) = 0 := by
  rw [Dev.rd_reset, fieldReset_of_regFields (by decide : (0 : Nat) < 32) (regFields_Q_CFG h)]
  rfl

/-- No chip holds drive permission after reset (R342, R375), so that none of its power pins is driven. -/
theorem Dev.reset_drivesPh (g : Nat) : Dev.reset.drivesPh g = false := by
  have h : Dev.reset.on F.TWIN_STATUS_PERMIT = false := by decide
  simp [Dev.drivesPh, h]

end Sys2Proof.Machine

namespace Sys2Proof.Claim

open Sys2Proof.Machine

theorem framesNamed_reset : FramesNamed State.reset :=
  ⟨fun _ => trivial, fun _ _ h => absurd h List.not_mem_nil, fun _ h => absurd h List.not_mem_nil⟩

/-- After reset the chip is in solo mode, no invalidation is pending, and Laminate neither verifies nor drains. -/
theorem statusTrue_reset : StatusTrue State.reset := by
  have mode : Dev.reset.rd F.TWIN_CFG_MODE ≠ 1 := by decide
  have inv : Dev.reset.on F.MMU_INV_BUSY = false := by decide
  have busy : Dev.reset.on F.LAM_STATUS_BUSY = false := by decide
  exact ⟨fun h => absurd h mode, iff_of_false (Bool.eq_false_iff.mp inv) fun h => h rfl,
    fun h => absurd h (Bool.eq_false_iff.mp busy), fun h => absurd rfl h⟩

/-- Settles O56: the state after reset lists no register, no byte, no queue, no context and no unit in reset, so that
each reads its default; the fields with values of their own are read from the register tables. -/
theorem afterReset : Obligations.AfterReset :=
  ⟨rfl, rfl, fun _ => rfl, Dev.rd_reset, fun q => Dev.reset_Q_CFG_EN q.isLt, fun _ => rfl,
    fun g => Dev.reset_drivesPh g, rfl, fun _ _ => rfl, by decide, by decide, by decide, framesNamed_reset,
    statusTrue_reset⟩

end Sys2Proof.Claim
end

section
/-! SUPPORT. Two statements that the model refutes: a tick boundary's route bindings, quantified past the route table,
and the loopback errors of a carrier cycle start that hands the drive over. -/

namespace Sys2Proof.Machine

/-- A register field is read by its key alone. -/
theorem Dev.rd_congr (d : Dev) {f g : Fld} (h : f.id = g.id) : d.rd f = d.rd g := by rw [Dev.rd, Dev.rd, h]

/-- The end of a command changes no register field. -/
@[simp] theorem Chip.rd_settleCells (c : Chip) (f : Fld) : c.settleCells.dev.rd f = c.dev.rd f := by
  obtain ⟨-, -, hdev, -⟩ := c.settleCells_spec
  exact congrArg (·.rd f) hdev

theorem exec_tickBoundary (s : State) (h : s.awake = true) :
    exec .tickBoundary s = .next { s with chip := s.chip.tickBoundary.settleCells } := by
  change s.run _ = _
  rw [State.run_next, h, if_pos rfl]

theorem exec_routeApply (s : State) (h : s.awake = true) :
    exec .routeApply s = .next { s with chip := (s.chip.onDev Dev.routeApply).settleCells } := by
  change s.run (fun c => c.onDev Dev.routeApply) = _
  rw [State.run_next, h, if_pos rfl]

theorem exec_carrierCycleStart (s : State) (g : Fin 8) (bits : List Bool) (late : Bool) (edge : Nat) (errs : List Nat)
    (h : s.awake = true) (hc : s.chip.dev.cut = false) (he : errs.length ≤ 8) :
    exec (.carrierCycleStart g bits late edge errs) s =
      .next { s with chip := (s.chip.onDev fun d => d.carrierStart g bits late edge errs).settleCells } := by
  have hp : s.chip.dev.pinBits bits = (bits, s.chip.dev) := by simp [Dev.pinBits, hc]
  change s.checked (decide (errs.length ≤ 8)) (s.run _) = _
  rw [decide_eq_true he, State.checked_true, State.run_next, h, if_pos rfl]
  simp only [Chip.onDev, hp]

end Sys2Proof.Machine

namespace Sys2Proof.Claim

open Sys2Proof.Machine

/-- What a command is claimed to do, its answer does. -/
theorem Turns.of_exec {i : Instr} {s t : State} {p : Chip → Chip → Prop} (h : Turns i s p) (ht : exec i s = .next t) :
    p s.chip t.chip := by
  obtain ⟨c, hc, hp⟩ := h
  obtain rfl := Host.Outcome.next.inj (hc.symm.trans ht)
  exact hp

theorem Moves.of_exec {i : Instr} {s t : State} {p : Dev → Dev → Prop} (h : Moves i s p) (ht : exec i s = .next t) :
    p s.chip.dev t.chip.dev := by
  obtain ⟨d, hd, hp⟩ := h
  obtain rfl := Host.Outcome.next.inj (hd.symm.trans ht)
  exact hp

/-! ### The tick boundary -/

/-- A standby of a pair that has heard no holder yet, in all else as after reset. -/
def unheardStandby : State :=
  ⟨⟨Dev.reset.wrs [(F.TWIN_CFG_MODE, 1), (F.TWIN_STATUS_STATE, tStandby)], ⟨[], []⟩⟩, []⟩

/-- The same as its next boundary has begun, where the bindings are judged (R307). -/
def unheardAtTick : State := { unheardStandby with chip := unheardStandby.chip.onDev Dev.tickStart }

/-- A number that is no endpoint of R304, whose ROUTE[e] would stand at TWIN.STATUS. -/
def pastRoutes : Nat := (F.TWIN_STATUS - F.ROUTE_E 0) / 4

/-- There the refusal bit of a route entry and the cause of unfitness are one field (R305, R382). -/
theorem routeDenied_pastRoutes (d : Dev) : d.rd (F.ROUTE_E_DENIED pastRoutes) = d.rd F.TWIN_STATUS_UNFIT_CAUSE :=
  d.rd_congr rfl

/-- The boundary judges the standby's fitness, whose first condition fails (R382). -/
theorem tickBoundary_standby_unfit : unheardStandby.chip.tickBoundary.dev.rd F.TWIN_STATUS_UNFIT_CAUSE = 1 := by
  decide +kernel

/-- The judgement of the bindings alone does not. -/
theorem routeApply_standby_unfit : unheardAtTick.chip.dev.routeApply.rd F.TWIN_STATUS_UNFIT_CAUSE = 0 := by
  decide +kernel

/-- Refutes O8: the clause on the bindings that are due ranges over every number e, not over the endpoints of R304. At
one whose ROUTE[e] is the address of TWIN.STATUS, ROUTE[e].DENIED is the lowest bit of UNFIT_CAUSE, which the boundary
of a standby sets and ROUTE_APPLY does not. -/
theorem not_tickBoundary : ¬ Obligations.TickBoundary := by
  intro h
  obtain ⟨-, -, hbind, -⟩ := h unheardStandby 0 0 0 pastRoutes ⟨[], none, none, 0, false, 0⟩ 0 ⟨rfl, rfl, rfl⟩
  have hcalm : unheardAtTick.chip.dev.switchDue = false ∧ unheardAtTick.chip.dev.realignEnds = false ∧
      unheardStandby.chip.dev.sys.lam.drain = none ∧ unheardStandby.chip.dev.net.draining = false := by decide +kernel
  have hroute := (hbind hcalm).of_exec (exec_routeApply unheardAtTick (by decide +kernel))
  obtain ⟨-, -, -, hdenied⟩ := hroute.of_exec (exec_tickBoundary unheardStandby rfl)
  rw [routeDenied_pastRoutes, routeDenied_pastRoutes, Chip.rd_settleCells, Chip.rd_settleCells,
    tickBoundary_standby_unfit] at hdenied
  exact absurd (hdenied.trans routeApply_standby_unfit) (by decide)

/-! ### The carrier cycle start -/

/-- The active chip of a pair whose announced handover is due (R387), with one proof channel on (R384). -/
def handingOver : State :=
  ⟨⟨(Dev.reset.wrs [(F.TWIN_CFG_MODE, 1), (F.TWIN_STATUS_STATE, tActive), (F.TWIN_STATUS_PERMIT, 1),
      (F.TWIN_PROOF_CFG_EN 0, 1)]).modTwin fun t => { t with handover := some 0 }, ⟨[], []⟩⟩, []⟩

/-- The cycle start makes the chip a standby before it counts the loopback errors (R385, R387). -/
theorem carrierStart_handingOver_counts :
    (handingOver.chip.dev.carrierStart (0 : Fin 8) [] false 0 [1]).rd (F.TWIN_PROOF_LOOP_ERR_COUNT 0) = 1 := by
  decide +kernel

/-- Refutes O12: an active chip that hands the drive over as a cycle of group 0 starts becomes a standby within the
command and counts its loopback errors, while the statement has every chip that was no standby before count none. -/
theorem not_carrier : ¬ Obligations.Carrier := by
  intro h
  obtain ⟨-, -, hstart, -⟩ := h handingOver 0 [] false 0 [1] ⟨rfl, rfl, rfl⟩ rfl
  have hmoves := (hstart (by decide)).of_exec (exec_carrierCycleStart handingOver 0 [] false 0 [1] rfl rfl (by decide))
  obtain ⟨-, -, -, -, -, -, -, -, -, -, hcount, -⟩ := hmoves
  have hactive : handingOver.chip.dev.isStandby = false := by decide +kernel
  have hsame := hcount hactive 0 (by decide)
  rw [Chip.rd_settleCells, Chip.onDev_dev, carrierStart_handingOver_counts] at hsame
  exact absurd hsame (by decide +kernel)

end Sys2Proof.Claim
end

section
/-! SUPPORT. Register writes in sequence: what a list of writes sets, what follows it without moving it, and a command
of the device that comes to no more than register writes on some change of the hidden state. -/

namespace Sys2Proof.Claim

open Sys2Proof.Machine

variable {d e e' : Dev} {l m : List (Fld × Nat)} {may may' : List Fld}

theorem RegsOnly.trans (h : RegsOnly d e) (h' : RegsOnly e e') : RegsOnly d e' :=
  Eq.trans (congrArg (fun x : Dev => { x with regs := d.regs }) h') h

theorem RegsOnly.clk (h : RegsOnly d e) : e.clk = d.clk := (congrArg Dev.clk h :)

theorem RegsOnly.time (h : RegsOnly d e) : e.time = d.time := (congrArg Dev.time h :)

theorem RegsOnly.pool (h : RegsOnly d e) : e.pool = d.pool := (congrArg Dev.pool h :)

theorem regsOnly_wrs (d : Dev) (l : List (Fld × Nat)) : RegsOnly d (d.wrs l) := by
  rw [Dev.wrs_eq]; rfl

theorem Writes.refl (d : Dev) : Writes d d [] [] := ⟨⟨fun _ h => absurd h List.not_mem_nil, fun _ _ _ => rfl⟩, rfl⟩

/-- Writes after writes: what the later ones may move is none of the fields set before. -/
theorem Writes.trans (h : Writes d e l may) (h' : Writes e e' m may')
    (hd : ∀ i ∈ l.map (fun p => p.1.id), i ∉ m.map (fun p => p.1.id) ++ may'.map Fld.id) :
    Writes d e' (l ++ m) (may ++ may') := by
  obtain ⟨⟨hv, hf⟩, hr⟩ := h
  obtain ⟨⟨hv', hf'⟩, hr'⟩ := h'
  refine ⟨⟨fun p hp => ?value, fun f hl hm => ?frame⟩, hr.trans hr'⟩
  case value =>
    rcases List.mem_append.mp hp with hp | hp
    · have hout := hd _ (List.mem_map_of_mem hp)
      rw [List.mem_append, not_or] at hout
      rw [hf' _ hout.1 hout.2, hv p hp]
    · exact hv' p hp
  case frame =>
    simp only [List.map_append, List.mem_append, not_or] at hl hm
    rw [hf' f hl.2 hm.2, hf f hl.1 hm.1]

theorem Writes.mono (h : Writes d e l may) (hs : ∀ i ∈ may.map Fld.id, i ∈ may'.map Fld.id) : Writes d e l may' :=
  ⟨⟨h.1.1, fun f hl hm => h.1.2 f hl fun hi => hm (hs _ hi)⟩, h.2⟩

/-- Less may be said of what moved. -/
theorem Sets.sub (h : Sets d e l may) (hl : m.Sublist l)
    (hs : ∀ i ∈ l.map (fun p => p.1.id) ++ may.map Fld.id, i ∈ m.map (fun p => p.1.id) ++ may'.map Fld.id) :
    Sets d e m may' := by
  refine ⟨fun p hp => h.1 p (hl.subset hp), fun f hm hmay => h.2 f (fun hi => ?_) fun hi => ?_⟩
  · exact (List.mem_append.mp (hs _ (List.mem_append_left _ hi))).elim hm hmay
  · exact (List.mem_append.mp (hs _ (List.mem_append_right _ hi))).elim hm hmay

theorem Writes.perm (h : Writes d e l may) (hp : l.Perm m) : Writes d e m may :=
  ⟨⟨fun p hm => h.1.1 p (hp.mem_iff.mpr hm), fun f hm => h.1.2 f fun hi => hm ((hp.map _).mem_iff.mp hi)⟩, h.2⟩

theorem Writes.same (d : Dev) (may : List Fld) : Writes d d [] may :=
  (Writes.refl d).mono fun _ hi => absurd hi List.not_mem_nil

/-- A list of writes, each of a field of its own and of a value that fits it. -/
theorem writes_wrs (d : Dev) (l : List (Fld × Nat)) (hn : (l.map fun p => p.1.id).Nodup)
    (hw : ∀ p ∈ l, p.2 < 2 ^ p.1.width) : Writes d (d.wrs l) l [] :=
  ⟨sets_wrs d l hn hw, regsOnly_wrs d l⟩

/-- One write, of a value that is cut to the field's width. -/
theorem writes_cut (d : Dev) (f : Fld) (v : Nat) : Writes d (d.wr f v) [(f, v % 2 ^ f.width)] [] := by
  refine ⟨⟨fun p hp => ?_, fun g hg _ => Dev.rd_wr_other d v (by simpa using hg)⟩, rfl⟩
  obtain rfl := List.mem_singleton.mp hp
  exact d.rd_wr_same f v

theorem writes_one (d : Dev) {f : Fld} {v : Nat} (h : v < 2 ^ f.width) : Writes d (d.wr f v) [(f, v)] [] := by
  simpa only [Nat.mod_eq_of_lt h] using writes_cut d f v

/-- A list of writes of whatever values moves no field that it does not name. -/
theorem writes_may (d : Dev) (l : List (Fld × Nat)) : Writes d (d.wrs l) [] (l.map Prod.fst) := by
  refine ⟨⟨fun _ h => absurd h List.not_mem_nil, fun f _ hm => Dev.rd_wrs_other d ?_⟩, regsOnly_wrs d l⟩
  rwa [List.map_map] at hm

theorem writes_wr (d : Dev) (f : Fld) (v : Nat) : Writes d (d.wr f v) [] [f] := writes_may d [(f, v)]

/-- An event bit that is set where `b` holds. -/
theorem writes_setWhen (d : Dev) (b : Bool) (f : Fld) : Writes d (d.when b (·.set f)) [] [f] := by
  cases b
  · exact Writes.same d [f]
  · exact writes_wr d f 1

theorem writes_setFit (d : Dev) (b : Bool) :
    Writes d (d.setFit b) [] [F.TWIN_EVENTS_FIT_EV, F.TWIN_EVENTS_UNFIT_EV, F.TWIN_STATUS_FIT] :=
  ((writes_setWhen d _ F.TWIN_EVENTS_FIT_EV).trans (writes_setWhen _ _ F.TWIN_EVENTS_UNFIT_EV) (by decide)).trans
    (writes_wr _ F.TWIN_STATUS_FIT (bit b)) (by decide)

/-- The evaluation of a standby's fitness moves its own fields alone (R382). -/
theorem writes_fitCheck (d : Dev) : Writes d d.fitCheck [] fitF := by
  unfold Dev.fitCheck
  split
  · exact ((writes_wr d F.TWIN_STATUS_UNFIT_CAUSE _).trans (writes_setFit _ _) (by decide)).mono (by decide)
  · exact Writes.same d fitF

theorem rd_fitCheck (d : Dev) {f : Fld} (h : f.id ∉ fitF.map Fld.id) : d.fitCheck.rd f = d.rd f :=
  (writes_fitCheck d).1.2 f List.not_mem_nil h

/-- The evaluation of fitness after writes of other fields. -/
theorem Writes.fit (h : Writes d e l may) (hd : ∀ i ∈ l.map (fun p => p.1.id), i ∉ fitF.map Fld.id) :
    Writes d e.fitCheck l (may ++ fitF) := by
  simpa using h.trans (writes_fitCheck e) (by simpa using hd)

/-- Writes are the same ones on a hidden state that has changed besides. -/
theorem Writes.hidden (h : Writes d e l may) (g : Dev → Dev)
    (hg : ∀ x r, g { x with regs := r } = { g x with regs := r }) : Writes (g d) (g e) l may := by
  have hregs : ∀ x, (g x).regs = x.regs := fun x => (congrArg Dev.regs (hg x x.regs) :)
  have hrd : ∀ x f, (g x).rd f = x.rd f := fun x f => by rw [Dev.rd, hregs, Dev.rd]
  obtain ⟨⟨hv, hf⟩, hr⟩ := h
  refine ⟨⟨fun p hp => by rw [hrd, hv p hp], fun f hl hm => by rw [hrd, hrd, hf f hl hm]⟩, ?_⟩
  rw [RegsOnly, hregs, ← hg]
  exact congrArg g hr

theorem Writes.modClk (h : Writes d e l may) (g : ClkSt → ClkSt) : Writes (d.modClk g) (e.modClk g) l may :=
  h.hidden (fun x => x.modClk g) fun _ _ => rfl

/-- Register writes on a device whose PLLs' hidden state has changed, or TIME's besides: nothing else has. -/
theorem RegsOnly.frameClk {k : ClkSt} (h : RegsOnly { d with clk := k } e) :
    { e with regs := d.regs, clk := d.clk } = d :=
  (congrArg (fun x : Dev => { x with clk := d.clk }) h :)

theorem RegsOnly.frameClkTime {k : ClkSt} {t : TimeSt} (h : RegsOnly { d with clk := k, time := t } e) :
    { e with regs := d.regs, clk := d.clk, time := d.time } = d :=
  (congrArg (fun x : Dev => { x with clk := d.clk, time := d.time }) h :)

/-- A command of the device that comes to register writes on a device `e`, in which the words that wait for their cells
are those from before. -/
theorem Moves.of_writes {i : Instr} {s : State} {f : Dev → Dev} {p : Dev → Dev → Prop} (hl : Live s)
    (he : exec i s = s.dev f) (hd : f s.chip.dev = e') (hw : Writes e e' l may) (ho : e.pool = s.chip.dev.pool)
    (hp : p s.chip.dev e') : Moves i s p := by
  subst hd
  obtain ⟨hreset, hsupply, hout⟩ := hl
  have hpool : (f s.chip.dev).pool.out = [] := by rw [hw.2.pool, ho, hout]
  have hcells : (s.chip.onDev f).settleCells = s.chip.onDev f := if_pos hpool
  refine ⟨_, ?_, hp⟩
  rw [he, State.dev, State.run_next, State.awake, hreset, hsupply, hcells]
  rfl

end Sys2Proof.Claim
end

section
/-! SUPPORT. The reference's validity: what each change of it is, by the condition it acts under (R35, R42, R49). -/

namespace Sys2Proof.Machine

variable (d : Dev)

theorem Dev.on_wr_other {f g : Fld} (v : Nat) (h : g.id ≠ f.id) : (d.wr f v).on g = d.on g := by
  rw [Dev.on, Dev.on, Dev.rd_wr_other d v h]

theorem Dev.on_modClk (h : ClkSt → ClkSt) (f : Fld) : (d.modClk h).on f = d.on f := rfl

theorem Dev.rd_of_on {f : Fld} (h : d.on f = true) : d.rd f = 1 := beq_iff_eq.mp h

/-- The writes of a return, and of a loss with no consequence (R35). -/
def returnWrites : List (Fld × Nat) := [(F.MEDPLL_STATUS_REF_VALID, 1), (F.MEDPLL_EVENTS_REF_RETURNED, 1)]
def dropWrites : List (Fld × Nat) := [(F.MEDPLL_STATUS_REF_VALID, 0), (F.MEDPLL_EVENTS_REF_LOST, 1)]

/-- The writes of a loss that falls back or coasts (R42, R49). -/
def Dev.lossWrites : List (Fld × Nat) :=
  [(F.MEDPLL_STATUS_REF_VALID, 0), (F.MEDPLL_EVENTS_REF_LOST, 1), (F.MEDPLL_STATUS_REF_JUMP_REFUSED, 0)] ++
    if d.on F.MEDPLL_CTL_FALLBACK = true then [] else [(F.MEDPLL_STATUS_COAST, 1)]

/-- The hidden state after it: what was refused or was to be measured is dropped, and a fall-back is pending (R42). -/
def Dev.lossClk : ClkSt :=
  { d.clk with refused := none, measure := false,
               pending := if d.on F.MEDPLL_CTL_FALLBACK = true then some (⟨0, 0, 0⟩, d.tick) else d.clk.pending,
               fallback := d.on F.MEDPLL_CTL_FALLBACK || d.clk.fallback }

/-- A known validity stands. -/
theorem Dev.setValid_same {b : Bool} (h : d.on F.MEDPLL_STATUS_REF_VALID = b) : d.setValid b = d :=
  if_pos <| by simp [h]

theorem Dev.setValid_return (h : d.on F.MEDPLL_STATUS_REF_VALID = false) : d.setValid true = d.wrs returnWrites := by
  rw [Dev.setValid, h]; rfl

/-- The SMR, or a reference in open mode, is lost with no consequence but the flags (R42). -/
theorem Dev.setValid_drop (h : d.on F.MEDPLL_STATUS_REF_VALID = true)
    (hs : d.clk.active.sel = 0 ∨ d.on F.MEDPLL_CTL_MODE = false) : d.setValid false = d.wrs dropWrites := by
  simp (disch := decide) [Dev.setValid, dropWrites, h, hs, Dev.set_eq, Dev.clr_eq, Dev.on_wr_other]

/-- An external reference in use is lost in closed mode. -/
theorem Dev.setValid_loss (h : d.on F.MEDPLL_STATUS_REF_VALID = true) (hs : d.clk.active.sel ≠ 0)
    (hm : d.on F.MEDPLL_CTL_MODE = true) : d.setValid false = Dev.wrs { d with clk := d.lossClk } d.lossWrites := by
  cases hback : d.on F.MEDPLL_CTL_FALLBACK <;>
    simp (disch := decide) [Dev.setValid, Dev.lossClk, Dev.lossWrites, h, hs, hm, hback, Dev.set_eq, Dev.clr_eq,
      Dev.on_wr_other, Dev.on_modClk] <;>
    rfl

/-- What a change of validity can do. -/
theorem Dev.setValid_cases (b : Bool) :
    (d.on F.MEDPLL_STATUS_REF_VALID = b ∧ d.setValid b = d) ∨ (b = true ∧ d.setValid b = d.wrs returnWrites) ∨
      (b = false ∧ d.setValid b = d.wrs dropWrites) ∨
      (b = false ∧ d.clk.active.sel ≠ 0 ∧ d.setValid b = Dev.wrs { d with clk := d.lossClk } d.lossWrites) := by
  by_cases h : d.on F.MEDPLL_STATUS_REF_VALID = b
  · exact .inl ⟨h, d.setValid_same h⟩
  refine .inr ?_
  cases b with
  | true => exact .inl ⟨rfl, d.setValid_return (by simpa using h)⟩
  | false =>
    have hv : d.on F.MEDPLL_STATUS_REF_VALID = true := by simpa using h
    by_cases hs : d.clk.active.sel = 0 ∨ d.on F.MEDPLL_CTL_MODE = false
    · exact .inr (.inl ⟨rfl, d.setValid_drop hv hs⟩)
    · obtain ⟨hs, hm⟩ := not_or.mp hs
      exact .inr (.inr ⟨rfl, hs, d.setValid_loss hv hs (by simpa using hm)⟩)

end Sys2Proof.Machine

namespace Sys2Proof.Claim

open Sys2Proof.Machine

variable (d : Dev)

theorem writes_lossWrites (k : ClkSt) :
    Writes { d with clk := k } (Dev.wrs { d with clk := k } d.lossWrites) d.lossWrites [] := by
  refine writes_wrs _ _ ?_ ?_ <;> unfold Dev.lossWrites <;> split <;> decide

/-- After a change of validity REF_VALID reads so. -/
theorem on_setValid (b : Bool) : (d.setValid b).on F.MEDPLL_STATUS_REF_VALID = b := by
  rcases d.setValid_cases b with ⟨h, hd⟩ | ⟨rfl, hd⟩ | ⟨rfl, hd⟩ | ⟨rfl, -, hd⟩ <;> rw [hd]
  · exact h
  · simp (disch := decide) [returnWrites, Dev.on, Dev.rd_wr_other]
  · simp (disch := decide) [dropWrites, Dev.on, Dev.rd_wr_other]
  · rw [Dev.on, (writes_lossWrites d d.lossClk).1.1 (F.MEDPLL_STATUS_REF_VALID, 0) List.mem_cons_self]; rfl

theorem writes_returnWrites : Writes d (d.wrs returnWrites) [] validF := (writes_may d returnWrites).mono (by decide)

theorem writes_dropWrites : Writes d (d.wrs dropWrites) [] validF := (writes_may d dropWrites).mono (by decide)

/-- In the SMR's use a change of validity moves its flags alone. -/
theorem writes_setValid_smr (b : Bool) (hs : d.clk.active.sel = 0) : Writes d (d.setValid b) [] validF := by
  rcases d.setValid_cases b with ⟨-, hd⟩ | ⟨-, hd⟩ | ⟨-, hd⟩ | ⟨-, hn, -⟩
  · rw [hd]; exact Writes.same d validF
  · rw [hd]; exact writes_returnWrites d
  · rw [hd]; exact writes_dropWrites d
  · exact absurd hs hn

/-- The fields that a change of validity may move: its own, that of a refused jump and that of coasting (R42, R49). -/
def lossF : List Fld := validF ++ [F.MEDPLL_STATUS_REF_JUMP_REFUSED, F.MEDPLL_STATUS_COAST]

theorem writes_setValid (b : Bool) : ∃ k, Writes { d with clk := k } (d.setValid b) [] lossF := by
  rcases d.setValid_cases b with ⟨-, hd⟩ | ⟨-, hd⟩ | ⟨-, hd⟩ | ⟨-, -, hd⟩
  · exact ⟨d.clk, by rw [hd]; exact Writes.same d lossF⟩
  · exact ⟨d.clk, by rw [hd]; exact (writes_returnWrites d).mono (by decide)⟩
  · exact ⟨d.clk, by rw [hd]; exact (writes_dropWrites d).mono (by decide)⟩
  · rw [hd]
    refine ⟨d.lossClk, (writes_may _ d.lossWrites).mono ?_⟩
    unfold Dev.lossWrites; split <;> decide

end Sys2Proof.Claim
end

section
/-! SUPPORT. SYSPLL, the tuning voltages and the die temperature (R30 to R33, R35, R45, R55). -/

namespace Sys2Proof.Claim

open Sys2Proof.Machine

variable (d : Dev)

/-- The SMR's validity follows SYSPLL's lock; with another reference in use nothing moves. -/
theorem writes_smrValid : Writes d d.smrValid [] validF := by
  unfold Dev.smrValid
  split
  case isTrue hs => exact writes_setValid_smr d _ hs
  case isFalse => exact Writes.same d validF

theorem on_smrValid (hs : d.clk.active.sel = 0) :
    d.smrValid.on F.MEDPLL_STATUS_REF_VALID = d.on F.SYSPLL_STATUS_LOCK := by
  rw [Dev.smrValid, if_pos hs, on_setValid]

/-- SYSPLL's selection of a band draws a free value and shows the band (R43). -/
theorem writes_sysBand : Writes d.fresh.2 d.sysBand [] sysBandF := writes_may d.fresh.2 [(_, _), (_, _), (_, _)]

/-- SYSPLL's lock before its flag: the first one starts RAW and selects a band (R30, R56). -/
def lockStart (d : Dev) : Dev :=
  d.when (!d.time.running) fun d => (d.modTime fun t => { t with running := true }).sysBand

theorem sysLock_eq : d.sysLock = ((lockStart d).set F.SYSPLL_STATUS_LOCK).smrValid := rfl

theorem writes_lockStart :
    ∃ n, Writes { d with time := { d.time with running := true }, freeCtr := n } (lockStart d) [] sysBandF := by
  cases hr : d.time.running
  · refine ⟨d.freeCtr + 1, ?_⟩
    have hd : lockStart d = (d.modTime fun t => { t with running := true }).sysBand := by rw [lockStart, hr]; rfl
    rw [hd]
    exact writes_sysBand (d.modTime fun t => { t with running := true })
  · refine ⟨d.freeCtr, ?_⟩
    have hd : lockStart d = d := by rw [lockStart, hr]; rfl
    have ht : ({ d.time with running := true } : TimeSt) = d.time := by rw [← hr]
    rw [hd, ht]
    exact Writes.same d sysBandF

theorem writes_sysLock : ∃ n, Writes { d with time := { d.time with running := true }, freeCtr := n } d.sysLock
    [(F.SYSPLL_STATUS_LOCK, 1)] (sysBandF ++ validF) := by
  obtain ⟨n, hstart⟩ := writes_lockStart d
  have hflag := hstart.trans (writes_one _ (f := F.SYSPLL_STATUS_LOCK) (by decide : 1 < 2 ^ 1)) (by decide)
  exact ⟨n, hflag.trans (writes_smrValid _) (by decide)⟩

/-- With SYSPLL locked the SMR is valid (R35). -/
theorem on_sysLock_valid (hs : d.clk.active.sel = 0) : d.sysLock.on F.MEDPLL_STATUS_REF_VALID = true := by
  obtain ⟨n, -, hstart⟩ := writes_lockStart d
  have hsel : (lockStart d).clk = d.clk := hstart.clk
  rw [sysLock_eq, on_smrValid _ (by rw [Dev.set_eq, Dev.wr_clk, hsel, hs])]
  simp [Dev.on, Dev.set_eq, F.SYSPLL_STATUS_LOCK]

/-- With the SMR in use and valid, SYSPLL's loss of lock takes its validity too (R30, R35). -/
theorem writes_sysLockLost (hl : d.on F.SYSPLL_STATUS_LOCK = true) (hs : d.clk.active.sel = 0)
    (hv : d.on F.MEDPLL_STATUS_REF_VALID = true) :
    Writes d d.sysLockLost ([(F.SYSPLL_STATUS_LOCK, 0), (F.SYSPLL_EVENTS_LOCK_LOST, 1)] ++ dropWrites) [] := by
  let c := (d.clr F.SYSPLL_STATUS_LOCK).set F.SYSPLL_EVENTS_LOCK_LOST
  have hlock : c.on F.SYSPLL_STATUS_LOCK = false := by
    simp (disch := decide) [c, Dev.on, Dev.set_eq, Dev.clr_eq, Dev.rd_wr_other]
  have hvalid : c.on F.MEDPLL_STATUS_REF_VALID = true := by
    simp (disch := decide) [c, Dev.set_eq, Dev.clr_eq, Dev.on_wr_other, hv]
  have hd : d.sysLockLost = c.wrs dropWrites := by
    have hlost : d.sysLockLost = c.smrValid := by rw [Dev.sysLockLost, hl]; rfl
    have hsel : c.clk.active.sel = 0 := hs
    rw [hlost, Dev.smrValid, if_pos hsel, hlock, c.setValid_drop hvalid (.inl hsel)]
  rw [hd]
  exact writes_wrs d ([(F.SYSPLL_STATUS_LOCK, 0), (F.SYSPLL_EVENTS_LOCK_LOST, 1)] ++ dropWrites) (by decide) (by decide)

theorem sysLockLost_unlocked (h : d.on F.SYSPLL_STATUS_LOCK = false) : d.sysLockLost = d := by
  rw [Dev.sysLockLost, h]; rfl

theorem sysRefLost_present (h : d.on F.SYSPLL_STATUS_REF_LOST = false) :
    d.sysRefLost = d.wrs [(F.SYSPLL_STATUS_REF_LOST, 1), (F.SYSPLL_EVENTS_REF_LOST_EV, 1)] := by
  rw [Dev.sysRefLost, h]; rfl

/-- The crystal's return closes the loop with a new selection of the band (R32). -/
theorem writes_sysReacquire (h : d.on F.SYSPLL_STATUS_REF_LOST = true) :
    Writes { d with freeCtr := d.freeCtr + 1 } d.sysReacquire
      [(F.SYSPLL_STATUS_REF_LOST, 0), (F.SYSPLL_EVENTS_REACQUIRED, 1)] sysBandF := by
  have hd : d.sysReacquire = ((d.clr F.SYSPLL_STATUS_REF_LOST).sysBand).set F.SYSPLL_EVENTS_REACQUIRED := by
    rw [Dev.sysReacquire, h]; rfl
  have hback : Writes { d with freeCtr := d.freeCtr + 1 } (d.clr F.SYSPLL_STATUS_REF_LOST).sysBand
      [(F.SYSPLL_STATUS_REF_LOST, 0)] sysBandF :=
    (writes_one _ (f := F.SYSPLL_STATUS_REF_LOST) (by decide : 0 < 2 ^ 1)).trans
      (writes_sysBand (d.clr F.SYSPLL_STATUS_REF_LOST)) (by decide)
  rw [hd]
  exact hback.trans (writes_one _ (f := F.SYSPLL_EVENTS_REACQUIRED) (by decide : 1 < 2 ^ 1)) (by decide)

/-- The comparison of a tuning voltage on the flags `lo` and `hi`, whose event is `ev` (R45). -/
def vtFlags (d : Dev) (lo hi ev : Fld) (low high : Bool) : Dev :=
  ((d.when (low != d.on lo || high != d.on hi) (·.set ev)).wr lo (bit low)).wr hi (bit high)

theorem vtChange_sys (low high : Bool) (h : d.time.running = true) :
    d.vtChange false low high =
      vtFlags d F.SYSPLL_STATUS_VT_LOW F.SYSPLL_STATUS_VT_HIGH F.SYSPLL_EVENTS_VT_EV low high := by
  rw [Dev.vtChange, h]; rfl

theorem vtChange_med (low high : Bool) (h : d.on F.MEDPLL_CTL_MODE = true) :
    d.vtChange true low high =
      vtFlags d F.MEDPLL_STATUS_VT_LOW F.MEDPLL_STATUS_VT_HIGH F.MEDPLL_EVENTS_VT_EV low high := by
  rw [Dev.vtChange, h]; rfl

variable {lo hi ev : Fld} {low high : Bool}

/-- The flags show the comparison, and nothing else but the event moves. -/
theorem writes_vtFlags (hn : lo.id ≠ hi.id) (hlo : lo.width = 1) (hhi : hi.width = 1) :
    Writes d (vtFlags d lo hi ev low high) [(lo, bit low), (hi, bit high)] [ev] := by
  have hfit : ∀ p ∈ [(lo, bit low), (hi, bit high)], p.2 < 2 ^ p.1.width := by
    simp only [List.forall_mem_cons, hlo, hhi]
    exact ⟨bit_lt_two low, bit_lt_two high, fun _ h => absurd h List.not_mem_nil⟩
  exact (writes_setWhen d _ ev).trans (writes_wrs _ [(lo, bit low), (hi, bit high)] (by simpa using hn) hfit)
    fun _ h => absurd h List.not_mem_nil

/-- A change of either flag sets the event. -/
theorem rd_vtFlags_event (hlo : ev.id ≠ lo.id) (hhi : ev.id ≠ hi.id) (hw : ev.width = 1)
    (h : low ≠ d.on lo ∨ high ≠ d.on hi) : (vtFlags d lo hi ev low high).rd ev = 1 := by
  have hmoved : (low != d.on lo || high != d.on hi) = true := by simpa using h
  rw [vtFlags, Dev.rd_wr_other _ _ hhi, Dev.rd_wr_other _ _ hlo, hmoved, Dev.when_true, Dev.set_eq, Dev.rd_wr_same, hw]
  rfl

/-- A tuning voltage's comparison, for both PLLs. -/
theorem moves_vtChange {s : State} {med : Bool} (hl : Live s) (hb : (low && high) = false)
    (hd : s.chip.dev.vtChange med low high = vtFlags s.chip.dev lo hi ev low high)
    (hn : lo.id ≠ hi.id ∧ ev.id ≠ lo.id ∧ ev.id ≠ hi.id) (hw : lo.width = 1 ∧ hi.width = 1 ∧ ev.width = 1) :
    Moves (.vtChange med low high) s fun d d' => Writes d d' [(lo, bit low), (hi, bit high)] [ev] ∧
      (low ≠ d.on lo ∨ high ≠ d.on hi → d'.rd ev = 1) := by
  obtain ⟨hlohi, hevlo, hevhi⟩ := hn
  obtain ⟨hlo, hhi, hev⟩ := hw
  have he : exec (.vtChange med low high) s = s.dev fun d => d.vtChange med low high := by
    change s.checked (!(low && high)) _ = _
    rw [hb]; rfl
  have hf := writes_vtFlags s.chip.dev (ev := ev) (low := low) (high := high) hlohi hlo hhi
  exact Moves.of_writes hl he hd hf rfl ⟨hf, rd_vtFlags_event s.chip.dev hevlo hevhi hev⟩

/-- Settles O1: each event comes to the writes of its flags, with the SMR's validity after SYSPLL's lock, and the
selection of a band where the loop is closed anew. -/
theorem sysPll : Obligations.SysPll := by
  intro s en low high t hl
  let d0 := s.chip.dev
  refine ⟨?lock, fun hk hs hv => ?lost, fun hk => ?unlocked, fun hr => ?refLost, fun hr => ?reacquire, ?spread, ?apply,
    fun hb hr => ?vtSys, fun hb hm => ?vtMed, ?temp⟩
  case lock =>
    obtain ⟨n, hw⟩ := writes_sysLock d0
    have hf := hw.fit (by decide)
    refine Moves.of_writes (f := fun d => d.sysLock.fitCheck) hl rfl rfl hf rfl
      ⟨hf.1, fun hs => ?valid, hf.2.time, ?frame⟩
    case valid => rw [rd_fitCheck _ (by decide), Dev.rd_of_on _ (on_sysLock_valid d0 hs)]
    case frame => exact (congrArg (fun x : Dev => { x with time := d0.time, freeCtr := d0.freeCtr }) hf.2 :)
  case lost =>
    have hf := (writes_sysLockLost d0 hk hs hv).fit (by decide)
    exact Moves.of_writes (f := fun d => d.sysLockLost.fitCheck) hl rfl rfl hf rfl hf
  case unlocked =>
    have hf := writes_fitCheck d0
    exact Moves.of_writes (f := fun d => d.sysLockLost.fitCheck) hl rfl
      (congrArg Dev.fitCheck (sysLockLost_unlocked d0 hk)) hf rfl hf
  case refLost =>
    have hw := writes_wrs d0 [(F.SYSPLL_STATUS_REF_LOST, 1), (F.SYSPLL_EVENTS_REF_LOST_EV, 1)] (by decide) (by decide)
    exact Moves.of_writes (f := Dev.sysRefLost) hl rfl (sysRefLost_present d0 hr) hw rfl hw
  case reacquire =>
    have hw := writes_sysReacquire d0 hr
    have hframe := (congrArg (fun x : Dev => { x with freeCtr := d0.freeCtr }) hw.2 :)
    exact Moves.of_writes (f := Dev.sysReacquire) hl rfl rfl hw rfl ⟨hw.1, hframe⟩
  case spread =>
    have hw := writes_one d0 (f := F.SYSPLL_SPREAD_EN) (bit_lt_two en)
    exact Moves.of_writes (f := fun d => d.wr F.SYSPLL_SPREAD_EN (bit en)) hl rfl rfl hw rfl hw
  case apply =>
    have hw := writes_cut d0 F.SYSPLL_SPREAD_ACTIVE (d0.rd F.SYSPLL_SPREAD_EN)
    exact Moves.of_writes (f := Dev.spreadApply) hl rfl rfl hw rfl hw
  case vtSys => exact moves_vtChange hl hb (vtChange_sys _ low high hr) (by decide) ⟨rfl, rfl, rfl⟩
  case vtMed => exact moves_vtChange hl hb (vtChange_med _ low high hm) (by decide) ⟨rfl, rfl, rfl⟩
  case temp =>
    have hw := writes_wrs d0 [(F.PLL_TEMP_TEMP, (t % 256).toNat), (F.PLL_TEMP_VALID, 1)]
      (by simp only [List.map]; decide) (List.forall_mem_cons.mpr ⟨by change _ < 256; omega, by decide⟩)
    exact Moves.of_writes (f := fun d => d.tempMeasured t) hl rfl rfl hw rfl hw

end Sys2Proof.Claim
end

section
/-! SUPPORT. RESIDUAL and its views, and a phase jump that is absorbed or refused (R47, R50, R51, R54, R472). -/

namespace Sys2Proof.Machine

theorem lowOf_eq (w : Nat) (i : Int) : lowOf w i = (i % 2 ^ w).toNat := by simp [lowOf]

theorem residualWord_eq (r : Int) : lowOf 32 (satTo 32 r) = Claim.residualWord r := by
  have hsat : satTo 32 r = max (-(2 ^ 31)) (min r (2 ^ 31 - 1)) := by
    simp only [satTo, clampInt]; split_ifs <;> omega
  rw [hsat, Claim.residualWord, lowOf_eq]

theorem outOf_word (r : Int) : outOf 32 r = decide (r < -(2 ^ 31) ∨ 2 ^ 31 ≤ r) := by
  simp only [outOf, decide_eq_decide]; omega

end Sys2Proof.Machine

namespace Sys2Proof.Claim

open Sys2Proof.Machine

variable {d e : Dev} {r : Int}

theorem residualWord_lt (r : Int) : residualWord r < 2 ^ 32 := by unfold residualWord; omega

/-- RESIDUAL's views follow it, with the flag of the clamp (R47, R50, R54). -/
theorem writes_showResidual (d : Dev) : Writes d d.showResidual [] residF :=
  writes_may d [(_, _), (_, _), (_, _), (_, _)]

theorem residualIs_showResidual (d : Dev) : ResidualIs d.showResidual d.time.residual := by
  have hword : residualWord d.time.residual % 2 ^ 32 = residualWord d.time.residual :=
    Nat.mod_eq_of_lt (residualWord_lt _)
  have hbit : ∀ b, bit b % 2 ^ 1 = bit b := fun b => Nat.mod_eq_of_lt (bit_lt_two b)
  rw [Dev.showResidual, residualWord_eq, outOf_word]
  refine ⟨rfl, ?_, ?_, ?_⟩
  · simp (disch := decide) only [Dev.rd_wr_other, Dev.rd_wr_same]; exact hword
  · simp (disch := decide) only [Dev.rd_wr_other, Dev.rd_wr_same]; exact hbit _
  · simp (disch := decide) only [Dev.rd_wr_other, Dev.rd_wr_same]; exact hbit _

theorem ResidualIs.fit (h : ResidualIs d r) : ResidualIs d.fitCheck r := by
  obtain ⟨htime, hword, hslew, hwide⟩ := h
  refine ⟨by rw [(writes_fitCheck d).2.time, htime], ?_, ?_, ?_⟩ <;> rwa [rd_fitCheck d (by decide)]

/-- A step that leaves RESIDUAL within 100 ms joins it and commands no realignment (R50, R53). -/
theorem writes_addResidual {s : Int} (h : (d.time.residual + s).natAbs ≤ 1600000000) :
    (∃ t, Writes { d with time := t } (d.addResidual s) [] residF) ∧
      ResidualIs (d.addResidual s) (d.time.residual + s) := by
  let c := d.modTime fun t => { t with residual := t.residual + s,
                                       slewRaw := if t.residual = 0 then t.raw else t.slewRaw }
  have hnear : c.residualFar = false := decide_eq_false (Nat.not_lt.mpr h)
  have hd : d.addResidual s = c.showResidual := by
    change c.showResidual.when c.residualFar _ = _
    rw [hnear]; rfl
  rw [hd]
  exact ⟨⟨c.time, writes_showResidual c⟩, residualIs_showResidual c⟩

/-- A phase error within JUMP_LIMIT is absorbed, a greater one refused with its event (R51, R472). -/
theorem phaseJump_within {o : Int} (h : o.natAbs ≤ 16 * d.rd F.TIME_JUMP_LIMIT_LIMIT) :
    d.phaseJump o = d.addResidual o := if_pos h

theorem writes_phaseJump_beyond {o : Int} (h : 16 * d.rd F.TIME_JUMP_LIMIT_LIMIT < o.natAbs) :
    Writes { d with clk := { d.clk with refused := some o } } (d.phaseJump o) [(F.MEDPLL_STATUS_REF_JUMP_REFUSED, 1)]
      [F.MEDPLL_EVENTS_JUMP_REFUSED_EV] := by
  rw [Dev.phaseJump, if_neg (Nat.not_le.mpr h)]
  exact (writes_setWhen (d.modClk fun k => { k with refused := some o }) _ F.MEDPLL_EVENTS_JUMP_REFUSED_EV).trans
    (writes_wrs _ [(F.MEDPLL_STATUS_REF_JUMP_REFUSED, 1)] (by decide) (by decide)) (by decide)

end Sys2Proof.Claim
end

section
/-! SUPPORT. MEDPLL's references and its lock (R35, R36, R41, R42, R49, R51, R364, R472). -/

namespace Sys2Proof.Claim

open Sys2Proof.Machine

variable (d : Dev)

theorem refUsable_wclk {k : RefChoice} (hs : k.sel = 1) : d.refUsable k = decide (k.rate ≤ 2) := by
  obtain ⟨sel, port, rate⟩ := k
  subst hs
  by_cases h : rate ≤ 2 <;> simp [Dev.refUsable, Dev.refRow, h]

/-- OFFSET_PPM shows the low 24 bits of the offset (assumption 154). -/
def measured (o : Int) : Dev := d.wr F.MEDPLL_REF_MEAS_OFFSET_PPM (o % 2 ^ 24).toNat

theorem refMeasured_eq (o : Int) : d.refMeasured o =
    if d.clk.active.sel = 0 then measured d o
    else if !(measured d o).refUsable d.clk.active ∨ 16000 < o.natAbs then (measured d o).setValid false
    else if o.natAbs ≤ 12800 then (measured d o).setValid true else measured d o := rfl

theorem writes_measured (o : Int) :
    Writes d (measured d o) [(F.MEDPLL_REF_MEAS_OFFSET_PPM, (o % 2 ^ 24).toNat)] [] :=
  writes_one d (by change _ < 2 ^ 24; omega)

theorem writes_measured_setValid (o : Int) (b : Bool) : ∃ k, Writes { d with clk := k } ((measured d o).setValid b)
    [(F.MEDPLL_REF_MEAS_OFFSET_PPM, (o % 2 ^ 24).toNat)] lossF := by
  obtain ⟨k, hk⟩ := writes_setValid (measured d o) b
  exact ⟨k, ((writes_measured d o).hidden (fun x => { x with clk := k }) fun _ _ => rfl).trans hk
    (by simp only [List.map]; decide)⟩

/-- A measurement shows the offset and may change the reference's validity with what that does. -/
theorem writes_refMeasured (o : Int) : ∃ k, Writes { d with clk := k } (d.refMeasured o)
    [(F.MEDPLL_REF_MEAS_OFFSET_PPM, (o % 2 ^ 24).toNat)] lossF := by
  have hshow : Writes d (measured d o) [(F.MEDPLL_REF_MEAS_OFFSET_PPM, (o % 2 ^ 24).toNat)] lossF :=
    (writes_measured d o).mono fun _ h => absurd h List.not_mem_nil
  rw [refMeasured_eq]
  split_ifs
  · exact ⟨d.clk, hshow⟩
  · exact writes_measured_setValid d o false
  · exact writes_measured_setValid d o true
  · exact ⟨d.clk, hshow⟩

/-- A word clock of a rate that R34 names is valid up to 200 ppm, and between 200 and 250 ppm as it was (R35). -/
theorem refMeasured_wclk {o : Int} (hs : d.clk.active.sel = 1) (hr : d.clk.active.rate < 3) (ho : o.natAbs ≤ 16000) :
    d.refMeasured o = if o.natAbs ≤ 12800 then (measured d o).setValid true else measured d o := by
  have husable : (measured d o).refUsable d.clk.active = true := by
    rw [refUsable_wclk _ hs]; exact decide_eq_true (by omega)
  rw [refMeasured_eq, if_neg (by omega), if_neg (by rw [husable]; simpa using ho)]

theorem refMeasured_wclk_bad {o : Int} (hs : d.clk.active.sel = 1) (h : 2 < d.clk.active.rate ∨ 16000 < o.natAbs) :
    d.refMeasured o = (measured d o).setValid false := by
  have hbad : (!(measured d o).refUsable d.clk.active) = true ∨ 16000 < o.natAbs := by
    rw [refUsable_wclk _ hs]; simpa using h
  rw [refMeasured_eq, if_neg (by omega), if_pos hbad]

/-- The loss of an external reference in use (R35, R42). -/
theorem refLost_loss (hs : d.clk.active.sel ≠ 0) (hv : d.on F.MEDPLL_STATUS_REF_VALID = true)
    (hm : d.on F.MEDPLL_CTL_MODE = true) : d.refLost = Dev.wrs { d with clk := d.lossClk } d.lossWrites := by
  rw [Dev.refLost, if_neg hs, d.setValid_loss hv hs hm]

/-- The device as the mark of a reference that returns is measured, coasting or not. -/
def marked (b : Bool) : Dev := (d.modClk fun k => { k with measure := false }).wr F.MEDPLL_STATUS_COAST (bit b)

/-- The first tick mark of a valid reference is measured once (R51). -/
theorem refReturn_marked (o : Int) (hk : d.clk.measure = true) (hm : d.on F.MEDPLL_CTL_MODE = true)
    (hv : d.on F.MEDPLL_STATUS_REF_VALID = true) : d.refReturn o =
      (marked d (!decide (o.natAbs ≤ 16 * d.rd F.TIME_JUMP_LIMIT_LIMIT) && d.clk.active.sel != 0)).phaseJump o := by
  rw [Dev.refReturn, hk, hm, hv]; rfl

theorem rd_marked_limit (b : Bool) : (marked d b).rd F.TIME_JUMP_LIMIT_LIMIT = d.rd F.TIME_JUMP_LIMIT_LIMIT :=
  Dev.rd_wr_other _ _ (by decide)

theorem writes_marked (b : Bool) :
    Writes { d with clk := { d.clk with measure := false } } (marked d b) [(F.MEDPLL_STATUS_COAST, bit b)] [] :=
  writes_one _ (bit_lt_two b)

/-- A phase within JUMP_LIMIT joins RESIDUAL, and coasting ends. -/
theorem writes_refReturn_within {o : Int} (hk : d.clk.measure = true) (hm : d.on F.MEDPLL_CTL_MODE = true)
    (hv : d.on F.MEDPLL_STATUS_REF_VALID = true) (ho : o.natAbs ≤ 16 * d.rd F.TIME_JUMP_LIMIT_LIMIT)
    (hr : (d.time.residual + o).natAbs ≤ 1600000000) :
    (∃ t, Writes { d with clk := { d.clk with measure := false }, time := t } (d.refReturn o)
      [(F.MEDPLL_STATUS_COAST, 0)] residF) ∧ ResidualIs (d.refReturn o) (d.time.residual + o) := by
  rw [refReturn_marked d o hk hm hv, decide_eq_true ho, Bool.not_true, Bool.false_and,
    phaseJump_within (by rwa [rd_marked_limit])]
  obtain ⟨⟨t, ht⟩, his⟩ := writes_addResidual (d := marked d false) hr
  exact ⟨⟨t, ((writes_marked d false).hidden (fun x => { x with time := t }) fun _ _ => rfl).trans ht (by decide)⟩, his⟩

/-- A greater one of an external reference is refused, and MEDPLL coasts. -/
theorem writes_refReturn_beyond {o : Int} (hk : d.clk.measure = true) (hm : d.on F.MEDPLL_CTL_MODE = true)
    (hv : d.on F.MEDPLL_STATUS_REF_VALID = true) (hs : d.clk.active.sel ≠ 0)
    (ho : 16 * d.rd F.TIME_JUMP_LIMIT_LIMIT < o.natAbs) :
    Writes { d with clk := { d.clk with measure := false, refused := some o } } (d.refReturn o)
      [(F.MEDPLL_STATUS_COAST, 1), (F.MEDPLL_STATUS_REF_JUMP_REFUSED, 1)] [F.MEDPLL_EVENTS_JUMP_REFUSED_EV] := by
  have hsel : (d.clk.active.sel != 0) = true := bne_iff_ne.mpr hs
  rw [refReturn_marked d o hk hm hv, decide_eq_false (Nat.not_le.mpr ho), hsel, Bool.not_false, Bool.true_and]
  have hjump := writes_phaseJump_beyond (d := marked d true) (by rwa [rd_marked_limit])
  exact ((writes_marked d true).modClk fun k => { k with refused := some o }).trans hjump (by decide)

/-- MEDPLL's hidden state at lock, and at its loss (R36, R40, R472). -/
def lockClk (k : ClkSt) : ClkSt :=
  { k with acq := if k.acq = .lock then .mark else k.acq, relock := false, relockMark := k.relock && k.acq = .none }
def unlockClk (k : ClkSt) : ClkSt :=
  { k with acq := if k.acq = .mark then .lock else k.acq, relock := k.acq = .none, relockMark := false }

theorem writes_medLock (hm : d.on F.MEDPLL_CTL_MODE = true) (hk : d.on F.MEDPLL_STATUS_LOCK = false) :
    Writes { d with clk := lockClk d.clk } d.medLock [(F.MEDPLL_STATUS_LOCK, 1), (F.MEDPLL_EVENTS_LOCKED, 1)] [] := by
  rw [Dev.medLock, hm, hk]
  exact writes_wrs _ [(F.MEDPLL_STATUS_LOCK, 1), (F.MEDPLL_EVENTS_LOCKED, 1)] (by decide) (by decide)

theorem writes_medLockLost (hm : d.on F.MEDPLL_CTL_MODE = true) (hk : d.on F.MEDPLL_STATUS_LOCK = true) :
    Writes { d with clk := unlockClk d.clk } d.medLockLost
      [(F.MEDPLL_STATUS_LOCK, 0), (F.MEDPLL_EVENTS_LOCK_LOST, 1)] [] := by
  rw [Dev.medLockLost, hm, hk]
  exact writes_wrs _ [(F.MEDPLL_STATUS_LOCK, 0), (F.MEDPLL_EVENTS_LOCK_LOST, 1)] (by decide) (by decide)

/-- A gain of permission moves its flags and the twin logic's hidden state (R342, R364, R375, R376). -/
theorem writes_gain (edge : Option Nat) : ∃ x, Writes { d with sys := x } (d.gain edge) [] gainF := by
  refine ⟨(d.gain edge).sys, ?_⟩
  have hcount : Writes d (((d.setPermit true).set F.TWIN_EVENTS_TOOK).twinCount 0) []
      [F.TWIN_STATUS_PERMIT, F.MOD_STATUS_PERMIT, F.TWIN_EVENTS_TOOK, F.TWIN_CNT_COUNT 0] :=
    (((writes_wr d F.TWIN_STATUS_PERMIT 1).trans (writes_wr _ F.MOD_STATUS_PERMIT 1) (by decide)).trans
      (writes_wr _ F.TWIN_EVENTS_TOOK 1) (by decide)).trans (writes_wr _ (F.TWIN_CNT_COUNT 0) _) (by decide)
  exact ((hcount.trans (writes_wr _ F.TWIN_TAKE_NS_NS (Dev.nowNs _)) (by decide)).mono (by decide)).hidden
    (fun x => { x with sys := (d.gain edge).sys }) fun _ _ => rfl

theorem writes_soloCheck : ∃ x, Writes { d with sys := x } d.soloCheck [] gainF := by
  unfold Dev.soloCheck
  split
  · exact writes_gain d none
  · exact ⟨d.sys, Writes.same d gainF⟩

/-- Lock, with the gain of permission by a single chip that it may bring (R36, R364). -/
theorem writes_medLock_soloCheck (hm : d.on F.MEDPLL_CTL_MODE = true) (hk : d.on F.MEDPLL_STATUS_LOCK = false) :
    ∃ x, Writes { d with clk := lockClk d.clk, sys := x } d.medLock.soloCheck
      [(F.MEDPLL_STATUS_LOCK, 1), (F.MEDPLL_EVENTS_LOCKED, 1)] gainF := by
  obtain ⟨x, hx⟩ := writes_soloCheck d.medLock
  exact ⟨x, ((writes_medLock d hm hk).hidden (fun e => { e with sys := x }) fun _ _ => rfl).trans hx (by decide)⟩

/-- The mark after a regained lock is measured once: a phase within JUMP_LIMIT joins RESIDUAL (R472). -/
theorem writes_lockReturn_within {o : Int} (hk : d.clk.relockMark = true)
    (ho : o.natAbs ≤ 16 * d.rd F.TIME_JUMP_LIMIT_LIMIT) (hr : (d.time.residual + o).natAbs ≤ 1600000000) :
    (∃ t, Writes { d with clk := { d.clk with relockMark := false }, time := t } (d.lockReturn o) [] residF) ∧
      ResidualIs (d.lockReturn o) (d.time.residual + o) := by
  let c := d.modClk fun k => { k with relockMark := false }
  have hd : d.lockReturn o = c.addResidual o := by
    rw [Dev.lockReturn, hk]; exact phaseJump_within (d := c) ho
  rw [hd]
  exact writes_addResidual (d := c) hr

/-- A greater one is refused. -/
theorem writes_lockReturn_beyond {o : Int} (hk : d.clk.relockMark = true)
    (ho : 16 * d.rd F.TIME_JUMP_LIMIT_LIMIT < o.natAbs) :
    Writes { d with clk := { d.clk with relockMark := false, refused := some o } } (d.lockReturn o)
      [(F.MEDPLL_STATUS_REF_JUMP_REFUSED, 1)] [F.MEDPLL_EVENTS_JUMP_REFUSED_EV] := by
  rw [Dev.lockReturn, hk]
  exact writes_phaseJump_beyond (d := d.modClk fun k => { k with relockMark := false }) ho

/-- Settles O2: each event comes to the writes of its flags on a changed hidden state, by what a change of validity and
a phase jump can do. -/
theorem medPll : Obligations.MedPll := by
  intro s o hl
  let d0 := s.chip.dev
  refine ⟨fun hc => ?measured, fun hc hs => ?cut, fun hs hv hm => ?lost, fun hk hm hv ho hr => ?within,
    fun hk hm hv hs ho => ?beyond, fun hm hk => ?lock, fun hm hk => ?lockLost, fun hk ho hr => ?markWithin,
    fun hk ho => ?markBeyond⟩
  case measured =>
    obtain ⟨k, hw⟩ := writes_refMeasured d0 o
    have hf := hw.fit (by simp only [List.map]; decide)
    refine Moves.of_writes (f := fun d => if d.cut && d.clk.active.sel != 0 then d else (d.refMeasured o).fitCheck) hl
      rfl (if_neg (by rw [hc]; exact Bool.false_ne_true)) hf rfl ⟨(hf.mono (by decide)).1, fun hs ho => ?far,
        fun hs hr => ?reserved, fun hs hr ho => ?near, fun hs hr ho ho' => ?between, hf.2.frameClk⟩
    case far =>
      rw [refMeasured_wclk_bad _ hs (.inr ho), rd_fitCheck _ (by decide)]
      exact beq_eq_false_iff_ne.mp (on_setValid _ false)
    case reserved =>
      rw [refMeasured_wclk_bad _ hs (.inl (by omega)), rd_fitCheck _ (by decide)]
      exact beq_eq_false_iff_ne.mp (on_setValid _ false)
    case near =>
      rw [refMeasured_wclk _ hs hr (by omega), if_pos ho, rd_fitCheck _ (by decide)]
      exact Dev.rd_of_on _ (on_setValid _ true)
    case between =>
      rw [refMeasured_wclk _ hs hr ho', if_neg (by omega), rd_fitCheck _ (by decide)]
      exact Dev.rd_wr_other _ _ (by decide)
  case cut =>
    have hw := Writes.refl d0
    exact Moves.of_writes (f := fun d => if d.cut && d.clk.active.sel != 0 then d else (d.refMeasured o).fitCheck) hl
      rfl (if_pos (by rw [hc]; simpa using hs)) hw rfl rfl
  case lost =>
    have hf := (writes_lossWrites d0 d0.lossClk).fit (by unfold Dev.lossWrites; split <;> decide)
    exact Moves.of_writes (f := fun d => d.refLost.fitCheck) hl rfl
      (congrArg Dev.fitCheck (refLost_loss d0 hs hv hm)) hf rfl ⟨hf.1, hf.2.clk, hf.2.frameClk⟩
  case within =>
    obtain ⟨⟨t, hw⟩, his⟩ := writes_refReturn_within d0 hk hm hv ho hr
    have hf := hw.fit (by decide)
    exact Moves.of_writes (f := fun d => (d.refReturn o).fitCheck) hl rfl rfl hf rfl
      ⟨hf.1, his.fit, hf.2.clk, hf.2.frameClkTime⟩
  case beyond =>
    have hf := (writes_refReturn_beyond d0 hk hm hv hs ho).fit (by decide)
    exact Moves.of_writes (f := fun d => (d.refReturn o).fitCheck) hl rfl rfl hf rfl ⟨hf.1, hf.2.clk, hf.2.frameClk⟩
  case lock =>
    obtain ⟨x, hw⟩ := writes_medLock_soloCheck d0 hm hk
    have hf := hw.fit (by decide)
    have hframe := (congrArg (fun e : Dev => { e with clk := d0.clk, sys := d0.sys }) hf.2 :)
    exact Moves.of_writes (f := fun d => d.medLock.soloCheck.fitCheck) hl rfl rfl hf rfl
      ⟨hf.1, congrArg ClkSt.acq hf.2.clk, hframe⟩
  case lockLost =>
    have hf := (writes_medLockLost d0 hm hk).fit (by decide)
    exact Moves.of_writes (f := fun d => d.medLockLost.fitCheck) hl rfl rfl hf rfl
      ⟨hf.1, congrArg ClkSt.acq hf.2.clk, hf.2.frameClk⟩
  case markWithin =>
    obtain ⟨⟨t, hw⟩, his⟩ := writes_lockReturn_within d0 hk ho hr
    have hf := hw.fit (by decide)
    exact Moves.of_writes (f := fun d => (d.lockReturn o).fitCheck) hl rfl rfl hf rfl
      ⟨hf.1, his.fit, hf.2.clk, hf.2.frameClkTime⟩
  case markBeyond =>
    have hf := (writes_lockReturn_beyond d0 hk ho).fit (by decide)
    exact Moves.of_writes (f := fun d => (d.lockReturn o).fitCheck) hl rfl rfl hf rfl ⟨hf.1, hf.2.clk, hf.2.frameClk⟩

end Sys2Proof.Claim
end

section
/-! SUPPORT. MEDPLL's control: mode and reference, the dividers and calibration (R38 to R43, R52, R71). -/

namespace Sys2Proof.Machine

theorem bitsAt_lt (n lo width : Nat) : bitsAt n lo width < 2 ^ width := Nat.mod_lt _ (Nat.two_pow_pos width)

/-- The reference that a write of MEDPLL.CTL names: REF_SEL 3 is written as 0 (R41). -/
def ctlRef (v : Nat) : RefChoice := ⟨if bitsAt v 1 2 = 3 then 0 else bitsAt v 1 2, bitsAt v 3 5, bitsAt v 8 2⟩

/-- The fields that every write of MEDPLL.CTL stores. -/
def choiceWrites (v : Nat) : List (Fld × Nat) :=
  [(F.MEDPLL_CTL_REF_SEL, (ctlRef v).sel), (F.MEDPLL_CTL_REF_PORT, bitsAt v 3 5),
    (F.MEDPLL_CTL_WCLK_RATE, bitsAt v 8 2), (F.MEDPLL_CTL_FALLBACK, bitsAt v 10 1),
    (F.MEDPLL_CTL_MCLK_EN, bitsAt v 11 1), (F.MEDPLL_CTL_MCLK_DIV, bitsAt v 12 1)]

/-- What a write of MEDPLL.CTL that is not refused stores. -/
def ctlWrites (v : Nat) : List (Fld × Nat) :=
  choiceWrites v ++ [(F.MEDPLL_CTL_OPEN_BAND, bitsAt v 13 5), (F.MEDPLL_CTL_MODE, bitsAt v 0 1)]

theorem ctlRef_sel_lt (v : Nat) : (ctlRef v).sel < 2 ^ 2 := by
  unfold ctlRef
  split
  · exact Nat.two_pow_pos 2
  · exact bitsAt_lt v 1 2

variable (d : Dev)

/-- Is a write of MEDPLL.CTL refused (R39)? -/
def Dev.ctlDenied (v : Nat) : Bool :=
  d.anyReleased && ((d.rd F.MEDPLL_CTL_MODE == 1 && bitsAt v 0 1 == 0) ||
    (d.rd F.MEDPLL_CTL_MODE == 0 && bitsAt v 13 5 != d.rd F.MEDPLL_CTL_OPEN_BAND))

/-- MEDPLL.CTL after the write: a refused one leaves MODE and OPEN_BAND. -/
def Dev.ctlTaken (v : Nat) : Dev :=
  if d.ctlDenied v then (d.wrs (choiceWrites v)).set F.MEDPLL_EVENTS_MODE_DENIED
  else ((d.wrs (choiceWrites v)).wr F.MEDPLL_CTL_MODE (bitsAt v 0 1)).wr F.MEDPLL_CTL_OPEN_BAND (bitsAt v 13 5)

theorem Dev.medCtlWrite_closing {v : Nat} (h0 : d.rd F.MEDPLL_CTL_MODE = 0)
    (h : (d.ctlTaken v).rd F.MEDPLL_CTL_MODE = 1) :
    d.medCtlWrite v = ((d.ctlTaken v).useRef (d.ctlTaken v).refAsked).acquire := if_pos ⟨h, h0⟩

theorem Dev.medCtlWrite_open {v : Nat} (h0 : d.rd F.MEDPLL_CTL_MODE = 0) (h : (d.ctlTaken v).rd F.MEDPLL_CTL_MODE = 0) :
    d.medCtlWrite v = (((d.ctlTaken v).wr F.MEDPLL_STATUS_BAND ((d.ctlTaken v).rd F.MEDPLL_CTL_OPEN_BAND)).wrs
      [(F.MEDPLL_STATUS_BAND_SEARCHED, 0), (F.MEDPLL_STATUS_BAND_ENTRY, 0)]).useRef (d.ctlTaken v).refAsked := by
  have hold : ¬d.rd F.MEDPLL_CTL_MODE = 1 := by omega
  have hnow : ¬(d.ctlTaken v).rd F.MEDPLL_CTL_MODE = 1 := by omega
  exact (if_neg (fun hc => hnow hc.1)).trans ((if_neg hnow).trans (by rw [if_neg hold]; rfl))

theorem Dev.medCtlWrite_closed {v : Nat} (h1 : d.rd F.MEDPLL_CTL_MODE = 1)
    (h : (d.ctlTaken v).rd F.MEDPLL_CTL_MODE = 1) :
    ∃ k, d.medCtlWrite v = { d.ctlTaken v with clk := k } := by
  have hold : ¬d.rd F.MEDPLL_CTL_MODE = 0 := by omega
  exact ⟨_, (if_neg (fun hc => hold hc.2)).trans (if_pos h)⟩

/-- The PLLs' hidden state as a reference comes into use, and as an acquisition starts (R36, R40, R41). -/
def useClk (r : RefChoice) (k : ClkSt) : ClkSt := { k with active := r, pending := none, fallback := false }
def acquireClk (k : ClkSt) : ClkSt :=
  { k with acq := .lock, relock := false, relockMark := false, refused := none, measure := false }

end Sys2Proof.Machine

namespace Sys2Proof.Claim

open Sys2Proof.Machine

variable (d : Dev)

/-- A reference that comes into use shows in REF_ACTIVE and may change its validity (R35, R41). -/
theorem writes_useRef (r : RefChoice) :
    Writes { d with clk := useClk r d.clk } (d.useRef r) [(F.MEDPLL_STATUS_REF_ACTIVE, r.sel % 4)] validF := by
  let c := (d.modClk (useClk r)).wr F.MEDPLL_STATUS_REF_ACTIVE r.sel
  have hshow : Writes { d with clk := useClk r d.clk } c [(F.MEDPLL_STATUS_REF_ACTIVE, r.sel % 4)] [] :=
    writes_cut _ F.MEDPLL_STATUS_REF_ACTIVE r.sel
  have hvalid : Writes c (d.useRef r) [] validF := by
    by_cases hs : r.sel = 0
    · rw [show d.useRef r = c.setValid (c.on F.SYSPLL_STATUS_LOCK) from if_pos hs]
      exact writes_setValid_smr c _ hs
    · rw [show d.useRef r = if r == d.clk.active then c else c.clr F.MEDPLL_STATUS_REF_VALID from if_neg hs]
      split
      · exact Writes.same c validF
      · exact (writes_wr c F.MEDPLL_STATUS_REF_VALID 0).mono (by decide)
  exact hshow.trans hvalid (by simp only [List.map]; decide)

/-- An acquisition shows its band and lets LOCK, COAST and REF_JUMP_REFUSED fall (R36, R40, R43). -/
theorem writes_acquire : Writes { d with freeCtr := d.freeCtr + 1, clk := acquireClk d.clk } d.acquire
    [(F.MEDPLL_STATUS_LOCK, 0), (F.MEDPLL_STATUS_COAST, 0), (F.MEDPLL_STATUS_REF_JUMP_REFUSED, 0)] medBandF := by
  let b := d.fresh.2.bandOf true d.fresh.1
  have hband := writes_may d.fresh.2 [(F.MEDPLL_STATUS_BAND, b.1), (F.MEDPLL_STATUS_BAND_SEARCHED, bit b.2.1),
    (F.MEDPLL_STATUS_BAND_ENTRY, b.2.2)]
  have hfall := hband.trans (writes_wrs _ [(F.MEDPLL_STATUS_LOCK, 0), (F.MEDPLL_STATUS_COAST, 0),
    (F.MEDPLL_STATUS_REF_JUMP_REFUSED, 0)] (by decide) (by decide)) fun _ hi => absurd hi List.not_mem_nil
  exact hfall.modClk acquireClk

theorem writes_choice (v : Nat) : Writes d (d.wrs (choiceWrites v)) (choiceWrites v) [] := by
  refine writes_wrs d (choiceWrites v) (by simp only [choiceWrites, List.map]; decide) ?_
  simp only [choiceWrites, List.forall_mem_cons]
  exact ⟨ctlRef_sel_lt v, bitsAt_lt v 3 5, bitsAt_lt v 8 2, bitsAt_lt v 10 1, bitsAt_lt v 11 1, bitsAt_lt v 12 1,
    fun _ h => absurd h List.not_mem_nil⟩

theorem writes_ctlTaken {v : Nat} (h : d.ctlDenied v = false) : Writes d (d.ctlTaken v) (ctlWrites v) [] := by
  rw [Dev.ctlTaken, h]
  have hmode := (writes_one (d.wrs (choiceWrites v)) (f := F.MEDPLL_CTL_MODE) (bitsAt_lt v 0 1)).trans
    (writes_one _ (f := F.MEDPLL_CTL_OPEN_BAND) (bitsAt_lt v 13 5)) (by simp only [List.map]; decide)
  exact (writes_choice d v).trans (hmode.perm (List.Perm.swap _ _ []))
    (by simp only [choiceWrites, List.map]; decide)

theorem writes_ctlTaken_denied {v : Nat} (h : d.ctlDenied v = true) :
    Writes d (d.ctlTaken v) (choiceWrites v ++ [(F.MEDPLL_EVENTS_MODE_DENIED, 1)]) [] := by
  rw [Dev.ctlTaken, h]
  exact (writes_choice d v).trans (writes_one _ (f := F.MEDPLL_EVENTS_MODE_DENIED) (by decide : 1 < 2 ^ 1))
    (by simp only [choiceWrites, List.map]; decide)

theorem refAsked_ctlTaken {v : Nat} (h : d.ctlDenied v = false) : (d.ctlTaken v).refAsked = ctlRef v := by
  have hv := (writes_ctlTaken d h).1.1
  have hsel := hv (F.MEDPLL_CTL_REF_SEL, (ctlRef v).sel) (by simp [ctlWrites, choiceWrites])
  have hport := hv (F.MEDPLL_CTL_REF_PORT, bitsAt v 3 5) (by simp [ctlWrites, choiceWrites])
  have hrate := hv (F.MEDPLL_CTL_WCLK_RATE, bitsAt v 8 2) (by simp [ctlWrites, choiceWrites])
  rw [Dev.refAsked, hsel, hport, hrate]; rfl

theorem rd_ctlTaken_mode {v : Nat} (h : d.ctlDenied v = false) : (d.ctlTaken v).rd F.MEDPLL_CTL_MODE = bitsAt v 0 1 :=
  (writes_ctlTaken d h).1.1 (F.MEDPLL_CTL_MODE, bitsAt v 0 1) (by simp [ctlWrites])

theorem rd_ctlTaken_band {v : Nat} (h : d.ctlDenied v = false) :
    (d.ctlTaken v).rd F.MEDPLL_CTL_OPEN_BAND = bitsAt v 13 5 :=
  (writes_ctlTaken d h).1.1 (F.MEDPLL_CTL_OPEN_BAND, bitsAt v 13 5) (by simp [ctlWrites])

/-- A write that stays in open mode: the band is that of OPEN_BAND, and the reference comes into use at once (R38). -/
theorem writes_medCtlWrite_open {v : Nat} (h : d.ctlDenied v = false) (h0 : d.rd F.MEDPLL_CTL_MODE = 0)
    (hm : bitsAt v 0 1 = 0) :
    Writes { d with clk := useClk (ctlRef v) d.clk } (d.medCtlWrite v)
      (ctlWrites v ++ [(F.MEDPLL_STATUS_BAND, bitsAt v 13 5), (F.MEDPLL_STATUS_REF_ACTIVE, (ctlRef v).sel)])
      (medBandF ++ validF) := by
  let c := (d.ctlTaken v).wr F.MEDPLL_STATUS_BAND (bitsAt v 13 5)
  have hband : Writes d c (ctlWrites v ++ [(F.MEDPLL_STATUS_BAND, bitsAt v 13 5)]) [] :=
    (writes_ctlTaken d h).trans (writes_one _ (bitsAt_lt v 13 5))
      (by simp only [ctlWrites, choiceWrites, List.map, List.cons_append, List.nil_append]; decide)
  have hopen := hband.trans (writes_may c [(F.MEDPLL_STATUS_BAND_SEARCHED, 0), (F.MEDPLL_STATUS_BAND_ENTRY, 0)])
    (by simp only [ctlWrites, choiceWrites, List.map, List.cons_append, List.nil_append]; decide)
  have huse := writes_useRef (c.wrs [(F.MEDPLL_STATUS_BAND_SEARCHED, 0), (F.MEDPLL_STATUS_BAND_ENTRY, 0)]) (ctlRef v)
  rw [show (ctlRef v).sel % 4 = (ctlRef v).sel from Nat.mod_eq_of_lt (ctlRef_sel_lt v)] at huse
  rw [d.medCtlWrite_open h0 ((rd_ctlTaken_mode d h).trans hm), rd_ctlTaken_band d h, refAsked_ctlTaken d h]
  exact ((hopen.modClk (useClk (ctlRef v))).trans huse
    (by simp only [ctlWrites, choiceWrites, List.map, List.cons_append, List.nil_append]; decide)).mono (by decide)

/-- A write that enters closed mode: the reference comes into use, and an acquisition starts (R40, R43). -/
theorem writes_medCtlWrite_closing {v : Nat} (h : d.ctlDenied v = false) (h0 : d.rd F.MEDPLL_CTL_MODE = 0)
    (hm : bitsAt v 0 1 = 1) :
    ∃ k n, k.acq = .lock ∧ k.active = ctlRef v ∧ Writes { d with clk := k, freeCtr := n } (d.medCtlWrite v)
      (choiceWrites v ++ [(F.MEDPLL_CTL_OPEN_BAND, bitsAt v 13 5), (F.MEDPLL_CTL_MODE, 1),
        (F.MEDPLL_STATUS_REF_ACTIVE, (ctlRef v).sel), (F.MEDPLL_STATUS_LOCK, 0), (F.MEDPLL_STATUS_COAST, 0),
        (F.MEDPLL_STATUS_REF_JUMP_REFUSED, 0)]) (validF ++ medBandF) := by
  let c := d.ctlTaken v
  have huse := writes_useRef c (ctlRef v)
  rw [show (ctlRef v).sel % 4 = (ctlRef v).sel from Nat.mod_eq_of_lt (ctlRef_sel_lt v)] at huse
  have hused := ((writes_ctlTaken d h).modClk (useClk (ctlRef v))).trans huse
    (by simp only [ctlWrites, choiceWrites, List.map, List.cons_append, List.nil_append]; decide)
  have hacq := (hused.hidden (fun x => { x with freeCtr := x.freeCtr + 1, clk := acquireClk x.clk })
    fun _ _ => rfl).trans (writes_acquire (c.useRef (ctlRef v)))
    (by simp only [ctlWrites, choiceWrites, List.map, List.cons_append, List.nil_append]; decide)
  rw [d.medCtlWrite_closing h0 ((rd_ctlTaken_mode d h).trans hm), refAsked_ctlTaken d h]
  rw [ctlWrites, hm] at hacq
  exact ⟨_, _, rfl, rfl, hacq⟩

/-- A refused write stores the choice, which then waits for its boundary (R39, R41). -/
theorem writes_medCtlWrite_denied {v : Nat} (h : d.ctlDenied v = true) (h1 : d.rd F.MEDPLL_CTL_MODE = 1) :
    ∃ k, Writes { d with clk := k } (d.medCtlWrite v) (choiceWrites v ++ [(F.MEDPLL_EVENTS_MODE_DENIED, 1)]) [] := by
  have hw := writes_ctlTaken_denied d h
  have hmode : (d.ctlTaken v).rd F.MEDPLL_CTL_MODE = 1 :=
    (hw.1.2 F.MEDPLL_CTL_MODE (by simp only [choiceWrites, List.map, List.cons_append, List.nil_append]; decide)
      List.not_mem_nil).trans h1
  obtain ⟨k, hk⟩ := d.medCtlWrite_closed h1 hmode
  exact ⟨k, hk ▸ hw.hidden (fun x => { x with clk := k }) fun _ _ => rfl⟩

/-- The change of reference that waits, at a boundary after its tick (R41). -/
theorem writes_refChange {r : RefChoice} {t : Nat} (hp : d.clk.pending = some (r, t)) (ht : t < d.tick)
    (hm : d.on F.MEDPLL_CTL_MODE = true) :
    Writes { d with clk := useClk r { d.clk with refused := none, measure := true } } d.refChange
      [(F.MEDPLL_STATUS_REF_JUMP_REFUSED, 0), (F.MEDPLL_STATUS_REF_ACTIVE, r.sel % 4)] validF := by
  let c := (d.clr F.MEDPLL_STATUS_REF_JUMP_REFUSED).modClk fun k => { k with refused := none, measure := true }
  have hd : d.refChange = c.useRef r := by
    rw [Dev.refChange, hp]
    exact if_neg (by simp [hm, ht])
  rw [hd]
  have hclear := writes_one d (f := F.MEDPLL_STATUS_REF_JUMP_REFUSED) (by decide : 0 < 2 ^ 1)
  exact (hclear.modClk fun k => useClk r { k with refused := none, measure := true }).trans (writes_useRef c r)
    (by simp only [List.map]; decide)

/-- The dividers' load outside a realignment moves no field (R40). -/
theorem dividerLoad_plain {k : Int} (hq : d.clk.acq = .mark) (hk : d.on F.MEDPLL_STATUS_LOCK = true)
    (hr : d.clk.realign ≠ .acquiring) :
    d.dividerLoad k = { d with clk := { d.clk with acq := .none, atMark := true } } := by
  simp [Dev.dividerLoad, hq, hk, hr, Dev.modClk, Dev.modTime]

/-- The load that ends a realignment moves MEDIA_COUNT and sets its flags (R52, R71). -/
theorem dividerLoad_realigned {k : Int} (hq : d.clk.acq = .mark) (hk : d.on F.MEDPLL_STATUS_LOCK = true)
    (hr : d.clk.realign = .acquiring) (hl : d.time.mediaLoaded = false) :
    d.dividerLoad k = Dev.wrs { d with
        clk := { d.clk with acq := .none, atMark := true, realign := .none }
        time := { d.time with mediaCount := (((d.time.mediaCount : Int) + 6 * k) % 2 ^ 64).toNat } }
      [(F.MEDPLL_STATUS_REALIGN_PENDING, 0), (F.MEDPLL_EVENTS_REALIGN_DONE, 1)] := by
  simp [Dev.dividerLoad, hq, hk, hr, hl, Dev.modClk, Dev.modTime, Dev.clr_eq, Dev.set_eq, lowOf_eq]

/-- A write of other fields than the gangs' states and layouts leaves what is released. -/
theorem anyReleased_wr {f : Fld} (v : Nat) (hs : ∀ k < 32, (F.MOD_GANG_STATUS_STATE k).id ≠ f.id)
    (hg : ∀ g < 8, (F.MOD_GRP_CFG_LAYOUT g).id ≠ f.id) : (d.wr f v).anyReleased = d.anyReleased := by
  have hsize : ∀ k < 32, (d.wr f v).gangSize k = d.gangSize k := fun k hk => by
    rw [Dev.gangSize, Dev.gangSize, Dev.rd_wr_other _ _ (hg (k / 4) (by omega))]
  have hstate : ∀ k < 32, (d.wr f v).switching k = d.switching k := fun k hk => by
    simp only [Dev.switching, Dev.gstate, Dev.rd_wr_other _ _ (hs k hk)]
  refine Bool.eq_iff_iff.mpr ?_
  simp only [Dev.anyReleased, Dev.allGangs, List.any_filter, List.any_eq_true, List.mem_range]
  exact exists_congr fun k => and_congr_right fun hk => by rw [hsize k hk, hstate k hk]

/-- PLL.CAL as a write of it with START leaves it (R38). -/
def calStored (band : BitVec 5) (vt : BitVec 2) : Dev := (d.wr F.PLL_CAL_BAND band.toNat).wr F.PLL_CAL_VT vt.toNat

theorem writes_calStored (band : BitVec 5) (vt : BitVec 2) :
    Writes d (calStored d band vt) [(F.PLL_CAL_BAND, band.toNat), (F.PLL_CAL_VT, vt.toNat)] [] :=
  (writes_one d band.isLt).trans (writes_one _ vt.isLt) (by simp only [List.map]; decide)

/-- START is refused while a gang is released, and measures in open mode alone (R38, R39). -/
theorem calWrite_start (band : BitVec 5) (vt : BitVec 2) : d.calWrite (1 + 4 * band.toNat + 128 * vt.toNat) =
    if d.anyReleased then (calStored d band vt).set F.MEDPLL_EVENTS_MODE_DENIED
    else if d.on F.MEDPLL_CTL_MODE then calStored d band vt
    else ((calStored d band vt).clr F.PLL_CAL_DONE).modClk fun k => { k with cal := some (band.toNat, vt.toNat) } := by
  have hband : bitsAt (1 + 4 * band.toNat + 128 * vt.toNat) 2 5 = band.toNat := by
    have := band.isLt; simp only [bitsAt]; omega
  have hvt : bitsAt (1 + 4 * band.toNat + 128 * vt.toNat) 7 2 = vt.toNat := by
    have := band.isLt; have := vt.isLt; simp only [bitsAt]; omega
  have hstart : ¬bitsAt (1 + 4 * band.toNat + 128 * vt.toNat) 0 1 = 0 := by simp only [bitsAt]; omega
  have hgangs : (calStored d band vt).anyReleased = d.anyReleased := by
    rw [calStored, anyReleased_wr _ _ (by decide) (by decide), anyReleased_wr _ _ (by decide) (by decide)]
  have hmode : (calStored d band vt).on F.MEDPLL_CTL_MODE = d.on F.MEDPLL_CTL_MODE := by
    rw [calStored, Dev.on_wr_other _ _ (by decide), Dev.on_wr_other _ _ (by decide)]
  rw [Dev.calWrite, hband, hvt, if_neg hstart, ← hgangs, ← hmode]
  rfl

theorem ctlDenied_quiet (v : Nat) (h : d.anyReleased = false) : d.ctlDenied v = false := by simp [Dev.ctlDenied, h]

/-- MODE written to 0 in closed mode is refused while a gang is released (R39). -/
theorem ctlDenied_leaving {v : Nat} (h : d.anyReleased = true) (h1 : d.rd F.MEDPLL_CTL_MODE = 1)
    (hm : bitsAt v 0 1 = 0) : d.ctlDenied v = true := by simp [Dev.ctlDenied, h, h1, hm]

/-- Settles O3: a write of MEDPLL.CTL by whether it is refused and by the mode before and after it, the other commands
by the writes that they come to. -/
theorem medCtl : Obligations.MedCtl := by
  intro s w k band vt n r t hl
  let d0 := s.chip.dev
  let v := w.toNat
  have hbit : bitsAt v 0 1 = v % 2 := by simp [bitsAt]
  refine ⟨fun h0 hm hr => ?stays, fun h0 hm hr => ?closes, fun h1 hm hr => ?denied, fun hp ht hm => ?refChange,
    fun hq hk hr => ?load, fun hq hk hr hn => ?loadRealigned, fun hm hr => ?cal, fun hr => ?calDenied,
    fun hc => ?calDone⟩
  case stays =>
    have hf := (writes_medCtlWrite_open d0 (ctlDenied_quiet d0 v hr) h0 (hbit.trans hm)).fit
      (by simp only [ctlWrites, choiceWrites, List.map, List.cons_append, List.nil_append]; decide)
    have hmode := hf.1.1 (F.MEDPLL_CTL_MODE, bitsAt v 0 1) (by simp [ctlWrites])
    refine Moves.of_writes (f := fun d => (d.medCtlWrite v).fitCheck) hl rfl rfl hf rfl
      ⟨hf.1.sub ?_ ?_, hmode.trans (hbit.trans hm), hf.2.clk, hf.2.frameClk⟩
    · exact (((List.Sublist.refl _).cons _).cons_cons _).append_left (choiceWrites v)
    · simp only [ctlWrites, choiceWrites, List.map, List.cons_append, List.nil_append]; decide
  case closes =>
    obtain ⟨c, n, hlock, href, hw⟩ := writes_medCtlWrite_closing d0 (ctlDenied_quiet d0 v hr) h0 (hbit.trans hm)
    have hf := hw.fit (by simp only [choiceWrites, List.map, List.cons_append, List.nil_append]; decide)
    have hframe := (congrArg (fun x : Dev => { x with clk := d0.clk, freeCtr := d0.freeCtr }) hf.2 :)
    exact Moves.of_writes (f := fun d => (d.medCtlWrite v).fitCheck) hl rfl rfl hf rfl
      ⟨(hf.mono (by decide)).1, hf.2.clk ▸ hlock, hf.2.clk ▸ href, hframe⟩
  case denied =>
    obtain ⟨c, hw⟩ := writes_medCtlWrite_denied d0 (ctlDenied_leaving d0 hr h1 (hbit.trans hm)) h1
    have hf := hw.fit (by simp only [choiceWrites, List.map, List.cons_append, List.nil_append]; decide)
    exact Moves.of_writes (f := fun d => (d.medCtlWrite v).fitCheck) hl rfl rfl hf rfl ⟨hf.1, hf.2.frameClk⟩
  case refChange =>
    have hf := (writes_refChange d0 hp ht hm).fit (by simp only [List.map]; decide)
    exact Moves.of_writes (f := fun d => d.refChange.fitCheck) hl rfl rfl hf rfl ⟨hf.1, hf.2.clk, hf.2.frameClk⟩
  case load =>
    have hf := writes_fitCheck { d0 with clk := { d0.clk with acq := .none, atMark := true } }
    exact Moves.of_writes (f := fun d => (d.dividerLoad k).fitCheck) hl rfl
      (congrArg Dev.fitCheck (dividerLoad_plain d0 hq hk hr)) hf rfl ⟨hf.1, hf.2.clk, hf.2.frameClk⟩
  case loadRealigned =>
    have hf := (writes_wrs { d0 with
        clk := { d0.clk with acq := .none, atMark := true, realign := .none }
        time := { d0.time with mediaCount := (((d0.time.mediaCount : Int) + 6 * k) % 2 ^ 64).toNat } }
      [(F.MEDPLL_STATUS_REALIGN_PENDING, 0), (F.MEDPLL_EVENTS_REALIGN_DONE, 1)] (by decide) (by decide)).fit (by decide)
    exact Moves.of_writes (f := fun d => (d.dividerLoad k).fitCheck) hl rfl
      (congrArg Dev.fitCheck (dividerLoad_realigned d0 hq hk hr hn)) hf rfl
      ⟨hf.1, hf.2.clk, hf.2.time, hf.2.frameClkTime⟩
  case cal =>
    have hw := (writes_calStored d0 band vt).trans (writes_one _ (f := F.PLL_CAL_DONE) (by decide : 0 < 2 ^ 1))
      (by simp only [List.map]; decide)
    have hc := hw.modClk fun k => { k with cal := some (band.toNat, vt.toNat) }
    exact Moves.of_writes (f := fun d => d.calWrite (1 + 4 * band.toNat + 128 * vt.toNat)) hl rfl
      ((calWrite_start d0 band vt).trans (by rw [hr, hm]; rfl)) hc rfl ⟨hc.1, hc.2.clk, hc.2.frameClk⟩
  case calDenied =>
    have hw := (writes_calStored d0 band vt).trans
      (writes_one _ (f := F.MEDPLL_EVENTS_MODE_DENIED) (by decide : 1 < 2 ^ 1)) (by simp only [List.map]; decide)
    exact Moves.of_writes (f := fun d => d.calWrite (1 + 4 * band.toNat + 128 * vt.toNat)) hl rfl
      ((calWrite_start d0 band vt).trans (if_pos hr)) hw rfl hw
  case calDone =>
    have hw := (writes_cut { d0 with clk := { d0.clk with cal := none } } F.PLL_CAL_COUNT_COUNT n).trans
      (writes_one _ (f := F.PLL_CAL_DONE) (by decide : 1 < 2 ^ 1)) (by simp only [List.map]; decide)
    exact Moves.of_writes (f := fun d => d.calDone n) hl rfl (if_neg hc) hw rfl ⟨hw.1, hw.2.clk, hw.2.frameClk⟩

end Sys2Proof.Claim
end

section
/-! SUPPORT. A statement that the model refutes: a slew step at a SLEW_MAX that no register write stores, whose pace the
clamp of R47 does not leave (R47, R50). -/

namespace Sys2Proof.Claim

open Sys2Proof.Machine

/-- A command has one answer: two claims about it speak of the same device. -/
theorem Moves.both {i : Instr} {s : State} {p q : Dev → Dev → Prop} (hp : Moves i s p) (hq : Moves i s q) :
    ∃ d', p s.chip.dev d' ∧ q s.chip.dev d' := by
  obtain ⟨d', he, hq⟩ := hq
  exact ⟨d', hp.of_exec he, hq⟩

/-- Where RAW has not moved far enough at the pace that the clamp leaves to the slew, no step is taken (R47, R50). -/
theorem slewStep_clamped {d : Dev} (h : 0 < d.time.residual)
    (hroom : ((d.time.raw - d.time.slewRaw : Nat) : Int) * (smrLimit - d.rate) * 32 < 2 ^ 40) : d.slewStep = d :=
  if_pos (.inr (.inr (by rw [if_pos h]; exact hroom)))

/-- RESIDUAL stands at 1/16 ns, 123 CLK_TIME cycles after RAW's start, and SLEW_MAX reads 255 ppm. -/
def slewPastClamp : State :=
  ⟨⟨{ Dev.reset.wr F.MEDPLL_SLEW_SLEW_MAX 255 with time := { TimeSt.init with raw := 123, residual := 1 } },
    ⟨[], []⟩⟩, []⟩

/-- Refutes O4: the clause of the slew step asks for enough RAW time at SLEW_MAX alone. With SLEW_MAX above 200 ppm,
which the field's 8 bits hold and which only the register write cuts to 200, the 200 ppm that the clamp leaves to the
slew are the slower pace, and the step that the clause claims after 123 cycles at 255 ppm is not taken. -/
theorem not_realign : ¬ Obligations.Realign := by
  intro h
  obtain ⟨hslew, -⟩ := h slewPastClamp 0 0 0 0 ⟨false, false, 0, 0, 0, 0, 0, [], [], [], 0⟩ ⟨rfl, rfl, rfl⟩
  have hclaim := hslew (by decide) (by decide) (by decide)
  have hstays : slewPastClamp.chip.dev.slewStep = slewPastClamp.chip.dev := slewStep_clamped (by decide) (by decide)
  have hfit := writes_fitCheck slewPastClamp.chip.dev
  have hmoves : Moves .residualSlewStep slewPastClamp fun d d' => d'.time = d.time :=
    Moves.of_writes (f := fun d => d.slewStep.fitCheck) ⟨rfl, rfl, rfl⟩ rfl (congrArg Dev.fitCheck hstays) hfit
      rfl hfit.2.time
  obtain ⟨d', ⟨-, ⟨hstep, -⟩, -⟩, hsame⟩ := hclaim.both hmoves
  rw [hsame] at hstep
  exact absurd hstep (by decide)

end Sys2Proof.Claim
end

section
/-! SUPPORT. TIME's states (R62, R66, R69, R70), with what a command of TIME comes to before the evaluation of fitness
that follows it. -/

namespace Sys2Proof.Machine

variable (d : Dev)

/-- The writes that enter COASTING and that return to FREE (R62, R66, R69, R70). -/
def coastWrites : List (Fld × Nat) := [(F.TIME_STATUS_STATE, 2), (F.TIME_EVENTS_COAST_ENTERED, 1)]
def freeWrites : List (Fld × Nat) := [(F.TIME_STATUS_STATE, 0), (F.TIME_STATUS_JUMP_REFUSED, 0),
  (F.TIME_STATUS_ANCHOR_REFUSED, 0), (F.TIME_STATUS_MEDIA_VALID, 0)]

theorem Dev.timeLock_locked (h : d.rd F.TIME_STATUS_STATE = 1) : d.timeLock = d := if_pos h

theorem Dev.timeLock_unlocked (h : d.rd F.TIME_STATUS_STATE ≠ 1) :
    d.timeLock = (d.wr F.TIME_STATUS_STATE 1).modTime fun t => { t with servoRaw := t.raw } := if_neg h

theorem Dev.timeCoast_locked (h : d.rd F.TIME_STATUS_STATE = 1) : d.timeCoast = d.wrs coastWrites :=
  if_neg (not_not.mpr h)

theorem Dev.timeCoast_unlocked (h : d.rd F.TIME_STATUS_STATE ≠ 1) : d.timeCoast = d := if_pos h

/-- The servo timeout is a coast once SERVO_TIMEOUT ms of RAW time have passed, and before nothing (R62). -/
theorem Dev.servoTimeout_due (hm : d.rd F.TIME_SERVO_TIMEOUT_MS ≠ 0)
    (ht : d.time.servoRaw + d.rd F.TIME_SERVO_TIMEOUT_MS * 500000 ≤ d.time.raw) : d.servoTimeout = d.timeCoast :=
  if_neg (not_or.mpr ⟨hm, Nat.not_lt.mpr ht⟩)

theorem Dev.servoTimeout_early (h : d.rd F.TIME_SERVO_TIMEOUT_MS = 0 ∨
    d.time.raw < d.time.servoRaw + d.rd F.TIME_SERVO_TIMEOUT_MS * 500000) : d.servoTimeout = d := if_pos h

theorem Dev.timeFree_away (h : d.rd F.TIME_STATUS_STATE ≠ 0) : d.timeFree = d.wrs freeWrites := if_neg h

end Sys2Proof.Machine

namespace Sys2Proof.Claim

open Sys2Proof.Machine

variable {d e e' : Dev} {l : List (Fld × Nat)} {may : List Fld}

theorem RegsOnly.frameTime {t : TimeSt} (h : RegsOnly { d with time := t } e) :
    { e with regs := d.regs, time := d.time } = d :=
  (congrArg (fun x : Dev => { x with time := d.time }) h :)

theorem Writes.modTime (h : Writes d e l may) (g : TimeSt → TimeSt) :
    Writes (d.modTime g) (e.modTime g) l may :=
  h.hidden (fun x => x.modTime g) fun _ _ => rfl

theorem Writes.atTimeClk (h : Writes d e l may) (t : TimeSt)
    (k : ClkSt) : Writes { d with time := t, clk := k } { e with time := t, clk := k } l may :=
  h.hidden (fun x => { x with time := t, clk := k }) fun _ _ => rfl

/-- A command of the device that comes to register writes and ends with the evaluation of fitness (R382). -/
theorem Moves.of_writes_fit {i : Instr} {s : State} {f : Dev → Dev} {p : Dev → Dev → Prop}
    (hl : Live s) (he : exec i s = s.dev fun d => (f d).fitCheck) (hd : f s.chip.dev = e') (hw : Writes e e' l may)
    (hn : ∀ i ∈ l.map (fun p => p.1.id), i ∉ fitF.map Fld.id) (ho : e.pool = s.chip.dev.pool)
    (hp : Writes e e'.fitCheck l (may ++ fitF) → p s.chip.dev e'.fitCheck) : Moves i s p :=
  Moves.of_writes hl he (congrArg Dev.fitCheck hd) (hw.fit hn) ho (hp (hw.fit hn))

/-- Settles O6: each event comes to the writes of the state that it enters, or to nothing where its condition does not
hold. -/
theorem timeStates : Obligations.TimeStates := by
  intro s hl
  let d0 := s.chip.dev
  refine ⟨fun h => ?lock, fun h => ?locked, fun h => ?coast, fun h => ?notLocked, fun h hm ht => ?timeout,
    fun h => ?early, fun h => ?free⟩
  case lock =>
    have hw := (writes_one d0 (f := F.TIME_STATUS_STATE) (by decide : 1 < 2 ^ 2)).modTime
      fun t => { t with servoRaw := t.raw }
    exact .of_writes_fit hl rfl (d0.timeLock_unlocked h) hw (by decide) rfl
      fun hf => ⟨hf.1, hf.2.time, hf.2.frameTime⟩
  case locked => exact .of_writes_fit hl rfl (d0.timeLock_locked h) (.refl d0) (by decide) rfl id
  case coast =>
    exact .of_writes_fit hl rfl (d0.timeCoast_locked h) (writes_wrs d0 coastWrites (by decide) (by decide))
      (by decide) rfl id
  case notLocked => exact .of_writes_fit hl rfl (d0.timeCoast_unlocked h) (.refl d0) (by decide) rfl id
  case timeout =>
    exact .of_writes_fit hl rfl ((d0.servoTimeout_due hm ht).trans (d0.timeCoast_locked h))
      (writes_wrs d0 coastWrites (by decide) (by decide)) (by decide) rfl id
  case early => exact .of_writes_fit hl rfl (d0.servoTimeout_early h) (.refl d0) (by decide) rfl id
  case free =>
    exact .of_writes_fit hl rfl (d0.timeFree_away h) (writes_wrs d0 freeWrites (by decide) (by decide))
      (by decide) rfl id

end Sys2Proof.Claim
end

section
/-! SUPPORT. One CLK_TIME cycle: RAW, the wrap of NOW_NS, and what the clamp accrues in RESIDUAL (R47, R54, R56,
R60). -/

namespace Sys2Proof.Machine

variable (d : Dev)

/-- What the clamp has accrued after one more cycle, in 2^-40 ns (R47). -/
def Dev.accrued : Int := d.time.residFrac + 2 * d.clampExcess

/-- RESIDUAL takes the whole sixteenths of a nanosecond of what has accrued. -/
def Dev.accrue : Dev :=
  d.modTime fun t =>
    { t with residFrac := (d.accrued % 2 ^ 36).toNat, residual := t.residual + d.accrued / 2 ^ 36 }

theorem Dev.clampCycle_idle (h : d.clampExcess = 0) : d.clampCycle = d := if_pos h

theorem Dev.clampCycle_acts (h : d.clampExcess ≠ 0) :
    d.clampCycle = d.accrue.showResidual.when (d.accrue.residualFar && !d.residualFar) (·.realignGo) := if_neg h

theorem Dev.timeCycle_stopped (h : d.time.running = false) : d.timeCycle = d := by rw [Dev.timeCycle, h]; rfl

theorem Dev.timeCycle_running (h : d.time.running = true) : d.timeCycle =
    ((d.when d.wrapsNext (·.set F.TIME_EVENTS_WRAP)).modTime fun t =>
      { t with raw := (t.raw + 1) % 2 ^ 64 }).clampCycle := by
  rw [Dev.timeCycle, h]; rfl

theorem Dev.running_of_wrapsNext (h : d.wrapsNext = true) : d.time.running = true :=
  (Bool.and_eq_true_iff.mp h).1

/-- An awake chip's command of the device that puts no word into a cell answers that device. -/
theorem State.dev_next {s : State} {f : Dev → Dev} (hl : Claim.Live s)
    (ho : (f s.chip.dev).pool = s.chip.dev.pool) :
    s.dev f = .next { s with chip := { s.chip with dev := f s.chip.dev } } := by
  obtain ⟨hreset, hsupply, hout⟩ := hl
  have hcells : (s.chip.onDev f).settleCells = s.chip.onDev f := if_pos ((congrArg Pool.out ho).trans hout)
  rw [State.dev, State.run_next, State.awake, hreset, hsupply, hcells]
  rfl

end Sys2Proof.Machine

namespace Sys2Proof.Claim

open Sys2Proof.Machine

variable (d : Dev)

/-- The fields that a realignment's command may move (R52, R53), and those that a change of RESIDUAL may. -/
def realignF : List Fld := [F.MEDPLL_STATUS_REALIGN_PENDING, F.MEDPLL_EVENTS_REALIGN_DENIED]
def accrueF : List Fld := realignF ++ residF

/-- A field is written with the value that it has. -/
theorem writes_kept (f : Fld) : Writes d d [(f, d.rd f)] [] := by
  refine ⟨⟨fun p hp => ?_, fun _ _ _ => rfl⟩, rfl⟩
  obtain rfl := List.mem_singleton.mp hp
  rfl

/-- A one-bit field that is set where `b` holds, by its value after. -/
theorem writes_setIf (b : Bool) {f : Fld} (hf : f.width = 1) :
    Writes d (d.when b (·.set f)) [(f, if b = true then 1 else d.rd f)] [] := by
  cases b
  · exact writes_kept d f
  · exact writes_one d (by rw [hf]; decide)

/-- A realignment's command moves its two flags and MEDPLL's hidden state (R52, R53). -/
theorem writes_realignGo : ∃ k, Writes { d with clk := k } d.realignGo [] realignF := by
  unfold Dev.realignGo
  split
  · exact ⟨d.clk, .same d realignF⟩
  split
  · exact ⟨d.clk, (writes_wr d F.MEDPLL_EVENTS_REALIGN_DENIED 1).mono (by decide)⟩
  · exact ⟨_, (writes_wr _ F.MEDPLL_STATUS_REALIGN_PENDING 1).mono (by decide)⟩

/-- RESIDUAL's views, and a realignment where one is commanded. -/
theorem writes_showResidual_realign (b : Bool) : ∃ k, (b = false → k = d.clk) ∧
    Writes { d with clk := k } (d.showResidual.when b (·.realignGo)) [] accrueF := by
  cases b with
  | false => exact ⟨d.clk, fun _ => rfl, (writes_showResidual d).mono (by decide)⟩
  | true =>
    obtain ⟨k, hgo⟩ := writes_realignGo d.showResidual
    have hshow := (writes_showResidual d).modClk fun _ => k
    exact ⟨k, fun h => Bool.noConfusion h, (hshow.trans hgo (by decide)).mono (by decide)⟩

/-- The clamp's cycle leaves RAW and OFFSET, and MEDPLL as well where RESIDUAL stands (R47, R54). -/
theorem writes_clampCycle : ∃ t k, t.raw = d.time.raw ∧ t.offset = d.time.offset ∧
    (t.residual = d.time.residual → k = d.clk) ∧ Writes { d with time := t, clk := k } d.clampCycle [] accrueF := by
  by_cases h : d.clampExcess = 0
  · rw [d.clampCycle_idle h]
    exact ⟨d.time, d.clk, rfl, rfl, fun _ => rfl, .same d accrueF⟩
  · rw [d.clampCycle_acts h]
    obtain ⟨k, hk, hw⟩ := writes_showResidual_realign d.accrue (d.accrue.residualFar && !d.residualFar)
    refine ⟨d.accrue.time, k, rfl, rfl, fun hr => hk ?_, hw⟩
    have hfar : d.accrue.residualFar = d.residualFar := by rw [Dev.residualFar, hr, Dev.residualFar]
    rw [hfar, Bool.and_not_self]

/-- A cycle of CLK_TIME: RAW grows by one, WRAP is set where NOW_NS passes its end, and RESIDUAL may follow the clamp
(R47, R56, R60). -/
theorem writes_timeCycle (hr : d.time.running = true) : ∃ t k, t.raw = (d.time.raw + 1) % 2 ^ 64 ∧
    t.offset = d.time.offset ∧ (t.residual = d.time.residual → k = d.clk) ∧
    Writes { d with time := t, clk := k } d.timeCycle
      [(F.TIME_EVENTS_WRAP, if d.wrapsNext = true then 1 else d.rd F.TIME_EVENTS_WRAP)] accrueF := by
  have hwrap := (writes_setIf d d.wrapsNext (f := F.TIME_EVENTS_WRAP) rfl).modTime
    fun t => { t with raw := (t.raw + 1) % 2 ^ 64 }
  have htime := hwrap.2.time
  have hclk := hwrap.2.clk
  obtain ⟨t, k, hraw, hoff, hk, hclamp⟩ := writes_clampCycle
    ((d.when d.wrapsNext (·.set F.TIME_EVENTS_WRAP)).modTime fun t => { t with raw := (t.raw + 1) % 2 ^ 64 })
  rw [htime] at hraw hoff hk
  rw [hclk] at hk
  rw [d.timeCycle_running hr]
  exact ⟨t, k, hraw, hoff, hk, (hwrap.atTimeClk t k).trans hclamp (by simp only [List.map]; decide)⟩

/-- Settles O55: with no command waiting a step is `Dev.timeCycle` on the device. -/
theorem idleCycle : Obligations.IdleCycle := by
  intro s hl hp
  let d0 := s.chip.dev
  have hstep : step s = s.dev Dev.timeCycle := by rw [step, hp]; rfl
  rw [hstep]
  cases hr : d0.time.running with
  | false =>
    have hsame := d0.timeCycle_stopped hr
    refine ⟨d0.timeCycle, State.dev_next hl (congrArg Dev.pool hsame), fun _ => hsame, fun h => Bool.noConfusion h⟩
  | true =>
    obtain ⟨t, k, hraw, -, hk, hw⟩ := writes_timeCycle d0 hr
    refine ⟨d0.timeCycle, State.dev_next hl hw.2.pool, fun h => Bool.noConfusion h,
      fun _ => ⟨?raw, ?sets, ?wrap, ?clk, ?frame⟩⟩
    case raw => rw [hw.2.time]; exact hraw
    case sets => exact hw.1.sub (List.nil_sublist _) (by simp only [List.map]; decide)
    case wrap => exact hw.1.1 _ List.mem_cons_self
    case clk => rw [hw.2.time, hw.2.clk]; exact hk
    case frame => exact hw.2.frameClkTime

end Sys2Proof.Claim
end

section
/-! SUPPORT. TIME.RATE and OFFSET writes, and their order within one cycle (R58, R59, R63 to R67). -/

namespace Sys2Proof.Machine

variable (d : Dev)

/-- Every 32-bit word is the two's complement of its signed value. -/
theorem signedOf_toNat (v : Word) : signedOf 32 v.toNat = v.toInt := by
  have hv := v.isLt
  rw [signedOf, BitVec.toInt_eq_toNat_cond]
  split_ifs <;> omega

/-- The signed rate that a RATE write asks for, as R59 cuts it. -/
theorem clampInt_rate (r : Int) : clampInt (-rateLimit) rateLimit r = Claim.rateKept r := by
  simp only [clampInt, rateLimit, Claim.rateKept]
  split_ifs <;> omega

/-- Is a rate beyond what TIME.RATE takes (R59)? -/
def rateCut (r : Int) : Bool := decide (549755813 < r.natAbs)

theorem decide_rateKept_ne (r : Int) : decide (Claim.rateKept r ≠ r) = rateCut r := by
  rw [rateCut, decide_eq_decide, Claim.rateKept]
  omega

/-- OFFSET with its fraction and the rate term accrued so far, in 2^-40 ns: what a RATE write folds (R58). -/
def Dev.foldSum : Int := d.time.offset * 2 ^ 40 + d.time.frac + d.rateTerm d.time.raw

/-- TIME after the fold. -/
def Dev.foldTime : TimeSt :=
  { d.time with offset := d.foldSum / 2 ^ 40, frac := (d.foldSum % 2 ^ 40).toNat, rawR := d.time.raw,
                servoRaw := if d.rd F.TIME_STATUS_STATE == 1 then d.time.raw else d.time.servoRaw }

theorem Dev.rateFold_eq (v : Word) : d.rateFold v.toNat =
    ((((d.modTime fun _ => d.foldTime).wr F.TIME_RATE_RATE (lowOf 32 (Claim.rateKept v.toInt))).wr
      F.TIME_STATUS_RATE_CLAMPED (bit (rateCut v.toInt))).when (rateCut v.toInt)
        (·.set F.TIME_EVENTS_RATE_CLAMP_EV)).showResidual := by
  rw [← decide_rateKept_ne, ← clampInt_rate, ← signedOf_toNat]
  rfl

/-- What an accepted OFFSET write sets, and a refused one (R63). -/
def takeWrites : List (Fld × Nat) :=
  [(F.TIME_EVENTS_STEP_ACCEPTED, 1), (F.TIME_STATUS_ANCHOR_CHECK, 1), (F.TIME_STATUS_JUMP_REFUSED, 0)]
def refuseWrites : List (Fld × Nat) :=
  [(F.TIME_STATUS_JUMP_REFUSED, 1), (F.TIME_EVENTS_JUMP_REFUSED_EV, 1)]

/-- TIME after an accepted OFFSET write: a servo write restarts the timeout in LOCKED (R62, R63). -/
def Dev.takenTime (v : Int) : TimeSt :=
  { d.time with offset := v, frac := 0,
                servoRaw := if d.rd F.TIME_STATUS_STATE == 1 then d.time.raw else d.time.servoRaw }

theorem Dev.offsetTake_eq (v : Int) : d.offsetTake v = Dev.wrs { d with time := d.takenTime v } takeWrites := rfl

/-- RESIDUAL with a step added to it, before its views follow (R50). -/
def Dev.withResidual (s : Int) : Dev :=
  d.modTime fun t => { t with residual := t.residual + s, slewRaw := if t.residual = 0 then t.raw else t.slewRaw }

theorem Dev.addResidual_eq (s : Int) : d.addResidual s =
    (d.withResidual s).showResidual.when (d.withResidual s).residualFar (·.realignGo) := rfl

/-- A step that leaves RESIDUAL within 100 ms commands no realignment (R53). -/
theorem Dev.addResidual_near {s : Int} (h : (d.time.residual + s).natAbs ≤ 1600000000) :
    d.addResidual s = (d.withResidual s).showResidual := by
  have hnear : (d.withResidual s).residualFar = false := decide_eq_false (Nat.not_lt.mpr h)
  rw [d.addResidual_eq, hnear, Dev.when_false]

variable {v : Int} {ov : Bool}

theorem Dev.offsetJudge_free (h : d.rd F.TIME_STATUS_STATE = 0) : d.offsetJudge v ov =
    (d.offsetTake v).when (d.on F.MEDPLL_CTL_MODE && d.rd F.MEDPLL_CTL_REF_SEL == 0) (·.realignGo) := if_pos h

theorem Dev.offsetJudge_within (h : d.rd F.TIME_STATUS_STATE ≠ 0)
    (ho : ov = true ∨ (v - d.time.offset).natAbs ≤ d.rd F.TIME_JUMP_LIMIT_LIMIT) :
    d.offsetJudge v ov = (d.offsetTake v).addResidual (16 * (v - d.time.offset)) :=
  (if_neg h).trans (if_pos (by simpa using ho))

theorem Dev.offsetJudge_beyond (h : d.rd F.TIME_STATUS_STATE ≠ 0) (ho : ov = false)
    (hs : d.rd F.TIME_JUMP_LIMIT_LIMIT < (v - d.time.offset).natAbs) : d.offsetJudge v ov = d.wrs refuseWrites :=
  (if_neg h).trans (if_neg (by simpa [ho] using hs))

/-- What an OFFSET write can come to (R63, R64). -/
theorem Dev.offsetJudge_cases (v : Int) (ov : Bool) :
    (∃ b, d.offsetJudge v ov = (d.offsetTake v).when b (·.realignGo)) ∨
      d.offsetJudge v ov = (d.offsetTake v).addResidual (16 * (v - d.time.offset)) ∨
      (d.rd F.TIME_STATUS_STATE ≠ 0 ∧ ov = false ∧ d.offsetJudge v ov = d.wrs refuseWrites) := by
  by_cases h : d.rd F.TIME_STATUS_STATE = 0
  · exact .inl ⟨_, d.offsetJudge_free h⟩
  by_cases hw : ov = true ∨ (v - d.time.offset).natAbs ≤ d.rd F.TIME_JUMP_LIMIT_LIMIT
  · exact .inr (.inl (d.offsetJudge_within h hw))
  · obtain ⟨ho, hs⟩ := not_or.mp hw
    have ho : ov = false := Bool.eq_false_iff.mpr ho
    exact .inr (.inr ⟨h, ho, d.offsetJudge_beyond h ho (Nat.lt_of_not_le hs)⟩)

/-- The device with the record of an OFFSET write (R67). -/
def Dev.recorded (w : OffsetStep) : Dev := d.modTime fun t => { t with step := some w }

/-- An OFFSET write leaves a record of its cycle and of corrected time before it (R67). -/
theorem Dev.offsetWrite_eq (v : Int) (ov : Bool) : ∃ w : OffsetStep, w.raw = d.time.raw ∧
    w.corr = d.corrAt d.time.raw ∧ d.offsetWrite v ov = (d.offsetJudge v ov).recorded w :=
  ⟨_, rfl, rfl, rfl⟩

/-- A snapshot of the cycle of an OFFSET write shows what the write found (R67). -/
theorem Dev.snapCorr_of_step {w : OffsetStep} (h : d.time.step = some w) (hr : w.raw = d.time.raw) :
    d.snapCorr = w.corr := by
  have hnow : d.stepNow = some w := by rw [Dev.stepNow, h]; exact Option.filter_some_pos (beq_iff_eq.mpr hr)
  rw [Dev.snapCorr, hnow]

theorem Dev.rateWrite_alone {n : Nat} (h : d.stepNow = none) : d.rateWrite n = d.rateFold n := by
  rw [Dev.rateWrite, h]

theorem Dev.rateWrite_after {n : Nat} {w : OffsetStep} (h : d.stepNow = some w) :
    d.rateWrite n = ((d.unstep w).rateFold n).offsetWrite w.value w.override := by rw [Dev.rateWrite, h]

/-- TIME and MEDPLL's hidden state as the cycle's OFFSET write found them. -/
def Dev.unstepTime (w : OffsetStep) : TimeSt :=
  { d.time with offset := w.offset, frac := w.frac, residual := d.time.residual - w.added }
def Dev.unstepClk (w : OffsetStep) : ClkSt := { d.clk with realign := w.realign }

end Sys2Proof.Machine

namespace Sys2Proof.Claim

open Sys2Proof.Machine

variable (d : Dev)

/-- The fields that an OFFSET write may move. -/
def offsetF : List Fld := stepFlags ++ stepEvents ++ residF

theorem writes_offsetTake (v : Int) : Writes { d with time := d.takenTime v } (d.offsetTake v) takeWrites [] := by
  rw [d.offsetTake_eq v]
  exact writes_wrs _ takeWrites (by decide) (by decide)

theorem writes_addResidual_any (s : Int) : ∃ k,
    Writes { d with time := (d.withResidual s).time, clk := k } (d.addResidual s) [] accrueF := by
  obtain ⟨k, -, hw⟩ := writes_showResidual_realign (d.withResidual s) (d.withResidual s).residualFar
  exact ⟨k, hw⟩

/-- An OFFSET write leaves RAW and RAW_R; one that is not refused sets OFFSET (R63 to R65). -/
theorem writes_offsetJudge (v : Int) (ov : Bool) : ∃ t k, t.raw = d.time.raw ∧ t.rawR = d.time.rawR ∧
    (d.rd F.TIME_STATUS_STATE = 0 ∨ ov = true → t.offset = v ∧ t.frac = 0) ∧
    Writes { d with time := t, clk := k } (d.offsetJudge v ov) [] offsetF := by
  rcases d.offsetJudge_cases v ov with ⟨b, hd⟩ | hd | ⟨hs, ho, hd⟩ <;> rw [hd]
  case inl =>
    have htake := (writes_may { d with time := d.takenTime v } takeWrites).mono (may' := offsetF) (by decide)
    cases b with
    | false => exact ⟨d.takenTime v, d.clk, rfl, rfl, fun _ => ⟨rfl, rfl⟩, htake⟩
    | true =>
      obtain ⟨k, hgo⟩ := writes_realignGo (d.offsetTake v)
      exact ⟨d.takenTime v, k, rfl, rfl, fun _ => ⟨rfl, rfl⟩,
        ((htake.modClk fun _ => k).trans hgo (by decide)).mono (by decide)⟩
  case inr.inl =>
    let s := 16 * (v - d.time.offset)
    obtain ⟨k, hadd⟩ := writes_addResidual_any (d.offsetTake v) s
    have htake := (writes_may { d with time := d.takenTime v } takeWrites).atTimeClk
      ((d.offsetTake v).withResidual s).time k
    exact ⟨((d.offsetTake v).withResidual s).time, k, rfl, rfl, fun _ => ⟨rfl, rfl⟩,
      (htake.trans hadd (by decide)).mono (by decide)⟩
  case inr.inr =>
    refine ⟨d.time, d.clk, rfl, rfl, fun h => ?_, (writes_may d refuseWrites).mono (by decide)⟩
    exact (h.elim hs (by simp [ho])).elim

/-- The fields that show a RATE write's outcome (R58, R59). -/
def rateWrites (v : Word) : List (Fld × Nat) :=
  [(F.TIME_RATE_RATE, (rateKept v.toInt % 2 ^ 32).toNat), (F.TIME_STATUS_RATE_CLAMPED, bit (rateCut v.toInt))]

/-- A write of TIME.RATE shows the rate that is kept and whether it was cut, and folds TIME (R58, R59). -/
theorem writes_rateFold (v : Word) : Writes { d with time := d.foldTime } (d.rateFold v.toNat)
    (rateWrites v ++
      [(F.TIME_EVENTS_RATE_CLAMP_EV, if rateCut v.toInt = true then 1 else d.rd F.TIME_EVENTS_RATE_CLAMP_EV)])
    residF := by
  rw [d.rateFold_eq v, lowOf_eq]
  let c := Dev.wrs { d with time := d.foldTime } (rateWrites v)
  have hrate : Writes { d with time := d.foldTime } c (rateWrites v) [] := by
    refine writes_wrs _ _ (by simp only [rateWrites, List.map]; decide) ?_
    simp only [rateWrites, List.forall_mem_cons]
    exact ⟨by change _ < 2 ^ 32; omega, bit_lt_two _, fun _ h => absurd h List.not_mem_nil⟩
  have hold : c.rd F.TIME_EVENTS_RATE_CLAMP_EV = d.rd F.TIME_EVENTS_RATE_CLAMP_EV :=
    hrate.1.2 _ (by simp only [rateWrites, List.map]; decide) List.not_mem_nil
  have hcut := writes_setIf c (rateCut v.toInt) (f := F.TIME_EVENTS_RATE_CLAMP_EV) rfl
  rw [hold] at hcut
  exact (hrate.trans hcut (by simp only [rateWrites, List.map]; decide)).trans (writes_showResidual _)
    (by simp only [rateWrites, List.map, List.cons_append, List.nil_append]; decide)

/-- Undoing the cycle's OFFSET write moves the fields of such a write alone (R67). -/
theorem writes_unstep (w : OffsetStep) : Writes { d with time := d.unstepTime w, clk := d.unstepClk w } (d.unstep w) []
    offsetF := by
  let c : Dev := { d with time := d.unstepTime w, clk := d.unstepClk w }
  let l := stepFlags.zip w.flags ++ (stepEvents.zip (w.flags.drop 3)).map fun p => (p.1, min p.2 (c.rd p.1))
  have hl : ∀ i ∈ (l.map Prod.fst).map Fld.id, i ∈ (stepFlags ++ stepEvents).map Fld.id := by
    refine fun i hi => List.map_subset _ (fun f hf => ?_) hi
    obtain ⟨p, hp, rfl⟩ := List.mem_map.mp hf
    rcases List.mem_append.mp hp with hp | hp
    · exact List.mem_append_left _ (List.of_mem_zip hp).1
    · obtain ⟨q, hq, rfl⟩ := List.mem_map.mp hp
      exact List.mem_append_right _ (List.of_mem_zip hq).1
  exact ((writes_may c l).mono hl).trans (writes_showResidual _) fun _ h => absurd h List.not_mem_nil

theorem correctedNow_eq : correctedNow d = 2 * d.time.raw * 2 ^ 40 + d.foldSum := by
  simp only [correctedNow, Dev.foldSum, Dev.rateTerm, Dev.rate]
  ring

/-- Right after a fold corrected time is RAW and OFFSET alone (R57). -/
theorem correctedNow_of_fold {e : Dev} (h : e.time = d.foldTime) : correctedNow e = correctedNow d := by
  have hsum : e.foldSum = d.foldSum := by
    rw [Dev.foldSum, Dev.rateTerm, h]
    simp only [Dev.foldTime, sub_self, mul_zero, zero_mul]
    omega
  have hraw : e.time.raw = d.time.raw := by rw [h]; rfl
  rw [correctedNow_eq, correctedNow_eq, hsum, hraw]

/-- A RATE write before the OFFSET write of its cycle: the rate's fields are those of the fold, and the OFFSET write is
judged after it (R67). -/
theorem writes_rateWrite_after {w : OffsetStep} (v : Word) (h : d.stepNow = some w) : ∃ t k,
    t.raw = d.time.raw ∧ t.rawR = d.time.raw ∧
    (d.rd F.TIME_STATUS_STATE = 0 ∨ w.override = true → t.offset = w.value ∧ t.frac = 0) ∧
    Writes { d with time := t, clk := k } (d.rateWrite v.toNat) (rateWrites v)
      (F.TIME_EVENTS_RATE_CLAMP_EV :: offsetF) := by
  have hundo := writes_unstep d w
  have hfold := writes_rateFold (d.unstep w) v
  let e := (d.unstep w).rateFold v.toNat
  obtain ⟨t, k, hraw, hrawR, htake, hjudge⟩ := writes_offsetJudge e w.value w.override
  obtain ⟨x, -, -, hwrite⟩ := e.offsetWrite_eq w.value w.override
  have hstate : e.rd F.TIME_STATUS_STATE = d.rd F.TIME_STATUS_STATE :=
    (hfold.1.2 _ (by simp only [rateWrites, List.map, List.cons_append, List.nil_append]; decide) (by decide)).trans
      (hundo.1.2 _ List.not_mem_nil (by decide))
  have hfolded : e.time = (d.unstep w).foldTime := hfold.2.time
  have hfound : (d.unstep w).time.raw = d.time.raw := (congrArg TimeSt.raw hundo.2.time :)
  rw [hfolded] at hraw hrawR
  rw [hstate] at htake
  have hbefore := (hundo.atTimeClk t k).trans (hfold.atTimeClk t k) fun _ hi => absurd hi List.not_mem_nil
  have hall := (hbefore.trans hjudge
    (by simp only [rateWrites, List.map, List.cons_append, List.nil_append]; decide)).modTime
      fun t => { t with step := some x }
  have hsets := hall.1.sub (m := rateWrites v) (may' := F.TIME_EVENTS_RATE_CLAMP_EV :: offsetF)
    (by simp) (by simp only [rateWrites, List.map, List.cons_append, List.nil_append]; decide)
  rw [d.rateWrite_after h, hwrite]
  exact ⟨{ t with step := some x }, k, hraw.trans hfound, hrawR.trans hfound, htake, hsets, hall.2⟩

/-- Settles O5: a RATE write alone is the fold, after which corrected time is RAW and OFFSET; one that comes after the
OFFSET write of its cycle is the fold on what that write found, and then the OFFSET write. -/
theorem rateWrite : Obligations.RateWrite := by
  intro s v w hl
  let d0 := s.chip.dev
  refine ⟨fun h => ?alone, fun h => ?after⟩
  case alone =>
    refine .of_writes_fit hl rfl (d0.rateWrite_alone h) (writes_rateFold d0 v)
      (by simp only [rateWrites, List.map, List.cons_append, List.nil_append]; decide) rfl fun hf => ?_
    have hcut := hf.1.1 (F.TIME_EVENTS_RATE_CLAMP_EV, _) (List.mem_append_right _ List.mem_cons_self)
    have htime : (d0.rateFold v.toNat).fitCheck.time = d0.foldTime := hf.2.time
    refine ⟨hf.1.sub ?_ ?_, fun h => ?_, fun h => ?_, correctedNow_of_fold d0 htime, (congrArg TimeSt.rawR htime :),
      (congrArg TimeSt.raw htime :), (congrArg TimeSt.residual htime :), hf.2.frameTime⟩
    · exact List.sublist_append_left (rateWrites v) _
    · simp only [rateWrites, List.map, List.cons_append, List.nil_append]; decide
    · rw [hcut, rateCut, decide_eq_true h, if_pos rfl]
    · rw [hcut, rateCut, decide_eq_false (Nat.not_lt.mpr h), if_neg Bool.false_ne_true]
  case after =>
    obtain ⟨t, k, hraw, hrawR, htake, hw⟩ := writes_rateWrite_after d0 v h
    refine .of_writes_fit hl rfl rfl hw (by simp only [rateWrites, List.map]; decide) rfl fun hf => ?_
    obtain ⟨hrate, hclamped, -⟩ := List.forall_mem_cons.mp hf.1.1 |>.imp_right List.forall_mem_cons.mp
    have htime : (d0.rateWrite v.toNat).fitCheck.time = t := hf.2.time
    rw [← htime] at hraw hrawR htake
    exact ⟨hrate, hclamped, hrawR, hraw, htake, hf.2.frameClkTime⟩

end Sys2Proof.Claim
end

section
/-! SUPPORT. The tick grid and MEDIA_COUNT, and the writes of TIME (R60, R63 to R70). -/

namespace Sys2Proof.Machine

variable (d : Dev)

/-- The tick grid's phase that a TICK_ANCHOR write asks for, and how far the grid then moves, by the shorter way
(R68, R69). -/
def Dev.anchorPhase (ns : Nat) : Nat := (instantNear d.nowWide ns % 125000).toNat
def Dev.anchorTurn (ns : Nat) : Int := (d.time.grid - (d.anchorPhase ns : Int)) % 125000
def Dev.anchorMove (ns : Nat) : Int :=
  if d.anchorTurn ns ≤ 62500 then d.anchorTurn ns else d.anchorTurn ns - 125000

/-- What an accepted TICK_ANCHOR write sets, and a refused one (R69). -/
def anchorWrites (ns : Nat) : List (Fld × Nat) :=
  [(F.TIME_TICK_ANCHOR_NS, ns), (F.TIME_STATUS_ANCHOR_CHECK, 0), (F.TIME_STATUS_ANCHOR_VALID, 1),
    (F.TIME_STATUS_ANCHOR_REFUSED, 0)]
def anchorRefusal : List (Fld × Nat) :=
  [(F.TIME_STATUS_ANCHOR_REFUSED, 1), (F.TIME_EVENTS_ANCHOR_REFUSED_EV, 1)]

/-- The grid moved, before RESIDUAL follows. -/
def Dev.anchored (ns : Nat) : Dev :=
  Dev.wrs { d with time := { d.time with grid := d.anchorPhase ns } } (anchorWrites ns)

theorem Dev.anchorWrite_taken {ns : Nat} {g : Bool} (h : g = true ∨ d.rd F.TIME_STATUS_STATE = 0 ∨
    (d.anchorMove ns).natAbs ≤ d.rd F.TIME_JUMP_LIMIT_LIMIT) : d.anchorWrite ns g =
      if d.anchorMove ns = 0 then d.anchored ns else (d.anchored ns).addResidual (16 * d.anchorMove ns) :=
  if_pos (.inr h)

theorem Dev.anchorWrite_beyond {ns : Nat} {g : Bool} (hg : g = false) (hs : d.rd F.TIME_STATUS_STATE ≠ 0)
    (h : d.rd F.TIME_JUMP_LIMIT_LIMIT < (d.anchorMove ns).natAbs) : d.anchorWrite ns g = d.wrs anchorRefusal := by
  have hmove : d.anchorMove ns ≠ 0 := by intro h0; rw [h0] at h; exact absurd h (Nat.not_lt_zero _)
  exact if_neg (by simp only [not_or]; exact ⟨hmove, by simp [hg], hs, Nat.not_le.mpr h⟩)

/-- What a load of a held MEDIA_COUNT sets (R70). -/
def mediaWrites : List (Fld × Nat) :=
  [(F.TIME_STATUS_MEDIA_PENDING, 0), (F.TIME_STATUS_MEDIA_VALID, 1), (F.TIME_EVENTS_MEDIA_LOADED, 1)]

/-- TIME with the held count as the present one. -/
def Dev.loadedTime (v : Nat) : TimeSt :=
  { d.time with mediaCount := v, mediaSub := 0, mediaHeld := none, mediaLoaded := true }

theorem Dev.mediaTake_held {v : Nat} (h : d.time.mediaHeld = some v) :
    d.mediaTake = Dev.wrs { d with time := d.loadedTime v } mediaWrites := by
  rw [Dev.mediaTake, h]; rfl

/-- TIME a tick before: a load before the boundary leaves the count that the boundary brings to the held one (R70). -/
def tickBefore (t : TimeSt) : TimeSt := { t with mediaCount := (t.mediaCount + 2 ^ 64 - 6) % 2 ^ 64 }

theorem tickBefore_loadedTime (v : Nat) :
    (tickBefore (d.loadedTime v)).mediaCount = (v + 2 ^ 64 - 6) % 2 ^ 64 := by rw [tickBefore, Dev.loadedTime]

theorem Dev.mediaLoad_held {v : Nat} (h : d.time.mediaHeld = some v) :
    ∃ k, d.mediaLoad = (d.mediaTake.gridShift k).modTime tickBefore := by
  rw [Dev.mediaLoad, h]; exact ⟨_, rfl⟩

end Sys2Proof.Machine

namespace Sys2Proof.Claim

open Sys2Proof.Machine

variable (d : Dev)

/-- A change of each of a list's elements in turn, where each moves the Drive Engine's hidden state and fields of its
own. -/
theorem writes_each {f : Dev → Nat → Dev} {may : Nat → List Fld}
    (h : ∀ d g, ∃ x, Writes { d with drive := x } (f d g) [] (may g)) (l : List Nat) :
    ∃ x, Writes { d with drive := x } (d.each l f) [] (l.flatMap may) := by
  induction l generalizing d with
  | nil => exact ⟨d.drive, .refl d⟩
  | cons g l ih =>
    obtain ⟨x, hg⟩ := h d g
    obtain ⟨y, hl⟩ := ih (f d g)
    have hfirst := hg.hidden (fun e => { e with drive := y }) fun _ _ => rfl
    exact ⟨y, hfirst.trans hl fun _ hi => absurd hi List.not_mem_nil⟩

/-- The fields of a group that a shift of the tick index may move (R323). -/
def slipF (g : Nat) : List Fld := [F.MOD_GRP_STATUS_EPOCH_SLIP g, F.MOD_GRP_EVENTS_SLIP_EV g]

/-- A group's slip moves its two fields and the Drive Engine's hidden state. -/
theorem writes_slip (g : Nat) (b : Bool) (x : Group) (v : Nat) : ∃ y, Writes { d with drive := y }
    (((d.when b (·.set (F.MOD_GRP_EVENTS_SLIP_EV g))).setGroup g x).wr (F.MOD_GRP_STATUS_EPOCH_SLIP g) v) []
    (slipF g) := by
  have hev := (writes_setWhen d b (F.MOD_GRP_EVENTS_SLIP_EV g)).hidden (fun e => e.setGroup g x) fun _ _ => rfl
  have hslip := hev.trans (writes_wr _ (F.MOD_GRP_STATUS_EPOCH_SLIP g) v) fun _ hi => absurd hi List.not_mem_nil
  exact ⟨(d.setGroup g x).drive, hslip.mono fun i hi => (List.Perm.swap _ _ []).mem_iff.mp hi⟩

/-- A shift of the tick index moves the slips of the eight groups (R323). -/
theorem writes_gridShift (t : Int) :
    ∃ x, Writes { d with drive := x } (d.gridShift t) [] ((List.range 8).flatMap slipF) := by
  refine writes_each d (fun d g => ?_) _
  split
  · exact writes_slip d g _ _ _
  · exact writes_slip d g false _ 0

/-- A held MEDIA_COUNT is loaded: its flags, the count that precedes the held one by a tick, and what the groups' grid
makes of it (R70, R323). -/
theorem writes_mediaLoad {v : Nat} (h : d.time.mediaHeld = some v) : ∃ t x,
    t.mediaHeld = none ∧ t.mediaLoaded = true ∧ t.mediaCount = (v + 2 ^ 64 - 6) % 2 ^ 64 ∧ t.mediaSub = 0 ∧
      Writes { d with time := t, drive := x } d.mediaLoad mediaWrites ((List.range 8).flatMap slipF) := by
  obtain ⟨k, hload⟩ := d.mediaLoad_held h
  have htake : Writes { d with time := d.loadedTime v } d.mediaTake mediaWrites [] := by
    rw [d.mediaTake_held h]; exact writes_wrs _ mediaWrites (by decide) (by decide)
  obtain ⟨x, hgrid⟩ := writes_gridShift d.mediaTake k
  have hall := (htake.hidden (fun e => { e with drive := x }) fun _ _ => rfl).trans hgrid (by decide)
  rw [hload]
  exact ⟨tickBefore (d.loadedTime v), x, rfl, rfl, tickBefore_loadedTime d v, rfl, hall.modTime tickBefore⟩

theorem writes_anchored (ns : Word) : Writes { d with time := { d.time with grid := d.anchorPhase ns.toNat } }
    (d.anchored ns.toNat) (anchorWrites ns.toNat) [] := by
  refine writes_wrs _ _ (by simp only [anchorWrites, List.map]; decide) ?_
  simp only [anchorWrites, List.forall_mem_cons]
  exact ⟨ns.isLt, by decide, by decide, by decide, fun _ h => absurd h List.not_mem_nil⟩

/-- An accepted TICK_ANCHOR write moves the grid, and RESIDUAL by as much (R69). -/
theorem writes_anchorWrite_taken {ns : Word} {g : Bool} (h : g = true ∨ d.rd F.TIME_STATUS_STATE = 0 ∨
      (d.anchorMove ns.toNat).natAbs ≤ d.rd F.TIME_JUMP_LIMIT_LIMIT)
    (hr : (d.time.residual + 16 * d.anchorMove ns.toNat).natAbs ≤ 1600000000) : ∃ t : TimeSt,
    t.grid = d.anchorPhase ns.toNat ∧ t.residual = d.time.residual + 16 * d.anchorMove ns.toNat ∧
      Writes { d with time := t } (d.anchorWrite ns.toNat g) (anchorWrites ns.toNat) residF := by
  have hgrid := writes_anchored d ns
  rw [d.anchorWrite_taken h]
  split
  case isTrue h0 => exact ⟨_, rfl, by simp [h0], hgrid.mono fun _ hi => absurd hi List.not_mem_nil⟩
  case isFalse =>
    let c := (d.anchored ns.toNat).withResidual (16 * d.anchorMove ns.toNat)
    rw [Dev.addResidual_near (d.anchored ns.toNat) hr]
    have hmoved := (hgrid.modTime fun _ => c.time).trans (writes_showResidual c)
      (by simp only [anchorWrites, List.map]; decide)
    exact ⟨c.time, rfl, rfl, hmoved⟩

/-- An OFFSET write whose judgement comes to some writes: the record of its cycle follows (R67). -/
theorem Moves.of_offsetWrite {s : State} {b : BitVec 64} {ov : Bool} {e : Dev} {t : TimeSt} {l : List (Fld × Nat)}
    {may : List Fld} {p : Dev → Dev → Prop} (hl : Live s) (hd : s.chip.dev.offsetJudge b.toInt ov = e)
    (hw : Writes { s.chip.dev with time := t } e l may) (hn : ∀ i ∈ l.map (fun p => p.1.id), i ∉ fitF.map Fld.id)
    (ht : t.raw = s.chip.dev.time.raw)
    (hp : ∀ w, (e.recorded w).fitCheck.time = { t with step := some w } →
      (e.recorded w).fitCheck.snapCorr = s.chip.dev.corrAt s.chip.dev.time.raw →
      Sets s.chip.dev (e.recorded w).fitCheck l (may ++ fitF) →
      { (e.recorded w).fitCheck with regs := s.chip.dev.regs, time := s.chip.dev.time } = s.chip.dev →
      p s.chip.dev (e.recorded w).fitCheck) :
    Moves (.offsetWrite b ov) s p := by
  obtain ⟨w, hraw, hcorr, hwrite⟩ := s.chip.dev.offsetWrite_eq b.toInt ov
  have hrecord : Writes { s.chip.dev with time := { t with step := some w } } (e.recorded w) l may :=
    hw.modTime fun t => { t with step := some w }
  refine .of_writes_fit hl rfl (hwrite.trans (congrArg (Dev.recorded · w) hd)) hrecord hn rfl fun hf => ?_
  have htime : (e.recorded w).fitCheck.time = { t with step := some w } := hf.2.time
  refine hp w htime ?_ hf.1 hf.2.frameTime
  rw [Dev.snapCorr_of_step _ (w := w) (by rw [htime]) (by rw [htime, hraw, ht]), hcorr]

/-- Settles O7: each write by the case that its conditions name, the wrap by the cycle that brings it. -/
theorem timeWrites : Obligations.TimeWrites := by
  intro s v ov ns g w hl
  let d0 := s.chip.dev
  refine ⟨fun h hm => ?free, fun h ho hr => ?within, fun h ho hs => ?beyond, fun h => ?wrap, fun h => ?noWrap,
    fun h hr => ?anchor, fun hg h hs => ?anchorBeyond, ?mediaHeld, fun h => ?mediaLoad⟩
  case free =>
    have hd : d0.offsetJudge v.toInt ov = d0.offsetTake v.toInt := by
      rw [d0.offsetJudge_free h, hm, Dev.when_false]
    refine .of_offsetWrite hl hd (writes_offsetTake d0 v.toInt) (by decide) rfl
      fun w htime hsnap hsets hframe => ⟨hsets, ?_, hsnap, hframe⟩
    have hservo : d0.takenTime v.toInt = { d0.time with offset := v.toInt, frac := 0 } := by
      rw [Dev.takenTime, h]; rfl
    rw [htime, hservo]
  case within =>
    let c := (d0.offsetTake v.toInt).withResidual (16 * (v.toInt - d0.time.offset))
    have hd : d0.offsetJudge v.toInt ov = c.showResidual :=
      (d0.offsetJudge_within h ho).trans (Dev.addResidual_near (d0.offsetTake v.toInt) hr)
    have hw := ((writes_offsetTake d0 v.toInt).modTime fun _ => c.time).trans (writes_showResidual c) (by decide)
    refine .of_offsetWrite hl hd hw (by decide) rfl fun w htime hsnap hsets hframe => ?_
    have his : ResidualIs (c.showResidual.recorded w) _ := residualIs_showResidual c
    exact ⟨hsets, his.fit, (congrArg TimeSt.offset htime :), (congrArg TimeSt.frac htime :), hsnap, hframe⟩
  case beyond =>
    exact .of_offsetWrite hl (d0.offsetJudge_beyond h ho hs) (writes_wrs d0 refuseWrites (by decide) (by decide))
      (by decide) rfl fun w htime hsnap hsets hframe => ⟨hsets, by rw [htime], hsnap, hframe⟩
  case wrap =>
    obtain ⟨t, k, hraw, hoff, hk, hw⟩ := writes_timeCycle d0 (d0.running_of_wrapsNext h)
    rw [h, if_pos rfl] at hw
    have hd : d0.when d0.wrapsNext (·.timeCycle) = d0.timeCycle := by rw [h]; rfl
    have htime : d0.timeCycle.time = t := hw.2.time
    have hclk : d0.timeCycle.clk = k := hw.2.clk
    rw [← htime] at hraw hoff hk
    rw [← hclk] at hk
    exact .of_writes (f := fun d => d.when d.wrapsNext (·.timeCycle)) hl rfl hd hw rfl
      ⟨hw.1, hraw, hoff, hk, hw.2.frameClkTime⟩
  case noWrap =>
    have hd : d0.when d0.wrapsNext (·.timeCycle) = d0 := by rw [h]; rfl
    exact .of_writes (f := fun d => d.when d.wrapsNext (·.timeCycle)) hl rfl hd (.refl d0) rfl rfl
  case anchor =>
    obtain ⟨t, hgrid, hres, hw⟩ := writes_anchorWrite_taken d0 h hr
    exact .of_writes_fit hl rfl rfl hw (by simp only [anchorWrites, List.map]; decide) rfl fun hf =>
      ⟨hf.1, (congrArg TimeSt.grid hf.2.time).trans hgrid, (congrArg TimeSt.residual hf.2.time).trans hres,
        hf.2.frameTime⟩
  case anchorBeyond =>
    exact .of_writes_fit hl rfl (d0.anchorWrite_beyond hg h hs) (writes_wrs d0 anchorRefusal (by decide) (by decide))
      (by decide) rfl id
  case mediaHeld =>
    have hw := (writes_one d0 (f := F.TIME_STATUS_MEDIA_PENDING) (by decide : 1 < 2 ^ 1)).modTime
      fun t => { t with mediaHeld := some v.toNat }
    have hd : d0.mediaWrite v.toNat = (d0.wr F.TIME_STATUS_MEDIA_PENDING 1).modTime
        fun t => { t with mediaHeld := some v.toNat } := by
      rw [Dev.mediaWrite, Nat.mod_eq_of_lt v.isLt]; rfl
    exact .of_writes_fit hl rfl hd hw (by decide) rfl fun hf => ⟨hf.1, hf.2.time, hf.2.frameTime⟩
  case mediaLoad =>
    obtain ⟨t, x, hheld, hloaded, hcount, hsub, hw⟩ := writes_mediaLoad d0 h
    refine .of_writes_fit hl rfl rfl hw (by decide) rfl fun hf => ?_
    have htime : d0.mediaLoad.fitCheck.time = t := hf.2.time
    rw [← htime] at hheld hloaded hcount hsub
    exact ⟨hf.1, hheld, hloaded, hcount, hsub,
      (congrArg (fun e : Dev => { e with time := d0.time, drive := d0.drive }) hf.2 :)⟩

end Sys2Proof.Claim
end

section
/-! SUPPORT. A statement that the model refutes: a TARGET write by which a unit lets go of its class (R87, R88). -/

namespace Sys2Proof.Machine

/-- The state after a TARGET write, with what is eligible to be sent judged anew (R88, R119). -/
def State.targetWritten (s : State) (u : Fin 16) (port : BitVec 2) (cls : BitVec 3) : State :=
  { s with chip := (s.chip.onDev fun d => d.teuTarget u (port.toNat + 4 * cls.toNat)).ripenAll.settleCells }

theorem exec_teuTargetWrite (s : State) (u : Fin 16) (port : BitVec 2) (cls : BitVec 3) (h : s.awake = true)
    (hu : s.chip.dev.unitHeld 8 u = false) :
    exec (.teuTargetWrite u port cls) s = .next (s.targetWritten u port cls) := by
  change s.teu u _ = _
  rw [State.teu_free _ hu, State.run_next, h, if_pos rfl]
  rfl

end Sys2Proof.Machine

namespace Sys2Proof.Claim

open Sys2Proof.Machine

theorem RegsOnly.net {d e : Dev} (h : RegsOnly d e) : e.net = d.net := (congrArg Dev.net h :)

/-- Time event unit 0 is enabled and holds class 3 of port 0, of which its events have released one frame. -/
def holdsClass : State :=
  ⟨⟨((Dev.reset.wrs [(F.TEU_CTL_EN 0, 1), (F.TEU_CTL_LAUNCH_ACT 0, 1), (F.TEU_TARGET_CLASS 0, 3)]).setTeu 0
      { Teu.init with launchAct := true, cls := 3 }).setMac 0 { Mac.init with rel := [(3, 1)] }, ⟨[], []⟩⟩, []⟩

/-- A write of class 6 takes the release back. -/
theorem holdsClass_loses_release : (holdsClass.targetWritten 0 0 6).chip.dev.net ≠ holdsClass.chip.dev.net := by
  decide +kernel

/-- Refutes O9: the clause of the TARGET write claims that register fields alone change. A unit whose TARGET is written
with class 6 holds its class no longer (R88), so that the releases of that class are void (R87). -/
theorem not_timedEvent : ¬ Obligations.TimedEvent := by
  intro h
  have hheld : holdsClass.chip.dev.unitHeld 8 (0 : Fin 16) = false := by decide
  obtain ⟨-, -, -, -, -, -, -, -, -, -, -, htarget⟩ := h holdsClass 0 0 6 0 0 0 ⟨rfl, rfl, rfl⟩ hheld
  obtain ⟨-, -, hregs⟩ := htarget.of_exec (exec_teuTargetWrite holdsClass 0 0 6 rfl hheld)
  exact holdsClass_loses_release hregs.net

end Sys2Proof.Claim
end

section
/-! SUPPORT. A command to an Ethernet port that comes to register writes on a change of the port's hidden state, and the
judgement of what is eligible after it (R119, R120). -/

namespace Sys2Proof.Machine

section
variable (s : State) (p : Fin 4)

theorem exec_macEnable : exec (.macEnable p) s = s.port p fun c => c.onDev fun d => d.macEnable p := rfl

theorem exec_frameReceive (bytes : List Byte) (e : LineErrors) (ovf : Bool) (bad : Option (BitVec 26)) (ago : Nat) :
    exec (.frameReceive p bytes e ovf bad ago) s =
      s.port p fun c => c.receive p bytes e.symbol e.align ovf (bad.map (·.toNat)) ago := rfl

theorem exec_frameTransmitDone (ecc : Bool) :
    exec (.frameTransmitDone p ecc) s = s.port p fun c => c.transmitDone p ecc := rfl

theorem exec_gclLoad (rise : Bool) : exec (.gclLoad p rise) s =
    s.port p fun c => c.onDev fun d => if rise = true then d.gclEnable p else d.gclLoad p := rfl

theorem exec_gclSwitch : exec (.gclSwitch p) s = s.port p fun c => c.onDev fun d => d.gclSwitch p := rfl

theorem exec_gclEntryAdvance : exec (.gclEntryAdvance p) s = s.port p fun c => c.onDev fun d => d.gclEntry p := rfl

end

end Sys2Proof.Machine

namespace Sys2Proof.Claim

open Sys2Proof.Machine

variable {d e e' x : Dev} {p : Fin 4} {m : Mac} {l : List (Fld × Nat)} {may : List Fld}

theorem MacOnly.trans {p : Nat} (h : MacOnly d e p) (h' : MacOnly e e' p) : MacOnly d e' p := by
  obtain ⟨hdev, hnet, hmac⟩ := h
  obtain ⟨hdev', hnet', hmac'⟩ := h'
  exact ⟨(congrArg (fun y : Dev => { y with regs := d.regs, net := d.net }) hdev' :).trans hdev,
    (congrArg (fun y : Net => { y with macs := d.net.macs }) hnet' :).trans hnet,
    fun r hr => (hmac' r hr).trans (hmac r hr)⟩

theorem macIs_refl (d : Dev) (p : Nat) : MacIs d d p (d.mac p) := ⟨rfl, rfl, rfl, fun _ _ => rfl⟩

theorem macIs_setMac (d : Dev) (p : Nat) (m : Mac) : MacIs d (d.setMac p m) p m := by
  refine ⟨by rw [Dev.mac_setMac_same], rfl, rfl, fun r hr => ?_⟩
  rw [Dev.mac_setMac, if_neg hr]

/-- The port is judged eligible anew, or its registers are written, after a change of its hidden state. -/
theorem MacIs.trans {p : Nat} (h : MacIs d e p m) (h' : MacIs e e' p (e.mac p)) : MacIs d e' p m := by
  obtain ⟨hm, ho⟩ := h
  obtain ⟨hm', ho'⟩ := h'
  exact ⟨by rw [hm', hm], ho.trans ho'⟩

theorem RegsOnly.macIs (h : RegsOnly d e) (p : Nat) : MacIs d e p (d.mac p) := by
  have hnet : e.net = d.net := (congrArg Dev.net h :)
  have hmac : ∀ q, e.mac q = d.mac q := fun q => by rw [Dev.mac, hnet, Dev.mac]
  exact ⟨by rw [hmac], (congrArg (fun y : Dev => { y with net := d.net }) h :), by rw [hnet], fun r _ => hmac r⟩

/-- What is eligible is judged anew: nothing else changes. -/
theorem ripen_macSame (c : Chip) (p : Nat) : ∃ e, c.ripen p = { c with dev := e } ∧ MacSame c.dev e p := by
  unfold Chip.ripen
  extract_lets ok
  split
  · exact ⟨c.dev, rfl, rfl, macIs_refl c.dev p⟩
  · let m := { c.dev.mac p with ripe := ok }
    obtain ⟨hm, ho⟩ := macIs_setMac c.dev p m
    have hripe : (c.dev.setMac p m).mac p = { c.dev.mac p with ripe := ((c.dev.setMac p m).mac p).ripe } := by
      rw [Dev.mac_setMac_same]
    exact ⟨c.dev.setMac p m, rfl, rfl, hripe, ho⟩

/-- `Sets` looks at the register file alone. -/
theorem Sets.congr_regs (h : Sets x e l may) (hx : x.regs = d.regs) (he : e'.regs = e.regs) : Sets d e' l may := by
  have hrd : ∀ f, e'.rd f = e.rd f := fun f => by rw [Dev.rd, he, Dev.rd]
  have hrd0 : ∀ f, x.rd f = d.rd f := fun f => by rw [Dev.rd, hx, Dev.rd]
  exact ⟨fun q hq => by rw [hrd, h.1 q hq], fun f hf hm => by rw [hrd, h.2 f hf hm, hrd0]⟩

section
variable {i : Instr} {s : State} {f : Dev → Dev} {P : Dev → Dev → Prop} (hl : Live s)
  (hu : s.chip.dev.unitHeld 1 p = false) (he : exec i s = s.port p fun c => c.onDev f)
include hl hu he

/-- A command that changes the device of port `p` alone, which puts no word into a cell: what is eligible is judged
anew on what it comes to. -/
theorem Moves.of_port (hd : f s.chip.dev = e) (ho : e.pool = s.chip.dev.pool)
    (hp : ∀ e', MacSame e e' p → P s.chip.dev e') : Moves i s P := by
  subst hd
  obtain ⟨hreset, hsupply, hout⟩ := hl
  obtain ⟨e', hripe, hsame⟩ := ripen_macSame (s.chip.onDev f) p
  have hpool : e'.pool = (f s.chip.dev).pool := (congrArg Dev.pool hsame.1 :)
  have hcells : ((s.chip.onDev f).ripen p).settleCells = { s.chip with dev := e' } := by
    rw [hripe]; exact if_pos (by rw [hpool, ho, hout])
  refine ⟨e', ?_, hp e' hsame⟩
  rw [he, State.port_free _ hu, State.run_next, State.awake, hreset, hsupply, hcells]
  rfl

/-- One that comes to register writes on `x`, the device with the hidden state of its port at `m`. -/
theorem Moves.of_port_writes (hd : f s.chip.dev = e) (hx : MacIs s.chip.dev x p m) (hr : x.regs = s.chip.dev.regs)
    (hw : Writes x e l may) (hp : ∀ e', Sets s.chip.dev e' l may → MacIs s.chip.dev e' p m → P s.chip.dev e') :
    Moves i s P := by
  obtain ⟨hsets, hregs⟩ := hw
  have hmac := hx.trans (hregs.macIs p)
  refine .of_port hl hu he hd (congrArg Dev.pool hmac.2.1 :) fun e' hsame => hp e' ?_ (hmac.trans hsame.2)
  exact hsets.congr_regs hr (congrArg Dev.regs hsame.1 :)

theorem Moves.of_port_regs (hd : f s.chip.dev = e) (hw : Writes s.chip.dev e l may) :
    Moves i s fun d d' => MacWrites d d' p l may :=
  .of_port_writes hl hu he hd (macIs_refl _ _) rfl hw fun _ hs hm => ⟨hs, hm⟩

/-- One whose condition does not hold. -/
theorem Moves.of_port_idle (hd : f s.chip.dev = s.chip.dev) : Moves i s fun d d' => MacSame d d' p :=
  .of_port hl hu he hd rfl fun _ h => h

end

end Sys2Proof.Claim
end

section
/-! SUPPORT. The gate lists: the first cycle start of a list, the entry that an instant falls in, and each command by
what it comes to (R115, R116). -/

namespace Sys2Proof.Machine

variable (d : Dev) (p : Nat)

/-! ### The first cycle start -/

/-- The first start of a cycle of `cyc` ns, from `base` on, not before the corrected time `t` in 2^-40 ns (R116). -/
def firstStart (t base : Int) (cyc : Nat) : Int :=
  let now := -((-t) / 2 ^ 40)
  if now ≤ base then base else base + -((base - now) / cyc) * cyc

section
variable (t base : Int) (cyc : Nat)

/-- It is the base where that has not passed; else it lies whole cycles behind the base, and less than one cycle
behind `t` rounded up to ns. -/
theorem firstStart_cases (hc : 0 < cyc) : (-((-t) / 2 ^ 40) ≤ base ∧ firstStart t base cyc = base) ∨
    ∃ k : Int, firstStart t base cyc = base + k * cyc ∧ base < -((-t) / 2 ^ 40) ∧
      -((-t) / 2 ^ 40) ≤ base + k * cyc ∧ base + k * cyc < -((-t) / 2 ^ 40) + cyc := by
  unfold firstStart
  extract_lets now
  split
  case isTrue h => exact .inl ⟨h, rfl⟩
  case isFalse h =>
    have hc' : (0 : Int) < cyc := by exact_mod_cast hc
    have hdiv := Int.mul_ediv_add_emod (base - now) cyc
    have hlow := Int.emod_nonneg (base - now) hc'.ne'
    have hhigh := Int.emod_lt_of_pos (base - now) hc'
    refine .inr ⟨-((base - now) / cyc), rfl, by omega, ?_, ?_⟩ <;> linarith

theorem firstStart_aligned (hc : 0 < cyc) : (firstStart t base cyc - base) % cyc = 0 := by
  rcases firstStart_cases t base cyc hc with ⟨-, h⟩ | ⟨k, h, -⟩ <;> rw [h] <;> simp

theorem base_le_firstStart (hc : 0 < cyc) : base ≤ firstStart t base cyc := by
  rcases firstStart_cases t base cyc hc with ⟨-, h⟩ | ⟨k, h, hlt, hle, -⟩ <;> omega

theorem le_firstStart (hc : 0 < cyc) : t ≤ firstStart t base cyc * 2 ^ 40 := by
  rcases firstStart_cases t base cyc hc with ⟨hle, h⟩ | ⟨k, h, -, hle, -⟩ <;> omega

/-- No earlier start of a cycle will do. -/
theorem firstStart_least (hc : 0 < cyc) :
    firstStart t base cyc = base ∨ (firstStart t base cyc - cyc) * 2 ^ 40 < t := by
  rcases firstStart_cases t base cyc hc with ⟨-, h⟩ | ⟨k, h, -, -, hlt⟩
  · exact .inl h
  · right; omega

end

/-! ### The entry in force -/

/-- Where a list's entry `k` begins in its cycle, in 0.1 ns. -/
def entryStart (l : List (Nat × Nat)) (k : Nat) : Nat := ((l.take k).map fun e => e.2 * 10).sum

/-- The entry in force at a phase of the cycle is the one that the phase falls in; the last one holds to the cycle's
end. -/
theorem gateAt_entry (cyc ph : Nat) : ∀ (l : List (Nat × Nat)) (t i k : Nat), k < l.length → t + entryStart l k ≤ ph →
    ph < t + entryStart l (k + 1) ∨ k + 1 = l.length →
    ∃ w, gateAt cyc ph t i l = (i + k, (l.getD k (0, 0)).1, w)
  | [], _, _, k, hk, _, _ => absurd hk (Nat.not_lt_zero k)
  | [e], t, i, k, hk, _, _ => by
    obtain rfl : k = 0 := by simpa using hk
    exact ⟨_, rfl⟩
  | e :: e' :: l, t, i, 0, _, _, hend => by
    have hin : ph < t + e.2 * 10 := by simpa [entryStart] using hend
    exact ⟨_, if_pos hin⟩
  | e :: e' :: l, t, i, k + 1, hk, hstart, hend => by
    have hcons : ∀ j, entryStart (e :: e' :: l) (j + 1) = e.2 * 10 + entryStart (e' :: l) j := fun j => rfl
    rw [hcons] at hstart
    rw [hcons] at hend
    have hpast : ¬ ph < t + e.2 * 10 := by omega
    obtain ⟨w, hw⟩ := gateAt_entry cyc ph (e' :: l) (t + e.2 * 10) (i + 1) k (by simpa using hk) (by omega)
      (hend.imp (by omega) (by simp))
    refine ⟨w, (if_neg hpast).trans ?_⟩
    rw [hw, Nat.add_right_comm, Nat.add_assoc]
    rfl

/-- The entry that an instant falls in, with its mask. -/
theorem Gcl.sample_entry (g : Gcl) (t : Int) {k : Nat} (hk : k < g.entries.length)
    (hs : entryStart g.entries k ≤ ((t - g.base * 10) % (g.cycle * 10)).toNat)
    (he : ((t - g.base * 10) % (g.cycle * 10)).toNat < entryStart g.entries (k + 1) ∨ k + 1 = g.entries.length) :
    ∃ w, g.sample t = (k, (g.entries.getD k (0, 0)).1, w) := by
  simpa [Gcl.sample] using gateAt_entry (g.cycle * 10) _ g.entries 0 0 k hk (by simpa using hs) (by simpa using he)

section
variable {d p} {g : Gcl}

/-- With no list pending, the operating one's entry opens the gates. -/
theorem Dev.gateNow_operating (cl : Nat) (t : Int) (hen : d.on (F.MAC_GCL_CTL_EN p) = true)
    (hop : (d.mac p).gclOp = some g) (hpend : (d.mac p).gclPend = none) :
    (d.gateNow p cl t).1 = bitAt (g.sample t).2.1 cl := by
  simp [Dev.gateNow, Dev.gclAt, hen, hop, hpend]

/-- Every gate is open where gates are not enabled, and where no list has been taken. -/
theorem Dev.gateNow_open (cl : Nat) (t : Int) (h : d.on (F.MAC_GCL_CTL_EN p) = false ∨
    (d.mac p).gclOp = none ∧ (d.mac p).gclPend = none) : (d.gateNow p cl t).1 = true := by
  have hnone : d.gclAt p t = none := by
    rcases h with hoff | ⟨hop, hpend⟩
    · simp [Dev.gclAt, hoff]
    · simp [Dev.gclAt, hop, hpend]
  simp [Dev.gateNow, hnone]

end

/-! ### The commands -/

/-- The list that the registers hold, each number cut to its range, as it becomes pending (R115, R116). -/
def Dev.gclTaken : Gcl :=
  let n := min 64 (max 1 (d.rd (F.MAC_GCL_CTL_COUNT p)))
  let cyc := min 1000000000 (max 1000 (d.rd (F.MAC_GCL_CYCLE_NS p)))
  let base := signedOf 64 (d.mac p).gclBase
  ⟨(List.range n).map fun i => (d.rd (F.MAC_GCL_ENTRY_MASK_GATES p i), d.rd (F.MAC_GCL_ENTRY_INTERVAL_NS p i)),
    cyc, base, firstStart (d.corrAt d.time.raw) base cyc⟩

/-- The port's hidden state with that list pending. -/
def Dev.gclWaiting : Mac := { d.mac p with gclPend := some (d.gclTaken p) }

theorem Dev.gclLoad_eq : d.gclLoad p = (d.setMac p (d.gclWaiting p)).wr (F.MAC_GCL_STATUS_PENDING p) 1 := rfl

theorem Dev.gclTaken_entry {i : Nat} (h : i < (d.gclTaken p).entries.length) : (d.gclTaken p).entries[i]? =
    some (d.rd (F.MAC_GCL_ENTRY_MASK_GATES p i), d.rd (F.MAC_GCL_ENTRY_INTERVAL_NS p i)) := by
  rw [List.getElem?_eq_getElem h]
  simp [Dev.gclTaken]

/-- EN is no field that the list is taken from. -/
theorem Dev.gclTaken_set_en : (d.set (F.MAC_GCL_CTL_EN p)).gclTaken p = d.gclTaken p := by
  have hrd : ∀ f : Fld, f.id ≠ (F.MAC_GCL_CTL_EN p).id → (d.set (F.MAC_GCL_CTL_EN p)).rd f = d.rd f :=
    fun f => Dev.rd_wr_other d 1
  have hcount := hrd (F.MAC_GCL_CTL_COUNT p) (by simp [Fld.id, F.MAC_GCL_CTL_COUNT, F.MAC_GCL_CTL_EN])
  have hcycle := hrd (F.MAC_GCL_CYCLE_NS p) (by
    simp only [Fld.id, F.MAC_GCL_CYCLE_NS, F.MAC_GCL_CYCLE, F.MAC_GCL_CTL_EN, F.MAC_GCL_CTL]; omega)
  have hmask := fun i => hrd (F.MAC_GCL_ENTRY_MASK_GATES p i) (by
    simp only [Fld.id, F.MAC_GCL_ENTRY_MASK_GATES, F.MAC_GCL_ENTRY_MASK, F.MAC_GCL_CTL_EN, F.MAC_GCL_CTL]; omega)
  have hinterval := fun i => hrd (F.MAC_GCL_ENTRY_INTERVAL_NS p i) (by
    simp only [Fld.id, F.MAC_GCL_ENTRY_INTERVAL_NS, F.MAC_GCL_ENTRY_INTERVAL, F.MAC_GCL_CTL_EN, F.MAC_GCL_CTL]; omega)
  have hrate := hrd F.TIME_RATE_RATE (by
    simp only [Fld.id, F.TIME_RATE_RATE, F.TIME_RATE, F.MAC_GCL_CTL_EN, F.MAC_GCL_CTL]; omega)
  have hcorr : (d.set (F.MAC_GCL_CTL_EN p)).corrAt d.time.raw = d.corrAt d.time.raw := by
    rw [Dev.corrAt, Dev.rateTerm, Dev.rate, hrate]; rfl
  unfold Dev.gclTaken
  simp only [hcount, hcycle, hmask, hinterval]
  exact congrArg (fun t => Gcl.mk _ _ _ (firstStart t _ _)) hcorr

/-- A rise of EN makes the list pending. -/
theorem Dev.gclEnable_rise (h : d.on (F.MAC_GCL_CTL_EN p) = false) : d.gclEnable p =
    (d.setMac p (d.gclWaiting p)).wrs [(F.MAC_GCL_CTL_EN p, 1), (F.MAC_GCL_STATUS_PENDING p, 1)] := by
  have hwait : (d.set (F.MAC_GCL_CTL_EN p)).gclWaiting p = d.gclWaiting p :=
    congrArg (fun g => { d.mac p with gclPend := some g }) (d.gclTaken_set_en p)
  rw [Dev.gclEnable, h, if_neg Bool.false_ne_true, Dev.gclLoad_eq, hwait]
  rfl

theorem Dev.gclEnable_again (h : d.on (F.MAC_GCL_CTL_EN p) = true) : d.gclEnable p = d := if_pos h

/-- The port's hidden state once list `g` has taken over. -/
def Dev.gclSwitched (g : Gcl) : Mac := { d.mac p with gclOp := some g, gclPend := none }

section
variable {d p} {g : Gcl}

theorem Dev.gclSwitch_due (hp : (d.mac p).gclPend = some g) (ht : g.start * 2 ^ 40 ≤ d.corrAt d.time.raw) :
    d.gclSwitch p = ((d.setMac p (d.gclSwitched p g)).wr (F.MAC_GCL_STATUS_PENDING p) 0).gclEntry p := by
  unfold Dev.gclSwitch
  rw [hp]
  exact if_pos ht

theorem Dev.gclSwitch_early (hp : (d.mac p).gclPend = some g) (ht : d.corrAt d.time.raw < g.start * 2 ^ 40) :
    d.gclSwitch p = d := by
  unfold Dev.gclSwitch
  rw [hp]
  exact if_neg ht.not_ge

theorem Dev.gclEntry_operating (hop : (d.mac p).gclOp = some g) (hen : d.on (F.MAC_GCL_CTL_EN p) = true) :
    d.gclEntry p = d.wr (F.MAC_GCL_STATUS_ENTRY p) (g.sample d.now10).1 := by
  unfold Dev.gclEntry
  rw [hop]
  exact if_pos hen

theorem Dev.gclEntry_none (hop : (d.mac p).gclOp = none) : d.gclEntry p = d := by
  unfold Dev.gclEntry
  rw [hop]

end

end Sys2Proof.Machine

namespace Sys2Proof.Claim

open Sys2Proof.Machine

/-- The pending list starts at the first start of its cycle that corrected time has not passed. -/
theorem gclTaken_start (d : Dev) (p : Nat) :
    let g := d.gclTaken p
    (g.start - g.base) % (g.cycle : Int) = 0 ∧ g.base ≤ g.start ∧ d.corrAt d.time.raw ≤ g.start * 2 ^ 40 ∧
      (g.start = g.base ∨ (g.start - g.cycle) * 2 ^ 40 < d.corrAt d.time.raw) := by
  intro g
  have hcycle : 0 < g.cycle := Nat.lt_min.mpr ⟨by decide, lt_max_of_lt_left (by decide)⟩
  exact ⟨firstStart_aligned _ _ _ hcycle, base_le_firstStart _ _ _ hcycle, le_firstStart _ _ _ hcycle,
    firstStart_least _ _ _ hcycle⟩

theorem writes_gclEntry (d : Dev) (p : Nat) : Writes d (d.gclEntry p) [] [F.MAC_GCL_STATUS_ENTRY p] := by
  unfold Dev.gclEntry
  split
  · exact .same d _
  · split
    · exact writes_wr d _ _
    · exact .same d _

theorem gcl_en_ne_pending (p : Nat) : (F.MAC_GCL_CTL_EN p).id ≠ (F.MAC_GCL_STATUS_PENDING p).id := by
  simp only [Fld.id, F.MAC_GCL_CTL_EN, F.MAC_GCL_CTL, F.MAC_GCL_STATUS_PENDING, F.MAC_GCL_STATUS]; omega

theorem gcl_pending_ne_entry (p : Nat) : (F.MAC_GCL_STATUS_PENDING p).id ≠ (F.MAC_GCL_STATUS_ENTRY p).id := by
  simp [Fld.id, F.MAC_GCL_STATUS_PENDING, F.MAC_GCL_STATUS_ENTRY]

theorem writes_gclEnable (x : Dev) (p : Nat) :
    Writes x (x.wrs [(F.MAC_GCL_CTL_EN p, 1), (F.MAC_GCL_STATUS_PENDING p, 1)])
      [(F.MAC_GCL_CTL_EN p, 1), (F.MAC_GCL_STATUS_PENDING p, 1)] [] :=
  writes_wrs x _ (by simpa using gcl_en_ne_pending p) (by simp [F.MAC_GCL_CTL_EN, F.MAC_GCL_STATUS_PENDING])

theorem writes_gclLoad (x : Dev) (p : Nat) : Writes x (x.wr (F.MAC_GCL_STATUS_PENDING p) 1)
    [(F.MAC_GCL_CTL_EN p, x.rd (F.MAC_GCL_CTL_EN p)), (F.MAC_GCL_STATUS_PENDING p, 1)] [] :=
  (writes_kept x (F.MAC_GCL_CTL_EN p)).trans (writes_one x (by simp [F.MAC_GCL_STATUS_PENDING]))
    (by simpa using gcl_en_ne_pending p)

theorem writes_gclSwitch (x : Dev) (p : Nat) : Writes x ((x.wr (F.MAC_GCL_STATUS_PENDING p) 0).gclEntry p)
    [(F.MAC_GCL_STATUS_PENDING p, 0)] [F.MAC_GCL_STATUS_ENTRY p] :=
  (writes_one x (by simp [F.MAC_GCL_STATUS_PENDING])).trans (writes_gclEntry _ p)
    (by simpa using gcl_pending_ne_entry p)

/-- Settles O25: each command by its condition, as register writes on the port with its new lists, and the gates by the
entry that the instant falls in. -/
theorem gates : Obligations.Gates := by
  intro s p g i cl hl hu
  unfold GatesAt
  intro d0 m0 n cyc base phase into loads
  have hentry := exec_gclEntryAdvance s p
  have hswitch := exec_gclSwitch s p
  have loaded : ∀ en e', Sets d0 e' [(F.MAC_GCL_CTL_EN p, en), (F.MAC_GCL_STATUS_PENDING p, 1)] [] →
      MacIs d0 e' p (d0.gclWaiting p) → loads en d0 e' := by
    intro en e' hs hm
    obtain ⟨hmac, honly⟩ := hm
    have hpend : (e'.mac p).gclPend = some (d0.gclTaken p) := congrArg Mac.gclPend hmac
    obtain ⟨haligned, hbase, hnow, hleast⟩ := gclTaken_start d0 p
    have hlen : (d0.gclTaken p).entries.length = n := by simp [Dev.gclTaken, n]
    refine ⟨hs, (congrArg Mac.gclOp hmac :), by rw [hpend]; rfl, ?_, fun hi => ?_, ?_, ?_, honly⟩
    · rw [hpend, Option.map_some, hlen]; rfl
    · rw [hpend, Option.map_some, d0.gclTaken_entry p (hlen.symm ▸ hi)]
    · rw [hpend, Option.all_some]
      simp only [Bool.and_eq_true, decide_eq_true_eq]
      exact ⟨⟨⟨haligned, hbase⟩, hnow⟩, hleast⟩
    · exact (congrArg (fun m : Mac => { m with gclPend := m0.gclPend, ripe := m0.ripe }) hmac :)
  refine ⟨fun hoff => ?rise, fun hon => ?again, ?load, fun hp ht => ?due, fun hp ht => ?early, fun hop hen => ?advance,
    fun hop => ?noList, fun hen hop hp hi hc hs he => ?inForce, Dev.gateNow_open _ _⟩
  case rise =>
    exact .of_port_writes hl hu (exec_gclLoad s p true) (d0.gclEnable_rise p hoff) (macIs_setMac d0 p _) rfl
      (writes_gclEnable _ p) (loaded 1)
  case again => exact .of_port_idle hl hu (exec_gclLoad s p true) (d0.gclEnable_again p hon)
  case load =>
    exact .of_port_writes hl hu (exec_gclLoad s p false) (d0.gclLoad_eq p) (macIs_setMac d0 p _) rfl
      (writes_gclLoad _ p) (loaded _)
  case due =>
    exact .of_port_writes hl hu hswitch (Dev.gclSwitch_due hp ht) (macIs_setMac d0 p _) rfl (writes_gclSwitch _ p)
      fun _ hs hm => ⟨hs, hm⟩
  case early => exact .of_port_idle hl hu hswitch (Dev.gclSwitch_early hp ht)
  case advance => exact .of_port_regs hl hu hentry (Dev.gclEntry_operating hop hen) (writes_cut d0 _ _)
  case noList => exact .of_port_idle hl hu hentry (Dev.gclEntry_none hop)
  case inForce =>
    obtain ⟨w, hsample⟩ := g.sample_entry d0.now10 hi hs he
    have hw := writes_one d0 (f := F.MAC_GCL_STATUS_ENTRY p) i.isLt
    exact ⟨by rw [Dev.gateNow_operating _ _ hen hop hp, hsample],
      .of_port_regs hl hu hentry ((Dev.gclEntry_operating hop hen).trans (by rw [hsample])) hw⟩

end Sys2Proof.Claim
end

section
/-! SUPPORT. Statements that the model refutes: the mode that a port takes, the head of a receive ring, and the end of a
frame whose descriptor has left the page region (R94, R103, R111, R192). -/

namespace Sys2Proof.Machine

/-- The state after a command to port `p`, with what is eligible to be sent judged anew (R119, R120). -/
def State.portDone (s : State) (p : Fin 4) (f : Chip → Chip) : State :=
  { s with chip := ((f s.chip).ripen p).settleCells }

theorem State.port_next {s : State} {p : Fin 4} (f : Chip → Chip) (h : s.awake = true)
    (hu : s.chip.dev.unitHeld 1 p = false) : s.port p f = .next (s.portDone p f) := by
  rw [State.port_free f hu, State.run_next, h, if_pos rfl]
  rfl

end Sys2Proof.Machine

namespace Sys2Proof.Claim

open Sys2Proof.Machine

/-! ### The mode that a port takes at its rise -/

/-- A port 0 that is off, whose field MODE lists a value wider than its one bit. -/
def wideMode : State := ⟨⟨{ Dev.reset with regs := [((F.MAC_CTL_MODE 0).id, 2)] }, ⟨[], []⟩⟩, []⟩

/-- The rise of EN cuts what it takes to the one bit of MODE_ACTIVE. -/
theorem wideMode_rise_cuts :
    (wideMode.portDone 0 fun c => c.onDev fun d => d.macEnable 0).chip.dev.rd (F.MAC_STATUS_MODE_ACTIVE 0) = 0 := by
  decide +kernel

/-- Refutes O22: the clause of the rise of EN claims that MODE_ACTIVE reads what MODE reads, in every state. A register
file is plain data, and one that lists a value wider than the field MODE, as no write of MODE leaves it, makes the two
differ: MODE_ACTIVE takes the value cut to its one bit. -/
theorem not_macLink : ¬ Obligations.MacLink := by
  intro h
  have hheld : wideMode.chip.dev.unitHeld 1 (0 : Fin 4) = false := by decide
  obtain ⟨hrise, -⟩ := h wideMode 0 0 0 0 ⟨rfl, rfl, rfl⟩ hheld
  have hexec := (exec_macEnable wideMode 0).trans (State.port_next _ rfl hheld)
  obtain ⟨⟨hset, -⟩, -⟩ := (hrise (by decide +kernel)).of_exec hexec
  have hmode := hset (F.MAC_STATUS_MODE_ACTIVE 0, 2) (by decide +kernel)
  exact absurd (hmode.symm.trans wideMode_rise_cuts) (by decide)

/-! ### The head of a receive ring -/

/-- A port 0 that delivers bad frames to a ring of 2^13 entries whose HEAD stands at 4095. -/
def deepRing : State :=
  ⟨⟨Dev.reset.wrs [(F.MAC_CTL_EN 0, 1), (F.MAC_CTL_DELIVER_BAD 0, 1), (F.QM_REGION_CELLS, 16),
    (F.MAC_MAX_LEN_LEN 0, 1518), (F.MAC_RXR_CFG_BASE 0 1, 0x5000), (F.MAC_RXR_CFG_SIZE 0 1, 13),
    (F.MAC_RXR_PTR_HEAD 0 1, 4095), (F.MAC_POOL_FREE 0, 1)], ⟨[], []⟩⟩, []⟩

/-- A frame of 14 bytes. -/
def shortFrame : List Byte := List.replicate 14 0

/-- HEAD, of 12 bits, goes on to 0. -/
theorem deepRing_head_wraps : (deepRing.portDone 0 fun c =>
    c.receive 0 shortFrame true false false none 0).chip.dev.rd (F.MAC_RXR_PTR_HEAD 0 1) = 0 := by
  decide +kernel

/-- Refutes O23: the clause of a bad frame that is delivered claims that HEAD goes on modulo the ring's size, for every
value of SIZE. HEAD has 12 bits, so that in a ring of 2^13 entries it goes on from 4095 to 0 and not to 4096. A write of
SIZE stores 12 at the most; the clause does not ask for it. -/
theorem not_frameReceive : ¬ Obligations.FrameReceive := by
  intro h
  have hheld : deepRing.chip.dev.unitHeld 1 (0 : Fin 4) = false := by decide +kernel
  have hexec := (exec_frameReceive deepRing 0 shortFrame ⟨true, false⟩ false none 0).trans (State.port_next _ rfl hheld)
  obtain ⟨-, -, -, -, -, -, -, hbad, -⟩ := h deepRing 0 shortFrame true false false none 0 0 0 0 ⟨rfl, rfl, rfl⟩ hheld
  obtain ⟨-, -, -, hhead, -⟩ := (hbad (by decide +kernel) (by decide) (by decide +kernel) rfl rfl (by decide +kernel)
    (by decide +kernel) (by decide +kernel) (by decide +kernel) (by decide +kernel) (by decide +kernel)).of_exec hexec
  exact absurd (hhead.symm.trans deepRing_head_wraps) (by decide +kernel)

/-! ### The end of a frame whose descriptor has left the page region -/

/-- A frame of class 0 on the line of port 0, as its ring's base has been written with 0, in the cell region. -/
def strayRing : State :=
  ⟨⟨(Dev.reset.wrs [(F.MAC_CTL_EN 0, 1), (F.QM_REGION_CELLS, 16), (F.MAC_TXR_PTR_TAIL 0 0, 1)]).setMac 0
      { Mac.init with line := some ⟨0, [], 0, none, none, none⟩ }, ⟨[], []⟩⟩, []⟩

/-- The descriptor is not written. -/
theorem strayRing_keeps_descriptor :
    (strayRing.portDone 0 fun c => c.transmitDone 0 false).chip.mem.load 4 4 = 0 := by
  decide +kernel

/-- Refutes O24: the clause of a frame's end claims that its descriptor is completed wherever it lies below 2^26. One
that a write of the ring's base has put into the cell region is not written: RING_ERR is set instead (R192). -/
theorem not_macRing : ¬ Obligations.MacRing := by
  intro h
  have hheld : strayRing.chip.dev.unitHeld 1 (0 : Fin 4) = false := by decide +kernel
  obtain ⟨-, -, -, -, -, -, hdone, -⟩ :=
    h strayRing 0 0 0 0 0 false ⟨0, [], 0, none, none, none⟩ 0 ⟨rfl, rfl, rfl⟩ hheld
  have hexec := (exec_frameTransmitDone strayRing 0 false).trans (State.port_next _ rfl hheld)
  obtain ⟨⟨hw1, -⟩, -⟩ :=
    (hdone (by decide +kernel) rfl rfl (by decide) (by decide +kernel) (by decide +kernel)).of_exec hexec
  have hkept := hw1.symm.trans strayRing_keeps_descriptor
  omega

end Sys2Proof.Claim
end

section
/-! SUPPORT. Loads of route entries: what they leave in the entries' fields, and that nothing but the route table, the
routes' hidden state and the queues moves (R305, R473). -/

namespace Sys2Proof.Machine

/-- The device with the routes' hidden state and the queues of another. -/
def Dev.routing (d e : Dev) : Dev :=
  { d with routePend := e.routePend, routeFresh := e.routeFresh, txOld := e.txOld, queues := e.queues }

/-- The fields, besides ROUTE[e].Q, that a load of entry `e` may move (R305). -/
def routeF (e : Nat) : List Fld :=
  [F.ROUTE_E_PENDING e, F.ROUTE_STATUS_PENDING, F.ROUTE_E_DENIED e, F.ROUTE_E_OFF e, F.ROUTE_E_Q_ACTIVE e,
    F.ROUTE_E_OFF_ACTIVE e, F.ROUTE_EVENTS_DENIED_EV, F.ROUTE_DENIED_ENDPOINT, F.ROUTE_DENIED_CAUSE]

theorem routeQ_not_mem_routeF (e x : Nat) : (F.ROUTE_E_Q e).id ∉ (routeF x).map Fld.id := by
  simp only [routeF, List.map, List.mem_cons, List.not_mem_nil, or_false, Fld.id, F.ROUTE_E_Q, F.ROUTE_E_PENDING,
    F.ROUTE_STATUS_PENDING, F.ROUTE_E_DENIED, F.ROUTE_E_OFF, F.ROUTE_E_Q_ACTIVE, F.ROUTE_E_OFF_ACTIVE,
    F.ROUTE_EVENTS_DENIED_EV, F.ROUTE_DENIED_ENDPOINT, F.ROUTE_DENIED_CAUSE, F.ROUTE_E, F.ROUTE_STATUS, F.ROUTE_EVENTS,
    F.ROUTE_DENIED]
  omega

theorem routeQ_inj {e x : Nat} (h : (F.ROUTE_E_Q e).id = (F.ROUTE_E_Q x).id) : e = x := by
  simp only [Fld.id, F.ROUTE_E_Q, F.ROUTE_E] at h; omega

/-- The route table's registers lie from ROUTE.CTL upward. -/
theorem routeF_above {e i : Nat} (h : i ∈ (routeF e).map Fld.id) : F.ROUTE_CTL * 32 ≤ i := by
  simp only [routeF, List.map, List.mem_cons, List.not_mem_nil, or_false, Fld.id, F.ROUTE_E_PENDING,
    F.ROUTE_STATUS_PENDING, F.ROUTE_E_DENIED, F.ROUTE_E_OFF, F.ROUTE_E_Q_ACTIVE, F.ROUTE_E_OFF_ACTIVE,
    F.ROUTE_EVENTS_DENIED_EV, F.ROUTE_DENIED_ENDPOINT, F.ROUTE_DENIED_CAUSE, F.ROUTE_E, F.ROUTE_STATUS, F.ROUTE_EVENTS,
    F.ROUTE_DENIED] at h
  unfold F.ROUTE_CTL
  omega

end Sys2Proof.Machine

namespace Sys2Proof.Claim

open Sys2Proof.Machine

variable {d e e' : Dev} {l m : List (Fld × Nat)} {may may' : List Fld}

/-- Register writes move neither the routes' hidden state nor the queues. -/
theorem Writes.routing (h : Writes d e l may) : Writes (d.routing e) e l may := by
  have hd : d.routing e = d := (congrArg d.routing h.2 :)
  rwa [hd]

/-- A change of the hidden state alone. -/
theorem Writes.ofRouting (h : d.routing e = e) : Writes (d.routing e) e [] [] := h ▸ Writes.refl e

theorem Writes.transRouting (h : Writes (d.routing e) e l may) (h' : Writes (e.routing e') e' m may')
    (hd : ∀ i ∈ l.map (fun p => p.1.id), i ∉ m.map (fun p => p.1.id) ++ may'.map Fld.id) :
    Writes (d.routing e') e' (l ++ m) (may ++ may') :=
  (h.hidden (fun x => x.routing e') fun _ _ => rfl).trans h' hd

/-- What may have moved before does not bear on what is set after. -/
theorem Writes.thenWrites (h : Writes d e [] may) (h' : Writes e e' m may') : Writes d e' m (may ++ may') :=
  h.trans h' fun _ hi => absurd hi List.not_mem_nil

theorem Writes.thenRouting (h : Writes (d.routing e) e [] may) (h' : Writes (e.routing e') e' m may') :
    Writes (d.routing e') e' m (may ++ may') :=
  (h.hidden (fun x => x.routing e') fun _ _ => rfl).thenWrites h'

theorem writes_routeStatus (d : Dev) : Writes d d.routeStatus [] [F.ROUTE_STATUS_PENDING] := writes_wr d _ _

theorem writes_dropPend (d : Dev) (x : Nat) : Writes (d.routing (d.dropPend x)) (d.dropPend x) []
    [F.ROUTE_E_PENDING x, F.ROUTE_STATUS_PENDING] := by
  let y := (d.setPend x none).setOldBind x none
  have hdrop : Writes (d.routing y) y [] [] := .ofRouting rfl
  exact (hdrop.thenRouting (writes_wr y (F.ROUTE_E_PENDING x) 0).routing).thenRouting (writes_routeStatus _).routing

theorem writes_bind (d : Dev) (x q : Nat) (off : Bool) : Writes (d.routing (d.bind x q off)) (d.bind x q off) []
    [F.ROUTE_E_Q_ACTIVE x, F.ROUTE_E_OFF_ACTIVE x] := by
  have hregs := writes_may d [(F.ROUTE_E_Q_ACTIVE x, q), (F.ROUTE_E_OFF_ACTIVE x, bit off)]
  let y := d.wrs [(F.ROUTE_E_Q_ACTIVE x, q), (F.ROUTE_E_OFF_ACTIVE x, bit off)]
  have hsink : Writes (y.routing (d.bind x q off)) (d.bind x q off) [] [] := by
    refine Writes.ofRouting ?_
    unfold Dev.bind
    extract_lets z
    split
    · cases off <;> rfl
    · rfl
  exact hregs.routing.thenRouting hsink

theorem writes_routeDenied (d : Dev) (x cause : Nat) : Writes d (d.routeDenied x cause) []
    [F.ROUTE_E_DENIED x, F.ROUTE_EVENTS_DENIED_EV, F.ROUTE_DENIED_ENDPOINT, F.ROUTE_DENIED_CAUSE] :=
  writes_may d [(F.ROUTE_E_DENIED x, 1), (F.ROUTE_EVENTS_DENIED_EV, 1), (F.ROUTE_DENIED_ENDPOINT, x),
    (F.ROUTE_DENIED_CAUSE, cause)]

/-- The end of a load: the entry is bound, or OFF with its refusal. -/
theorem writes_routeLoad_end (d : Dev) (x q : Nat) (off b : Bool) :
    let e := if b then ((d.wr (F.ROUTE_E_OFF x) 1).bind x q true).routeDenied x 3
      else (d.wr (F.ROUTE_E_OFF x) (bit off)).bind x q off
    Writes (d.routing e) e [] (routeF x) := by
  have hbind : ∀ o v, Writes (d.routing ((d.wr (F.ROUTE_E_OFF x) v).bind x q o)) ((d.wr (F.ROUTE_E_OFF x) v).bind x q o)
      [] [F.ROUTE_E_OFF x, F.ROUTE_E_Q_ACTIVE x, F.ROUTE_E_OFF_ACTIVE x] := fun o v =>
    (writes_wr d _ v).routing.thenRouting (writes_bind _ x q o)
  cases b
  · exact (hbind off (bit off)).mono (List.map_subset _ (by simp [routeF]))
  · exact ((hbind true 1).thenRouting (writes_routeDenied _ x 3).routing).mono (List.map_subset _ (by simp [routeF]))

/-- A load sets ROUTE[e].Q and may move the other fields of the entry and those of a refusal. -/
theorem writes_routeLoad (d : Dev) (x q : Nat) (off : Bool) : Writes (d.routing (d.routeLoad x q off))
    (d.routeLoad x q off) [(F.ROUTE_E_Q x, q % 2 ^ 12)] (routeF x) := by
  let y := ((d.dropPend x).wr (F.ROUTE_E_Q x) q).clr (F.ROUTE_E_DENIED x)
  have hq : ∀ may : List Fld, may ⊆ routeF x →
      ∀ i ∈ [(F.ROUTE_E_Q x, q % 2 ^ 12)].map (fun p => p.1.id), i ∉ may.map Fld.id := fun may hs i hi hm => by
    obtain rfl := List.mem_singleton.mp hi
    exact routeQ_not_mem_routeF x x (List.map_subset _ hs hm)
  have hset := (writes_dropPend d x).thenRouting (writes_cut _ (F.ROUTE_E_Q x) q).routing
  have hclear := hset.transRouting (writes_wr _ (F.ROUTE_E_DENIED x) 0).routing
    (hq [F.ROUTE_E_DENIED x] (by simp [routeF]))
  have hend := hclear.transRouting (writes_routeLoad_end y x q off (!off && y.heldBy x q))
    (hq (routeF x) (List.Subset.refl _))
  exact hend.mono (List.map_subset _ (by simp [routeF]))

/-- Loads of different entries, one after another. -/
theorem writes_routeLoad_each (rs : List (Nat × Nat)) (hn : (rs.map (·.1)).Nodup) (d : Dev) :
    let e := rs.foldl (fun d p => d.routeLoad p.1 p.2 false) d
    Writes (d.routing e) e (rs.map fun p => (F.ROUTE_E_Q p.1, p.2 % 2 ^ 12)) (rs.flatMap fun p => routeF p.1) := by
  induction rs generalizing d with
  | nil => exact .refl d
  | cons r rs ih =>
    obtain ⟨hr, hrs⟩ := List.nodup_cons.mp hn
    refine (writes_routeLoad d r.1 r.2 false).transRouting (ih hrs _) fun i hi hm => ?_
    obtain rfl : i = (F.ROUTE_E_Q r.1).id := by simpa using hi
    rcases List.mem_append.mp hm with hm | hm
    · obtain ⟨_, hmem, heq⟩ := List.mem_map.mp hm
      obtain ⟨p, hp, rfl⟩ := List.mem_map.mp hmem
      exact hr (List.mem_map.mpr ⟨p, hp, routeQ_inj heq⟩)
    · obtain ⟨g, hg, heq⟩ := List.mem_map.mp hm
      obtain ⟨p, -, hg⟩ := List.mem_flatMap.mp hg
      exact routeQ_not_mem_routeF r.1 p.1 (List.mem_map.mpr ⟨g, hg, heq⟩)

theorem each_set_eq_wrs (g : Nat → Fld) (l : List Nat) (d : Dev) :
    (d.each l fun d x => d.set (g x)) = d.wrs (l.map fun x => (g x, 1)) := by
  rw [Dev.each, Dev.wrs, List.foldl_map]; rfl

/-- The entries of a unit's endpoints are loaded together (R305). -/
theorem writes_routeLoads (d : Dev) (rs : List (Nat × Nat)) (hn : (rs.map (·.1)).Nodup) :
    Writes (d.routing (d.routeLoads rs)) (d.routeLoads rs) (rs.map fun p => (F.ROUTE_E_Q p.1, p.2 % 2 ^ 12))
      (rs.flatMap fun p => routeF p.1) := by
  have hoff := writes_may d ((rs.map (·.1)).map fun x => (F.ROUTE_E_OFF_ACTIVE x, 1))
  rw [← each_set_eq_wrs] at hoff
  refine (hoff.routing.thenRouting (writes_routeLoad_each rs hn _)).mono
    (List.map_subset _ ?_)
  refine List.append_subset.mpr ⟨fun g hg => ?_, List.Subset.refl _⟩
  obtain ⟨p, hp, rfl⟩ : ∃ p ∈ rs, F.ROUTE_E_OFF_ACTIVE p.1 = g := by simpa using hg
  exact List.mem_flatMap.mpr ⟨p, hp, by simp [routeF]⟩

variable {rs : List (Nat × Nat)}

theorem rd_routeLoads_Q {p : Nat × Nat} (hn : (rs.map (·.1)).Nodup) (hp : p ∈ rs) :
    (d.routeLoads rs).rd (F.ROUTE_E_Q p.1) = p.2 % 2 ^ 12 :=
  (writes_routeLoads d rs hn).1.1 (F.ROUTE_E_Q p.1, p.2 % 2 ^ 12) (List.mem_map_of_mem hp)

/-- Loads move no field of a register below the route table's. -/
theorem rd_routeLoads_below {g : Fld} (hn : (rs.map (·.1)).Nodup) (hg : g.id < F.ROUTE_CTL * 32) :
    (d.routeLoads rs).rd g = d.rd g := by
  refine (writes_routeLoads d rs hn).1.2 g (fun hm => ?_) fun hm => ?_
  · obtain ⟨_, hmem, heq⟩ := List.mem_map.mp hm
    obtain ⟨p, -, rfl⟩ := List.mem_map.mp hmem
    simp only [Fld.id, F.ROUTE_E_Q, F.ROUTE_E, F.ROUTE_CTL] at heq hg
    omega
  · obtain ⟨x, hx, heq⟩ := List.mem_map.mp hm
    obtain ⟨p, -, hx⟩ := List.mem_flatMap.mp hx
    exact absurd (routeF_above (List.mem_map.mpr ⟨x, hx, heq⟩)) (Nat.not_le.mpr hg)

/-- Loads move the route table, the routes' hidden state and the queues alone. -/
theorem routeLoads_frame (hn : (rs.map (·.1)).Nodup) :
    { d.routeLoads rs with regs := d.regs, routePend := d.routePend, routeFresh := d.routeFresh, txOld := d.txOld,
                           queues := d.queues } = d :=
  (congrArg (fun x : Dev => x.routing d) (writes_routeLoads d rs hn).2 :)

/-! ### The entries of a flow's channels -/

/-- The route entries from `x` of `n` channels, with their queues from `q` (R305). -/
def chRoutes (n x q : Nat) : List (Nat × Nat) := (List.range n).map fun i => (x + i, q + i)

theorem chRoutes_nodup (n x q : Nat) : ((chRoutes n x q).map (·.1)).Nodup := by
  rw [chRoutes, List.map_map]
  exact List.nodup_range.map fun _ _ h => Nat.add_left_cancel h

theorem rd_routeLoads_chRoutes {n x q i : Nat} (hi : i < n) (hq : q + n ≤ 4096) :
    (d.routeLoads (chRoutes n x q)).rd (F.ROUTE_E_Q (x + i)) = q + i := by
  have hmem : (x + i, q + i) ∈ chRoutes n x q := List.mem_map.mpr ⟨i, List.mem_range.mpr hi, rfl⟩
  rw [rd_routeLoads_Q (chRoutes_nodup n x q) hmem]
  exact Nat.mod_eq_of_lt (by omega)

end Sys2Proof.Claim
end

section
/-! SUPPORT. The commands to a flow, the receive flows' hidden state, the fields that all enabled flows bear on, and an
EN rise before its route entries are loaded (R127, R131, R140, R148). -/

namespace Sys2Proof.Machine

/-! ### The commands to a unit -/

section
variable (s : State) (f : Fin 128) (b : Fin 2) (v : BitVec 16)

theorem exec_rxfEnable : exec (.rxfEnable f) s = s.unit 2 f fun c => c.onDev fun d => d.rxEnable f := rfl
theorem exec_rxfReady : exec (.rxfReady f) s = s.unit 2 f fun c => c.rxReady f := rfl
theorem exec_rxfDisable : exec (.rxfDisable f) s = s.unit 2 f fun c => c.onDev fun d => d.rxDisable f := rfl
theorem exec_pathDeadline :
    exec (.pathDeadline f b) s = s.unit 2 f fun c => c.onDev fun d => d.pathDeadline f b := rfl
theorem exec_txfEnable : exec (.txfEnable f) s = s.unit 3 f fun c => c.onDev fun d => d.txEnable f := rfl
theorem exec_txfDisable : exec (.txfDisable f) s = s.unit 3 f fun c => c.onDev fun d => d.txDisable f := rfl
theorem exec_txfSeqWrite :
    exec (.txfSeqWrite f v) s = s.unit 3 f fun c => c.onDev fun d => d.txSeq f v.toNat := rfl

end

end Sys2Proof.Machine

namespace Sys2Proof.Claim

open Sys2Proof.Machine

section
variable {i : Instr} {s : State} {kind index : Nat} (hl : Live s) (hu : s.chip.dev.unitHeld kind index = false)
include hl hu

/-- A command to a unit that no reset holds, which puts no word into a cell. -/
theorem Turns.of_unit {f : Chip → Chip} {P : Chip → Chip → Prop} {c : Chip} (he : exec i s = s.unit kind index f)
    (hc : f s.chip = c) (ho : c.dev.pool = s.chip.dev.pool) (hp : P s.chip c) : Turns i s P := by
  subst hc
  obtain ⟨hreset, hsupply, hout⟩ := hl
  have hcells : (f s.chip).settleCells = f s.chip := if_pos (by rw [ho, hout])
  refine ⟨f s.chip, ?_, hp⟩
  rw [he, State.unit_free _ hu, State.run_next, State.awake, hreset, hsupply, hcells]
  rfl

theorem Moves.of_unit {f : Dev → Dev} {P : Dev → Dev → Prop} {e : Dev}
    (he : exec i s = s.unit kind index fun c => c.onDev f) (hd : f s.chip.dev = e) (ho : e.pool = s.chip.dev.pool)
    (hp : P s.chip.dev e) : Moves i s P := by
  obtain ⟨c, hnext, hdev, hmem⟩ := Turns.of_unit hl hu he (c := { s.chip with dev := e })
    (P := fun c c' => P c.dev c'.dev ∧ c' = { c with dev := c'.dev }) (congrArg (Chip.mk · s.chip.mem) hd) ho ⟨hp, rfl⟩
  exact ⟨c.dev, by rw [← hmem]; exact hnext, hdev⟩

/-- One whose condition does not hold. -/
theorem Moves.of_unit_idle {f : Dev → Dev} (he : exec i s = s.unit kind index fun c => c.onDev f)
    (hd : f s.chip.dev = s.chip.dev) : Moves i s fun d d' => d' = d :=
  .of_unit hl hu he hd rfl rfl

end

variable {d e : Dev} {l : List (Fld × Nat)} {may : List Fld}

/-! ### The hidden state of a flow -/

/-- After a change of flow `f`'s hidden state alone. -/
theorem rxOnly_setRxf {f : Nat} {r : RxFlow} (h : e.net = (d.setRxf f r).net) (g : Nat) :
    e.rxf f = r ∧ RxOnly d e f g := by
  have hrx : ∀ n, e.rxf n = (d.setRxf f r).rxf n := fun n => by rw [Dev.rxf, h, Dev.rxf]
  refine ⟨(hrx f).trans (Dev.rxf_setRxf_same d f r), by rw [h]; rfl, fun hg => ?_⟩
  rw [hrx, Dev.rxf_setRxf, if_neg hg]

/-- Register writes on a device whose network side has changed: nothing else has. -/
theorem RegsOnly.frameNet {n : Net} (h : RegsOnly { d with net := n } e) :
    { e with regs := d.regs, net := d.net } = d :=
  (congrArg (fun x : Dev => { x with net := d.net }) h :)

theorem Writes.setRxf (h : Writes d e l may) (f : Nat) (r : RxFlow) : Writes (d.setRxf f r) (e.setRxf f r) l may := by
  have hnet : e.net = d.net := h.2.net
  have := h.hidden (fun x => { x with net := (d.setRxf f r).net }) fun _ _ => rfl
  rwa [show e.setRxf f r = { e with net := (d.setRxf f r).net } by rw [Dev.setRxf, hnet]; rfl]

/-! ### The fields that all enabled flows bear on -/

/-- A change for each of a list's elements in turn, where each moves fields of its own. -/
theorem writes_each_regs {f : Dev → Nat → Dev} {may : Nat → List Fld} (h : ∀ d g, Writes d (f d g) [] (may g))
    (l : List Nat) (d : Dev) : Writes d (d.each l f) [] (l.flatMap may) := by
  induction l generalizing d with
  | nil => exact .refl d
  | cons g l ih => exact (h d g).thenWrites (ih (f d g))

theorem writes_shadows (d : Dev) : Writes d d.shadows []
    ((List.range 128).flatMap fun f => [F.RXF_STATUS_SHADOWED f, F.RXF_EVENTS_SHADOW_EV f]) := by
  refine writes_each_regs (fun d f => ?_) _ d
  exact ((writes_setWhen d _ (F.RXF_EVENTS_SHADOW_EV f)).thenWrites (writes_wr _ (F.RXF_STATUS_SHADOWED f) _)).mono
    fun _ hi => (List.Perm.swap _ _ []).mem_iff.mp hi

theorem writes_groups (d : Dev) : Writes d d.groups [] ((List.range 16).flatMap fun g =>
    [F.GRP_STATUS_OFFSET_MISMATCH g, F.GRP_EVENTS_MISMATCH_EV g, F.GRP_STATUS_MEMBERS g,
      F.GRP_OFFSET_CYC_CYCLES g]) := by
  refine writes_each_regs (fun d g => ?_) _ d
  exact ((writes_setWhen d _ (F.GRP_EVENTS_MISMATCH_EV g)).thenWrites (writes_may _
    [(F.GRP_STATUS_OFFSET_MISMATCH g, _), (F.GRP_STATUS_MEMBERS g, _), (F.GRP_OFFSET_CYC_CYCLES g, _)])).mono
      fun _ hi => (List.Perm.swap _ _ _).mem_iff.mp hi

/-- Shadowing and the alignment groups, judged anew (R127, R140). -/
theorem writes_share (d : Dev) : Writes d d.shadows.groups [] shareF :=
  (writes_shadows d).thenWrites (writes_groups _)

/-- Those fields lie in a flow's STATUS.SHADOWED and EVENTS.SHADOW_EV and in the groups' registers. -/
theorem shareF_cases {i : Nat} (h : i ∈ shareF.map Fld.id) :
    (∃ f < 128, i = (F.RXF_STATUS_SHADOWED f).id ∨ i = (F.RXF_EVENTS_SHADOW_EV f).id) ∨
      0x188000 * 32 ≤ i ∧ i < 0x18c000 * 32 := by
  obtain ⟨x, hx, rfl⟩ := List.mem_map.mp h
  rcases List.mem_append.mp hx with hx | hx
  · obtain ⟨f, hf, hx⟩ := List.mem_flatMap.mp hx
    refine .inl ⟨f, List.mem_range.mp hf, ?_⟩
    simp only [List.mem_cons, List.not_mem_nil, or_false] at hx
    exact hx.imp (congrArg Fld.id) (congrArg Fld.id)
  · obtain ⟨g, hg, hx⟩ := List.mem_flatMap.mp hx
    have hg := List.mem_range.mp hg
    right
    simp only [List.mem_cons, List.not_mem_nil, or_false] at hx
    rcases hx with rfl | rfl | rfl | rfl <;>
      simp only [Fld.id, F.GRP_STATUS_OFFSET_MISMATCH, F.GRP_EVENTS_MISMATCH_EV, F.GRP_STATUS_MEMBERS,
        F.GRP_OFFSET_CYC_CYCLES, F.GRP_STATUS, F.GRP_EVENTS, F.GRP_OFFSET_CYC] <;> omega

theorem rxCtlEn_not_shared (f : Fin 128) : (F.RXF_CTL_EN f).id ∉ shareF.map Fld.id := by
  intro h
  have hf := f.isLt
  rcases shareF_cases h with ⟨g, -, h⟩ | h <;>
    simp only [Fld.id, F.RXF_CTL_EN, F.RXF_CTL, F.RXF_STATUS_SHADOWED, F.RXF_STATUS, F.RXF_EVENTS_SHADOW_EV,
      F.RXF_EVENTS] at h <;> omega

theorem rxStatus_not_shared (f : Fin 128) {lo width : Nat} (hlo : lo < 7) :
    (Fld.mk (F.RXF_STATUS f) lo width).id ∉ shareF.map Fld.id := by
  intro h
  have hf := f.isLt
  rcases shareF_cases h with ⟨g, -, h⟩ | h <;>
    simp only [Fld.id, F.RXF_STATUS_SHADOWED, F.RXF_STATUS, F.RXF_EVENTS_SHADOW_EV, F.RXF_EVENTS] at h <;> omega

theorem flowStatus_not_shared : F.FLOW_STATUS_RX_CH.id ∉ shareF.map Fld.id := by
  intro h
  rcases shareF_cases h with ⟨g, hg, h⟩ | h <;>
    simp only [Fld.id, F.RXF_STATUS_SHADOWED, F.RXF_STATUS, F.RXF_EVENTS_SHADOW_EV, F.RXF_EVENTS, F.FLOW_STATUS_RX_CH,
      F.FLOW_STATUS] at h <;> omega

/-! ### Enabling -/

/-- The flow has its settings, before shadowing and the groups follow. -/
def rxTaken (d : Dev) (f : Nat) : Dev :=
  ((d.set (F.RXF_CTL_EN f)).setRxf f { RxFlow.init with cfg := some (d.rxCfg f) }).wr F.FLOW_STATUS_RX_CH
    (rxLoad ((f, d.rxCfg f) :: d.rxOn)).1

theorem qbase_of_rxBad {f : Nat} (h : d.rxBad f = false) : (d.rxCfg f).qbase + (d.rxCfg f).ch ≤ 4096 := by
  simp only [Dev.rxBad, Bool.or_eq_false_iff, decide_eq_false_iff_not] at h
  omega

theorem writes_rxTaken (f : Fin 128) (hload : (rxLoad ((f.val, d.rxCfg f) :: d.rxOn)).1 ≤ 1024) :
    Writes (d.setRxf f { RxFlow.init with cfg := some (d.rxCfg f) }) (rxTaken d f)
      [(F.RXF_CTL_EN f, 1), (F.FLOW_STATUS_RX_CH, (rxLoad ((f.val, d.rxCfg f) :: d.rxOn)).1)] [] := by
  have hen := (writes_one d (f := F.RXF_CTL_EN f) (v := 1) (by simp [F.RXF_CTL_EN])).setRxf f
    { RxFlow.init with cfg := some (d.rxCfg f) }
  refine hen.trans (writes_one _ (by change _ < 2 ^ 11; omega)) ?_
  have hf := f.isLt
  simp only [List.map, List.append_nil, List.mem_singleton, Fld.id, F.RXF_CTL_EN, F.RXF_CTL, F.FLOW_STATUS_RX_CH,
    F.FLOW_STATUS]
  omega

section
variable {f : Nat} (hcfg : (d.rxf f).cfg = none)
include hcfg

theorem rxOpen_taken (hbad : d.rxBad f = false) (hch : (rxLoad ((f, d.rxCfg f) :: d.rxOn)).1 ≤ 1024)
    (hrate : (rxLoad ((f, d.rxCfg f) :: d.rxOn)).2 ≤ 2048) : d.rxOpen f = (rxTaken d f).shadows.groups := by
  simp only [Dev.rxOpen, hcfg, hbad, decide_eq_false (Nat.not_lt.mpr hch), decide_eq_false (Nat.not_lt.mpr hrate)]
  rfl

theorem rxOpen_refused (h : d.rxBad f = true ∨ 1024 < (rxLoad ((f, d.rxCfg f) :: d.rxOn)).1 ∨
    2048 < (rxLoad ((f, d.rxCfg f) :: d.rxOn)).2) :
    d.rxOpen f = d.wrs [(F.RXF_CTL_EN f, 0), (F.RXF_EVENTS_CFG_ERR f, 1)] := by
  have hbad : (d.rxBad f || decide (1024 < (rxLoad ((f, d.rxCfg f) :: d.rxOn)).1) ||
      decide (2048 < (rxLoad ((f, d.rxCfg f) :: d.rxOn)).2)) = true := by
    simpa only [Bool.or_eq_true, decide_eq_true_eq, or_assoc] using h
  simp only [Dev.rxOpen, hcfg, hbad]
  rfl

theorem rxEnable_none (h : ((d.rxOpen f).rxf f).cfg = none) : d.rxEnable f = d.rxOpen f := by
  simp [Dev.rxEnable, hcfg, h]

theorem rxEnable_some {c : RxCfg} (h : ((d.rxOpen f).rxf f).cfg = some c) :
    d.rxEnable f = (d.rxOpen f).routeLoads (chRoutes c.ch (epRx f 0) c.qbase) := by
  simp only [Dev.rxEnable, hcfg, h]
  rfl

end

theorem rxEnable_again {f : Nat} {k : RxCfg} (h : (d.rxf f).cfg = some k) : d.rxEnable f = d := by
  simp [Dev.rxEnable, h]

end Sys2Proof.Claim
end

section
/-! SUPPORT. The receive flows' readiness, their EN fall and their paths' deadlines (R136, R143). -/

namespace Sys2Proof.Machine

/-! ### The V bits of a jitter ring -/

/-- The V bit of each byte of a list is cleared (R136). -/
def Mem.clearV (m : Mem) (l : List Nat) : Mem := l.foldl (fun m a => m.setByte a (m.byte a &&& 0x7F)) m

theorem Mem.byte_clearV (l : List Nat) (m : Mem) (x : Nat) :
    (m.clearV l).byte x = if x ∈ l then m.byte x &&& 0x7F else m.byte x := by
  induction l generalizing m with
  | nil => rfl
  | cons a l ih =>
    rw [show m.clearV (a :: l) = (m.setByte a (m.byte a &&& 0x7F)).clearV l from rfl, ih, Mem.byte_setByte]
    by_cases hx : x = a
    · subst hx
      simp [BitVec.and_assoc]
    · simp [hx]

theorem Mem.flash_clearV (l : List Nat) (m : Mem) : (m.clearV l).flash = m.flash :=
  foldl_keeps (fun n : Mem => n.flash = m.flash) (fun m a => m.setByte a (m.byte a &&& 0x7F)) (fun _ _ h => h) l m rfl

theorem toNat_and_7F (b : Byte) : (b &&& 0x7F).toNat = b.toNat % 128 := by
  rw [BitVec.toNat_and]
  exact Nat.and_two_pow_sub_one_eq_mod _ 7

/-- The bytes of a ring's slots that hold V (R135). -/
def ringTops (k : RxCfg) : List Nat := (List.range (k.len * k.ch)).map fun i => k.ring + 4 * i + 3

theorem mem_ringTops {k : RxCfg} {x : Nat} : x ∈ ringTops k ↔ ∃ i < k.len * k.ch, k.ring + 4 * i + 3 = x := by
  simp [ringTops]

/-! ### A flow's paths -/

/-- Path `b` of a flow, and the flow with that path changed. -/
def RxFlow.path (r : RxFlow) (b : Nat) : Path := if b = 0 then r.a else r.b
def RxFlow.withPath (r : RxFlow) (b : Nat) (p : Path) : RxFlow := if b = 0 then { r with a := p } else { r with b := p }

theorem RxFlow.path_withPath (r : RxFlow) (b : Nat) (p : Path) : (r.withPath b p).path b = p := by
  unfold RxFlow.withPath RxFlow.path
  split <;> rfl

end Sys2Proof.Machine

namespace Sys2Proof.Claim

open Sys2Proof.Machine

variable {d e : Dev}

/-! ### Readiness -/

theorem pathState_zero (f : Nat) : pathState f 0 = F.RXF_STATUS_STATE_A f := rfl
theorem pathState_one (f : Nat) : pathState f 1 = F.RXF_STATUS_STATE_B f := rfl

/-- A path's state is a field of STATUS of two bits, other than the flow's state, READY and the rest. -/
theorem pathState_cases (f b : Nat) :
    pathState f b = F.RXF_STATUS_STATE_A f ∨ pathState f b = F.RXF_STATUS_STATE_B f := by
  unfold pathState; split <;> simp

/-- A path's new state shows, and the flow's follows (R143). -/
theorem writes_setPath (d : Dev) (f b : Nat) {v : Nat} (hv : v < 4) :
    Writes d (d.setPath f b v) [(pathState f b, v)] [F.RXF_STATUS_STATE f] := by
  rcases pathState_cases f b with h | h <;> rw [Dev.setPath, h]
  all_goals
    refine (writes_one d hv).trans (writes_wr _ (F.RXF_STATUS_STATE f) _) ?_
    simp [Fld.id, F.RXF_STATUS_STATE, F.RXF_STATUS_STATE_A, F.RXF_STATUS_STATE_B]

/-- A flow whose ring is clear: READY rises, and its paths wait (R136). -/
def rxReadied (d : Dev) (f : Nat) (dual : Bool) : Dev :=
  (((d.set (F.RXF_STATUS_READY f)).setRxf f { d.rxf f with since := d.tick + 1 }).setPath f 0 1).when dual
    fun d => d.setPath f 1 1

theorem rxReady_clear {c : Chip} {f : Nat} {k : RxCfg} (hk : (c.dev.rxf f).cfg = some k)
    (hr : c.dev.on (F.RXF_STATUS_READY f) = false) :
    c.rxReady f = ⟨rxReadied c.dev f k.dual, c.mem.clearV (ringTops k)⟩ := by
  have hmem : c.mem.clearV (ringTops k) = (List.range (k.len * k.ch)).foldl (fun m i =>
      m.setByte (k.ring + 4 * i + 3) (m.byte (k.ring + 4 * i + 3) &&& 0x7F)) c.mem := by
    rw [Mem.clearV, ringTops, List.foldl_map]
  rw [hmem]
  simp only [Chip.rxReady, hk, hr]
  rfl

theorem writes_rxReadied (d : Dev) (f : Nat) (dual : Bool) :
    Writes (d.setRxf f { d.rxf f with since := d.tick + 1 }) (rxReadied d f dual)
      ([(F.RXF_STATUS_READY f, 1), (F.RXF_STATUS_STATE_A f, 1)] ++
        if dual = true then [(F.RXF_STATUS_STATE_B f, 1)] else []) [F.RXF_STATUS_STATE f] := by
  have hready := (writes_one d (f := F.RXF_STATUS_READY f) (v := 1) (by simp [F.RXF_STATUS_READY])).setRxf f
    { d.rxf f with since := d.tick + 1 }
  have ha := hready.trans (writes_setPath _ f 0 (by decide : 1 < 4)) (by
    simp [pathState_zero, Fld.id, F.RXF_STATUS_READY, F.RXF_STATUS_STATE, F.RXF_STATUS_STATE_A])
  cases dual with
  | false => exact ha
  | true =>
    exact (ha.trans (writes_setPath _ f 1 (by decide : 1 < 4)) (by
      simp [pathState_zero, pathState_one, Fld.id, F.RXF_STATUS_READY, F.RXF_STATUS_STATE, F.RXF_STATUS_STATE_A,
        F.RXF_STATUS_STATE_B])).mono (List.map_subset _ (by simp))

/-! ### Disabling -/

/-- What an EN fall sets (R143). -/
def rxOffWrites (f : Nat) : List (Fld × Nat) :=
  [(F.RXF_CTL_EN f, 0), (F.RXF_STATUS_READY f, 0), (F.RXF_STATUS_STATE_A f, 0), (F.RXF_STATUS_STATE_B f, 0),
    (F.RXF_STATUS_STATE f, 0)]

theorem rxOffWrites_nodup (f : Nat) : ((rxOffWrites f).map fun p => p.1.id).Nodup := by
  simp only [rxOffWrites, List.map, List.nodup_cons, List.mem_cons, List.not_mem_nil, or_false, Fld.id, F.RXF_CTL_EN,
    F.RXF_CTL, F.RXF_STATUS_READY, F.RXF_STATUS_STATE_A, F.RXF_STATUS_STATE_B, F.RXF_STATUS_STATE, F.RXF_STATUS,
    List.nodup_nil, not_false_eq_true, and_true]
  omega

theorem rxDisable_enabled {f : Nat} {k : RxCfg} (h : (d.rxf f).cfg = some k) : ∃ v,
    d.rxDisable f = ((((d.setRxf f RxFlow.init).wrs (rxOffWrites f)).wr F.FLOW_STATUS_RX_CH v).shadows.groups) := by
  simp only [Dev.rxDisable, h]
  exact ⟨_, rfl⟩

theorem rxDisable_off {f : Nat} (h : (d.rxf f).cfg = none) : d.rxDisable f = d.wr (F.RXF_CTL_EN f) 0 := by
  simp only [Dev.rxDisable, h]
  rfl

theorem writes_rxDisable {f : Fin 128} {k : RxCfg} (h : (d.rxf f).cfg = some k) :
    Writes (d.setRxf f RxFlow.init) (d.rxDisable f) (rxOffWrites f) (F.FLOW_STATUS_RX_CH :: shareF) := by
  have hf := f.isLt
  obtain ⟨v, hd⟩ := rxDisable_enabled h
  have hoff := writes_wrs (d.setRxf f RxFlow.init) (rxOffWrites f) (rxOffWrites_nodup f) (by
    simp [rxOffWrites])
  have hch := hoff.trans (writes_wr _ F.FLOW_STATUS_RX_CH v) (by
    simp only [rxOffWrites, List.map, List.mem_cons, List.not_mem_nil, or_false, forall_eq_or_imp, forall_eq,
      List.nil_append, Fld.id, F.RXF_CTL_EN, F.RXF_CTL, F.RXF_STATUS_READY, F.RXF_STATUS_STATE_A, F.RXF_STATUS_STATE_B,
      F.RXF_STATUS_STATE, F.RXF_STATUS, F.FLOW_STATUS_RX_CH, F.FLOW_STATUS]
    omega)
  have hshare : ∀ i ∈ (rxOffWrites f).map (fun p => p.1.id), i ∉ shareF.map Fld.id := by
    simp only [rxOffWrites, List.map, List.forall_mem_cons]
    exact ⟨rxCtlEn_not_shared f, rxStatus_not_shared f (by decide), rxStatus_not_shared f (by decide),
      rxStatus_not_shared f (by decide), rxStatus_not_shared f (by decide), fun _ hi => absurd hi List.not_mem_nil⟩
  rw [hd]
  simpa using hch.trans (writes_share _) (by simpa using hshare)

/-! ### A path's deadline -/

/-- The count and the event of a lost path (R143). -/
def lostWrites (d : Dev) (f : Nat) : List (Fld × Nat) := [(F.RXF_EVENTS_LOST_EV f, 1), rxUp d f 13 1]

/-- The fields that a path's deadline may move besides the count and the event of a loss. -/
def pathF (f : Nat) : List Fld :=
  [F.RXF_EVENTS_RESUMED_EV f, F.RXF_STATUS_STATE_A f, F.RXF_STATUS_STATE_B f, F.RXF_STATUS_STATE f]

theorem pathState_mem_pathF (f b : Nat) : pathState f b ∈ pathF f := by
  rcases pathState_cases f b with h | h <;> simp [h, pathF]

theorem resumed_mem_pathF (f : Nat) : F.RXF_EVENTS_RESUMED_EV f ∈ pathF f := List.mem_cons_self

theorem rxUp_lt (d : Dev) (f k n : Nat) : (rxUp d f k n).2 < 2 ^ 32 := by unfold rxUp; omega

theorem lostWrites_ids (d : Dev) (f : Nat) :
    (lostWrites d f).map (fun p => p.1.id) = [(F.RXF_EVENTS_LOST_EV f).id, (F.RXF_CNT_COUNT f 13).id] := rfl

theorem lost_not_mem_pathF (d : Dev) (f : Nat) :
    ∀ i ∈ (lostWrites d f).map (fun p => p.1.id), i ∉ (pathF f).map Fld.id := by
  rw [lostWrites_ids]
  simp only [pathF, List.map, List.mem_cons, List.not_mem_nil, or_false, forall_eq_or_imp, forall_eq,
    Fld.id, F.RXF_EVENTS_LOST_EV, F.RXF_EVENTS_RESUMED_EV, F.RXF_EVENTS, F.RXF_CNT_COUNT, F.RXF_CNT,
    F.RXF_STATUS_STATE_A, F.RXF_STATUS_STATE_B, F.RXF_STATUS_STATE, F.RXF_STATUS]
  omega

/-- The flow with path `b` past its deadline, which `due` follows. -/
def pathLate (d : Dev) (f b : Nat) (due : Option (Int × Int)) : RxFlow :=
  (d.rxf f).withPath b { (d.rxf f).path b with due := due, later := false }

/-- The device with the loss recorded. -/
def pathLost (d : Dev) (f b : Nat) (due : Option (Int × Int)) : Dev :=
  (d.wrs (lostWrites d f)).setRxf f (pathLate d f b due)

theorem lost_ne_cnt (f : Nat) : (F.RXF_CNT_COUNT f 13).id ≠ (F.RXF_EVENTS_LOST_EV f).id := by
  simp only [Fld.id, F.RXF_CNT_COUNT, F.RXF_CNT, F.RXF_EVENTS_LOST_EV, F.RXF_EVENTS]
  omega

theorem writes_pathLost (d : Dev) (f b : Nat) (due : Option (Int × Int)) :
    Writes (d.setRxf f (pathLate d f b due)) (pathLost d f b due) (lostWrites d f) [] := by
  refine (writes_wrs d (lostWrites d f) ?_ ?_).setRxf f _
  · rw [lostWrites_ids]
    simpa using (lost_ne_cnt f).symm
  · simp only [lostWrites, List.forall_mem_cons]
    exact ⟨by simp [F.RXF_EVENTS_LOST_EV], rxUp_lt d f 13 1, fun _ hi => absurd hi List.not_mem_nil⟩

theorem rd_lostWrites_ticks (d : Dev) (f : Nat) :
    (d.wrs (lostWrites d f)).rd (F.RXF_TIMEOUT_TICKS f) = d.rd (F.RXF_TIMEOUT_TICKS f) := by
  refine Dev.rd_wrs_other d ?_
  rw [lostWrites_ids]
  simp only [List.mem_cons, List.not_mem_nil, or_false, Fld.id, F.RXF_TIMEOUT_TICKS, F.RXF_TIMEOUT, F.RXF_CNT_COUNT,
    F.RXF_CNT, F.RXF_EVENTS_LOST_EV, F.RXF_EVENTS]
  omega

theorem lost_bump_eq (d : Dev) (f : Nat) :
    (d.set (F.RXF_EVENTS_LOST_EV f)).bump (F.RXF_CNT_COUNT f 13) 1 = d.wrs (lostWrites d f) := by
  rw [Dev.bump_eq, Dev.set_eq, Dev.rd_wr_other _ _ (lost_ne_cnt f)]
  rfl

/-- The deadline that follows one that has passed (R143). -/
def nextDue (d : Dev) (f : Nat) (p : Path) : Option (Int × Int) :=
  if p.later && decide (0 < d.rd (F.RXF_TIMEOUT_TICKS f)) then
    some (p.sLast.getD 0, p.sLast.getD 0 + d.rd (F.RXF_TIMEOUT_TICKS f) * 2000000)
  else none

theorem pathDeadline_past {f b : Nat} {s0 dl : Int} (hdue : ((d.rxf f).path b).due = some (s0, dl))
    (htime : (d.sysCycles 2480 : Int) ≤ d.cyclesSince dl) (hin : d.net.ingress = [])
    (hrun : d.rd (pathState f b) = 2) : d.pathDeadline f b =
      if ((d.rxf f).path b).later then
        ((pathLost d f b (nextDue d f ((d.rxf f).path b))).set (F.RXF_EVENTS_RESUMED_EV f)).setPath f b 2
      else (pathLost d f b (nextDue d f ((d.rxf f).path b))).setPath f b 3 := by
  have hwait : ¬(d.cyclesSince dl < d.sysCycles 2480 ∨
      (d.net.ingress.any fun x => x.flow == f && x.path == b && decide (x.stamp - d.time.residual ≤ dl)) = true ∨
        d.rd (pathState f b) ≠ 2) := by
    rw [hin, hrun]; simpa using htime
  have hdue' : (if b = 0 then (d.rxf f).a else (d.rxf f).b).due = some (s0, dl) := hdue
  simp only [Dev.pathDeadline, hdue', if_neg hwait, lost_bump_eq, rd_lostWrites_ticks]
  simp only [pathLost, pathLate, RxFlow.withPath, RxFlow.path]
  by_cases hb : b = 0
  · subst hb
    simp only [if_pos]
    rfl
  · simp only [if_neg hb]
    rfl


theorem pathDeadline_none {f b : Nat} (h : ((d.rxf f).path b).due = none) : d.pathDeadline f b = d := by
  have hdue : (if b = 0 then (d.rxf f).a else (d.rxf f).b).due = none := h
  simp only [Dev.pathDeadline, hdue]

theorem pathDeadline_early {f b : Nat} {s0 dl : Int} (h : ((d.rxf f).path b).due = some (s0, dl))
    (ht : d.cyclesSince dl < d.sysCycles 2480) : d.pathDeadline f b = d := by
  have hdue : (if b = 0 then (d.rxf f).a else (d.rxf f).b).due = some (s0, dl) := h
  simp only [Dev.pathDeadline, hdue]
  exact if_pos (.inl ht)

/-- The path's state and the flow's after the loss are none of the fields that record it. -/
theorem writes_pathLost_setPath (d : Dev) (f b : Nat) (due : Option (Int × Int)) {v : Nat} (hv : v < 4) :
    Writes (d.setRxf f (pathLate d f b due)) ((pathLost d f b due).setPath f b v)
      (lostWrites d f ++ [(pathState f b, v)]) [F.RXF_STATUS_STATE f] := by
  refine (writes_pathLost d f b due).trans (writes_setPath _ f b hv) fun i hi hm => lost_not_mem_pathF d f i hi ?_
  refine List.map_subset Fld.id (l₁ := [pathState f b, F.RXF_STATUS_STATE f]) ?_ hm
  exact List.cons_subset.mpr ⟨pathState_mem_pathF f b, by simp [pathF]⟩

/-- With a resumption the flow's event is set too (R143). -/
theorem writes_pathLost_resumed (d : Dev) (f b : Nat) (due : Option (Int × Int)) {v : Nat} (hv : v < 4) :
    Writes (d.setRxf f (pathLate d f b due))
      (((pathLost d f b due).set (F.RXF_EVENTS_RESUMED_EV f)).setPath f b v)
      (lostWrites d f ++ [(F.RXF_EVENTS_RESUMED_EV f, 1), (pathState f b, v)]) [F.RXF_STATUS_STATE f] := by
  have hresume := (writes_one (pathLost d f b due) (f := F.RXF_EVENTS_RESUMED_EV f) (v := 1)
    (by simp [F.RXF_EVENTS_RESUMED_EV])).trans (writes_setPath _ f b hv) (by
      rcases pathState_cases f b with h | h <;>
        simp only [h, List.map, List.mem_cons, List.not_mem_nil, or_false, forall_eq, List.cons_append, List.nil_append,
          Fld.id, F.RXF_EVENTS_RESUMED_EV, F.RXF_EVENTS, F.RXF_STATUS_STATE_A, F.RXF_STATUS_STATE_B, F.RXF_STATUS_STATE,
          F.RXF_STATUS] <;> omega)
  refine (writes_pathLost d f b due).trans hresume fun i hi hm => lost_not_mem_pathF d f i hi ?_
  refine List.map_subset Fld.id (l₁ := [F.RXF_EVENTS_RESUMED_EV f, pathState f b, F.RXF_STATUS_STATE f]) ?_ hm
  exact List.cons_subset.mpr ⟨resumed_mem_pathF f, List.cons_subset.mpr ⟨pathState_mem_pathF f b, by simp [pathF]⟩⟩

/-- What a lost path's deadline sets and may move, and that the flow's hidden state alone changes besides. -/
theorem pathLost_spec {f b : Nat} {due : Option (Int × Int)} {m : List (Fld × Nat)}
    (hw : Writes (d.setRxf f (pathLate d f b due)) e (lostWrites d f ++ m) [F.RXF_STATUS_STATE f])
    (hm : m.map Prod.fst ⊆ pathF f) (g : Nat) :
    (e.rd (F.RXF_EVENTS_LOST_EV f) = 1 ∧ e.rd (rxUp d f 13 1).1 = (rxUp d f 13 1).2 ∧
      Sets d e [] ((rxUp d f 13 1).1 :: F.RXF_EVENTS_LOST_EV f :: pathF f) ∧ RxOnly d e f g ∧
      { e with regs := d.regs, net := d.net } = d) ∧
      (∀ p ∈ m, e.rd p.1 = p.2) ∧ (e.rxf f).path b = { (d.rxf f).path b with due := due, later := false } := by
  obtain ⟨⟨hset, hkept⟩, hregs⟩ := hw
  obtain ⟨hrx, honly⟩ := rxOnly_setRxf hregs.net g
  refine ⟨⟨?lost, ?count, ⟨fun _ hi => absurd hi List.not_mem_nil, fun x _ hx => ?kept⟩, honly, hregs.frameNet⟩, ?_, ?_⟩
  case lost => exact hset (F.RXF_EVENTS_LOST_EV f, 1) (by simp [lostWrites])
  case count => exact hset (rxUp d f 13 1) (by simp [lostWrites])
  case kept =>
    refine hkept x (fun hi => hx ?_) fun hi => hx ?_
    · rw [List.map_append, lostWrites_ids] at hi
      rcases List.mem_append.mp hi with hi | hi
      · exact List.mem_append_left _ ((List.Perm.swap _ _ []).mem_iff.mp hi)
      · have hids : m.map (fun p => p.1.id) = (m.map Prod.fst).map Fld.id := by rw [List.map_map]; rfl
        exact List.mem_cons_of_mem _ (List.mem_cons_of_mem _ (List.map_subset Fld.id hm (hids ▸ hi)))
    · exact List.map_subset Fld.id (by simp [pathF]) hi
  · exact fun p hp => hset p (List.mem_append_right _ hp)
  · rw [hrx, pathLate, RxFlow.path_withPath]

end Sys2Proof.Claim
end

section
/-! SUPPORT. The transmit flows' commands, and what a flow's EN rise comes to with its route entries (R131, R146, R148,
R305). -/

namespace Sys2Proof.Claim

open Sys2Proof.Machine

variable {d e : Dev} {l : List (Fld × Nat)} {may : List Fld}

/-- After a change of transmit flow `f`'s hidden state alone. -/
theorem txOnly_setTxf {f : Nat} {t : TxFlow} (h : e.net = (d.setTxf f t).net) (g : Nat) :
    e.txf f = t ∧ (g ≠ f → e.txf g = d.txf g) ∧ { e.net with txs := d.net.txs } = d.net := by
  have htx : ∀ n, e.txf n = (d.setTxf f t).txf n := fun n => by rw [Dev.txf, h, Dev.txf]
  refine ⟨(htx f).trans (Dev.txf_setTxf_same d f t), fun hg => ?_, by rw [h]; rfl⟩
  rw [htx, Dev.txf_setTxf, if_neg hg]

theorem Writes.setTxf (h : Writes d e l may) (f : Nat) (t : TxFlow) : Writes (d.setTxf f t) (e.setTxf f t) l may := by
  have hnet : e.net = d.net := h.2.net
  have := h.hidden (fun x => { x with net := (d.setTxf f t).net }) fun _ _ => rfl
  rwa [show e.setTxf f t = { e with net := (d.setTxf f t).net } by rw [Dev.setTxf, hnet]; rfl]

theorem qbase_of_txBad {f : Nat} (h : d.txBad f = false) : d.rd (F.TXF_QBASE_Q f) + (d.txCfg f).ch ≤ 4096 := by
  simp only [Dev.txBad, Bool.or_eq_false_iff, decide_eq_false_iff_not] at h
  omega

/-- The hidden state of a transmit flow that has taken its settings (assumption 136). -/
def txStart (d : Dev) (f : Nat) : TxFlow := ⟨some (d.txCfg f), d.tick + 2, none, d.fresh.1 % 65536⟩

/-- The flow has its settings. -/
def txTaken (d : Dev) (f : Nat) : Dev :=
  ((d.fresh.2.set (F.TXF_CTL_EN f)).setTxf f (txStart d f)).wr F.FLOW_STATUS_TX_CH
    (txLoad ((f, d.txCfg f) :: d.txOn)).1

theorem writes_txTaken (f : Fin 128) (hload : (txLoad ((f.val, d.txCfg f) :: d.txOn)).1 ≤ 1024) :
    Writes (d.fresh.2.setTxf f (txStart d f)) (txTaken d f)
      [(F.TXF_CTL_EN f, 1), (F.FLOW_STATUS_TX_CH, (txLoad ((f.val, d.txCfg f) :: d.txOn)).1)] [] := by
  have hen := (writes_one d.fresh.2 (f := F.TXF_CTL_EN f) (v := 1) (by simp [F.TXF_CTL_EN])).setTxf f (txStart d f)
  refine hen.trans (writes_one _ (by change _ < 2 ^ 11; omega)) ?_
  have hf := f.isLt
  simp only [List.map, List.append_nil, List.mem_singleton, Fld.id, F.TXF_CTL_EN, F.TXF_CTL, F.FLOW_STATUS_TX_CH,
    F.FLOW_STATUS]
  omega

theorem rd_txTaken_qbase (f : Fin 128) : (txTaken d f).rd (F.TXF_QBASE_Q f) = d.rd (F.TXF_QBASE_Q f) := by
  have hf := f.isLt
  rw [txTaken, Dev.rd_wr_other _ _ (by
    simp only [Fld.id, F.TXF_QBASE_Q, F.TXF_QBASE, F.FLOW_STATUS_TX_CH, F.FLOW_STATUS]; omega)]
  exact Dev.rd_wr_other d.fresh.2 1 (by
    simp only [Fld.id, F.TXF_QBASE_Q, F.TXF_QBASE, F.TXF_CTL_EN, F.TXF_CTL]; omega)

section
variable {f : Nat} (hcfg : (d.txf f).cfg = none)
include hcfg

theorem txOpen_taken (hbad : d.txBad f = false) (hch : (txLoad ((f, d.txCfg f) :: d.txOn)).1 ≤ 1024)
    (hrate : (txLoad ((f, d.txCfg f) :: d.txOn)).2 ≤ 2048) : d.txOpen f = txTaken d f := by
  simp only [Dev.txOpen, hcfg, hbad, decide_eq_false (Nat.not_lt.mpr hch), decide_eq_false (Nat.not_lt.mpr hrate)]
  rfl

theorem txOpen_refused (h : d.txBad f = true ∨ 1024 < (txLoad ((f, d.txCfg f) :: d.txOn)).1 ∨
    2048 < (txLoad ((f, d.txCfg f) :: d.txOn)).2) :
    d.txOpen f = d.wrs [(F.TXF_CTL_EN f, 0), (F.TXF_EVENTS_CFG_ERR f, 1)] := by
  have hbad : (d.txBad f || decide (1024 < (txLoad ((f, d.txCfg f) :: d.txOn)).1) ||
      decide (2048 < (txLoad ((f, d.txCfg f) :: d.txOn)).2)) = true := by
    simpa only [Bool.or_eq_true, decide_eq_true_eq, or_assoc] using h
  simp only [Dev.txOpen, hcfg, hbad]
  rfl

theorem txEnable_none (h : ((d.txOpen f).txf f).cfg = none) : d.txEnable f = d.txOpen f := by
  simp [Dev.txEnable, hcfg, h]

theorem txEnable_some {c : TxCfg} (h : ((d.txOpen f).txf f).cfg = some c) :
    d.txEnable f = (d.txOpen f).routeLoads (chRoutes c.ch (epTx f 0) ((d.txOpen f).rd (F.TXF_QBASE_Q f))) := by
  simp only [Dev.txEnable, hcfg, h]
  rfl

end

theorem txEnable_again {f : Nat} (h : (d.txf f).cfg.isSome = true) : d.txEnable f = d := if_pos h

/-- What an EN fall sets (R148). -/
def txOffWrites (f : Nat) : List (Fld × Nat) := [(F.TXF_CTL_EN f, 0), (F.TXF_STATUS_RUNNING f, 0)]

theorem txDisable_eq (d : Dev) (f : Nat) : ∃ v,
    d.txDisable f = ((d.setTxf f TxFlow.init).wrs (txOffWrites f)).wr F.FLOW_STATUS_TX_CH v := ⟨_, rfl⟩

theorem writes_txDisable (d : Dev) (f : Fin 128) :
    Writes (d.setTxf f TxFlow.init) (d.txDisable f) (txOffWrites f) [F.FLOW_STATUS_TX_CH] := by
  have hf := f.isLt
  obtain ⟨v, hd⟩ := txDisable_eq d f
  rw [hd]
  refine (writes_wrs _ (txOffWrites f) ?_ (by simp [txOffWrites])).trans (writes_wr _ F.FLOW_STATUS_TX_CH v) ?_
  · simp [txOffWrites, Fld.id, F.TXF_CTL_EN, F.TXF_CTL, F.TXF_STATUS_RUNNING, F.TXF_STATUS]
  · simp only [txOffWrites, List.map, List.mem_cons, List.not_mem_nil, or_false, forall_eq_or_imp, forall_eq,
      List.nil_append, Fld.id, F.TXF_CTL_EN, F.TXF_CTL, F.TXF_STATUS_RUNNING, F.TXF_STATUS, F.FLOW_STATUS_TX_CH,
      F.FLOW_STATUS]
    omega

/-! ### An EN rise with its route entries -/

/-- The refusal of a flow's settings: EN falls and CFG_ERR is set. -/
theorem writes_refusal (d : Dev) {en ev : Fld} (hn : en.id ≠ ev.id) (hw : 0 < ev.width) :
    Writes d (d.wrs [(en, 0), (ev, 1)]) [(en, 0), (ev, 1)] [] :=
  writes_wrs d _ (by simpa using hn) (by simp [Nat.ne_of_gt hw])

theorem routeLoads_net {rs : List (Nat × Nat)} (hn : (rs.map (·.1)).Nodup) : (d.routeLoads rs).net = d.net :=
  (congrArg Dev.net (routeLoads_frame (d := d) hn) :)

theorem routeLoads_pool {rs : List (Nat × Nat)} (hn : (rs.map (·.1)).Nodup) : (d.routeLoads rs).pool = d.pool :=
  (congrArg Dev.pool (routeLoads_frame (d := d) hn) :)

/-- A device with what a flow's EN rise may move as `d` has it. -/
def unrisen (d x : Dev) : Dev := { x.routing d with regs := d.regs, net := d.net, freeCtr := d.freeCtr }

/-- Loads after register writes on a device whose network side has changed, and at most its count of free values. -/
theorem routeNetOnly_routeLoads {rs : List (Nat × Nat)} {n : Net} {k : Nat} (hn : (rs.map (·.1)).Nodup)
    (h : RegsOnly { d with net := n, freeCtr := k } e) :
    RouteNetOnly d { e.routeLoads rs with freeCtr := d.freeCtr } := by
  have hroutes := congrArg (unrisen d) (routeLoads_frame (d := e) hn)
  have hwrites : unrisen d e = d := (congrArg (unrisen d) h :)
  exact hroutes.trans hwrites

theorem routeLoads_freeCtr {rs : List (Nat × Nat)} (hn : (rs.map (·.1)).Nodup) :
    (d.routeLoads rs).freeCtr = d.freeCtr := (congrArg Dev.freeCtr (routeLoads_frame (d := d) hn) :)

/-- Receive flow `f`'s EN rise, with settings that are not refused (R131, R148, R305). -/
theorem rxEnable_spec {f : Fin 128} (hcfg : (d.rxf f).cfg = none) (hbad : d.rxBad f = false)
    (hch : (rxLoad ((f.val, d.rxCfg f) :: d.rxOn)).1 ≤ 1024) (hrate : (rxLoad ((f.val, d.rxCfg f) :: d.rxOn)).2 ≤ 2048)
    (g i : Nat) : let e := d.rxEnable f
    e.pool = d.pool ∧ e.rxf f = { RxFlow.init with cfg := some (d.rxCfg f) } ∧ e.rd (F.RXF_CTL_EN f) = 1 ∧
      e.rd F.FLOW_STATUS_RX_CH = (rxLoad ((f.val, d.rxCfg f) :: d.rxOn)).1 ∧ RxOnly d e f g ∧ RouteNetOnly d e ∧
      (i < (d.rxCfg f).ch → e.rd (F.ROUTE_E_Q (epRx f i)) = (d.rxCfg f).qbase + i) := by
  have hf := f.isLt
  have hw := (writes_rxTaken f hch).trans (writes_share _) (by
    simp only [List.map, List.forall_mem_cons, List.nil_append]
    exact ⟨rxCtlEn_not_shared f, flowStatus_not_shared, fun _ hi => absurd hi List.not_mem_nil⟩)
  rw [← rxOpen_taken hcfg hbad hch hrate] at hw
  have hopen : ((d.rxOpen f).rxf f).cfg = some (d.rxCfg f) :=
    congrArg RxFlow.cfg (rxOnly_setRxf hw.2.net 0).1
  have hn := chRoutes_nodup (d.rxCfg f).ch (epRx f 0) (d.rxCfg f).qbase
  have hsame := routeNetOnly_routeLoads hn (d := d) (k := d.freeCtr) hw.2
  have hfree : ((d.rxOpen f).routeLoads (chRoutes (d.rxCfg f).ch (epRx f 0) (d.rxCfg f).qbase)).freeCtr = d.freeCtr :=
    (routeLoads_freeCtr hn).trans (congrArg Dev.freeCtr hw.2 :)
  obtain ⟨hrx, honly⟩ := rxOnly_setRxf ((routeLoads_net hn).trans hw.2.net) g
  rw [rxEnable_some hcfg hopen]
  refine ⟨(routeLoads_pool hn).trans hw.2.pool, hrx, ?en, ?count, honly, ?frame, fun hi => ?route⟩
  case en =>
    rw [rd_routeLoads_below hn (by simp only [Fld.id, F.RXF_CTL_EN, F.RXF_CTL, F.ROUTE_CTL]; omega)]
    exact hw.1.1 (F.RXF_CTL_EN f, 1) (by simp)
  case count =>
    rw [rd_routeLoads_below hn (by decide)]
    exact hw.1.1 (F.FLOW_STATUS_RX_CH, _) (by simp)
  case frame => rwa [← hfree] at hsame
  case route => exact rd_routeLoads_chRoutes hi (qbase_of_rxBad hbad)

/-- Transmit flow `f`'s EN rise, with settings that are not refused (R131, R148, R305). -/
theorem txEnable_spec {f : Fin 128} (hcfg : (d.txf f).cfg = none) (hbad : d.txBad f = false)
    (hch : (txLoad ((f.val, d.txCfg f) :: d.txOn)).1 ≤ 1024) (hrate : (txLoad ((f.val, d.txCfg f) :: d.txOn)).2 ≤ 2048)
    (g i : Nat) : let e := d.txEnable f
    e.txf f = txStart d f ∧ e.rd (F.TXF_CTL_EN f) = 1 ∧
      e.rd F.FLOW_STATUS_TX_CH = (txLoad ((f.val, d.txCfg f) :: d.txOn)).1 ∧ (g ≠ f.val → e.txf g = d.txf g) ∧
      { e.net with txs := d.net.txs } = d.net ∧
      (i < (d.txCfg f).ch → e.rd (F.ROUTE_E_Q (epTx f i)) = d.rd (F.TXF_QBASE_Q f) + i) ∧
      RouteNetOnly d { e with freeCtr := d.freeCtr } ∧ e.pool = d.pool := by
  have hf := f.isLt
  have hw := writes_txTaken f hch
  have hopen : ((d.txOpen f).txf f).cfg = some (d.txCfg f) := by
    rw [txOpen_taken hcfg hbad hch hrate]
    exact congrArg TxFlow.cfg (txOnly_setTxf (d := d.fresh.2) hw.2.net 0).1
  have hn := chRoutes_nodup (d.txCfg f).ch (epTx f 0) (d.rd (F.TXF_QBASE_Q f))
  obtain ⟨htx, hother, hnet⟩ := txOnly_setTxf (d := d.fresh.2) ((routeLoads_net hn).trans hw.2.net) g
  rw [txEnable_some hcfg hopen, txOpen_taken hcfg hbad hch hrate, rd_txTaken_qbase]
  refine ⟨htx, ?en, ?count, hother, hnet, fun hi => ?route,
    routeNetOnly_routeLoads hn (k := d.freeCtr + 1) hw.2, (routeLoads_pool hn).trans hw.2.pool⟩
  case en =>
    rw [rd_routeLoads_below hn (by simp only [Fld.id, F.TXF_CTL_EN, F.TXF_CTL, F.ROUTE_CTL]; omega)]
    exact hw.1.1 (F.TXF_CTL_EN f, 1) (by simp)
  case count =>
    rw [rd_routeLoads_below hn (by decide)]
    exact hw.1.1 (F.FLOW_STATUS_TX_CH, _) (by simp)
  case route => exact rd_routeLoads_chRoutes hi (qbase_of_txBad hbad)

/-- Settles O26: each command to a flow by its condition, as register writes on the flow's new hidden state, with the
loads of the route entries after them where EN rises. -/
theorem flowControl : Obligations.FlowControl := by
  intro s f b v k s0 dl g i hl hrx htx
  unfold FlowControlAt
  intro d0 c t load tload p states ticks past lost
  have hpath : p = (d0.rxf f).path b := rfl
  refine ⟨fun hcfg hbad hch hrate => ?enable, fun hcfg hbad => ?refuse, fun hcfg => ?again, fun hcfg hr => ?ready,
    fun hcfg => ?disable, fun hcfg => ?off, fun hpast hlater => ?lost, fun hpast hlater ht => ?resumed,
    fun hdue => ?noDue, fun hdue ht => ?early, fun hcfg hbad hch hrate => ?txEnable, fun hcfg hbad => ?txRefuse,
    fun hcfg => ?txAgain, ?txDisable, ?seq⟩
  case enable =>
    obtain ⟨hpool, hspec⟩ := rxEnable_spec hcfg hbad hch hrate g i
    exact .of_unit hl hrx (exec_rxfEnable s f) rfl hpool hspec
  case refuse =>
    have hopen := rxOpen_refused hcfg hbad
    have hnone : ((d0.rxOpen f).rxf f).cfg = none := by rw [hopen]; exact hcfg
    have hw := writes_refusal d0 (en := F.RXF_CTL_EN f) (ev := F.RXF_EVENTS_CFG_ERR f)
      (by simp only [Fld.id, F.RXF_CTL_EN, F.RXF_CTL, F.RXF_EVENTS_CFG_ERR, F.RXF_EVENTS]; omega) Nat.one_pos
    exact .of_unit hl hrx (exec_rxfEnable s f) ((rxEnable_none hcfg hnone).trans hopen) rfl hw
  case again => exact .of_unit_idle hl hrx (exec_rxfEnable s f) (rxEnable_again hcfg)
  case ready =>
    have hw := writes_rxReadied d0 f k.dual
    obtain ⟨hnew, honly⟩ := rxOnly_setRxf hw.2.net g
    refine .of_unit hl hrx (exec_rxfReady s f) (rxReady_clear hcfg hr) hw.2.pool
      ⟨hw.1, hnew, honly, fun hi => ?_, ⟨fun x hx => ?_, Mem.flash_clearV _ _⟩, hw.2.frameNet⟩
    · rw [Mem.byte_clearV, if_pos (mem_ringTops.mpr ⟨i, hi, rfl⟩), toNat_and_7F]
    · rw [Mem.byte_clearV, if_neg]
      intro hmem
      obtain ⟨j, hj, rfl⟩ := mem_ringTops.mp hmem
      omega
  case disable =>
    have hw := writes_rxDisable hcfg
    obtain ⟨hnew, honly⟩ := rxOnly_setRxf hw.2.net g
    exact .of_unit hl hrx (exec_rxfDisable s f) rfl hw.2.pool ⟨hnew, hw.1, honly, hw.2.frameNet⟩
  case off =>
    exact .of_unit hl hrx (exec_rxfDisable s f) (rxDisable_off hcfg) rfl
      (writes_one d0 (by simp [F.RXF_CTL_EN]))
  case lost =>
    obtain ⟨hdue, htime, hin, hrun⟩ := hpast
    have hd := pathDeadline_past hdue htime hin hrun
    rw [← hpath, hlater, if_neg Bool.false_ne_true] at hd
    have hw := writes_pathLost_setPath d0 f b (nextDue d0 f p) (by decide : 3 < 4)
    have hnext : nextDue d0 f p = none := by simp [nextDue, hlater]
    obtain ⟨hlost, hset, hnew⟩ := pathLost_spec hw (by simp [pathState_mem_pathF]) g
    refine .of_unit hl hrx (exec_pathDeadline s f b) hd hw.2.pool ⟨hlost, hset (pathState f b, 3) (by simp), ?_⟩
    refine hnew.trans ?_
    rw [← hpath, hnext, ← hlater]
  case resumed =>
    obtain ⟨hdue, htime, hin, hrun⟩ := hpast
    have hd := pathDeadline_past hdue htime hin hrun
    rw [← hpath, hlater, if_pos rfl] at hd
    have hw := writes_pathLost_resumed d0 f b (nextDue d0 f p) (by decide : 2 < 4)
    have hnext : nextDue d0 f p = some (p.sLast.getD 0, p.sLast.getD 0 + ticks * 2000000) := by
      simp only [nextDue, hlater, Bool.true_and]; exact if_pos (decide_eq_true ht)
    obtain ⟨hlost, hset, hnew⟩ := pathLost_spec hw (by simp [pathState_mem_pathF, resumed_mem_pathF]) g
    refine .of_unit hl hrx (exec_pathDeadline s f b) hd hw.2.pool ⟨hlost, hset (pathState f b, 2) (by simp),
      hset (F.RXF_EVENTS_RESUMED_EV f, 1) (by simp), ?_⟩
    refine hnew.trans ?_
    rw [← hpath, hnext]
  case noDue => exact .of_unit_idle hl hrx (exec_pathDeadline s f b) (pathDeadline_none hdue)
  case early => exact .of_unit_idle hl hrx (exec_pathDeadline s f b) (pathDeadline_early hdue ht)
  case txEnable =>
    obtain ⟨hnew, hen, hcount, hother, hnet, hroute, hframe, hpool⟩ := txEnable_spec hcfg hbad hch hrate g i
    exact .of_unit hl htx (exec_txfEnable s f) rfl hpool ⟨congrArg TxFlow.cfg hnew, congrArg TxFlow.since hnew,
      congrArg TxFlow.cur hnew, hen, hcount, hother, hnet, hroute, hframe⟩
  case txRefuse =>
    have hopen := txOpen_refused hcfg hbad
    have hnone : ((d0.txOpen f).txf f).cfg = none := by rw [hopen]; exact hcfg
    have hw := writes_refusal d0 (en := F.TXF_CTL_EN f) (ev := F.TXF_EVENTS_CFG_ERR f)
      (by simp only [Fld.id, F.TXF_CTL_EN, F.TXF_CTL, F.TXF_EVENTS_CFG_ERR, F.TXF_EVENTS]; omega) Nat.one_pos
    exact .of_unit hl htx (exec_txfEnable s f) ((txEnable_none hcfg hnone).trans hopen) rfl hw
  case txAgain => exact .of_unit_idle hl htx (exec_txfEnable s f) (txEnable_again hcfg)
  case txDisable =>
    have hw := writes_txDisable d0 f
    obtain ⟨hnew, hother, hnet⟩ := txOnly_setTxf hw.2.net g
    exact .of_unit hl htx (exec_txfDisable s f) rfl hw.2.pool ⟨hnew, hw.1, hother, hnet, hw.2.frameNet⟩
  case seq => exact .of_unit hl htx (exec_txfSeqWrite s f v) rfl rfl (writes_one d0 v.isLt)

end Sys2Proof.Claim
end

section
/-! SUPPORT. A statement that the model refutes: playout by settings whose ring has no ticks (R134, R139). -/

namespace Sys2Proof.Claim

open Sys2Proof.Machine

/-- Settings of one channel whose ring, at address 0, has no ticks; a flow's EN rise takes 4 at the least (R148). -/
def ringless : RxCfg := ⟨0, 0, 1, 0, 0, false, false, 0, false, (0, 0), (0, 0), 0, 0, 0, 0, 0, 0⟩

/-- Receive flow 0 is ready, and the first slot that playout would empty holds a sample. -/
def slotFilled : State := ⟨⟨Dev.reset.wr (F.RXF_STATUS_READY 0) 1, ⟨[(3, 128)], []⟩⟩, []⟩

/-- Playout empties the slot all the same. -/
theorem slotFilled_emptied : (slotFilled.chip.playFlow 0 ringless).1.mem.byte 3 = 0 := by decide +kernel

/-- Refutes O27: the clause of playout claims that no byte outside the ring changes, for every settings `k`, those of no
flow included. A ring of 0 ticks has no byte, and the index of a tick's samples modulo its length is the index itself
(division by 0), so that playout clears the V bits of as many slots as a tick holds, all of them outside the ring. -/
theorem not_flowPacket : ¬ Obligations.FlowPacket := by
  intro h
  obtain ⟨-, -, -, -, -, -, -, -, -, hplay, -⟩ := h slotFilled ⟨0, 0, [], 0, 0, 0⟩ [] ringless ⟨0, 0, 0, []⟩ [] 0 [] 0 0 0 0
    0 0 ⟨0, 0, 1, 1, 0, false, false, (0, 0), (0, 0), 0, 0, 0⟩ ⟨[], none, none, 0, false, 0⟩ [] ⟨[], 0, 0, 0⟩ ⟨rfl, rfl, rfl⟩
  obtain ⟨-, houtside, -⟩ := hplay (by decide +kernel)
  have hkept := (houtside 3 (.inr (by decide))).symm.trans slotFilled_emptied
  exact absurd hkept (by decide)

end Sys2Proof.Claim
end

section
/-! SUPPORT. A context's operands: what each register reads after each write to one (R240, R268, R274, R275). -/

namespace Sys2Proof.Machine

variable (k : Ctx)

/-! ### G -/

/-- G0 reads 0 and takes nothing. -/
theorem Ctx.rdG_wrG (rd r : BitVec 5) (v : Word) :
    (k.wrG rd v).rdG r = if r = 0 then 0 else if r = rd then v else k.rdG r := by
  unfold Ctx.wrG Ctx.rdG
  by_cases hr : r = 0
  · rw [if_pos hr, if_pos hr]
  · rw [if_neg hr, if_neg hr]
    by_cases hd : rd = 0
    · rw [if_pos hd, if_neg (fun h => hr (h.trans hd)), if_neg hr]
    · rw [if_neg hd, if_neg hr, Sparse.get_set]
      simp only [BitVec.toNat_inj]

/-- A write to G changes no other register. -/
theorem Ctx.wrG_eq (rd : BitVec 5) (v : Word) : k.wrG rd v = { k with g := (k.wrG rd v).g } := by
  unfold Ctx.wrG; split <;> rfl

@[simp] theorem Ctx.wrG_a (rd : BitVec 5) (v : Word) : (k.wrG rd v).a = k.a := by rw [Ctx.wrG_eq]
@[simp] theorem Ctx.wrG_p (rd : BitVec 5) (v : Word) : (k.wrG rd v).p = k.p := by rw [Ctx.wrG_eq]
@[simp] theorem Ctx.wrG_pc (rd : BitVec 5) (v : Word) : (k.wrG rd v).pc = k.pc := by rw [Ctx.wrG_eq]
@[simp] theorem Ctx.wrG_fsr (rd : BitVec 5) (v : Word) : (k.wrG rd v).fsr = k.fsr := by rw [Ctx.wrG_eq]
@[simp] theorem Ctx.wrG_mixing (rd : BitVec 5) (v : Word) : (k.wrG rd v).mixing = k.mixing := by rw [Ctx.wrG_eq]

@[simp] theorem Ctx.rdA_wrG (rd : BitVec 5) (v : Word) (a : BitVec 3) : (k.wrG rd v).rdA a = k.rdA a := by
  rw [Ctx.wrG_eq]; rfl
@[simp] theorem Ctx.rdAov_wrG (rd : BitVec 5) (v : Word) (a : BitVec 3) : (k.wrG rd v).rdAov a = k.rdAov a := by
  rw [Ctx.wrG_eq]; rfl
@[simp] theorem Ctx.rdV_wrG (rd : BitVec 5) (v : Word) (u : BitVec 4) (j : Nat) : (k.wrG rd v).rdV u j = k.rdV u j := by
  rw [Ctx.wrG_eq]; rfl
@[simp] theorem Ctx.rdP_wrG (rd : BitVec 5) (v : Word) (p : BitVec 3) (f : Nat) : (k.wrG rd v).rdP p f = k.rdP p f := by
  rw [Ctx.wrG_eq]; rfl

/-- A write to G and one to A or AOV in either order. -/
theorem Ctx.wrA_wrG (rd : BitVec 5) (w : Word) (a : BitVec 3) (v : Int) :
    (k.wrG rd w).wrA a v = (k.wrA a v).wrG rd w := by
  unfold Ctx.wrG; split <;> rfl

theorem Ctx.wrAov_wrG (rd : BitVec 5) (w : Word) (a : BitVec 3) (f : Bool) :
    (k.wrG rd w).wrAov a f = (k.wrAov a f).wrG rd w := by
  unfold Ctx.wrG; split <;> rfl

/-! ### A and its AOV -/

/-- Does a number fit an accumulator (R161)? -/
abbrev fitsA (v : Int) : Prop := -(2 ^ 71) ≤ v ∧ v < 2 ^ 71

theorem Ctx.rdA_fits (a : BitVec 3) : fitsA (k.rdA a) :=
  ⟨BitVec.le_toInt _, BitVec.toInt_lt⟩

theorem Ctx.rdA_wrA (a b : BitVec 3) {v : Int} (h : fitsA v) : (k.wrA a v).rdA b = if b = a then v else k.rdA b := by
  unfold Ctx.rdA Ctx.wrA
  rw [Sparse.get_set]
  simp only [BitVec.toNat_inj]
  split
  · rw [BitVec.toInt_ofInt_eq_self (by decide) h.1 h.2]
  · rfl

theorem Ctx.rdA_wrA_other {a b : BitVec 3} (v : Int) (h : b ≠ a) : (k.wrA a v).rdA b = k.rdA b := by
  unfold Ctx.rdA Ctx.wrA
  rw [Sparse.get_set_other _ _ _ fun e => h (BitVec.eq_of_toNat_eq e)]

theorem Ctx.rdAov_wrAov (a b : BitVec 3) (f : Bool) : (k.wrAov a f).rdAov b = if b = a then f else k.rdAov b := by
  unfold Ctx.rdAov Ctx.wrAov
  rw [Sparse.get_set]
  simp only [BitVec.toNat_inj]

/-! ### V -/

theorem Ctx.rdV_wrV (u v : BitVec 4) {i j : Nat} (hi : i < 8) (hj : j < 8) (x : Word) :
    (k.wrV v j x).rdV u i = if u = v ∧ i = j then x else k.rdV u i := by
  have hkey : 8 * u.toNat + i = 8 * v.toNat + j ↔ u = v ∧ i = j := by
    rw [← BitVec.toNat_inj]; omega
  unfold Ctx.rdV Ctx.wrV
  rw [Sparse.get_set]
  simp only [hkey]

theorem Ctx.rdV_foldl_wrV (u v : BitVec 4) (f : Nat → Word) {i : Nat} (hi : i < 8) :
    ∀ (l : List Nat) (k : Ctx), (∀ j ∈ l, j < 8) →
      (l.foldl (fun c j => c.wrV v j (f j)) k).rdV u i = if u = v ∧ i ∈ l then f i else k.rdV u i
  | [], k, _ => by simp
  | j :: l, k, h => by
    rw [List.foldl_cons, Ctx.rdV_foldl_wrV u v f hi l _ fun n hn => h n (List.mem_cons_of_mem _ hn),
      Ctx.rdV_wrV k u v hi (h j List.mem_cons_self)]
    by_cases hu : u = v <;> by_cases hj : i = j <;> by_cases hl : i ∈ l <;> simp [hu, hj, hl]

theorem Ctx.rdV_wrVs (u v : BitVec 4) (f : Nat → Word) {i : Nat} (hi : i < 8) :
    (k.wrVs v f).rdV u i = if u = v then f i else k.rdV u i := by
  unfold Ctx.wrVs
  rw [Ctx.rdV_foldl_wrV u v f hi _ _ fun j hj => List.mem_range.mp hj]
  simp [hi]

/-- A write to V changes no other register. -/
theorem Ctx.wrVs_eq (v : BitVec 4) (f : Nat → Word) : k.wrVs v f = { k with v := (k.wrVs v f).v } :=
  foldl_keeps (fun c : Ctx => c = { k with v := c.v }) _ (fun _ j h => congrArg (·.wrV v j (f j)) h) _ _ rfl

/-! ### P -/

theorem Ctx.rdP_wrP (p o : BitVec 3) {f g : Nat} (hf : f < 3) (hg : g < 3) (v : Nat) :
    (k.wrP p f v).rdP o g = if o = p ∧ g = f then v else k.rdP o g := by
  have hkey : 3 * o.toNat + g = 3 * p.toNat + f ↔ o = p ∧ g = f := by
    rw [← BitVec.toNat_inj]; omega
  unfold Ctx.rdP Ctx.wrP
  rw [Sparse.get_set]
  simp only [hkey]

end Sys2Proof.Machine
end

section
/-! SUPPORT. What an access leaves alone, and an instruction of a context that may issue (R217, R222, R238, R303). -/

namespace Sys2Proof.Machine

/-- No context, no cell of a queue and no byte of the flash differs. -/
structure Chip.Accessed (c c' : Chip) : Prop where
  ctxs : c'.dev.ctxs = c.dev.ctxs
  pool : c'.dev.pool = c.dev.pool
  flash : c'.mem.flash = c.mem.flash

theorem Chip.Accessed.refl (c : Chip) : c.Accessed c := ⟨rfl, rfl, rfl⟩

theorem Chip.Accessed.trans {c c' c'' : Chip} (h : c.Accessed c') (h' : c'.Accessed c'') : c.Accessed c'' :=
  ⟨h'.ctxs.trans h.ctxs, h'.pool.trans h.pool, h'.flash.trans h.flash⟩

theorem Chip.Accessed.ctx {c c' : Chip} (h : c.Accessed c') (y : Nat) : c'.dev.ctx y = c.dev.ctx y := by
  unfold Dev.ctx; rw [h.ctxs]

theorem Mem.flash_store (n a v : Nat) (m : Mem) : (m.store a n v).flash = m.flash := by
  induction n generalizing a m with
  | zero => rfl
  | succ n ih => rw [Mem.store, ih]; rfl

variable (c : Chip)

theorem Chip.accessed_setLeafBit (leaf ppn b : Nat) : c.Accessed (c.setLeafBit leaf ppn b) := by
  unfold Chip.setLeafBit
  dsimp only
  split
  · exact ⟨rfl, rfl, Mem.flash_store _ _ _ _⟩
  · exact .refl c

theorem Chip.accessed_eccFault {α : Type} (a : Nat) : c.Accessed (c.eccFault (α := α) a).1 := ⟨rfl, rfl, rfl⟩

theorem Chip.accessed_tlbFill (n : Nat) (e : TlbEntry) : c.Accessed (c.onDev (·.tlbFill n e)) := by
  unfold Dev.tlbFill Dev.when Chip.onDev
  dsimp only
  split <;> exact ⟨rfl, rfl, rfl⟩

theorem Chip.Accessed.ite {c : Chip} {α : Type} {p : Prop} [Decidable p] {x y : Chip × α} (hx : c.Accessed x.1)
    (hy : c.Accessed y.1) : c.Accessed (if p then x else y).1 := by
  split <;> assumption

theorem Chip.accessed_walk (w : Who) (va : Nat) (k : Access) : c.Accessed (c.walk w va k).1 := by
  unfold Chip.walk
  extract_lets
  exact .ite (.refl c) <| .ite (.refl c) <| .ite (c.accessed_eccFault _) <| .ite (.refl c) <| .ite (.refl c) <|
    .ite (.refl c) <| .ite (c.accessed_eccFault _) <| .ite (.refl c) <| .ite (.refl c) <| .ite (.refl c) <|
    .ite (.refl c) <| (c.accessed_setLeafBit _ _ _).trans (Chip.accessed_tlbFill _ _ _)

theorem Chip.accessed_translate (w : Who) (va : Nat) (k : Access) : c.Accessed (c.translate w va k).1 := by
  have hmiss : c.Accessed (c.onDev (·.tlbMiss w)) := by
    unfold Dev.tlbMiss; cases w.ctx <;> exact ⟨rfl, rfl, rfl⟩
  unfold Chip.translate
  dsimp only
  split
  · split
    · exact ⟨rfl, rfl, rfl⟩
    · exact .refl c
  · exact hmiss.trans (Chip.accessed_walk _ _ _ _)

theorem Chip.accessed_reach (w : Who) (va size : Nat) (k : Access) : c.Accessed (c.reach w va size k).1 := by
  have ht := c.accessed_translate w va k
  unfold Chip.reach
  split
  · split
    · exact .refl c
    · split
      · exact .refl c
      · split <;> exact .refl c
  · split
    · next h => rwa [h] at ht
    · next h =>
      rw [h] at ht
      dsimp only
      split
      · exact ht.trans (Chip.accessed_eccFault _ _)
      · split
        · exact ht.trans (Chip.accessed_eccFault _ _)
        · split <;> exact ht

theorem Chip.accessed_prepare (w : Who) (size : Nat) (k : Access) :
    ∀ (rs : List Ref) (c : Chip), c.Accessed (c.prepare w size k rs).1
  | [], c => .refl c
  | r :: rs, c => by
    have hr := c.accessed_reach w r.va (if r.bad then 1 else size) k
    unfold Chip.prepare
    split
    · next h => rwa [h] at hr
    · next c1 _ h =>
      rw [h] at hr
      have hrs := Chip.accessed_prepare w size k rs c1
      split
      · exact hr
      · split <;> next h => rw [h] at hrs; exact hr.trans hrs

/-- The fetch of an instruction that does not fault. -/
theorem Chip.accessed_fetch {x : Nat} (h : (c.fetch x).2 = true) : c.Accessed (c.fetch x).1 := by
  have hw : (c.fetchWord x).2 = true → c.Accessed (c.fetchWord x).1 := by
    have hr := c.accessed_reach (c.dev.whoCtx x) (c.dev.ctx x).pc 4 .fetch
    unfold Chip.fetchWord
    dsimp only
    split
    · exact fun _ => ⟨rfl, rfl, rfl⟩
    · split
      · exact fun hf => nomatch hf
      · next h =>
        rw [h] at hr
        intro _
        split <;> exact hr.trans ⟨rfl, rfl, rfl⟩
  revert h
  unfold Chip.fetch
  split
  · next h => rw [h] at hw; exact fun _ => (hw rfl).trans ⟨rfl, rfl, rfl⟩
  · exact fun hf => nomatch hf

end Sys2Proof.Machine
end

section
/-! SUPPORT. An instruction of a context that may issue and whose fetch does not fault (R238, R303), and one that writes
a G register alone. -/

namespace Sys2Proof.Claim

open Sys2Proof.Machine

variable {i : Instr} {s : State} {x : Fin 64}

theorem Issues.awake (h : Issues s x) : s.awake = true := by
  obtain ⟨⟨hreset, hsupply, -⟩, -, -⟩ := h
  rw [State.awake, hreset, hsupply]; rfl

theorem Issues.accessed (h : Issues s x) : s.chip.Accessed (s.chip.fetch x).1 := s.chip.accessed_fetch h.2.2

theorem Issues.out_nil (h : Issues s x) : (s.chip.fetch x).1.dev.pool.out = [] := by
  rw [h.accessed.pool]; exact h.1.2.2

/-- An instruction acts on what its fetch leaves. -/
theorem Issues.exec_issue (h : Issues s x) {f : Chip → Chip} (he : exec i s = s.run fun c => c.issue x f) :
    exec i s = .next { s with chip := (f (s.chip.fetch x).1).settleCells } := by
  rw [he, State.run_next, if_pos h.awake, Chip.issue_running _ _ _ h.2.1, if_pos h.2.2]

/-- One that puts no word into a cell. -/
theorem Issues.exec_quiet (h : Issues s x) {f : Chip → Chip} (he : exec i s = s.run fun c => c.issue x f)
    (ho : (f (s.chip.fetch x).1).dev.pool.out = []) :
    exec i s = .next { s with chip := f (s.chip.fetch x).1 } := by
  rw [h.exec_issue he, Chip.settleCells, if_pos ho]

/-- A register-only instruction. -/
theorem Runs.of_reg (h : Issues s x) {f : Ctx → Ctx} {p : Ctx → Ctx → Prop} (he : exec i s = s.reg x f)
    (hp : p (s.chip.dev.ctx x) (f (s.chip.dev.ctx x)).next) : Runs i s x p := by
  refine ⟨(f (s.chip.dev.ctx x)).next, ?_, hp⟩
  rw [h.exec_quiet he h.out_nil, ← h.accessed.ctx x]
  rfl

variable (k : Ctx)

theorem gWrote_put (rd : BitVec 5) (v : Word) (fl : Nat) : GWrote k ((k.wrG rd v).flag fl).next rd v fl := by
  refine ⟨fun r => k.rdG_wrG rd r v, congrArg (Nat.lor · fl) (k.wrG_fsr rd v), ?_⟩
  rw [Ctx.wrG_eq]; rfl

theorem gWrote_wrG (rd : BitVec 5) (v : Word) : GWrote k (k.wrG rd v).next rd v 0 := by
  refine ⟨fun r => k.rdG_wrG rd r v, ?_, ?_⟩
  · exact (k.wrG_fsr rd v).trans (Nat.or_zero _).symm
  · rw [Ctx.wrG_eq]; rfl

/-- An instruction that writes a G register alone. -/
theorem Runs.of_wrG (h : Issues s x) {rd : BitVec 5} {f : Ctx → Word} {v : Word}
    (he : exec i s = s.reg x fun k => k.wrG rd (f k)) (hv : f (s.chip.dev.ctx x) = v) :
    Runs i s x fun k k' => GWrote k k' rd v 0 :=
  .of_reg h he (hv ▸ gWrote_wrG _ rd _)

end Sys2Proof.Claim
end

section
/-! SUPPORT. Rounding to the nearest, ties to even, and saturation (R162, R275). -/

namespace Sys2Proof.Claim

open Sys2Proof.Machine

/-- `rhe` is the integer nearest to `n / 2 ^ sh`, the even one of two. -/
theorem rhe_near (n : Int) (sh : Nat) : 2 * |n - rhe n sh * 2 ^ sh| ≤ 2 ^ sh ∧
    (2 * |n - rhe n sh * 2 ^ sh| = 2 ^ sh → rhe n sh % 2 = 0) := by
  cases sh with
  | zero => simp [rhe]
  | succ e =>
    have hdiv := Int.mul_ediv_add_emod n (2 ^ (e + 1))
    have hlow := Int.emod_nonneg n (show (2 : Int) ^ (e + 1) ≠ 0 by positivity)
    have hhigh := Int.emod_lt_of_pos n (show (0 : Int) < 2 ^ (e + 1) by positivity)
    have hpow : (2 : Int) ^ (e + 1) = 2 * 2 ^ e := by ring
    simp only [rhe, Nat.add_one_ne_zero, if_false, Nat.add_sub_cancel]
    generalize n / 2 ^ (e + 1) = q at *
    generalize n % 2 ^ (e + 1) = r at *
    rw [hpow] at *
    generalize (2 : Int) ^ e = t at *
    have hup : (q + 1) * (2 * t) = 2 * t * q + 2 * t := by ring
    have hdown : q * (2 * t) = 2 * t * q := by ring
    split
    · rw [hup, abs_of_nonpos (by omega)]; omega
    · rw [hdown, abs_of_nonneg (by omega)]; omega

theorem rounds_rhe {n : Int} {sh : Nat} {p : Int → Prop} (hp : p (rhe n sh)) : Rounds n sh p :=
  ⟨rhe n sh, (rhe_near n sh).1, (rhe_near n sh).2, hp⟩

theorem rhe_zero (sh : Nat) : rhe 0 sh = 0 := by
  unfold rhe
  split
  · rfl
  · rw [Int.zero_ediv, Int.zero_emod, if_neg]
    have hp : (0 : Int) < 2 ^ (sh - 1) := by positivity
    omega

/-- Saturation is the clamp that the statements write. -/
theorem satTo_eq_clip (w : Nat) (v : Int) : satTo w v = clip w v := by
  have hp : (0 : Int) < 2 ^ (w - 1) := by positivity
  unfold satTo clampInt clip
  split
  · omega
  · split <;> omega

theorem clip_of_fits {w : Nat} {v : Int} (h : -(2 ^ (w - 1)) ≤ v ∧ v < 2 ^ (w - 1)) : clip w v = v := by
  unfold clip; omega

theorem outOf_eq (w : Nat) (v : Int) : outOf w v = !decide (-(2 ^ (w - 1)) ≤ v ∧ v < 2 ^ (w - 1)) := by
  unfold outOf
  rw [← decide_not]
  congr 1
  rw [eq_iff_iff]
  omega

theorem ofNat_lowOf (w : Nat) (v : Int) : BitVec.ofNat w (lowOf w v) = BitVec.ofInt w v := by
  refine BitVec.eq_of_toNat_eq ?_
  rw [BitVec.toNat_ofNat, BitVec.toNat_ofInt, lowOf]
  exact Nat.mod_eq_of_lt ((Int.toNat_lt_of_ne_zero (by positivity)).mpr (Int.emod_lt_of_pos _ (by positivity)))

theorem satQ_value (v : Int) : BitVec.ofNat 32 (satQ v).1 = sat32 v := by
  rw [satQ, ofNat_lowOf, satTo_eq_clip]; rfl

theorem satQ_flags (v : Int) : (satQ v).2 = sat32F v := by
  unfold satQ sat32F
  rw [outOf_eq]
  simp only [Bool.not_eq_true', decide_eq_false_iff_not, ite_not]
  rfl
end Sys2Proof.Claim
end

section
/-! SUPPORT. O40: the ALU instructions (R276). -/

namespace Sys2Proof.Claim

open Sys2Proof.Machine

theorem gWrote_satQ (k : Ctx) (rd : BitVec 5) (v : Int) : GWrote k (k.put rd (satQ v)).next rd (sat32 v) (sat32F v) := by
  rw [← satQ_value, ← satQ_flags]
  exact gWrote_put k rd _ _

theorem ofNat_bit (p : Prop) [Decidable p] :
    BitVec.ofNat 32 (bit (decide p)) = if decide p = true then (1 : Word) else 0 := by
  by_cases h : p <;> simp [bit, h]

section
variable (a b : Word)

theorem word_sub : a - b = BitVec.ofInt 32 (a.toInt - b.toInt) := by
  rw [sub_eq_add_neg a.toInt, BitVec.ofInt_add, BitVec.ofInt_neg, BitVec.ofInt_toInt, BitVec.ofInt_toInt, BitVec.sub_eq_add_neg]

theorem word_mul : a * b = BitVec.ofInt 32 (a.toInt * b.toInt) := by
  rw [BitVec.ofInt_mul, BitVec.ofInt_toInt, BitVec.ofInt_toInt]

theorem word_and : a &&& b = BitVec.ofNat 32 (Nat.land a.toNat b.toNat) := by
  rw [show Nat.land a.toNat b.toNat = (a &&& b).toNat from rfl, BitVec.ofNat_toNat, BitVec.setWidth_eq]

theorem word_or : a ||| b = BitVec.ofNat 32 (Nat.lor a.toNat b.toNat) := by
  rw [show Nat.lor a.toNat b.toNat = (a ||| b).toNat from rfl, BitVec.ofNat_toNat, BitVec.setWidth_eq]

theorem word_xor : a ^^^ b = BitVec.ofNat 32 (Nat.xor a.toNat b.toNat) := by
  rw [show Nat.xor a.toNat b.toNat = (a ^^^ b).toNat from rfl, BitVec.ofNat_toNat, BitVec.setWidth_eq]

theorem word_shl (n : Nat) : a <<< n = BitVec.ofNat 32 (a.toNat * 2 ^ n) := by
  refine BitVec.eq_of_toNat_eq ?_
  rw [BitVec.toNat_shiftLeft, BitVec.toNat_ofNat, Nat.shiftLeft_eq]

theorem word_shr (n : Nat) : a >>> n = BitVec.ofNat 32 (a.toNat / 2 ^ n) := by
  refine BitVec.eq_of_toNat_eq ?_
  rw [BitVec.toNat_ushiftRight, BitVec.toNat_ofNat, Nat.shiftRight_eq_div_pow,
    Nat.mod_eq_of_lt (lt_of_le_of_lt (Nat.div_le_self _ _) a.isLt)]

theorem word_sar (n : Nat) : a.sshiftRight n = BitVec.ofInt 32 (a.toInt / 2 ^ n) := by
  rw [BitVec.sshiftRight, Int.shiftRight_eq_div_pow]; simp

theorem word_min : (if a.toInt ≤ b.toInt then a else b) = BitVec.ofInt 32 (min a.toInt b.toInt) := by
  rw [min_def]; split <;> rw [BitVec.ofInt_toInt]

theorem word_max : (if a.toInt ≤ b.toInt then b else a) = BitVec.ofInt 32 (max a.toInt b.toInt) := by
  rw [max_def]; split <;> rw [BitVec.ofInt_toInt]

/-- The leading zeros of a word below 2^(32 - n) that reaches half of it. -/
theorem leading_zeros {n : Nat} (hn : n ≤ 32) (ha : a.toNat < 2 ^ (32 - n)) (h : n = 32 ∨ 2 ^ (31 - n) ≤ a.toNat) :
    32 - bitLen a.toNat = n := by
  unfold bitLen
  split
  · next h0 =>
    rcases h with h | h
    · omega
    · have := Nat.two_pow_pos (31 - n); omega
  · next h0 =>
    have hn : n < 32 := by
      rcases lt_or_eq_of_le hn with h' | rfl
      · exact h'
      · simp at ha; omega
    have hlog : Nat.log2 a.toNat = 31 - n := by
      rw [Nat.log2_eq_iff h0]
      exact ⟨h.resolve_left (by omega), by rwa [show 31 - n + 1 = 32 - n by omega]⟩
    omega

end

/-- Settles O40: each result as the statement writes it, with the flags of saturation. -/
theorem integer : Obligations.Integer := by
  intro s x rd rs rt h
  unfold IntegerAt
  extract_lets a b sh flag
  refine ⟨.of_wrG h rfl (BitVec.add_def a b), .of_wrG h rfl (word_sub a b), .of_wrG h rfl (word_and a b), .of_wrG h rfl (word_or a b),
    .of_wrG h rfl (word_xor a b), .of_wrG h rfl (word_shl a sh), .of_wrG h rfl (word_shr a sh), .of_wrG h rfl (word_sar a sh),
    .of_wrG h rfl (ofNat_bit _), .of_wrG h rfl (ofNat_bit _), .of_wrG h rfl (word_mul a b), .of_wrG h rfl rfl,
    rounds_rhe (.of_reg h rfl (gWrote_satQ _ rd _)), .of_wrG h rfl (word_min a b), .of_wrG h rfl (word_max a b),
    .of_reg h rfl (gWrote_satQ _ rd _), .of_reg h rfl (gWrote_satQ _ rd _), fun n hn ha hle => ?_⟩
  exact Runs.of_wrG h rfl (congrArg (BitVec.ofNat 32) (leading_zeros a hn ha hle))

end Sys2Proof.Claim
end

section
/-! SUPPORT. O42: the vector instructions, lane by lane (R284). -/

namespace Sys2Proof.Claim

open Sys2Proof.Machine

variable {i : Instr} {s : State} {x : Fin 64}

/-- Lane `j` of V[vd] holds `v` and that of every other V[u] is kept; FSR gains the bits `fl`, and the next instruction
follows. -/
def LaneWrote (k k' : Ctx) (vd u : BitVec 4) (j : Nat) (v : Word) (fl : Nat) : Prop :=
  k'.rdV vd j = v ∧ (u ≠ vd → k'.rdV u j = k.rdV u j) ∧ k'.fsr = Nat.lor k.fsr fl ∧
    { k' with v := k.v, fsr := k.fsr } = { k with pc := (k.pc + 4) % 2 ^ 32 }

section
variable (k : Ctx) (vd u : BitVec 4) (j : Fin 8)

theorem laneWrote_wrVs (f : Nat → Word) (fl : Nat) : LaneWrote k ((k.wrVs vd f).flag fl).next vd u j (f j) fl := by
  have hvd := (k.rdV_wrVs vd vd f j.isLt).trans (if_pos rfl)
  have hu := fun h => (k.rdV_wrVs u vd f j.isLt).trans (if_neg h)
  rw [Ctx.wrVs_eq] at hvd hu ⊢
  generalize (k.wrVs vd f).v = lanes at *
  exact ⟨hvd, hu, rfl, rfl⟩

theorem laneWrote_wrVs_unflagged (f : Nat → Word) : LaneWrote k (k.wrVs vd f).next vd u j (f j) 0 := by
  have h := laneWrote_wrVs k vd u j f 0
  rwa [show (k.wrVs vd f).flag 0 = k.wrVs vd f by
    unfold Ctx.flag; rw [show Nat.lor (k.wrVs vd f).fsr 0 = (k.wrVs vd f).fsr from Nat.or_zero _]] at h

theorem laneWrote_wrV (l : BitVec 3) (v : Word) :
    LaneWrote k (k.wrV vd l.toNat v).next vd u j (if l.toNat = j then v else k.rdV vd j) 0 := by
  have hl : l.toNat < 8 := l.isLt
  refine ⟨?_, fun hu => ?_, (Nat.or_zero _).symm, rfl⟩
  · refine (k.rdV_wrV vd vd j.isLt hl v).trans ?_
    simp only [true_and, eq_comm]
  · exact (k.rdV_wrV u vd j.isLt hl v).trans (if_neg fun h => hu h.1)

end

/-- FSR.SAT where one of the results saturates. -/
def anySat (f : Nat → Int) : Nat := if (List.range 8).all (fun i => decide (sat32F (f i) = 0)) = true then 0 else 256

theorem sat32F_cases (v : Int) : sat32F v = 0 ∨ sat32F v = 256 := by
  unfold sat32F; split <;> simp

/-- The bits that the lanes gather. -/
theorem foldl_sat32F (f : Nat → Int) (l : List Nat) :
    l.foldl (fun a j => Nat.lor a (sat32F (f j))) 0 = if l.all (fun i => decide (sat32F (f i) = 0)) = true then 0 else 256 := by
  have kept : ∀ l : List Nat, l.foldl (fun a j => Nat.lor a (sat32F (f j))) 256 = 256 := fun l =>
    foldl_keeps (· = 256) _ (fun a j h => by rcases sat32F_cases (f j) with e | e <;> rw [h, e] <;> rfl) l _ rfl
  induction l with
  | nil => rfl
  | cons j l ih =>
    rw [List.foldl_cons, List.all_cons]
    rcases sat32F_cases (f j) with e | e
    · rw [e, show Nat.lor 0 0 = 0 from rfl, ih]; simp
    · rw [e, show Nat.lor 0 256 = 256 from rfl, kept]; simp

/-- A lane-wise operation whose results saturate. -/
theorem laneWrote_lanes (k : Ctx) (vd u : BitVec 4) (j : Fin 8) (f : Nat → Int) :
    LaneWrote k (k.lanes vd fun i => satQ (f i)).next vd u j (sat32 (f j)) (anySat f) := by
  unfold Ctx.lanes
  simp only [satQ_flags, satQ_value, foldl_sat32F]
  exact laneWrote_wrVs k vd u j (fun i => sat32 (f i)) (anySat f)

/-! ### The largest magnitude -/

theorem magQ_eq (w : Word) : magQ w = satQ |w.toInt| := by rw [magQ, Int.natCast_natAbs]

theorem satQ_of_nonneg {v : Int} (h : 0 ≤ v) : (satQ v).1 = (min (2 ^ 31 - 1) v).toNat := by
  rw [satQ, satTo_eq_clip]
  unfold lowOf clip
  omega

/-- Of two magnitudes the larger gives the larger value and both flags. -/
theorem satQ_max {u v : Int} (hu : 0 ≤ u) (hv : 0 ≤ v) :
    (max (satQ u).1 (satQ v).1, Nat.lor (satQ u).2 (satQ v).2) = satQ (max u v) := by
  refine Prod.ext ?_ ?_
  · rw [satQ_of_nonneg hu, satQ_of_nonneg hv, satQ_of_nonneg (le_max_of_le_left hu)]
    omega
  · have hflag : ∀ {t : Int}, 0 ≤ t → sat32F t = if t < 2 ^ 31 then 0 else 256 := fun ht =>
      if_congr (and_iff_right (by omega)) rfl rfl
    simp only [satQ_flags, hflag hu, hflag hv, hflag (le_max_of_le_left hu), max_lt_iff]
    by_cases hu' : u < 2 ^ 31
    · simp only [hu', true_and, if_true, Nat.lor_eq, Nat.zero_or]
    · by_cases hv' : v < 2 ^ 31 <;> simp only [hu', hv', false_and, if_true, if_false] <;> rfl

theorem foldl_satQ_max (f : Nat → Int) (hf : ∀ i, 0 ≤ f i) (l : List Nat) : ∀ {b : Int}, 0 ≤ b →
    l.foldl (fun a i => (max a.1 (satQ (f i)).1, Nat.lor a.2 (satQ (f i)).2)) (satQ b) =
      satQ (l.foldl (fun a i => max a (f i)) b) := by
  induction l with
  | nil => exact fun _ => rfl
  | cons i l ih =>
    intro b hb
    rw [List.foldl_cons, List.foldl_cons, satQ_max hb (hf i), ih (le_max_of_le_left hb)]

theorem foldl_max_eq {f : Nat → Int} {m : Int} (l : List Nat) : ∀ {b : Int}, b ≤ m → (∀ i ∈ l, f i ≤ m) →
    (b = m ∨ ∃ i ∈ l, f i = m) → l.foldl (fun a i => max a (f i)) b = m := by
  induction l with
  | nil => intro b _ _ h; simpa using h
  | cons i l ih =>
    intro b hb hl h
    obtain ⟨hi, hl⟩ := List.forall_mem_cons.mp hl
    refine ih (max_le hb hi) hl ?_
    rcases h with rfl | ⟨n, hn, rfl⟩
    · exact .inl (max_eq_left hi)
    · rcases List.mem_cons.mp hn with rfl | hn
      · exact .inl (max_eq_right hb)
      · exact .inr ⟨n, hn, rfl⟩

/-- Settles O42: each result lane by lane, with the flags that the lanes gather. -/
theorem lanes : Obligations.Lanes := by
  intro s x vd vs vt g j l u h
  unfold LanesAt
  extract_lets k0 a b all wrote any round
  have each : ∀ {i : Instr} (f : Ctx → Nat → Int), exec i s = s.reg x (fun k => k.lanes vd fun n => satQ (f k n)) →
      Runs i s x fun k k' => wrote k k' (sat32 (f k0 j)) (any (f k0)) :=
    fun f he => .of_reg h he (laneWrote_lanes k0 vd u j (f k0))
  refine ⟨each (fun k i => (k.rdV vs i).toInt + (k.rdV vt i).toInt) rfl,
    each (fun k i => (k.rdV vs i).toInt - (k.rdV vt i).toInt) rfl, rounds_rhe (each (fun k i => rhe (prodQ (k.rdV vs i) (k.rdV vt i)) 31) rfl),
    .of_reg h rfl (laneWrote_wrVs_unflagged k0 vd u j _), .of_reg h rfl (laneWrote_wrVs_unflagged k0 vd u j _), ?vget,
    .of_reg h rfl (laneWrote_wrV k0 vd u j l _), ?vabs, fun hmax => ?vmaxa⟩
  case vget =>
    refine .of_reg h rfl ?_
    have hlane : (BitVec.ofNat 3 j).toNat = j := by rw [BitVec.toNat_ofNat]; omega
    rw [hlane]
    exact gWrote_wrG k0 g _
  case vabs => exact each (fun k i => |(k.rdV vs i).toInt|) (by simp only [← magQ_eq]; rfl)
  case vmaxa =>
    refine .of_reg h rfl ?_
    have hlargest : (List.range 8).foldl (fun m i => max m |a i|) 0 = |a j| :=
      foldl_max_eq _ (abs_nonneg _) (fun i hi => hmax ⟨i, List.mem_range.mp hi⟩) (.inr ⟨j, List.mem_range.mpr j.isLt, rfl⟩)
    have hfold := foldl_satQ_max (fun i => |a i|) (fun i => abs_nonneg _) (List.range 8) le_rfl
    rw [hlargest] at hfold
    simp only [magQ_eq]
    exact hfold ▸ gWrote_satQ k0 g _

end Sys2Proof.Claim
end

section
/-! SUPPORT. O43: the accumulators: exact sums, saturation with AOV, and the words of an accumulator (R161, R285). -/

namespace Sys2Proof.Claim

open Sys2Proof.Machine

/-- `c` is `k` but for A[ad], which holds `v`, and its AOV, which is `f`. -/
def AccHolds (k c : Ctx) (ad : BitVec 3) (v : Int) (f : Bool) : Prop :=
  c.rdA ad = v ∧ c.rdAov ad = f ∧ (∀ o, o ≠ ad → c.rdA o = k.rdA o ∧ c.rdAov o = k.rdAov o) ∧
    { c with a := k.a, aov := k.aov } = k

section
variable {k c : Ctx} {ad : BitVec 3} {w : Int} {f : Bool}

theorem AccHolds.refl (k : Ctx) (ad : BitVec 3) : AccHolds k k ad (k.rdA ad) (k.rdAov ad) :=
  ⟨rfl, rfl, fun _ _ => ⟨rfl, rfl⟩, rfl⟩

theorem AccHolds.wrA (h : AccHolds k c ad w f) {v : Int} (hv : fitsA v) : AccHolds k (c.wrA ad v) ad v f := by
  obtain ⟨-, hf, hother, hframe⟩ := h
  refine ⟨(c.rdA_wrA ad ad hv).trans (if_pos rfl), hf, fun o ho => ?_, hframe⟩
  exact ⟨(c.rdA_wrA_other v ho).trans (hother o ho).1, (hother o ho).2⟩

theorem AccHolds.wrAov (h : AccHolds k c ad w f) (b : Bool) : AccHolds k (c.wrAov ad b) ad w b := by
  obtain ⟨hw, -, hother, hframe⟩ := h
  refine ⟨hw, (c.rdAov_wrAov ad ad b).trans (if_pos rfl), fun o ho => ?_, hframe⟩
  exact ⟨(hother o ho).1, ((c.rdAov_wrAov ad o b).trans (if_neg ho)).trans (hother o ho).2⟩

theorem fitsA_clip (v : Int) : fitsA (clip 72 v) := by unfold clip; omega

/-- What an addition under R161 leaves: the nearest value of the range, and AOV where that differs. -/
theorem AccHolds.accSet (h : AccHolds k c ad w f) (v : Int) :
    AccHolds k (c.accSet ad v) ad (clip 72 v) (f || !decide (fitsA v)) := by
  have hset := h.wrA (fitsA_clip v)
  have hout : outOf 72 v = !decide (fitsA v) := outOf_eq 72 v
  unfold Ctx.accSet
  rw [satTo_eq_clip, hout]
  by_cases hv : fitsA v
  · rw [decide_eq_true hv, Bool.not_true, Bool.or_false]; exact hset
  · rw [decide_eq_false hv, Bool.not_false, Bool.or_true]; exact hset.wrAov true

theorem AccHolds.accAdd (h : AccHolds k c ad w f) (v : Int) :
    AccHolds k (c.accAdd ad v) ad (clip 72 (w + v)) (f || !decide (fitsA (w + v))) := by
  have hset := h.accSet (c.rdA ad + v)
  rw [h.1] at hset
  exact h.1 ▸ hset

theorem AccHolds.frame (h : AccHolds k c ad w f) : c = { k with a := c.a, aov := c.aov } := by
  obtain ⟨-, -, -, hframe⟩ := h
  rw [← hframe]

end

/-! ### Sums of lane products -/

/-- Additions of `p 0` to `p (m - 1)` in order. -/
def accSum (c : Ctx) (ad : BitVec 3) (p : Nat → Int) (m : Nat) : Ctx :=
  (List.range m).foldl (fun c j => c.accAdd ad (p j)) c

theorem accSum_succ (c : Ctx) (ad : BitVec 3) (p : Nat → Int) (m : Nat) :
    accSum c ad p (m + 1) = (accSum c ad p m).accAdd ad (p m) := by
  rw [accSum, List.range_succ, List.foldl_append]; rfl

/-- The sum after `m` of the additions. -/
def partSum (k : Ctx) (ad : BitVec 3) (p : Nat → Int) (m : Nat) : Int := k.rdA ad + ((List.range m).map p).sum

theorem partSum_succ (k : Ctx) (ad : BitVec 3) (p : Nat → Int) (m : Nat) :
    partSum k ad p (m + 1) = partSum k ad p m + p m := by
  simp [partSum, List.range_succ, add_assoc]

section
variable {k : Ctx} {ad : BitVec 3} {p : Nat → Int}

/-- Where every sum on the way fits, the last one is exact and AOV is kept. -/
theorem accHolds_accSum : ∀ {m : Nat}, (∀ n, n < m → fitsA (partSum k ad p (n + 1))) →
    AccHolds k (accSum k ad p m) ad (partSum k ad p m) (k.rdAov ad)
  | 0, _ => by simpa [accSum, partSum] using AccHolds.refl k ad
  | m + 1, h => by
    have hadd := (accHolds_accSum (m := m) fun n hn => h n (by omega)).accAdd (p m)
    rw [← partSum_succ, ← accSum_succ] at hadd
    have hlast := h m (by omega)
    rwa [clip_of_fits hlast, decide_eq_true hlast, Bool.not_true, Bool.or_false] at hadd

/-- A first sum that does not fit sets AOV, which the others keep. -/
theorem accHolds_accSum_overflow (h : ¬ fitsA (partSum k ad p 1)) :
    ∀ m, ∃ v, AccHolds k (accSum k ad p (m + 1)) ad v true
  | 0 => by
    have hadd := (AccHolds.refl k ad).accAdd (p 0)
    have hsum : partSum k ad p 1 = k.rdA ad + p 0 := by simp [partSum]
    rw [← hsum, decide_eq_false h, Bool.not_false, Bool.or_true] at hadd
    exact ⟨_, hadd⟩
  | m + 1 => by
    obtain ⟨v, hv⟩ := accHolds_accSum_overflow h m
    rw [accSum_succ]
    exact ⟨_, hv.accAdd (p (m + 1))⟩

theorem accAdd_v (c : Ctx) (ad : BitVec 3) (v : Int) : (c.accAdd ad v).v = c.v := by
  unfold Ctx.accAdd; dsimp only; split <;> rfl

theorem accSum_v (k : Ctx) (ad : BitVec 3) (p : Nat → Int) (m : Nat) : (accSum k ad p m).v = k.v :=
  foldl_keeps (fun c : Ctx => c.v = k.v) _ (fun c j h => (accAdd_v c ad (p j)).trans h) _ _ rfl

end

/-- The product that lane `j` gives VMAC (R283). -/
def laneProd (k : Ctx) (vs vt : BitVec 4) (h n : Bool) (j : Nat) : Int :=
  (if n then -1 else 1) * ((k.rdV vs j).toInt * laneCoef h (k.rdV vt j))

/-- VMAC's additions take their products from the V registers as they stand before it. -/
theorem vmac_eq (k : Ctx) (ad : BitVec 3) (vs vt : BitVec 4) (h n : Bool) :
    k.vmac ad vs vt h n = accSum k ad (laneProd k vs vt h n) 8 := by
  have hstep : ∀ (c : Ctx) (j : Nat), c.v = k.v →
      c.accAdd ad (if n then -((c.rdV vs j).toInt * laneCoef h (c.rdV vt j)) else (c.rdV vs j).toInt * laneCoef h (c.rdV vt j)) =
        c.accAdd ad (laneProd k vs vt h n j) := by
    intro c j hc
    unfold Ctx.rdV laneProd
    rw [hc]
    cases n <;> simp [Ctx.rdV]
  have hfold : ∀ (m : Nat), (List.range m).foldl (fun k j =>
      let p := (k.rdV vs j).toInt * laneCoef h (k.rdV vt j)
      k.accAdd ad (if n then -p else p)) k = accSum k ad (laneProd k vs vt h n) m := by
    intro m
    induction m with
    | zero => rfl
    | succ m ih =>
      rw [List.range_succ, List.foldl_append, ih, accSum_succ]
      exact hstep _ m (accSum_v _ _ _ _)
  exact hfold 8

end Sys2Proof.Claim
end

section
/-! SUPPORT. O43: shifts, roundings and words of an accumulator (R162, R285). -/

namespace Sys2Proof.Claim

open Sys2Proof.Machine

/-- A rounded right shift stays in the range. -/
theorem fitsA_rhe {n : Int} (h : fitsA n) (sh : Nat) : fitsA (rhe n sh) := by
  cases sh with
  | zero => exact h
  | succ e =>
    obtain ⟨hlow, hhigh⟩ := h
    have hnear := abs_le.mp (show |2 * (n - rhe n (e + 1) * 2 ^ (e + 1))| ≤ 2 ^ (e + 1) by
      rw [abs_mul]; exact (rhe_near n (e + 1)).1)
    have ht : (2 : Int) ≤ 2 ^ (e + 1) := by
      rw [pow_succ]; have : (0 : Int) < 2 ^ e := by positivity
      omega
    generalize rhe n (e + 1) = v at *
    generalize (2 : Int) ^ (e + 1) = t at *
    constructor
    · by_contra hv
      have : v * t ≤ (-(2 ^ 71) - 1) * t := Int.mul_le_mul_of_nonneg_right (by omega) (by omega)
      omega
    · by_contra hv
      have : 2 ^ 71 * t ≤ v * t := Int.mul_le_mul_of_nonneg_right (by omega) (by omega)
      omega

theorem fitsA_word (w : Word) : fitsA (w.toInt * 2 ^ 31) := by
  have h1 := BitVec.le_toInt w
  have h2 := BitVec.toInt_lt (x := w)
  constructor <;> omega

/-! ### The words of an accumulator -/

theorem fitsA_signedOf (n : Nat) : fitsA (signedOf 72 n) := by
  have := Nat.mod_lt n (show 0 < 2 ^ 72 by decide)
  unfold signedOf
  split <;> constructor <;> omega

theorem signedOf_emod (n : Nat) : signedOf 72 n % 2 ^ 72 = (n : Int) % 2 ^ 72 := by
  unfold signedOf
  split <;> omega

theorem lowOf_emod (v : Int) : ((lowOf 72 v : Nat) : Int) % 2 ^ 72 = v % 2 ^ 72 := by
  unfold lowOf
  omega

/-- Bits below the modulus follow the residue. -/
theorem bit_congr {u v : Int} (h : u % 2 ^ 72 = v % 2 ^ 72) {i : Nat} (hi : i < 72) : u / 2 ^ i % 2 = v / 2 ^ i % 2 := by
  obtain ⟨t, ht⟩ := Int.dvd_of_emod_eq_zero (Int.emod_eq_emod_iff_emod_sub_eq_zero.mp h)
  have hu : u = v + 2 ^ i * (2 * (2 ^ (71 - i) * t)) := by
    have hpow : (2 : Int) ^ i * 2 ^ (71 - i) = 2 ^ 71 := by rw [← pow_add]; congr 1; omega
    have : (2 : Int) ^ i * (2 * (2 ^ (71 - i) * t)) = 2 * (2 ^ i * 2 ^ (71 - i)) * t := by ring
    rw [this, hpow]; omega
  rw [hu, Int.add_mul_ediv_left _ _ (by positivity)]
  omega

/-- Bit `i` of a number whose bits from `w` to `w + n` are replaced by those of `x`. -/
theorem bit_replaced (v x w n i : Nat) :
    (v - bitsAt v w n * 2 ^ w + x % 2 ^ n * 2 ^ w) / 2 ^ i % 2 =
      if w ≤ i ∧ i < w + n then x / 2 ^ (i - w) % 2 else v / 2 ^ i % 2 := by
  have hlo : v % 2 ^ w < 2 ^ w := Nat.mod_lt _ (Nat.two_pow_pos w)
  have hmid : v / 2 ^ w % 2 ^ n < 2 ^ n := Nat.mod_lt _ (Nat.two_pow_pos n)
  have hx : x % 2 ^ n < 2 ^ n := Nat.mod_lt _ (Nat.two_pow_pos n)
  have hhigh := Nat.div_add_mod (v / 2 ^ w) (2 ^ n)
  have hv := Nat.div_add_mod v (2 ^ w)
  have hnew : v - bitsAt v w n * 2 ^ w + x % 2 ^ n * 2 ^ w = 2 ^ w * (2 ^ n * (v / 2 ^ w / 2 ^ n) + x % 2 ^ n) + v % 2 ^ w := by
    have hsub : v = 2 ^ w * (2 ^ n * (v / 2 ^ w / 2 ^ n)) + bitsAt v w n * 2 ^ w + v % 2 ^ w := by
      unfold bitsAt
      rw [Nat.mul_comm _ (2 ^ w), ← Nat.mul_add, hhigh, hv]
    have : v - bitsAt v w n * 2 ^ w = 2 ^ w * (2 ^ n * (v / 2 ^ w / 2 ^ n)) + v % 2 ^ w := by omega
    rw [this, Nat.mul_add, Nat.mul_comm (x % 2 ^ n)]; omega
  rw [hnew, ← Nat.toNat_testBit, ← Nat.toNat_testBit, ← Nat.toNat_testBit, Nat.testBit_two_pow_mul_add _ hlo,
    Nat.testBit_two_pow_mul_add _ hx]
  by_cases hwi : i < w
  · rw [if_pos hwi, if_neg (by omega), Nat.testBit_mod_two_pow, decide_eq_true hwi, Bool.true_and]
  · rw [if_neg hwi]
    by_cases hin : i - w < n
    · rw [if_pos hin, if_pos (by omega), Nat.testBit_mod_two_pow, decide_eq_true hin, Bool.true_and]
    · rw [if_neg hin, if_neg (by omega), Nat.testBit_div_two_pow, Nat.testBit_div_two_pow,
        show i - w - n + n + w = i by omega]

/-- APUT's result, bit by bit: the word's bits from the G register, the others as they were (R285). -/
theorem aput_bit (a : Int) (x : Nat) (w : Fin 3) {i : Nat} (hi : i < 72) :
    signedOf 72 (lowOf 72 a - bitsAt (lowOf 72 a) (32 * w) (if w.val = 2 then 8 else 32) * 2 ^ (32 * w.val) +
        x % 2 ^ (if w.val = 2 then 8 else 32) * 2 ^ (32 * w.val)) / 2 ^ i % 2 =
      if 32 * w.val ≤ i ∧ i < 32 * w.val + 32 then (x : Int) / 2 ^ (i - 32 * w.val) % 2 else a / 2 ^ i % 2 := by
  rw [bit_congr (signedOf_emod _) hi, ← bit_congr (lowOf_emod a) hi]
  have hbit := bit_replaced (lowOf 72 a) x (32 * w) (if w.val = 2 then 8 else 32) i
  have hword : 32 * w.val ≤ i ∧ i < 32 * w.val + (if w.val = 2 then 8 else 32) ↔ 32 * w.val ≤ i ∧ i < 32 * w.val + 32 := by
    split <;> omega
  simp only [hword] at hbit
  have hcast := congrArg (Nat.cast (R := Int)) hbit
  push_cast [apply_ite (Nat.cast (R := Int))] at hcast
  exact_mod_cast hcast

section
variable {k c : Ctx} {ad : BitVec 3} {v : Int} {f : Bool}

section
variable {k' : Ctx} {g : BitVec 5} {x : Word} {fl : Nat} (h : GWrote c k' g x fl)
include h

theorem GWrote.a_eq : k'.a = c.a := by
  obtain ⟨-, -, hframe⟩ := h
  exact (congrArg Ctx.a hframe :)

theorem GWrote.aov_eq : k'.aov = c.aov := by
  obtain ⟨-, -, hframe⟩ := h
  exact (congrArg Ctx.aov hframe :)

/-- The accumulators as a write to G finds them are those that it leaves. -/
theorem GWrote.over (hc : { k with a := c.a, aov := c.aov } = c) :
    GWrote { k with a := k'.a, aov := k'.aov } k' g x fl := by
  rw [h.a_eq, h.aov_eq, hc]
  exact h

end

theorem AccHolds.overflowed (h : AccHolds k c ad v true) (g : BitVec 5) :
    c.next.rdAov ad = true ∧ c.next.rdG g = k.rdG g := by
  obtain ⟨-, haov, -, hframe⟩ := h
  exact ⟨haov, congrArg (·.rdG g) hframe⟩

/-- VMACR's end: the sum rounded to G[g], A[ad] zero, its AOV as the additions left it (R283). -/
theorem vmacr_wrote (g : BitVec 5) (o : BitVec 3) (h : AccHolds k c ad v f) :
    let k' := ((c.put g (roundQ31 (c.rdA ad) 31)).wrA ad 0).next
    k'.rdA ad = 0 ∧ k'.rdAov ad = f ∧ (o ≠ ad → k'.rdA o = k.rdA o) ∧
      GWrote { k with a := k'.a, aov := k'.aov } k' g (sat32 (rhe v 31)) (sat32F (rhe v 31)) := by
  have hk' : ((c.put g (roundQ31 (c.rdA ad) 31)).wrA ad 0).next = ((c.wrA ad 0).put g (satQ (rhe v 31))).next := by
    rw [h.1]; exact congrArg (fun c => (Ctx.flag c _).next) (c.wrA_wrG g _ ad 0)
  have hacc := h.wrA (v := 0) (by decide)
  rw [hk']
  generalize c.wrA ad 0 = c1 at *
  have hframe := hacc.frame
  obtain ⟨hv, hf, hother, -⟩ := hacc
  refine ⟨?_, ?_, fun ho => ?_, (gWrote_satQ c1 g (rhe v 31)).over hframe.symm⟩
  · exact (Ctx.rdA_wrG _ _ _ _).trans hv
  · exact (Ctx.rdAov_wrG _ _ _ _).trans hf
  · exact (Ctx.rdA_wrG _ _ _ _).trans (hother o ho).1

end

theorem gWrote_round24 (k : Ctx) (g : BitVec 5) (r : Int) :
    GWrote k (k.put g (lowOf 32 (satTo 24 r * 256), if outOf 24 r then fSAT else 0)).next g
      (BitVec.ofInt 32 (max (-(2 ^ 23)) (min (2 ^ 23 - 1) r) * 256)) (if -(2 ^ 23) ≤ r ∧ r < 2 ^ 23 then 0 else 256) := by
  have hv : BitVec.ofNat 32 (lowOf 32 (satTo 24 r * 256)) =
      BitVec.ofInt 32 (max (-(2 ^ 23)) (min (2 ^ 23 - 1) r) * 256) := by
    rw [ofNat_lowOf, satTo_eq_clip]; rfl
  have hfl : (if outOf 24 r = true then fSAT else 0) = if -(2 ^ 23) ≤ r ∧ r < 2 ^ 23 then 0 else 256 := by
    rw [outOf_eq]
    simp only [Bool.not_eq_true', decide_eq_false_iff_not, ite_not]; rfl
  rw [← hv, ← hfl]
  exact gWrote_put k g _ _

theorem partial_fits {f : Nat → Int} {m : Nat}
    (h : ((List.range m).all fun n => decide (-(2 ^ 71) ≤ f (n + 1) ∧ f (n + 1) < 2 ^ 71)) = true) :
    ∀ n, n < m → fitsA (f (n + 1)) := fun n hn =>
  of_decide_eq_true (List.all_eq_true.mp h n (List.mem_range.mpr hn))

/-- Settles O43: each result as an accumulator that holds it, or as a rounding written to a G register. -/
theorem accumulate : Obligations.Accumulate := by
  intro s x ad src o g vs vt sh h n w hi
  unfold AccumulateAt
  extract_lets k0 a b fits near coef prod part small wrote grows cut
  have holds : ∀ {c : Ctx} {v : Int} {f : Bool}, AccHolds k0 c ad v f → wrote k0 c.next v f := by
    intro c v f ⟨hv, hf, hother, hframe⟩
    exact ⟨hv, hf, hother o, congrArg Ctx.next hframe⟩
  have hsum (hs : small) : AccHolds k0 (k0.vmac ad vs vt h n) ad (part 8) (k0.rdAov ad) := by
    rw [vmac_eq]
    exact accHolds_accSum (partial_fits hs)
  have hself := AccHolds.refl k0 ad
  refine ⟨.of_reg hi rfl (holds ((hself.wrA (v := 0) (by decide)).wrAov false)), .of_reg hi rfl (holds (hself.wrA (fitsA_word _))),
    .of_reg hi rfl (holds (hself.accAdd _)), .of_reg hi rfl (holds (hself.accAdd (-b))),
    rounds_rhe (.of_reg hi rfl (holds (hself.wrA (fitsA_rhe (k0.rdA_fits ad) _)))), .of_reg hi rfl (holds (hself.accSet _)),
    fun hsmall => ?vmac, fun hover => ?overflow, fun hsmall => ?vmacr, rounds_rhe (.of_reg hi rfl (gWrote_satQ k0 g _)),
    rounds_rhe ?arnd24, ?aflag, ?aget, ?aput⟩
  case vmac => exact .of_reg hi rfl (holds (hsum hsmall))
  case overflow =>
    have hfirst : ¬ fitsA (partSum k0 ad (laneProd k0 vs vt h n) 1) := of_decide_eq_false hover
    obtain ⟨v, hv⟩ := accHolds_accSum_overflow hfirst 7
    rw [← vmac_eq] at hv
    exact .of_reg hi rfl (hv.overflowed g)
  case vmacr =>
    refine rounds_rhe (.of_reg hi rfl ?_)
    exact vmacr_wrote g o (hsum hsmall)
  case arnd24 =>
    refine .of_reg hi rfl ?_
    exact gWrote_round24 k0 g _
  case aflag =>
    refine .of_reg hi rfl ?_
    have hcommute : ((k0.wrGn g (bit (k0.rdAov src))).wrAov src false).next =
        ((k0.wrAov src false).wrG g (if k0.rdAov src = true then 1 else 0)).next := by
      rw [Ctx.wrGn, Ctx.wrAov_wrG]; cases k0.rdAov src <;> rfl
    rw [hcommute]
    have hput := gWrote_wrG (k0.wrAov src false) g (if k0.rdAov src = true then 1 else 0)
    generalize ((k0.wrAov src false).wrG g (if k0.rdAov src = true then 1 else 0)).next = k' at *
    have hover := hput.over (k := k0) rfl
    rw [hput.a_eq] at hover
    refine ⟨?_, hput.a_eq, fun ho => ?_, hover⟩ <;> unfold Ctx.rdAov <;> rw [hput.aov_eq]
    · exact (k0.rdAov_wrAov src src false).trans (if_pos rfl)
    · exact (k0.rdAov_wrAov src o false).trans (if_neg ho)
  case aget =>
    refine .of_wrG hi rfl (BitVec.eq_of_toNat_eq ?_)
    rw [BitVec.toNat_ofInt, BitVec.toNat_ofInt]
    exact congrArg Int.toNat (Int.emod_emod_of_dvd _ (dvd_refl _)).symm
  case aput =>
    refine .of_reg hi rfl ?_
    have hput := hself.wrA (fitsA_signedOf (lowOf 72 a - bitsAt (lowOf 72 a) (32 * w) (if w.val = 2 then 8 else 32) *
      2 ^ (32 * w.val) + (k0.rdG g).toNat % 2 ^ (if w.val = 2 then 8 else 32) * 2 ^ (32 * w.val)))
    have hword := hput.1
    refine ⟨fun i => ?_, holds (hword ▸ hput)⟩
    exact (congrArg (· / 2 ^ i.val % 2) hword).trans (aput_bit a _ w i.isLt)

end Sys2Proof.Claim
end

section
/-! SUPPORT. Lists of loads and stores of a context, and what a store leaves (R217, R222, R266). -/

namespace Sys2Proof.Machine

variable {c c1 : Chip} {x size : Nat} {rs : List Ref} {ps : List Place}

/-! ### Loads and the places of stores -/

/-- Loads that pass every check go on with the values at their places. -/
theorem Chip.loads_ok {f : Chip → List Nat → Chip} (h : c.prepare (c.dev.whoCtx x) size .load rs = (c1, .ok ps)) :
    c.loads x size rs f = f c1 (ps.map fun p => c1.mem.load p.key size) := by
  unfold Chip.loads; rw [h]

theorem Chip.toStore_ok {f : Chip → List Place → Chip} (h : c.prepare (c.dev.whoCtx x) size .store rs = (c1, .ok ps)) :
    c.toStore x size rs f = f c1 ps := by
  unfold Chip.toStore; rw [h]

theorem Chip.loads_fault {f : Chip → List Nat → Chip} {e : Nat × Nat}
    (h : c.prepare (c.dev.whoCtx x) size .load rs = (c1, .error e)) :
    c.loads x size rs f = c1.onDev (·.ctxFault x e.1 .load e.2) := by
  unfold Chip.loads; rw [h]

theorem Chip.toStore_fault {f : Chip → List Place → Chip} {e : Nat × Nat}
    (h : c.prepare (c.dev.whoCtx x) size .store rs = (c1, .error e)) :
    c.toStore x size rs f = c1.onDev (·.ctxFault x e.1 .store e.2) := by
  unfold Chip.toStore; rw [h]

/-- A misaligned access that passes every other check is refused as such (R221, R274). -/
theorem Chip.prepare_misaligned {w : Who} {k : Access} {va : Nat}
    (h : c.prepare w 1 k [⟨va, false⟩] = (c1, .ok ps)) (size : Nat) (rs : List Ref) :
    c.prepare w size k (⟨va, true⟩ :: rs) = (c1, .error (8, va)) := by
  rw [Chip.prepare] at h ⊢
  simp only [Bool.false_eq_true, if_false, if_true] at h ⊢
  generalize c.reach w va 1 k = r at *
  match r, h with
  | (_, .error _), h => simp at h
  | (_, .ok _), h => simp [Chip.prepare] at h; simp [h.1]

theorem Chip.Accessed.of_prepare {w : Who} {k : Access} {e : Except (Nat × Nat) (List Place)}
    (h : c.prepare w size k rs = (c1, e)) : c.Accessed c1 := by
  have hp := Chip.accessed_prepare w size k rs c
  rwa [h] at hp

/-! ### Stores -/

theorem Chip.setLeafBit_cases (c : Chip) (leaf ppn b : Nat) :
    c.setLeafBit leaf ppn b = c ∨ ∃ v, c.setLeafBit leaf ppn b = { c with mem := c.mem.store leaf 4 v } := by
  unfold Chip.setLeafBit
  dsimp only
  split
  · exact .inr ⟨_, rfl⟩
  · exact .inl rfl

theorem Chip.byte_setLeafBit_other (c : Chip) (leaf ppn b : Nat) {a : Nat} (h : a < leaf ∨ leaf + 4 ≤ a) :
    (c.setLeafBit leaf ppn b).mem.byte a = c.mem.byte a := by
  rcases c.setLeafBit_cases leaf ppn b with hc | ⟨v, hc⟩ <;> rw [hc]
  exact Mem.byte_store_other 4 leaf v c.mem h

theorem Chip.accessed_setTlb (c : Chip) (n : Nat) (l : List TlbEntry) : c.Accessed (c.onDev (·.setTlb n l)) := ⟨rfl, rfl, rfl⟩

theorem Chip.accessed_store (c : Chip) (a n v : Nat) : c.Accessed { c with mem := c.mem.store a n v } :=
  ⟨rfl, rfl, Mem.flash_store _ _ _ _⟩

variable (c x) (w : Who) (p : Place)

theorem Chip.accessed_markDirty : c.Accessed (c.markDirty w p) := by
  unfold Chip.markDirty
  split
  · exact .refl c
  · split
    · exact .refl c
    · exact (c.accessed_setLeafBit _ _ _).trans (Chip.accessed_setTlb _ _ _)

theorem Chip.accessed_storeAt (n v : Nat) : c.Accessed (c.storeAt w p n v) :=
  (c.accessed_markDirty w p).trans (Chip.accessed_store _ _ _ _)

theorem Chip.accessed_storeAll (n : Nat) : ∀ (ps : List Place) (vs : List Nat) (c : Chip), c.Accessed (c.storeAll x n ps vs)
  | [], vs, c => by cases vs <;> exact .refl c
  | _ :: _, [], c => .refl c
  | p :: ps, v :: vs, c => (c.accessed_storeAt _ p n v).trans (Chip.accessed_storeAll n ps vs _)

variable {p}

/-- A store through an entry whose D is 1 changes its place alone. -/
theorem Chip.storeAt_clean (h : ∀ e, p.entry = some e → e.d = true) (n v : Nat) :
    c.storeAt w p n v = { c with mem := c.mem.store p.key n v } := by
  have hclean : c.markDirty w p = c := by
    unfold Chip.markDirty
    split
    · rfl
    · next e he => rw [if_pos (h e he)]
  unfold Chip.storeAt
  rw [hclean]

theorem Chip.byte_storeAt_other (n v : Nat) {a : Nat} (ha : a < p.key ∨ p.key + n ≤ a)
    (hl : ∀ e, p.entry = some e → e.d = false → a < e.leaf ∨ e.leaf + 4 ≤ a) :
    (c.storeAt w p n v).mem.byte a = c.mem.byte a := by
  refine (Mem.byte_store_other n p.key v _ ha).trans ?_
  unfold Chip.markDirty
  split
  · rfl
  · next e he =>
    split
    · rfl
    · next hd =>
      rw [Chip.onDev_mem]
      exact Chip.byte_setLeafBit_other _ _ _ _ (hl e he (by simpa using hd))

theorem Chip.byte_storeAll_other (n : Nat) {a : Nat} : ∀ (ps : List Place) (vs : List Nat) (c : Chip),
    (∀ p ∈ ps, (a < p.key ∨ p.key + n ≤ a) ∧ ∀ e, p.entry = some e → e.d = false → a < e.leaf ∨ e.leaf + 4 ≤ a) →
    (c.storeAll x n ps vs).mem.byte a = c.mem.byte a
  | [], vs, c, _ => by cases vs <;> rfl
  | _ :: _, [], _, _ => rfl
  | p :: ps, v :: vs, c, h => by
    obtain ⟨⟨hp, hl⟩, hps⟩ := List.forall_mem_cons.mp h
    exact (Chip.byte_storeAll_other n ps vs _ hps).trans (c.byte_storeAt_other _ n v hp hl)

theorem Chip.storeAll_dev_clean (n : Nat) : ∀ (ps : List Place) (vs : List Nat) (c : Chip),
    (∀ p ∈ ps, ∀ e, p.entry = some e → e.d = true) → (c.storeAll x n ps vs).dev = c.dev
  | [], vs, c, _ => by cases vs <;> rfl
  | _ :: _, [], _, _ => rfl
  | p :: ps, v :: vs, c, h => by
    obtain ⟨hp, hps⟩ := List.forall_mem_cons.mp h
    rw [Chip.storeAll, c.storeAt_clean _ hp, Chip.storeAll_dev_clean n ps vs _ hps]

/-- Places that do not overlap hold the values listed. -/
theorem Chip.load_storeAll (n : Nat) : ∀ (ps : List Place) (vs : List Nat) (c : Chip),
    (∀ p ∈ ps, ∀ e, p.entry = some e → e.d = true) → ps.length = vs.length →
    ps.Pairwise (fun p q => p.key + n ≤ q.key ∨ q.key + n ≤ p.key) →
    ps.map (fun p => (c.storeAll x n ps vs).mem.load p.key n) = vs.map (· % 256 ^ n)
  | [], vs, c, _, hlen, _ => by rw [List.length_eq_zero_iff.mp hlen.symm]; rfl
  | _ :: _, [], _, _, hlen, _ => nomatch hlen
  | p :: ps, v :: vs, c, h, hlen, hapart => by
    obtain ⟨hp, hps⟩ := List.forall_mem_cons.mp h
    obtain ⟨hfirst, hrest⟩ := List.pairwise_cons.mp hapart
    have hkept : (c.storeAll x n (p :: ps) (v :: vs)).mem.load p.key n = v % 256 ^ n := by
      rw [Chip.storeAll, c.storeAt_clean _ hp, ← Mem.load_store n p.key v c.mem]
      refine Mem.load_congr n p.key fun b hb hb' => Chip.byte_storeAll_other x n ps vs _ fun q hq => ⟨?_, ?_⟩
      · have := hfirst q hq; omega
      · intro e he hd
        rw [hps q hq e he] at hd
        exact nomatch hd
    rw [List.map_cons, List.map_cons, hkept]
    exact congrArg _ (Chip.load_storeAll n ps vs _ hps (Nat.succ.inj hlen) hrest)

end Sys2Proof.Machine

namespace Sys2Proof.Claim

open Sys2Proof.Machine

/-- The number that the statements write for the bytes from `a` is the one that a load reads. -/
theorem bytesAt_eq_load (m : Mem) (n : Nat) : ∀ a, bytesAt m a n = m.load a n := by
  induction n with
  | zero => exact fun _ => rfl
  | succ n ih =>
    intro a
    rw [Mem.load, ← ih, bytesAt, bytesAt, List.range_succ_eq_map, List.map_cons, List.sum_cons, List.map_map]
    congr 2
    refine List.map_congr_left fun j hj => ?_
    have hj := List.mem_range.mp hj
    show _ * 256 ^ (n + 1 - 1 - (j + 1)) = _
    rw [show a + (j + 1) = a + 1 + j by omega, show n + 1 - 1 - (j + 1) = n - 1 - j by omega]

/-- An instruction that stores a list of values and then changes its context. -/
theorem StoresAll.of_step {i : Instr} {s : State} {x : Fin 64} (h : Issues s x) {F : Chip → Chip} {c2 : Chip} {size : Nat}
    {ps : List Place} {vs : List Nat} {f : Ctx → Ctx} {q : Ctx → Ctx → Prop}
    (he : exec i s = s.run fun c => c.issue x F) (hacc : (s.chip.fetch x).1.Accessed c2)
    (hF : F (s.chip.fetch x).1 = (c2.storeAll x size ps vs).modCtx x f)
    (hq : q (s.chip.dev.ctx x) (f (s.chip.dev.ctx x))) : StoresAll i s x c2 ps size vs q := by
  have hst := hacc.trans (Chip.accessed_storeAll x size ps vs c2)
  have hctx := (h.accessed.trans hst).ctx
  have hout : (F (s.chip.fetch x).1).dev.pool.out = [] := by
    rw [hF]; exact (congrArg Pool.out hst.pool).trans h.out_nil
  have hx : ((c2.storeAll x size ps vs).modCtx x f).dev.ctx x = f (s.chip.dev.ctx x) :=
    ((Dev.ctx_setCtx_same _ _ _)).trans (congrArg f (hctx x))
  refine ⟨(c2.storeAll x size ps vs).modCtx x f, ?_, hx ▸ hq, fun y hy => ?_, ?_, fun b hb => ?_, fun hclean => ?_,
    fun hclean hlen hapart => ?_⟩
  · rw [h.exec_quiet he hout, hF]
  · exact ((Dev.ctx_setCtx _ _ _ _).trans (if_neg hy)).trans (hctx y)
  · exact (h.accessed.trans hst).flash
  · exact Chip.byte_storeAll_other x size ps vs c2 hb
  · rw [hx, Chip.modCtx, Chip.onDev_dev, Dev.modCtx, hctx x, Chip.storeAll_dev_clean x size ps vs c2 hclean]
    rfl
  · simp only [bytesAt_eq_load]
    exact Chip.load_storeAll x size ps vs c2 hclean hlen hapart

end Sys2Proof.Claim
end

section
/-! SUPPORT. The count register and the stream pointers of a long instruction (R274, R287). -/

namespace Sys2Proof.Machine

variable (k : Ctx) (gn : BitVec 5)

theorem Ctx.total_eq : k.total gn = (k.rdG gn).toNat / 65536 := by
  have := (k.rdG gn).isLt
  unfold Ctx.total bitsAt
  omega

theorem Ctx.done_eq : k.done gn = (k.rdG gn).toNat % 65536 := by
  unfold Ctx.done bitsAt
  omega

@[simp] theorem Ctx.rdG_next (r : BitVec 5) : k.next.rdG r = k.rdG r := rfl
@[simp] theorem Ctx.rdV_next (v : BitVec 4) (j : Nat) : k.next.rdV v j = k.rdV v j := rfl
@[simp] theorem Ctx.rdP_next (p : BitVec 3) (f : Nat) : k.next.rdP p f = k.rdP p f := rfl
@[simp] theorem Ctx.rdV_flag (n : Nat) (v : BitVec 4) (j : Nat) : (k.flag n).rdV v j = k.rdV v j := rfl

/-- Where INDEX stands after a move (R274). -/
def Ctx.moved (p : BitVec 3) (d : Int) : Nat :=
  if k.rdP p 1 = 0 then (((k.rdP p 2 : Int) + d) % 2 ^ 24).toNat else (((k.rdP p 2 : Int) + d) % (k.rdP p 1 : Int)).toNat

theorem Ctx.rdP_advance (p o : BitVec 3) (d : Int) {f : Nat} (hf : f < 3) :
    (k.advance p d).rdP o f = if o = p ∧ f = 2 then k.moved p d else k.rdP o f :=
  k.rdP_wrP p o (by decide) hf _

theorem Ctx.rdP_setDone (v : Nat) (p : BitVec 3) (f : Nat) : (k.setDone gn v).rdP p f = k.rdP p f := Ctx.rdP_wrG _ _ _ _ _

/-- A step that reaches TOTAL completes the instruction; another counts on. -/
theorem Ctx.stepTo_ends {v : Nat} (fin : Ctx → Ctx) (h : k.total gn ≤ v) :
    k.stepTo gn v fin = ((fin k).setDone gn 0).next := if_pos h

theorem Ctx.stepTo_more {v : Nat} (fin : Ctx → Ctx) (h : ¬ k.total gn ≤ v) : k.stepTo gn v fin = k.setDone gn v := if_neg h

end Sys2Proof.Machine

namespace Sys2Proof.Claim

open Sys2Proof.Machine

variable {k k1 : Ctx} {gn : BitVec 5} {v : Nat} {fin : Ctx → Ctx}

/-- What a step leaves of the pointers and of FSR is what its completion leaves, or nothing more. -/
theorem rdP_stepTo (k : Ctx) (gn : BitVec 5) (v : Nat) (fin : Ctx → Ctx) (p : BitVec 3) (f : Nat) :
    (k.stepTo gn v fin).rdP p f = if k.total gn ≤ v then (fin k).rdP p f else k.rdP p f := by
  split
  · next h => rw [Ctx.stepTo_ends _ _ _ h, Ctx.rdP_next, Ctx.rdP_setDone]
  · next h => rw [Ctx.stepTo_more _ _ _ h, Ctx.rdP_setDone]

theorem fsr_stepTo (hfin : (fin k1).fsr = k1.fsr) : (k1.stepTo gn v fin).fsr = k1.fsr := by
  by_cases h : k1.total gn ≤ v
  · rw [Ctx.stepTo_ends _ _ _ h]; exact (Ctx.wrG_fsr _ _ _).trans hfin
  · rw [Ctx.stepTo_more _ _ _ h]; exact Ctx.wrG_fsr _ _ _

/-- A step counts on from the register as the instruction found it, where what it did before moved neither it nor the
PC. -/
theorem counted_stepTo (hG : ∀ r, k1.rdG r = k.rdG r) (hpc : k1.pc = k.pc) (hfinG : ∀ r, (fin k1).rdG r = k1.rdG r)
    (hfinpc : (fin k1).pc = k1.pc) : Counted k (k1.stepTo gn v fin) gn v := by
  have htotal := k1.total_eq gn
  have hsmall := (k.rdG gn).isLt
  rw [hG] at htotal
  unfold Counted
  extract_lets g
  by_cases h : k1.total gn ≤ v
  · have hg : g / 65536 ≤ v := htotal ▸ h
    rw [Ctx.stepTo_ends _ _ _ h]
    refine ⟨fun r => ?_, ?_⟩
    · rw [Ctx.rdG_next, Ctx.setDone, Ctx.wrGn, Ctx.rdG_wrG, hfinG, hG, Ctx.total_eq, hfinG, hG, if_pos hg]
    · rw [if_pos hg, ← hpc, ← hfinpc]
      exact congrArg (fun n => (n + 4) % 2 ^ 32) (Ctx.wrG_pc _ _ _)
  · have hg : ¬ g / 65536 ≤ v := htotal ▸ h
    rw [Ctx.stepTo_more _ _ _ h]
    refine ⟨fun r => ?_, ?_⟩
    · rw [Ctx.setDone, Ctx.wrGn, Ctx.rdG_wrG, hG, Ctx.total_eq, hG, if_neg hg, Nat.mod_eq_of_lt (show v < 65536 by omega)]
    · rw [if_neg hg]
      exact (Ctx.wrG_pc _ _ _).trans hpc

/-! ### What no step of a long instruction changes -/

theorem Progress.wrG (h : Progress k k1) (r : BitVec 5) (w : Word) : Progress k (k1.wrG r w) := by
  rw [Ctx.wrG_eq]; exact h

theorem Progress.stepTo (h : Progress k k1) (hfin : Progress k (fin k1)) : Progress k (k1.stepTo gn v fin) := by
  by_cases hv : k1.total gn ≤ v
  · rw [Ctx.stepTo_ends _ _ _ hv]; exact hfin.wrG _ _
  · rw [Ctx.stepTo_more _ _ _ hv]; exact h.wrG _ _

theorem Progress.flag (h : Progress k k1) (n : Nat) : Progress k (k1.flag n) := h
theorem Progress.wrP (h : Progress k k1) (p : BitVec 3) (f n : Nat) : Progress k (k1.wrP p f n) := h
theorem Progress.advance (h : Progress k k1) (p : BitVec 3) (d : Int) : Progress k (k1.advance p d) := h

/-! ### A long instruction's step on registers alone -/

theorem Runs.of_modCtx {i : Instr} {s : State} {x : Fin 64} (h : Issues s x) {F : Chip → Chip} {f : Ctx → Ctx}
    {p : Ctx → Ctx → Prop} (he : exec i s = s.run fun c => c.issue x F)
    (hF : F (s.chip.fetch x).1 = (s.chip.fetch x).1.modCtx x f) (hp : p (s.chip.dev.ctx x) (f (s.chip.dev.ctx x))) :
    Runs i s x p := by
  refine ⟨f (s.chip.dev.ctx x), ?_, hp⟩
  have hout : (F (s.chip.fetch x).1).dev.pool.out = [] := by rw [hF]; exact h.out_nil
  rw [h.exec_quiet he hout, hF, ← h.accessed.ctx x]
  rfl

end Sys2Proof.Claim
end

section
/-! SUPPORT. What a step of a delay line or of a CSF block comes to, by the condition it acts under (R294, R295). -/

namespace Sys2Proof.Machine

/-! ### The ends of the instructions (R287) -/

/-- The pointers after DLY's write of a line, whose capacity is `cap`, and after its read. -/
def Ctx.writeEnd (cap : Nat) (pl pb : BitVec 3) (gn : BitVec 5) (k : Ctx) : Ctx :=
  (k.wrP pl 2 ((k.rdP pl 2 + k.endTotal gn) % cap)).advance pb (4 * k.endTotal gn)
def Ctx.readEnd (pb : BitVec 3) (gn : BitVec 5) (k : Ctx) : Ctx := k.advance pb (4 * k.endTotal gn)

/-- The pointers after the CSF blocks of `n` and of `m` bytes at `p` and `q`. -/
def Ctx.blockEnd (p q : BitVec 3) (n m : Nat) (gn : BitVec 5) (k : Ctx) : Ctx :=
  (k.advance p (n * k.endTotal gn)).advance q (m * k.endTotal gn)

variable {c c1 c2 : Chip} {x : Nat} {pl pb : BitVec 3} {gn gd : BitVec 5} {ps ps2 : List Place} {f : Bool}

/-- Samples of a step of at most `n`. -/
def Ctx.stepSize (k : Ctx) (gn : BitVec 5) (n : Nat) : Nat := min (k.done gn + n) (k.total gn) - k.done gn

/-- The words of a step at P[p]. -/
def Ctx.wordRefs (k : Ctx) (p : BitVec 3) (gn : BitVec 5) (n : Nat) : List Ref :=
  (List.range n).map fun (i : Nat) => k.ref p ((4 * (k.done gn + i) : Nat) : Int) 4

/-! ### Writing a line -/

theorem Chip.dlyWrite_refused {compact : Bool} (h : ((c.dev.ctx x).badLine pl compact || (compact &&
    ((c.dev.ctx x).rdP pl 2 % 6 != 0 || (c.dev.ctx x).done gn % 6 != 0 || (c.dev.ctx x).total gn % 6 != 0))) = true) :
    c.dlyWrite x pl pb gn compact = c.onDev (·.ctxFault x 8 .store ((c.dev.ctx x).rdP pl 0)) := if_pos h

theorem Chip.dlyWrite_past (hgood : (c.dev.ctx x).badLine pl false = false)
    (hpast : (c.dev.ctx x).total gn ≤ (c.dev.ctx x).done gn) : c.dlyWrite x pl pb gn false =
      c.modCtx x fun k => k.stepTo gn ((c.dev.ctx x).done gn) (Ctx.writeEnd ((c.dev.ctx x).cap pl false) pl pb gn) := by
  unfold Chip.dlyWrite
  extract_lets k dn pos cap n fin
  rw [if_neg (by simp [k, hgood]), if_pos hpast]
  rfl

theorem Chip.dlyWrite_full (hgood : (c.dev.ctx x).badLine pl false = false)
    (hmore : ¬ (c.dev.ctx x).total gn ≤ (c.dev.ctx x).done gn) : c.dlyWrite x pl pb gn false =
      c.loads x 4 ((c.dev.ctx x).wordRefs pb gn ((c.dev.ctx x).stepSize gn 8)) fun c1 xs =>
        c1.toStore x 4 ((List.range ((c.dev.ctx x).stepSize gn 8)).map fun i =>
          (c.dev.ctx x).lineRef pl false (((c.dev.ctx x).rdP pl 2 + (c.dev.ctx x).done gn + i : Nat) : Int) 0) fun c2 ps =>
            (c2.storeAll x 4 ps xs).modCtx x fun k => k.stepTo gn ((c.dev.ctx x).done gn + (c.dev.ctx x).stepSize gn 8)
              (Ctx.writeEnd ((c.dev.ctx x).cap pl false) pl pb gn) := by
  unfold Chip.dlyWrite
  extract_lets k dn pos cap n fin
  rw [if_neg (by simp [k, hgood]), if_neg hmore]
  rfl

theorem Chip.dlyWrite_compact (hgood : (c.dev.ctx x).badLine pl true = false) (hpos : (c.dev.ctx x).rdP pl 2 % 6 = 0)
    (hdone : (c.dev.ctx x).done gn % 6 = 0) (htotal : (c.dev.ctx x).total gn % 6 = 0)
    (hmore : ¬ (c.dev.ctx x).total gn ≤ (c.dev.ctx x).done gn) : c.dlyWrite x pl pb gn true =
      c.loads x 4 ((c.dev.ctx x).wordRefs pb gn ((c.dev.ctx x).stepSize gn 6)) fun c1 xs =>
        c1.toStore x 1 ((List.range 16).map
          ((c.dev.ctx x).lineRef pl true (((c.dev.ctx x).rdP pl 2 + (c.dev.ctx x).done gn : Nat) : Int))) fun c2 ps =>
            (c2.storeAll x 1 ps (csfEncode false (xs.map fun v => roundQ 24 (q31 v)) ++ [0, 0, 0])).modCtx x fun k =>
              (k.flag (satQ24 xs)).stepTo gn ((c.dev.ctx x).done gn + (c.dev.ctx x).stepSize gn 6)
                (Ctx.writeEnd ((c.dev.ctx x).cap pl true) pl pb gn) := by
  unfold Chip.dlyWrite
  extract_lets k dn pos cap n fin
  rw [if_neg (by simp [k, dn, pos, hgood, hpos, hdone, htotal]), if_neg hmore]
  rfl

/-! ### Reading a line -/

/-- Where a step of DLY's read begins in the line. -/
def Ctx.linePos (k : Ctx) (pl : BitVec 3) (gn gd : BitVec 5) : Int :=
  (k.rdP pl 2 : Int) - (k.rdG gd).toNat + k.done gn

theorem Chip.dlyRead_refused {compact : Bool} (h : (c.dev.ctx x).badLine pl compact = true) :
    c.dlyRead x pl pb gn gd compact = c.onDev (·.ctxFault x 8 .load ((c.dev.ctx x).rdP pl 0)) := if_pos h

theorem Chip.dlyRead_past {compact : Bool} (hgood : (c.dev.ctx x).badLine pl compact = false)
    (hpast : (c.dev.ctx x).total gn ≤ (c.dev.ctx x).done gn) : c.dlyRead x pl pb gn gd compact =
      c.modCtx x fun k => k.stepTo gn ((c.dev.ctx x).done gn) (Ctx.readEnd pb gn) := by
  unfold Chip.dlyRead
  extract_lets k dn pos room n fin outs
  rw [if_neg (by simp [k, hgood]), if_pos hpast]
  rfl

theorem Chip.dlyRead_full (hgood : (c.dev.ctx x).badLine pl false = false)
    (hmore : ¬ (c.dev.ctx x).total gn ≤ (c.dev.ctx x).done gn) : c.dlyRead x pl pb gn gd false =
      c.loads x 4 ((List.range ((c.dev.ctx x).stepSize gn 8)).map fun (i : Nat) =>
          (c.dev.ctx x).lineRef pl false ((c.dev.ctx x).linePos pl gn gd + i) 0) fun c1 xs =>
        c1.toStore x 4 ((c.dev.ctx x).wordRefs pb gn ((c.dev.ctx x).stepSize gn 8)) fun c2 ps =>
          (c2.storeAll x 4 ps xs).modCtx x fun k =>
            k.stepTo gn ((c.dev.ctx x).done gn + (c.dev.ctx x).stepSize gn 8) (Ctx.readEnd pb gn) := by
  unfold Chip.dlyRead
  extract_lets k dn pos room n fin outs
  rw [if_neg (by simp [k, hgood]), if_neg hmore]
  rfl

theorem Chip.dlyRead_compact (hgood : (c.dev.ctx x).badLine pl true = false)
    (hmore : ¬ (c.dev.ctx x).total gn ≤ (c.dev.ctx x).done gn) {q : Nat} {n : Nat}
    (hq : q = ((c.dev.ctx x).linePos pl gn gd % 6).toNat) (hn : n = (c.dev.ctx x).stepSize gn (6 - q)) :
    c.dlyRead x pl pb gn gd true =
      c.loads x 1 ((List.range 13).map ((c.dev.ctx x).lineRef pl true ((c.dev.ctx x).linePos pl gn gd))) fun c1 bs =>
        c1.toStore x 4 ((c.dev.ctx x).wordRefs pb gn n) fun c2 ps =>
          (c2.storeAll x 4 ps ((((csfDecode false bs).drop q).take n).map fun y => lowOf 32 (y * 256))).modCtx x fun k =>
            (if csfFailed false bs then k.flag fCSFE else k).stepTo gn ((c.dev.ctx x).done gn + n) (Ctx.readEnd pb gn) := by
  subst hq hn
  unfold Chip.dlyRead
  extract_lets k dn pos room n fin outs
  rw [if_neg (by simp [k, hgood]), if_neg hmore]
  rfl

/-! ### CSF blocks -/

/-- The six words of a step's block at P[p], and its bytes. -/
def Ctx.sixRefs (k : Ctx) (p : BitVec 3) (gn : BitVec 5) : List Ref :=
  (List.range 6).map fun (j : Nat) => k.ref p ((24 * k.done gn + 4 * j : Nat) : Int) 4
def Ctx.blockRefs (k : Ctx) (p : BitVec 3) (gn : BitVec 5) (f : Bool) : List Ref :=
  (List.range (csfBytes f)).map fun (i : Nat) => k.ref p ((csfBytes f * k.done gn + i : Nat) : Int) 1

/-- A step of CSFP and one of CSFU. -/
def Chip.csfp (c : Chip) (x : Nat) (pd ps : BitVec 3) (gn : BitVec 5) (f : Bool) : Chip :=
  let k := c.dev.ctx x
  if k.total gn ≤ k.done gn then c.modCtx x fun k' => k'.stepTo gn (k.done gn) (Ctx.blockEnd ps pd 24 (csfBytes f) gn)
  else
    c.loads x 4 (k.sixRefs ps gn) fun c xs =>
      c.toStore x 1 (k.blockRefs pd gn f) fun c pl =>
        (c.storeAll x 1 pl (csfEncode f (xs.map fun v => roundQ 24 (q31 v)))).modCtx x fun k' =>
          (k'.flag (satQ24 xs)).stepTo gn (k.done gn + 1) (Ctx.blockEnd ps pd 24 (csfBytes f) gn)
def Chip.csfu (c : Chip) (x : Nat) (pd ps : BitVec 3) (gn : BitVec 5) (f : Bool) : Chip :=
  let k := c.dev.ctx x
  if k.total gn ≤ k.done gn then c.modCtx x fun k' => k'.stepTo gn (k.done gn) (Ctx.blockEnd pd ps 24 (csfBytes f) gn)
  else
    c.loads x 1 (k.blockRefs ps gn f) fun c bs =>
      c.toStore x 4 (k.sixRefs pd gn) fun c pl =>
        (c.storeAll x 4 pl ((csfDecode f bs).map fun y => lowOf 32 (y * 256))).modCtx x fun k' =>
          (if csfFailed f bs then k'.flag fCSFE else k').stepTo gn (k.done gn + 1) (Ctx.blockEnd pd ps 24 (csfBytes f) gn)

theorem exec_csfp (s : State) (x : Fin 64) (pd ps : BitVec 3) (gn : BitVec 5) (f : Bool) :
    exec (.csfp x pd ps gn f) s = s.run fun c => c.issue x fun c => c.csfp x pd ps gn f := rfl

theorem exec_csfu (s : State) (x : Fin 64) (pd ps : BitVec 3) (gn : BitVec 5) (f : Bool) :
    exec (.csfu x pd ps gn f) s = s.run fun c => c.issue x fun c => c.csfu x pd ps gn f := rfl

end Sys2Proof.Machine
end

section
/-! SUPPORT. The numbers and the places of delay lines and CSF blocks as the statements write them (R153 to R157, R294). -/

namespace Sys2Proof.Claim

open Sys2Proof.Machine

variable {k : Ctx} {gn gd : BitVec 5} {pl : BitVec 3}

theorem stepSize_eq (k : Ctx) (gn : BitVec 5) (n : Nat) : k.stepSize gn n = min n (k.total gn - k.done gn) := by
  unfold Ctx.stepSize; omega

theorem endTotal_past (h : k.total gn ≤ k.done gn) : k.endTotal gn = k.done gn := max_eq_right h

theorem endTotal_more (h : ¬ k.total gn ≤ k.done gn) : k.endTotal gn = k.total gn := max_eq_left (by omega)

/-- The word of a full line at position `q`, and byte `b` of the slot that holds it in a compact one. -/
theorem lineRef_full (h : k.rdP pl 0 % 4 = 0) (q : Int) : k.lineRef pl false q 0 =
    ⟨(k.rdP pl 0 + 4 * (q % (k.rdP pl 1 / 4 : Nat)).toNat) % 2 ^ 32, false⟩ := by
  simp [Ctx.lineRef, Ctx.lineAddr, Ctx.cap, h]

theorem lineRef_compact (h : k.rdP pl 0 % 16 = 0) (q : Int) (b : Nat) : k.lineRef pl true q b =
    ⟨((k.rdP pl 0 + 16 * ((q % (6 * k.rdP pl 1 / 16 : Nat)).toNat / 6)) % 2 ^ 32 + b) % 2 ^ 32, false⟩ := by
  simp [Ctx.lineRef, Ctx.lineAddr, Ctx.cap, h]

/-- The same where BASE is misaligned. -/
theorem lineRef_full_bad (h : k.rdP pl 0 % 4 ≠ 0) (q : Int) : k.lineRef pl false q 0 =
    ⟨(k.rdP pl 0 + 4 * (q % (k.rdP pl 1 / 4 : Nat)).toNat) % 2 ^ 32, true⟩ := by
  simp [Ctx.lineRef, Ctx.lineAddr, Ctx.cap, h]

theorem lineRef_compact_bad (h : k.rdP pl 0 % 16 ≠ 0) (q : Int) (b : Nat) : k.lineRef pl true q b =
    ⟨((k.rdP pl 0 + 16 * ((q % (6 * k.rdP pl 1 / 16 : Nat)).toNat / 6)) % 2 ^ 32 + b) % 2 ^ 32, true⟩ := by
  simp [Ctx.lineRef, Ctx.lineAddr, Ctx.cap, h]

theorem q31_eq_q31At (v : Nat) : q31 v = q31At v := by
  unfold q31 signedOf q31At
  split <;> omega

theorem roundQ24_eq (v : Nat) : roundQ 24 (q31 v) = clip 24 (rhe (q31At v) 8) := by
  rw [roundQ, satTo_eq_clip, q31_eq_q31At]

/-- SAT is set where a word saturates as 24 bits. -/
theorem satQ24_eq (xs : List Nat) : satQ24 xs =
    if (xs.all fun v => decide (clip 24 (rhe (q31At v) 8) = rhe (q31At v) 8)) = true then 0 else 256 := by
  have hone : ∀ v : Nat, outOf 24 (rhe (signedOf 32 v) 8) = !decide (clip 24 (rhe (q31At v) 8) = rhe (q31At v) 8) := by
    intro v
    rw [show signedOf 32 v = q31At v from q31_eq_q31At v, outOf_eq, Bool.not_eq_eq_eq_not, Bool.not_not]
    refine decide_eq_decide.mpr ⟨clip_of_fits, fun h => ?_⟩
    rw [← h]; unfold clip; omega
  unfold satQ24
  simp only [hone]
  rw [List.all_eq_not_any_not]
  cases xs.any fun v => !decide (clip 24 (rhe (q31At v) 8) = rhe (q31At v) 8) <;> rfl

/-! ### Where the pointers stand after a step -/

section
variable {k1 : Ctx} {p o : BitVec 3} {v : Nat} {d : Int} {fin : Ctx → Ctx}

theorem moved_stepTo (hP : ∀ f, k1.rdP o f = k.rdP o f)
    (hfin : ∀ f, f < 3 → (fin k1).rdP o f = if o = p ∧ f = 2 then k.moved p d else k.rdP o f) {ends : Bool}
    (hends : ends = decide (k1.total gn ≤ v)) : Moved k (k1.stepTo gn v fin) p o d ends := by
  subst hends
  by_cases h : k1.total gn ≤ v
  · rw [decide_eq_true h, Ctx.stepTo_ends _ _ _ h]
    refine ⟨?_, ?_, ?_⟩ <;> rw [Ctx.rdP_next, Ctx.rdP_setDone, hfin _ (by decide)]
    · simp
    · simp
    · by_cases hop : o = p
      · subst hop; simp [Ctx.moved]
      · simp [hop]
  · rw [decide_eq_false h, Ctx.stepTo_more _ _ _ h]
    exact ⟨(Ctx.rdP_setDone _ _ _ _ _).trans (hP 0), (Ctx.rdP_setDone _ _ _ _ _).trans (hP 1),
      ((Ctx.rdP_setDone _ _ _ _ _).trans (hP 2)).trans (by simp)⟩

end

/-! ### The register changes of a step -/

/-- `k1` reads as `k` in its G and P registers and its PC, and no other differs but A, V and FSR. -/
structure Alike (k k1 : Ctx) : Prop where
  g : ∀ r, k1.rdG r = k.rdG r
  p : ∀ p f, k1.rdP p f = k.rdP p f
  pc : k1.pc = k.pc
  rest : Progress k k1

theorem Alike.refl (k : Ctx) : Alike k k := ⟨fun _ => rfl, fun _ _ => rfl, rfl, rfl⟩
theorem Alike.flag (k : Ctx) (n : Nat) : Alike k (k.flag n) := ⟨fun _ => rfl, fun _ _ => rfl, rfl, rfl⟩

section
variable {k k1 : Ctx} (h : Alike k k1) (gn : BitVec 5) (v : Nat) {p q : BitVec 3}
include h

theorem Alike.total : k1.total gn = k.total gn := by rw [Ctx.total_eq, h.g, Ctx.total_eq]
theorem Alike.endTotal : k1.endTotal gn = k.endTotal gn := by
  rw [Ctx.endTotal, Ctx.endTotal, h.total, Ctx.done_eq, h.g, Ctx.done_eq]
theorem Alike.moved (p : BitVec 3) (d : Int) : k1.moved p d = k.moved p d := by unfold Ctx.moved; simp only [h.p]

/-- A step of DLY's write. -/
theorem Alike.writeStep (cap : Nat) (hne : p ≠ q) :
    Counted k (k1.stepTo gn v (Ctx.writeEnd cap p q gn)) gn v ∧
      Moved k (k1.stepTo gn v (Ctx.writeEnd cap p q gn)) q q (4 * k.endTotal gn) (decide (k.total gn ≤ v)) ∧
      (k1.stepTo gn v (Ctx.writeEnd cap p q gn)).rdP p 2 =
        (if k.total gn ≤ v then (k.rdP p 2 + k.endTotal gn) % cap else k.rdP p 2) ∧
      (k1.stepTo gn v (Ctx.writeEnd cap p q gn)).fsr = k1.fsr ∧
      Progress k (k1.stepTo gn v (Ctx.writeEnd cap p q gn)) := by
  have hq : ∀ f, f < 3 → ∀ w, (k1.wrP p 2 w).rdP q f = k.rdP q f := fun f hf w =>
    ((k1.rdP_wrP p q (by decide) hf w).trans (if_neg fun e => hne e.1.symm)).trans (h.p q f)
  refine ⟨counted_stepTo h.g h.pc (fun _ => rfl) rfl, moved_stepTo (h.p q) (fun f hf => ?_) ?_, ?_, fsr_stepTo rfl,
    h.rest.stepTo ((h.rest.wrP _ _ _).advance _ _)⟩
  · rw [Ctx.writeEnd, Ctx.rdP_advance _ _ _ _ hf, hq f hf]
    simp only [Ctx.moved, hq 1 (by decide), hq 2 (by decide), h.endTotal]
  · rw [h.total]
  · have hline : (Ctx.writeEnd cap p q gn k1).rdP p 2 = (k.rdP p 2 + k.endTotal gn) % cap := by
      rw [Ctx.writeEnd, Ctx.rdP_advance _ _ _ _ (by decide), if_neg fun e => hne e.1,
        Ctx.rdP_wrP _ _ _ (by decide) (by decide), if_pos ⟨rfl, rfl⟩, h.p, h.endTotal]
    rw [rdP_stepTo, h.total, h.p, hline]

/-- A step of DLY's read. -/
theorem Alike.readStep (o : BitVec 3) :
    Counted k (k1.stepTo gn v (Ctx.readEnd p gn)) gn v ∧
      Moved k (k1.stepTo gn v (Ctx.readEnd p gn)) p o (4 * k.endTotal gn) (decide (k.total gn ≤ v)) ∧
      (k1.stepTo gn v (Ctx.readEnd p gn)).fsr = k1.fsr ∧ Progress k (k1.stepTo gn v (Ctx.readEnd p gn)) := by
  refine ⟨counted_stepTo h.g h.pc (fun _ => rfl) rfl, moved_stepTo (h.p o) (fun f hf => ?_) ?_, fsr_stepTo rfl,
    h.rest.stepTo (h.rest.advance _ _)⟩
  · rw [Ctx.readEnd, Ctx.rdP_advance _ _ _ _ hf, h.moved, h.endTotal, h.p]
  · rw [h.total]

/-- A step of a CSF block. -/
theorem Alike.blockStep (a b : Nat) (hne : p ≠ q) :
    Counted k (k1.stepTo gn v (Ctx.blockEnd p q a b gn)) gn v ∧
      Moved k (k1.stepTo gn v (Ctx.blockEnd p q a b gn)) p p (a * k.endTotal gn) (decide (k.total gn ≤ v)) ∧
      Moved k (k1.stepTo gn v (Ctx.blockEnd p q a b gn)) q q (b * k.endTotal gn) (decide (k.total gn ≤ v)) ∧
      (k1.stepTo gn v (Ctx.blockEnd p q a b gn)).fsr = k1.fsr ∧
      Progress k (k1.stepTo gn v (Ctx.blockEnd p q a b gn)) := by
  have hq : ∀ f, f < 3 → (k1.advance p (a * k.endTotal gn)).rdP q f = k.rdP q f := fun f hf =>
    ((Ctx.rdP_advance _ p q _ hf).trans (if_neg fun e => hne e.1.symm)).trans (h.p q f)
  refine ⟨counted_stepTo h.g h.pc (fun _ => rfl) rfl, moved_stepTo (h.p p) (fun f hf => ?_) ?_,
    moved_stepTo (h.p q) (fun f hf => ?_) ?_, fsr_stepTo rfl, h.rest.stepTo ((h.rest.advance _ _).advance _ _)⟩
  · rw [Ctx.blockEnd, Ctx.rdP_advance _ _ _ _ hf, if_neg fun e => hne e.1, Ctx.rdP_advance _ _ _ _ hf, h.moved,
      h.endTotal, h.p]
  · rw [h.total]
  · rw [Ctx.blockEnd, h.endTotal, Ctx.rdP_advance _ _ _ _ hf, hq f hf]
    simp only [Ctx.moved, hq 1 (by decide), hq 2 (by decide)]
  · rw [h.total]

end

end Sys2Proof.Claim
end

section
/-! SUPPORT. O53: the steps of delay lines and CSF blocks that complete (R274, R287, R294, R295). -/

namespace Sys2Proof.Claim

open Sys2Proof.Machine

theorem alike_flagIf (k : Ctx) (b : Bool) : Alike k (if b then k.flag fCSFE else k) := by
  cases b
  · exact .refl k
  · exact .flag k _

theorem fsr_flagIf (k : Ctx) (b : Bool) : (if b then k.flag fCSFE else k).fsr = Nat.lor k.fsr (if b = true then 512 else 0) := by
  cases b
  · exact (Nat.or_zero _).symm
  · rfl

section
variable {s : State} {x : Fin 64} {k : Ctx} {gn gd : BitVec 5} {pt pb o : BitVec 3} {f : Bool} {c1 c2 : Chip}
  {ps ps2 : List Place} (h : Issues s x) (hk : s.chip.dev.ctx x = k)
include h hk

theorem Issues.fetch_ctx : (s.chip.fetch x).1.dev.ctx x = k := (h.accessed.ctx x).trans hk

/-! ### Beginning at DONE ≥ TOTAL -/

section
variable (hpast : k.total gn ≤ k.done gn)
include hpast

theorem dlyWrite_completes (hgood : k.badLine pt false = false) (hne : pt ≠ pb) :
    Runs (.dlyWrite x pt pb gn false) s x fun k k' => Counted k k' gn (k.done gn) ∧
      k'.rdP pt 2 = (k.rdP pt 2 + k.done gn) % (k.rdP pt 1 / 4) ∧ Moved k k' pb pb (4 * k.done gn) true ∧ Progress k k' := by
  have hc := h.fetch_ctx hk
  refine .of_modCtx h rfl (Chip.dlyWrite_past (hc ▸ hgood) (hc ▸ hpast)) ?_
  rw [hc, hk]
  obtain ⟨hcount, hmoved, hline, -, hrest⟩ := (Alike.refl k).writeStep gn (k.done gn) (k.cap pt false) hne
  rw [endTotal_past hpast, decide_eq_true hpast] at hmoved
  rw [endTotal_past hpast, if_pos hpast] at hline
  exact ⟨hcount, hline, hmoved, hrest⟩

theorem dlyRead_completes (hgood : k.badLine pt false = false) :
    Runs (.dlyRead x pt pb gn gd false) s x fun k k' =>
      Counted k k' gn (k.done gn) ∧ Moved k k' pb o (4 * k.done gn) true ∧ Progress k k' := by
  have hc := h.fetch_ctx hk
  refine .of_modCtx h rfl (Chip.dlyRead_past (hc ▸ hgood) (hc ▸ hpast)) ?_
  rw [hc, hk]
  obtain ⟨hcount, hmoved, -, hrest⟩ := (Alike.refl k).readStep gn (k.done gn) (p := pb) o
  rw [endTotal_past hpast, decide_eq_true hpast] at hmoved
  exact ⟨hcount, hmoved, hrest⟩

theorem csfp_completes (hne : pt ≠ pb) : Runs (.csfp x pb pt gn f) s x fun k k' => Counted k k' gn (k.done gn) ∧
    Moved k k' pt pt (24 * k.done gn) true ∧ Moved k k' pb pb (csfBytes f * k.done gn) true ∧ Progress k k' := by
  have hc := h.fetch_ctx hk
  refine .of_modCtx h (exec_csfp s x pb pt gn f) (if_pos (hc ▸ hpast)) ?_
  rw [hc, hk]
  obtain ⟨hcount, hwords, hblock, -, hrest⟩ := (Alike.refl k).blockStep gn (k.done gn) 24 (csfBytes f) hne
  rw [endTotal_past hpast, decide_eq_true hpast] at hwords hblock
  exact ⟨hcount, hwords, hblock, hrest⟩

theorem csfu_completes (hne : pt ≠ pb) : Runs (.csfu x pt pb gn f) s x fun k k' => Counted k k' gn (k.done gn) ∧
    Moved k k' pt pt (24 * k.done gn) true ∧ Moved k k' pb pb (csfBytes f * k.done gn) true ∧ Progress k k' := by
  have hc := h.fetch_ctx hk
  refine .of_modCtx h (exec_csfu s x pt pb gn f) (if_pos (hc ▸ hpast)) ?_
  rw [hc, hk]
  obtain ⟨hcount, hwords, hblock, -, hrest⟩ := (Alike.refl k).blockStep gn (k.done gn) 24 (csfBytes f) hne
  rw [endTotal_past hpast, decide_eq_true hpast] at hwords hblock
  exact ⟨hcount, hwords, hblock, hrest⟩

end

/-! ### A step before the end -/

section
variable (hmore : ¬ k.total gn ≤ k.done gn)
include hmore

theorem dlyWrite_full_stores (hgood : k.badLine pt false = false) (hne : pt ≠ pb)
    (hl : ReachesAll (s.chip.fetch x).1 x 4 .load (k.wordRefs pb gn (k.stepSize gn 8)) c1 ps)
    (hs : ReachesAll c1 x 4 .store ((List.range (k.stepSize gn 8)).map fun i =>
      k.lineRef pt false ((k.rdP pt 2 + k.done gn + i : Nat) : Int) 0) c2 ps2) :
    StoresAll (.dlyWrite x pt pb gn false) s x c2 ps2 4 (ps.map fun p => bytesAt c1.mem p.key 4) fun k k' =>
      Counted k k' gn (k.done gn + k.stepSize gn 8) ∧
        Moved k k' pb pb (4 * k.total gn) (decide (k.total gn ≤ k.done gn + k.stepSize gn 8)) ∧
        k'.rdP pt 2 = (if k.total gn ≤ k.done gn + k.stepSize gn 8 then (k.rdP pt 2 + k.total gn) % (k.rdP pt 1 / 4)
          else k.rdP pt 2) ∧ k'.fsr = k.fsr ∧ Progress k k' := by
  have hc := h.fetch_ctx hk
  refine .of_step h rfl ((Chip.Accessed.of_prepare hl).trans (Chip.Accessed.of_prepare hs))
    (f := fun k1 => k1.stepTo gn (k.done gn + k.stepSize gn 8) (Ctx.writeEnd (k.cap pt false) pt pb gn)) ?_ ?_
  · rw [Chip.dlyWrite_full (hc ▸ hgood) (hc ▸ hmore), hc, Chip.loads_ok hl, Chip.toStore_ok hs]
    simp only [bytesAt_eq_load]
  · rw [hk]
    have hstep := (Alike.refl k).writeStep gn (k.done gn + k.stepSize gn 8) (k.cap pt false) hne
    rw [endTotal_more hmore] at hstep
    exact hstep

theorem dlyWrite_compact_stores (hgood : k.badLine pt true = false) (hpos : k.rdP pt 2 % 6 = 0)
    (hdone : k.done gn % 6 = 0) (htotal : k.total gn % 6 = 0) (hne : pt ≠ pb)
    (hl : ReachesAll (s.chip.fetch x).1 x 4 .load (k.wordRefs pb gn (k.stepSize gn 6)) c1 ps)
    (hs : ReachesAll c1 x 1 .store ((List.range 16).map (k.lineRef pt true ((k.rdP pt 2 + k.done gn : Nat) : Int))) c2 ps2) :
    StoresAll (.dlyWrite x pt pb gn true) s x c2 ps2 1
      (csfEncode false ((ps.map fun p => bytesAt c1.mem p.key 4).map fun v => clip 24 (rhe (q31At v) 8)) ++ [0, 0, 0]) fun k k' =>
      Counted k k' gn (k.done gn + 6) ∧
        k'.rdP pt 2 = (if k.total gn ≤ k.done gn + 6 then (k.rdP pt 2 + k.total gn) % (6 * k.rdP pt 1 / 16)
          else k.rdP pt 2) ∧
        k'.fsr = Nat.lor k.fsr (if ((ps.map fun p => bytesAt c1.mem p.key 4).all fun v =>
          decide (clip 24 (rhe (q31At v) 8) = rhe (q31At v) 8)) = true then 0 else 256) ∧ Progress k k' := by
  have hc := h.fetch_ctx hk
  have hsix : k.stepSize gn 6 = 6 := by rw [stepSize_eq]; omega
  refine .of_step h rfl ((Chip.Accessed.of_prepare hl).trans (Chip.Accessed.of_prepare hs))
    (f := fun k1 => (k1.flag (satQ24 (ps.map fun p => bytesAt c1.mem p.key 4))).stepTo gn (k.done gn + 6)
      (Ctx.writeEnd (k.cap pt true) pt pb gn)) ?_ ?_
  · rw [Chip.dlyWrite_compact (hc ▸ hgood) (hc ▸ hpos) (hc ▸ hdone) (hc ▸ htotal) (hc ▸ hmore), hc, Chip.loads_ok hl,
      Chip.toStore_ok hs, hsix]
    simp only [bytesAt_eq_load, roundQ24_eq]
  · rw [hk, ← satQ24_eq]
    obtain ⟨hcount, -, hline, hfsr, hrest⟩ := (Alike.flag k _).writeStep gn (k.done gn + 6) (k.cap pt true) hne
    rw [endTotal_more hmore] at hline
    exact ⟨hcount, hline, hfsr, hrest⟩

theorem dlyRead_full_stores (hgood : k.badLine pt false = false)
    (hl : ReachesAll (s.chip.fetch x).1 x 4 .load
      ((List.range (k.stepSize gn 8)).map fun (i : Nat) => k.lineRef pt false (k.linePos pt gn gd + i) 0) c1 ps)
    (hs : ReachesAll c1 x 4 .store (k.wordRefs pb gn (k.stepSize gn 8)) c2 ps2) :
    StoresAll (.dlyRead x pt pb gn gd false) s x c2 ps2 4 (ps.map fun p => bytesAt c1.mem p.key 4) fun k k' =>
      Counted k k' gn (k.done gn + k.stepSize gn 8) ∧
        Moved k k' pb o (4 * k.total gn) (decide (k.total gn ≤ k.done gn + k.stepSize gn 8)) ∧ k'.fsr = k.fsr ∧
        Progress k k' := by
  have hc := h.fetch_ctx hk
  refine .of_step h rfl ((Chip.Accessed.of_prepare hl).trans (Chip.Accessed.of_prepare hs))
    (f := fun k1 => k1.stepTo gn (k.done gn + k.stepSize gn 8) (Ctx.readEnd pb gn)) ?_ ?_
  · rw [Chip.dlyRead_full (hc ▸ hgood) (hc ▸ hmore), hc, Chip.loads_ok hl, Chip.toStore_ok hs]
    simp only [bytesAt_eq_load]
  · rw [hk]
    have hstep := (Alike.refl k).readStep gn (k.done gn + k.stepSize gn 8) (p := pb) o
    rw [endTotal_more hmore] at hstep
    exact hstep

theorem dlyRead_compact_stores (hgood : k.badLine pt true = false) {q n : Nat}
    (hq : q = (k.linePos pt gn gd % 6).toNat) (hn : n = k.stepSize gn (6 - q))
    (hl : ReachesAll (s.chip.fetch x).1 x 1 .load ((List.range 13).map (k.lineRef pt true (k.linePos pt gn gd))) c1 ps)
    (hs : ReachesAll c1 x 4 .store (k.wordRefs pb gn n) c2 ps2) :
    StoresAll (.dlyRead x pt pb gn gd true) s x c2 ps2 4
      ((((csfDecode false (ps.map fun p => bytesAt c1.mem p.key 1)).drop q).take n).map fun y =>
        (y * 256 % 2 ^ 32).toNat) fun k k' =>
      Counted k k' gn (k.done gn + n) ∧ Moved k k' pb o (4 * k.total gn) (decide (k.total gn ≤ k.done gn + n)) ∧
        k'.fsr = Nat.lor k.fsr (if csfFailed false (ps.map fun p => bytesAt c1.mem p.key 1) = true then 512 else 0) ∧
        Progress k k' := by
  have hc := h.fetch_ctx hk
  refine .of_step h rfl ((Chip.Accessed.of_prepare hl).trans (Chip.Accessed.of_prepare hs))
    (f := fun k1 => (if csfFailed false (ps.map fun p => bytesAt c1.mem p.key 1) then k1.flag fCSFE else k1).stepTo gn
      (k.done gn + n) (Ctx.readEnd pb gn)) ?_ ?_
  · rw [Chip.dlyRead_compact (hc ▸ hgood) (hc ▸ hmore) (hc ▸ hq) (hc ▸ hn), hc, Chip.loads_ok hl, Chip.toStore_ok hs]
    simp only [bytesAt_eq_load]
    rfl
  · rw [hk, ← fsr_flagIf]
    have hstep := (alike_flagIf k (csfFailed false (ps.map fun p => bytesAt c1.mem p.key 1))).readStep gn (k.done gn + n) (p := pb) o
    rw [endTotal_more hmore] at hstep
    exact hstep

theorem csfp_stores (hne : pt ≠ pb) (hl : ReachesAll (s.chip.fetch x).1 x 4 .load (k.sixRefs pt gn) c1 ps)
    (hs : ReachesAll c1 x 1 .store (k.blockRefs pb gn f) c2 ps2) :
    StoresAll (.csfp x pb pt gn f) s x c2 ps2 1
      (csfEncode f ((ps.map fun p => bytesAt c1.mem p.key 4).map fun v => clip 24 (rhe (q31At v) 8))) fun k k' =>
      Counted k k' gn (k.done gn + 1) ∧ Moved k k' pt pt (24 * k.total gn) (decide (k.total gn ≤ k.done gn + 1)) ∧
        Moved k k' pb pb (csfBytes f * k.total gn) (decide (k.total gn ≤ k.done gn + 1)) ∧
        k'.fsr = Nat.lor k.fsr (if ((ps.map fun p => bytesAt c1.mem p.key 4).all fun v =>
          decide (clip 24 (rhe (q31At v) 8) = rhe (q31At v) 8)) = true then 0 else 256) ∧ Progress k k' := by
  have hc := h.fetch_ctx hk
  refine .of_step h (exec_csfp s x pb pt gn f) ((Chip.Accessed.of_prepare hl).trans (Chip.Accessed.of_prepare hs))
    (f := fun k1 => (k1.flag (satQ24 (ps.map fun p => bytesAt c1.mem p.key 4))).stepTo gn (k.done gn + 1)
      (Ctx.blockEnd pt pb 24 (csfBytes f) gn)) ?_ ?_
  · rw [Chip.csfp, hc, if_neg hmore, Chip.loads_ok hl, Chip.toStore_ok hs]
    simp only [bytesAt_eq_load, roundQ24_eq]
  · rw [hk, ← satQ24_eq]
    have hstep := (Alike.flag k (satQ24 (ps.map fun p => bytesAt c1.mem p.key 4))).blockStep gn (k.done gn + 1) 24 (csfBytes f) hne
    rw [endTotal_more hmore] at hstep
    exact hstep

theorem csfu_stores (hne : pt ≠ pb) (hl : ReachesAll (s.chip.fetch x).1 x 1 .load (k.blockRefs pb gn f) c1 ps)
    (hs : ReachesAll c1 x 4 .store (k.sixRefs pt gn) c2 ps2) :
    StoresAll (.csfu x pt pb gn f) s x c2 ps2 4
      ((csfDecode f (ps.map fun p => bytesAt c1.mem p.key 1)).map fun y => (y * 256 % 2 ^ 32).toNat) fun k k' =>
      Counted k k' gn (k.done gn + 1) ∧ Moved k k' pt pt (24 * k.total gn) (decide (k.total gn ≤ k.done gn + 1)) ∧
        Moved k k' pb pb (csfBytes f * k.total gn) (decide (k.total gn ≤ k.done gn + 1)) ∧
        k'.fsr = Nat.lor k.fsr (if csfFailed f (ps.map fun p => bytesAt c1.mem p.key 1) = true then 512 else 0) ∧
        Progress k k' := by
  have hc := h.fetch_ctx hk
  refine .of_step h (exec_csfu s x pt pb gn f) ((Chip.Accessed.of_prepare hl).trans (Chip.Accessed.of_prepare hs))
    (f := fun k1 => (if csfFailed f (ps.map fun p => bytesAt c1.mem p.key 1) then k1.flag fCSFE else k1).stepTo gn
      (k.done gn + 1) (Ctx.blockEnd pt pb 24 (csfBytes f) gn)) ?_ ?_
  · rw [Chip.csfu, hc, if_neg hmore, Chip.loads_ok hl, Chip.toStore_ok hs]
    simp only [bytesAt_eq_load]
    rfl
  · rw [hk, ← fsr_flagIf]
    have hstep := (alike_flagIf k (csfFailed f (ps.map fun p => bytesAt c1.mem p.key 1))).blockStep gn (k.done gn + 1) 24 (csfBytes f) hne
    rw [endTotal_more hmore] at hstep
    exact hstep

end

end

end Sys2Proof.Claim
end

section
/-! SUPPORT. A push of one word to a queue with room for it: what it stores, and what it leaves (R193 to R202). -/

namespace Sys2Proof.Machine

/-- No context, no word that waits for its cell and no tag of a cell differs. -/
structure Dev.Shelved (d d' : Dev) : Prop where
  ctxs : d'.ctxs = d.ctxs
  out : d'.pool.out = d.pool.out
  tags : d'.pool.tags = d.pool.tags

theorem Dev.Shelved.refl (d : Dev) : d.Shelved d := ⟨rfl, rfl, rfl⟩

theorem Dev.Shelved.trans {d e e' : Dev} (h : d.Shelved e) (h' : e.Shelved e') : d.Shelved e' :=
  ⟨h'.ctxs.trans h.ctxs, h'.out.trans h.out, h'.tags.trans h.tags⟩

/-- The register fields that a push to queue `n` may write. -/
def pushF (n : Nat) : List Fld :=
  [F.QM_FREE_COMMON, F.Q_EV_OVF_EV n, F.QM_OVF_COUNT, F.QM_OVF_Q, F.QM_EVENTS_OVF_ANY, F.Q_EV_HI_EV n, F.Q_EV_LO_EV n,
    F.Q_EV_HI_LIVE n, F.Q_EV_LO_LIVE n]

/-- No register field differs but those. -/
def Dev.RegsBut (d d' : Dev) (l : List Fld) : Prop := ∀ f : Fld, f.id ∉ l.map Fld.id → d'.rd f = d.rd f

theorem Dev.RegsBut.of_regs {d d' : Dev} {l : List Fld} (h : d'.regs = d.regs) : d.RegsBut d' l := fun f _ => by
  unfold Dev.rd; rw [h]

theorem Dev.RegsBut.trans {d e e' : Dev} {l : List Fld} (h : d.RegsBut e l) (h' : e.RegsBut e' l) : d.RegsBut e' l :=
  fun f hf => (h' f hf).trans (h f hf)

theorem Dev.RegsBut.wr {d e : Dev} {l : List Fld} (h : d.RegsBut e l) {g : Fld} (hg : g ∈ l) (v : Nat) :
    d.RegsBut (e.wr g v) l := fun f hf =>
  (e.rd_wr_other v fun he => hf (he.symm ▸ List.mem_map_of_mem hg)).trans (h f hf)

variable (d : Dev) (n : Nat)

theorem Sparse.erase_sublist {α : Type} (k : Nat) : ∀ m : List (Nat × α), (Sparse.erase m k).Sublist m
  | [] => .slnil
  | (j, v) :: m => by
    rw [Sparse.erase]
    split
    · exact (Sparse.erase_sublist k m).cons _
    · exact (Sparse.erase_sublist k m).cons_cons _

/-- A cell that becomes free leaves whoever held it. -/
theorem Dev.held_freeCell (c : Nat) : (d.freeCell c).held n ≤ d.held n := by
  have hcells : (d.freeCell c).pool.cells = Sparse.erase d.pool.cells c := by
    change Sparse.set (fun _ => ⟨.free, 0⟩) d.pool.cells c ⟨.free, 0⟩ = _
    unfold Sparse.set
    exact if_pos rfl
  unfold Dev.held Dev.cellsOf
  rw [hcells, List.length_map, List.length_map]
  exact ((Sparse.erase_sublist c _).filter _).length_le

theorem Dev.each_freeCell (l : List Nat) :
    d.Shelved (d.each l Dev.freeCell) ∧ (d.each l Dev.freeCell).regs = d.regs ∧ (d.each l Dev.freeCell).queues = d.queues ∧
      (d.each l Dev.freeCell).held n ≤ d.held n := by
  induction l generalizing d with
  | nil => exact ⟨.refl d, rfl, rfl, le_rfl⟩
  | cons c l ih =>
    obtain ⟨hs, hr, hq, hheld⟩ := ih (d.freeCell c)
    have hfree : d.Shelved (d.freeCell c) := ⟨rfl, rfl, rfl⟩
    exact ⟨hfree.trans hs, hr, hq, hheld.trans (d.held_freeCell n c)⟩

theorem Dev.shelved_settle : d.Shelved (d.settle n) := by
  unfold Dev.settle
  extract_lets q r d1
  split
  · exact .refl d
  · have hmoved : d.Shelved d1 := ⟨rfl, rfl, rfl⟩
    exact (hmoved.trans (Dev.each_freeCell d1 n _).1).trans ⟨rfl, rfl, rfl⟩

theorem Dev.regsBut_settle : d.RegsBut (d.settle n) (pushF n) := by
  unfold Dev.settle
  extract_lets q r d1
  split
  · exact .of_regs rfl
  · exact .wr (.of_regs (Dev.each_freeCell d1 n _).2.1) (by simp [pushF]) _

/-- The cells done with leave the chain, and the place moves back by as many. -/
theorem Dev.q_settle : (d.settle n).q n =
    { d.q n with head := (d.q n).head - 64 * (d.q n).doneCells, chain := (d.q n).chain.drop (d.q n).doneCells
                 crossing := (d.q n).crossing + (d.q n).doneCells } := by
  unfold Dev.settle
  extract_lets q r d1
  split
  · next h => rw [show (d.q n).doneCells = 0 from h]; rfl
  · refine (congrArg (fun l => Sparse.get (fun _ => Queue.init) l n) (Dev.each_freeCell d1 n (q.chain.take r)).2.2.1).trans ?_
    exact Dev.q_setQ_same _ _ _

/-- The credit of a queue that frees cells does not fall by more than their number. -/
theorem Dev.credit_settle : d.credit n - (d.q n).doneCells ≤ (d.settle n).credit n := by
  have hgrant := d.regsBut_settle n (F.Q_CFG_GRANT n) (by
    simp [pushF, Fld.id, F.Q_CFG_GRANT, F.Q_CFG, F.QM_FREE_COMMON, F.QM_FREE, F.Q_EV_OVF_EV, F.Q_EV, F.QM_OVF_COUNT,
      F.QM_OVF, F.QM_OVF_Q, F.QM_EVENTS_OVF_ANY, F.QM_EVENTS, F.Q_EV_HI_EV, F.Q_EV_LO_EV, F.Q_EV_HI_LIVE, F.Q_EV_LO_LIVE]
    omega)
  have hheld : (d.settle n).held n ≤ d.held n := by
    unfold Dev.settle
    extract_lets q r d1
    split
    · exact le_rfl
    · exact (Dev.each_freeCell d1 n _).2.2.2
  unfold Dev.credit
  rw [hgrant, Dev.q_settle]
  push_cast
  omega

/-! ### A queue's count of packets -/

theorem Dev.recount_spec (o c : Nat) : d.Shelved (d.recount n o c) ∧ d.RegsBut (d.recount n o c) (pushF n) ∧
    (d.recount n o c).queues = d.queues := by
  unfold Dev.recount
  split
  · exact ⟨.refl d, .of_regs rfl, rfl⟩
  · extract_lets s d1 m hi lo
    refine ⟨⟨rfl, rfl, rfl⟩, ?_, rfl⟩
    have hstart : d.RegsBut { d1 with pool := { d1.pool with move := some { m with now := c } } } (pushF n) := .of_regs rfl
    exact (((hstart.wr (by simp [pushF]) _).wr (by simp [pushF]) _).wr (by simp [pushF]) _).wr (by simp [pushF]) _

/-! ### Taking a cell and putting a word into it -/

theorem Dev.takeCell_spec (l : FreeList) (o : CellOwner) (prev : Option Nat) :
    d.Shelved (d.takeCell l o prev).2 ∧ (d.takeCell l o prev).2.regs = d.regs ∧
      (d.takeCell l o prev).2.queues = d.queues := by
  unfold Dev.takeCell
  extract_lets r c d1
  cases prev <;> exact ⟨⟨rfl, rfl, rfl⟩, rfl, rfl⟩

end Sys2Proof.Machine
end

section
/-! SUPPORT. A push of one word to a queue, in the cases of R198, and a fault's record of four words (R193 to R202,
R225). -/

namespace Sys2Proof.Machine

variable (d : Dev) (n : Nat) (w : QWord) (hold : Option Nat)

/-- The place, among the words of all cells, of the `i`-th word of a chain. -/
def cellAt (chain : List Nat) (i : Nat) : Nat := 64 * chain.getD (i / 64) 0 + i % 64

/-- What the tag of a stored word reads. -/
def QWord.tag (w : QWord) : Nat := 1 + 2 * bit w.e + 4 * w.k

/-- A word stands at place `i` of a chain: it waits for its cell with its tag set, and no context differs. -/
structure Dev.Laid (d e : Dev) (chain : List Nat) (i : Nat) (w : QWord) : Prop where
  ctxs : e.ctxs = d.ctxs
  out : e.pool.out = d.pool.out ++ [(4 * cellAt chain i, w.data.toNat)]
  tags : e.pool.tags = Sparse.set (fun _ => 0) d.pool.tags (cellAt chain i) w.tag

theorem Dev.Laid.shelved {d e e' : Dev} {chain : List Nat} {i : Nat} {w : QWord} (h : d.Laid e chain i w)
    (hs : e.Shelved e') : d.Laid e' chain i w :=
  ⟨hs.ctxs.trans h.ctxs, hs.out.trans h.out, hs.tags.trans h.tags⟩

theorem Dev.laid_putWord (chain : List Nat) (i : Nat) :
    d.Laid (d.putWord (chain.getD (i / 64) 0) (i % 64) w) chain i w := by
  refine ⟨rfl, ?_, rfl⟩
  change d.pool.out ++ _ = _
  rw [cellAt]
  congr 3
  omega

/-- The device that has counted one free cell less and taken it for queue `n`, and the cell. -/
def Dev.cellTaken : Nat × Dev :=
  (d.wr F.QM_FREE_COMMON (d.rd F.QM_FREE_COMMON - 1)).takeCell .common (.queue n) (d.q n).chain.getLast?

/-- The chain of a queue that makes room for one more word, and the device with the word in it. -/
def Dev.laying : List Nat × Dev :=
  if (d.q n).needsCell then
    ((d.q n).chain ++ [(d.cellTaken n).1], (d.cellTaken n).2.putWord
      (((d.q n).chain ++ [(d.cellTaken n).1]).getD (((d.q n).head + (d.q n).stored) / 64) 0)
      (((d.q n).head + (d.q n).stored) % 64) w)
  else
    ((d.q n).chain, d.putWord ((d.q n).chain.getD (((d.q n).head + (d.q n).stored) / 64) 0)
      (((d.q n).head + (d.q n).stored) % 64) w)

theorem Dev.laying_kept (h : (d.q n).needsCell = false) :
    (d.laying n w).1 = (d.q n).chain ∧ d.Laid (d.laying n w).2 (d.q n).chain ((d.q n).head + (d.q n).stored) w ∧
      (d.laying n w).2.regs = d.regs ∧ (d.laying n w).2.queues = d.queues ∧ (d.laying n w).2.pool.cells = d.pool.cells := by
  unfold Dev.laying
  rw [h, if_neg Bool.false_ne_true]
  exact ⟨rfl, d.laid_putWord w _ _, rfl, rfl, rfl⟩

theorem Dev.cellTaken_spec : d.Shelved (d.cellTaken n).2 ∧ d.RegsBut (d.cellTaken n).2 (pushF n) ∧
    (d.cellTaken n).2.queues = d.queues := by
  unfold Dev.cellTaken
  obtain ⟨hs, hr, hq⟩ := (d.wr F.QM_FREE_COMMON (d.rd F.QM_FREE_COMMON - 1)).takeCell_spec .common (.queue n)
    (d.q n).chain.getLast?
  have hcount : d.RegsBut (d.wr F.QM_FREE_COMMON (d.rd F.QM_FREE_COMMON - 1)) (pushF n) :=
    .wr (.of_regs rfl) (by simp [pushF]) _
  exact ⟨⟨hs.ctxs.trans rfl, hs.out.trans rfl, hs.tags.trans rfl⟩, hcount.trans (.of_regs hr), hq⟩

theorem Dev.laying_taken (h : (d.q n).needsCell = true) :
    ∃ c, (d.laying n w).1 = (d.q n).chain ++ [c] ∧
      d.Laid (d.laying n w).2 ((d.q n).chain ++ [c]) ((d.q n).head + (d.q n).stored) w ∧
      d.RegsBut (d.laying n w).2 (pushF n) ∧ (d.laying n w).2.queues = d.queues := by
  unfold Dev.laying
  rw [h, if_pos rfl]
  obtain ⟨hs, hr, hq⟩ := d.cellTaken_spec n
  obtain ⟨hl, hout, htags⟩ := (d.cellTaken n).2.laid_putWord w ((d.q n).chain ++ [(d.cellTaken n).1])
    ((d.q n).head + (d.q n).stored)
  refine ⟨(d.cellTaken n).1, rfl, ⟨hl.trans hs.ctxs, hout.trans ?_, htags.trans ?_⟩, hr.trans (.of_regs rfl), hq⟩
  · rw [hs.out]
  · rw [hs.tags]

/-- The word is stored behind the open ones. -/
theorem Dev.push_open (hen : d.rd (F.Q_CFG_EN n) ≠ 0) (herr : (d.q n).err = false) (hdis : (d.q n).discard = false)
    (hc : (d.q n).needsCell = true → 0 < d.credit n) (he : w.e = false) :
    d.push n w hold = ((((d.laying n w).2.setQ n
      { d.q n with chain := (d.laying n w).1, openWords := (d.q n).openWords ++ [w] })).settle n, .stored) := by
  unfold Dev.push Dev.laying
  cases hn : (d.q n).needsCell with
  | false => simp [hen, herr, hdis, he, hn, Dev.when]
  | true => simp [hen, herr, hdis, he, hn, Dev.when, hc hn, Dev.cellTaken]

/-- The word that closes the packet is stored. -/
theorem Dev.push_close (hen : d.rd (F.Q_CFG_EN n) ≠ 0) (herr : (d.q n).err = false) (hdis : (d.q n).discard = false)
    (hc : (d.q n).needsCell = true → 0 < d.credit n) (he : w.e = true) :
    d.push n w hold = ((((d.laying n w).2.setQ n { d.q n with
      chain := (d.laying n w).1, openWords := []
      packets := (d.q n).packets ++ [⟨(d.q n).openWords ++ [w], hold, none, 0, false, 0⟩] }).recount n
        (d.q n).packets.length ((d.q n).packets.length + 1)).settle n, .closed) := by
  unfold Dev.push Dev.laying
  cases hn : (d.q n).needsCell with
  | false => simp [hen, herr, hdis, he, hn, Dev.when]
  | true => simp [hen, herr, hdis, he, hn, Dev.when, hc hn, Dev.cellTaken]

/-- The queue takes no word at all. -/
def Dev.refuses : Prop := d.rd (F.Q_CFG_EN n) = 0 ∨ (d.q n).err = true ∨ (d.q n).discard = true

theorem Dev.push_refused (h : d.refuses n) :
    (d.push n w hold).1.ctxs = d.ctxs ∧ (d.push n w hold).1.regs = d.regs ∧ (d.push n w hold).1.pool = d.pool ∧
      (w.e = false → (d.push n w hold).1.refuses n) := by
  unfold Dev.push
  extract_lets q
  split
  · next hen => exact ⟨rfl, rfl, rfl, fun _ => .inl hen⟩
  · next hen =>
    have hlost : (q.err || q.discard) = true := by
      rw [Bool.or_eq_true]
      exact h.resolve_left hen
    rw [if_pos hlost]
    refine ⟨rfl, rfl, rfl, fun he => .inr (.inr ?_)⟩
    rw [Dev.q_setQ_same, he]
    rfl

theorem Dev.overflow_keeps (e : Bool) : (d.overflow n e).ctxs = d.ctxs ∧ d.RegsBut (d.overflow n e) (pushF n) := by
  have hgone : (d.abandonOpen n).ctxs = d.ctxs ∧ (d.abandonOpen n).regs = d.regs := by
    unfold Dev.abandonOpen Dev.when
    extract_lets q keep d1
    split <;> exact ⟨rfl, rfl⟩
  unfold Dev.overflow
  extract_lets d1 src d2
  obtain ⟨hctxs, hregs⟩ : d2.ctxs = d.ctxs ∧ d2.regs = d.regs := hgone
  refine ⟨hctxs, ?_⟩
  have hstart : d.RegsBut d2 (pushF n) := .of_regs hregs
  exact (((hstart.wr (by simp [pushF]) _).wr (by simp [pushF]) _).wr (by simp [pushF]) _).wr (by simp [pushF]) _

/-- A push changes no context, and of the registers only the queue's own events and counts. -/
theorem Dev.push_keeps : (d.push n w hold).1.ctxs = d.ctxs ∧ d.RegsBut (d.push n w hold).1 (pushF n) := by
  by_cases href : d.refuses n
  · obtain ⟨hc, hr, -, -⟩ := d.push_refused n w hold href
    exact ⟨hc, .of_regs hr⟩
  obtain ⟨hen, herr, hdis⟩ : d.rd (F.Q_CFG_EN n) ≠ 0 ∧ (d.q n).err = false ∧ (d.q n).discard = false := by
    simpa [Dev.refuses] using href
  by_cases hover : (d.q n).needsCell = true ∧ d.credit n ≤ 0
  · have heq : d.push n w hold = (d.overflow n w.e, .dropped) := by
      unfold Dev.push
      simp only [hen, herr, hdis, hover.1, hover.2, if_false, Bool.or_self, Bool.false_eq_true, decide_true, Bool.and_self,
        if_true]
    rw [heq]
    exact d.overflow_keeps n w.e
  have hc : (d.q n).needsCell = true → 0 < d.credit n := fun h => lt_of_not_ge fun hle => hover ⟨h, hle⟩
  have hlay : (d.laying n w).2.ctxs = d.ctxs ∧ d.RegsBut (d.laying n w).2 (pushF n) := by
    cases hn : (d.q n).needsCell with
    | false =>
      obtain ⟨-, hl, hr, -⟩ := d.laying_kept n w hn
      exact ⟨hl.ctxs, .of_regs hr⟩
    | true =>
      obtain ⟨_, -, hl, hr, -⟩ := d.laying_taken n w hn
      exact ⟨hl.ctxs, hr⟩
  cases he : w.e with
  | false =>
    rw [d.push_open n w hold hen herr hdis hc he]
    exact ⟨(Dev.shelved_settle _ n).ctxs.trans hlay.1, (hlay.2.trans (.of_regs rfl)).trans (Dev.regsBut_settle _ n)⟩
  | true =>
    rw [d.push_close n w hold hen herr hdis hc he]
    obtain ⟨hs, hr, -⟩ := Dev.recount_spec ((d.laying n w).2.setQ n { d.q n with
      chain := (d.laying n w).1, openWords := []
      packets := (d.q n).packets ++ [⟨(d.q n).openWords ++ [w], hold, none, 0, false, 0⟩] }) n
        (d.q n).packets.length ((d.q n).packets.length + 1)
    exact ⟨(Dev.shelved_settle _ n).ctxs.trans (hs.ctxs.trans hlay.1),
      ((hlay.2.trans (.of_regs rfl)).trans hr).trans (Dev.regsBut_settle _ n)⟩

end Sys2Proof.Machine
end

section
/-! SUPPORT. The words of one packet pushed to a queue with room for it, and where they lie (R192 to R200). -/

namespace Sys2Proof.Machine

theorem cellAt_append {chain : List Nat} (l : List Nat) {i : Nat} (h : i < 64 * chain.length) :
    cellAt (chain ++ l) i = cellAt chain i := by
  unfold cellAt
  rw [List.getD_append _ _ _ _ (by omega)]

theorem cellAt_drop (chain : List Nat) {r i k : Nat} (h : k + 64 * r = i) : cellAt (chain.drop r) k = cellAt chain i := by
  unfold cellAt
  rw [List.getD_eq_getElem?_getD, List.getElem?_drop, ← List.getD_eq_getElem?_getD, show r + k / 64 = i / 64 by omega,
    show k % 64 = i % 64 by omega]

/-- The place behind the last word of a queue. -/
def Queue.tail (q : Queue) : Nat := q.head + q.stored

theorem cfgEn_not_pushed (n : Nat) : (F.Q_CFG_EN n).id ∉ (pushF n).map Fld.id := by
  simp [pushF, Fld.id, F.Q_CFG_EN, F.Q_CFG, F.QM_FREE_COMMON, F.QM_FREE, F.Q_EV_OVF_EV, F.Q_EV, F.QM_OVF_COUNT,
    F.QM_OVF, F.QM_OVF_Q, F.QM_EVENTS_OVF_ANY, F.QM_EVENTS, F.Q_EV_HI_EV, F.Q_EV_LO_EV, F.Q_EV_HI_LIVE, F.Q_EV_LO_LIVE]
  omega

/-- Of the words pushed to queue `n` of `d`, `j` lie in its cells and in those of `l`, which it took for them. -/
structure Dev.Placed (d e : Dev) (n j : Nat) (l : List Nat) : Prop where
  grew : l = [] ∧ (d.q n).tail + j ≤ 64 * (d.q n).alloc ∨ l.length = 1 ∧ 64 * (d.q n).alloc < (d.q n).tail + j
  words : ∀ a ∈ e.pool.out, ∃ i < j, a.1 = 4 * cellAt ((d.q n).chain ++ l) ((d.q n).tail + i)
  tags : ∀ t, (∀ i < j, t ≠ cellAt ((d.q n).chain ++ l) ((d.q n).tail + i)) →
    Sparse.get (fun _ => 0) e.pool.tags t = Sparse.get (fun _ => 0) d.pool.tags t

theorem Dev.Placed.shelved {d e e' : Dev} {n j : Nat} {l : List Nat} (h : d.Placed e n j l) (hs : e.Shelved e') :
    d.Placed e' n j l := ⟨h.grew, hs.out ▸ h.words, hs.tags ▸ h.tags⟩

/-- A packet of which `j` words are pushed is open in queue `n`, and the queue has room for its rest; `r` cells have
left the queue meanwhile. -/
structure Dev.Filling (d e : Dev) (n j r : Nat) (l : List Nat) : Prop where
  placed : d.Placed e n j l
  regs : d.RegsBut e (pushF n)
  err : (e.q n).err = false
  keeps : (e.q n).discard = false
  chain : (e.q n).chain = ((d.q n).chain ++ l).drop r
  head : (e.q n).head + 64 * r = (d.q n).head
  stored : (e.q n).stored = (d.q n).stored + j
  left : r = 0 ∨ r < (d.q n).alloc + l.length
  credit : l = [] → (e.q n).head < 64 ∧ 0 < e.credit n ∨ (e.q n).head ≤ 64 ∧ 1 < e.credit n

section
variable {d e : Dev} {n j r : Nat} {l : List Nat} (h : d.Filling e n j r l) (w : QWord)
include h

theorem Dev.Filling.tail : (e.q n).tail + 64 * r = (d.q n).tail + j := by
  have hh := h.head
  have hs := h.stored
  simp only [Queue.tail]
  omega

theorem Dev.Filling.alloc : (e.q n).alloc + r = (d.q n).alloc + l.length := by
  have hl := h.left
  have hc := congrArg List.length h.chain
  simp only [List.length_drop, List.length_append] at hc
  simp only [Queue.alloc] at *
  omega

/-- The queue needs a cell for the next word exactly where it has filled its own and taken none. -/
theorem Dev.Filling.needsCell (hfit : (d.q n).tail ≤ 64 * (d.q n).alloc) (hj : j < 64) :
    (e.q n).needsCell = decide (l = [] ∧ (d.q n).tail + j = 64 * (d.q n).alloc) := by
  have ht := h.tail
  have ha := h.alloc
  rw [show (e.q n).needsCell = decide (64 * (e.q n).alloc ≤ (e.q n).tail) from rfl, decide_eq_decide]
  rcases h.placed.grew with ⟨rfl, hle⟩ | ⟨hone, hlt⟩
  · simp only [List.length_nil] at ha
    simp only [true_and]
    omega
  · have hne : l ≠ [] := by rintro rfl; exact absurd hone (by decide)
    simp only [hne, false_and, iff_false]
    omega

/-- What the next word laid into the cells makes of the packet. -/
theorem Dev.Filling.laying (hfit : (d.q n).tail ≤ 64 * (d.q n).alloc) (hj : j < 64) :
    ∃ l', (e.laying n w).1 = ((d.q n).chain ++ l').drop r ∧ d.Placed (e.laying n w).2 n (j + 1) l' ∧
      d.RegsBut (e.laying n w).2 (pushF n) ∧ (e.laying n w).2.queues = e.queues ∧
      (r = 0 ∨ r < (d.q n).alloc + l'.length) ∧
      (l' = [] → l = [] ∧ (e.laying n w).2.held n = e.held n ∧ (e.laying n w).2.regs = e.regs) := by
  have ht := h.tail
  have hneeds := h.needsCell hfit hj
  -- the words laid before, and the new one
  have hplaced : ∀ {chain l' : List Nat} {e' : Dev}, e.Laid e' chain ((e.q n).tail) w →
      chain = ((d.q n).chain ++ l').drop r →
      (∀ i < j, cellAt ((d.q n).chain ++ l) ((d.q n).tail + i) = cellAt ((d.q n).chain ++ l') ((d.q n).tail + i)) →
      (l' = [] ∧ (d.q n).tail + (j + 1) ≤ 64 * (d.q n).alloc ∨ l'.length = 1 ∧ 64 * (d.q n).alloc < (d.q n).tail + (j + 1)) →
      d.Placed e' n (j + 1) l' := by
    intro chain l' e' hl hchain hsame hgrew
    have hat : cellAt chain (e.q n).tail = cellAt ((d.q n).chain ++ l') ((d.q n).tail + j) :=
      hchain ▸ cellAt_drop _ ht
    refine ⟨hgrew, fun a ha => ?_, fun t hne => ?_⟩
    · rw [hl.out, List.mem_append, List.mem_singleton] at ha
      rcases ha with ha | rfl
      · obtain ⟨i, hi, he⟩ := h.placed.words a ha
        exact ⟨i, by omega, he.trans (by rw [hsame i hi])⟩
      · exact ⟨j, by omega, by rw [hat]⟩
    · have hnew : t ≠ cellAt chain (e.q n).tail := hat ▸ hne j (by omega)
      rw [hl.tags, Sparse.get_set_other _ _ _ hnew]
      exact h.placed.tags t fun i hi => by rw [hsame i hi]; exact hne i (by omega)
  by_cases hfull : l = [] ∧ (d.q n).tail + j = 64 * (d.q n).alloc
  · obtain ⟨rfl, hfull⟩ := hfull
    obtain ⟨c, hc, hl, hr, hq⟩ := e.laying_taken n w (hneeds.trans (decide_eq_true ⟨rfl, hfull⟩))
    have hleft := h.left
    rw [List.length_nil] at hleft
    have hr0 : r ≤ (d.q n).chain.length := by
      change r ≤ (d.q n).alloc
      omega
    have hchain : (e.q n).chain ++ [c] = ((d.q n).chain ++ [c]).drop r := by
      rw [h.chain, List.append_nil, List.drop_append_of_le_length hr0]
    refine ⟨[c], hc.trans hchain, hplaced hl hchain (fun i hi => ?_) (.inr ⟨rfl, by omega⟩), h.regs.trans hr, hq, ?_, by simp⟩
    · have hi' : (d.q n).tail + i < 64 * (d.q n).alloc := by omega
      rw [List.append_nil, cellAt_append [c] hi']
    · rw [List.length_singleton]
      omega
  · obtain ⟨hc, hl, hr, hq, hcells⟩ := e.laying_kept n w (hneeds.trans (decide_eq_false hfull))
    refine ⟨l, hc.trans h.chain, hplaced hl h.chain (fun _ _ => rfl) ?_, h.regs.trans (.of_regs hr), hq, h.left,
      fun hnil => ⟨hnil, by unfold Dev.held Dev.cellsOf; rw [hcells], hr⟩⟩
    rcases h.placed.grew with ⟨hnil, hle⟩ | ⟨hone, hlt⟩
    · have hroom : (d.q n).tail + j ≠ 64 * (d.q n).alloc := fun he => hfull ⟨hnil, he⟩
      exact .inl ⟨hnil, by omega⟩
    · exact .inr ⟨hone, by omega⟩

theorem Dev.Filling.credit_needed (hfit : (d.q n).tail ≤ 64 * (d.q n).alloc) (hj : j < 64)
    (hneeds : (e.q n).needsCell = true) : 0 < e.credit n := by
  have hnil := (of_decide_eq_true ((h.needsCell hfit hj).symm.trans hneeds)).1
  have := h.credit hnil
  omega

/-- A word that does not close the packet. -/
theorem Dev.Filling.push_open (hfit : (d.q n).tail ≤ 64 * (d.q n).alloc) (hj : j < 64)
    (hen : d.rd (F.Q_CFG_EN n) ≠ 0) (hold : Option Nat) (he : w.e = false) :
    ∃ r' l', d.Filling (e.push n w hold).1 n (j + 1) r' l' := by
  obtain ⟨l', hchain, hplaced, hregs, hq, hleft, hnil⟩ := h.laying w hfit hj
  have hen' : e.rd (F.Q_CFG_EN n) ≠ 0 := (h.regs _ (cfgEn_not_pushed n)).symm ▸ hen
  rw [e.push_open n w hold hen' h.err h.keeps (h.credit_needed hfit hj) he]
  generalize hf : (e.laying n w).2.setQ n
    { e.q n with chain := (e.laying n w).1, openWords := (e.q n).openWords ++ [w] } = f
  have hfq : f.q n = { e.q n with chain := (e.laying n w).1, openWords := (e.q n).openWords ++ [w] } :=
    hf ▸ Dev.q_setQ_same _ n _
  have hshelved : (e.laying n w).2.Shelved f := hf ▸ ⟨rfl, rfl, rfl⟩
  have hfregs : (e.laying n w).2.RegsBut f (pushF n) := hf ▸ .of_regs rfl
  have hcells : (e.laying n w).2.held n = f.held n := hf ▸ rfl
  have hsettled := f.q_settle n
  have hhead := congrArg Queue.head hfq
  have hlen : (f.q n).alloc = ((d.q n).alloc + l'.length) - r := by
    unfold Queue.alloc
    rw [hfq, hchain, List.length_drop, List.length_append]
  have hdone : (f.q n).doneCells = min ((f.q n).head / 64) ((f.q n).alloc - 1) := rfl
  have hh := h.head
  refine ⟨r + (f.q n).doneCells, l', (hplaced.shelved hshelved).shelved (f.shelved_settle n),
    (hregs.trans hfregs).trans (f.regsBut_settle n), ?_, ?_, ?_, ?_, ?_, ?_, fun hnil' => ?_⟩
  · rw [hsettled, hfq]; exact h.err
  · rw [hsettled, hfq]; exact h.keeps
  · rw [hsettled, ← List.drop_drop, ← hchain]
    exact congrArg (fun q : Queue => q.chain.drop (f.q n).doneCells) hfq
  · rw [hsettled]
    change (f.q n).head - 64 * (f.q n).doneCells + _ = _
    change (f.q n).head = (e.q n).head at hhead
    omega
  · rw [hsettled, hfq]
    change spanOf (e.q n).packets + ((e.q n).openWords ++ [w]).length = _
    rw [List.length_append, ← Nat.add_assoc]
    exact congrArg (· + 1) h.stored
  · omega
  · obtain ⟨hlnil, hheld, hr⟩ := hnil hnil'
    have hcredit : f.credit n = e.credit n := by
      unfold Dev.credit
      rw [← hcells, hheld, hfq, show f.rd (F.Q_CFG_GRANT n) = e.rd (F.Q_CFG_GRANT n) by
        rw [← hf]; unfold Dev.rd; exact congrArg (fun l => Sparse.get fieldReset l (F.Q_CFG_GRANT n).id) hr]
    have hc := f.credit_settle n
    have hold' := h.credit hlnil
    change (f.q n).head = (e.q n).head at hhead
    rw [hsettled]
    change (f.q n).head - 64 * (f.q n).doneCells < 64 ∧ 0 < (f.settle n).credit n ∨
      (f.q n).head - 64 * (f.q n).doneCells ≤ 64 ∧ 1 < (f.settle n).credit n
    omega

/-- The word that closes the packet. -/
theorem Dev.Filling.push_close (hfit : (d.q n).tail ≤ 64 * (d.q n).alloc) (hj : j < 64)
    (hen : d.rd (F.Q_CFG_EN n) ≠ 0) (hold : Option Nat) (he : w.e = true) :
    ∃ l' r', d.Placed (e.push n w hold).1 n (j + 1) l' ∧ (r' = 0 ∨ r' < (d.q n).alloc + l'.length) ∧
      ((e.push n w hold).1.q n).chain = ((d.q n).chain ++ l').drop r' := by
  obtain ⟨l', hchain, hplaced, hregs, hq, hleft, -⟩ := h.laying w hfit hj
  have hen' : e.rd (F.Q_CFG_EN n) ≠ 0 := (h.regs _ (cfgEn_not_pushed n)).symm ▸ hen
  rw [e.push_close n w hold hen' h.err h.keeps (h.credit_needed hfit hj) he]
  generalize hf : (e.laying n w).2.setQ n { e.q n with
      chain := (e.laying n w).1, openWords := []
      packets := (e.q n).packets ++ [⟨(e.q n).openWords ++ [w], hold, none, 0, false, 0⟩] } = f
  have hfchain : (f.q n).chain = (e.laying n w).1 := hf ▸ congrArg Queue.chain (Dev.q_setQ_same _ n _)
  have hshelved : (e.laying n w).2.Shelved f := hf ▸ ⟨rfl, rfl, rfl⟩
  obtain ⟨hs, -, hqueues⟩ := f.recount_spec n (e.q n).packets.length ((e.q n).packets.length + 1)
  generalize f.recount n (e.q n).packets.length ((e.q n).packets.length + 1) = g at hs hqueues
  have hgchain : (g.q n).chain = ((d.q n).chain ++ l').drop r :=
    (congrArg (fun qs => (Sparse.get (fun _ => Queue.init) qs n).chain) hqueues).trans (hfchain.trans hchain)
  refine ⟨l', r + (g.q n).doneCells, ((hplaced.shelved hshelved).shelved hs).shelved (g.shelved_settle n), ?_, ?_⟩
  · have hdone : (g.q n).doneCells = min ((g.q n).head / 64) ((g.q n).alloc - 1) := rfl
    have hlen : (g.q n).alloc = ((d.q n).alloc + l'.length) - r := by
      unfold Queue.alloc
      rw [hgchain, List.length_drop, List.length_append]
    omega
  · rw [g.q_settle n, ← List.drop_drop, ← hgchain]

end

end Sys2Proof.Machine
end

section
/-! SUPPORT. A fault's record, and the fault of a context (R222, R225, R226, R262). -/

namespace Sys2Proof.Machine

/-- Queue `n` takes a packet of at most 32 words whole (R196, R198). -/
structure Dev.Roomy (d : Dev) (n : Nat) : Prop where
  en : d.rd (F.Q_CFG_EN n) ≠ 0
  err : (d.q n).err = false
  keeps : (d.q n).discard = false
  fits : (d.q n).tail ≤ 64 * (d.q n).alloc
  credit : (d.q n).head < 64 ∧ 0 < d.credit n ∨ (d.q n).head ≤ 64 ∧ 1 < d.credit n

theorem Dev.Roomy.filling {d : Dev} {n : Nat} (h : d.Roomy n) (hout : d.pool.out = []) : d.Filling d n 0 0 [] where
  placed := ⟨.inl ⟨rfl, h.fits⟩, fun _ ha => absurd (hout ▸ ha) List.not_mem_nil, fun _ _ => rfl⟩
  regs := .of_regs rfl
  err := h.err
  keeps := h.keeps
  chain := (List.append_nil _).symm
  head := rfl
  stored := rfl
  left := .inl rfl
  credit := fun _ => h.credit

variable (d : Dev) (n w0 w1 w2 w3 : Nat)

theorem Dev.pushRecord_keeps : (d.pushRecord n w0 w1 w2 w3).1.ctxs = d.ctxs ∧
    d.RegsBut (d.pushRecord n w0 w1 w2 w3).1 (pushF n) := by
  unfold Dev.pushRecord
  extract_lets push r0 r1 r2 r3
  obtain ⟨hc0, hr0⟩ := d.push_keeps n ⟨BitVec.ofNat 32 w0, false, 1⟩ none
  obtain ⟨hc1, hr1⟩ := r0.1.push_keeps n ⟨BitVec.ofNat 32 w1, false, 1⟩ none
  obtain ⟨hc2, hr2⟩ := r1.1.push_keeps n ⟨BitVec.ofNat 32 w2, false, 1⟩ none
  obtain ⟨hc3, hr3⟩ := r2.1.push_keeps n ⟨BitVec.ofNat 32 w3, true, 2⟩ none
  exact ⟨hc3.trans (hc2.trans (hc1.trans hc0)), ((hr0.trans hr1).trans hr2).trans hr3⟩

/-- A queue that refuses the record's first word refuses all four. -/
theorem Dev.pushRecord_refused (h : d.refuses n) : (d.pushRecord n w0 w1 w2 w3).1.pool = d.pool := by
  unfold Dev.pushRecord
  extract_lets push r0 r1 r2 r3
  obtain ⟨-, -, hp0, h0⟩ := d.push_refused n ⟨BitVec.ofNat 32 w0, false, 1⟩ none h
  obtain ⟨-, -, hp1, h1⟩ := r0.1.push_refused n ⟨BitVec.ofNat 32 w1, false, 1⟩ none (h0 rfl)
  obtain ⟨-, -, hp2, h2⟩ := r1.1.push_refused n ⟨BitVec.ofNat 32 w2, false, 1⟩ none (h1 rfl)
  obtain ⟨-, -, hp3, -⟩ := r2.1.push_refused n ⟨BitVec.ofNat 32 w3, true, 2⟩ none (h2 rfl)
  exact hp3.trans (hp2.trans (hp1.trans hp0))

/-- A record's four words lie in the cells of a queue with room for them. -/
def Dev.Recorded (d e : Dev) (n : Nat) : Prop :=
  ∃ l r, d.Placed e n 4 l ∧ (r = 0 ∨ r < (d.q n).alloc + l.length) ∧ (e.q n).chain = ((d.q n).chain ++ l).drop r

theorem Dev.Recorded.set {d e : Dev} {n : Nat} (h : d.Recorded e n) (f : Fld) : d.Recorded (e.set f) n := by
  obtain ⟨l, r, hplaced, hleft, hchain⟩ := h
  exact ⟨l, r, hplaced.shelved ⟨rfl, rfl, rfl⟩, hleft, hchain⟩

theorem Dev.pushRecord_recorded (h : d.Roomy n) (hout : d.pool.out = []) :
    d.Recorded (d.pushRecord n w0 w1 w2 w3).1 n := by
  obtain ⟨_, _, h1⟩ := (h.filling hout).push_open ⟨BitVec.ofNat 32 w0, false, 1⟩ h.fits (by omega) h.en none rfl
  obtain ⟨_, _, h2⟩ := h1.push_open ⟨BitVec.ofNat 32 w1, false, 1⟩ h.fits (by omega) h.en none rfl
  obtain ⟨_, _, h3⟩ := h2.push_open ⟨BitVec.ofNat 32 w2, false, 1⟩ h.fits (by omega) h.en none rfl
  exact h3.push_close ⟨BitVec.ofNat 32 w3, true, 2⟩ h.fits (by omega) h.en none rfl

/-! ### The fault of a context -/

/-- The register fields that the fault of context `x` writes before its record. -/
def faultF (x : Nat) : List Fld := [F.X_EVENTS_FAULT_EV (x / 4) (x % 4), F.X_CNT_COUNT (x / 4) (x % 4) 7, F.MMU_FAULT_CNT_CORE]

/-- The device in which context `x` stands FAULTED, with its record still to be sent. -/
def Dev.halting (x : Nat) : Dev :=
  (((d.setCtx x { d.ctx x with run := .faulted }).set (F.X_EVENTS_FAULT_EV (x / 4) (x % 4))).bump
    (F.X_CNT_COUNT (x / 4) (x % 4) 7) 1).bump F.MMU_FAULT_CNT_CORE 1

theorem Dev.regsBut_halting (x : Nat) : d.RegsBut (d.halting x) (faultF x) := by
  have hset : d.RegsBut (d.setCtx x { d.ctx x with run := .faulted }) (faultF x) := .of_regs rfl
  exact ((hset.wr (by simp [faultF]) _).wr (by simp [faultF]) _).wr (by simp [faultF]) _

theorem Dev.halting_event (x : Nat) : (d.halting x).rd (F.X_EVENTS_FAULT_EV (x / 4) (x % 4)) = 1 := by
  unfold Dev.halting Dev.bump
  have hcnt : (F.X_EVENTS_FAULT_EV (x / 4) (x % 4)).id ≠ (F.X_CNT_COUNT (x / 4) (x % 4) 7).id := by
    simp only [Fld.id, F.X_EVENTS_FAULT_EV, F.X_EVENTS, F.X_CNT_COUNT, F.X_CNT]
    omega
  have hmmu : (F.X_EVENTS_FAULT_EV (x / 4) (x % 4)).id ≠ F.MMU_FAULT_CNT_CORE.id := by
    simp only [Fld.id, F.X_EVENTS_FAULT_EV, F.X_EVENTS, F.MMU_FAULT_CNT_CORE, F.MMU_FAULT_CNT]
    omega
  rw [Dev.rd_wr_other _ _ hmmu, Dev.rd_wr_other _ _ hcnt]
  exact Dev.rd_wr_same _ _ _

/-- No register of a queue's own, nor of the fault queue, is one that a fault's counts and event stand in. -/
theorem not_faultF (x : Nat) :
    (F.Q_CFG_EN n).id ∉ (faultF x).map Fld.id ∧ (F.Q_CFG_GRANT n).id ∉ (faultF x).map Fld.id ∧
      F.MMU_FAULTQ_EN.id ∉ (faultF x).map Fld.id ∧ F.MMU_FAULTQ_Q.id ∉ (faultF x).map Fld.id := by
  simp only [faultF, List.map_cons, List.map_nil, List.mem_cons, List.not_mem_nil, or_false, not_or, Fld.id,
    F.X_EVENTS_FAULT_EV, F.X_EVENTS, F.X_CNT_COUNT, F.X_CNT, F.MMU_FAULT_CNT_CORE, F.MMU_FAULT_CNT, F.Q_CFG_EN, F.Q_CFG,
    F.Q_CFG_GRANT, F.MMU_FAULTQ_EN, F.MMU_FAULTQ_Q, F.MMU_FAULTQ]
  omega

theorem faultEvent_not_pushed (x : Nat) : (F.X_EVENTS_FAULT_EV (x / 4) (x % 4)).id ∉ (pushF n).map Fld.id := by
  simp only [pushF, List.map_cons, List.map_nil, List.mem_cons, List.not_mem_nil, or_false, not_or, Fld.id,
    F.X_EVENTS_FAULT_EV, F.X_EVENTS, F.QM_FREE_COMMON, F.QM_FREE, F.Q_EV_OVF_EV, F.Q_EV, F.QM_OVF_COUNT,
    F.QM_OVF, F.QM_OVF_Q, F.QM_EVENTS_OVF_ANY, F.QM_EVENTS, F.Q_EV_HI_EV, F.Q_EV_LO_EV, F.Q_EV_HI_LIVE, F.Q_EV_LO_LIVE]
  omega

theorem faultEvent_not_mmu (x : Nat) : (F.X_EVENTS_FAULT_EV (x / 4) (x % 4)).id ≠ F.MMU_EVENTS_FAULTQ_LOST.id ∧
    (F.X_EVENTS_FAULT_EV (x / 4) (x % 4)).id ≠ F.MMU_EVENTS_FAULT_EV.id := by
  simp only [Fld.id, F.X_EVENTS_FAULT_EV, F.X_EVENTS, F.MMU_EVENTS_FAULTQ_LOST, F.MMU_EVENTS_FAULT_EV, F.MMU_EVENTS]
  omega

/-- A fault's record changes no context, and of the pool and the queues only what the push of its words does. -/
theorem Dev.faultRecord_spec :
    (d.faultRecord w0 w1 w2 w3).ctxs = d.ctxs ∧
      (∀ x, (d.faultRecord w0 w1 w2 w3).rd (F.X_EVENTS_FAULT_EV (x / 4) (x % 4)) =
        d.rd (F.X_EVENTS_FAULT_EV (x / 4) (x % 4))) ∧
      (d.rd F.MMU_FAULTQ_EN = 0 ∨ d.refuses (d.rd F.MMU_FAULTQ_Q) → (d.faultRecord w0 w1 w2 w3).pool = d.pool) ∧
      (d.rd F.MMU_FAULTQ_EN ≠ 0 → d.Roomy (d.rd F.MMU_FAULTQ_Q) → d.pool.out = [] →
        d.Recorded (d.faultRecord w0 w1 w2 w3) (d.rd F.MMU_FAULTQ_Q)) := by
  unfold Dev.faultRecord
  by_cases hen : d.rd F.MMU_FAULTQ_EN = 0
  · rw [if_pos hen]
    exact ⟨rfl, fun x => Dev.rd_wr_other _ _ (faultEvent_not_mmu x).1, fun _ => rfl, fun h => absurd hen h⟩
  rw [if_neg hen]
  obtain ⟨hctxs, hregs⟩ := d.pushRecord_keeps (d.rd F.MMU_FAULTQ_Q) w0 w1 w2 w3
  have hev := fun x => hregs _ (faultEvent_not_pushed (d.rd F.MMU_FAULTQ_Q) x)
  have hpool := d.pushRecord_refused (d.rd F.MMU_FAULTQ_Q) w0 w1 w2 w3
  have hrec := d.pushRecord_recorded (d.rd F.MMU_FAULTQ_Q) w0 w1 w2 w3
  generalize d.pushRecord (d.rd F.MMU_FAULTQ_Q) w0 w1 w2 w3 = r at hctxs hev hpool hrec
  have hset : ∀ f : Fld, (∀ x, (F.X_EVENTS_FAULT_EV (x / 4) (x % 4)).id ≠ f.id) → ∀ x,
      (r.1.set f).rd (F.X_EVENTS_FAULT_EV (x / 4) (x % 4)) = d.rd (F.X_EVENTS_FAULT_EV (x / 4) (x % 4)) :=
    fun f hf x => (Dev.rd_wr_other _ _ (hf x)).trans (hev x)
  dsimp only
  split
  · exact ⟨hctxs, hset _ fun x => (faultEvent_not_mmu x).2, fun h => hpool (h.resolve_left hen),
      fun _ hroom hout => (hrec hroom hout).set _⟩
  · exact ⟨hctxs, hset _ fun x => (faultEvent_not_mmu x).1, fun h => hpool (h.resolve_left hen),
      fun _ hroom hout => (hrec hroom hout).set _⟩

/-- The fault of a context: it alone stands FAULTED, its event is set, and its record lies in the fault queue's cells
where it is sent and the queue has room. -/
theorem Dev.ctxFault_spec (x cause : Nat) (k : Access) (va : Nat) (hout : d.pool.out = []) :
    (d.ctxFault x cause k va).ctxs = (d.setCtx x { d.ctx x with run := .faulted }).ctxs ∧
      (d.ctxFault x cause k va).rd (F.X_EVENTS_FAULT_EV (x / 4) (x % 4)) = 1 ∧
      (d.rd F.MMU_FAULTQ_EN = 0 ∨ d.refuses (d.rd F.MMU_FAULTQ_Q) → (d.ctxFault x cause k va).pool.out = []) ∧
      (d.rd F.MMU_FAULTQ_EN ≠ 0 → d.Roomy (d.rd F.MMU_FAULTQ_Q) →
        d.Recorded (d.ctxFault x cause k va) (d.rd F.MMU_FAULTQ_Q)) := by
  have hrest := d.regsBut_halting x
  obtain ⟨-, -, hsent, hqueue⟩ := not_faultF 0 x
  have hq := hrest _ hqueue
  obtain ⟨hen, hgrant, -, -⟩ := not_faultF (d.rd F.MMU_FAULTQ_Q) x
  obtain ⟨hctxs, hev, hpool, hrec⟩ := (d.halting x).faultRecord_spec
    (cause + k.code * 16 + x / 4 * 4096 + x % 4 * 65536 + (d.ctx x).asid * 2 ^ 20) va (d.ctx x).pc (d.halting x).nowNs
  rw [hrest _ hsent, hq] at hpool hrec
  refine ⟨hctxs, (hev x).trans (d.halting_event x), fun h => ?_, fun hs hroom => ?_⟩
  · have href : (d.halting x).refuses (d.rd F.MMU_FAULTQ_Q) ↔ d.refuses (d.rd F.MMU_FAULTQ_Q) := by
      unfold Dev.refuses
      rw [hrest _ hen]
      exact Iff.rfl
    exact (congrArg Pool.out (hpool (h.imp_right href.mpr))).trans hout
  · have hcredit : (d.halting x).credit (d.rd F.MMU_FAULTQ_Q) = d.credit (d.rd F.MMU_FAULTQ_Q) := by
      unfold Dev.credit
      rw [hrest _ hgrant]
      rfl
    obtain ⟨l, r, ⟨hgrew, hwords, htags⟩, hleft, hchain⟩ := hrec hs
      ⟨(hrest _ hen).symm ▸ hroom.en, hroom.err, hroom.keeps, hroom.fits, hcredit.symm ▸ hroom.credit⟩ hout
    exact ⟨l, r, ⟨hgrew, hwords, htags⟩, hleft, hchain⟩

end Sys2Proof.Machine
end

section
/-! SUPPORT. An instruction that stops its context: what `Halts` says of it, and the long instructions that do so (R221,
R225, R262, R274, R290). -/

namespace Sys2Proof.Machine

/-- The words that go into cells change no byte but theirs. -/
theorem Chip.byte_settleCells (c : Chip) {b : Nat} (h : ∀ a ∈ c.dev.pool.out, b < a.1 ∨ a.1 + 4 ≤ b) :
    c.settleCells.mem.byte b = c.mem.byte b := by
  unfold Chip.settleCells
  split
  · rfl
  · exact foldl_keeps_mem c.dev.pool.out c.mem h
where
  foldl_keeps_mem {b : Nat} : ∀ (l : List (Nat × Nat)) (m : Mem), (∀ a ∈ l, b < a.1 ∨ a.1 + 4 ≤ b) →
      (l.foldl (fun m p => m.store p.1 4 p.2) m).byte b = m.byte b
    | [], _, _ => rfl
    | a :: l, m, h => (foldl_keeps_mem l _ fun a' ha => h a' (List.mem_cons_of_mem a ha)).trans
        (Mem.byte_store_other 4 a.1 a.2 m (h a List.mem_cons_self))

theorem Chip.dev_settleCells (c : Chip) : c.settleCells.dev.ctxs = c.dev.ctxs ∧ c.settleCells.dev.regs = c.dev.regs ∧
    c.settleCells.dev.queues = c.dev.queues ∧ c.settleCells.dev.pool.tags = c.dev.pool.tags := by
  unfold Chip.settleCells
  split <;> exact ⟨rfl, rfl, rfl, rfl⟩

end Sys2Proof.Machine

namespace Sys2Proof.Claim

open Sys2Proof.Machine

theorem PacketRoom.roomy {d : Dev} {q : Nat} (h : PacketRoom d q) : d.Roomy q := by
  obtain ⟨hen, herr, hdis, -, hfits, hcredit⟩ := h
  exact ⟨hen, herr, hdis, hfits, hcredit⟩

/-- The cells of a packet are the queue's own and the one taken, which is the last of its chain. -/
theorem packetCells_eq {d e : Dev} {n j r : Nat} {l : List Nat} (h : d.Placed e n j l)
    (hleft : r = 0 ∨ r < (d.q n).alloc + l.length) (hchain : (e.q n).chain = ((d.q n).chain ++ l).drop r) :
    packetCells d e n j = (d.q n).chain ++ l := by
  unfold packetCells
  change (if 64 * (d.q n).alloc < (d.q n).tail + j then _ else _) = _
  rcases h.grew with ⟨rfl, hle⟩ | ⟨hone, hlt⟩
  · rw [if_neg (by omega), List.append_nil]
  · obtain ⟨c, rfl⟩ := List.length_eq_one_iff.mp hone
    rw [if_pos hlt, hchain]
    have hlen : ¬ ((d.q n).chain ++ [c]).length ≤ r := by
      rw [List.length_append]
      rw [Queue.alloc, hone] at hleft
      rw [hone]
      omega
    rw [List.getLastD_eq_getLast?, List.getLast?_drop, if_neg hlen, List.getLast?_concat]
    rfl

variable {s : State} {i : Instr} {x : Fin 64} {c1 : Chip} {cause va : Nat} {k : Access}

/-- An instruction whose action is the fault of its context. -/
theorem Halts.of_fault (h : Issues s x) {f : Chip → Chip} (he : exec i s = s.run fun c => c.issue x f)
    (hf : f (s.chip.fetch x).1 = c1.onDev (·.ctxFault x cause k va)) (ha : (s.chip.fetch x).1.Accessed c1) :
    Halts i s x c1 := by
  have hout : c1.dev.pool.out = [] := (congrArg Pool.out ha.pool).trans h.out_nil
  obtain ⟨hctxs, hev, hnone, hrec⟩ := c1.dev.ctxFault_spec x cause k va hout
  generalize hc2 : c1.onDev (·.ctxFault x cause k va) = c2 at hf
  have hdev : c2.dev = c1.dev.ctxFault x cause k va := hc2 ▸ rfl
  have hmem : c2.mem = c1.mem := hc2 ▸ rfl
  rw [← hdev] at hctxs hev hnone hrec
  obtain ⟨hsctxs, hsregs, hsqueues, hstags⟩ := c2.dev_settleCells
  obtain ⟨-, -, -, hflash⟩ := c2.settleCells_spec
  have hctx : ∀ y, c2.settleCells.dev.ctx y = (c1.dev.setCtx x { c1.dev.ctx x with run := .faulted }).ctx y := fun y =>
    congrArg (fun l => Sparse.get (fun _ => Ctx.init) l y) (hsctxs.trans hctxs)
  refine ⟨c2.settleCells, hf ▸ h.exec_issue he, (hctx x).trans (Dev.ctx_setCtx_same _ _ _), fun y hy => ?_, ?_,
    hmem ▸ hflash, fun hs hroom => ?_, fun hlost => ?_⟩
  · rw [hctx y, Dev.ctx_setCtx, if_neg hy]
  · rw [← hev]
    exact congrArg (fun l => Sparse.get fieldReset l (F.X_EVENTS_FAULT_EV (x / 4) (x % 4)).id) hsregs
  · obtain ⟨l, r, hplaced, hleft, hchain⟩ := hrec hs (PacketRoom.roomy hroom)
    have hq : (c2.settleCells.dev.q (c1.dev.rd F.MMU_FAULTQ_Q)).chain = (c2.dev.q (c1.dev.rd F.MMU_FAULTQ_Q)).chain :=
      congrArg (fun qs => (Sparse.get (fun _ => Queue.init) qs (c1.dev.rd F.MMU_FAULTQ_Q)).chain) hsqueues
    have hcells : packetCells c1.dev c2.settleCells.dev (c1.dev.rd F.MMU_FAULTQ_Q) 4 =
        (c1.dev.q (c1.dev.rd F.MMU_FAULTQ_Q)).chain ++ l := by
      rw [← packetCells_eq hplaced hleft hchain, packetCells, packetCells, hq]
    have hplace : ∀ i, packetPlace c1.dev c2.settleCells.dev (c1.dev.rd F.MMU_FAULTQ_Q) 4 i =
        cellAt ((c1.dev.q (c1.dev.rd F.MMU_FAULTQ_Q)).chain ++ l) ((c1.dev.q (c1.dev.rd F.MMU_FAULTQ_Q)).tail + i) :=
      fun i => hcells ▸ rfl
    refine ⟨fun b hb => ?_, hmem ▸ hflash, fun t ht => ?_⟩
    · rw [Chip.byte_settleCells, hmem]
      intro a hmem
      obtain ⟨i, hi, hat⟩ := hplaced.words a hmem
      have hne := hplace i ▸ hb i (List.mem_range.mpr hi)
      omega
    · rw [hstags]
      exact hplaced.tags t fun i hi => hplace i ▸ ht i (List.mem_range.mpr hi)
  · have hquiet : c2.dev.pool.out = [] := hnone (by
      unfold Dev.refuses
      tauto)
    rw [Chip.settleCells, if_pos hquiet, hmem]

end Sys2Proof.Claim
end

section
/-! SUPPORT. Delay lines that stop the context: a LEN or a count that does not fit, and a misaligned BASE (R160, R221,
R274, R294). -/

namespace Sys2Proof.Machine

theorem Ctx.stepSize_pos {k : Ctx} {gn : BitVec 5} {n : Nat} (h : ¬ k.total gn ≤ k.done gn) (hn : n ≠ 0) :
    ∃ m, k.stepSize gn n = m + 1 := by
  refine ⟨k.stepSize gn n - 1, ?_⟩
  unfold Ctx.stepSize
  omega

end Sys2Proof.Machine

namespace Sys2Proof.Claim

open Sys2Proof.Machine

variable {s : State} {x : Fin 64} {k : Ctx} {gn gd : BitVec 5} {pt pb : BitVec 3} {c1 c2 : Chip} {ps ps2 : List Place}
  (h : Issues s x) (hk : s.chip.dev.ctx x = k)
include h hk

theorem dlyWrite_refused_halts {compact : Bool} (hbad : (k.badLine pt compact || (compact &&
    (k.rdP pt 2 % 6 != 0 || k.done gn % 6 != 0 || k.total gn % 6 != 0))) = true) :
    Halts (.dlyWrite x pt pb gn compact) s x (s.chip.fetch x).1 :=
  .of_fault h rfl (Chip.dlyWrite_refused (h.fetch_ctx hk ▸ hbad)) (.refl _)

theorem dlyRead_refused_halts {compact : Bool} (hbad : k.badLine pt compact = true) :
    Halts (.dlyRead x pt pb gn gd compact) s x (s.chip.fetch x).1 :=
  .of_fault h rfl (Chip.dlyRead_refused (h.fetch_ctx hk ▸ hbad)) (.refl _)

section
variable (hmore : ¬ k.total gn ≤ k.done gn)
include hmore

theorem dlyRead_full_misaligned (hgood : k.badLine pt false = false) (hodd : k.rdP pt 0 % 4 ≠ 0)
    (hl : ReachesAll (s.chip.fetch x).1 x 1 .load
      [⟨(k.rdP pt 0 + 4 * (k.linePos pt gn gd % (k.rdP pt 1 / 4 : Nat)).toNat) % 2 ^ 32, false⟩] c1 ps) :
    Halts (.dlyRead x pt pb gn gd false) s x c1 := by
  have hc := h.fetch_ctx hk
  obtain ⟨m, hm⟩ := Ctx.stepSize_pos (n := 8) hmore (by decide)
  have hact : (s.chip.fetch x).1.dlyRead x pt pb gn gd false = _ := Chip.dlyRead_full (hc ▸ hgood) (hc ▸ hmore)
  rw [hc, hm, List.range_succ_eq_map, List.map_cons, Nat.cast_zero, add_zero,
    lineRef_full_bad hodd, Chip.loads_fault (Chip.prepare_misaligned hl _ _)] at hact
  exact .of_fault h rfl hact (Chip.Accessed.of_prepare hl)

theorem dlyRead_compact_misaligned (hgood : k.badLine pt true = false) (hodd : k.rdP pt 0 % 16 ≠ 0)
    (hl : ReachesAll (s.chip.fetch x).1 x 1 .load
      [⟨((k.rdP pt 0 + 16 * ((k.linePos pt gn gd % (6 * k.rdP pt 1 / 16 : Nat)).toNat / 6)) % 2 ^ 32 + 0) % 2 ^ 32, false⟩] c1 ps) :
    Halts (.dlyRead x pt pb gn gd true) s x c1 := by
  have hc := h.fetch_ctx hk
  have hact : (s.chip.fetch x).1.dlyRead x pt pb gn gd true = _ := Chip.dlyRead_compact (hc ▸ hgood) (hc ▸ hmore) rfl rfl
  rw [hc, List.range_succ_eq_map, List.map_cons,
    lineRef_compact_bad hodd, Chip.loads_fault (Chip.prepare_misaligned hl _ _)] at hact
  exact .of_fault h rfl hact (Chip.Accessed.of_prepare hl)

theorem dlyWrite_full_misaligned (hgood : k.badLine pt false = false) (hodd : k.rdP pt 0 % 4 ≠ 0)
    (hl : ReachesAll (s.chip.fetch x).1 x 4 .load (k.wordRefs pb gn (k.stepSize gn 8)) c1 ps)
    (hs : ReachesAll c1 x 1 .store
      [⟨(k.rdP pt 0 + 4 * (((k.rdP pt 2 + k.done gn : Nat) : Int) % (k.rdP pt 1 / 4 : Nat)).toNat) % 2 ^ 32, false⟩] c2 ps2) :
    Halts (.dlyWrite x pt pb gn false) s x c2 := by
  have hc := h.fetch_ctx hk
  obtain ⟨m, hm⟩ := Ctx.stepSize_pos (n := 8) hmore (by decide)
  have hact : (s.chip.fetch x).1.dlyWrite x pt pb gn false = _ := Chip.dlyWrite_full (hc ▸ hgood) (hc ▸ hmore)
  rw [hc, Chip.loads_ok hl, hm, List.range_succ_eq_map, List.map_cons,
    add_zero, lineRef_full_bad hodd, Chip.toStore_fault (Chip.prepare_misaligned hs _ _)] at hact
  exact .of_fault h rfl hact ((Chip.Accessed.of_prepare hl).trans (Chip.Accessed.of_prepare hs))

theorem dlyWrite_compact_misaligned (hgood : k.badLine pt true = false) (hodd : k.rdP pt 0 % 16 ≠ 0)
    (hpos : k.rdP pt 2 % 6 = 0) (hdone : k.done gn % 6 = 0) (htotal : k.total gn % 6 = 0)
    (hl : ReachesAll (s.chip.fetch x).1 x 4 .load (k.wordRefs pb gn (k.stepSize gn 6)) c1 ps)
    (hs : ReachesAll c1 x 1 .store [⟨((k.rdP pt 0 +
      16 * ((((k.rdP pt 2 + k.done gn : Nat) : Int) % (6 * k.rdP pt 1 / 16 : Nat)).toNat / 6)) % 2 ^ 32 + 0) % 2 ^ 32, false⟩]
      c2 ps2) :
    Halts (.dlyWrite x pt pb gn true) s x c2 := by
  have hc := h.fetch_ctx hk
  have hact : (s.chip.fetch x).1.dlyWrite x pt pb gn true = _ := Chip.dlyWrite_compact (hc ▸ hgood) (hc ▸ hpos) (hc ▸ hdone) (hc ▸ htotal) (hc ▸ hmore)
  rw [hc, Chip.loads_ok hl,
    List.range_succ_eq_map, List.map_cons, lineRef_compact_bad hodd, Chip.toStore_fault (Chip.prepare_misaligned hs _ _)] at hact
  exact .of_fault h rfl hact ((Chip.Accessed.of_prepare hl).trans (Chip.Accessed.of_prepare hs))

end

end Sys2Proof.Claim
end

section
/-! SUPPORT. What a step of MIX comes to, by what it meets on its input (R290 to R292). -/

namespace Sys2Proof.Machine

/-- The fields of MIX's G[n] (R290): inputs, the input's number, its word, lanes, and active inputs so far. -/
structure Ctx.MixAt (k : Ctx) (gn : BitVec 5) (cnt i word cl act : Nat) : Prop where
  inputs : bitsAt (k.rdG gn).toNat 0 7 = cnt
  input : bitsAt (k.rdG gn).toNat 8 7 = i
  first : bitsAt (k.rdG gn).toNat 16 5 = word
  lanes : bitsAt (k.rdG gn).toNat 21 3 + 1 = cl
  active : (if i = 0 ∧ word = 0 then 0 else bitsAt (k.rdG gn).toNat 24 7) = act

/-- The first input begins with every accumulator at 0. -/
def Ctx.mixStart (i : Nat) (k : Ctx) : Ctx :=
  if i = 0 then (List.range 8).foldl (fun k j => k.wrA (BitVec.ofNat 3 j) 0) k else k

section
variable {c c1 c2 : Chip} {x : Nat} {vd : BitVec 4} {pt : BitVec 3} {gn : BitVec 5} {m : Nat} {l : Bool}
  {cnt i word cl act : Nat} {ps ps2 : List Place} {e : Nat} {gain : Int}

theorem Chip.mix_complete (h : (c.dev.ctx x).MixAt gn cnt i word cl act) (hi : min cnt 64 ≤ i) :
    c.mix x vd pt gn m l = c.modCtx x fun k => (k.mixStart i).mixEnd vd gn m l cnt word cl act := by
  obtain ⟨rfl, rfl, rfl, rfl, rfl⟩ := h
  exact if_pos hi

theorem exec_mix (s : State) (x : Fin 64) (vd : BitVec 4) (pt : BitVec 3) (gn : BitVec 5) (m : Fin 3) (l : Bool) :
    exec (.mix x vd pt gn m l) s = s.run fun c => c.issue x fun c => c.mix x vd pt gn m l := rfl

/-- The accesses of a step on an input that is not the last pass: they read the entry's words `e` and the gain, and
find the place of the first. -/
structure Chip.MixOpens (c : Chip) (x : Nat) (pt : BitVec 3) (gn : BitVec 5) (cnt i cl act : Nat) (c1 c2 : Chip)
    (ps ps2 : List Place) (e : Nat) (gain : Int) : Prop where
  at_ : (c.dev.ctx x).MixAt gn cnt i 0 cl act
  before : i + 1 < min cnt 64
  loads : c.prepare (c.dev.whoCtx x) 4 .load [(c.dev.ctx x).ref pt ((8 * i : Nat) : Int) 4,
    (c.dev.ctx x).ref pt ((8 * i + 4 : Nat) : Int) 4] = (c1, .ok ps)
  stores : c1.prepare (c1.dev.whoCtx x) 4 .store [(c.dev.ctx x).ref pt ((8 * i : Nat) : Int) 4] = (c2, .ok ps2)
  entry : (ps.map fun p => c1.mem.load p.key 4).getD 0 0 = e
  gainWord : q31 ((ps.map fun p => c1.mem.load p.key 4).getD 1 0) = gain

/-- The words that the step takes of the input's block. -/
def Chip.mixTaken (c : Chip) (x : Nat) (l : Bool) (e : Nat) (gain : Int) (cl i : Nat) : MixSt :=
  mixTake x (e % 4096) true l (bitAt e 31) gain cl cl 0 ⟨c.dev.modCtx x (Ctx.mixStart i), false, false, false⟩

/-- The step that leaves the input's packet: the entry's word is `v` and G[n] is `g`. -/
def Chip.mixNext (c : Chip) (x : Nat) (d : Dev) (ps : List Place) (v : Nat) (gn : BitVec 5) (g : Nat) (mixf : Bool) : Chip :=
  (({ c with dev := d } : Chip).storeAll x 4 ps [v]).modCtx x fun k =>
    ((if mixf then k.flag fMIXF else k).setMixing false).wrGn gn g

/-- The step that stays on the input's packet. -/
def Chip.mixStays (c : Chip) (x : Nat) (d : Dev) : Chip :=
  ({ c with dev := d } : Chip).modCtx x fun k => (k.flag fMIXF).setMixing true

/-- The entry's word after the input, and G[n]. -/
def mixMarks (e : Nat) (ended inact : Bool) : Nat :=
  e % 2 ^ 29 + bit ended * 2 ^ 29 + bit inact * 2 ^ 30 + bit (bitAt e 31) * 2 ^ 31
def mixCount (cnt i cl act : Nat) : Nat := cnt + (i + 1) * 2 ^ 8 + 0 * 2 ^ 16 + (cl - 1) * 2 ^ 21 + act % 128 * 2 ^ 24

/-- A step on an input: it takes the input's block, or discards words of its packet `again`. -/
def Chip.mixStep (c : Chip) (x : Nat) (gn : BitVec 5) (l again : Bool) (cnt i cl act e : Nat) (gain : Int)
    (ps : List Place) : Chip :=
  let st := if again then ⟨c.dev, false, false, true⟩ else c.mixTaken x l e gain cl i
  let r := if again then mixDiscard x (e % 4096) 8 st.dev else (st.dev, !(l && !st.inact && !st.ended))
  if !r.2 then c.mixStays x r.1
  else c.mixNext x r.1 ps (mixMarks e st.ended st.inact) gn
    (mixCount cnt i cl (if (!st.inact && !bitAt e 31 && gain != 0) = true then act + 1 else act)) st.mixf

variable (h : c.MixOpens x pt gn cnt i cl act c1 c2 ps ps2 e gain)
include h

theorem Chip.MixOpens.mix_eq : c.mix x vd pt gn m l =
    c2.mixStep x gn l ((c.dev.ctx x).mixing.contains (c.dev.ctx x).pc) cnt i cl act e gain ps2 := by
  obtain ⟨⟨hcnt, hi, hword, hcl, hact⟩, hbefore, hl, hs, he, hg⟩ := h
  have hmid : ¬ min cnt 64 ≤ i := by omega
  have hlast : ¬ min cnt 64 ≤ i + 1 := by omega
  unfold Chip.mix
  dsimp only
  rw [hcnt, hi, hword, hcl, hact, if_neg hmid, Chip.loads_ok hl, Chip.toStore_ok hs, he, hg]
  simp only [decide_true, Bool.not_true, Bool.false_and, Bool.true_and, if_neg hlast]
  rfl

theorem Chip.MixOpens.takes (hagain : (c.dev.ctx x).mixing.contains (c.dev.ctx x).pc = false) {st : MixSt}
    (hst : c2.mixTaken x l e gain cl i = st) (hends : (l && !st.inact && !st.ended) = false) :
    c.mix x vd pt gn m l = c2.mixNext x st.dev ps2 (mixMarks e st.ended st.inact) gn
      (mixCount cnt i cl (if (!st.inact && !bitAt e 31 && gain != 0) = true then act + 1 else act)) st.mixf := by
  rw [h.mix_eq, hagain]
  simp only [Chip.mixStep, Bool.false_eq_true, if_false, hst, hends, Bool.not_false, Bool.not_true]

theorem Chip.MixOpens.goes_on (hagain : (c.dev.ctx x).mixing.contains (c.dev.ctx x).pc = false) {st : MixSt}
    (hst : c2.mixTaken x l e gain cl i = st) (hmore : (l && !st.inact && !st.ended) = true) :
    c.mix x vd pt gn m l = c2.mixStays x st.dev := by
  rw [h.mix_eq, hagain]
  simp only [Chip.mixStep, Bool.false_eq_true, if_false, hst, hmore, Bool.not_false, Bool.not_true, if_true]

theorem Chip.MixOpens.discards (hagain : (c.dev.ctx x).mixing.contains (c.dev.ctx x).pc = true) {d : Dev}
    (hd : mixDiscard x (e % 4096) 8 c2.dev = (d, false)) : c.mix x vd pt gn m l = c2.mixStays x d := by
  rw [h.mix_eq, hagain]
  simp only [Chip.mixStep, if_true, hd, Bool.not_false]

theorem Chip.MixOpens.discarded (hagain : (c.dev.ctx x).mixing.contains (c.dev.ctx x).pc = true) {d : Dev}
    (hd : mixDiscard x (e % 4096) 8 c2.dev = (d, true)) :
    c.mix x vd pt gn m l = c2.mixNext x d ps2 (mixMarks e false false) gn
      (mixCount cnt i cl (if (!bitAt e 31 && gain != 0) = true then act + 1 else act)) true := by
  rw [h.mix_eq, hagain]
  simp only [Chip.mixStep, if_true, hd, Bool.not_true, Bool.false_eq_true, if_false, Bool.not_false, Bool.true_and]

end

end Sys2Proof.Machine
end

section
/-! SUPPORT. A plain pop of a context from a queue, and MIX's discarding of a packet's words (R199, R201, R252, R291). -/

namespace Sys2Proof.Machine

variable {d d' : Dev} {x q : Nat} {p : Packet} {qs : List Packet} {w : QWord} {ws : List QWord}

theorem Dev.q_settle_other (d : Dev) {n m : Nat} (h : m ≠ n) : (d.settle n).q m = d.q m := by
  unfold Dev.settle
  extract_lets q r d1
  split
  · rfl
  · refine (congrArg (fun l => Sparse.get (fun _ => Queue.init) l m) (Dev.each_freeCell d1 n (q.chain.take r)).2.2.1).trans ?_
    exact (Dev.q_setQ d n m _).trans (if_neg h)

/-- A pop of queue `q`: of the queues it alone differs, with the packets `ps` left; no word waits for a cell that did
not before. -/
structure Dev.Sipped (d d' : Dev) (q : Nat) (ps : List Packet) : Prop where
  out : d'.pool.out = d.pool.out
  regs : d.RegsBut d' (pushF q)
  others : ∀ j, j ≠ q → d'.q j = d.q j
  err : (d'.q q).err = (d.q q).err
  packets : (d'.q q).packets = ps

theorem Dev.Sipped.trans {d e e' : Dev} {ps qs : List Packet} (h : d.Sipped e q ps) (h' : e.Sipped e' q qs) :
    d.Sipped e' q qs :=
  ⟨h'.out.trans h.out, h.regs.trans h'.regs, fun j hj => (h'.others j hj).trans (h.others j hj), h'.err.trans h.err,
    h'.packets⟩

theorem Dev.Sipped.modCtx {ps : List Packet} (h : d.Sipped d' q ps) (f : Ctx → Ctx) : d.Sipped (d'.modCtx x f) q ps :=
  ⟨h.out, h.regs.trans (.of_regs rfl), h.others, h.err, h.packets⟩

/-- A read that is not valid moves nothing but the remembered epoch. -/
theorem Dev.notValid_spec (d : Dev) (n r : Nat) : (d.notValid n r).2.v = false ∧ (d.notValid n r).1.ctxs = d.ctxs ∧
    d.Sipped (d.notValid n r).1 n (d.q n).packets := by
  refine ⟨rfl, ?_⟩
  unfold Dev.notValid Dev.when
  dsimp only
  split
  · refine ⟨rfl, rfl, .of_regs rfl, fun j hj => ?_, ?_, ?_⟩
    · rw [Dev.q_setQ, if_neg hj]
    · rw [Dev.q_setQ_same]
    · rw [Dev.q_setQ_same]
  · exact ⟨rfl, rfl, .of_regs rfl, fun _ _ => rfl, rfl, rfl⟩

theorem Dev.pop_empty (hen : d.rd (F.Q_CFG_EN q) ≠ 0) (herr : (d.q q).err = false) (hq : (d.q q).packets = []) :
    (d.pop q).2.v = false ∧ (d.pop q).1.ctxs = d.ctxs ∧ d.Sipped (d.pop q).1 q [] := by
  have heq : d.pop q = d.notValid q (d.emptyReason q) := by
    unfold Dev.pop
    simp only [herr, hen, hq, decide_false, Bool.or_self, Bool.false_eq_true, if_false]
  rw [heq, ← hq]
  exact d.notValid_spec q _

/-- The packets of a queue whose first one has its next word popped. -/
theorem Queue.packets_take {z : Queue} (hq : z.packets = p :: qs) (hw : p.words = w :: ws) (out : Bool) :
    (z.take 0 1 out).packets = (if out then qs else { p with words := ws, begun := true } :: qs) ∧
      (z.take 0 1 out).err = z.err := by
  unfold Queue.take
  cases out <;> simp [hq, hw]

theorem Dev.pop_word (hen : d.rd (F.Q_CFG_EN q) ≠ 0) (herr : (d.q q).err = false) (hq : (d.q q).packets = p :: qs)
    (hp : p.arrival.isSome = true) (hw : p.words = w :: ws) :
    (d.pop q).2 = ⟨true, w.data, w.e, w.k⟩ ∧ (d.pop q).1.ctxs = d.ctxs ∧
      d.Sipped (d.pop q).1 q (if w.e then qs else { p with words := ws, begun := true } :: qs) := by
  have heq : d.pop q = (((d.setQ q { (d.q q).take 0 1 w.e with remembered := (d.q q).epoch }).recount q
      (d.q q).packets.length ((d.q q).take 0 1 w.e).packets.length).settle q, ⟨true, w.data, w.e, w.k⟩) := by
    unfold Dev.pop Dev.takeWord
    simp only [herr, hen, hq, hp, hw, decide_false, Bool.or_self, Bool.false_eq_true, if_false, if_true,
      List.getElem?_cons_zero]
  rw [heq]
  obtain ⟨hpackets, hkept⟩ := Queue.packets_take hq hw w.e
  generalize hf : d.setQ q { (d.q q).take 0 1 w.e with remembered := (d.q q).epoch } = f
  have hfq : f.q q = { (d.q q).take 0 1 w.e with remembered := (d.q q).epoch } := hf ▸ Dev.q_setQ_same _ q _
  have hfo : ∀ j, j ≠ q → f.q j = d.q j := fun j hj => hf ▸ (Dev.q_setQ d q j _).trans (if_neg hj)
  have hfd : f.ctxs = d.ctxs ∧ f.pool.out = d.pool.out ∧ d.RegsBut f (pushF q) := hf ▸ ⟨rfl, rfl, .of_regs rfl⟩
  obtain ⟨hs, hr, hqueues⟩ := f.recount_spec q (d.q q).packets.length ((d.q q).take 0 1 w.e).packets.length
  generalize f.recount q (d.q q).packets.length ((d.q q).take 0 1 w.e).packets.length = g at hs hr hqueues
  have hgq : ∀ j, g.q j = f.q j := fun j => congrArg (fun l => Sparse.get (fun _ => Queue.init) l j) hqueues
  have hset := g.shelved_settle q
  refine ⟨rfl, hset.ctxs.trans (hs.ctxs.trans hfd.1), hset.out.trans (hs.out.trans hfd.2.1),
    (hfd.2.2.trans hr).trans (g.regsBut_settle q), fun j hj => ?_, ?_, ?_⟩
  · exact (g.q_settle_other hj).trans ((hgq j).trans (hfo j hj))
  · rw [g.q_settle, hgq, hfq]
    exact hkept
  · rw [g.q_settle, hgq, hfq]
    exact hpackets

/-! ### By a context without a task -/

/-- A pop by context `x`: it keeps everything but the note of the packets it stands in. -/
structure Dev.SippedBy (d d' : Dev) (x q : Nat) (ps : List Packet) : Prop where
  queue : d.Sipped d' q ps
  own : ∃ l, d'.ctx x = { d.ctx x with popping := l }
  ctxs : ∀ y, y ≠ x → d'.ctx y = d.ctx y

theorem Dev.SippedBy.trans {d e e' : Dev} {ps qs : List Packet} (h : d.SippedBy e x q ps) (h' : e.SippedBy e' x q qs) :
    d.SippedBy e' x q qs := by
  obtain ⟨hq, ⟨l, hl⟩, hc⟩ := h
  obtain ⟨hq', ⟨l', hl'⟩, hc'⟩ := h'
  exact ⟨hq.trans hq', ⟨l', hl'.trans (by rw [hl])⟩, fun y hy => (hc' y hy).trans (hc y hy)⟩

theorem Ctx.notePop_eq (k : Ctx) (q : Nat) (r : Popped) : ∃ l, k.notePop q r = { k with popping := l } := by
  unfold Ctx.notePop
  split
  · exact ⟨_, rfl⟩
  · exact ⟨k.popping, rfl⟩

theorem Dev.ctxPop_eq (htask : (d.ctx x).task = none) :
    d.ctxPop x q = ((d.pop q).1.modCtx x fun k => k.notePop q (d.pop q).2, (d.pop q).2) := by
  unfold Dev.ctxPop Ctx.blockIn
  simp only [htask]

/-- A pop of the queue alone, noted by the context. -/
theorem Dev.Sipped.noted {ps : List Packet} (h : d.Sipped d' q ps) (hc : d'.ctxs = d.ctxs) (r : Popped) :
    d.SippedBy (d'.modCtx x fun k => k.notePop q r) x q ps := by
  have hctx : ∀ y, d'.ctx y = d.ctx y := fun y => congrArg (fun l => Sparse.get (fun _ => Ctx.init) l y) hc
  obtain ⟨l, hl⟩ := (d.ctx x).notePop_eq q r
  refine ⟨h.modCtx _, ⟨l, ?_⟩, fun y hy => ?_⟩
  · rw [Dev.modCtx, Dev.ctx_setCtx_same, hctx, hl]
  · rw [Dev.modCtx, Dev.ctx_setCtx, if_neg hy, hctx]

theorem Dev.ctxPop_empty (htask : (d.ctx x).task = none) (hen : d.rd (F.Q_CFG_EN q) ≠ 0) (herr : (d.q q).err = false)
    (hq : (d.q q).packets = []) : (d.ctxPop x q).2.v = false ∧ d.SippedBy (d.ctxPop x q).1 x q [] := by
  obtain ⟨hv, hc, hs⟩ := Dev.pop_empty hen herr hq
  rw [Dev.ctxPop_eq htask]
  exact ⟨hv, hs.noted hc _⟩

theorem Dev.ctxPop_word (htask : (d.ctx x).task = none) (hen : d.rd (F.Q_CFG_EN q) ≠ 0) (herr : (d.q q).err = false)
    (hq : (d.q q).packets = p :: qs) (hp : p.arrival.isSome = true) (hw : p.words = w :: ws) :
    (d.ctxPop x q).2 = ⟨true, w.data, w.e, w.k⟩ ∧
      d.SippedBy (d.ctxPop x q).1 x q (if w.e then qs else { p with words := ws, begun := true } :: qs) := by
  obtain ⟨hv, hc, hs⟩ := Dev.pop_word hen herr hq hp hw
  rw [Dev.ctxPop_eq htask]
  exact ⟨hv, hs.noted hc _⟩

/-! ### Words discarded -/

/-- What a context needs to pop from queue `q` at its own place. -/
structure Dev.Popping (d : Dev) (x q : Nat) : Prop where
  task : (d.ctx x).task = none
  en : d.rd (F.Q_CFG_EN q) ≠ 0
  err : (d.q q).err = false

theorem Dev.Popping.sipped (h : d.Popping x q) {ps : List Packet} (hs : d.SippedBy d' x q ps) : d'.Popping x q := by
  obtain ⟨l, hl⟩ := hs.own
  exact ⟨hl ▸ h.task, (hs.queue.regs _ (cfgEn_not_pushed q)).symm ▸ h.en, hs.queue.err.trans h.err⟩

/-- Words without an end mark: as many as are asked for leave the packet. -/
theorem mixDiscard_words : ∀ (n : Nat) {d : Dev} {p : Packet}, d.Popping x q → (d.q q).packets = p :: qs →
    p.arrival.isSome = true → n < p.words.length → (p.words.take (n + 1)).all (fun w => !w.e) = true →
    ∃ d', mixDiscard x q (n + 1) d = (d', false) ∧
      d.SippedBy d' x q ({ p with words := p.words.drop (n + 1), begun := true } :: qs) := by
  intro n
  induction n with
  | zero =>
    intro d p h hq hp hlen hall
    obtain ⟨w, ws, hw⟩ := List.exists_cons_of_length_pos hlen
    obtain ⟨hpop, hs⟩ := Dev.ctxPop_word h.task h.en h.err hq hp hw
    have he : w.e = false := by simpa [hw] using hall
    refine ⟨(d.ctxPop x q).1, ?_, ?_⟩
    · simp [mixDiscard, hpop, he]
    · rw [he] at hs
      simpa [hw] using hs
  | succ n ih =>
    intro d p h hq hp hlen hall
    obtain ⟨w, ws, hw⟩ := List.exists_cons_of_length_pos (l := p.words) (by omega)
    obtain ⟨hpop, hs⟩ := Dev.ctxPop_word h.task h.en h.err hq hp hw
    obtain ⟨he, hrest⟩ : w.e = false ∧ (ws.take (n + 1)).all (fun w => !w.e) = true := by
      rw [hw, List.take_succ_cons, List.all_cons, Bool.and_eq_true] at hall
      exact ⟨by simpa using hall.1, hall.2⟩
    rw [he] at hs
    obtain ⟨d', hd', hs'⟩ := ih (p := { p with words := ws, begun := true }) (h.sipped hs) hs.queue.packets hp
      (by rw [hw, List.length_cons] at hlen; exact Nat.lt_of_succ_lt_succ hlen) hrest
    refine ⟨d', ?_, ?_⟩
    · rw [mixDiscard]
      simp only [hpop, he, Bool.not_false, Bool.and_self, if_true]
      exact hd'
    · rw [hw]
      exact hs.trans hs'

/-- The words up to the end mark, where no more are asked for than 8: the packet is gone. -/
theorem mixDiscard_ends : ∀ (ws : List QWord) (n : Nat) {d : Dev} {p : Packet} {w : QWord}, d.Popping x q →
    (d.q q).packets = p :: qs → p.arrival.isSome = true → p.words = w :: ws → ws.length < n →
    (w :: ws).dropLast.all (fun w => !w.e) = true → (w :: ws).getLast?.any (fun w => w.e) = true →
    ∃ d', mixDiscard x q n d = (d', true) ∧ d.SippedBy d' x q qs := by
  intro ws
  induction ws with
  | nil =>
    intro n d p w h hq hp hw hn _ hlast
    obtain ⟨n, rfl⟩ := Nat.exists_eq_add_one_of_ne_zero (by omega : n ≠ 0)
    obtain ⟨hpop, hs⟩ := Dev.ctxPop_word h.task h.en h.err hq hp hw
    have he : w.e = true := by simpa using hlast
    rw [he] at hs
    refine ⟨(d.ctxPop x q).1, ?_, hs⟩
    simp [mixDiscard, hpop, he]
  | cons u ws ih =>
    intro n d p w h hq hp hw hn hall hlast
    obtain ⟨n, rfl⟩ := Nat.exists_eq_add_one_of_ne_zero (by omega : n ≠ 0)
    obtain ⟨hpop, hs⟩ := Dev.ctxPop_word h.task h.en h.err hq hp hw
    rw [List.dropLast_cons_cons, List.all_cons, Bool.and_eq_true] at hall
    have he : w.e = false := by simpa using hall.1
    rw [he] at hs
    obtain ⟨d', hd', hs'⟩ := ih n (p := { p with words := u :: ws, begun := true }) (h.sipped hs) hs.queue.packets hp rfl
      (by rw [List.length_cons] at hn; omega) hall.2 (by rwa [List.getLast?_cons_cons] at hlast)
    refine ⟨d', ?_, hs.trans hs'⟩
    rw [mixDiscard]
    simp only [hpop, he, Bool.not_false, Bool.and_self, if_true]
    exact hd'

end Sys2Proof.Machine
end

section
/-! SUPPORT. MIX's completion: the lanes, G[n] and what it leaves (R161, R162, R292). -/

namespace Sys2Proof.Machine

theorem Ctx.rdA_foldl_wrA_zero (b : BitVec 3) : ∀ (l : List Nat) (k : Ctx),
    (l.foldl (fun k j => k.wrA (BitVec.ofNat 3 j) 0) k).rdA b = if ∃ j ∈ l, b = BitVec.ofNat 3 j then 0 else k.rdA b
  | [], k => by simp
  | j :: l, k => by
    have hzero : fitsA 0 := by constructor <;> decide
    rw [List.foldl_cons, Ctx.rdA_foldl_wrA_zero b l _, Ctx.rdA_wrA _ _ _ hzero]
    by_cases hl : ∃ i ∈ l, b = BitVec.ofNat 3 i <;> by_cases hj : b = BitVec.ofNat 3 j <;> simp [hl, hj]

theorem Ctx.rdA_mixStart (k : Ctx) (i : Nat) (b : BitVec 3) : (k.mixStart i).rdA b = if i = 0 then 0 else k.rdA b := by
  unfold Ctx.mixStart
  split
  · rw [Ctx.rdA_foldl_wrA_zero, if_pos ⟨b.toNat, List.mem_range.mpr b.isLt, by simp⟩]
  · rfl

theorem Ctx.mixStart_eq (k : Ctx) (i : Nat) : k.mixStart i = { k with a := (k.mixStart i).a } := by
  unfold Ctx.mixStart
  split
  · exact foldl_keeps (fun c : Ctx => c = { k with a := c.a }) _ (fun _ j h => congrArg (·.wrA (BitVec.ofNat 3 j) 0) h) _ _ rfl
  · rfl

theorem Ctx.lanes_eq (k : Ctx) (vd : BitVec 4) (f : Nat → Nat × Nat) :
    k.lanes vd f = { k with v := (k.lanes vd f).v, fsr := (k.lanes vd f).fsr } := by
  unfold Ctx.lanes
  rw [Ctx.wrVs_eq]
  rfl

/-- What MIX's completion gives lane `j`, with its flag (R292). -/
def Ctx.mixLane (k : Ctx) (m cnt cl act j : Nat) : Nat × Nat :=
  if cl ≤ j ∨ cnt = 0 then (0, 0)
  else if m = 0 then roundQ31 (k.rdA (BitVec.ofNat 3 j)) 31
  else if act = 0 then (0, 0)
  else roundQ31 (k.rdA (BitVec.ofNat 3 j) * (reciprocal m act).1) (31 + (reciprocal m act).2)

/-- G[n] after MIX's completion. -/
def mixFinal (l : Bool) (cnt word cl act : Nat) : Nat :=
  cnt + (if l then 0 else (word + cl) % 32) * 2 ^ 16 + (cl - 1) * 2 ^ 21 + (if l then 0 else act % 128) * 2 ^ 24

theorem Ctx.mixEnd_eq (k : Ctx) (vd : BitVec 4) (gn : BitVec 5) (m : Nat) (l : Bool) (cnt word cl act : Nat) :
    k.mixEnd vd gn m l cnt word cl act =
      ((k.lanes vd (k.mixLane m cnt cl act)).wrGn gn (mixFinal l cnt word cl act)).next := rfl

theorem Ctx.rdV_lanes (k : Ctx) (vd : BitVec 4) (f : Nat → Nat × Nat) (j : Fin 8) :
    (k.lanes vd f).rdV vd j = BitVec.ofNat 32 (f j).1 := by
  unfold Ctx.lanes
  rw [Ctx.rdV_flag, k.rdV_wrVs vd vd _ j.isLt, if_pos rfl]

end Sys2Proof.Machine

namespace Sys2Proof.Claim

open Sys2Proof.Machine

theorem progress_mixStart (k : Ctx) (i : Nat) : Progress k (k.mixStart i) := by rw [Ctx.mixStart_eq]

theorem progress_lanes {k k1 : Ctx} (h : Progress k k1) (vd : BitVec 4) (f : Nat → Nat × Nat) :
    Progress k (k1.lanes vd f) := by rw [Ctx.lanes_eq]; exact h

theorem ofNat_roundQ31 (v : Int) (sh : Nat) : BitVec.ofNat 32 (roundQ31 v sh).1 = BitVec.ofInt 32 (clip 32 (rhe v sh)) :=
  satQ_value (rhe v sh)

/-- A sum of 0 gives the lane 0 at every scale. -/
theorem ofNat_roundQ31_zero (sh : Nat) : BitVec.ofNat 32 (roundQ31 0 sh).1 = 0 := by
  rw [ofNat_roundQ31, rhe_zero]; rfl

/-- MIX's completion leaves `lane j` in lane `j` of Vd, and no accumulator. -/
theorem mixEnd_spec (k : Ctx) (vd : BitVec 4) (gn : BitVec 5) (m : Nat) (l : Bool) (cnt i word cl act : Nat) (j : Fin 8) :
    ((k.mixStart i).mixEnd vd gn m l cnt word cl act).rdV vd j =
        BitVec.ofNat 32 ((k.mixStart i).mixLane m cnt cl act j).1 ∧
      ((k.mixStart i).mixEnd vd gn m l cnt word cl act).rdG gn =
        (if gn = 0 then 0 else BitVec.ofNat 32 (mixFinal l cnt word cl act)) ∧
      ((k.mixStart i).mixEnd vd gn m l cnt word cl act).pc = (k.pc + 4) % 2 ^ 32 ∧
      ((k.mixStart i).mixEnd vd gn m l cnt word cl act).p = k.p ∧
      Progress k ((k.mixStart i).mixEnd vd gn m l cnt word cl act) := by
  have hlanes := (k.mixStart i).lanes_eq vd ((k.mixStart i).mixLane m cnt cl act)
  have hstart := k.mixStart_eq i
  rw [Ctx.mixEnd_eq]
  refine ⟨?_, ?_, ?_, ?_, ?_⟩
  · rw [Ctx.rdV_next, Ctx.wrGn, Ctx.rdV_wrG, Ctx.rdV_lanes]
  · rw [Ctx.rdG_next, Ctx.wrGn, Ctx.rdG_wrG, if_pos rfl]
  · refine congrArg (fun n => (n + 4) % 2 ^ 32) ((Ctx.wrG_pc _ _ _).trans ?_)
    exact (congrArg Ctx.pc hlanes :).trans (congrArg Ctx.pc hstart :)
  · exact (Ctx.wrG_p _ _ _).trans ((congrArg Ctx.p hlanes :).trans (congrArg Ctx.p hstart :))
  · exact (progress_lanes (progress_mixStart k i) vd _).wrG gn _

variable {s : State} {x : Fin 64} {k : Ctx} {gn : BitVec 5} {pt : BitVec 3} {vd : BitVec 4} {m : Fin 3} {l : Bool}
  {cnt i word cl act : Nat} (h : Issues s x) (hk : s.chip.dev.ctx x = k) (hat : k.MixAt gn cnt i word cl act)
  (hi : min cnt 64 ≤ i) (j : Fin 8)
include h hk hat hi

theorem mix_completes (hone : m = 0 ∨ act = 0) :
    Runs (.mix x vd pt gn m l) s x fun k k' =>
      k'.rdV vd j = (if j < cl ∧ m = 0 ∧ i ≠ 0 ∧ cnt ≠ 0 then BitVec.ofInt 32 (clip 32 (rhe (k.rdA (BitVec.ofNat 3 j)) 31)) else 0) ∧
      k'.rdG gn = (if gn = 0 then 0 else BitVec.ofNat 32 (mixFinal l cnt word cl act)) ∧
      k'.pc = (k.pc + 4) % 2 ^ 32 ∧ k'.p = k.p ∧ Progress k k' := by
  refine .of_modCtx h rfl (Chip.mix_complete (h.fetch_ctx hk ▸ hat) hi) ?_
  rw [hk]
  obtain ⟨hlane, hg, hpc, hp, hrest⟩ := mixEnd_spec k vd gn m l cnt i word cl act j
  refine ⟨hlane.trans ?_, hg, hpc, hp, hrest⟩
  have hm : (m : Nat) = 0 ↔ m = 0 := Fin.val_eq_zero_iff
  unfold Ctx.mixLane
  rw [Ctx.rdA_mixStart]
  by_cases hout : cl ≤ (j : Nat) ∨ cnt = 0
  · rw [if_pos hout, if_neg (by omega)]
    rfl
  rw [if_neg hout]
  by_cases hm0 : m = 0
  · rw [if_pos (hm.mpr hm0)]
    by_cases hi0 : i = 0
    · rw [if_pos hi0, if_neg (fun hc => hc.2.2.1 hi0), ofNat_roundQ31_zero]
    · rw [if_neg hi0, if_pos ⟨by omega, hm0, hi0, by omega⟩, ofNat_roundQ31]
  · rw [if_neg (hm.not.mpr hm0), if_pos (hone.resolve_left hm0), if_neg (fun hc => hm0 hc.2.1)]
    rfl

theorem mix_completes_scaled (hm : m ≠ 0) (hact : act ≠ 0) :
    Runs (.mix x vd pt gn m l) s x fun k k' =>
      k'.rdV vd j = (if j < cl ∧ i ≠ 0 ∧ cnt ≠ 0 then BitVec.ofInt 32 (clip 32 (rhe (k.rdA (BitVec.ofNat 3 j) * (reciprocal m act).1)
        (31 + (reciprocal m act).2))) else 0) ∧ k'.pc = (k.pc + 4) % 2 ^ 32 ∧ Progress k k' := by
  refine .of_modCtx h rfl (Chip.mix_complete (h.fetch_ctx hk ▸ hat) hi) ?_
  rw [hk]
  obtain ⟨hlane, -, hpc, -, hrest⟩ := mixEnd_spec k vd gn m l cnt i word cl act j
  refine ⟨hlane.trans ?_, hpc, hrest⟩
  have hm0 : (m : Nat) ≠ 0 := fun he => hm (Fin.val_eq_zero_iff.mp he)
  unfold Ctx.mixLane
  rw [Ctx.rdA_mixStart]
  by_cases hout : cl ≤ (j : Nat) ∨ cnt = 0
  · rw [if_pos hout, if_neg (by omega)]
    rfl
  rw [if_neg hout, if_neg hm0, if_neg hact]
  by_cases hi0 : i = 0
  · rw [if_pos hi0, if_neg (fun hc => hc.2.1 hi0), zero_mul, ofNat_roundQ31_zero]
  · rw [if_neg hi0, if_pos ⟨by omega, hi0, by omega⟩, ofNat_roundQ31]

end Sys2Proof.Claim
end

section
/-! SUPPORT. What MIX takes of an input's block, and what a step on an input leaves (R290, R291). -/

namespace Sys2Proof.Machine

theorem Mem.load_lt (m : Mem) : ∀ n a, m.load a n < 256 ^ n
  | 0, _ => Nat.one_pos
  | n + 1, a => by
    have hrest := Mem.load_lt m n (a + 1)
    have hbyte := (m.byte a).isLt
    rw [Mem.load, pow_succ]
    nlinarith

theorem Chip.prepare_length {w : Who} {size : Nat} {k : Access} : ∀ {rs : List Ref} {c c1 : Chip} {ps : List Place},
    c.prepare w size k rs = (c1, .ok ps) → ps.length = rs.length
  | [], _, _, _, h => by
    cases h
    rfl
  | r :: rs, c, c1, ps, h => by
    rw [Chip.prepare] at h
    split at h
    · cases h
    · split at h
      · cases h
      · split at h
        · cases h
        · next hrest =>
          cases h
          exact congrArg (· + 1) (Chip.prepare_length hrest)

/-- The mute bit of an entry's word (R290). -/
theorem bitAt_mute {e : Nat} (he : e < 2 ^ 32) : bitAt e 31 = !decide (e / 2 ^ 31 = 0) := by
  have hlt : e / 2 ^ 31 < 2 := by omega
  unfold bitAt
  interval_cases e / 2 ^ 31 <;> rfl

theorem bit_mute {e : Nat} (he : e < 2 ^ 32) : bit (bitAt e 31) = e / 2 ^ 31 := by
  have hlt : e / 2 ^ 31 < 2 := by omega
  unfold bitAt
  interval_cases e / 2 ^ 31 <;> rfl

theorem mixMarks_lt {e : Nat} (he : e < 2 ^ 32) (a b : Bool) (hab : (a && b) = false) :
    mixMarks e a b = e % 2 ^ 29 + (bit a * 2 ^ 29 + bit b * 2 ^ 30) + e / 2 ^ 31 * 2 ^ 31 ∧ mixMarks e a b < 2 ^ 32 := by
  have hone : bit a + bit b ≤ 1 := by
    revert hab
    cases a <;> cases b <;> decide
  unfold mixMarks
  rw [bit_mute he]
  omega

/-- An input that is not mute counts as active where its gain is not 0. -/
theorem mixActive_iff {e : Nat} (he : e < 2 ^ 32) (gain : Int) :
    (!bitAt e 31 && gain != 0) = true ↔ e / 2 ^ 31 = 0 ∧ gain ≠ 0 := by
  rw [bitAt_mute he]
  simp

theorem mixActive_eq {e : Nat} (he : e < 2 ^ 32) (gain : Int) (act : Nat) :
    (if (!bitAt e 31 && gain != 0) = true then act + 1 else act) = act + if e / 2 ^ 31 = 0 ∧ gain ≠ 0 then 1 else 0 := by
  rw [if_congr (mixActive_iff he gain) rfl rfl]
  split <;> rfl

section
variable {c : Chip} {x : Nat} {e i : Nat} {gain : Int} {l : Bool} {p : Packet} {qs : List Packet} {w : QWord} {ws : List QWord}

/-- The device as MIX begins to take a block. -/
abbrev Chip.mixFrom (c : Chip) (x i : Nat) : Dev := c.dev.modCtx x (Ctx.mixStart i)

theorem Chip.mixFrom_ctx : (c.mixFrom x i).ctx x = (c.dev.ctx x).mixStart i := Dev.ctx_setCtx_same _ _ _

theorem Chip.mixFrom_popping (h : c.dev.Popping x (e % 4096)) : (c.mixFrom x i).Popping x (e % 4096) := by
  refine ⟨?_, h.en, h.err⟩
  rw [Chip.mixFrom_ctx, Ctx.mixStart_eq]
  exact h.task

/-- An input whose first read is not valid is marked inactive. -/
theorem Chip.mixTaken_empty {n : Nat} (h : c.dev.Popping x (e % 4096)) (hq : (c.dev.q (e % 4096)).packets = []) :
    c.mixTaken x l e gain (n + 1) i = ⟨((c.mixFrom x i).ctxPop x (e % 4096)).1, true, false, false⟩ ∧
      (c.mixFrom x i).SippedBy ((c.mixFrom x i).ctxPop x (e % 4096)).1 x (e % 4096) [] := by
  have hfrom : (c.mixFrom x i).Popping x (e % 4096) := Chip.mixFrom_popping h
  obtain ⟨hv, hs⟩ := Dev.ctxPop_empty hfrom.task hfrom.en hfrom.err hq
  refine ⟨?_, hs⟩
  unfold Chip.mixTaken
  rw [mixTake]
  simp [hv]

/-- The device after one word is taken into A[0]: an input that is mute or has gain 0 adds nothing. -/
def Chip.mixSummed (c : Chip) (x i e : Nat) (gain : Int) (w : QWord) : Dev :=
  if (!bitAt e 31 && gain != 0) = true then
    (((c.mixFrom x i).ctxPop x (e % 4096)).1).modCtx x fun k => k.accAdd 0 (gain * w.data.toInt)
  else ((c.mixFrom x i).ctxPop x (e % 4096)).1

/-- A block of one lane takes one word. -/
theorem Chip.mixTaken_word (h : c.dev.Popping x (e % 4096)) (hq : (c.dev.q (e % 4096)).packets = p :: qs)
    (hp : p.arrival.isSome = true) (hw : p.words = w :: ws) :
    c.mixTaken x true e gain 1 i = ⟨c.mixSummed x i e gain w, false, w.e, false⟩ ∧
      (c.mixFrom x i).SippedBy ((c.mixFrom x i).ctxPop x (e % 4096)).1 x (e % 4096)
        (if w.e then qs else { p with words := ws, begun := true } :: qs) := by
  have hfrom : (c.mixFrom x i).Popping x (e % 4096) := Chip.mixFrom_popping h
  obtain ⟨hpop, hs⟩ := Dev.ctxPop_word hfrom.task hfrom.en hfrom.err hq hp hw
  refine ⟨?_, hs⟩
  unfold Chip.mixTaken Chip.mixSummed
  rw [mixTake]
  cases he : w.e <;> simp [hpop, he, mixTake]

end

/-! ### The ends of a step -/

/-- The context after a step that leaves the input's packet, and after one that stays on it. -/
def Ctx.mixLeft (gn : BitVec 5) (g : Nat) (mixf : Bool) (k : Ctx) : Ctx :=
  ((if mixf then k.flag fMIXF else k).setMixing false).wrGn gn g
def Ctx.mixStayed (k : Ctx) : Ctx := (k.flag fMIXF).setMixing true

theorem Chip.mixNext_eq (c : Chip) (x : Nat) (d : Dev) {p : Place} (hp : p.entry = none) (v : Nat) (gn : BitVec 5) (g : Nat)
    (mixf : Bool) : c.mixNext x d [p] v gn g mixf = ⟨d.modCtx x (Ctx.mixLeft gn g mixf), c.mem.store p.key 4 v⟩ := by
  unfold Chip.mixNext
  rw [Chip.storeAll, Chip.storeAt_clean _ _ (fun e he => nomatch hp.symm.trans he)]
  rfl

theorem Chip.mixStays_eq (c : Chip) (x : Nat) (d : Dev) : c.mixStays x d = ⟨d.modCtx x Ctx.mixStayed, c.mem⟩ := rfl

theorem Ctx.mixLeft_spec (gn : BitVec 5) (g : Nat) (mixf : Bool) (k : Ctx) :
    (k.mixLeft gn g mixf).rdG gn = (if gn = 0 then 0 else BitVec.ofNat 32 g) ∧ (k.mixLeft gn g mixf).pc = k.pc ∧
      (k.mixLeft gn g mixf).mixing.contains k.pc = false ∧ (k.mixLeft gn g mixf).a = k.a ∧
      (k.mixLeft gn g mixf).fsr = if mixf then Nat.lor k.fsr 1024 else k.fsr := by
  unfold Ctx.mixLeft Ctx.wrGn
  refine ⟨?_, (Ctx.wrG_pc _ _ _).trans ?_, ?_, (Ctx.wrG_a _ _ _).trans ?_, (Ctx.wrG_fsr _ _ _).trans ?_⟩
  · rw [Ctx.rdG_wrG, if_pos rfl]
  · cases mixf <;> rfl
  · rw [Ctx.wrG_mixing]
    cases mixf <;> simp [Ctx.setMixing, Ctx.flag]
  · cases mixf <;> rfl
  · cases mixf <;> rfl

theorem Ctx.mixStayed_mixing (k : Ctx) : k.mixStayed.mixing.contains k.pc = true := by
  simp [Ctx.mixStayed, Ctx.setMixing, Ctx.flag]

end Sys2Proof.Machine
end

section
/-! SUPPORT. O53: a step of MIX on an input of a context without a task (R162, R201, R290, R291). -/

namespace Sys2Proof.Claim

open Sys2Proof.Machine

/-- A sum far from the ends of the range stays in it with one product more (R161). -/
theorem fitsA_sum_product {acc gain : Int} (hlo : -(2 ^ 70) ≤ acc) (hhi : acc < 2 ^ 70)
    (hg : -(2 ^ 31) ≤ gain ∧ gain < 2 ^ 31) (w : QWord) : fitsA (acc + gain * w.data.toInt) := by
  have hdata : |w.data.toInt| ≤ 2 ^ 31 := abs_le.mpr ⟨BitVec.le_toInt _, le_of_lt BitVec.toInt_lt⟩
  have hgain : |gain| ≤ 2 ^ 31 := abs_le.mpr ⟨hg.1, le_of_lt hg.2⟩
  have hprod : |gain * w.data.toInt| ≤ 2 ^ 31 * 2 ^ 31 := by
    rw [abs_mul]
    exact mul_le_mul hgain hdata (abs_nonneg _) (by decide)
  obtain ⟨hplo, hphi⟩ := abs_le.mp hprod
  constructor <;> omega

/-- What a step leaves that goes to the next input: G[n] holds `g`, the entry's word at `a` is `v`, and nothing else
changes in memory, in another context or in a queue other than `q`. -/
def MixWent (k : Ctx) (x : Fin 64) (gn : BitVec 5) (c c' : Chip) (g a v q : Nat) : Prop :=
  (c'.dev.ctx x).rdG gn = (if gn = 0 then 0 else BitVec.ofNat 32 g) ∧ (c'.dev.ctx x).pc = k.pc ∧ bytesAt c'.mem a 4 = v ∧
    BytesBut c.mem c'.mem a 4 ∧ CtxsBut c.dev c'.dev x ∧ QueuesBut c.dev c'.dev q

/-- The device after MIX's pops of queue `q`, with the packets `ps` left: of the context only A, AOV and the note of its
packets may differ. -/
structure MixKept (k : Ctx) (x : Fin 64) (q : Nat) (c : Chip) (d : Dev) (ps : List Packet) : Prop where
  own : ∃ l, d.ctx x = { k with a := (d.ctx x).a, aov := (d.ctx x).aov, popping := l }
  ctxs : CtxsBut c.dev d x
  queues : QueuesBut c.dev d q
  packets : (d.q q).packets = ps
  out : d.pool.out = []

section
variable {s : State} {x : Fin 64} {k : Ctx} {gn : BitVec 5} {c : Chip} {d : Dev} {q : Nat} {qs : List Packet} {i : Instr}
  {F : Chip → Chip}

/-- A step that stays on its packet. -/
theorem MixKept.stays (hd : MixKept k x q c d qs) (h : Issues s x) (he : exec i s = s.run fun c => c.issue x F)
    (hF : F (s.chip.fetch x).1 = c.mixStays x d) :
    Turns i s fun _ c' => (c'.dev.ctx x).rdG gn = k.rdG gn ∧ (c'.dev.ctx x).pc = k.pc ∧
      (c'.dev.ctx x).mixing.contains k.pc = true ∧ (c'.dev.q q).packets = qs ∧ c'.mem = c.mem ∧
      (c'.dev.ctx x).a = (d.ctx x).a ∧ (c'.dev.ctx x).fsr = Nat.lor k.fsr 1024 ∧ CtxsBut c.dev c'.dev x ∧
      QueuesBut c.dev c'.dev q := by
  obtain ⟨⟨l, hown⟩, hctxs, hqueues, hpackets, hout⟩ := hd
  rw [Chip.mixStays_eq] at hF
  have hx : (d.modCtx x Ctx.mixStayed).ctx x = (d.ctx x).mixStayed := Dev.ctx_setCtx_same _ _ _
  refine ⟨⟨d.modCtx x Ctx.mixStayed, c.mem⟩, hF ▸ h.exec_quiet he (hF ▸ hout), ?_, ?_, ?_, hpackets, rfl, ?_, ?_,
    fun y hy => ((Dev.ctx_setCtx _ _ _ _).trans (if_neg hy)).trans (hctxs y hy), hqueues⟩
  · rw [hx, hown]; rfl
  · rw [hx, hown]; rfl
  · rw [hx, hown]; exact Ctx.mixStayed_mixing _
  · rw [hx]; rfl
  · rw [hx, hown]; rfl

/-- A step that goes to the next input. -/
theorem MixKept.leaves (hd : MixKept k x q c d qs) (h : Issues s x) (he : exec i s = s.run fun c => c.issue x F) {p : Place}
    (hp : p.entry = none) {v g : Nat} (hv : v < 2 ^ 32) {mixf : Bool}
    (hF : F (s.chip.fetch x).1 = c.mixNext x d [p] v gn g mixf) :
    Turns i s fun _ c' => MixWent k x gn c c' g p.key v q ∧ (c'.dev.q q).packets = qs ∧
      (c'.dev.ctx x).mixing.contains k.pc = false ∧ (c'.dev.ctx x).a = (d.ctx x).a ∧
      (c'.dev.ctx x).fsr = if mixf then Nat.lor k.fsr 1024 else k.fsr := by
  obtain ⟨⟨l, hown⟩, hctxs, hqueues, hpackets, hout⟩ := hd
  rw [Chip.mixNext_eq _ _ _ hp] at hF
  have hx : (d.modCtx x (Ctx.mixLeft gn g mixf)).ctx x = (d.ctx x).mixLeft gn g mixf := Dev.ctx_setCtx_same _ _ _
  obtain ⟨hg, hpc, hmixing, ha, hfsr⟩ := (d.ctx x).mixLeft_spec gn g mixf
  have hkpc : (d.ctx x).pc = k.pc := (congrArg Ctx.pc hown :)
  have hkfsr : (d.ctx x).fsr = k.fsr := (congrArg Ctx.fsr hown :)
  rw [hkpc] at hpc hmixing
  rw [hkfsr] at hfsr
  refine ⟨⟨d.modCtx x (Ctx.mixLeft gn g mixf), c.mem.store p.key 4 v⟩, hF ▸ h.exec_quiet he (hF ▸ hout),
    ⟨hx ▸ hg, hx ▸ hpc, ?_, ⟨fun b hb => Mem.byte_store_other 4 p.key v c.mem hb, Mem.flash_store _ _ _ _⟩,
      fun y hy => ((Dev.ctx_setCtx _ _ _ _).trans (if_neg hy)).trans (hctxs y hy), hqueues⟩,
    hpackets, hx ▸ hmixing, hx ▸ ha, hx ▸ hfsr⟩
  rw [bytesAt_eq_load, Mem.load_store]
  exact Nat.mod_eq_of_lt hv

/-- An addition to an accumulator keeps what pops keep. -/
theorem MixKept.modAcc (hd : MixKept k x q c d qs) {f : Ctx → Ctx} (hx : (d.modCtx x f).ctx x = f (d.ctx x))
    (hf : { f (d.ctx x) with a := (d.ctx x).a, aov := (d.ctx x).aov } = d.ctx x) : MixKept k x q c (d.modCtx x f) qs := by
  obtain ⟨⟨l, hown⟩, hctxs, hqueues, hpackets, hout⟩ := hd
  refine ⟨⟨l, ?_⟩, fun y hy => ((Dev.ctx_setCtx _ _ _ _).trans (if_neg hy)).trans (hctxs y hy), hqueues, hpackets, hout⟩
  rw [hx]
  generalize d.ctx x = k1 at hown hf
  generalize f k1 = k2 at hf ⊢
  have hsum : k2 = { k1 with a := k2.a, aov := k2.aov } := by rw [← hf]
  exact hsum.trans (by rw [hown])

/-- Pops from a device whose context differs in A alone. -/
theorem MixKept.of_sipped {d0 : Dev} (hs : d0.SippedBy d x q qs) (hctx : ∃ a, d0.ctx x = { k with a := a })
    (hothers : CtxsBut c.dev d0 x) (hq : ∀ j, d0.q j = c.dev.q j) (hout : d0.pool.out = []) :
    MixKept k x q c d qs ∧ (d.ctx x).a = (d0.ctx x).a := by
  obtain ⟨a, ha⟩ := hctx
  obtain ⟨l, hl⟩ := hs.own
  rw [ha] at hl
  refine ⟨⟨⟨l, ?_⟩, fun y hy => (hs.ctxs y hy).trans (hothers y hy), fun j hj => (hs.queue.others j hj).trans (hq j),
    hs.queue.packets, hs.queue.out.trans hout⟩, ?_⟩
  · rw [hl]
  · rw [hl, ha]

end

section
variable {s : State} {x : Fin 64} {k : Ctx} {gn : BitVec 5} {pt : BitVec 3} {vd : BitVec 4} {m : Fin 3} {l : Bool}
  {cnt i cl act e : Nat} {gain : Int} {c1 c2 : Chip} {ps : List Place} {p0 : Place} {p : Packet} {qs : List Packet}
  {w : QWord} {ws : List QWord} (h : Issues s x) (hk : s.chip.dev.ctx x = k)
  (ho : (s.chip.fetch x).1.MixOpens x pt gn cnt i cl act c1 c2 ps [p0] e gain) (hclean : p0.entry = none)
  (he : e < 2 ^ 32) (hpop : c2.dev.Popping x (e % 4096))
include ho

theorem mixOpens_accessed : (s.chip.fetch x).1.Accessed c2 :=
  (Chip.Accessed.of_prepare ho.loads).trans (Chip.Accessed.of_prepare ho.stores)

include h

theorem mixOpens_out : c2.dev.pool.out = [] := (congrArg Pool.out (mixOpens_accessed ho).pool).trans h.out_nil

include hk

theorem mixOpens_ctx : c2.dev.ctx x = k := ((mixOpens_accessed ho).ctx x).trans (h.fetch_ctx hk)

/-- The first pops of a block. -/
theorem mixKept_from {d : Dev} (hs : (c2.mixFrom x i).SippedBy d x (e % 4096) qs) :
    MixKept k x (e % 4096) c2 d qs ∧ ∀ b, (d.ctx x).rdA b = if i = 0 then 0 else k.rdA b := by
  have hfrom : (c2.mixFrom x i).ctx x = k.mixStart i := Chip.mixFrom_ctx.trans (by rw [mixOpens_ctx h hk ho])
  obtain ⟨hkept, ha⟩ := MixKept.of_sipped (k := k) (c := c2) hs ⟨_, hfrom.trans (k.mixStart_eq i)⟩
    (fun y hy => (Dev.ctx_setCtx _ _ _ _).trans (if_neg hy)) (fun _ => rfl) (mixOpens_out h ho)
  refine ⟨hkept, fun b => ?_⟩
  rw [← k.rdA_mixStart i b, ← hfrom]
  unfold Ctx.rdA
  rw [ha]

/-- The pops of words that are discarded. -/
theorem mixKept_discard {d : Dev} (hs : c2.dev.SippedBy d x (e % 4096) qs) :
    MixKept k x (e % 4096) c2 d qs ∧ (d.ctx x).a = k.a := by
  have hctx := mixOpens_ctx h hk ho
  obtain ⟨hkept, ha⟩ := MixKept.of_sipped (k := k) (c := c2) hs ⟨k.a, hctx⟩ (fun _ _ => rfl) (fun _ => rfl) (mixOpens_out h ho)
  exact ⟨hkept, ha.trans (congrArg Ctx.a hctx)⟩

include hpop

/-- One word taken and summed. -/
theorem mixKept_summed (he : e < 2 ^ 32) (hg : -(2 ^ 31) ≤ gain ∧ gain < 2 ^ 31) (hq : (c2.dev.q (e % 4096)).packets = p :: qs)
    (hp : p.arrival.isSome = true) (hw : p.words = w :: ws) (hlo : -(2 ^ 70) ≤ if i = 0 then 0 else k.rdA 0)
    (hhi : (if i = 0 then 0 else k.rdA 0) < 2 ^ 70) :
    MixKept k x (e % 4096) c2 (c2.mixSummed x i e gain w) (if w.e then qs else { p with words := ws, begun := true } :: qs) ∧
      ((c2.mixSummed x i e gain w).ctx x).rdA 0 =
        (if i = 0 then 0 else k.rdA 0) + if e / 2 ^ 31 = 0 then gain * w.data.toInt else 0 := by
  obtain ⟨-, hs⟩ := Chip.mixTaken_word (gain := gain) (i := i) hpop hq hp hw
  obtain ⟨hkept, hacc⟩ := mixKept_from h hk ho hs
  have hmute := mixActive_iff he gain
  unfold Chip.mixSummed
  generalize ((c2.mixFrom x i).ctxPop x (e % 4096)).1 = d at hkept hacc
  by_cases hon : e / 2 ^ 31 = 0 ∧ gain ≠ 0
  · rw [if_pos (hmute.mpr hon), if_pos hon.1]
    have hfits := fitsA_sum_product hlo hhi hg w
    rw [← hacc 0] at hfits ⊢
    obtain ⟨hsum, -, -, hframe⟩ := (AccHolds.refl (d.ctx x) 0).accAdd (gain * w.data.toInt)
    have hx : (d.modCtx x fun k => k.accAdd 0 (gain * w.data.toInt)).ctx x = (d.ctx x).accAdd 0 (gain * w.data.toInt) :=
      Dev.ctx_setCtx_same _ _ _
    exact ⟨hkept.modAcc hx hframe, (congrArg (Ctx.rdA · 0) hx).trans (hsum.trans (clip_of_fits hfits))⟩
  · rw [if_neg (hmute.not.mpr hon)]
    have hnone : (if e / 2 ^ 31 = 0 then gain * w.data.toInt else 0) = 0 := by
      split
      · next hz => rw [by_contra fun hne => hon ⟨hz, hne⟩, zero_mul]
      · rfl
    rw [hnone, add_zero]
    exact ⟨hkept, hacc 0⟩

end

end Sys2Proof.Claim
end

section
/-! SUPPORT. O53: the steps of MIX on one input, by what the input holds (R290, R291). -/

namespace Sys2Proof.Claim

open Sys2Proof.Machine

variable {s : State} {x : Fin 64} {k : Ctx} {gn : BitVec 5} {pt : BitVec 3} {vd : BitVec 4} {m : Fin 3} {l : Bool}
  {cnt i cl act e : Nat} {gain : Int} {c1 c2 : Chip} {ps : List Place} {p0 : Place} {p : Packet} {qs : List Packet}
  {w : QWord} {ws : List QWord} (h : Issues s x) (hk : s.chip.dev.ctx x = k)
  (ho : (s.chip.fetch x).1.MixOpens x pt gn cnt i cl act c1 c2 ps [p0] e gain) (hpop : c2.dev.Popping x (e % 4096))
include h hk ho hpop

/-- Where G[n] and the entry's word stand after the input is left with these marks. -/
abbrev MixMarked (k : Ctx) (x : Fin 64) (gn : BitVec 5) (c c' : Chip) (cnt i cl act a e mark : Nat) : Prop :=
  MixWent k x gn c c' (mixCount cnt i cl act) a (e % 2 ^ 29 + mark + e / 2 ^ 31 * 2 ^ 31) (e % 4096)

section
variable (hclean : p0.entry = none) (he : e < 2 ^ 32)
include hclean he

/-- An input without a word in view. -/
theorem mix_inactive (hfirst : k.mixing.contains k.pc = false) (hq : (c2.dev.q (e % 4096)).packets = []) :
    Turns (.mix x vd pt gn m l) s fun _ c' => MixMarked k x gn c2 c' cnt i cl act p0.key e (2 ^ 30) ∧
      (c'.dev.ctx x).rdA 0 = (if i = 0 then 0 else k.rdA 0) ∧ (c'.dev.ctx x).fsr = k.fsr := by
  have hc := h.fetch_ctx hk
  obtain ⟨n, rfl⟩ : ∃ n, cl = n + 1 := ⟨_, (ho.at_).lanes.symm⟩
  obtain ⟨htaken, hs⟩ := Chip.mixTaken_empty (l := l) (gain := gain) (i := i) (n := n) hpop hq
  obtain ⟨hkept, hacc⟩ := mixKept_from h hk ho hs
  obtain ⟨hword, hsmall⟩ := mixMarks_lt he false true rfl
  obtain ⟨c', hexec, hwent, -, -, ha, hfsr⟩ := hkept.leaves (gn := gn) h (exec_mix s x vd pt gn m l) hclean hsmall
    (ho.takes (vd := vd) (m := m) (hc ▸ hfirst) htaken (by simp))
  refine ⟨c', hexec, ?_, ?_, hfsr⟩
  · rw [hword] at hwent
    exact hwent
  · rw [← hacc 0]
    unfold Ctx.rdA
    rw [ha]

/-- The step that discards the packet's last words. -/
theorem mix_discarded (hagain : k.mixing.contains k.pc = true) (hq : (c2.dev.q (e % 4096)).packets = p :: qs)
    (hp : p.arrival.isSome = true) (hw : p.words = w :: ws) (hlen : ws.length ≤ 7)
    (hall : (w :: ws).dropLast.all (fun w => !w.e) = true) (hlast : (w :: ws).getLast?.any (fun w => w.e) = true) :
    Turns (.mix x vd pt gn m l) s fun _ c' =>
      MixMarked k x gn c2 c' cnt i cl (act + if e / 2 ^ 31 = 0 ∧ gain ≠ 0 then 1 else 0) p0.key e 0 ∧
      (c'.dev.q (e % 4096)).packets = qs ∧ (c'.dev.ctx x).mixing.contains k.pc = false ∧ (c'.dev.ctx x).a = k.a ∧
      (c'.dev.ctx x).fsr = Nat.lor k.fsr 1024 := by
  have hc := h.fetch_ctx hk
  obtain ⟨d, hd, hs⟩ := mixDiscard_ends ws 8 hpop hq hp hw (by omega) hall hlast
  obtain ⟨hkept, hka⟩ := mixKept_discard h hk ho hs
  obtain ⟨hword, hsmall⟩ := mixMarks_lt he false false rfl
  obtain ⟨c', hexec, hwent, hpackets, hmixing, ha, hfsr⟩ := hkept.leaves (gn := gn) h (exec_mix s x vd pt gn m l) hclean hsmall
    (ho.discarded (vd := vd) (m := m) (l := l) (hc ▸ hagain) hd)
  refine ⟨c', hexec, ?_, hpackets, hmixing, ha.trans hka, hfsr⟩
  rw [hword, mixActive_eq he] at hwent
  exact hwent

/-- A packet of one word. -/
theorem mix_ends (ho1 : cl = 1) (hg : -(2 ^ 31) ≤ gain ∧ gain < 2 ^ 31) (hfirst : k.mixing.contains k.pc = false)
    (hq : (c2.dev.q (e % 4096)).packets = p :: qs) (hp : p.arrival.isSome = true) (hw : p.words = [w]) (hend : w.e = true)
    (hlo : -(2 ^ 70) ≤ if i = 0 then 0 else k.rdA 0) (hhi : (if i = 0 then 0 else k.rdA 0) < 2 ^ 70) :
    Turns (.mix x vd pt gn m true) s fun _ c' =>
      MixMarked k x gn c2 c' cnt i cl (act + if e / 2 ^ 31 = 0 ∧ gain ≠ 0 then 1 else 0) p0.key e (2 ^ 29) ∧
      (c'.dev.q (e % 4096)).packets = qs ∧
      (c'.dev.ctx x).rdA 0 = (if i = 0 then 0 else k.rdA 0) + (if e / 2 ^ 31 = 0 then gain * w.data.toInt else 0) ∧
      (c'.dev.ctx x).fsr = k.fsr := by
  have hc := h.fetch_ctx hk
  subst ho1
  obtain ⟨htaken, -⟩ := Chip.mixTaken_word (gain := gain) (i := i) hpop hq hp hw
  obtain ⟨hkept, hacc⟩ := mixKept_summed h hk ho hpop he hg hq hp hw hlo hhi
  rw [hend] at htaken hkept
  obtain ⟨hword, hsmall⟩ := mixMarks_lt he true false rfl
  obtain ⟨c', hexec, hwent, hpackets, -, ha, hfsr⟩ := hkept.leaves (gn := gn) h (exec_mix s x vd pt gn m true) hclean hsmall
    (ho.takes (vd := vd) (m := m) (hc ▸ hfirst) htaken (by simp))
  refine ⟨c', hexec, ?_, hpackets, ?_, hfsr⟩
  · rw [hword, Bool.not_false, Bool.true_and, mixActive_eq he] at hwent
    exact hwent
  · rw [← hacc]
    unfold Ctx.rdA
    rw [ha]

end

/-- The step that takes a block of one word of a packet that goes on. -/
theorem mix_goes_on (he : e < 2 ^ 32) (ho1 : cl = 1) (hg : -(2 ^ 31) ≤ gain ∧ gain < 2 ^ 31)
    (hfirst : k.mixing.contains k.pc = false) (hq : (c2.dev.q (e % 4096)).packets = p :: qs)
    (hp : p.arrival.isSome = true) (hw : p.words = w :: ws) (hend : w.e = false)
    (hlo : -(2 ^ 70) ≤ if i = 0 then 0 else k.rdA 0) (hhi : (if i = 0 then 0 else k.rdA 0) < 2 ^ 70) :
    Turns (.mix x vd pt gn m true) s fun _ c' =>
      (c'.dev.ctx x).rdG gn = k.rdG gn ∧ (c'.dev.ctx x).pc = k.pc ∧ (c'.dev.ctx x).mixing.contains k.pc = true ∧
      (c'.dev.q (e % 4096)).packets = { p with words := ws, begun := true } :: qs ∧ c'.mem = c2.mem ∧
      (c'.dev.ctx x).rdA 0 = (if i = 0 then 0 else k.rdA 0) + (if e / 2 ^ 31 = 0 then gain * w.data.toInt else 0) ∧
      (c'.dev.ctx x).fsr = Nat.lor k.fsr 1024 ∧ CtxsBut c2.dev c'.dev x ∧ QueuesBut c2.dev c'.dev (e % 4096) := by
  have hc := h.fetch_ctx hk
  subst ho1
  obtain ⟨htaken, -⟩ := Chip.mixTaken_word (gain := gain) (i := i) hpop hq hp hw
  obtain ⟨hkept, hacc⟩ := mixKept_summed h hk ho hpop he hg hq hp hw hlo hhi
  rw [hend] at htaken hkept
  obtain ⟨c', hexec, hcount, hpc, hmixing, hpackets, hmem, ha, hfsr, hctxs, hqueues⟩ := hkept.stays (gn := gn) h (exec_mix s x vd pt gn m true)
    (ho.goes_on (vd := vd) (m := m) (hc ▸ hfirst) htaken (by simp))
  refine ⟨c', hexec, hcount, hpc, hmixing, hpackets, hmem, ?_, hfsr, hctxs, hqueues⟩
  rw [← hacc]
  unfold Ctx.rdA
  rw [ha]

/-- A step that discards 8 words of a packet that still goes on. -/
theorem mix_discards (hagain : k.mixing.contains k.pc = true) (hq : (c2.dev.q (e % 4096)).packets = p :: qs)
    (hp : p.arrival.isSome = true) (hw : p.words = w :: ws) (hlen : 7 < ws.length)
    (hall : (w :: ws.take 7).all (fun w => !w.e) = true) :
    Turns (.mix x vd pt gn m l) s fun _ c' =>
      (c'.dev.ctx x).rdG gn = k.rdG gn ∧ (c'.dev.ctx x).pc = k.pc ∧ (c'.dev.ctx x).mixing.contains k.pc = true ∧
      (c'.dev.q (e % 4096)).packets = { p with words := ws.drop 7, begun := true } :: qs ∧ c'.mem = c2.mem ∧
      (c'.dev.ctx x).a = k.a ∧ (c'.dev.ctx x).fsr = Nat.lor k.fsr 1024 ∧ CtxsBut c2.dev c'.dev x ∧
      QueuesBut c2.dev c'.dev (e % 4096) := by
  have hc := h.fetch_ctx hk
  obtain ⟨d, hd, hs⟩ := mixDiscard_words 7 hpop hq hp (by rw [hw, List.length_cons]; omega) (by rw [hw]; exact hall)
  obtain ⟨hkept, hka⟩ := mixKept_discard h hk ho hs
  rw [hw] at hkept
  obtain ⟨c', hexec, hcount, hpc, hmixing, hpackets, hmem, ha, hrest⟩ := hkept.stays (gn := gn) h (exec_mix s x vd pt gn m l)
    (ho.discards (vd := vd) (m := m) (l := l) (hc ▸ hagain) hd)
  exact ⟨c', hexec, hcount, hpc, hmixing, hpackets, hmem, ha.trans hka, hrest⟩

end Sys2Proof.Claim
end

section
/-! SUPPORT. O53: MIX, delay lines and CSF blocks, one step, put together. -/

namespace Sys2Proof.Claim

open Sys2Proof.Machine

theorem mixAt_of (k : Ctx) (gn : BitVec 5) : k.MixAt gn ((k.rdG gn).toNat % 128) ((k.rdG gn).toNat / 256 % 128)
    ((k.rdG gn).toNat / 2 ^ 16 % 32) ((k.rdG gn).toNat / 2 ^ 21 % 8 + 1)
    (if (k.rdG gn).toNat / 256 % 128 = 0 ∧ (k.rdG gn).toNat / 2 ^ 16 % 32 = 0 then 0 else (k.rdG gn).toNat / 2 ^ 24 % 128) := by
  constructor <;> norm_num [bitsAt]

theorem mixCount_eq {cnt i word cl act : Nat} (h : word = 0) :
    mixCount cnt i cl act = cnt + (i + 1) * 256 + word * 2 ^ 16 + (cl - 1) * 2 ^ 21 + act % 128 * 2 ^ 24 := by
  rw [h]; rfl

theorem mixFinal_eq (l : Bool) (cnt word cl act : Nat) : mixFinal l cnt word cl act =
    cnt + (if l = true then 0 else (word + cl) % 32 * 2 ^ 16 + act % 128 * 2 ^ 24) + (cl - 1) * 2 ^ 21 := by
  unfold mixFinal
  cases l
  · simp only [Bool.false_eq_true, if_false]
    omega
  · simp only [if_true]
    omega

/-- A range read as integers. -/
theorem range_as_int (n : Nat) : (do let a ← List.range n; pure (a : Int) : List Int) = (List.range n).map Nat.cast :=
  List.flatMap_pure_eq_map _ _

theorem q31At_bounds (v : Nat) : -(2 ^ 31) ≤ q31At v ∧ q31At v < 2 ^ 31 := by
  unfold q31At
  split <;> omega

variable {s : State} {x : Fin 64} {k : Ctx} {gn : BitVec 5} {pt : BitVec 3} {cnt i word cl act : Nat} {c1 c2 : Chip}
  {ps ps2 : List Place} (h : Issues s x) (hk : s.chip.dev.ctx x = k) (hat : k.MixAt gn cnt i word cl act)
include h hk hat

/-- The hypotheses of the statement's clauses about an input are those of a step on it. -/
theorem mixOpens_of (hbefore : i + 1 < min cnt 64) (hfirst : word = 0)
    (hl : ReachesAll (s.chip.fetch x).1 x 4 .load [k.ref pt ((8 * i : Nat) : Int) 4, k.ref pt ((8 * i + 4 : Nat) : Int) 4] c1 ps)
    (hs : ReachesAll c1 x 4 .store [k.ref pt ((8 * i : Nat) : Int) 4] c2 ps2) :
    (s.chip.fetch x).1.MixOpens x pt gn cnt i cl act c1 c2 ps [ps2.getD 0 ⟨0, none⟩]
      (bytesAt c1.mem (ps.getD 0 ⟨0, none⟩).key 4) (q31At (bytesAt c1.mem (ps.getD 1 ⟨0, none⟩).key 4)) := by
  have hc := h.fetch_ctx hk
  subst hfirst
  obtain ⟨a, b, rfl⟩ := List.length_eq_two.mp (Chip.prepare_length hl)
  obtain ⟨p0, rfl⟩ := List.length_eq_one_iff.mp (Chip.prepare_length hs)
  refine ⟨hc ▸ hat, hbefore, hc.symm ▸ hl, hc.symm ▸ hs, ?_, ?_⟩
  · rw [bytesAt_eq_load]
    rfl
  · rw [bytesAt_eq_load, ← q31_eq_q31At]
    rfl

end Sys2Proof.Claim

namespace Sys2Proof.Claim

open Sys2Proof.Machine

/-- Settles O53: every step of MIX, of a delay line and of a CSF block comes to a change of the context, the pops of one
queue, a list of stores or the context's fault. -/
theorem movers : Obligations.Movers := by
  intro s x pt pb o gn gd l f vd m c1 c2 ps ps2 w ws p qs j h
  unfold MoversAt
  extract_lets k0 c g total done past ends read base len pos bad badC even evenC n line slot words back six away size
    bytes six6 cnt i word cl act e gain q z entry opened acc again fits24 went
  have hk : s.chip.dev.ctx x = k0 := rfl
  have hat := mixAt_of k0 gn
  have he : e < 2 ^ 32 := (bytesAt_eq_load _ 4 _).trans_lt (Mem.load_lt _ 4 _)
  have hgain : -(2 ^ 31) ≤ gain ∧ gain < 2 ^ 31 := q31At_bounds _
  have hopen : opened → (s.chip.fetch x).1.MixOpens x pt gn cnt i cl act c1 c2 ps [ps2.getD 0 ⟨0, none⟩] e gain ∧
      c2.dev.Popping x q ∧ (ps2.getD 0 ⟨0, none⟩).entry = none ∧ c2.dev.q q = z ∧ word = 0 := by
    rintro ⟨-, hl, hs, htask, hbefore, hword, hen, herr, hclean, hdev⟩
    have ho := mixOpens_of h hk hat hbefore hword hl hs
    have hctx := mixOpens_ctx h hk ho
    refine ⟨ho, ⟨hctx ▸ htask, hdev ▸ hen, hdev ▸ herr⟩, ?_, hdev ▸ rfl, hword⟩
    obtain ⟨p0, rfl⟩ := List.length_eq_one_iff.mp (Chip.prepare_length hs)
    simpa using hclean
  have hwent : ∀ {c' : Chip} {a mark : Nat}, word = 0 →
      MixMarked k0 x gn c2 c' cnt i cl a (ps2.getD 0 ⟨0, none⟩).key e mark → went c' a mark := by
    intro c' a mark hword hm
    unfold MixMarked at hm
    rw [mixCount_eq hword] at hm
    exact hm
  refine ⟨fun hi hone => ?_, fun hi hm hact => mix_completes_scaled h hk hat hi j hm hact, fun hop hfirst hq => ?_,
    fun hop hfirst hq hp hw hend hone hlo hhi => ?_, fun hop hagain hq hp hw hlen hall => ?_,
    fun hop hagain hq hp hw hlen hall hlast => ?_, fun hop hfirst hq hw hend hp hone hl hlo hhi => ?_, ?_⟩
  · have hstep := mix_completes (vd := vd) (pt := pt) (l := l) h hk hat hi j hone
    rw [mixFinal_eq] at hstep
    exact hstep
  · obtain ⟨ho, hpop, hclean, hz, hword⟩ := hopen hop
    obtain ⟨c', hexec, hmarked, hrest⟩ := mix_inactive (vd := vd) (m := m) (l := l) h hk ho hpop hclean he
      (Bool.eq_false_of_not_eq_true hfirst) (hz ▸ hq)
    exact ⟨c', hexec, hwent hword hmarked, hrest⟩
  · obtain ⟨ho, hpop, hclean, hz, hword⟩ := hopen hop
    exact mix_goes_on h hk ho hpop he hone hgain (Bool.eq_false_of_not_eq_true hfirst) (hz ▸ hq) hp hw hend hlo hhi
  · obtain ⟨ho, hpop, hclean, hz, hword⟩ := hopen hop
    exact mix_discards h hk ho hpop hagain (hz ▸ hq) hp hw hlen hall
  · obtain ⟨ho, hpop, hclean, hz, hword⟩ := hopen hop
    obtain ⟨c', hexec, hmarked, hrest⟩ := mix_discarded (vd := vd) (m := m) (l := true) h hk ho hpop hclean he hagain
      (hz ▸ hq) hp hw hlen hall hlast
    exact ⟨c', hexec, hwent hword hmarked, hrest⟩
  · obtain ⟨ho, hpop, hclean, hz, hword⟩ := hopen hop
    subst hl
    obtain ⟨c', hexec, hmarked, hrest⟩ := mix_ends (vd := vd) (m := m) h hk ho hpop hclean he hone hgain
      (Bool.eq_false_of_not_eq_true hfirst) (hz ▸ hq) hp hw hend hlo hhi
    exact ⟨c', hexec, hwent hword hmarked, hrest⟩
  have hdone : done = k0.done gn := (k0.done_eq gn).symm
  have htotal : total = k0.total gn := (k0.total_eq gn).symm
  have hn : n = k0.stepSize gn 8 := by rw [stepSize_eq, ← hdone, ← htotal]
  have hsix : six = k0.stepSize gn 6 := by rw [stepSize_eq, ← hdone, ← htotal]
  have haway : away = k0.stepSize gn (6 - (back % 6).toNat) := by rw [stepSize_eq, ← hdone, ← htotal]
  clear_value done total n six away
  subst hdone htotal hn hsix haway
  have hbad : bad → k0.badLine pt false = true := decide_eq_true
  have hgood : ¬ bad → k0.badLine pt false = false := decide_eq_false
  have hbadC : badC → k0.badLine pt true = true := decide_eq_true
  have hgoodC : ¬ badC → k0.badLine pt true = false := decide_eq_false
  have hline : even → ∀ q, k0.lineRef pt false q 0 = line q := fun hb q => lineRef_full hb q
  have hslot : evenC → ∀ q, (List.range 16).map (k0.lineRef pt true q) = slot q := fun hb q =>
    List.map_congr_left fun b _ => lineRef_compact hb q b
  refine ⟨fun hb => ⟨dlyWrite_refused_halts h hk (by simp [hbad hb]), dlyRead_refused_halts h hk (hbad hb)⟩,
    fun hb => ⟨dlyWrite_refused_halts h hk (by simp [hbadC hb]), dlyRead_refused_halts h hk (hbadC hb)⟩,
    fun hb hmore hodd hl => dlyRead_full_misaligned h hk hmore (hgood hb) hodd hl,
    fun hb hmore hodd hl => dlyRead_compact_misaligned h hk hmore (hgoodC hb) hodd hl,
    fun hb hmore hodd hl hs => dlyWrite_full_misaligned h hk hmore (hgood hb) hodd hl hs,
    fun hb hmore hodd hpos hd ht hl hs => dlyWrite_compact_misaligned h hk hmore (hgoodC hb) hodd hpos hd ht hl hs,
    fun _ hsix => dlyWrite_refused_halts h hk ?_,
    fun hb hpast hne => dlyWrite_completes h hk hpast (hgood hb) hne,
    fun hb hpast => dlyRead_completes h hk hpast (hgood hb),
    fun hb hmore heven hne hl hs => dlyWrite_full_stores h hk hmore (hgood hb) hne hl ?_,
    fun hb hmore heven hpos hd ht hne hl hs => dlyWrite_compact_stores h hk hmore (hgoodC hb) hpos hd ht hne hl ?_,
    fun hb hmore heven hl hs => dlyRead_full_stores h hk hmore (hgood hb) ?_ hs,
    fun hb hmore heven hl hs => dlyRead_compact_stores h hk hmore (hgoodC hb) rfl rfl ?_ hs,
    fun hpast hne => ⟨csfp_completes h hk hpast hne, csfu_completes h hk hpast hne⟩,
    fun hmore hne hl hs => csfp_stores h hk hmore hne hl hs,
    fun hmore hne hl hs => csfu_stores h hk hmore hne hl hs⟩
  · have hodd : (pos % 6 != 0 || k0.done gn % 6 != 0 || k0.total gn % 6 != 0) = true := by simpa [or_assoc] using hsix
    rw [Bool.true_and, hodd, Bool.or_true]
  · simp only [hline heven]
    exact hs
  · rw [hslot heven]
    exact hs
  · simp only [hline heven]
    rw [range_as_int, List.map_map] at hl
    exact hl
  · have htake : (slot back).take 13 = (List.range 13).map (k0.lineRef pt true back) := by
      rw [← hslot heven, ← List.map_take]
      rfl
    exact htake ▸ hl

end Sys2Proof.Claim
end

section
/-! SUPPORT. A statement that the model refutes: the queue that a port's route entry takes at its EN rise (R186, R305). -/

namespace Sys2Proof.Machine

theorem exec_portEnable (s : State) (n : Fin 32) :
    exec (.portEnable n) s = s.unit 5 n fun c => c.onDev fun d => d.portEnable n := rfl

end Sys2Proof.Machine

namespace Sys2Proof.Claim

open Sys2Proof.Machine

/-- A port 0 that is off, whose field Q_DA lists a value wider than its twelve bits. -/
def wideQueue : State := ⟨⟨{ Dev.reset with regs := [((F.PORT_QUEUES_Q_DA 0).id, 4096)] }, ⟨[], []⟩⟩, []⟩

/-- The rise of EN takes it, and the route entry cuts it to its own twelve bits. -/
theorem wideQueue_rise_cuts : (wideQueue.chip.dev.portEnable 0).rd (F.ROUTE_E_Q (epLane 0 false)) = 0 := by
  decide +kernel

/-- Refutes O28: the clause of the rise of EN claims that the lane's ROUTE[e].Q reads what its field of QUEUES reads, in
every state. A register file is plain data, and in one that lists a queue past Q4095, which no write of QUEUES leaves and
which the model's rise does not refuse as R186 has it, the two differ: the entry takes the number cut to its twelve
bits. -/
theorem not_portRun : ¬ Obligations.PortRun := by
  intro h
  have hfree : wideQueue.chip.dev.unitHeld 5 (0 : Fin 32) = false := by decide
  obtain ⟨hrise, -⟩ := h wideQueue 0 false false false 0 0 0 0 0 0 0 ⟨rfl, rfl, rfl⟩ hfree
  have hexec : exec (.portEnable 0) wideQueue = .next { wideQueue with
      chip := (wideQueue.chip.onDev fun d => d.portEnable 0).settleCells } := by
    rw [exec_portEnable, State.unit_free _ hfree, State.run_next]
    rfl
  obtain ⟨-, -, -, -, -, -, -, -, -, -, -, hroute, -⟩ := (hrise (by decide) (by decide +kernel)).of_exec hexec
  rw [Chip.rd_settleCells, Chip.onDev_dev] at hroute
  exact absurd (hroute.symm.trans wideQueue_rise_cuts) (by decide)

end Sys2Proof.Claim
end

section
/-! SUPPORT. The PDM decimator tells a constant input from none, whatever its coefficients (R164, R178). -/

namespace Sys2Proof.Machine

/-! ### The CIC stage of a constant input -/

theorem foldl_sums_replicate (m : Nat) (c : Int) :
    (List.replicate m c).foldl (fun (a : Int × List Int) v => (a.1 + v, (a.1 + v) :: a.2)) (0, []) =
      (m * c, ((List.range m).map fun i => ((i + 1 : Nat) : Int) * c).reverse) := by
  induction m with
  | zero => simp
  | succ m ih =>
    rw [List.replicate_succ', List.foldl_append, ih, List.range_succ, List.map_append, List.reverse_append]
    simp [add_mul]

theorem boxSums_replicate (n m : Nat) (c : Int) :
    boxSums n (List.replicate m c) = List.replicate (m + 1 - n) (n * c) := by
  have hsums : (0 :: (List.range m).map fun i => ((i + 1 : Nat) : Int) * c) =
      (List.range (m + 1)).map fun i : Nat => (i : Int) * c := by
    rw [List.range_succ_eq_map, List.map_cons, List.map_map]
    simp [Function.comp_def]
  unfold boxSums
  simp only [foldl_sums_replicate, List.reverse_reverse, hsums]
  refine List.ext_getElem (by simp) fun i _ _ => ?_
  simp only [List.getElem_map, List.getElem_zip, List.getElem_drop, List.getElem_range, List.getElem_replicate]
  push_cast
  ring

/-- The five box sums leave a constant input constant, scaled by `r ^ 5`; every `r`-th value goes on. -/
theorem cic_replicate (r m : Nat) (c : Int) {k : Nat}
    (hk : (m + 1 - r + 1 - r + 1 - r + 1 - r + 1 - r + r - 1) / r = k) :
    cic r (List.replicate m c) = List.replicate k (r ^ 5 * c) := by
  subst hk
  unfold cic
  simp only [boxSums_replicate, List.length_replicate]
  refine List.ext_getElem (by simp) fun i hi _ => ?_
  rw [List.length_map, List.length_range] at hi
  have hr : 0 < r := Nat.pos_of_ne_zero fun h => by simp [h] at hi
  have hlast : i * r + r ≤ m + 1 - r + 1 - r + 1 - r + 1 - r + 1 - r + r - 1 := by
    rw [← Nat.succ_mul]
    exact (Nat.le_div_iff_mul_le hr).mp hi
  rw [List.getElem_map, List.getElem_range, List.getD_replicate _ (by omega), List.getElem_replicate]
  ring

/-! ### The FIR stage -/

/-- The 124 coefficients of the PDM decimator with 64 bits in an output period, before and after the one that the model
moves where they sum to nothing; their sum, and the ripple of the passband. -/
def pdmTap (i : Nat) : Int := Config.decimTap false 64 (min i (123 - i))
def pdmCoeff (i : Nat) : Int :=
  if ((List.range 124).map pdmTap).sum = 0 ∧ min i (123 - i) + 1 = 62 then pdmTap i + 1 else pdmTap i
def pdmGain : Int := ((List.range 124).map pdmCoeff).sum
def pdmRipple : Int := clampInt (-57548) 57582 (Config.decimGain false 64)

theorem decimated_pdm (hist : List Int) : decimated false 64 hist =
    satTo 24 (rndDiv (2 ^ 23 * ((((cic 16 (((List.range 2048).map fun i => hist.getD i 0).drop 2)).take 124).mapIdx
      fun i c => pdmCoeff i * c).sum) * (10 ^ 8 + pdmRipple)) (pdmGain * 16 ^ 5 * 10 ^ 8)) := rfl

theorem pdmRipple_ge : -57548 ≤ pdmRipple := by
  unfold pdmRipple clampInt
  split_ifs <;> omega

/-- Where the coefficients sum to nothing, the two middle ones are one more each. -/
theorem pdmGain_ne_zero : pdmGain ≠ 0 := by
  unfold pdmGain
  by_cases hz : ((List.range 124).map pdmTap).sum = 0
  · have hmoved : pdmCoeff = fun i => pdmTap i + if min i (123 - i) + 1 = 62 then 1 else 0 := by
      funext i
      simp only [pdmCoeff, hz, true_and]
      split <;> simp
    rw [hmoved, List.sum_map_add, hz]
    decide +kernel
  · have hkept : pdmCoeff = pdmTap := funext fun i => if_neg fun h => hz h.1
    rwa [hkept]

theorem sum_mapIdx_replicate (f : Nat → Int) (c : Int) (n : Nat) :
    ((List.replicate n c).mapIdx fun i x => f i * x).sum = ((List.range n).map f).sum * c := by
  have h : (List.replicate n c).mapIdx (fun i x => f i * x) = (List.range n).map fun i => f i * c :=
    List.ext_getElem (by simp) fun _ _ _ => by simp
  rw [h, List.sum_map_mul_right]

/-- A constant input comes out scaled by the gain that the ripple leaves. -/
theorem decimated_constant {hist : List Int} {c : Int}
    (h : ((List.range 2048).map fun i => hist.getD i 0) = List.replicate 2048 c) :
    decimated false 64 hist =
      satTo 24 (rndDiv (pdmGain * (c * (2 ^ 43 * (10 ^ 8 + pdmRipple)))) (pdmGain * (2 ^ 20 * 10 ^ 8))) := by
  have hcic : (cic 16 (List.replicate (2048 - 2) c)).take 124 = List.replicate 124 (16 ^ 5 * c) := by
    rw [cic_replicate 16 (2048 - 2) c (k := 124) (by norm_num), List.take_replicate, min_self]
    rfl
  have hsum : 2 ^ 23 * (pdmGain * (16 ^ 5 * c)) * (10 ^ 8 + pdmRipple) =
      pdmGain * (c * (2 ^ 43 * (10 ^ 8 + pdmRipple))) := by ring
  have hscale : pdmGain * 16 ^ 5 * 10 ^ 8 = pdmGain * (2 ^ 20 * 10 ^ 8) := by ring
  rw [decimated_pdm, h, List.drop_replicate, hcic, sum_mapIdx_replicate, ← hsum, ← hscale]
  rfl

/-! ### Its output -/

theorem rndDiv_ge {g x y : Int} (hg : g ≠ 0) (hy : 0 < y) (hx : 3 * y ≤ x) : 2 ≤ rndDiv (g * x) (g * y) := by
  have hquot : 2 ≤ g * x / (g * y) := by
    have hdiv := Int.mul_ediv_add_emod (g * x) (g * y)
    have hne : g * y ≠ 0 := mul_ne_zero hg hy.ne'
    have hrem := Int.emod_nonneg (g * x) hne
    have hlt := Int.emod_lt_abs (g * x) hne
    generalize g * x / (g * y) = q at *
    generalize g * x % (g * y) = r at *
    by_contra hq
    rcases lt_or_gt_of_ne hg with hneg | hpos
    · have hgy : g * y < 0 := mul_neg_of_neg_of_pos hneg hy
      nlinarith
    · have hgy : 0 < g * y := mul_pos hpos hy
      rw [abs_of_pos hgy] at hlt
      nlinarith
  unfold rndDiv
  extract_lets q r
  split <;> omega

theorem rndDiv_zero (b : Int) : 0 ≤ rndDiv 0 b ∧ rndDiv 0 b ≤ 1 := by
  unfold rndDiv
  simp only [Int.zero_ediv, Int.zero_emod]
  split <;> omega

theorem map_getD_replicate (n : Nat) (c : Int) :
    ((List.range n).map fun i => (List.replicate n c).getD i 0) = List.replicate n c :=
  List.ext_getElem (by simp) fun i h _ => by
    rw [List.getElem_map, List.getElem_range, List.getD_replicate _ (by simpa using h), List.getElem_replicate]

theorem map_getD_nil (n : Nat) : ((List.range n).map fun i => ([] : List Int).getD i 0) = List.replicate n 0 := by
  simp

/-- A window full of ones comes out near full scale, and no input near nothing. -/
theorem decimated_ones_ne :
    lowOf 24 (decimated false 64 (List.replicate 2048 1)) ≠ lowOf 24 (decimated false 64 []) := by
  have hripple := pdmRipple_ge
  rw [decimated_constant (map_getD_replicate 2048 1), decimated_constant (map_getD_nil 2048), zero_mul, mul_zero]
  have hbig : 2 ≤ rndDiv (pdmGain * (1 * (2 ^ 43 * (10 ^ 8 + pdmRipple)))) (pdmGain * (2 ^ 20 * 10 ^ 8)) :=
    rndDiv_ge pdmGain_ne_zero (by norm_num) (by omega)
  obtain ⟨hlo, hhi⟩ := rndDiv_zero (pdmGain * (2 ^ 20 * 10 ^ 8))
  generalize rndDiv (pdmGain * _) _ = u at *
  generalize rndDiv 0 _ = v at *
  unfold satTo clampInt lowOf
  split_ifs <;> omega

/-- A frame of ones in front of ones. -/
theorem streamIn_ones {bits keep k : Nat} (h : bits + k ≤ keep) :
    streamIn bits keep (2 ^ bits - 1) (List.replicate k 1) = List.replicate (bits + k) 1 := by
  have hbits : (List.range bits).map (fun i => if bitAt (2 ^ bits - 1) i then (1 : Int) else -1) =
      List.replicate bits 1 :=
    List.ext_getElem (by simp) fun i hi _ => by
      have hset := Nat.testBit_two_pow_sub_one bits i
      rw [Nat.testBit_eq_decide_div_mod_eq, decide_eq_true (show i < bits by simpa using hi),
        decide_eq_true_eq] at hset
      rw [List.getElem_map, List.getElem_range, List.getElem_replicate]
      exact if_pos (beq_iff_eq.mpr hset)
  unfold streamIn
  rw [hbits, List.reverse_replicate, List.replicate_append_replicate, List.take_replicate, min_eq_right h]

end Sys2Proof.Machine
end

section
/-! SUPPORT. An input packet of a lane of a PDM port: what is pushed, and where (R173, R176, R178, R179, R307). -/

namespace Sys2Proof.Machine

/-! ### A lane of a port -/

@[simp] theorem Sap.lane_setLane (p : Sap) (b : Bool) (l : Lane) : (p.setLane b l).lane b = l := by cases b <;> rfl

theorem Sap.setLane_keeps (p : Sap) (b : Bool) (l : Lane) : (p.setLane b l).first = p.first ∧
    (p.setLane b l).slave = p.slave ∧ (p.setLane b l).mode = p.mode ∧ (p.setLane b l).spt = p.spt := by
  cases b <;> exact ⟨rfl, rfl, rfl, rfl⟩

@[simp] theorem Dev.sap_modLane (d : Dev) (n : Nat) (b : Bool) (f : Lane → Lane) :
    (d.modLane n b f).sap n = (d.sap n).setLane b (f ((d.sap n).lane b)) :=
  Dev.sap_setSap_same _ _ _

variable {d : Dev} {n : Nat} {b : Bool}

theorem exec_inputPacketPush (s : State) (n : Fin 32) (b : Bool) {slots : List (Option Nat)} (status : Bool)
    (ha : s.awake = true) (hu : s.chip.dev.unitHeld 5 n = false) (hc : s.chip.dev.cut = false)
    (hs : slots.length ≤ 32) : exec (.inputPacketPush n b slots status) s =
      .next { s with chip := (s.chip.onDev fun d => d.inputPush n b slots status).settleCells } := by
  have hp : s.chip.dev.pinSlots slots = (slots, s.chip.dev) := by simp [Dev.pinSlots, hc]
  change s.checked (decide (slots.length ≤ 32)) (s.unit 5 n _) = _
  rw [decide_eq_true hs, State.checked_true, State.unit_free _ hu, State.run_next, ha, if_pos rfl]
  simp only [Chip.onDev, hp]

/-- The packet's words are the decimators' output before they take the frame's own bits (R179). -/
theorem Dev.inputPush_decimated {slots : List (Option Nat)} {tp mask : Nat} {rest : List (Nat × Nat)} (status : Bool)
    (hf : ((d.sap n).lane b).frames = (tp, mask) :: rest) (hrun : (d.sap n).run = .running)
    (hin : (d.sap n).out b = false) (hm : (d.sap n).mode = 3) :
    d.inputPush n b slots status =
      ((d.modLane n b fun l => { l with frames := rest }).decimate n b slots).packetOut n b
        ⟨tp, ((d.sap n).selected mask).map fun s => (d.sap n).slotValue b slots s * 2 ^ (32 - (d.sap n).width), false⟩ := by
  unfold Dev.inputPush
  simp [hf, hrun, hin, hm, Sap.detects]

/-! ### A packet that is pushed at once -/

/-- A packet of lane `b` of a master port for time point `tp` goes to queue `q` at once and unmuted: `tp` is the lane's
next time point, in the present tick, and no binding that the lane has left governs it (R176, R180, R183, R307). -/
structure Dev.Serves (d : Dev) (n : Nat) (b : Bool) (tp q : Nat) : Prop where
  master : (d.sap n).slave = false
  pcm : (d.sap n).mode ≠ 4
  first : (d.sap n).first ≤ tp
  next : ((d.sap n).lane b).next = tp
  olds : ((d.sap n).lane b).olds = []
  unmuted : d.on (F.PORT_STATUS_NA_MUTE n) = false
  bound : d.bound (epLane n b) = some q
  present : tp < (d.sap n).spt * (d.tick + 1)

section
variable {tp q : Nat} (h : d.Serves n b tp q)
include h

theorem Dev.Serves.modLane {f : Lane → Lane} (hnext : ∀ l, (f l).next = l.next) (holds : ∀ l, (f l).olds = l.olds) :
    (d.modLane n b f).Serves n b tp q := by
  obtain ⟨hfirst, hslave, hmode, hspt⟩ := (d.sap n).setLane_keeps b (f ((d.sap n).lane b))
  rw [← Dev.sap_modLane] at hfirst hslave hmode hspt
  refine ⟨hslave ▸ h.master, hmode ▸ h.pcm, hfirst ▸ h.first, ?_, ?_, h.unmuted, h.bound, hspt ▸ h.present⟩
  · rw [Dev.sap_modLane, Sap.lane_setLane, hnext, h.next]
  · rw [Dev.sap_modLane, Sap.lane_setLane, holds, h.olds]

theorem Dev.Serves.decimate (slots : List (Option Nat)) : (d.decimate n b slots).Serves n b tp q := by
  unfold Dev.decimate
  exact h.modLane (fun _ => rfl) fun _ => rfl

theorem Dev.Serves.packetOut (ws : List Nat) (burst : Bool) : d.packetOut n b ⟨tp, ws, burst⟩ =
    ((d.modLane n b fun l => { l with olds := [] }).pushPacket q 0 ws).modLane n b fun l => { l with next := tp + 1 } := by
  have hmute : d.inMuted n = false := by simp [Dev.inMuted, h.unmuted, h.pcm]
  have hbound : (d.modLane n b fun l => { l with olds := [] }).bound (epLane n b) = some q := h.bound
  have hpush : d.pushLane n b tp ws = (d.modLane n b fun l => { l with olds := [] }).pushPacket q 0 ws := by
    simp [Dev.pushLane, Dev.pushBound, Dev.sourcePush, h.olds, h.present, hbound]
  simp [Dev.packetOut, Dev.pushPoint, h.first, h.master, h.next, hmute, Dev.each, hpush]

end

/-! ### The queue after it -/

/-- The end of a command changes no queue. -/
theorem Chip.q_settleCells (c : Chip) (n : Nat) : c.settleCells.dev.q n = c.dev.q n := by
  obtain ⟨-, -, hqueues, -⟩ := c.dev_settleCells
  exact congrArg (fun qs => Sparse.get (fun _ => Queue.init) qs n) hqueues

theorem Dev.Roomy.setSap {q : Nat} (h : d.Roomy q) (n : Nat) (v : Sap) : (d.setSap n v).Roomy q :=
  ⟨h.en, h.err, h.keeps, h.fits, h.credit⟩

theorem Dev.Roomy.credit_pos {q : Nat} (h : d.Roomy q) : 0 < d.credit q := by
  have := h.credit
  omega

/-- A packet that a word closes stands behind the others of its queue. -/
theorem Dev.Roomy.packets_push_close {q : Nat} (h : d.Roomy q) {w : QWord} (hold : Option Nat) (he : w.e = true) :
    ((d.push q w hold).1.q q).packets = (d.q q).packets ++ [⟨(d.q q).openWords ++ [w], hold, none, 0, false, 0⟩] := by
  rw [d.push_close q w hold h.en h.err h.keeps (fun _ => h.credit_pos) he, Dev.q_settle]
  change (((Dev.setQ _ q _).recount q _ _).q q).packets = _
  obtain ⟨-, -, hqueues⟩ := Dev.recount_spec (((d.laying q w).2).setQ q { d.q q with
    chain := (d.laying q w).1, openWords := []
    packets := (d.q q).packets ++ [⟨(d.q q).openWords ++ [w], hold, none, 0, false, 0⟩] }) q
    (d.q q).packets.length ((d.q q).packets.length + 1)
  rw [Dev.q, hqueues]
  exact congrArg Queue.packets (Dev.q_setQ_same _ q _)

theorem Dev.Serves.packets_packetOut {tp q : Nat} (h : d.Serves n b tp q) (w : Nat) (burst : Bool) (hroom : d.Roomy q)
    (hopen : (d.q q).openWords = []) : ((d.packetOut n b ⟨tp, [w], burst⟩).q q).packets =
      (d.q q).packets ++ [⟨[⟨BitVec.ofNat 32 w, true, 0⟩], none, none, 0, false, 0⟩] := by
  have hlane : (d.modLane n b fun l => { l with olds := [] }).Roomy q := hroom.setSap _ _
  have hpushed := hlane.packets_push_close (w := ⟨BitVec.ofNat 32 w, true, 0⟩) none rfl
  rw [show ((d.modLane n b fun l => { l with olds := [] }).q q).openWords = [] from hopen] at hpushed
  rw [h.packetOut]
  exact hpushed

/-- A packet of one slot of a PDM lane. -/
theorem Dev.Serves.packets_inputPush {slots : List (Option Nat)} {tp mask q i : Nat} {rest : List (Nat × Nat)}
    (h : d.Serves n b tp q) (status : Bool) (hf : ((d.sap n).lane b).frames = (tp, mask) :: rest)
    (hrun : (d.sap n).run = .running) (hin : (d.sap n).out b = false) (hm : (d.sap n).mode = 3)
    (hsel : (d.sap n).selected mask = [i]) (hroom : d.Roomy q) (hopen : (d.q q).openWords = []) :
    ((d.inputPush n b slots status).q q).packets = (d.q q).packets ++
      [⟨[⟨BitVec.ofNat 32 ((d.sap n).slotValue b slots i * 2 ^ (32 - (d.sap n).width)), true, 0⟩],
        none, none, 0, false, 0⟩] := by
  have hserves : ((d.modLane n b fun l => { l with frames := rest }).decimate n b slots).Serves n b tp q :=
    (h.modLane (f := fun l => { l with frames := rest }) (fun _ => rfl) fun _ => rfl).decimate _
  rw [Dev.inputPush_decimated status hf hrun hin hm, hsel, List.map_singleton]
  exact hserves.packets_packetOut _ false ((hroom.setSap _ _).setSap _ _) hopen

end Sys2Proof.Machine
end

section
/-! SUPPORT. A statement that the model refutes: the frame up to whose start a PDM packet's samples reach (R178, R179). -/

namespace Sys2Proof.Claim

open Sys2Proof.Machine

/-! ### A PDM port and its queue -/

/-- Commands take effect, port 0 is not held in reset, cut from its pins or muted, and its lane DA is bound to queue 0,
which is empty and has room for a packet. -/
structure Hears (d : Dev) : Prop where
  resetN : d.resetN = true
  supplyOk : d.supplyOk = true
  out : d.pool.out = []
  wired : d.cut = false
  free : d.unitHeld 5 0 = false
  audio : d.on (F.PORT_STATUS_NA_MUTE 0) = false
  clean : d.on (F.PORT_STATUS_BP_MUTE 0) = false
  bound : d.bound (epLane 0 false) = some 0
  room : PacketRoom d 0
  empty : (d.q 0).packets = []

theorem Hears.setSap {d : Dev} (h : Hears d) (v : Sap) : Hears (d.setSap 0 v) :=
  ⟨h.resetN, h.supplyOk, h.out, h.wired, h.free, h.audio, h.clean, h.bound, h.room, h.empty⟩

/-- The device after reset, with queue 0 enabled and granted a cell, and lane DA of port 0 not OFF. -/
def boundDev : Dev :=
  Dev.reset.wrs [(F.Q_CFG_EN 0, 1), (F.Q_CFG_GRANT 0, 1), (F.ROUTE_E_OFF_ACTIVE (epLane 0 false), 0)]

theorem hears_boundDev : Hears boundDev where
  resetN := rfl
  supplyOk := rfl
  out := rfl
  wired := rfl
  free := by decide +kernel
  audio := by decide +kernel
  clean := by decide +kernel
  bound := by decide +kernel
  room := by decide +kernel
  empty := by decide +kernel

variable (hist : List Int)

/-- A PDM port of 48 kHz that runs, a frame of whose lane DA ends, and whose decimator has taken the inputs `hist` on
the rising edges before that frame. -/
def pdmPort : Sap :=
  { Sap.init with run := .running, mode := 3, laneA := { Lane.init with frames := [(0, 1)], rise := hist } }

/-- The sample that a decimator makes of the inputs `hist`. -/
def heard : Nat := lowOf 24 (decimated false 64 hist)

theorem heard_lt : heard hist < 2 ^ 24 := by
  unfold heard lowOf
  omega

theorem pdmPort_selected : (pdmPort hist).selected 1 = [0] := rfl

theorem pdmPort_bits : (pdmPort hist).bits = 64 := by
  change 2048 / 2 ^ 0 / (32 / 1) = 64
  norm_num

theorem pdmPort_present (t : Nat) : 0 < (pdmPort hist).spt * (t + 1) :=
  Nat.mul_pos (show 0 < 6 * 2 ^ 0 by decide) t.succ_pos

theorem pdmPort_slotValue (slots : List (Option Nat)) : (pdmPort hist).slotValue false slots 0 = heard hist := by
  unfold Sap.slotValue
  rw [pdmPort_bits, if_pos (.inl rfl)]
  rfl

/-- The port on that device. -/
def hearing : State := ⟨⟨boundDev.setSap 0 (pdmPort hist), ⟨[], []⟩⟩, []⟩

theorem hears_hearing : Hears (hearing hist).chip.dev := hears_boundDev.setSap _

theorem hearing_sap : (hearing hist).chip.dev.sap 0 = pdmPort hist := Dev.sap_setSap_same _ _ _

theorem hearing_serves : (hearing hist).chip.dev.Serves 0 false 0 0 := by
  have h := hears_hearing hist
  have hsap := hearing_sap hist
  exact {
    master := by rw [hsap]; rfl
    pcm := by rw [hsap]; exact show (3 : Nat) ≠ 4 by decide
    first := by rw [hsap]; rfl
    next := by rw [hsap]; rfl
    olds := by rw [hsap]; rfl
    unmuted := h.audio
    bound := h.bound
    present := by rw [hsap]; exact pdmPort_present hist _ }

/-! ### The end of a frame of ones -/

/-- A frame whose 64 bits on the rising edges are ones. -/
def onesFrame : List (Option Nat) := [some (2 ^ 64 - 1)]

/-- The state after it. -/
def heardState : State := { hearing hist with
  chip := ((hearing hist).chip.onDev fun d => d.inputPush 0 false onesFrame false).settleCells }

theorem exec_hearing : exec (.inputPacketPush 0 false onesFrame false) (hearing hist) = .next (heardState hist) := by
  have h := hears_hearing hist
  have hawake : (hearing hist).awake = true := by
    rw [State.awake, h.resetN, h.supplyOk]
    rfl
  exact exec_inputPacketPush (hearing hist) 0 false false hawake h.free h.wired (by decide)

/-- The model's packet holds the decimator's output before the frame. -/
theorem heardState_packets : ((heardState hist).chip.dev.q 0).packets =
    [⟨[⟨BitVec.ofNat 32 (heard hist * 2 ^ 8), true, 0⟩], none, none, 0, false, 0⟩] := by
  have h := hears_hearing hist
  have hsap := hearing_sap hist
  obtain ⟨-, -, -, hopen, -⟩ := h.room
  have hpush := (hearing_serves hist).packets_inputPush (slots := onesFrame) (mask := 1) (i := 0) (rest := []) false
    (by rw [hsap]; rfl) (by rw [hsap]; rfl) (by rw [hsap]; rfl) (by rw [hsap]; rfl) (by rw [hsap]; rfl) h.room.roomy
    hopen
  rw [h.empty, hsap, pdmPort_slotValue] at hpush
  unfold heardState
  rw [Chip.q_settleCells, Chip.onDev_dev]
  exact hpush

/-- The statement's packet holds its output after the frame, so that by the statement the frame changes nothing. -/
theorem heard_streamIn (hdata : Obligations.PortData) :
    heard (streamIn 64 2048 (2 ^ 64 - 1) hist) = heard hist := by
  have h := hears_hearing hist
  have hsap : (hearing hist).chip.dev.sap ((0 : Fin 32) : Nat) = pdmPort hist := hearing_sap hist
  obtain ⟨-, hpdm, -⟩ := hdata (hearing hist) 0 false onesFrame false 0 0 [] 0 0 1 0 [] (hearing hist).chip.dev []
    ⟨h.resetN, h.supplyOk, h.out⟩ h.free
  rw [hsap, pdmPort_selected, pdmPort_bits] at hpdm
  obtain ⟨⟨-, -, hwords, -⟩, -⟩ := (hpdm rfl rfl rfl rfl
    ⟨rfl, h.audio, h.clean, .inl rfl, le_rfl, .inl (pdmPort_present hist _)⟩ (.inl rfl) ⟨h.bound, h.room⟩ (by decide)
    (by decide) (by decide) h.wired).of_exec (exec_hearing hist)
  rw [heardState_packets] at hwords
  have hword : some [BitVec.ofNat 32 (heard hist * 2 ^ 8)] =
      some [BitVec.ofNat 32 (heard (streamIn 64 2048 (2 ^ 64 - 1) hist) * 2 ^ 8)] := hwords
  have hnat := congrArg BitVec.toNat (List.singleton_inj.mp (Option.some.inj hword))
  rw [BitVec.toNat_ofNat, BitVec.toNat_ofNat] at hnat
  have hbefore := heard_lt hist
  have hafter := heard_lt (streamIn 64 2048 (2 ^ 64 - 1) hist)
  omega

/-- Refutes O29: the clause on a PDM or SENSE lane claims that a packet's samples are what the decimators make of their
inputs with the bits of the frame that ends. In the model, as R179 has it, they are the output at the frame's start S,
for the time point S + T, and the frame's own bits follow it. Were the clause true, a frame of ones would not change the
next sample; 32 of them after no input fill the decimator, whose sample then stands near full scale, whatever its
coefficients. -/
theorem not_portData : ¬ Obligations.PortData := by
  intro h
  have hones : ∀ k ≤ 32, heard (List.replicate (64 * k) 1) = heard [] := by
    intro k hk
    induction k with
    | zero => rfl
    | succ k ih =>
      rw [Nat.mul_succ, Nat.add_comm, ← streamIn_ones (bits := 64) (keep := 2048) (by omega), heard_streamIn _ h,
        ih (by omega)]
  exact decimated_ones_ne (hones 32 le_rfl)

end Sys2Proof.Claim
end

section
/-! SUPPORT. What a move of one queue leaves: the frame of its steps (R192 to R202). -/

namespace Sys2Proof.Claim

open Sys2Proof.Machine

variable {d e e' : Dev} {q : Nat} {l l' : List Fld}

/-- A step of queue `q`: of the queues it alone differs, of the registers only those of `l`, and besides them only the
cells' metadata and how many free values have been drawn. -/
structure QueueStep (d e : Dev) (q : Nat) (l : List Fld) : Prop where
  only : QueueOnly d e
  others : QueuesBut d e q
  regs : d.RegsBut e l

theorem QueueStep.refl (d : Dev) (q : Nat) (l : List Fld) : QueueStep d d q l := ⟨rfl, fun _ _ => rfl, .of_regs rfl⟩

theorem QueueStep.trans (h : QueueStep d e q l) (h' : QueueStep e e' q l) : QueueStep d e' q l where
  only := (congrArg (fun x : Dev => { x with regs := d.regs, queues := d.queues, pool := d.pool, freeCtr := d.freeCtr })
    h'.only).trans h.only
  others j hj := (h'.others j hj).trans (h.others j hj)
  regs := h.regs.trans h'.regs

theorem QueueStep.mono (h : QueueStep d e q l) (hl : ∀ f ∈ l, f ∈ l') : QueueStep d e q l' where
  only := h.only
  others := h.others
  regs f hf := h.regs f fun hi => by
    obtain ⟨g, hg, he⟩ := List.mem_map.mp hi
    exact hf (List.mem_map.mpr ⟨g, hl g hg, he⟩)

theorem QueueStep.setQ (h : QueueStep d e q l) (v : Queue) : QueueStep d (e.setQ q v) q l where
  only := h.only
  others j hj := (Dev.q_setQ e q j v).trans ((if_neg hj).trans (h.others j hj))
  regs := h.regs.trans (.of_regs rfl)

theorem QueueStep.wr (h : QueueStep d e q l) {f : Fld} (hf : f ∈ l) (v : Nat) : QueueStep d (e.wr f v) q l where
  only := h.only
  others := h.others
  regs := h.regs.wr hf v

/-- Nothing but the cells' metadata and the free values drawn differs. -/
theorem QueueStep.pool (h : QueueStep d e q l) (x : Pool) (n : Nat) :
    QueueStep d { e with pool := x, freeCtr := n } q l where
  only := h.only
  others := h.others
  regs := h.regs.trans (.of_regs rfl)

theorem QueueStep.sets (h : QueueStep d e q l) : Sets d e [] l :=
  ⟨fun _ hp => absurd hp List.not_mem_nil, fun f _ hf => h.regs f hf⟩

theorem QueueStep.badRows (h : QueueStep d e q l) : e.badRows = d.badRows := (congrArg Dev.badRows h.only :)

variable (d q)

theorem queueStep_each_freeCell (cs : List Nat) : ∃ x, d.each cs Dev.freeCell = { d with pool := x } := by
  induction cs generalizing d with
  | nil => exact ⟨d.pool, rfl⟩
  | cons c cs ih => exact (ih (d.freeCell c)).imp fun x hx => hx

theorem queueStep_settle : QueueStep d (d.settle q) q [F.QM_FREE_COMMON] := by
  unfold Dev.settle
  extract_lets x r d1
  split
  · exact .refl d q _
  · obtain ⟨y, hy⟩ := queueStep_each_freeCell d1 (x.chain.take r)
    rw [hy]
    exact (((QueueStep.refl d q _).setQ _).pool y d1.freeCtr).wr List.mem_cons_self _

theorem queueStep_recount (o c : Nat) : QueueStep d (d.recount q o c) q
    [F.Q_EV_HI_EV q, F.Q_EV_LO_EV q, F.Q_EV_HI_LIVE q, F.Q_EV_LO_LIVE q] := by
  unfold Dev.recount
  split
  · exact .refl d q _
  · extract_lets s d1 m hi lo
    exact (((((QueueStep.refl d q _).pool _ _).wr (by simp) _).wr (by simp) _).wr (by simp) _).wr (by simp) _


theorem queueStep_takeCell (f : FreeList) (o : CellOwner) (prev : Option Nat) : QueueStep d (d.takeCell f o prev).2 q l := by
  cases prev <;> exact (QueueStep.refl d q l).pool _ _

theorem queueStep_cellTaken : QueueStep d (d.cellTaken q).2 q [F.QM_FREE_COMMON] :=
  ((QueueStep.refl d q _).wr List.mem_cons_self _).trans (queueStep_takeCell _ q _ _ _)

/-! ### Answers of a command of the device -/

/-- A command of the device that leaves the words that wait for their cells as they were. -/
theorem Moves.of_quiet {i : Instr} {s : State} {f : Dev → Dev} {p : Dev → Dev → Prop} (hl : Live s)
    (he : exec i s = s.dev f) (ho : (f s.chip.dev).pool.out = s.chip.dev.pool.out) (hp : p s.chip.dev (f s.chip.dev)) :
    Moves i s p := by
  obtain ⟨hreset, hsupply, hout⟩ := hl
  have hcells : (s.chip.onDev f).settleCells = s.chip.onDev f := if_pos (ho.trans hout)
  refine ⟨_, ?_, hp⟩
  rw [he, State.dev, State.run_next, State.awake, hreset, hsupply, hcells]
  rfl

theorem Turns.of_dev {i : Instr} {s : State} {f : Dev → Dev} {p : Chip → Chip → Prop} (hl : Live s)
    (he : exec i s = s.dev f) (hp : p s.chip (s.chip.onDev f).settleCells) : Turns i s p := by
  obtain ⟨hreset, hsupply, -⟩ := hl
  refine ⟨_, ?_, hp⟩
  rw [he, State.dev, State.run_next, State.awake, hreset, hsupply]
  rfl

/-! ### The word that is pushed -/

variable (w : QWord)

theorem laying_chain : (d.laying q w).1 =
    if (d.q q).needsCell = true then (d.q q).chain ++ [(d.cellTaken q).1] else (d.q q).chain := by
  unfold Dev.laying
  split <;> rfl

/-- A word on its way to its cell: where it goes, its tag, and the row it makes good. -/
structure Lays (d e : Dev) (a : Nat) (w : QWord) : Prop where
  out : e.pool.out = d.pool.out ++ [(a, w.data.toNat)]
  tags : e.pool.tags = Sparse.set (fun _ => 0) d.pool.tags (a / 4) (1 + 2 * bit w.e + 4 * w.k)
  rows : e.badRows = d.badRows.filter (· ≠ a / 8 * 8)

theorem lays_putWord {c i a : Nat} (h : 256 * c + 4 * i = a) : Lays d (d.putWord c i w) a w := by
  subst h
  refine ⟨rfl, ?_, List.filter_congr fun x _ => by rw [bne, beq_eq_decide, decide_not]⟩
  rw [show (256 * c + 4 * i) / 4 = 64 * c + i by omega]
  rfl

theorem lays_laying : Lays d (d.laying q w).2 (pushAddr d q) w := by
  unfold Dev.laying
  split
  · next h =>
    obtain ⟨hs, -, -⟩ := d.cellTaken_spec q
    obtain ⟨hout, htags, hrows⟩ := lays_putWord (d.cellTaken q).2 w (a := pushAddr d q)
      (c := ((d.q q).chain ++ [(d.cellTaken q).1]).getD (((d.q q).head + (d.q q).stored) / 64) 0)
      (i := ((d.q q).head + (d.q q).stored) % 64) (by rw [pushAddr]; rw [if_pos h]; rfl)
    exact ⟨hout.trans (by rw [hs.out]), htags.trans (by rw [hs.tags]), hrows.trans (by rw [(queueStep_cellTaken d q).badRows])⟩
  · next h =>
    exact lays_putWord d w (by rw [pushAddr]; rw [if_neg h])

/-- Besides the row that it makes good, the word's way to its cell is a step of its queue. -/
theorem queueStep_laying : QueueStep d { (d.laying q w).2 with badRows := d.badRows } q [F.QM_FREE_COMMON] := by
  unfold Dev.laying
  split
  · obtain ⟨ho, hq, hr⟩ := queueStep_cellTaken d q
    exact ⟨(congrArg (fun x : Dev => { x with badRows := d.badRows }) ho :), hq, hr.trans (.of_regs rfl)⟩
  · exact (QueueStep.refl d q _).pool _ _

/-- A queue's step after one that made a row good. -/
theorem QueueStep.overRow {d : Dev} {q : Nat} (h : QueueStep d { e with badRows := d.badRows } q l) (h' : QueueStep e e' q l) :
    QueueStep d { e' with badRows := d.badRows } q l where
  only := (congrArg (fun x : Dev => { x with badRows := d.badRows, regs := d.regs, queues := d.queues, pool := d.pool,
                                             freeCtr := d.freeCtr }) h'.only).trans h.only
  others j hj := (h'.others j hj).trans (h.others j hj)
  regs := h.regs.trans fun f hf => h'.regs f hf

/-- At the end of the command the word stands in its cell. -/
theorem Lays.stored {d e : Dev} {a : Nat} {w : QWord} (h : Lays d e a w) (hout : d.pool.out = []) (m : Mem) :
    (⟨e, m⟩ : Chip).settleCells = ⟨{ e with pool := { e.pool with out := [] } }, m.store a 4 w.data.toNat⟩ := by
  unfold Chip.settleCells
  rw [if_neg (by simp [h.out]), h.out, hout]
  rfl

theorem Lays.wordStored {q : Nat} {c : Chip} {e : Dev} {w : QWord} (h : Lays c.dev e (pushAddr c.dev q) w)
    (hout : c.dev.pool.out = []) : WordStored c (⟨e, c.mem⟩ : Chip).settleCells q w := by
  obtain ⟨-, -, -, hflash⟩ := (⟨e, c.mem⟩ : Chip).settleCells_spec
  rw [h.stored hout] at hflash ⊢
  refine ⟨?_, ⟨fun b hb => Mem.byte_store_other 4 _ _ c.mem hb, hflash⟩, h.tags, h.rows⟩
  rw [Mem.load_store]
  exact Nat.mod_eq_of_lt w.data.isLt

theorem Lays.step {d e e' : Dev} {a : Nat} {w : QWord} (h : Lays d e a w) (hs : e.Shelved e')
    (hb : e'.badRows = e.badRows) : Lays d e' a w :=
  ⟨hs.out.trans h.out, hs.tags.trans h.tags, hb.trans h.rows⟩

end Sys2Proof.Claim

namespace Sys2Proof.Machine

/-- A queue once the cells done with have left it (R194). -/
def Queue.settled (v : Queue) : Queue :=
  { v with head := v.head - 64 * v.doneCells, chain := v.chain.drop v.doneCells, crossing := v.crossing + v.doneCells }

/-- The place of a settled queue's head, counted with the cells that cross, is the same. -/
theorem Queue.place_settled (v : Queue) :
    v.settled.head + 64 * v.settled.crossing = v.head + 64 * v.crossing := by
  have hdone : v.doneCells ≤ v.head / 64 := Nat.min_le_left _ _
  change v.head - 64 * v.doneCells + 64 * (v.crossing + v.doneCells) = _
  omega

/-- Queue `n` becomes `v`, its count of packets is judged as it goes from `o` to `c`, and its cells done with leave. -/
def Dev.turn (d : Dev) (n : Nat) (v : Queue) (o c : Nat) : Dev := ((d.setQ n v).recount n o c).settle n

variable (d : Dev) (n : Nat) (v : Queue) (o c : Nat)

theorem Dev.q_setQ_settle : ((d.setQ n v).settle n).q n = v.settled := by
  rw [Dev.q_settle, Dev.q_setQ_same]; rfl

theorem Dev.q_turn : (d.turn n v o c).q n = v.settled := by
  have hq : ((d.setQ n v).recount n o c).q n = v :=
    (congrArg (fun l => Sparse.get (fun _ => Queue.init) l n) ((d.setQ n v).recount_spec n o c).2.2).trans
      (d.q_setQ_same n v)
  rw [Dev.turn, Dev.q_settle, hq]; rfl

theorem Dev.shelved_setQ_settle : d.Shelved ((d.setQ n v).settle n) :=
  Dev.Shelved.trans (e := d.setQ n v) ⟨rfl, rfl, rfl⟩ (Dev.shelved_settle _ n)

theorem Dev.shelved_turn : d.Shelved (d.turn n v o c) := by
  have hset : d.Shelved (d.setQ n v) := ⟨rfl, rfl, rfl⟩
  exact (hset.trans ((d.setQ n v).recount_spec n o c).1).trans (Dev.shelved_settle _ n)

end Sys2Proof.Machine

namespace Sys2Proof.Claim

open Sys2Proof.Machine

variable {d e : Dev} {q : Nat} {l : List Fld} {w : QWord} {c : Chip}

theorem queueStep_turn (d : Dev) (q : Nat) (v : Queue) (o n : Nat) : QueueStep d (d.turn q v o n) q (countF q) :=
  (((QueueStep.refl d q _).setQ v).trans ((queueStep_recount _ q o n).mono (by simp [countF]))).trans
    ((queueStep_settle _ q).mono (by simp [countF]))

/-- What a push that stores its word leaves at the end of the command. -/
structure PushedWord (c c' : Chip) (q : Nat) (w : QWord) (l : List Fld) : Prop where
  word : WordStored c c' q w
  sets : Sets c.dev c'.dev [] l
  others : QueuesBut c.dev c'.dev q
  only : QueueOnly c.dev { c'.dev with badRows := c.dev.badRows }

theorem pushedWord (hout : c.dev.pool.out = []) (hs : Dev.Shelved (c.dev.laying q w).2 e)
    (hstep : QueueStep (c.dev.laying q w).2 e q l) (hl : F.QM_FREE_COMMON ∈ l) :
    PushedWord c (⟨e, c.mem⟩ : Chip).settleCells q w l := by
  have hlays := (lays_laying c.dev q w).step hs hstep.badRows
  have hall := ((queueStep_laying c.dev q w).mono (by simpa using hl)).overRow hstep
  have hword := hlays.wordStored hout
  rw [hlays.stored hout] at hword ⊢
  have hend := hall.pool { e.pool with out := [] } e.freeCtr
  exact ⟨hword, hend.sets, hend.others, hend.only⟩

section
variable (hout : c.dev.pool.out = []) (hen : c.dev.rd (F.Q_CFG_EN q) ≠ 0) (herr : (c.dev.q q).err = false)
  (hdis : (c.dev.q q).discard = false) (hc : (c.dev.q q).needsCell = true → 0 < c.dev.credit q)
include hout hen herr hdis hc

/-- A push of a word that leaves its packet open. -/
theorem push_open_stored (he : w.e = false) {c' : Chip}
    (hc' : (c.onDev fun d => (d.push q w none).1).settleCells = c') :
    (c'.dev.q q).openWords = (c.dev.q q).openWords ++ [w] ∧ (c'.dev.q q).packets = (c.dev.q q).packets ∧
      PushedWord c c' q w [F.QM_FREE_COMMON] := by
  subst hc'
  have hq := (c.onDev fun d => (d.push q w none).1).q_settleCells q
  rw [Chip.onDev, c.dev.push_open q w none hen herr hdis hc he, Dev.q_setQ_settle] at hq
  rw [Chip.onDev, c.dev.push_open q w none hen herr hdis hc he, hq]
  exact ⟨rfl, rfl, pushedWord hout (Dev.shelved_setQ_settle ..)
    (((QueueStep.refl _ q _).setQ _).trans (queueStep_settle _ q)) List.mem_cons_self⟩

/-- A push of the word that closes its packet. -/
theorem push_close_stored (he : w.e = true) {c' : Chip}
    (hc' : (c.onDev fun d => (d.push q w none).1).settleCells = c') :
    (c'.dev.q q).openWords = [] ∧
      (c'.dev.q q).packets = (c.dev.q q).packets ++ [⟨(c.dev.q q).openWords ++ [w], none, none, 0, false, 0⟩] ∧
      PushedWord c c' q w (countF q) := by
  subst hc'
  have hq := (c.onDev fun d => (d.push q w none).1).q_settleCells q
  rw [Chip.onDev, c.dev.push_close q w none hen herr hdis hc he] at hq ⊢
  rw [hq, ← Dev.turn, Dev.q_turn]
  exact ⟨rfl, rfl, pushedWord hout (Dev.shelved_turn ..) (queueStep_turn ..) (by simp [countF])⟩

end

end Sys2Proof.Claim
end

section
/-! SUPPORT. Packets that leave a queue: the one at its front, and those that a discard takes out of its midst (R194,
R199, R252, R311). -/

namespace Sys2Proof.Machine

/-- A packet but for what is popped behind it. -/
def Packet.bare (p : Packet) : Packet := { p with gap := 0 }

/-- What stays of a queue when packets leave it: all but its packets and its head, whose places together are as
many. -/
structure Queue.Freed (v v' : Queue) : Prop where
  rest : { v' with packets := v.packets, head := v.head } = v
  places : v'.head + spanOf v'.packets = v.head + spanOf v.packets

theorem Queue.Freed.refl (v : Queue) : v.Freed v := ⟨rfl, rfl⟩

theorem Queue.Freed.trans {v v' v'' : Queue} (h : v.Freed v') (h' : v'.Freed v'') : v.Freed v'' :=
  ⟨(congrArg (fun x : Queue => { x with packets := v.packets, head := v.head }) h'.rest).trans h.rest,
    h'.places.trans h.places⟩

theorem spanOf_append (ps qs : List Packet) : spanOf (ps ++ qs) = spanOf ps + spanOf qs := by
  simp [spanOf, List.sum_append]

theorem spanOf_cons (p : Packet) (ps : List Packet) : spanOf (p :: ps) = p.words.length + p.gap + spanOf ps := by
  simp [spanOf]

/-- A whole packet leaves the midst of a queue: its places are those of the packet before it, or of the head. -/
theorem Queue.take_out {v : Queue} {ps post : List Packet} {p : Packet} (h : v.packets = ps ++ p :: post) :
    v.Freed (v.take ps.length 0 true) ∧ ∃ qs : List Packet, (v.take ps.length 0 true).packets = qs ++ post ∧
      qs.map Packet.bare = ps.map Packet.bare := by
  rcases List.eq_nil_or_concat ps with rfl | ⟨as, b, rfl⟩
  · have htake : v.take 0 0 true = { v with packets := post, head := v.head + (p.words.length + p.gap) } := by
      simp [Queue.take, h]
    rw [List.length_nil, htake]
    refine ⟨⟨rfl, ?_⟩, [], rfl, rfl⟩
    rw [h, List.nil_append, spanOf_cons, add_assoc]
  · have htake : v.take (as ++ [b]).length 0 true =
        { v with packets := as ++ { b with gap := b.gap + (p.words.length + p.gap) } :: post } := by
      simp [Queue.take, h, List.eraseIdx_append_of_length_le, List.modify_eq_take_cons_drop]
    rw [List.concat_eq_append, htake]
    refine ⟨⟨rfl, ?_⟩, as ++ [{ b with gap := b.gap + (p.words.length + p.gap) }], by simp, by simp [Packet.bare]⟩
    simp only [h, List.concat_eq_append, spanOf_append, spanOf_cons, List.append_assoc, List.singleton_append]
    omega

/-- The packets of a list that `f` picks leave the queue, the last of them first. -/
theorem Queue.take_each (f : Packet → Bool) : ∀ (ps post : List Packet) (v : Queue) (qs : List Packet),
    v.packets = qs ++ post → qs.map Packet.bare = ps.map Packet.bare →
    v.Freed ((ps.zipIdx.reverse.filter fun p => f p.1).foldl (fun q p => q.take p.2 0 true) v) ∧
      ((ps.zipIdx.reverse.filter fun p => f p.1).foldl (fun q p => q.take p.2 0 true) v).packets.map Packet.bare =
        (ps.filter fun p => !f p).map Packet.bare ++ post.map Packet.bare := by
  intro ps
  induction ps using List.reverseRecOn with
  | nil =>
    intro post v qs hv hqs
    obtain rfl : qs = [] := by simpa using hqs
    exact ⟨.refl v, by simp [hv]⟩
  | append_singleton ps p ih =>
    intro post v qs hv hqs
    obtain ⟨as, b, rfl⟩ : ∃ as b, qs = as ++ [b] := by
      rcases List.eq_nil_or_concat qs with rfl | ⟨as, b, rfl⟩
      · simp at hqs
      · exact ⟨as, b, List.concat_eq_append⟩
    obtain ⟨has, hb⟩ : as.map Packet.bare = ps.map Packet.bare ∧ b.bare = p.bare := by
      simpa using hqs
    have hlen : as.length = ps.length := by simpa using congrArg List.length has
    have hlist : (ps ++ [p]).zipIdx.reverse = (p, ps.length) :: ps.zipIdx.reverse := by
      simp [List.zipIdx_append]
    rw [hlist, List.filter_cons]
    split
    next hf =>
      obtain ⟨hfreed, cs, hpackets, hcs⟩ := Queue.take_out (v := v) (ps := as) (p := b) (post := post) (by simp [hv])
      rw [hlen] at hfreed hpackets
      obtain ⟨hfreed', hleft⟩ := ih post _ cs hpackets (hcs.trans has)
      refine ⟨hfreed.trans hfreed', ?_⟩
      rw [List.foldl_cons, hleft]
      simp [hf]
    next hf =>
      obtain ⟨hfreed, hleft⟩ := ih (b :: post) v as (by simp [hv]) has
      refine ⟨hfreed, ?_⟩
      rw [hleft]
      simp [hf, hb]

/-- The packets that a discard leaves, and the queue it leaves besides. -/
def Queue.without (v : Queue) (f : Packet → Bool) : Queue :=
  { (v.packets.zipIdx.reverse.filter fun p => f p.1).foldl (fun q p => q.take p.2 0 true) v with remembered := v.epoch }

theorem Queue.without_spec (v : Queue) (f : Packet → Bool) :
    { v with remembered := v.epoch }.Freed (v.without f) ∧
      (v.without f).packets.map Packet.bare = (v.packets.filter fun p => !f p).map Packet.bare := by
  obtain ⟨⟨hrest, hplaces⟩, hleft⟩ := Queue.take_each f v.packets [] v v.packets (by simp) rfl
  refine ⟨⟨congrArg (fun x : Queue => { x with remembered := v.epoch }) hrest, hplaces⟩, hleft.trans (by simp)⟩

/-- A discard of nothing does nothing. -/
theorem Dev.dropPackets_none (d : Dev) (n : Nat) (f : Packet → Bool) (h : (d.q n).packets.filter f = []) :
    d.dropPackets n f = (d, 0) := if_pos h

theorem Dev.dropPackets_some (d : Dev) (n : Nat) (f : Packet → Bool) (h : (d.q n).packets.filter f ≠ []) :
    d.dropPackets n f = (d.turn n ((d.q n).without f) (d.q n).packets.length
      ((d.q n).packets.filter fun p => !f p).length, ((d.q n).packets.filter f).length) := if_neg h

/-- A plain pop of a word of the first packet. -/
theorem Dev.pop_first {d : Dev} {n : Nat} {p : Packet} {ps : List Packet} {w : QWord} {ws : List QWord}
    (hen : d.rd (F.Q_CFG_EN n) ≠ 0) (herr : (d.q n).err = false) (hq : (d.q n).packets = p :: ps)
    (hp : p.arrival.isSome = true) (hw : p.words = w :: ws) :
    (d.pop n).1 = d.turn n { (d.q n).take 0 1 w.e with remembered := (d.q n).epoch } (d.q n).packets.length
      ((d.q n).take 0 1 w.e).packets.length := by
  unfold Dev.pop Dev.takeWord
  simp only [herr, hen, hq, hp, hw, decide_false, Bool.or_self, Bool.false_eq_true, if_false, if_true,
    List.getElem?_cons_zero]
  rfl

/-- The queue whose first packet's next word is popped, which leaves the packet where it is the last. -/
theorem Queue.take_first {v : Queue} {p : Packet} {ps : List Packet} {w : QWord} {ws : List QWord}
    (hq : v.packets = p :: ps) (hw : p.words = w :: ws) (out : Bool) :
    v.take 0 1 out = { v with packets := if out then ps else { p with words := ws, begun := true } :: ps
                              head := v.head + if out then p.words.length + p.gap else 1 } := by
  cases out <;> simp [Queue.take, hq, hw]

end Sys2Proof.Machine
end

section
/-! SUPPORT. Overflows and discards of a queue, and the moves of its packets (R192 to R202, R251, R307, R311). -/

namespace Sys2Proof.Claim

open Sys2Proof.Machine

variable {s : State} (q : Fin 4096)

theorem Sets.perm {d e : Dev} {l m : List (Fld × Nat)} {may : List Fld} (h : Sets d e l may) (hp : l.Perm m) :
    Sets d e m may :=
  ⟨fun p hm => h.1 p (hp.mem_iff.mpr hm), fun f hm => h.2 f fun hi => hm ((hp.map _).mem_iff.mp hi)⟩

/-- What an overflow writes (R198). -/
def overflowWrites (d : Dev) (n : Nat) : List (Fld × Nat) :=
  [(F.Q_EV_OVF_EV n, 1), (F.QM_OVF_COUNT, min (d.rd F.QM_OVF_COUNT + 1) 65535), (F.QM_OVF_Q, n),
    (F.QM_EVENTS_OVF_ANY, 1)]

/-- The events of the queues lie apart from the queue manager's registers. -/
theorem queueEvent_apart : (F.Q_EV_OVF_EV q).id ∉ [F.QM_OVF_COUNT, F.QM_OVF_Q, F.QM_EVENTS_OVF_ANY].map Fld.id := by
  simp [Fld.id, F.Q_EV_OVF_EV, F.Q_EV, F.QM_OVF_COUNT, F.QM_OVF, F.QM_OVF_Q, F.QM_EVENTS_OVF_ANY, F.QM_EVENTS]
  omega

theorem sets_overflowWrites (d : Dev) : Sets d (d.wrs (overflowWrites d q)) (overflowWrites d q) [] := by
  refine sets_wrs d _ (List.nodup_cons.mpr ⟨queueEvent_apart q, ?apart⟩) ?fits
  case apart =>
    show ([F.QM_OVF_COUNT, F.QM_OVF_Q, F.QM_EVENTS_OVF_ANY].map Fld.id).Nodup
    decide
  case fits =>
    intro p hp
    simp only [overflowWrites, List.mem_cons, List.not_mem_nil, or_false] at hp
    rcases hp with rfl | rfl | rfl | rfl
    · exact Nat.one_lt_two
    · change min (d.rd F.QM_OVF_COUNT + 1) 65535 < 65536
      omega
    · exact q.isLt
    · exact Nat.one_lt_two

/-- The open packet is given up (R200). -/
theorem abandonOpen_spec (d : Dev) (n : Nat) : ((d.abandonOpen n).q n).openWords = [] ∧
    ((d.abandonOpen n).q n).packets = (d.q n).packets ∧ QueuesBut d (d.abandonOpen n) n ∧
    { d.abandonOpen n with queues := d.queues, rake := d.rake } = d := by
  obtain ⟨v, r, heq, hopen, hpackets⟩ : ∃ v r, d.abandonOpen n = { d.setQ n v with rake := r } ∧ v.openWords = [] ∧
      v.packets = (d.q n).packets := by
    unfold Dev.abandonOpen Dev.when
    dsimp only
    split
    · exact ⟨_, _, rfl, rfl, rfl⟩
    · exact ⟨_, d.rake, rfl, rfl, rfl⟩
  have hq : ∀ j, (d.abandonOpen n).q j = if j = n then v else d.q j := fun j => heq ▸ d.q_setQ n j v
  refine ⟨?_, ?_, fun j hj => (hq j).trans (if_neg hj), heq ▸ rfl⟩ <;> rw [hq, if_pos rfl] <;> assumption

/-- What an overflow counts. -/
theorem overflow_writes (x : Dev) :
    (((x.set (F.Q_EV_OVF_EV q)).bump F.QM_OVF_COUNT 1).wr F.QM_OVF_Q q).set F.QM_EVENTS_OVF_ANY =
      x.wrs (overflowWrites x q) := by
  have hcount : (F.QM_OVF_COUNT).id ≠ (F.Q_EV_OVF_EV q).id := fun h => queueEvent_apart q (h ▸ List.mem_cons_self)
  rw [Dev.bump_eq, Dev.set_eq x, Dev.rd_wr_other _ _ hcount]
  rfl

theorem overflow_eq (d : Dev) (e : Bool) : d.overflow q e = ((d.abandonOpen q).setQ q
    { (d.abandonOpen q).q q with discard := !e }).wrs (overflowWrites (d.abandonOpen q) q) := overflow_writes q _

/-- A packet that is lost for lack of credit (R198). -/
theorem overflow_spec (d : Dev) (e : Bool) : ((d.overflow q e).q q).openWords = [] ∧
    ((d.overflow q e).q q).packets = (d.q q).packets ∧ ((d.overflow q e).q q).discard = !e ∧
    Sets d (d.overflow q e) (overflowWrites d q) [] ∧ QueuesBut d (d.overflow q e) q ∧
    { d.overflow q e with regs := d.regs, queues := d.queues, rake := d.rake } = d := by
  rw [overflow_eq]
  obtain ⟨hopen, hpackets, hothers, hrest⟩ := abandonOpen_spec d q
  generalize d.abandonOpen q = x at *
  have hregs : x.regs = d.regs := (congrArg Dev.regs hrest :)
  have hwrites : overflowWrites x q = overflowWrites d q := by simp only [overflowWrites, Dev.rd, hregs]
  rw [hwrites]
  obtain ⟨hsets, honly⟩ : Writes (x.setQ q { x.q q with discard := !e })
      ((x.setQ q { x.q q with discard := !e }).wrs (overflowWrites d q)) (overflowWrites d q) [] :=
    ⟨hwrites ▸ sets_overflowWrites q _, regsOnly_wrs _ _⟩
  generalize (x.setQ q { x.q q with discard := !e }).wrs (overflowWrites d q) = y at *
  have hq : ∀ j, y.q j = (x.setQ q { x.q q with discard := !e }).q j := fun j => (congrArg (Dev.q · j) honly :)
  rw [hq, Dev.q_setQ_same]
  refine ⟨hopen, hpackets, rfl, hsets.congr_regs hregs rfl, fun j hj => ?_, ?_⟩
  · exact (hq j).trans ((Dev.q_setQ x q j _).trans ((if_neg hj).trans (hothers j hj)))
  · exact (congrArg (fun z : Dev => { z with regs := d.regs, queues := d.queues, rake := d.rake }) honly).trans
      ((congrArg (fun z : Dev => { z with regs := d.regs }) hrest).trans rfl)

/-- Has the packet arrived by the end of tick `t`? -/
def arrivedBy (t : Nat) (p : Packet) : Bool := match p.arrival with | some a => decide (a ≤ t) | none => false

theorem not_arrivedBy (t : Nat) : (fun p => !arrivedBy t p) =
    fun p : Packet => match p.arrival with | some a => decide (t < a) | none => true := by
  funext p
  unfold arrivedBy
  cases p.arrival with
  | none => rfl
  | some a => exact (decide_not (p := a ≤ t)).symm.trans (decide_eq_decide.mpr not_le)

theorem parkedDiscard_eq (d : Dev) (hpark : (d.q q).parked = true)
    (hold : (d.txOld.any fun r => r.2 == some (q.val, false)) = false) : d.parkedDiscard q =
      (d.dropPackets q (arrivedBy d.tick)).1.bump (F.ROUTE_CNT_COUNT 3) (d.dropPackets q (arrivedBy d.tick)).2 := by
  unfold Dev.parkedDiscard
  rw [hpark, hold]
  rfl

/-- The discards of a parked queue (R311). -/
theorem parkedDiscard_spec (d : Dev) (hpark : (d.q q).parked = true)
    (hold : (d.txOld.any fun r => r.2 == some (q.val, false)) = false) :
    ((d.parkedDiscard q).q q).packets.map Packet.bare = ((d.q q).packets.filter fun p => match p.arrival with
        | some a => decide (d.tick < a) | none => true).map Packet.bare ∧
      ((d.parkedDiscard q).q q).head + 64 * ((d.parkedDiscard q).q q).crossing + ((d.parkedDiscard q).q q).stored =
        (d.q q).head + 64 * (d.q q).crossing + (d.q q).stored ∧
      ((d.parkedDiscard q).q q).openWords = (d.q q).openWords ∧
      QueueStep d (d.parkedDiscard q) q (F.ROUTE_CNT_COUNT 3 :: countF q) ∧
      (d.parkedDiscard q).pool.out = d.pool.out := by
  rw [← not_arrivedBy, parkedDiscard_eq q d hpark hold]
  generalize arrivedBy d.tick = f
  by_cases hgone : (d.q q).packets.filter f = []
  · rw [d.dropPackets_none q f hgone]
    have hall : (d.q q).packets.filter (fun p => !f p) = (d.q q).packets :=
      List.filter_eq_self.mpr fun p hp => by simpa using List.filter_eq_nil_iff.mp hgone p hp
    rw [hall]
    exact ⟨rfl, rfl, rfl, (QueueStep.refl d q _).wr List.mem_cons_self _, rfl⟩
  · rw [d.dropPackets_some q f hgone]
    obtain ⟨⟨hrest, hplaces⟩, hleft⟩ := (d.q q).without_spec f
    have hq := d.q_turn q ((d.q q).without f) (d.q q).packets.length ((d.q q).packets.filter fun p => !f p).length
    have hstep := queueStep_turn d q ((d.q q).without f) (d.q q).packets.length
      ((d.q q).packets.filter fun p => !f p).length
    have hopen : ((d.q q).without f).openWords = (d.q q).openWords := (congrArg Queue.openWords hrest :)
    have hcross : ((d.q q).without f).crossing = (d.q q).crossing := (congrArg Queue.crossing hrest :)
    have hplace := ((d.q q).without f).place_settled
    refine ⟨(congrArg (fun x : Queue => x.packets.map Packet.bare) hq).trans hleft, ?_,
      (congrArg Queue.openWords hq).trans hopen, (hstep.mono fun _ h => List.mem_cons_of_mem _ h).wr List.mem_cons_self _,
      (d.shelved_turn ..).out⟩
    have hstored : ((d.q q).without f).settled.stored = spanOf ((d.q q).without f).packets + (d.q q).openWords.length :=
      congrArg (spanOf ((d.q q).without f).packets + ·) (congrArg List.length hopen)
    refine (congrArg (fun x : Queue => x.head + 64 * x.crossing + x.stored) hq).trans ?_
    dsimp only at hplaces ⊢
    rw [hstored, Queue.stored]
    omega

end Sys2Proof.Claim
end

section
/-! SUPPORT. The moves of a queue (R192 to R202, R251, R307, R311). -/

namespace Sys2Proof.Claim

open Sys2Proof.Machine

variable {s : State} {q : Fin 4096}

/-- A pop of a word of the first packet (R199, R201). -/
theorem queuePop_word {p : Packet} {ps : List Packet} {v : QWord} {vs : List QWord} (hl : Live s)
    (hq : (s.chip.dev.q q).packets = p :: ps) (hw : p.words = v :: vs) (hen : s.chip.dev.rd (F.Q_CFG_EN q) ≠ 0)
    (herr : (s.chip.dev.q q).err = false) (hp : p.arrival.isSome = true) :
    Moves (.queuePop q) s fun d d' =>
      (d'.q q).packets = (if v.e then ps else { p with words := vs, begun := true } :: ps) ∧
      (d'.q q).openWords = (d.q q).openWords ∧ (d'.q q).remembered = (d.q q).epoch ∧
      (d'.q q).head + 64 * (d'.q q).crossing =
        (d.q q).head + 64 * (d.q q).crossing + (if v.e then p.words.length + p.gap else 1) ∧
      Sets d d' [] (countF q) ∧ QueuesBut d d' q ∧ QueueOnly d d' := by
  have hpop := Dev.pop_first hen herr hq hp hw
  rw [Queue.take_first hq hw v.e] at hpop
  refine .of_quiet hl rfl (hpop ▸ (Dev.shelved_turn ..).out) ?_
  rw [hpop]
  rw [Dev.q_turn, Queue.place_settled]
  refine ⟨rfl, rfl, rfl, ?_, (queueStep_turn ..).sets, (queueStep_turn ..).others, (queueStep_turn ..).only⟩
  exact Nat.add_right_comm _ _ _

/-- The first packet that no reader sees yet enters the view (R202, R251). -/
theorem packetVisible_first (d : Dev) {n : Nat} {p : Packet} {ps : List Packet} (hq : (d.q n).packets = p :: ps)
    (hnew : p.arrival = none) (hfree : p.hold = none) :
    d.packetVisible n = d.setQ n { (d.q n).label d.tick p |>.2 with packets := ((d.q n).label d.tick p).1 :: ps } := by
  unfold Dev.packetVisible Queue.showFirst
  simp [hq, hnew, hfree]

theorem packetVisible_none (d : Dev) {n : Nat} (hq : (d.q n).packets = []) : d.packetVisible n = d := by
  unfold Dev.packetVisible Queue.showFirst
  rw [hq]

/-- A plain pop of a queue with no packet (R201). -/
theorem pop_none (d : Dev) {n : Nat} (hq : (d.q n).packets = []) (hen : d.rd (F.Q_CFG_EN n) ≠ 0)
    (herr : (d.q n).err = false) : (d.pop n).1 = d.setQ n { d.q n with remembered := (d.q n).epoch } := by
  have hreason : d.emptyReason n < 2 := by
    unfold Dev.emptyReason
    rw [herr, decide_eq_false hen]
    split
    · next h => simp at h
    · split <;> decide
  unfold Dev.pop Dev.notValid
  simp [herr, hen, hq, hreason]

/-- Settles O15. The pushes by what the queue takes; pops and discards by the packets that leave it. -/
theorem queueMove : Obligations.QueueMove := by
  intro s q w e k p ps v vs hl
  refine ⟨?pushOpen, ?pushClose, ?disabled, ?overflow, fun hq hw hen herr hp => queuePop_word hl hq hw hen herr hp,
    ?popNone, ?visible, ?noneVisible, ?credit, ?discard, ?kept⟩
  case pushOpen =>
    rintro ⟨hen, herr, hdis, hc⟩
    refine .of_dev hl rfl ?_
    obtain ⟨hopen, hpackets, hword, hsets, hothers, honly⟩ := push_open_stored (w := ⟨w, false, k⟩) hl.2.2 hen herr hdis
      (fun h => hc.resolve_left (by simp [h])) rfl rfl
    exact ⟨hopen, hpackets, hword, hsets, hothers, honly⟩
  case pushClose =>
    rintro ⟨hen, herr, hdis, hc⟩
    refine .of_dev hl rfl ?_
    obtain ⟨hopen, hpackets, hword, hsets, hothers, honly⟩ := push_close_stored (w := ⟨w, true, k⟩) hl.2.2 hen herr hdis
      (fun h => hc.resolve_left (by simp [h])) rfl rfl
    exact ⟨hopen, hpackets, hword, hsets, hothers, honly⟩
  case disabled =>
    intro hen
    have hpush : (s.chip.dev.push q ⟨w, e, k⟩ none).1 = s.chip.dev := by rw [Dev.push]; simp [hen]
    exact .of_quiet hl rfl (by rw [hpush]) hpush
  case overflow =>
    intro hen herr hdis hneeds hcredit
    have hpush : (s.chip.dev.push q ⟨w, e, k⟩ none).1 = s.chip.dev.overflow q e := by
      rw [Dev.push]; simp [hen, herr, hdis, hneeds, hcredit]
    obtain ⟨hopen, hpackets, hdiscard, hsets, hothers, honly⟩ := overflow_spec q s.chip.dev e
    refine .of_quiet hl rfl (by rw [hpush]; exact (congrArg (·.pool.out) honly :)) ?_
    rw [hpush]
    exact ⟨hopen, hpackets, hdiscard, hsets.perm (.cons _ (List.reverse_perm [_, _, _])), hothers, honly⟩
  case popNone =>
    intro hq hen herr
    have hpop := pop_none s.chip.dev hq hen herr
    exact .of_quiet hl rfl (by rw [hpop]; rfl) hpop
  case visible =>
    intro hq hnew hfree
    have hshown := packetVisible_first s.chip.dev hq hnew hfree
    refine .of_quiet hl rfl (by rw [hshown]; rfl) ?_
    rw [hshown]
    refine ⟨?_, fun j hj => (Dev.q_setQ _ _ j _).trans (if_neg hj), rfl⟩
    rw [Dev.q_setQ_same]
    rfl
  case noneVisible =>
    intro hq
    have hnone := packetVisible_none s.chip.dev hq
    exact .of_quiet hl rfl (by rw [hnone]) hnone
  case credit => exact .of_quiet hl rfl rfl rfl
  case discard =>
    intro hpark hold
    obtain ⟨hpackets, hplaces, hopen, hstep, hout⟩ := parkedDiscard_spec q s.chip.dev hpark hold
    exact .of_quiet hl rfl hout ⟨hpackets, hplaces, hopen, hstep.sets, hstep.others, hstep.only⟩
  case kept =>
    intro h
    have hkept : s.chip.dev.parkedDiscard q = s.chip.dev := if_neg (by rcases h with h | h <;> simp [h])
    exact .of_quiet hl rfl (by rw [hkept]) hkept

end Sys2Proof.Claim
end

section
/-! SUPPORT. Resets of a queue, asked for and forced, and the errors that lead to them (R190, R203 to R208). -/

namespace Sys2Proof.Machine

/-- A queue at its reset point (R204). -/
def Queue.atReset (x : Queue) (forced : Bool) : Queue :=
  { x with packets := [], openWords := [], head := 0, chain := [], crossing := 0,
           discard := x.discard || decide (x.openWords ≠ []), epoch := (x.epoch + 1) % 65536, err := x.err || forced }

variable (d : Dev) (n : Nat)

/-- The live bits of a queue with no packet. -/
def Dev.liveWrites : List (Fld × Nat) :=
  [(F.Q_EV_HI_LIVE n, bit (decide (d.rd (F.Q_WM_HIGH n) = 0))), (F.Q_EV_LO_LIVE n, 1)]

theorem Dev.relive_zero : d.relive n 0 = d.wrs (d.liveWrites n) := by
  simp [Dev.relive, Dev.liveWrites, bit]

/-- The job that a reset leaves to the rake. -/
def Queue.resetJobs (x : Queue) (n : Nat) (forced : Bool) : List RakeJob :=
  if forced then [⟨.scan n, []⟩] else if x.chain = [] then [] else [⟨.reset n, x.chain⟩]

theorem Dev.resetQ_eq (forced : Bool) : d.resetQ n forced =
    Dev.wrs { d.setQ n ((d.q n).atReset forced) with rake := d.rake ++ (d.q n).resetJobs n forced } (d.liveWrites n) := by
  unfold Dev.resetQ
  extract_lets x d1 d2
  have hjobs : d2 = { d1 with rake := d.rake ++ (d.q n).resetJobs n forced } := by
    cases forced with
    | true => rfl
    | false =>
      cases hchain : (d.q n).chain with
      | nil =>
        have hnone : d2 = d1 := by simp [d2, x, Queue.alloc, hchain]
        rw [hnone, Queue.resetJobs, hchain, if_neg Bool.false_ne_true, if_pos rfl, List.append_nil]
        rfl
      | cons c cs => simp [d2, x, Queue.alloc, hchain, Queue.resetJobs, Dev.addRake, d1]
  rw [Dev.relive_zero, hjobs]
  rfl

/-- The writes of a forced reset's cause, and of an uncorrectable error. -/
def Dev.qerrWrites (cause : Nat) : List (Fld × Nat) :=
  [(F.Q_EV_QERR_EV n, 1), (F.QM_EVENTS_QERR_ANY, 1), (F.QM_QERR_Q, n), (F.QM_QERR_CAUSE, cause),
    (F.QM_QERR_COUNT, min (d.rd F.QM_QERR_COUNT + 1) 65535)]
def Dev.uncorrWrites (addr area : Nat) : List (Fld × Nat) :=
  [(F.QM_ECC_UNCORR, min (d.rd F.QM_ECC_UNCORR + 1) 65535), (F.QM_EVENTS_ECC_UNCORR_EV, 1), (F.QM_ECC_ADDR_ADDR, addr),
    (F.QM_ECC_ADDR_AREA, area)]

theorem Dev.eccFail_eq (addr area : Nat) : d.eccFail addr area = d.wrs (d.uncorrWrites addr area) := rfl

/-- All that a forced reset writes. -/
def Dev.forceWrites (cause : Nat) : List (Fld × Nat) := d.liveWrites n ++ d.qerrWrites n cause

/-- A queue's register fields are none of the queue manager's. -/
theorem queue_ne_manager {f g : Fld} (hf : f.reg < 0x210000)
    (hlo : f.lo < 32 := by exact Nat.le_of_ble_eq_true rfl) (hg : 0x210000 ≤ g.reg := by decide) : f.id ≠ g.id := by
  unfold Fld.id
  omega

theorem event_ne_manager {n : Nat} (h : n < 4096) {f g : Fld} (hf : f.reg = F.Q_EV n)
    (hlo : f.lo < 32 := by exact Nat.le_of_ble_eq_true rfl) (hg : 0x210000 ≤ g.reg := by decide) : f.id ≠ g.id :=
  queue_ne_manager (by rw [hf, F.Q_EV]; omega) hlo hg

/-- Where the watermarks stand. -/
theorem wm_ne_manager {n : Nat} (h : n < 4096) {g : Fld} (hg : 0x210000 ≤ g.reg := by decide) :
    (F.Q_WM_HIGH n).id ≠ g.id :=
  queue_ne_manager (by change F.Q_WM n < _; rw [F.Q_WM]; omega) (hg := hg)

theorem Dev.nodup_forceWrites {n : Nat} (h : n < 4096) (cause addr area : Nat) :
    ((d.forceWrites n cause ++ d.uncorrWrites addr area).map fun p => p.1.id).Nodup := by
  change ([F.Q_EV_HI_LIVE n, F.Q_EV_LO_LIVE n, F.Q_EV_QERR_EV n].map Fld.id ++
    [F.QM_EVENTS_QERR_ANY, F.QM_QERR_Q, F.QM_QERR_CAUSE, F.QM_QERR_COUNT, F.QM_ECC_UNCORR, F.QM_EVENTS_ECC_UNCORR_EV,
      F.QM_ECC_ADDR_ADDR, F.QM_ECC_ADDR_AREA].map Fld.id).Nodup
  refine List.nodup_append.mpr ⟨?_, by decide, ?_⟩
  · simp [Fld.id, F.Q_EV_HI_LIVE, F.Q_EV_LO_LIVE, F.Q_EV_QERR_EV]
  · simp only [List.mem_map]
    rintro _ ⟨f, hf, rfl⟩ _ ⟨g, hg, rfl⟩
    refine event_ne_manager h ?_ ?_ (?_ : 0x210000 ≤ g.reg)
    · simp only [List.mem_cons, List.not_mem_nil, or_false] at hf
      rcases hf with rfl | rfl | rfl <;> rfl
    · simp only [List.mem_cons, List.not_mem_nil, or_false] at hf
      rcases hf with rfl | rfl | rfl <;> exact Nat.le_of_ble_eq_true rfl
    · revert g
      decide

/-- The writes of a forced reset and of an error fit their fields. -/
theorem Dev.fits_forceWrites {n cause : Nat} (h : n < 4096) (hc : cause < 8) {addr area : Nat} (ha : addr < 2 ^ 26)
    (hr : area < 4) : ∀ p ∈ d.forceWrites n cause ++ d.uncorrWrites addr area, p.2 < 2 ^ p.1.width := by
  intro p hp
  simp only [Dev.forceWrites, Dev.liveWrites, Dev.qerrWrites, Dev.uncorrWrites, List.cons_append, List.nil_append,
    List.mem_cons, List.not_mem_nil, or_false] at hp
  have hcap : ∀ k, min (k + 1) 65535 < 65536 := fun k => by omega
  rcases hp with rfl | rfl | rfl | rfl | rfl | rfl | rfl | rfl | rfl | rfl | rfl
  · exact bit_lt_two _
  · exact Nat.one_lt_two
  · exact Nat.one_lt_two
  · exact Nat.one_lt_two
  · exact h
  · exact hc
  · exact hcap _
  · exact hcap _
  · exact Nat.one_lt_two
  · exact ha
  · exact hr

end Sys2Proof.Machine

namespace Sys2Proof.Claim

open Sys2Proof.Machine

variable {d e e' : Dev} {q : Nat} {l m : List (Fld × Nat)}

theorem Sets.trans (h : Sets d e l []) (h' : Sets e e' m [])
    (hd : ∀ i ∈ l.map (fun p => p.1.id), i ∉ m.map fun p => p.1.id) : Sets d e' (l ++ m) [] := by
  obtain ⟨hv, hf⟩ := h
  obtain ⟨hv', hf'⟩ := h'
  refine ⟨fun p hp => ?value, fun f hl _ => ?frame⟩
  case value =>
    rcases List.mem_append.mp hp with hp | hp
    · rw [hf' _ (hd _ (List.mem_map_of_mem hp)) List.not_mem_nil, hv p hp]
    · exact hv' p hp
  case frame =>
    rw [List.map_append, List.mem_append, not_or] at hl
    rw [hf' f hl.2 List.not_mem_nil, hf f hl.1 List.not_mem_nil]

/-- Only registers, queue `q` and the rake's work differ. -/
structure RakeStep (d e : Dev) (q : Nat) : Prop where
  others : QueuesBut d e q
  only : { e with regs := d.regs, queues := d.queues, rake := d.rake } = d

theorem RakeStep.wrs (h : RakeStep d e q) (l : List (Fld × Nat)) : RakeStep d (e.wrs l) q := by
  rw [Dev.wrs_eq]
  exact ⟨h.others, h.only⟩

theorem rakeStep_setQ (d : Dev) (q : Nat) (v : Queue) (r : List RakeJob) :
    RakeStep d { d.setQ q v with rake := r } q :=
  ⟨fun j hj => (Dev.q_setQ d q j v).trans (if_neg hj), rfl⟩

theorem q_wrs (d : Dev) (l : List (Fld × Nat)) (n : Nat) : (d.wrs l).q n = d.q n := by rw [Dev.wrs_eq]; rfl
theorem rake_wrs (d : Dev) (l : List (Fld × Nat)) : (d.wrs l).rake = d.rake := by rw [Dev.wrs_eq]
theorem pool_wrs (d : Dev) (l : List (Fld × Nat)) : (d.wrs l).pool = d.pool := by rw [Dev.wrs_eq]

/-- A queue that has been reset, and the rake's work after it. -/
structure WasReset (d e : Dev) (q : Nat) (forced : Bool) : Prop where
  queue : e.q q = (d.q q).atReset forced
  rake : e.rake = d.rake ++ (d.q q).resetJobs q forced
  pool : e.pool = d.pool
  step : RakeStep d e q

theorem wasReset_resetQ (d : Dev) (q : Nat) (forced : Bool) : WasReset d (d.resetQ q forced) q forced := by
  rw [Dev.resetQ_eq]
  exact ⟨(q_wrs ..).trans (Dev.q_setQ_same ..), rake_wrs .., pool_wrs .., (rakeStep_setQ ..).wrs _⟩

theorem WasReset.wrs {forced : Bool} (h : WasReset d e q forced) (l : List (Fld × Nat)) : WasReset d (e.wrs l) q forced :=
  ⟨(q_wrs ..).trans h.queue, (rake_wrs ..).trans h.rake, (pool_wrs ..).trans h.pool, h.step.wrs l⟩

/-- The registers a reset writes. -/
theorem regs_resetQ (d : Dev) (q : Nat) (forced : Bool) : (d.resetQ q forced).regs = (d.wrs (d.liveWrites q)).regs := by
  rw [Dev.resetQ_eq]
  rfl

section
variable (hq : q < 4096)
include hq

theorem rd_resetQ_count (d : Dev) (forced : Bool) : (d.resetQ q forced).rd F.QM_QERR_COUNT = d.rd F.QM_QERR_COUNT := by
  have hrd : (d.resetQ q forced).rd F.QM_QERR_COUNT = (d.wrs (d.liveWrites q)).rd F.QM_QERR_COUNT :=
    congrArg (fun r => Sparse.get fieldReset r F.QM_QERR_COUNT.id) (regs_resetQ d q forced)
  rw [hrd]
  refine Dev.rd_wrs_other d ?_
  simp only [Dev.liveWrites, List.map_cons, List.map_nil, List.mem_cons, List.not_mem_nil, or_false, not_or]
  exact ⟨(event_ne_manager hq rfl).symm, (event_ne_manager hq rfl).symm⟩

theorem forceReset_eq (d : Dev) (cause : Nat) : d.forceReset q cause = (d.resetQ q true).wrs (d.qerrWrites q cause) := by
  have hcount : ((d.resetQ q true).wrs [(F.Q_EV_QERR_EV q, 1), (F.QM_EVENTS_QERR_ANY, 1), (F.QM_QERR_Q, q),
      (F.QM_QERR_CAUSE, cause)]).rd F.QM_QERR_COUNT = d.rd F.QM_QERR_COUNT := by
    rw [Dev.rd_wrs_other, rd_resetQ_count hq]
    change F.QM_QERR_COUNT.id ∉ (F.Q_EV_QERR_EV q).id ::
      [F.QM_EVENTS_QERR_ANY, F.QM_QERR_Q, F.QM_QERR_CAUSE].map Fld.id
    exact List.not_mem_cons_of_ne_of_not_mem (event_ne_manager hq rfl).symm (by decide)
  unfold Dev.forceReset
  rw [Dev.bump_eq, show ((((d.resetQ q true).set (F.Q_EV_QERR_EV q)).set F.QM_EVENTS_QERR_ANY).wr F.QM_QERR_Q q).wr
    F.QM_QERR_CAUSE cause = (d.resetQ q true).wrs [(F.Q_EV_QERR_EV q, 1), (F.QM_EVENTS_QERR_ANY, 1), (F.QM_QERR_Q, q),
      (F.QM_QERR_CAUSE, cause)] from rfl, hcount]
  rfl

/-- What a forced reset sets (R204, R208). -/
theorem sets_forceReset (d : Dev) {cause : Nat} (hc : cause < 8) :
    Sets d (d.forceReset q cause) (d.forceWrites q cause) [] := by
  have hnodup := d.nodup_forceWrites hq cause 0 0
  rw [List.map_append] at hnodup
  have hfits := d.fits_forceWrites hq hc (addr := 0) (area := 0) (by decide) (by decide)
  refine (sets_wrs d _ (List.nodup_append.mp hnodup).1 fun p hp => hfits p (List.mem_append_left _ hp)).congr_regs rfl ?_
  rw [forceReset_eq hq, Dev.resetQ_eq]
  rfl

theorem wasReset_forceReset (d : Dev) (cause : Nat) : WasReset d (d.forceReset q cause) q true := by
  rw [forceReset_eq hq]
  exact (wasReset_resetQ d q true).wrs _

/-- A forced reset that follows an uncorrectable error sets the fields of both. -/
theorem sets_forceReset_after {d e : Dev} {cause addr area : Nat} (hc : cause < 8) (ha : addr < 2 ^ 26) (hr : area < 4)
    (h : e.regs = (d.eccFail addr area).regs) :
    Sets d (e.forceReset q cause) (d.forceWrites q cause ++ d.uncorrWrites addr area) [] := by
  have hnodup := d.nodup_forceWrites hq cause addr area
  have hfits := d.fits_forceWrites hq hc ha hr
  rw [List.map_append] at hnodup
  obtain ⟨-, hnodup', hapart⟩ := List.nodup_append.mp hnodup
  have herr : Sets d e (d.uncorrWrites addr area) [] :=
    (sets_wrs d _ hnodup' fun p hp => hfits p (List.mem_append_right _ hp)).congr_regs rfl h
  have hsame : e.forceWrites q cause = d.forceWrites q cause := by
    have hhigh : e.rd (F.Q_WM_HIGH q) = d.rd (F.Q_WM_HIGH q) := by
      refine herr.2 _ ?_ List.not_mem_nil
      simp only [Dev.uncorrWrites, List.map_cons, List.map_nil, List.mem_cons, List.not_mem_nil, or_false, not_or]
      exact ⟨wm_ne_manager hq, wm_ne_manager hq, wm_ne_manager hq, wm_ne_manager hq⟩
    have hcount : e.rd F.QM_QERR_COUNT = d.rd F.QM_QERR_COUNT := by
      refine herr.2 _ ?_ List.not_mem_nil
      change _ ∉ [F.QM_ECC_UNCORR, F.QM_EVENTS_ECC_UNCORR_EV, F.QM_ECC_ADDR_ADDR, F.QM_ECC_ADDR_AREA].map Fld.id
      decide
    unfold Dev.forceWrites Dev.liveWrites Dev.qerrWrites
    rw [hhigh, hcount]
  have hforce := sets_forceReset hq e hc
  rw [hsame] at hforce
  exact (herr.trans hforce fun i hi hj => hapart i hj i hi rfl).perm List.perm_append_comm

end

/-- The queue's cells after an error in one of them: the row is bad, and its owner suffers. -/
theorem cellFail_queue (d : Dev) {addr area n : Nat} (h : (d.cell (addr / 256)).owner = .queue n) :
    d.cellFail addr area = (if area = 1 then d.eccFail (addr / 256 * 256) 1 else d.rowFail (addr / 8 * 8) 0).forceReset n
      (2 + area) := by
  unfold Dev.cellFail
  have hcell : ∀ c, ((if area = 1 then d.eccFail (addr / 256 * 256) 1 else d.rowFail (addr / 8 * 8) 0).cell c) = d.cell c := by
    intro c
    split <;> rfl
  dsimp only
  rw [hcell, h]

theorem cellFail_ring (d : Dev) {addr area p : Nat} (h : (d.cell (addr / 256)).owner = .ring p) :
    d.cellFail addr area = if area = 1 then d.eccFail (addr / 256 * 256) 1 else d.rowFail (addr / 8 * 8) 0 := by
  unfold Dev.cellFail
  have hcell : ∀ c, ((if area = 1 then d.eccFail (addr / 256 * 256) 1 else d.rowFail (addr / 8 * 8) 0).cell c) = d.cell c := by
    intro c
    split <;> rfl
  dsimp only
  rw [hcell, h]

theorem cellFail_free (d : Dev) {addr area : Nat} (h : (d.cell (addr / 256)).owner = .free) :
    d.cellFail addr area =
      (if area = 1 then d.eccFail (addr / 256 * 256) 1 else d.rowFail (addr / 8 * 8) 0).zeroCell (addr / 256) := by
  unfold Dev.cellFail
  have hcell : ∀ c, ((if area = 1 then d.eccFail (addr / 256 * 256) 1 else d.rowFail (addr / 8 * 8) 0).cell c) = d.cell c := by
    intro c
    split <;> rfl
  dsimp only
  rw [hcell, h]

end Sys2Proof.Claim
end
section
/-! SUPPORT. Cells that go back to the common list, and a free cell that is rewritten with zeros (R190, R195, R206,
R208). -/

namespace Sys2Proof.Machine

theorem Sparse.mem_erase {α : Type} {k : Nat} {p : Nat × α} : ∀ {m : List (Nat × α)},
    p ∈ Sparse.erase m k ↔ p.1 ≠ k ∧ p ∈ m
  | [] => by simp [Sparse.erase]
  | (j, w) :: m => by
    have ih := Sparse.mem_erase (k := k) (p := p) (m := m)
    rw [Sparse.erase]
    split
    · next h =>
      subst h
      rw [ih, List.mem_cons]
      exact ⟨fun ⟨hne, hm⟩ => ⟨hne, .inr hm⟩, fun ⟨hne, hm⟩ => ⟨hne, hm.resolve_left fun he => hne (he ▸ rfl)⟩⟩
    · next h =>
      rw [List.mem_cons, List.mem_cons, ih]
      constructor
      · rintro (rfl | ⟨hne, hm⟩)
        · exact ⟨h, .inl rfl⟩
        · exact ⟨hne, .inr hm⟩
      · rintro ⟨hne, rfl | hm⟩
        · exact .inl rfl
        · exact .inr ⟨hne, hm⟩

theorem mem_foldl_erase {α : Type} {p : Nat × α} : ∀ (l : List Nat) {m : List (Nat × α)},
    p ∈ l.foldl Sparse.erase m ↔ p.1 ∉ l ∧ p ∈ m
  | [], m => by simp
  | k :: l, m => by
    rw [List.foldl_cons, mem_foldl_erase l, Sparse.mem_erase, List.mem_cons, not_or]
    tauto

variable (d : Dev) (n : Nat)

/-- Cells that become free are listed no more. -/
theorem Dev.cells_each_freeCell (l : List Nat) :
    (d.each l Dev.freeCell).pool.cells = l.foldl Sparse.erase d.pool.cells := by
  induction l generalizing d with
  | nil => rfl
  | cons c l ih =>
    refine (ih (d.freeCell c)).trans (congrArg (l.foldl Sparse.erase ·) ?_)
    change Sparse.set (fun _ => ⟨.free, 0⟩) d.pool.cells c ⟨.free, 0⟩ = _
    exact if_pos rfl

/-- An owner's cells are those listed with its name. -/
theorem Dev.mem_cellsOf {c : Nat} : c ∈ d.cellsOf n ↔ ∃ m, (c, m) ∈ d.pool.cells ∧ m.owner = .queue n := by
  simp [Dev.cellsOf, List.mem_map, List.mem_filter]

theorem Dev.held_cells {d e : Dev} (h : e.pool.cells = d.pool.cells) : e.held n = d.held n := by
  unfold Dev.held Dev.cellsOf
  rw [h]

/-- A queue whose cells are all returned holds none. -/
theorem Dev.held_all {d e : Dev} (h : e.pool.cells = (d.cellsOf n).foldl Sparse.erase d.pool.cells) : e.held n = 0 := by
  unfold Dev.held
  rw [List.length_eq_zero_iff, List.eq_nil_iff_forall_not_mem]
  intro c hc
  obtain ⟨m, hm, ho⟩ := (e.mem_cellsOf n).mp hc
  rw [h, mem_foldl_erase] at hm
  exact hm.1 ((d.mem_cellsOf n).mpr ⟨m, hm.2, ho⟩)

/-- One that returns a cell of its own holds fewer. -/
theorem Dev.held_one {d e : Dev} {c : Nat} {cs : List Nat} (hc : d.cellsOf n = c :: cs)
    (h : e.pool.cells = Sparse.erase d.pool.cells c) : e.held n < d.held n := by
  have hsub : (e.cellsOf n).Sublist (d.cellsOf n) := by
    unfold Dev.cellsOf
    rw [h]
    exact ((Sparse.erase_sublist c _).filter _).map _
  refine lt_of_le_of_ne hsub.length_le fun hlen => ?_
  have hmem : c ∈ e.cellsOf n := by
    rw [hsub.eq_of_length hlen, hc]
    exact List.mem_cons_self
  obtain ⟨m, hm, -⟩ := (e.mem_cellsOf n).mp hmem
  rw [h, Sparse.mem_erase] at hm
  exact hm.1 rfl

/-- A store of zeros leaves zeros. -/
theorem Mem.byte_store_zero : ∀ (n a : Nat) (m : Mem) {b : Nat}, a ≤ b ∧ b < a + n ∨ m.byte b = 0 →
    (m.store a n 0).byte b = 0
  | 0, _, _, _, h => h.resolve_left (by omega)
  | n + 1, a, m, b, h => by
    rw [Mem.store]
    refine Mem.byte_store_zero n (a + 1) _ ?_
    rw [Mem.byte_setByte]
    by_cases hb : b = a
    · rw [if_pos hb, Nat.zero_div]
      exact .inr rfl
    · rw [if_neg hb]
      exact h.imp (fun ⟨h1, h2⟩ => ⟨by omega, by omega⟩) id

theorem Mem.byte_stores_zero (f : Nat → Nat) : ∀ (l : List Nat) (m : Mem) {b : Nat},
    (∃ i ∈ l, f i ≤ b ∧ b < f i + 4) ∨ m.byte b = 0 →
    ((l.map fun i => (f i, 0)).foldl (fun m p => m.store p.1 4 p.2) m).byte b = 0
  | [], _, _, h => h.resolve_left (by simp)
  | i :: l, m, b, h => by
    rw [List.map_cons, List.foldl_cons]
    refine Mem.byte_stores_zero f l _ ?_
    rcases h with ⟨j, hj, hb⟩ | hb
    · rcases List.mem_cons.mp hj with rfl | hj
      · exact .inr (Mem.byte_store_zero 4 _ m (.inl hb))
      · exact .inl ⟨j, hj, hb⟩
    · exact .inr (Mem.byte_store_zero 4 _ m (.inr hb))

/-- At the end of the command a free cell that is rewritten reads zeros, and no other byte has changed (R190). -/
theorem Chip.zeroCell_settleCells (c : Chip) (n : Nat) (hout : c.dev.pool.out = []) {c' : Chip}
    (h : (c.onDev fun d => d.zeroCell n).settleCells = c') :
    (∀ i ∈ List.range 256, c'.mem.byte (n * 256 + i) = 0) ∧
      (∀ b, b < n * 256 ∨ n * 256 + 256 ≤ b → c'.mem.byte b = c.mem.byte b) ∧ c'.mem.flash = c.mem.flash ∧
      c'.dev = { c.dev with badRows := c.dev.badRows.filter (fun a => a / 256 != n), pool := c'.dev.pool } := by
  have hwords : (c.onDev fun d => d.zeroCell n).dev.pool.out = (List.range 64).map fun i => (256 * n + 4 * i, 0) := by
    change c.dev.pool.out ++ _ = _
    rw [hout, List.nil_append]
  have hne : (c.onDev fun d => d.zeroCell n).dev.pool.out ≠ [] := by rw [hwords]; simp
  have hmem : c'.mem = ((List.range 64).map fun i => (256 * n + 4 * i, 0)).foldl (fun m p => m.store p.1 4 p.2) c.mem := by
    rw [← h, Chip.settleCells, if_neg hne, hwords]
    rfl
  obtain ⟨-, -, -, hflash⟩ := (c.onDev fun d => d.zeroCell n).settleCells_spec
  refine ⟨fun i hi => ?_, fun b hb => ?_, by rw [← h]; exact hflash, by rw [← h, Chip.settleCells, if_neg hne]; rfl⟩
  · have hlt := List.mem_range.mp hi
    rw [hmem]
    exact Mem.byte_stores_zero (fun i => 256 * n + 4 * i) (List.range 64) c.mem
      (.inl ⟨i / 4, List.mem_range.mpr (by omega), by omega, by omega⟩)
  · rw [← h, Chip.byte_settleCells]
    · rfl
    · rw [hwords]
      intro a ha
      obtain ⟨i, hi, rfl⟩ := List.mem_map.mp ha
      have hlt := List.mem_range.mp hi
      dsimp only
      omega

end Sys2Proof.Machine
end

section
/-! SUPPORT. What resets, the owner scan, the rake and the scrubber come to (R190, R191, R203 to R208). -/

namespace Sys2Proof.Claim

open Sys2Proof.Machine

variable {s : State} {q : Nat} {d e : Dev}

/-- Cells that go back from queue `q` to the common list, and their credit (R196, R202). -/
theorem returnCells_spec (d : Dev) (q : Nat) (l : List Nat) (he : d.returnCells q l = e) :
    e.q q = { d.q q with crossing := (d.q q).crossing + l.length } ∧ QueuesBut d e q ∧
      { e with regs := d.regs, queues := d.queues, pool := d.pool } = d ∧
      e.pool.cells = l.foldl Sparse.erase d.pool.cells ∧ e.pool.out = d.pool.out ∧
      Sets d e [(F.QM_FREE_COMMON, (d.rd F.QM_FREE_COMMON + l.length) % 2 ^ 17)] [] := by
  subst he
  unfold Dev.returnCells
  extract_lets x d1
  have hcells := d1.cells_each_freeCell l
  have hout := (d1.each_freeCell q l).1.out
  obtain ⟨y, hy⟩ := queueStep_each_freeCell d1 l
  rw [hy] at hcells hout ⊢
  have hwr := (writes_cut { d1 with pool := y } F.QM_FREE_COMMON (d.rd F.QM_FREE_COMMON + l.length)).1
  exact ⟨Dev.q_setQ_same _ _ _, fun j hj => (Dev.q_setQ d q j _).trans (if_neg hj), rfl, hcells, hout,
    hwr.congr_regs rfl rfl⟩

/-- The owner of a rake's job of queue `q` that is no scan. -/
theorem owner_of_ofQueue {j : RakeJob} (h : j.ofQueue q = true) (hs : j.isScan = false) :
    j.owner = .reset q ∨ j.owner = .abandon q := by
  obtain ⟨o, cells⟩ := j
  cases o with
  | reset n => exact .inl (congrArg RakeOwner.reset (beq_iff_eq.mp h))
  | abandon n => exact .inr (congrArg RakeOwner.abandon (beq_iff_eq.mp h))
  | scan n => cases hs
  | ring p => cases h

/-- The work left to the rake once it has returned a cell of the job it serves. -/
def rakeRest (j : RakeJob) (js : List RakeJob) : List RakeJob :=
  if j.cells.length ≤ 1 then js else { j with cells := j.cells.drop 1 } :: js

section
variable {j : RakeJob} {js : List RakeJob} (hr : d.rake = j :: js)
include hr

theorem rakeCell_scan (ho : j.owner = .scan q) : d.rakeCell = d.returnCells q ((d.cellsOf q).take 1) := by
  unfold Dev.rakeCell
  rw [hr]
  dsimp only
  rw [ho]

theorem rakeCell_ring {p : Nat} (ho : j.owner = .ring p) : d.rakeCell =
    (({ d with rake := rakeRest j js }.each (j.cells.take 1) Dev.freeCell)).wr (F.MAC_POOL_FREE p)
      (d.rd (F.MAC_POOL_FREE p) + (j.cells.take 1).length) := by
  obtain ⟨o, cells⟩ := j
  obtain rfl : o = .ring p := ho
  unfold Dev.rakeCell
  rw [hr]
  rfl

theorem rakeCell_queue (ho : j.ofQueue q = true) (hs : j.isScan = false) : d.rakeCell =
    if d.chainBroken q j.cells then d.brokenChain q
    else { d with rake := rakeRest j js }.returnCells q (j.cells.take 1) := by
  have howner := owner_of_ofQueue ho hs
  obtain ⟨o, cells⟩ := j
  unfold Dev.rakeCell
  rw [hr]
  rcases howner with h | h <;> obtain rfl : o = _ := h <;> rfl

theorem ownerScanEnd_eq (ho : j.owner = .scan q) : d.ownerScanEnd q =
    ((Dev.setQ { d with rake := js.filter fun i => i.isScan || !i.ofQueue q } q
      { d.q q with err := js.any fun i => i.owner == .scan q }).returnCells q (d.cellsOf q)) := by
  unfold Dev.ownerScanEnd
  rw [hr]
  dsimp only
  rw [if_neg (not_not.mpr ho)]
  rfl

end

end Sys2Proof.Claim
end
section
/-! SUPPORT. The scrubber's errors by the owner of the cell, and the rake's work (R190, R191, R206 to R208). -/

namespace Sys2Proof.Claim

open Sys2Proof.Machine

variable {s : State} {q : Nat} {d e : Dev}

/-- What a queue has lost in a forced reset (R204, R208). -/
theorem WasReset.fell (h : WasReset d e q true) : (e.q q).packets = [] ∧ (e.q q).openWords = [] ∧ (e.q q).chain = [] ∧
    (e.q q).err = true ∧ (e.q q).epoch = ((d.q q).epoch + 1) % 65536 := by
  rw [h.queue]
  exact ⟨rfl, rfl, rfl, Bool.or_true _, rfl⟩

/-- The bad rows after an error in row `row`. -/
def withBadRow (rows : List Nat) (row : Nat) : List Nat := if rows.contains row then rows else row :: rows

/-- A forced reset of queue `q` for an uncorrectable error at `addr`: what it sets, the queue's loss, the rake's work,
and the frame but for the bad rows. -/
structure FellTo (d e : Dev) (q cause addr area : Nat) (rows : List Nat) : Prop where
  sets : Sets d e (d.forceWrites q cause ++ d.uncorrWrites addr area) []
  rows : e.badRows = rows
  step : RakeStep d { e with badRows := d.badRows } q
  fell : (e.q q).packets = [] ∧ (e.q q).openWords = [] ∧ (e.q q).chain = [] ∧ (e.q q).err = true ∧
    (e.q q).epoch = ((d.q q).epoch + 1) % 65536
  rake : e.rake = d.rake ++ [⟨.scan q, []⟩]
  out : e.pool.out = d.pool.out

theorem RakeStep.badRows (h : RakeStep d e q) : e.badRows = d.badRows := (congrArg Dev.badRows h.only :)

/-- The rake's step on a device `x` that differs from `d` in what the step may change, or in the bad rows. -/
theorem RakeStep.past {x : Dev} (h : RakeStep x e q)
    (hx : { x with regs := d.regs, rake := d.rake, badRows := d.badRows } = d) :
    RakeStep d { e with badRows := d.badRows } q := by
  have hqueues : x.queues = d.queues := (congrArg Dev.queues hx :)
  refine ⟨fun j hj => (h.others j hj).trans (congrArg (fun l => Sparse.get (fun _ => Queue.init) l j) hqueues), ?_⟩
  exact (congrArg (fun y : Dev => { y with regs := d.regs, rake := d.rake, queues := d.queues, badRows := d.badRows })
    h.only).trans ((congrArg (fun y : Dev => { y with queues := d.queues }) hx).trans rfl)

/-- A forced reset after an error that is counted on device `x`. -/
theorem WasReset.fellTo {x : Dev} {cause addr area : Nat} (h : WasReset x e q true)
    (hsets : Sets d e (d.forceWrites q cause ++ d.uncorrWrites addr area) [])
    (hx : { x with regs := d.regs, rake := d.rake, badRows := d.badRows } = d) (hr : x.rake = d.rake) :
    FellTo d e q cause addr area x.badRows := by
  have hqueues : x.q q = d.q q := (congrArg (Dev.q · q) hx :)
  have hpool : x.pool = d.pool := (congrArg Dev.pool hx :)
  exact ⟨hsets, h.step.badRows, h.step.past hx, hqueues ▸ h.fell, hr ▸ h.rake, by rw [h.pool, hpool]⟩

/-- An error in the data of a queue's cell. -/
theorem fellTo_row (d : Dev) (hq : q < 4096) {row : Nat} (hrow : row < 2 ^ 26) :
    FellTo d ((d.rowFail row 0).forceReset q 2) q 2 row 0 (withBadRow d.badRows row) :=
  (wasReset_forceReset hq (d.rowFail row 0) 2).fellTo (sets_forceReset_after hq (by decide) hrow (by decide) rfl) rfl rfl

/-- An error in the tag or the metadata of a queue's cell. -/
theorem fellTo_meta (d : Dev) (hq : q < 4096) {addr : Nat} (haddr : addr < 2 ^ 26) :
    FellTo d ((d.eccFail addr 1).forceReset q 3) q 3 addr 1 d.badRows :=
  (wasReset_forceReset hq (d.eccFail addr 1) 3).fellTo (sets_forceReset_after hq (by decide) haddr (by decide) rfl) rfl rfl

theorem FellTo.only {cause addr area : Nat} (h : FellTo d e q cause addr area d.badRows) :
    QueuesBut d e q ∧ { e with regs := d.regs, queues := d.queues, rake := d.rake } = d := by
  refine ⟨h.step.others, (congrArg (fun x : Dev => { x with badRows := e.badRows }) h.step.only :).trans ?_⟩
  rw [h.rows]

/-- An error that is counted. -/
theorem writes_eccFail (d : Dev) {addr area : Nat} (ha : addr < 2 ^ 26) (hr : area < 4) :
    Writes d (d.eccFail addr area) (d.uncorrWrites addr area) [] := by
  have hnodup := d.nodup_forceWrites (n := 0) (by decide) 0 addr area
  have hfits := d.fits_forceWrites (n := 0) (cause := 0) (by decide) (by decide) ha hr
  rw [List.map_append] at hnodup
  exact writes_wrs d _ (List.nodup_append.mp hnodup).2.1 fun p hp => hfits p (List.mem_append_right _ hp)

/-- A single-bit error is counted (R190). -/
theorem writes_corrected (d : Dev) : Writes d ((d.bump F.QM_ECC_CORR 1).set F.QM_EVENTS_ECC_CORR_EV)
    [(F.QM_ECC_CORR, min (d.rd F.QM_ECC_CORR + 1) 65535), (F.QM_EVENTS_ECC_CORR_EV, 1)] [] := by
  refine writes_wrs d [(F.QM_ECC_CORR, min (d.rd F.QM_ECC_CORR + 1) 65535), (F.QM_EVENTS_ECC_CORR_EV, 1)] ?_ fun p hp => ?_
  · change ([F.QM_ECC_CORR, F.QM_EVENTS_ECC_CORR_EV].map Fld.id).Nodup
    decide
  · simp only [List.mem_cons, List.not_mem_nil, or_false] at hp
    rcases hp with rfl | rfl
    · change min (d.rd F.QM_ECC_CORR + 1) 65535 < 65536
      omega
    · exact Nat.one_lt_two

/-- The rake gives a broken chain up (R207). -/
theorem brokenChain_spec (d : Dev) (hq : q < 4096) {j : RakeJob} {js : List RakeJob} (hr : d.rake = j :: js) :
    Sets d (d.brokenChain q) (d.forceWrites q 4) [] ∧ RakeStep d (d.brokenChain q) q ∧
      ((d.brokenChain q).q q).packets = [] ∧ ((d.brokenChain q).q q).openWords = [] ∧
      ((d.brokenChain q).q q).chain = [] ∧ ((d.brokenChain q).q q).err = true ∧
      ((d.brokenChain q).q q).epoch = ((d.q q).epoch + 1) % 65536 ∧
      (d.brokenChain q).rake = js ++ [⟨.scan q, []⟩] ∧ (d.brokenChain q).pool = d.pool := by
  have hforced : d.brokenChain q = Dev.forceReset { d with rake := d.rake.drop 1 } q 4 := rfl
  have hreset := wasReset_forceReset hq { d with rake := d.rake.drop 1 } 4
  have hsets := sets_forceReset hq { d with rake := d.rake.drop 1 } (cause := 4) (by decide)
  rw [← hforced] at hreset hsets
  generalize d.brokenChain q = e at *
  obtain ⟨hpackets, hopen, hchain, herr, hepoch⟩ := hreset.fell
  refine ⟨hsets, ⟨hreset.step.others, ?_⟩, hpackets, hopen, hchain, herr, hepoch, ?_, hreset.pool⟩
  · exact (congrArg (fun x : Dev => { x with rake := d.rake }) hreset.step.only :)
  · refine hreset.rake.trans ?_
    rw [hr]
    rfl

end Sys2Proof.Claim
end

section
/-! SUPPORT. Resets, the owner scan, the rake and the patrol scrubber (R190, R191, R203 to R208). -/

namespace Sys2Proof.Claim

open Sys2Proof.Machine

variable {s : State} {q : Fin 4096}

/-- A written reset reaches its reset point (R204). -/
theorem queueReset_asked (hl : Live s) (hasked : 0 < (s.chip.dev.q q).asked) :
    Moves (.queueReset q) s fun d d' =>
      Sets d d' (d.liveWrites q) [] ∧ RakeStep d d' q ∧ (d'.q q).packets = [] ∧ (d'.q q).openWords = [] ∧
      (d'.q q).chain = [] ∧ (d'.q q).epoch = ((d.q q).epoch + 1) % 65536 ∧ (d'.q q).asked + 1 = (d.q q).asked ∧
      d'.held q = d.held q ∧
      d'.rake = d.rake ++ (if (d.q q).chain = [] then [] else [⟨.reset q, (d.q q).chain⟩]) := by
  have heq : s.chip.dev.askedReset q = (s.chip.dev.resetQ q false).setQ q
      { (s.chip.dev.resetQ q false).q q with asked := ((s.chip.dev.resetQ q false).q q).asked - 1 } :=
    if_neg (by omega)
  obtain ⟨hqueue, hrake, hpool, hothers, honly⟩ := wasReset_resetQ s.chip.dev q false
  have hsets : Sets s.chip.dev (s.chip.dev.resetQ q false) (s.chip.dev.liveWrites q) [] := by
    have hnodup := s.chip.dev.nodup_forceWrites q.isLt 0 0 0
    rw [List.map_append] at hnodup
    have hlive := (List.nodup_append.mp hnodup).1
    rw [Dev.forceWrites, List.map_append] at hlive
    have hfits := s.chip.dev.fits_forceWrites q.isLt (cause := 0) (by decide) (addr := 0) (area := 0) (by decide) (by decide)
    exact (sets_wrs _ _ (List.nodup_append.mp hlive).1 fun p hp =>
      hfits p (List.mem_append_left _ (List.mem_append_left _ hp))).congr_regs rfl (regs_resetQ ..)
  refine .of_quiet hl rfl (by rw [heq]; exact congrArg Pool.out hpool) ?_
  rw [heq, Dev.q_setQ_same, hqueue]
  refine ⟨hsets, ⟨fun j hj => (Dev.q_setQ _ _ j _).trans ((if_neg hj).trans (hothers j hj)), ?_⟩, rfl, rfl, rfl, rfl,
    Nat.sub_add_cancel hasked, Dev.held_cells q (congrArg Pool.cells hpool), hrake⟩
  exact (congrArg (fun x : Dev => { x with queues := s.chip.dev.queues }) honly :)

end Sys2Proof.Claim
end
section
/-! SUPPORT. The statement about resets, the rake and the scrubber (R190, R191, R203 to R208). -/

namespace Sys2Proof.Claim

open Sys2Proof.Machine

variable {s : State} {q : Fin 4096}

/-- An error in a cell of queue `q` that its command comes to. -/
theorem Moves.of_fellTo {i : Instr} {f : Dev → Dev} {cause addr area : Nat} {rows : List Nat} {p : Dev → Dev → Prop}
    (hl : Live s) (he : exec i s = s.dev f) {e : Dev} (hf : f s.chip.dev = e)
    (h : FellTo s.chip.dev e q cause addr area rows) (hp : p s.chip.dev e) : Moves i s p := by
  subst hf
  exact .of_quiet hl he h.out hp

/-- What a return of the cells `l` of queue `q` leaves, on a device `x` that differs from `d` in the queue and in the
rake's work. -/
structure Returned (d x e : Dev) (q : Nat) (l : List Nat) : Prop where
  sets : Sets d e [(F.QM_FREE_COMMON, (d.rd F.QM_FREE_COMMON + l.length) % 2 ^ 17)] []
  step : RakeStep d { e with pool := d.pool } q
  queue : e.q q = { x.q q with crossing := (x.q q).crossing + l.length }
  rake : e.rake = x.rake
  cells : e.pool.cells = l.foldl Sparse.erase d.pool.cells
  out : e.pool.out = d.pool.out

theorem returned (d x : Dev) {q : Nat} (hx : { x with queues := d.queues, rake := d.rake } = d) (ho : QueuesBut d x q)
    (l : List Nat) : Returned d x (x.returnCells q l) q l := by
  obtain ⟨hqueue, hothers, honly, hcells, hout, hsets⟩ := returnCells_spec x q l rfl
  generalize x.returnCells q l = e at *
  have hregs : x.regs = d.regs := (congrArg Dev.regs hx :)
  have hpool : x.pool = d.pool := (congrArg Dev.pool hx :)
  have hfree : x.rd F.QM_FREE_COMMON = d.rd F.QM_FREE_COMMON := by unfold Dev.rd; rw [hregs]
  refine ⟨hfree ▸ hsets.congr_regs hregs rfl, ⟨fun i hi => (hothers i hi).trans (ho i hi), ?_⟩, hqueue,
    (congrArg Dev.rake honly :), hpool ▸ hcells, hpool ▸ hout⟩
  exact (congrArg (fun y : Dev => { y with regs := d.regs, queues := d.queues, rake := d.rake, pool := d.pool })
    honly).trans ((congrArg (fun y : Dev => { y with regs := d.regs, pool := d.pool }) hx).trans rfl)

theorem rakeRest_eq {j : RakeJob} {js : List RakeJob} (h : 0 < j.cells.length) :
    rakeRest j js = if j.cells.length = 1 then js else { j with cells := j.cells.drop 1 } :: js := by
  unfold rakeRest
  exact if_congr (by omega) rfl rfl

/-- Rewriting the cell of a bad row makes all of its rows good. -/
theorem filter_withBadRow (rows : List Nat) (row : Nat) :
    (withBadRow rows row).filter (fun a => a / 256 != row / 256) = rows.filter fun a => a / 256 ≠ row / 256 := by
  have hrows : rows.filter (fun a => a / 256 != row / 256) = rows.filter fun a => a / 256 ≠ row / 256 :=
    List.filter_congr fun a _ => by rw [bne, beq_eq_decide, decide_not]
  unfold withBadRow
  split
  · exact hrows
  · rw [List.filter_cons_of_neg (by simp), hrows]

/-- The owner scan ends (R208). -/
theorem returned_ownerScanEnd {d : Dev} {j : RakeJob} {js : List RakeJob} (hr : d.rake = j :: js)
    (ho : j.owner = .scan q) : Returned d (Dev.setQ { d with rake := js.filter fun i => i.isScan || !i.ofQueue q } q
      { d.q q with err := js.any fun i => i.owner == .scan q }) (d.ownerScanEnd q) q (d.cellsOf q) := by
  rw [ownerScanEnd_eq hr ho]
  exact returned d (Dev.setQ { d with rake := js.filter fun i => i.isScan || !i.ofQueue q } q
    { d.q q with err := js.any fun i => i.owner == .scan q }) rfl (fun i hi => (Dev.q_setQ _ _ i _).trans (if_neg hi)) _

/-- The rake returns a cell to a port's pool (R195, R206). -/
theorem rakeRing_spec {d : Dev} {j : RakeJob} {js : List RakeJob} {c : Nat} {cs : List Nat} {p : Nat}
    (hr : d.rake = j :: js) (hc : j.cells = c :: cs) (ho : j.owner = .ring p) :
    Sets d d.rakeCell [(F.MAC_POOL_FREE p, (d.rd (F.MAC_POOL_FREE p) + 1) % 65536)] [] ∧
      (d.rakeCell.cell c).owner = .free ∧ { d.rakeCell with regs := d.regs, rake := d.rake, pool := d.pool } = d ∧
      d.rakeCell.pool.out = d.pool.out := by
  rw [rakeCell_ring hr ho, hc]
  have hwr := (writes_cut (Dev.freeCell { d with rake := rakeRest j js } c) (F.MAC_POOL_FREE p)
    (d.rd (F.MAC_POOL_FREE p) + 1)).1
  exact ⟨hwr.congr_regs rfl rfl, congrArg CellMeta.owner (Dev.cell_setCell_same _ c _), rfl, rfl⟩

/-- Settles O16. Resets by what they leave of the queue; the rake and the scrubber by whose the cell is. -/
theorem queueReset : Obligations.QueueReset := by
  intro s q cause addr j js hl
  have hrow : addr.toNat / 8 * 8 < 2 ^ 26 := (Nat.div_mul_le_self _ _).trans_lt addr.isLt
  have hmeta : addr.toNat / 256 * 256 < 2 ^ 26 := (Nat.div_mul_le_self _ _).trans_lt addr.isLt
  have hrows : addr.toNat / 8 * 8 / 8 * 8 = addr.toNat / 8 * 8 := by omega
  have hcell : addr.toNat / 8 * 8 / 256 = addr.toNat / 256 := by omega
  refine ⟨.of_quiet hl rfl rfl rfl, ?asked, ?unasked, ?pointers, ?row, ?entry, ?ring, ?chain, ?noChain, ?scanEnd,
    ?rakeBroken, ?rakeCell, ?rakeScan, ?rakeRing, ?rakeNone, .of_quiet hl rfl rfl rfl, ?corrected, ?page, ?pageMeta,
    ?scrubRow, ?scrubMeta, ?scrubRing, ?scrubFree⟩
  case asked =>
    intro hasked
    obtain ⟨d, he, hsets, hstep, hrest⟩ := queueReset_asked hl hasked
    exact ⟨d, he, hsets, ⟨hstep.others, hstep.only⟩, hrest⟩
  case unasked =>
    intro hasked
    have hkept : s.chip.dev.askedReset q = s.chip.dev := if_pos hasked
    exact .of_quiet hl rfl (by rw [hkept]) hkept
  case pointers =>
    intro hc
    have heq : s.chip.dev.forcedReset q (cause + 1) addr.toNat = s.chip.dev.forceReset q 1 := by rw [hc]; rfl
    have hreset := wasReset_forceReset q.isLt s.chip.dev 1
    refine .of_quiet hl rfl (heq ▸ congrArg Pool.out hreset.pool) ?_
    rw [heq]
    exact ⟨sets_forceReset q.isLt s.chip.dev (by decide), ⟨hreset.step.others, hreset.step.only⟩, hreset.fell, hreset.rake⟩
  case row =>
    intro hc ho
    have heq : s.chip.dev.forcedReset q (cause + 1) addr.toNat =
        (s.chip.dev.rowFail (addr.toNat / 8 * 8) 0).forceReset q 2 := by
      rw [hc]; exact cellFail_queue s.chip.dev ho
    have h := fellTo_row s.chip.dev q.isLt hrow
    exact .of_fellTo hl rfl heq h ⟨h.sets, h.rows, ⟨h.step.others, h.step.only⟩, h.fell, h.rake⟩
  case entry =>
    intro hc ho
    have heq : s.chip.dev.forcedReset q (cause + 1) addr.toNat =
        (s.chip.dev.eccFail (addr.toNat / 256 * 256) 1).forceReset q 3 := by
      rw [hc]; exact cellFail_queue s.chip.dev ho
    have h := fellTo_meta s.chip.dev q.isLt hmeta
    exact .of_fellTo hl rfl heq h ⟨h.sets, h.only, h.fell, h.rake⟩
  case ring =>
    intro hc ho
    have heq : s.chip.dev.forcedReset q (cause + 1) addr.toNat = s.chip.dev.eccFail (addr.toNat / 256 * 256) 1 := by
      rw [hc]; exact cellFail_ring s.chip.dev ho
    refine .of_quiet hl rfl (by rw [heq]; rfl) ?_
    rw [heq]
    exact writes_eccFail _ hmeta (by decide)
  case chain =>
    intro hc hr hofq hscan
    have heq : s.chip.dev.forcedReset q (cause + 1) addr.toNat = s.chip.dev.brokenChain q := by
      rw [hc]
      exact if_pos (by simp [Dev.rakes, hr, hofq, hscan])
    obtain ⟨hsets, hstep, hpackets, hopen, hchain, herr, hepoch, hrake, hpool⟩ := brokenChain_spec s.chip.dev q.isLt hr
    refine .of_quiet hl rfl (heq ▸ congrArg Pool.out hpool) ?_
    rw [heq]
    exact ⟨hsets, ⟨hstep.others, hstep.only⟩, ⟨hpackets, hopen, hchain, herr, hepoch⟩, hrake⟩
  case noChain =>
    intro hc hnone
    have heq : s.chip.dev.forcedReset q (cause + 1) addr.toNat = s.chip.dev := by
      rw [hc]
      exact if_neg (by simp [hnone])
    exact .of_quiet hl rfl (by rw [heq]) heq
  case scanEnd =>
    intro hr ho
    have h := returned_ownerScanEnd hr ho
    have hqueue := h.queue
    rw [Dev.q_setQ_same] at hqueue
    exact .of_quiet hl rfl h.out ⟨h.sets, h.rake, Dev.held_all q h.cells, congrArg Queue.crossing hqueue,
      congrArg Queue.err hqueue, h.step.others, h.step.only⟩
  case rakeBroken =>
    intro hr hofq hscan hbroken
    have heq : s.chip.dev.rakeCell = s.chip.dev.brokenChain q := (rakeCell_queue hr hofq hscan).trans (if_pos hbroken)
    obtain ⟨hsets, hstep, hpackets, hopen, hchain, herr, hepoch, hrake, hpool⟩ := brokenChain_spec s.chip.dev q.isLt hr
    refine .of_quiet hl rfl (heq ▸ congrArg Pool.out hpool) ?_
    rw [heq]
    exact ⟨hsets, ⟨hstep.others, hstep.only⟩, ⟨hpackets, hopen, hchain, herr, hepoch⟩, hrake⟩
  case rakeCell =>
    intro hr hlen hofq hscan hwhole
    obtain ⟨c, cs, hc⟩ := List.exists_cons_of_length_pos hlen
    have heq : s.chip.dev.rakeCell = Dev.returnCells { s.chip.dev with rake := rakeRest j js } q [c] := by
      rw [rakeCell_queue hr hofq hscan, if_neg (by rw [hwhole]; decide), hc]
      rfl
    have h : Returned s.chip.dev { s.chip.dev with rake := rakeRest j js } s.chip.dev.rakeCell q [c] :=
      heq ▸ returned s.chip.dev { s.chip.dev with rake := rakeRest j js } rfl (fun _ _ => rfl) _
    refine .of_quiet hl rfl h.out ⟨h.sets, congrArg Queue.crossing h.queue, ?_, ?_, h.step.others, h.step.only⟩
    · rw [hc, Dev.cell, h.cells]
      exact congrArg CellMeta.owner ((Sparse.get_erase _ _ c c).trans (if_pos rfl))
    · exact h.rake.trans (rakeRest_eq hlen)
  case rakeScan =>
    intro hr ho hheld
    obtain ⟨c, cs, hc⟩ := List.exists_cons_of_length_pos hheld
    have heq : s.chip.dev.rakeCell = s.chip.dev.returnCells q [c] := by
      rw [rakeCell_scan hr ho, hc]
      rfl
    have h : Returned s.chip.dev s.chip.dev s.chip.dev.rakeCell q [c] := heq ▸ returned _ _ rfl (fun _ _ => rfl) _
    exact .of_quiet hl rfl h.out ⟨h.sets, congrArg Queue.crossing h.queue, Dev.held_one q hc h.cells, h.rake,
      h.step.others, h.step.only⟩
  case rakeRing =>
    intro hr hlen ho
    obtain ⟨c, cs, hc⟩ := List.exists_cons_of_length_pos hlen
    obtain ⟨hsets, hfree, honly, hout⟩ := rakeRing_spec hr hc ho
    exact .of_quiet hl rfl hout ⟨hsets, by rw [hc]; exact hfree, honly⟩
  case rakeNone =>
    intro hr
    have heq : s.chip.dev.rakeCell = s.chip.dev := by
      unfold Dev.rakeCell
      rw [hr]
    exact .of_quiet hl rfl (by rw [heq]) heq
  case corrected => exact .of_quiet hl rfl rfl (writes_corrected _)
  case page =>
    intro hout
    have heq : s.chip.dev.patrol addr.toNat 2 = s.chip.dev.rowFail (addr.toNat / 8 * 8) 2 := if_pos (not_lt.mp hout)
    refine .of_quiet hl rfl (heq ▸ rfl) ?_
    rw [show ((2 : Fin 4) : Nat) = 2 from rfl, heq]
    exact ⟨(writes_eccFail s.chip.dev hrow (by decide)).1, rfl, rfl⟩
  case pageMeta =>
    intro hout
    have heq : s.chip.dev.patrol addr.toNat 3 = s.chip.dev := if_pos (not_lt.mp hout)
    exact .of_quiet hl rfl (congrArg (·.pool.out) heq) heq
  case scrubRow =>
    intro hin ho
    have heq : s.chip.dev.patrol addr.toNat 2 = (s.chip.dev.rowFail (addr.toNat / 8 * 8) 0).forceReset q 2 := by
      refine (if_neg (not_le.mpr hin)).trans ((cellFail_queue s.chip.dev (hcell ▸ ho)).trans ?_)
      rw [hrows]
      rfl
    have h := fellTo_row s.chip.dev q.isLt hrow
    exact .of_fellTo hl rfl heq h ⟨h.sets, h.rows, ⟨h.step.others, h.step.only⟩, h.fell, h.rake⟩
  case scrubMeta =>
    intro hin ho
    have heq : s.chip.dev.patrol addr.toNat 3 = (s.chip.dev.eccFail (addr.toNat / 256 * 256) 1).forceReset q 3 := by
      refine (if_neg (not_le.mpr hin)).trans ((cellFail_queue s.chip.dev (hcell ▸ ho)).trans ?_)
      rw [hcell]
      rfl
    have h := fellTo_meta s.chip.dev q.isLt hmeta
    exact .of_fellTo hl rfl heq h ⟨h.sets, h.only, h.fell, h.rake⟩
  case scrubRing =>
    intro hin ho
    have heq : s.chip.dev.patrol addr.toNat 2 = s.chip.dev.rowFail (addr.toNat / 8 * 8) 0 := by
      refine (if_neg (not_le.mpr hin)).trans ((cellFail_ring s.chip.dev (hcell ▸ ho)).trans ?_)
      rw [hrows]
      rfl
    refine .of_quiet hl rfl (heq ▸ rfl) ?_
    rw [show ((2 : Fin 4) : Nat) = 2 from rfl, heq]
    exact ⟨(writes_eccFail s.chip.dev hrow (by decide)).1, rfl, rfl⟩
  case scrubFree =>
    intro hin ho
    have heq : s.chip.dev.patrol addr.toNat 2 = (s.chip.dev.rowFail (addr.toNat / 8 * 8) 0).zeroCell (addr.toNat / 256) := by
      refine (if_neg (not_le.mpr hin)).trans ((cellFail_free s.chip.dev (hcell ▸ ho)).trans ?_)
      rw [hrows, hcell]
      rfl
    refine .of_dev hl rfl ?_
    generalize hd : s.chip.dev.rowFail (addr.toNat / 8 * 8) 0 = d at heq
    have hzero : s.chip.onDev (fun d => d.patrol addr.toNat ((2 : Fin 4) : Nat)) =
        (⟨d, s.chip.mem⟩ : Chip).onDev fun d => d.zeroCell (addr.toNat / 256) := congrArg (Chip.mk · s.chip.mem) heq
    rw [hzero]
    have hout : d.pool.out = [] := hd ▸ hl.2.2
    obtain ⟨hbytes, hothers, hflash, hdev⟩ := (⟨d, s.chip.mem⟩ : Chip).zeroCell_settleCells (addr.toNat / 256) hout rfl
    have hsets : Sets s.chip.dev d (s.chip.dev.uncorrWrites (addr.toNat / 8 * 8) 0) [] :=
      hd ▸ (writes_eccFail s.chip.dev hrow (by decide)).1
    have hfrees := filter_withBadRow s.chip.dev.badRows (addr.toNat / 8 * 8)
    rw [hcell] at hfrees
    have hbad : d.badRows = withBadRow s.chip.dev.badRows (addr.toNat / 8 * 8) := hd ▸ rfl
    have honly : { d with regs := s.chip.dev.regs, badRows := s.chip.dev.badRows } = s.chip.dev := hd ▸ rfl
    generalize ((⟨d, s.chip.mem⟩ : Chip).onDev fun d => d.zeroCell (addr.toNat / 256)).settleCells = c at *
    refine ⟨hsets.congr_regs rfl (congrArg Dev.regs hdev :), ?_, ?_, hbytes, hothers, hflash⟩
    · exact (congrArg Dev.badRows hdev :).trans (hbad ▸ hfrees)
    · exact (congrArg (fun x : Dev => { x with
        regs := s.chip.dev.regs, pool := s.chip.dev.pool, badRows := s.chip.dev.badRows }) hdev).trans
        ((congrArg (fun x : Dev => { x with pool := s.chip.dev.pool }) honly).trans rfl)

end Sys2Proof.Claim
end

section
/-! SUPPORT. A statement that the model refutes: a page walk for a context whose ASID no register holds, whose root entry
is the counter of TLB misses that the walk itself advances (R212, R265). -/

namespace Sys2Proof.Claim

open Sys2Proof.Machine

/-- The ASID whose MMU.ROOT entry stands at the address of context 0's counter of TLB misses. -/
def missesAsid : Nat := (F.X_PERF 0 0 3 - F.MMU_ROOT 0) / 4

/-- There the V bit of the root and the count of misses are one field (R212, R265). -/
theorem rootV_missesAsid : (F.MMU_ROOT_V missesAsid).id = (F.X_PERF_COUNT 0 0 3).id := by decide

/-- Context 0 runs with that ASID and has missed no translation. The page tables map virtual page 0, readable. -/
def countedRoot : State :=
  ⟨⟨(Dev.reset.wr F.QM_REGION_CELLS 0).setCtx 0 { Ctx.init with run := .ready, asid := missesAsid },
    ⟨[(1, 4), (3, 1), (4097, 8), (4099, 3)], []⟩⟩, []⟩

/-- The walk counts its miss before it reads the root, and meets a valid one. -/
theorem walk_countedRoot :
    (countedRoot.chip.ctxWalk 0 0 .load false).dev.rd (F.X_EVENTS_FAULT_EV 0 0) = 0 := by decide +kernel

theorem exec_pageWalkDone_countedRoot : exec (.pageWalkDone 0 0 0 false) countedRoot =
    .next { countedRoot with chip := (countedRoot.chip.ctxWalk 0 0 .load false).settleCells } := rfl

/-- Refutes O18: the clause on a root whose V is 0 reads it before the walk counts its miss, for every ASID that a
context's state can hold, not the 256 of R212. Under ASID 0x1FF5B, MMU.ROOT is context 0's counter of TLB misses: it
reads 0 before the walk and 1 when the walk reads its root, so that the walk fills the TLB and no fault follows. -/
theorem not_pages : ¬ Obligations.Pages := by
  intro h
  obtain ⟨-, hroot, -⟩ := h countedRoot 0 0 0 false 0 0 0 ⟨0, 0, 0, none⟩ [] 0 0 ⟨rfl, rfl, rfl⟩
  have hzero : countedRoot.chip.dev.rd (F.MMU_ROOT_V (countedRoot.chip.dev.whoCtx (0 : Fin 64)).asid) = 0 := by
    decide +kernel
  have hissues : countedRoot.chip.dev.running (0 : Fin 64) = true ∧ countedRoot.chip.dev.rd F.MMU_FAULTQ_EN = 0 ∧
      countedRoot.chip.dev.unitHeld 4 ((0 : Fin 64) / 4) = false := by decide +kernel
  obtain ⟨⟨hsets, -⟩, -⟩ := (hroot (by decide) hzero hissues).of_exec exec_pageWalkDone_countedRoot
  have hfault := hsets (F.X_EVENTS_FAULT_EV 0 0, 1) (List.mem_cons_of_mem _ List.mem_cons_self)
  rw [Chip.rd_settleCells, walk_countedRoot] at hfault
  exact absurd hfault (by decide)

end Sys2Proof.Claim
end

section
/-! SUPPORT. Queue instructions on queues that are not block inputs or outputs, and ENV (R198, R199, R201, R279 to R282,
R297). -/

namespace Sys2Proof.Machine

/-- What the context keeps of the packets it has popped words of (R280). -/
theorem Ctx.notePop_invalid (k : Ctx) (q : Nat) {r : Popped} (h : r.v = false) : k.notePop q r = k :=
  if_neg (by simp [h])

theorem Ctx.notePop_valid (k : Ctx) (q : Nat) {r : Popped} (h : r.v = true) :
    k.notePop q r = { k with popping := k.popping.filter (· != q) ++ if r.e = true then [] else [q] } := if_pos h

/-- A context for which queue `q` is no block input and no block output. -/
theorem Ctx.block_none {k : Ctx} {tk : Task} {q : Nat} (h : k.task = none ∨ (k.task = some tk ∧
    (tk.free = true ∨ (tk.ins ++ tk.outs).any (fun e => e.queue == q) = false))) :
    k.blockIn q = none ∧ k.blockOut q = none := by
  unfold Ctx.blockIn Ctx.blockOut
  rcases h with h | ⟨h, hfree | hlists⟩
  · rw [h]
    exact ⟨rfl, rfl⟩
  · rw [h]
    exact ⟨if_pos hfree, if_pos hfree⟩
  · rw [h]
    have hnone : ∀ e ∈ tk.ins ++ tk.outs, ¬ (e.queue == q) = true := fun e he => by
      simpa using List.any_eq_false.mp hlists e he
    have hfind : ∀ l : List ListEntry, (∀ e ∈ l, e ∈ tk.ins ++ tk.outs) →
        l.find? (fun e => e.queue == q && !e.plain) = none := fun l hl =>
      List.find?_eq_none.mpr fun e he => by simp [hnone e (hl e he)]
    dsimp only
    rw [hfind tk.ins fun e he => List.mem_append_left _ he, hfind tk.outs fun e he => List.mem_append_right _ he]
    exact ⟨ite_self _, ite_self _⟩

variable (d : Dev) {x q : Nat}

theorem Dev.ctxPop_plain (h : (d.ctx x).blockIn q = none) :
    d.ctxPop x q = ((d.pop q).1.modCtx x fun k => k.notePop q (d.pop q).2, (d.pop q).2) := by
  unfold Dev.ctxPop
  simp only [h]

theorem Dev.ctxPush_plain (w : QWord) (h : (d.ctx x).blockOut q = none) : d.ctxPush x q w =
    (d.push q w none).1.modCtx x fun k => k.setOutSlot q { (d.ctx x).outSlot q with isOpen := !w.e } := by
  unfold Dev.ctxPush
  simp only [h]

theorem Dev.ctxCountOf_plain (h : (d.ctx x).blockIn q = none) : d.ctxCountOf x q = min (d.viewCount q) 0xFFFF := by
  unfold Dev.ctxCountOf
  simp only [h]

/-- A change of a context leaves the words that wait for their cells to the end of the command. -/
theorem Chip.settleCells_modCtx (c : Chip) (x : Nat) (f : Ctx → Ctx) :
    (c.onDev fun d => d.modCtx x f).settleCells = c.settleCells.onDev fun d => d.modCtx x f := by
  unfold Chip.settleCells
  change (if c.dev.pool.out = [] then _ else _) = _
  split <;> rfl

theorem Dev.modCtx_modCtx (x : Nat) (f g : Ctx → Ctx) :
    ((d.modCtx x f).modCtx x g).ctx x = g (f (d.ctx x)) := by
  rw [Dev.modCtx, Dev.ctx_setCtx_same, Dev.modCtx, Dev.ctx_setCtx_same]

theorem Dev.ctx_modCtx_other {y : Nat} (h : y ≠ x) (f : Ctx → Ctx) : (d.modCtx x f).ctx y = d.ctx y :=
  (Dev.ctx_setCtx d x y _).trans (if_neg h)

end Sys2Proof.Machine

namespace Sys2Proof.Claim

open Sys2Proof.Machine

variable {s : State} {i : Instr} {x : Fin 64}

/-- The frame of a queue instruction: its queue, its context and the cells. -/
structure QueueFrame (d d' : Dev) (x q : Nat) (l : List Fld) : Prop where
  sets : Sets d d' [] l
  queues : QueuesBut d d' q
  ctxs : CtxsBut d d' x
  only : { d' with regs := d.regs, queues := d.queues, ctxs := d.ctxs, pool := d.pool, badRows := d.badRows,
                   freeCtr := d.freeCtr } = d

theorem QueueStep.anyRow {d e : Dev} {q : Nat} {l : List Fld} (h : QueueStep d e q l) :
    QueueStep d { e with badRows := d.badRows } q l :=
  ⟨(congrArg (fun x : Dev => { x with badRows := d.badRows }) h.only :), h.others, h.regs⟩

/-- A step of the queue and two changes of the context. -/
theorem QueueStep.frame {d e : Dev} {q : Nat} {l : List Fld} (h : QueueStep d { e with badRows := d.badRows } q l)
    (x : Nat) (f g : Ctx → Ctx) : QueueFrame d ((e.modCtx x f).modCtx x g) x q l := by
  have hctxs : e.ctxs = d.ctxs := (congrArg Dev.ctxs h.only :)
  refine ⟨h.sets, h.others, fun y hy => ?_, (congrArg (fun x : Dev => { x with ctxs := d.ctxs }) h.only :)⟩
  rw [Dev.ctx_modCtx_other _ hy, Dev.ctx_modCtx_other _ hy, Dev.ctx, hctxs, Dev.ctx]

theorem QueueStep.ctx {d e : Dev} {q : Nat} {l : List Fld} (h : QueueStep d { e with badRows := d.badRows } q l)
    (x : Nat) : e.ctx x = d.ctx x :=
  congrArg (fun l => Sparse.get (fun _ => Ctx.init) l x) (congrArg Dev.ctxs h.only :)

theorem Turns.of_issue {f : Chip → Chip} {p : Chip → Chip → Prop} (h : Issues s x)
    (he : exec i s = s.run fun c => c.issue x f) (hp : p s.chip (f (s.chip.fetch x).1).settleCells) : Turns i s p :=
  ⟨_, h.exec_issue he, hp⟩

/-- What POP leaves of its context (R280). -/
structure PopTakes (k k' : Ctx) (rd rt : BitVec 5) (v tag : Word) (popping : List Nat) : Prop where
  regs : ∀ r : BitVec 5, k'.rdG r = if r = 0 then 0 else if r = rt then tag else if r = rd then v else k.rdG r
  rest : { k' with g := k.g, popping := k.popping } = { k with pc := (k.pc + 4) % 2 ^ 32 }
  noted : k'.popping = popping

theorem popTakes (k : Ctx) (rd rt : BitVec 5) (v tag : Word) (l : List Nat) :
    PopTakes k ((({ k with popping := l } : Ctx).wrG rd v).wrG rt tag).next rd rt v tag l := by
  have hregs : ∀ r : BitVec 5, ((({ k with popping := l } : Ctx).wrG rd v).wrG rt tag).rdG r =
      if r = 0 then 0 else if r = rt then tag else if r = rd then v else k.rdG r := fun r => by
    rw [Ctx.rdG_wrG, Ctx.rdG_wrG]
    by_cases h0 : r = 0
    · rw [if_pos h0, if_pos h0]
    · rw [if_neg h0, if_neg h0, if_neg h0]
      rfl
  obtain ⟨g, hg⟩ : ∃ g, (({ k with popping := l } : Ctx).wrG rd v).wrG rt tag = { k with popping := l, g := g } := by
    obtain ⟨g, hg⟩ : ∃ g, ({ k with popping := l } : Ctx).wrG rd v = { k with popping := l, g := g } :=
      ⟨_, Ctx.wrG_eq ..⟩
    rw [hg]
    exact ⟨_, Ctx.wrG_eq ..⟩
  exact ⟨hregs, by rw [hg]; rfl, by rw [hg]; rfl⟩

section
variable {d : Dev} {q : Nat} {rd rt : BitVec 5}

/-- POP on device `d`, as it issues. -/
def popStep (d : Dev) (x q : Nat) (rd rt : BitVec 5) : Dev :=
  (d.ctxPop x q).1.modCtx x fun k => ((k.wrG rd (d.ctxPop x q).2.data).wrGn rt (d.ctxPop x q).2.tag).next

theorem popStep_word {x : Nat} {p : Packet} {ps : List Packet} {w : QWord} {ws : List QWord}
    (hb : (d.ctx x).blockIn q = none) (hen : d.rd (F.Q_CFG_EN q) ≠ 0) (herr : (d.q q).err = false)
    (hq : (d.q q).packets = p :: ps) (hw : p.words = w :: ws) (hp : p.arrival.isSome = true) :
    PopTakes (d.ctx x) ((popStep d x q rd rt).ctx x) rd rt w.data
        (BitVec.ofNat 32 (1 + (if w.e = true then 2 else 0) + 4 * w.k))
        ((d.ctx x).popping.filter (· != q) ++ if w.e = true then [] else [q]) ∧
      ((popStep d x q rd rt).q q).packets = (if w.e then ps else { p with words := ws, begun := true } :: ps) ∧
      QueueFrame d (popStep d x q rd rt) x q (countF q) ∧ (popStep d x q rd rt).badRows = d.badRows ∧
      (popStep d x q rd rt).pool.out = d.pool.out := by
  obtain ⟨hword, -, -⟩ := Dev.pop_word hen herr hq hp hw
  obtain ⟨v, o, c, hturn, hpackets⟩ : ∃ v o c, (d.pop q).1 = d.turn q v o c ∧
      v.packets = if w.e then ps else { p with words := ws, begun := true } :: ps :=
    ⟨_, _, _, Dev.pop_first hen herr hq hp hw, by rw [Queue.take_first hq hw w.e]⟩
  have hstep := queueStep_turn d q v o c
  have hstep' := hstep.anyRow
  have hq' := d.q_turn q v o c
  have hout := (d.shelved_turn q v o c).out
  unfold popStep
  rw [d.ctxPop_plain hb, hturn, hword, Dev.modCtx_modCtx, hstep'.ctx x, Ctx.notePop_valid _ q rfl]
  generalize d.turn q v o c = e at *
  refine ⟨?_, (congrArg Queue.packets hq').trans hpackets, hstep'.frame x _ _, hstep.badRows, hout⟩
  have htag : Popped.tag ⟨true, w.data, w.e, w.k⟩ = 1 + (if w.e = true then 2 else 0) + 4 * w.k := by
    cases w.e <;> rfl
  rw [← htag]
  exact popTakes ..

theorem popStep_none {x : Nat} (hb : (d.ctx x).blockIn q = none) (hen : d.rd (F.Q_CFG_EN q) ≠ 0)
    (herr : (d.q q).err = false) (hq : (d.q q).packets = []) :
    PopTakes (d.ctx x) ((popStep d x q rd rt).ctx x) rd rt (BitVec.ofNat 32
        ((if (d.q q).epoch ≠ (d.q q).remembered then 1 else 0) + (d.q q).epoch % 65536 * 65536)) 0 (d.ctx x).popping ∧
      (popStep d x q rd rt).q q = { d.q q with remembered := (d.q q).epoch } ∧
      QueueFrame d (popStep d x q rd rt) x q (countF q) ∧ (popStep d x q rd rt).badRows = d.badRows ∧
      (popStep d x q rd rt).pool.out = d.pool.out := by
  have hreason : d.emptyReason q = if (d.q q).epoch ≠ (d.q q).remembered then 1 else 0 := by
    unfold Dev.emptyReason
    simp [herr, hen]
  have hpop : (d.pop q).2 = ⟨false, BitVec.ofNat 32 (d.emptyReason q + (d.q q).epoch % 65536 * 65536), false, 0⟩ := by
    unfold Dev.pop Dev.notValid
    simp [herr, hen, hq]
  have hstep := (QueueStep.refl d q (countF q)).setQ { d.q q with remembered := (d.q q).epoch }
  unfold popStep
  rw [d.ctxPop_plain hb, pop_none d hq hen herr, hpop, Dev.modCtx_modCtx, Ctx.notePop_invalid _ q rfl, hreason]
  refine ⟨popTakes (d.ctx x) rd rt _ 0 (d.ctx x).popping, Dev.q_setQ_same .., ?_, rfl, rfl⟩
  exact hstep.anyRow.frame x _ _

end

/-- What PUSH and PUSHE leave of their context (R281). -/
structure PushNotes (k k' : Ctx) (q : Nat) : Prop where
  rest : { k' with outSlots := k.outSlots, made := k.made } = { k with pc := (k.pc + 4) % 2 ^ 32 }
  made : k'.made = if k.made.contains q = true then k.made else q :: k.made

/-- PUSH and PUSHE on chip `c`, as they issue. -/
def pushStep (c : Chip) (x q : Nat) (w : QWord) : Chip :=
  ((c.onDev fun d => (d.push q w none).1).settleCells.onDev fun d =>
    d.modCtx x fun k => k.setOutSlot q { (c.dev.ctx x).outSlot q with isOpen := !w.e }).onDev fun d => d.modCtx x Ctx.next

section
variable {c : Chip} {q : Nat} {w : QWord} {l : List Fld}

theorem settleCells_ctxPush {x : Nat} (hb : (c.dev.ctx x).blockOut q = none) :
    (c.onDev fun d => (d.ctxPush x q w).modCtx x Ctx.next).settleCells = pushStep c x q w := by
  have hpush : (c.onDev fun d => (d.ctxPush x q w).modCtx x Ctx.next) =
      ((c.onDev fun d => (d.push q w none).1).onDev fun d =>
        d.modCtx x fun k => k.setOutSlot q { (c.dev.ctx x).outSlot q with isOpen := !w.e }).onDev fun d =>
          d.modCtx x Ctx.next := by
    unfold Chip.onDev
    dsimp only
    rw [c.dev.ctxPush_plain w hb]
  rw [hpush, Chip.settleCells_modCtx, Chip.settleCells_modCtx]
  rfl

theorem pushStep_spec {x : Nat} (h : PushedWord c (c.onDev fun d => (d.push q w none).1).settleCells q w l) :
    PushNotes (c.dev.ctx x) ((pushStep c x q w).dev.ctx x) q ∧ QueueFrame c.dev (pushStep c x q w).dev x q l ∧
      WordStored c (pushStep c x q w) q w ∧
      (pushStep c x q w).dev.q q = (c.onDev fun d => (d.push q w none).1).settleCells.dev.q q := by
  obtain ⟨hword, hsets, hothers, honly⟩ := h
  have hstep : QueueStep c.dev { (c.onDev fun d => (d.push q w none).1).settleCells.dev with badRows := c.dev.badRows } q l :=
    ⟨honly, hothers, fun f hf => hsets.2 f List.not_mem_nil hf⟩
  refine ⟨?_, hstep.frame x _ _, hword, rfl⟩
  have hctx := Dev.modCtx_modCtx (c.onDev fun d => (d.push q w none).1).settleCells.dev x
    (fun k => k.setOutSlot q { (c.dev.ctx x).outSlot q with isOpen := !w.e }) Ctx.next
  rw [hstep.ctx x] at hctx
  rw [pushStep, Chip.onDev_dev, Chip.onDev_dev, hctx]
  exact ⟨rfl, rfl⟩

end

/-- QREF as the instruction reads it (R279). -/
abbrev qrefOf (s : State) (x : Fin 64) (rq : BitVec 5) (qimm : BitVec 11) : Nat :=
  (((s.chip.dev.ctx x).rdG rq).toNat + qimm.toNat) % 4096

section
variable (h : Issues s x) (rd rt rq : BitVec 5) (qimm : BitVec 11)
include h

theorem qref_fetch : ((s.chip.fetch x).1.dev.ctx x).qref rq qimm = qrefOf s x rq qimm := by
  rw [h.fetch_ctx rfl]
  rfl

/-- POP puts no word into a cell. -/
theorem exec_pop (hquiet : (popStep (s.chip.fetch x).1.dev x (qrefOf s x rq qimm) rd rt).pool.out =
    (s.chip.fetch x).1.dev.pool.out) : exec (.pop x rd rt rq qimm) s = .next { s with
      chip := { (s.chip.fetch x).1 with dev := popStep (s.chip.fetch x).1.dev x (qrefOf s x rq qimm) rd rt } } := by
  rw [← qref_fetch h] at hquiet ⊢
  exact h.exec_quiet (f := fun c => c.onDev fun d => popStep d x ((d.ctx x).qref rq qimm) rd rt) rfl
    (hquiet.trans h.out_nil)

theorem exec_pushG {i : Instr} {e : Bool} {kk : Nat} (he : exec i s = s.run fun c => c.pushG x e kk rt rq qimm)
    (hb : (s.chip.dev.ctx x).blockOut (qrefOf s x rq qimm) = none) : exec i s = .next { s with
      chip := pushStep (s.chip.fetch x).1 x (qrefOf s x rq qimm) ⟨(s.chip.dev.ctx x).rdG rt, e, kk⟩ } := by
  have hctx : (s.chip.fetch x).1.dev.ctx x = s.chip.dev.ctx x := h.fetch_ctx rfl
  rw [← settleCells_ctxPush (by rw [hctx]; exact hb), ← qref_fetch h, ← hctx]
  exact h.exec_issue he

end

/-- An instruction that changes its context alone, by what it reads of the device. -/
theorem Runs.of_ctx {i : Instr} (h : Issues s x) {f : Dev → Ctx → Ctx} {p : Ctx → Ctx → Prop}
    (he : exec i s = s.run fun c => c.issue x fun c => c.onDev fun d => d.modCtx x (f d))
    (hp : p (s.chip.dev.ctx x) (f (s.chip.fetch x).1.dev (s.chip.dev.ctx x))) : Runs i s x p := by
  refine ⟨f (s.chip.fetch x).1.dev (s.chip.dev.ctx x), ?_, hp⟩
  rw [h.exec_quiet he h.out_nil, ← h.fetch_ctx rfl]
  rfl

/-- The rail targets after a new one (R297). -/
theorem mem_addEnv (d : Dev) (x g t v : Nat) (e : (Nat × Nat) × (Nat × Nat)) :
    ((x, g), (t, v)) ∈ (d.addEnv x g t v).envs ∧
      ((e.1 ≠ (x, g) ∨ e.2.1 ≠ t) → (e ∈ (d.addEnv x g t v).envs ↔ e ∈ d.envs)) := by
  refine ⟨List.mem_append_right _ List.mem_cons_self, fun hother => ?_⟩
  have hne : e ≠ ((x, g), (t, v)) := by
    rintro rfl
    simp at hother
  have hkept : (!(e.1 == (x, g) && e.2.1 == t)) = true := by
    rw [Bool.not_eq_true', Bool.and_eq_false_iff, beq_eq_false_iff_ne, beq_eq_false_iff_ne]
    exact hother
  unfold Dev.addEnv
  rw [List.mem_append, List.mem_filter, List.mem_singleton]
  simp [hne, hkept]

/-- ENV on device `d`, as it issues (R297). -/
def envStep (d : Dev) (x : Nat) (rs : BitVec 5) (g k : BitVec 3) : Dev :=
  let c := d.ctx x
  let periodic := match c.task with | some t => !t.free | none => false
  if periodic && decide (k.toNat < c.n) then
    (d.addEnv x g.toNat (c.release + 1 + k.toNat) ((c.rdG rs).toNat % 65536)).modCtx x Ctx.next
  else d.modCtx x fun k => (k.flag fENVX).next

section
variable {d : Dev} {x : Nat} {k0 : Ctx} (rs : BitVec 5) (g : BitVec 3) {n : BitVec 3} (hk : d.ctx x = k0)
include hk

theorem envStep_block {tk : Task} (ht : k0.task = some tk) (hf : tk.free = false) (hn : n.toNat < k0.n) :
    envStep d x rs g n =
      (d.addEnv x g.toNat (k0.release + 1 + n.toNat) ((k0.rdG rs).toNat % 65536)).modCtx x Ctx.next := by
  unfold envStep
  simp [hk, ht, hf, hn]

theorem envStep_outside (h : k0.task = none ∨ k0.n ≤ n.toNat) :
    envStep d x rs g n = d.modCtx x fun k => (k.flag fENVX).next := by
  unfold envStep
  dsimp only
  rw [hk]
  refine if_neg ?_
  rcases h with h | h
  · simp [h]
  · simp [Nat.not_lt.mpr h]

end

theorem exec_env (h : Issues s x) (rs : BitVec 5) (g n : BitVec 3) {d : Dev}
    (hd : envStep (s.chip.fetch x).1.dev x rs g n = d) (hout : d.pool = (s.chip.fetch x).1.dev.pool) :
    exec (.env x rs g n) s = .next { s with chip := { (s.chip.fetch x).1 with dev := d } } := by
  subst hd
  exact h.exec_quiet (f := fun c => c.onDev fun d => envStep d x rs g n) rfl ((congrArg Pool.out hout).trans h.out_nil)

/-- ENV within its block records the target (R297). -/
theorem env_records (h : Issues s x) (rd : BitVec 5) (g n : BitVec 3) {tk : Task} (e : (Nat × Nat) × (Nat × Nat))
    (ht : (s.chip.dev.ctx x).task = some tk) (hf : tk.free = false) (hn : n.toNat < (s.chip.dev.ctx x).n) :
    Turns (.env x rd g n) s fun _ c' =>
      ((x.val, g.toNat), ((s.chip.dev.ctx x).release + 1 + n.toNat, ((s.chip.dev.ctx x).rdG rd).toNat % 65536)) ∈
          c'.dev.envs ∧
      ((e.1 ≠ (x.val, g.toNat) ∨ e.2.1 ≠ (s.chip.dev.ctx x).release + 1 + n.toNat) →
        (e ∈ c'.dev.envs ↔ e ∈ (s.chip.fetch x).1.dev.envs)) ∧
      c'.dev.ctx x = { s.chip.dev.ctx x with pc := ((s.chip.dev.ctx x).pc + 4) % 2 ^ 32 } ∧
      CtxsBut (s.chip.fetch x).1.dev c'.dev x ∧
      { c'.dev with envs := (s.chip.fetch x).1.dev.envs, ctxs := (s.chip.fetch x).1.dev.ctxs } =
        (s.chip.fetch x).1.dev ∧ c'.mem = (s.chip.fetch x).1.mem := by
  have hctx : (s.chip.fetch x).1.dev.ctx x = s.chip.dev.ctx x := h.fetch_ctx rfl
  have hstep := envStep_block (d := (s.chip.fetch x).1.dev) (x := x) rd g hctx ht hf hn
  refine ⟨_, exec_env h rd g n hstep rfl, ?_⟩
  generalize (s.chip.fetch x).1 = c at *
  generalize s.chip.dev.ctx x = k0 at *
  obtain ⟨hmem, hothers⟩ := mem_addEnv c.dev x g.toNat (k0.release + 1 + n.toNat) ((k0.rdG rd).toNat % 65536) e
  refine ⟨hmem, hothers, ?_, fun y hy => Dev.ctx_modCtx_other _ hy _, rfl, rfl⟩
  rw [← hctx]
  exact Dev.ctx_setCtx_same _ _ _

theorem env_late (h : Issues s x) (rd : BitVec 5) (g n : BitVec 3)
    (hlate : (s.chip.dev.ctx x).task = none ∨ (s.chip.dev.ctx x).n ≤ n.toNat) :
    Runs (.env x rd g n) s x fun k k' => k' = { k with fsr := Nat.lor k.fsr 2048, pc := (k.pc + 4) % 2 ^ 32 } := by
  have hctx : (s.chip.fetch x).1.dev.ctx x = s.chip.dev.ctx x := h.fetch_ctx rfl
  have hstep := envStep_outside (d := (s.chip.fetch x).1.dev) (x := x) rd g hctx hlate
  refine ⟨((s.chip.dev.ctx x).flag fENVX).next, ?_, rfl⟩
  rw [exec_env h rd g n hstep rfl, ← hctx]
  rfl

/-- Settles O49. The queue's part is that of a plain pop or push; the context adds its registers and its notes. -/
theorem queueInstructions : Obligations.QueueInstructions := by
  intro s x rd rt rq qimm t g n p ps w ws tk e h
  have hctx : (s.chip.fetch x).1.dev.ctx x = s.chip.dev.ctx x := h.fetch_ctx rfl
  have hout := h.out_nil
  refine ⟨?popWord, ?popNone, ?push, ?pushEnd, ?count, ?credit, ?env, ?envNone⟩
  case popWord =>
    intro hplain ⟨hen, herr⟩ hpackets hwords hp
    obtain ⟨⟨hregs, hrest, hnoted⟩, hleft, ⟨hsets, hqueues, hctxs, honly⟩, hrows, hquiet⟩ := popStep_word (x := x)
      (rd := rd) (rt := rt) (hctx ▸ (Ctx.block_none hplain).1) hen herr hpackets hwords hp
    rw [hctx] at hregs hrest hnoted
    refine ⟨_, exec_pop h rd rt rq qimm hquiet, ?_⟩
    exact ⟨⟨hregs, hrest⟩, hleft, ⟨hsets, hqueues, hctxs, honly⟩, hnoted, hrows, rfl⟩
  case popNone =>
    intro hplain ⟨hen, herr⟩ hpackets
    obtain ⟨⟨hregs, hrest, hnoted⟩, hleft, ⟨hsets, hqueues, hctxs, honly⟩, hrows, hquiet⟩ := popStep_none (x := x)
      (rd := rd) (rt := rt) (hctx ▸ (Ctx.block_none hplain).1) hen herr hpackets
    rw [hctx] at hregs hrest hnoted
    refine ⟨_, exec_pop h rd rt rq qimm hquiet, ?_⟩
    exact ⟨⟨hregs, hrest⟩, hleft, ⟨hsets, hqueues, hctxs, honly⟩, hnoted, hrows, rfl⟩
  case push =>
    intro hplain ⟨⟨hen, herr⟩, hdis, hc⟩
    obtain ⟨hopen, hpackets, hpushed⟩ := push_open_stored (w := ⟨(s.chip.dev.ctx x).rdG rd, false, t⟩) hout hen herr hdis
      (fun h => hc.resolve_left (by simp [h])) rfl rfl
    obtain ⟨⟨hrest, hmade⟩, ⟨hsets, hqueues, hctxs, honly⟩, hword, hqueue⟩ := pushStep_spec (x := x) hpushed
    rw [hctx] at hrest hmade
    rw [← hqueue] at hopen hpackets
    refine ⟨_, exec_pushG (e := false) (kk := t) h rd rq qimm rfl (Ctx.block_none hplain).2, ?_⟩
    exact ⟨hopen, hpackets, ⟨hrest, hmade⟩, ⟨hsets.sub (.refl _) (by simp [countF]), hqueues, hctxs, honly⟩, hword⟩
  case pushEnd =>
    intro hplain ⟨⟨hen, herr⟩, hdis, hc⟩
    obtain ⟨hopen, hpackets, hpushed⟩ := push_close_stored (w := ⟨(s.chip.dev.ctx x).rdG rd, true, t⟩) hout hen herr hdis
      (fun h => hc.resolve_left (by simp [h])) rfl rfl
    obtain ⟨⟨hrest, hmade⟩, ⟨hsets, hqueues, hctxs, honly⟩, hword, hqueue⟩ := pushStep_spec (x := x) hpushed
    rw [hctx] at hrest hmade
    rw [← hqueue] at hopen hpackets
    refine ⟨_, exec_pushG (e := true) (kk := t) h rd rq qimm rfl (Ctx.block_none hplain).2, ?_⟩
    exact ⟨hopen, hpackets, ⟨hrest, hmade⟩, ⟨hsets, hqueues, hctxs, honly⟩, hword⟩
  case count =>
    intro hplain
    have hn : (s.chip.fetch x).1.dev.ctxCountOf x (((s.chip.fetch x).1.dev.ctx x).qref rq qimm) =
        min 65535 (((s.chip.fetch x).1.dev.q (qrefOf s x rq qimm)).packets.countP (·.arrival.isSome)) := by
      rw [qref_fetch h, Dev.ctxCountOf_plain _ (hctx ▸ (Ctx.block_none hplain).1), min_comm, List.countP_eq_length_filter]
      rfl
    refine .of_ctx h (f := fun d k => (k.wrGn rd (d.ctxCountOf x ((d.ctx x).qref rq qimm))).next) rfl ?_
    rw [hn]
    exact gWrote_wrG _ rd _
  case credit =>
    refine .of_ctx h (f := fun d k => (k.wrG rd (BitVec.ofInt 32 (d.credit ((d.ctx x).qref rq qimm)))).next) rfl ?_
    rw [qref_fetch h]
    exact gWrote_wrG _ rd _
  case env => exact fun ht hf hn => env_records h rd g n e ht hf hn
  case envNone => exact fun hlate => env_late h rd g n hlate

end Sys2Proof.Claim
end

section
/-! SUPPORT. The host's write buffer: what a word that arrives adds to it, and what the words of a transaction come to
(R407, R412, R413, R417). -/

namespace Sys2Proof.Claim

open Sys2Proof.Machine

/-- The device with words added to the host's write buffer, and the run of IND_DATA writes that they leave. -/
def buffered (d : Dev) (n : Nat) (ps : List Posted) : Dev :=
  d.modHost fun h => { h with run := n, buf := h.buf ++ ps }

variable {c : Chip} {quad : Bool} {bs : List Byte}

theorem buffered_buffered (d : Dev) (n m : Nat) (ps ps' : List Posted) :
    buffered (buffered d n ps) m ps' = buffered d m (ps ++ ps') := by
  simp only [buffered, Dev.modHost, List.append_assoc]

theorem buffered_nil (d : Dev) : buffered d d.sys.host.run [] = d := by
  simp only [buffered, Dev.modHost, List.append_nil]

/-- A word for which the buffer has room. -/
theorem post_room {p : Posted} (h : c.dev.sys.host.buf.length < 32) :
    c.post quad p = c.onDev fun d => buffered d (d.sys.host.runOf quad p) [p] := if_pos h

theorem bankByte_near {a : Nat} (j : Nat) (h : a % 2 ^ 23 + j < 2 ^ 23) : bankByte a j = a + j := by
  unfold bankByte
  omega

/-- The words of a window write, four bytes to each. -/
def windowWords (a : Nat) (bs : List Byte) (n : Nat) : List Posted :=
  (List.range n).map fun k => .bytes (a + 4 * k) ((bs.drop (4 * k)).take 4)

theorem windowWords_succ (a : Nat) (bs : List Byte) (n : Nat) :
    windowWords a bs (n + 1) = .bytes a (bs.take 4) :: windowWords (a + 4) (bs.drop 4) n := by
  simp only [windowWords, List.range_succ_eq_map, List.map_cons, List.map_map, List.drop_drop]
  refine congrArg₂ _ rfl (List.map_congr_left fun k _ => ?_)
  simp only [Function.comp, Nat.succ_eq_add_one, Nat.mul_add, Nat.add_assoc, Nat.add_comm 4 (4 * k)]

/-- The words of a write to registers, four bytes to each. -/
def registerWords (a : Nat) (bs : List Byte) (n : Nat) : List Posted :=
  (List.range n).map fun k => .word (a + 4 * k) (word4 (bs.drop (4 * k)))

theorem registerWords_succ (a : Nat) (bs : List Byte) (n : Nat) :
    registerWords a bs (n + 1) = .word a (word4 bs) :: registerWords (a + 4) (bs.drop 4) n := by
  simp only [registerWords, List.range_succ_eq_map, List.map_cons, List.map_map, List.drop_drop]
  refine congrArg₂ _ rfl (List.map_congr_left fun k _ => ?_)
  simp only [Function.comp, Nat.succ_eq_add_one, Nat.mul_add, Nat.add_assoc, Nat.add_comm 4 (4 * k)]

/-- A window write that the buffer has room for and that stays in its bank. -/
theorem postBytes_room (quad : Bool) (n : Nat) : ∀ (fuel a : Nat) (bs : List Byte) (c : Chip), bs.length ≤ fuel →
    (bs.length + 3) / 4 = n → a % 2 ^ 23 + bs.length ≤ 2 ^ 23 → c.dev.sys.host.buf.length + n ≤ 32 →
    Chip.postBytes quad fuel a bs c =
      c.onDev fun d => buffered d (if bs = [] then d.sys.host.run else 0) (windowWords a bs n) := by
  induction n with
  | zero =>
    intro fuel a bs c _ hn _ _
    have hnil : bs = [] := List.eq_nil_of_length_eq_zero (by omega)
    subst hnil
    rw [windowWords, List.range_zero, List.map_nil, Chip.onDev, if_pos rfl, buffered_nil]
    cases fuel <;> rfl
  | succ n ih =>
    intro fuel a bs c hfuel hn hbank hroom
    have hne : bs ≠ [] := fun h => by rw [h] at hn; exact absurd hn (by simp)
    obtain ⟨fuel, rfl⟩ : ∃ k, fuel = k + 1 := ⟨fuel - 1, by have := List.length_pos_iff.mpr hne; omega⟩
    have hrest : (bs.drop 4).length = bs.length - 4 := List.length_drop
    have hrun : c.dev.sys.host.runOf quad (.bytes a (bs.take 4)) = 0 := by simp [HostIf.runOf]
    have hpost : c.post quad (.bytes a (bs.take 4)) = c.onDev fun d => buffered d 0 [.bytes a (bs.take 4)] := by
      rw [post_room (by omega), Chip.onDev, hrun]; rfl
    have hwords : windowWords (bankByte a 4) (bs.drop 4) n = windowWords (a + 4) (bs.drop 4) n := by
      rcases Nat.eq_zero_or_pos n with rfl | hpos
      · rfl
      · rw [bankByte_near 4 (by omega)]
    rw [Chip.postBytes, if_neg hne, hpost, ih fuel (bankByte a 4) (bs.drop 4) _ (by omega) (by omega)
      (by unfold bankByte; omega) (by simp only [Chip.onDev, buffered, Dev.modHost, List.length_append, List.length_singleton]; omega),
      hwords, windowWords_succ]
    simp only [Chip.onDev, if_neg hne, buffered_buffered, List.singleton_append]
    rw [show (buffered c.dev 0 _).sys.host.run = 0 from rfl, ite_self]

/-- A write to registers that the buffer has room for: an incomplete word sets PARTIAL. -/
theorem postWords_room (quad : Bool) (bank n : Nat) : ∀ (a : Nat) (bs : List Byte) (c : Chip), bs.length / 4 = n →
    a + bs.length ≤ 2 ^ 23 → c.dev.sys.host.buf.length + n ≤ 32 →
    ∃ r, Chip.postWords quad bank n a bs c = c.onDev fun d =>
      (buffered d r (registerWords a bs n)).when (decide (bs.length % 4 ≠ 0)) (·.set F.SYS_HQ_STAT_PARTIAL) := by
  induction n with
  | zero =>
    intro a bs c hn haddr _
    refine ⟨c.dev.sys.host.run, ?_⟩
    rw [registerWords, List.range_zero, List.map_nil, Chip.onDev, buffered_nil, Chip.postWords]
    have hpartial : decide (bs.length % 4 ≠ 0) = decide (bs ≠ []) :=
      decide_eq_decide.mpr (by rw [← List.length_pos_iff]; omega)
    rw [hpartial]
    split
    next hend =>
      have hnil : bs = [] := List.eq_nil_of_length_eq_zero (by omega)
      subst hnil
      rfl
    next => rfl
  | succ n ih =>
    intro a bs c hn haddr hroom
    have hrest : (bs.drop 4).length = bs.length - 4 := List.length_drop
    rw [Chip.postWords, if_neg (by omega), if_neg (by omega), Nat.mod_eq_of_lt (by omega : a + 4 < 2 ^ 24),
      post_room (by omega)]
    obtain ⟨r, hr⟩ := ih (a + 4) (bs.drop 4) (c.onDev fun d => buffered d (d.sys.host.runOf quad (.word a (word4 bs)))
      [.word a (word4 bs)])
      (by omega) (by omega)
      (by simp only [Chip.onDev, buffered, Dev.modHost, List.length_append, List.length_singleton]; omega)
    refine ⟨r, ?_⟩
    have hlen : (bs.length - 4) % 4 = bs.length % 4 := by omega
    rw [hr, registerWords_succ]
    simp only [Chip.onDev, buffered_buffered, List.singleton_append, hrest, hlen]

/-- A single word to a register. -/
theorem postWords_word (quad : Bool) (bank a : Nat) {bs : List Byte} (c : Chip) (h : bs.length = 4) (ha : a + 4 ≤ 2 ^ 23) :
    Chip.postWords quad bank 1 a bs c = c.post quad (.word a (word4 bs)) := by
  have hnil : bs.drop 4 = [] := List.drop_eq_nil_of_le (by omega)
  rw [Chip.postWords, if_neg (by omega), if_neg (by omega), hnil, Chip.postWords]
  split <;> rfl

end Sys2Proof.Claim
end
section
/-! SUPPORT. Answers of the host's transactions: the writes (R407, R412, R413, R417). -/

namespace Sys2Proof.Claim

open Sys2Proof.Machine

variable {i : Instr} {s : State}

/-- A command of the chip, with the words that it has put into cells. -/
theorem Turns.of_run {F : Chip → Chip} {p : Chip → Chip → Prop} (hl : Live s) (he : exec i s = s.run F)
    (hp : p s.chip (F s.chip).settleCells) : Turns i s p := by
  obtain ⟨hreset, hsupply, -⟩ := hl
  refine ⟨_, ?_, hp⟩
  rw [he, State.run_next, State.awake, hreset, hsupply]
  rfl

/-- A command of the chip that changes the device alone and puts no word into a cell. -/
theorem Moves.of_run {F : Chip → Chip} {p : Dev → Dev → Prop} {e : Dev} (hl : Live s) (he : exec i s = s.run F)
    (hF : F s.chip = { s.chip with dev := e }) (ho : e.pool.out = s.chip.dev.pool.out) (hp : p s.chip.dev e) :
    Moves i s p := by
  obtain ⟨c, hc, hp⟩ := Turns.of_run (p := fun _ c => c = { s.chip with dev := e }) hl he
    (by rw [hF]; exact if_pos (ho.trans hl.2.2))
  exact ⟨e, hp ▸ hc, ‹p s.chip.dev e›⟩

variable {addr : BitVec 24} {bytes : List Byte} {quad : Bool}

theorem hostWrite_up {c : Chip} (up : c.dev.hostUp = true) (quad : Bool) (a : Nat) (bs : List Byte) :
    c.hostWrite quad a bs = Chip.postWords (quad || c.dev.on F.SYS_HQ_CFG_CMD4) c.dev.winBank (bs.length / 4) a bs
      (c.onDev Dev.hostBegin) := by
  unfold Chip.hostWrite
  rw [up]
  rfl

/-- The run of IND_DATA writes that a word to a register leaves, as the host's transaction `quad` brings it. -/
def wordRun (d : Dev) (quad : Bool) (a : Nat) : Nat :=
  if (quad = true ∨ d.on F.SYS_HQ_CFG_CMD4 = true) ∧ canonDirect a = some 0x34 then
    (if d.sys.host.buf = [] then 0 else d.sys.host.run) + 1
  else 0

theorem runOf_word (d : Dev) (quad : Bool) (a v : Nat) :
    d.hostBegin.sys.host.runOf (quad || d.on F.SYS_HQ_CFG_CMD4) (.word a v) = wordRun d quad a := by
  simp only [HostIf.runOf, wordRun, Bool.and_eq_true, Bool.or_eq_true, beq_iff_eq]
  rfl

/-- A write to registers that the buffer has room for. -/
theorem moves_writeRegisters (hl : Live s) (up : s.chip.dev.hostUp = true)
    (he : exec i s = s.run fun c => c.hostWrite quad addr.toNat bytes) (haddr : addr.toNat + bytes.length ≤ 2 ^ 23)
    (room : s.chip.dev.sys.host.buf.length + (bytes.length + 3) / 4 ≤ 32) :
    Moves i s fun d d' =>
      Sets d d' (if bytes.length % 4 = 0 then [] else [(F.SYS_HQ_STAT_PARTIAL, 1)]) [] ∧ HostOnly d d' ∧
      (bytes.length = 4 → d'.sys.host.run = wordRun d quad addr.toNat) ∧
      d'.sys.host = { d.sys.host with
        cmd4 := d.on F.SYS_HQ_CFG_CMD4
        run := d'.sys.host.run
        buf := d.sys.host.buf ++ registerWords addr.toNat bytes (bytes.length / 4) } := by
  have hwrite := hostWrite_up up quad addr.toNat bytes
  obtain ⟨r, hr⟩ := postWords_room (quad || s.chip.dev.on F.SYS_HQ_CFG_CMD4) s.chip.dev.winBank _ addr.toNat bytes
    (s.chip.onDev Dev.hostBegin) rfl haddr (by change s.chip.dev.sys.host.buf.length + _ ≤ _; omega)
  have hrun : bytes.length = 4 → r = wordRun s.chip.dev quad addr.toNat := by
    intro h4
    rw [h4, postWords_word _ _ _ _ h4 (h4 ▸ haddr), post_room (by change s.chip.dev.sys.host.buf.length < 32; omega)] at hr
    have hrun := congrArg (fun c : Chip => c.dev.sys.host.run) hr
    exact hrun.symm.trans (runOf_word _ quad _ (word4 bytes))
  rw [hr] at hwrite
  by_cases hpartial : bytes.length % 4 = 0
  · rw [if_pos hpartial]
    refine .of_run hl he (hwrite.trans (congrArg (Chip.mk · s.chip.mem) (if_neg ?_))) rfl ?_
    · simp [hpartial]
    · exact ⟨(Writes.refl _).1.congr_regs rfl rfl, ⟨rfl, rfl⟩, hrun, rfl⟩
  · rw [if_neg hpartial]
    refine .of_run hl he (hwrite.trans (congrArg (Chip.mk · s.chip.mem) (if_pos ?_))) rfl ?_
    · simp [hpartial]
    · exact ⟨(writes_one s.chip.dev Nat.one_lt_two).1.congr_regs rfl rfl, ⟨rfl, rfl⟩, hrun, rfl⟩

/-- A write to the window that the buffer has room for. -/
theorem moves_writeWindow (hl : Live s) (up : s.chip.dev.hostUp = true)
    (he : exec i s = s.run fun c => c.hostWrite quad addr.toNat bytes) (hlow : 2 ^ 23 ≤ addr.toNat)
    (haddr : addr.toNat + bytes.length ≤ 2 ^ 24)
    (room : s.chip.dev.sys.host.buf.length + (bytes.length + 3) / 4 ≤ 32) :
    Moves i s fun d d' =>
      Sets d d' [] [] ∧ HostOnly d d' ∧ (bytes ≠ [] → d'.sys.host.run = 0) ∧
      d'.sys.host = { d.sys.host with
        cmd4 := d.on F.SYS_HQ_CFG_CMD4
        run := d'.sys.host.run
        buf := d.sys.host.buf ++ windowWords (d.winBank + addr.toNat % 2 ^ 23) bytes ((bytes.length + 3) / 4) } := by
  have hwrite := hostWrite_up up quad addr.toNat bytes
  have hstart : ∀ n c q, Chip.postWords q s.chip.dev.winBank n addr.toNat bytes c =
      Chip.postBytes q bytes.length (s.chip.dev.winBank + addr.toNat % 2 ^ 23) bytes c := by
    intro n c q
    cases n <;> exact if_pos hlow
  have hbank : s.chip.dev.winBank % 2 ^ 23 = 0 := Nat.mul_mod_left ..
  rw [hstart, postBytes_room _ _ _ _ _ (s.chip.onDev Dev.hostBegin) le_rfl rfl (by omega) room] at hwrite
  exact .of_run hl he hwrite rfl ⟨(Writes.refl _).1.congr_regs rfl rfl, ⟨rfl, rfl⟩, fun h => if_neg h, rfl⟩

/-- A word that meets a full buffer: the first write is performed by then, or the run has outpaced it. -/
theorem post_full {c : Chip} {p : Posted} {n : Nat} (hf : c.dev.sys.host.buf.length = 32)
    (hn : c.dev.sys.host.runOf quad p = n) :
    c.post quad p =
      let d := c.dev.modHost fun h => { h with run := n }
      let put := fun c : Chip => c.onDev fun d => d.modHost fun h => { h with buf := h.buf ++ [p] }
      if c.dev.slowFirst = false ∨ n ≤ 128 then put ({ c with dev := d } : Chip).performFirst
      else if d.fresh.1 % 2 = 0 then { c with dev := d.fresh.2.set F.SYS_HQ_STAT_WOVF }
      else put ({ c with dev := d.fresh.2 } : Chip).performFirst := by
  subst hn
  have hfull : ¬ c.dev.sys.host.buf.length < 32 := by omega
  refine (if_neg hfull).trans (ite_congr (propext ?_) (fun _ => rfl) (fun _ => rfl))
  rw [Bool.or_eq_true, Bool.not_eq_true', decide_eq_true_iff]
  rfl

section
variable {a : Nat} {c : Chip} (up : c.dev.hostUp = true) (ha : a + 4 ≤ 2 ^ 23) (hb : bytes.length = 4)
  (hf : c.dev.sys.host.buf.length = 32)
include up ha hb hf

theorem hostWrite_full :
    c.hostWrite quad a bytes =
      let d := c.dev.hostBegin.modHost fun h => { h with run := wordRun c.dev quad a }
      let put := fun c : Chip => c.onDev fun d => d.modHost fun h => { h with buf := h.buf ++ [.word a (word4 bytes)] }
      if c.dev.slowFirst = false ∨ wordRun c.dev quad a ≤ 128 then put ({ c with dev := d } : Chip).performFirst
      else if d.fresh.1 % 2 = 0 then { c with dev := d.fresh.2.set F.SYS_HQ_STAT_WOVF }
      else put ({ c with dev := d.fresh.2 } : Chip).performFirst := by
  rw [hostWrite_up up, hb, postWords_word _ _ _ _ hb ha]
  exact post_full hf (runOf_word c.dev quad a (word4 bytes))

end

theorem HostOnly.trans {d e e' : Dev} (h : HostOnly d e) (h' : HostOnly e e') : HostOnly d e' :=
  ⟨(congrArg (fun x : Dev => { x with regs := d.regs, sys := d.sys }) h'.1 :).trans h.1,
    (congrArg (fun x : Sys => { x with host := d.sys.host }) h'.2 :).trans h.2⟩

theorem hostOnly_modHost (d : Dev) (f : HostIf → HostIf) : HostOnly d (d.modHost f) := ⟨rfl, rfl⟩

theorem hostOnly_regsOnly {d e : Dev} (h : RegsOnly d e) : HostOnly d e :=
  ⟨(congrArg (fun x : Dev => { x with sys := d.sys }) h :), (congrArg (fun x : Dev => { x.sys with host := d.sys.host }) h :)⟩

/-- A write to an address in no block is performed: it is recorded, and the guard disarms. -/
theorem perform_unmapped {c : Chip} {a v : Nat} {ps : List Posted} (hb : c.dev.sys.host.buf = .word a v :: ps)
    (ha : canonDirect a = none) :
    c.performFirst = { c with dev := ((c.dev.modHost fun h => { h with buf := ps }).disarm 0).unmapped a } := by
  unfold Chip.performFirst Chip.perform
  rw [hb]
  dsimp only
  rw [ha]
  rfl

theorem writes_unmapped (d : Dev) (a : Nat) :
    Writes d (d.unmapped a) [(F.SYS_HQ_STAT_UNMAPPED, 1), (F.SYS_BAD_ADDR_ADDR, a % 2 ^ 24)] [] := by
  have hnodup : ([F.SYS_HQ_STAT_UNMAPPED, F.SYS_BAD_ADDR_ADDR].map Fld.id).Nodup := by decide
  refine writes_wrs d [(F.SYS_HQ_STAT_UNMAPPED, 1), (F.SYS_BAD_ADDR_ADDR, a % 2 ^ 24)] hnodup fun p hp => ?_
  simp only [List.mem_cons, List.not_mem_nil, or_false] at hp
  rcases hp with rfl | rfl
  · exact Nat.one_lt_two
  · exact Nat.mod_lt _ (by decide)

theorem performed_unmapped (d : Dev) (a : Nat) (ps : List Posted) :
    let e := ((d.modHost fun h => { h with buf := ps }).disarm 0).unmapped a
    Sets d e [(F.SYS_HQ_STAT_UNMAPPED, 1), (F.SYS_BAD_ADDR_ADDR, a % 2 ^ 24)] [] ∧ HostOnly d e ∧ e.sys.host.buf = ps ∧
      e.pool = d.pool := by
  intro e
  obtain ⟨hsets, honly⟩ := writes_unmapped ((d.modHost fun h => { h with buf := ps }).disarm 0) a
  have hhost : HostOnly d ((d.modHost fun h => { h with buf := ps }).disarm 0) := ⟨rfl, rfl⟩
  exact ⟨hsets.congr_regs rfl rfl, hhost.trans (hostOnly_regsOnly honly), congrArg (fun x : Dev => x.sys.host.buf) honly,
    honly.pool⟩

/-- A word to a register meets a full buffer whose first write is to an address in no block. -/
theorem moves_writeFull {a v : Nat} {ps : List Posted} (hl : Live s) (up : s.chip.dev.hostUp = true)
    (he : exec i s = s.run fun c => c.hostWrite quad addr.toNat bytes) (haddr : addr.toNat + 4 ≤ 2 ^ 23)
    (hb : bytes.length = 4) (hf : s.chip.dev.sys.host.buf.length = 32) (hbuf : s.chip.dev.sys.host.buf = .word a v :: ps)
    (ha : canonDirect a = none) :
    Moves i s fun d d' =>
      Sets d d' [(F.SYS_HQ_STAT_UNMAPPED, 1), (F.SYS_BAD_ADDR_ADDR, a % 2 ^ 24)] [] ∧
      d'.sys.host.buf = ps ++ [.word addr.toNat (word4 bytes)] ∧ HostOnly d d' := by
  have hfast : s.chip.dev.slowFirst = false := by
    unfold Dev.slowFirst
    rw [hbuf]
    dsimp only
    rw [ha]
    rfl
  have hwrite := (hostWrite_full (quad := quad) up haddr hb hf).trans (if_pos (.inl hfast))
  generalize hd : (s.chip.dev.hostBegin.modHost fun h => { h with run := wordRun s.chip.dev quad addr.toNat }) = d at hwrite
  have hregs : d.regs = s.chip.dev.regs := by rw [← hd]; rfl
  have honly : HostOnly s.chip.dev d := by rw [← hd]; exact ⟨rfl, rfl⟩
  have hout : d.pool = s.chip.dev.pool := by rw [← hd]; rfl
  have hword : d.sys.host.buf = .word a v :: ps := by rw [← hd]; exact hbuf
  obtain ⟨hsets, hrest, hleft, hpool⟩ := performed_unmapped d a ps
  rw [perform_unmapped (c := { s.chip with dev := d }) hword ha] at hwrite
  generalize ((d.modHost fun h => { h with buf := ps }).disarm 0).unmapped a = e at *
  refine .of_run hl he hwrite (congrArg Pool.out (hpool.trans hout)) ⟨hsets.congr_regs hregs rfl, ?_, ?_⟩
  · exact congrArg (· ++ _) hleft
  · exact (honly.trans hrest).trans (hostOnly_modHost e _)

end Sys2Proof.Claim
end
section
/-! SUPPORT. What one word of a read does and gives (R190, R410, R416, R417). -/

namespace Sys2Proof.Claim

open Sys2Proof.Machine

variable {c : Chip} {d e : Dev} {a r bank : Nat}

/-- Fields of one register that take a word. -/
theorem regsOnly_setWord (d : Dev) (a v : Nat) (p : FieldD → Bool) : RegsOnly d (d.setWord a v p) := by
  unfold Dev.setWord
  split
  next => rfl
  next fs _ =>
    refine foldl_keeps (RegsOnly d) _ (fun e f h => ?_) fs d rfl
    split
    · exact h
    · exact h

/-- What is left of a register read where no field of the register is reset by it. -/
theorem rcClear_none (h : (regFields r).all (fun l => l.all fun f => f.ty != .rc) = true) : d.rcClear r = d := by
  unfold Dev.rcClear Dev.setWord
  split
  next => rfl
  next fs hfs =>
    rw [hfs, Option.all_some, List.all_eq_true] at h
    clear hfs
    induction fs with
    | nil => rfl
    | cons f fs ih =>
      have hf := h f List.mem_cons_self
      rw [List.foldl_cons, if_neg (by simpa using hf)]
      exact ih fun g hg => h g (List.mem_cons_of_mem _ hg)

/-- A register that answers a read. -/
theorem readAt_open (hr : d.inReset r = false) (hs : beforeScrub r = false ∨ d.sys.scrubbed = true) (k : Nat) :
    d.readAt k r = (d.rcClear r, d.view k r) := by
  unfold Dev.readAt
  rw [hr, if_neg Bool.false_ne_true, if_neg (by rcases hs with h | h <;> simp [h])]

/-- A word of a register other than IND_DATA. -/
theorem readOne_register (ha : a < 2 ^ 23) (hc : canonDirect a = some r) (h34 : r ≠ 0x34) (hr : c.dev.inReset r = false)
    (hs : beforeScrub r = false ∨ c.dev.sys.scrubbed = true) :
    c.readOne bank a = (c.onDev fun d => d.rcClear r, c.dev.view 0 r) := by
  unfold Chip.readOne
  rw [if_neg (by omega), hc]
  dsimp only
  rw [Dev.readReg, if_neg h34, readAt_open hr hs]
  rfl

/-- The device with the words of the host's last read. -/
abbrev outed (d : Dev) (ws : List Nat) : Dev := d.modHost fun h => { h with out := ws }

/-! The words of the host's last read and the form in which the host speaks are in no register. -/

/-- The device with both of them given. -/
abbrev spoken (d : Dev) (ws : List Nat) (b : Bool) : Dev := d.modHost fun h => { h with out := ws, cmd4 := b }

section
variable (d : Dev) (ws : List Nat) (b : Bool)

theorem anyQPend_spoken : (spoken d ws b).anyQPend = d.anyQPend := by
  have hq : (spoken d ws b).qPend = d.qPend := rfl
  unfold Dev.anyQPend
  have hregs : (spoken d ws b).regs = d.regs := rfl
  rw [hq, hregs]

theorem intStat_spoken : (spoken d ws b).intStat = d.intStat := by
  unfold Dev.intStat
  rw [anyQPend_spoken]
  rfl

theorem sysLive_spoken (k r : Nat) : (spoken d ws b).sysLive k r = d.sysLive k r := by
  unfold Dev.sysLive
  rw [intStat_spoken]
  rfl

theorem live_spoken (k r : Nat) : (spoken d ws b).live k r = d.live k r := by
  have hrx : (spoken d ws b).rxPend = d.rxPend := rfl
  have htx : (spoken d ws b).txPend = d.txPend := rfl
  have hq : (spoken d ws b).q = d.q := rfl
  have hheld : (spoken d ws b).held = d.held := rfl
  have hpend : (spoken d ws b).qPend = d.qPend := rfl
  have hhalted : (spoken d ws b).halted = d.halted := rfl
  have hcore : (spoken d ws b).corePend = d.corePend := rfl
  have hctx : (spoken d ws b).ctxLive = d.ctxLive := rfl
  unfold Dev.live
  rw [sysLive_spoken, hrx, htx, hq, hheld, hpend, hhalted, hcore, hctx]
  rfl

theorem view_spoken (k r : Nat) : (spoken d ws b).view k r = d.view k r := by
  unfold Dev.view
  rw [live_spoken]
  rfl

end

theorem view_out (d : Dev) (ws : List Nat) (k r : Nat) : (outed d ws).view k r = d.view k r := view_spoken d ws _ k r

theorem view_hostBegin (d : Dev) (k r : Nat) : d.hostBegin.view k r = d.view k r := view_spoken d _ _ k r

/-! ### A word of the window -/

theorem sys_forceReset (d : Dev) (n cause : Nat) : (d.forceReset n cause).sys = d.sys :=
  (congrArg Dev.sys (wasReset_resetQ d n true).step.only :)

theorem sys_cellFail (d : Dev) (addr area : Nat) : (d.cellFail addr area).sys = d.sys := by
  have hsys : (if area = 1 then d.eccFail (addr / 256 * 256) 1 else d.rowFail (addr / 8 * 8) 0).sys = d.sys := by
    split <;> rfl
  cases ho : (d.cell (addr / 256)).owner with
  | queue n => rw [cellFail_queue d ho, sys_forceReset, hsys]
  | ring p => rw [cellFail_ring d ho, hsys]
  | free => rw [cellFail_free d ho]; exact hsys

theorem sys_patrol (d : Dev) (addr : Nat) : (d.patrol addr 2).sys = d.sys := by
  simp only [Dev.patrol]
  split
  · rfl
  · exact sys_cellFail ..

/-- The bytes of a word of the window. -/
def windowBytes (bank a : Nat) : List Nat := [0, 1, 2, 3].map (bankByte (bank + a % 2 ^ 23))

theorem windowRead_snd (c : Chip) (bank a : Nat) :
    (c.windowRead bank a).2 = if c.dev.sys.scrubbed = false then 0 else beNat ((windowBytes bank a).map c.mem.byte) := by
  unfold Chip.windowRead
  split
  next h => rw [if_pos (by simpa using h)]
  next h =>
    rw [if_neg (by simpa using h)]
    dsimp only
    split <;> rfl

theorem host_windowRead (c : Chip) (bank a : Nat) : (c.windowRead bank a).1.dev.sys.host = c.dev.sys.host := by
  unfold Chip.windowRead
  split
  · rfl
  · dsimp only
    split
    · exact congrArg Sys.host (sys_patrol ..)
    · rfl

theorem load_four (m : Mem) (a : Nat) : m.load a 4 = beNat ([a, a + 1, a + 2, a + 3].map m.byte) := by
  simp only [Mem.load, beNat, List.map_cons, List.map_nil, List.foldl_cons, List.foldl_nil, Nat.add_assoc, Nat.reduceAdd]
  omega

/-- A word of the window that lies in a row of its own. -/
theorem windowBytes_aligned (hb : bank % 2 ^ 23 = 0) (ha : a % 4 = 0) :
    let at_ := bank + a % 2 ^ 23
    windowBytes bank a = [at_, at_ + 1, at_ + 2, at_ + 3] := by
  have hnear : ∀ j < 4, bankByte (bank + a % 2 ^ 23) j = bank + a % 2 ^ 23 + j := fun j hj => bankByte_near j (by omega)
  simp only [windowBytes, List.map_cons, List.map_nil, hnear 0 (by decide), hnear 1 (by decide), hnear 2 (by decide),
    hnear 3 (by decide), Nat.add_zero]

end Sys2Proof.Claim
end

section
/-! SUPPORT. Answers of the host's reads (R190, R407, R410, R411, R417). -/

namespace Sys2Proof.Claim

open Sys2Proof.Machine

variable {i : Instr} {s : State} {addr : BitVec 24} {r : Nat}

section
variable {c : Chip} {bank a : Nat} (hb : bank % 2 ^ 23 = 0) (ha : a % 4 = 0)
include hb ha

/-- The four bytes of an aligned word of the window lie in one row. -/
theorem badRow_window {j : Nat} (hj : j < 4) :
    c.dev.badRow (bankByte (bank + a % 2 ^ 23) j) = c.dev.badRow (bank + a % 2 ^ 23) := by
  have hrow : (bank + a % 2 ^ 23 + j) / 8 * 8 = (bank + a % 2 ^ 23) / 8 * 8 := by omega
  rw [bankByte_near j (by omega), Dev.badRow, hrow, Dev.badRow]

theorem windowWord : beNat ([0, 1, 2, 3].map fun j => c.mem.byte (bankByte (bank + a % 2 ^ 23) j)) =
    c.mem.load (bank + a % 2 ^ 23) 4 :=
  (congrArg (fun l => beNat (l.map c.mem.byte)) (windowBytes_aligned hb ha)).trans (load_four ..).symm

variable (hlow : 2 ^ 23 ≤ a) (hs : c.dev.sys.scrubbed = true)
include hlow hs

/-- A word of the window in a good row. -/
theorem readOne_window (hrow : c.dev.badRow (bank + a % 2 ^ 23) = false) :
    c.readOne bank a = (c, c.mem.load (bank + a % 2 ^ 23) 4) := by
  have hnone : ([0, 1, 2, 3] : List Nat).find? (fun j => c.dev.badRow (bankByte (bank + a % 2 ^ 23) j)) = none :=
    List.find?_eq_none.mpr fun j hj => by
      rw [badRow_window hb ha (List.mem_range.mp hj), hrow]
      exact Bool.false_ne_true
  rw [Chip.readOne, if_pos hlow]
  simp only [Chip.windowRead, hs, hnone, Bool.not_true, Bool.false_eq_true, if_false, windowWord hb ha]

/-- A word of the window in a row with an uncorrectable error. -/
theorem readOne_window_bad (hrow : c.dev.badRow (bank + a % 2 ^ 23) = true) :
    c.readOne bank a = (c.onDev fun d => (d.patrol (bank + a % 2 ^ 23) 2).set F.SYS_HQ_STAT_RD_ECC,
      c.mem.load (bank + a % 2 ^ 23) 4) := by
  have hfirst : ([0, 1, 2, 3] : List Nat).find? (fun j => c.dev.badRow (bankByte (bank + a % 2 ^ 23) j)) = some 0 :=
    List.find?_cons_of_pos ((badRow_window hb ha (by decide)).trans hrow)
  rw [Chip.readOne, if_pos hlow]
  simp only [Chip.windowRead, hs, hfirst, Bool.not_true, Bool.false_eq_true, if_false, windowWord hb ha,
    bankByte_near (a := bank + a % 2 ^ 23) 0 (by omega), Nat.add_zero]

end

theorem winBank_mod (d : Dev) : d.winBank % 2 ^ 23 = 0 := Nat.mul_mod_left ..

theorem view_lt (d : Dev) (k r : Nat) : d.view k r < 2 ^ 32 := by
  unfold Dev.view
  split
  · decide
  · exact Nat.mod_lt _ (by decide)

/-- The row of a byte outside the cell region. -/
theorem patrol_page {d : Dev} {a : Nat} (h : d.rd F.QM_REGION_CELLS * 256 ≤ a) :
    d.patrol a 2 = d.rowFail (a / 8 * 8) 2 := by
  unfold Dev.patrol
  exact if_pos (by omega)

/-- What an uncorrectable error that the host's read meets writes, but for the row's address. -/
theorem sets_windowFail (d : Dev) (row : Nat) :
    Sets d ((d.rowFail row 2).set F.SYS_HQ_STAT_RD_ECC)
      [(F.SYS_HQ_STAT_RD_ECC, 1), (F.QM_ECC_UNCORR, min (d.rd F.QM_ECC_UNCORR + 1) 65535),
        (F.QM_EVENTS_ECC_UNCORR_EV, 1), (F.QM_ECC_ADDR_AREA, 2)] [F.QM_ECC_ADDR_ADDR] := by
  have hnodup : ((d.uncorrWrites row 2 ++ [(F.SYS_HQ_STAT_RD_ECC, 1)]).map fun p : Fld × Nat => p.1.id).Nodup := by
    change ([F.QM_ECC_UNCORR, F.QM_EVENTS_ECC_UNCORR_EV, F.QM_ECC_ADDR_ADDR, F.QM_ECC_ADDR_AREA,
      F.SYS_HQ_STAT_RD_ECC].map Fld.id).Nodup
    decide
  have hregs : ((d.rowFail row 2).set F.SYS_HQ_STAT_RD_ECC).regs =
    (d.wrs (d.uncorrWrites row 2 ++ [(F.SYS_HQ_STAT_RD_ECC, 1)])).regs := rfl
  refine Sets.congr_regs ⟨fun p hp => ?_, fun f hf hm => Dev.rd_wrs_other d ?_⟩ rfl hregs
  · have hfits : p.2 < 2 ^ p.1.width ∧ p ∈ d.uncorrWrites row 2 ++ [(F.SYS_HQ_STAT_RD_ECC, 1)] := by
      simp only [List.mem_cons, List.not_mem_nil, or_false] at hp
      rcases hp with rfl | rfl | rfl | rfl
      · exact ⟨Nat.one_lt_two, by simp [Dev.uncorrWrites]⟩
      · refine ⟨?_, by simp [Dev.uncorrWrites]⟩
        change min (d.rd F.QM_ECC_UNCORR + 1) 65535 < 65536
        omega
      · exact ⟨Nat.one_lt_two, by simp [Dev.uncorrWrites]⟩
      · exact ⟨Nat.le_of_ble_eq_true rfl, by simp [Dev.uncorrWrites]⟩
    rw [Dev.rd_wrs_mem d hnodup hfits.2, Nat.mod_eq_of_lt hfits.1]
  · simp only [Dev.uncorrWrites, List.map_cons, List.map_nil, List.map_append, List.mem_cons, List.mem_append,
      List.not_mem_nil, or_false, not_or] at hf hm ⊢
    obtain ⟨hecc, huncorr, hevent, harea⟩ := hf
    exact ⟨⟨huncorr, hevent, hm, harea⟩, hecc⟩

theorem sets_windowFail_regs {x d : Dev} (h : x.regs = d.regs) (row : Nat) :
    Sets d ((x.rowFail row 2).set F.SYS_HQ_STAT_RD_ECC)
      [(F.SYS_HQ_STAT_RD_ECC, 1), (F.QM_ECC_UNCORR, min (d.rd F.QM_ECC_UNCORR + 1) 65535),
        (F.QM_EVENTS_ECC_UNCORR_EV, 1), (F.QM_ECC_ADDR_AREA, 2)] [F.QM_ECC_ADDR_ADDR] := by
  have hcount : x.rd F.QM_ECC_UNCORR = d.rd F.QM_ECC_UNCORR := by rw [Dev.rd, h, Dev.rd]
  have hsets := (sets_windowFail x row).congr_regs h rfl
  rwa [hcount] at hsets

theorem windowFail_only {d : Dev} (x : Dev) (row : Nat) (hregs : d.regs = x.regs) (hrows : d.badRows = x.badRows) :
    { (x.rowFail row 2).set F.SYS_HQ_STAT_RD_ECC with regs := d.regs, badRows := d.badRows } = x := by
  rw [hregs, hrows]
  rfl

/-- A read of one word that finds the buffer empty. -/
theorem hostRead_single {c : Chip} {a : Nat} (up : c.dev.hostUp = true) (hbuf : c.dev.sys.host.buf = []) :
    c.hostRead a 1 false =
      let p := (c.onDev Dev.hostBegin).readOne c.dev.winBank a
      p.1.onDev fun d => outed d [p.2] := by
  unfold Chip.hostRead Chip.readStart
  rw [up, Chip.drainBuffer_nil 32 (c.onDev Dev.hostBegin) hbuf]
  rfl

section
variable {a : Nat} {c : Chip} (up : c.dev.hostUp = true) (hbuf : c.dev.sys.host.buf = []) (hlow : 2 ^ 23 ≤ a)
  (hs : c.dev.sys.scrubbed = true) (h4 : a % 4 = 0) (hrow : c.dev.badRow (c.dev.winBank + a % 2 ^ 23) = true)
include up hbuf hlow hs h4 hrow

/-- A read of one word of the window in a row that fails: the row is read as the patrol scrubber reads it. -/
theorem hostRead_patrol : c.hostRead a 1 false = { c with
    dev := outed ((c.dev.hostBegin.patrol (c.dev.winBank + a % 2 ^ 23) 2).set F.SYS_HQ_STAT_RD_ECC)
      [c.mem.load (c.dev.winBank + a % 2 ^ 23) 4] } := by
  rw [hostRead_single up hbuf, readOne_window_bad (c := c.onDev Dev.hostBegin) (winBank_mod _) h4 hlow hs hrow]
  rfl

theorem hostRead_rowFail (hcells : c.dev.rd F.QM_REGION_CELLS * 256 ≤ c.dev.winBank + a % 2 ^ 23) :
    c.hostRead a 1 false = { c with
      dev := outed ((c.dev.hostBegin.rowFail ((c.dev.winBank + a % 2 ^ 23) / 8 * 8) 2).set F.SYS_HQ_STAT_RD_ECC)
        [c.mem.load (c.dev.winBank + a % 2 ^ 23) 4] } := by
  have hregion : c.dev.hostBegin.rd F.QM_REGION_CELLS = c.dev.rd F.QM_REGION_CELLS := rfl
  rw [hostRead_patrol up hbuf hlow hs h4 hrow, patrol_page (d := c.dev.hostBegin) (by rw [hregion]; exact hcells)]

/-- What is left of the device where the read meets an uncorrectable error of the page region. -/
theorem hostRead_windowFail (hcells : c.dev.rd F.QM_REGION_CELLS * 256 ≤ c.dev.winBank + a % 2 ^ 23) :
    ∃ e, c.hostRead a 1 false = { c with dev := outed e [c.mem.load (c.dev.winBank + a % 2 ^ 23) 4] } ∧
      { e with regs := c.dev.regs, badRows := c.dev.badRows } = c.dev.hostBegin ∧
      Sets c.dev e [(F.SYS_HQ_STAT_RD_ECC, 1), (F.QM_ECC_UNCORR, min (c.dev.rd F.QM_ECC_UNCORR + 1) 65535),
        (F.QM_EVENTS_ECC_UNCORR_EV, 1), (F.QM_ECC_ADDR_AREA, 2)] [F.QM_ECC_ADDR_ADDR] := by
  exact ⟨_, hostRead_rowFail up hbuf hlow hs h4 hrow hcells, windowFail_only c.dev.hostBegin _ rfl rfl,
    sets_windowFail_regs (x := c.dev.hostBegin) rfl _⟩

end

theorem HostOnly.free {d e : Dev} (h : HostOnly d e) : HostOnly d { e with freeCtr := d.freeCtr } :=
  ⟨(congrArg (fun x : Dev => { x with freeCtr := d.freeCtr }) h.1 :), h.2⟩

/-- What the host's read of a register leaves of the device. -/
theorem hostOnly_rcClear (d : Dev) (r : Nat) : HostOnly d (d.hostBegin.rcClear r) :=
  HostOnly.trans (hostOnly_modHost d _) (hostOnly_regsOnly (regsOnly_setWord d.hostBegin r 0 _))

section
variable (hl : Live s) (up : s.chip.dev.hostUp = true) (hbuf : s.chip.dev.sys.host.buf = [])
include hl up hbuf

section
variable (ha : addr.toNat < 2 ^ 23) (hc : canonDirect addr.toNat = some r) (h34 : r ≠ 0x34)
  (hr : s.chip.dev.inReset r = false) (hs : beforeScrub r = false ∨ s.chip.dev.sys.scrubbed = true)
include ha hc h34 hr hs

/-- One word of a register. -/
theorem moves_readRegister (he : exec i s = s.run fun c => c.hostRead addr.toNat 1 false) :
    Moves i s fun d d' =>
      d'.sys.host = { d.sys.host with cmd4 := d.on F.SYS_HQ_CFG_CMD4, out := [d.hostBegin.view 0 r] } ∧
      ((regFields r).all (fun l => l.all fun f => f.ty != .rc) = true → d'.regs = d.regs) ∧
      HostOnly d { d' with freeCtr := d.freeCtr } := by
  have hread : s.chip.hostRead addr.toNat 1 false =
      { s.chip with dev := outed (s.chip.dev.hostBegin.rcClear r) [s.chip.dev.hostBegin.view 0 r] } := by
    rw [hostRead_single up hbuf, readOne_register (c := s.chip.onDev Dev.hostBegin) ha hc h34 hr hs]
    rfl
  have honly : RegsOnly s.chip.dev.hostBegin (s.chip.dev.hostBegin.rcClear r) := regsOnly_setWord ..
  have hhost := (hostOnly_rcClear s.chip.dev r).trans
    (hostOnly_modHost _ fun h => { h with out := [s.chip.dev.hostBegin.view 0 r] })
  have hkept := rcClear_none (d := s.chip.dev.hostBegin) (r := r)
  generalize s.chip.dev.hostBegin.rcClear r = e at *
  refine .of_run hl he hread (congrArg Pool.out honly.pool :) ⟨?_, fun h => ?_, hhost.free⟩
  · exact (congrArg (fun x : Dev => { x.sys.host with out := [s.chip.dev.hostBegin.view 0 r] }) honly :)
  · exact (congrArg Dev.regs (hkept h) :)

omit hl up in
/-- The word that is read where the host has taken none. -/
theorem readStart_none :
    let p := s.chip.readStart addr.toNat 0
    p.1.readOne p.2.1 p.2.2 =
      ({ s.chip with dev := (outed s.chip.dev.hostBegin []).rcClear r }, s.chip.dev.hostBegin.view 0 r) := by
  have hstart : s.chip.readStart addr.toNat 0 =
      ({ s.chip with dev := outed s.chip.dev.hostBegin [] }, s.chip.dev.winBank, addr.toNat) := by
    unfold Chip.readStart
    rw [Chip.drainBuffer_nil 32 (s.chip.onDev Dev.hostBegin) hbuf]
    rfl
  intro p
  rw [show p = _ from hstart]
  exact (readOne_register (c := { s.chip with dev := outed s.chip.dev.hostBegin [] }) ha hc h34 hr hs).trans
    (congrArg (Prod.mk _) (view_out _ _ 0 r))

/-- A read that is abandoned before its first word. -/
theorem moves_readNone {more : Bool} (he : exec i s = s.run fun c => c.hostRead addr.toNat 0 more) :
    Moves i s fun d d' => d'.rd F.SYS_HQ_LASTRD_DATA = d.hostBegin.view 0 r ∧ d'.sys.host.out = [] := by
  have hread : s.chip.hostRead addr.toNat 0 more = { s.chip with
      dev := ((outed s.chip.dev.hostBegin []).rcClear r).wr F.SYS_HQ_LASTRD_DATA (s.chip.dev.hostBegin.view 0 r) } := by
    unfold Chip.hostRead
    rw [up, if_neg (by decide), if_pos (by simp), readStart_none hbuf ha hc h34 hr hs]
    rfl
  have honly : RegsOnly (outed s.chip.dev.hostBegin []) ((outed s.chip.dev.hostBegin []).rcClear r) := regsOnly_setWord ..
  generalize (outed s.chip.dev.hostBegin []).rcClear r = e at *
  refine .of_run hl he hread (congrArg Pool.out honly.pool :) ⟨?_, ?_⟩
  · exact (Dev.rd_wr_same ..).trans (Nat.mod_eq_of_lt (view_lt ..))
  · exact (congrArg (fun x : Dev => x.sys.host.out) honly :)

/-- A read whose first word is late. -/
theorem moves_readLate {z : Nat} (he : exec i s = s.run fun c => c.readTimeout addr.toNat 0 z) :
    Moves i s fun d d' =>
      d'.rd F.SYS_HQ_STAT_RD_TIMEOUT = 1 ∧ d'.rd F.SYS_HQ_LASTRD_DATA = d.hostBegin.view 0 r ∧
      d'.sys.host.out = List.replicate z 0 ∧ HostOnly d { d' with freeCtr := d.freeCtr } := by
  have hread : s.chip.readTimeout addr.toNat 0 z = { s.chip with
      dev := ((((outed s.chip.dev.hostBegin []).rcClear r).set F.SYS_HQ_STAT_RD_TIMEOUT).wr F.SYS_HQ_LASTRD_DATA
        (s.chip.dev.hostBegin.view 0 r)).modHost fun h => { h with out := h.out ++ List.replicate z 0 } } := by
    unfold Chip.readTimeout
    rw [up, if_neg (by decide)]
    dsimp only
    rw [readStart_none hbuf ha hc h34 hr hs]
    rfl
  have honly : RegsOnly (outed s.chip.dev.hostBegin []) ((outed s.chip.dev.hostBegin []).rcClear r) := regsOnly_setWord ..
  generalize (outed s.chip.dev.hostBegin []).rcClear r = e at *
  have hhost : HostOnly s.chip.dev e :=
    HostOnly.trans (e := outed s.chip.dev.hostBegin []) ⟨rfl, rfl⟩ (hostOnly_regsOnly honly)
  refine .of_run hl he hread (congrArg Pool.out honly.pool :) ⟨?_, ?_, ?_, (hhost.trans ⟨rfl, rfl⟩).free⟩
  · exact (Dev.rd_wr_other _ _ (by decide)).trans (Dev.rd_wr_same ..)
  · exact (Dev.rd_wr_same ..).trans (Nat.mod_eq_of_lt (view_lt ..))
  · exact (congrArg (fun x : Dev => x.sys.host.out ++ List.replicate z 0) honly :)

end

section
variable (hlow : 2 ^ 23 ≤ addr.toNat) (hs : s.chip.dev.sys.scrubbed = true) (h4 : addr.toNat % 4 = 0)
  (he : exec i s = s.run fun c => c.hostRead addr.toNat 1 false)
include hlow hs h4 he

/-- One word of the window. -/
theorem moves_readWindow (hrow : s.chip.dev.badRow (s.chip.dev.winBank + addr.toNat % 2 ^ 23) = false) :
    Moves i s fun d d' =>
      d'.sys.host = { d.sys.host with
        cmd4 := d.on F.SYS_HQ_CFG_CMD4
        out := [s.chip.mem.load (d.winBank + addr.toNat % 2 ^ 23) 4] } ∧
      Sets d d' [] [] ∧ HostOnly d d' := by
  have hread := hostRead_single (a := addr.toNat) up hbuf
  rw [readOne_window (c := s.chip.onDev Dev.hostBegin) (winBank_mod _) h4 hlow hs hrow] at hread
  exact .of_run hl he hread rfl ⟨rfl, (Writes.refl _).1.congr_regs rfl rfl, rfl, rfl⟩

/-- One word of the window in a row that fails. -/
theorem moves_readWindow_bad (hrow : s.chip.dev.badRow (s.chip.dev.winBank + addr.toNat % 2 ^ 23) = true)
    (hcells : s.chip.dev.rd F.QM_REGION_CELLS * 256 ≤ s.chip.dev.winBank + addr.toNat % 2 ^ 23) :
    Moves i s fun d d' =>
      d'.sys.host = { d.sys.host with
        cmd4 := d.on F.SYS_HQ_CFG_CMD4
        out := [s.chip.mem.load (d.winBank + addr.toNat % 2 ^ 23) 4] } ∧
      Sets d d' [(F.SYS_HQ_STAT_RD_ECC, 1), (F.QM_ECC_UNCORR, min (d.rd F.QM_ECC_UNCORR + 1) 65535),
        (F.QM_EVENTS_ECC_UNCORR_EV, 1), (F.QM_ECC_ADDR_AREA, 2)] [F.QM_ECC_ADDR_ADDR] ∧
      HostOnly d { d' with badRows := d.badRows } := by
  obtain ⟨e, hread, honly, hsets⟩ := hostRead_windowFail up hbuf hlow hs h4 hrow hcells
  have hhost : e.sys.host = s.chip.dev.hostBegin.sys.host := (congrArg (fun x : Dev => x.sys.host) honly :)
  refine .of_run hl he hread (congrArg (fun x : Dev => x.pool.out) honly :) ⟨?_, hsets.congr_regs rfl rfl, ?_, ?_⟩
  · exact congrArg (fun h : HostIf => { h with out := [s.chip.mem.load (s.chip.dev.winBank + addr.toNat % 2 ^ 23) 4] }) hhost
  · exact (congrArg (fun x : Dev => { x with sys := s.chip.dev.sys }) honly :)
  · exact (congrArg (fun x : Dev => { x.sys with host := s.chip.dev.sys.host }) honly :)

end

end

end Sys2Proof.Claim
end

section
/-! SUPPORT. Reads of several words, and a word that is abandoned or late (R410, R411). -/

namespace Sys2Proof.Claim

open Sys2Proof.Machine

variable {i : Instr} {s : State} {addr : BitVec 24} {bank a : Nat}

/-! ### The words of the last read do not move what is read -/

theorem readAt_out (d : Dev) (ws : List Nat) (k r : Nat) : ((outed d ws).readAt k r).2 = (d.readAt k r).2 := by
  have hreset : (outed d ws).inReset r = d.inReset r := rfl
  have hscrub : (outed d ws).sys.scrubbed = d.sys.scrubbed := rfl
  unfold Dev.readAt
  rw [view_out, hreset, hscrub]
  split
  · rfl
  · split <;> rfl

theorem readReg_out (d : Dev) (ws : List Nat) (k r : Nat) : ((outed d ws).readReg k r).2 = (d.readReg k r).2 := by
  have hreq : (outed d ws).req k = d.req k := rfl
  unfold Dev.readReg Dev.readInd
  rw [hreq]
  split
  · dsimp only
    cases canonInd (d.req k).space (d.req k).offset with
    | none => rfl
    | some a => exact readAt_out (d.setReq k (d.req k).step) ws k a
  · exact readAt_out ..

theorem readOne_out (c : Chip) (ws : List Nat) (bank a : Nat) :
    ((c.onDev fun d => outed d ws).readOne bank a).2 = (c.readOne bank a).2 := by
  unfold Chip.readOne
  split
  · rw [windowRead_snd, windowRead_snd]
    rfl
  · cases canonDirect a with
    | none => rfl
    | some r => exact readReg_out ..

/-! ### A read keeps the words of the last read -/

theorem out_readAt (d : Dev) (k r : Nat) : (d.readAt k r).1.sys.host.out = d.sys.host.out := by
  have hclear : RegsOnly d (d.rcClear r) := regsOnly_setWord ..
  unfold Dev.readAt
  split
  · cases k == 0 <;> rfl
  · split
    · rfl
    · exact (congrArg (fun x : Dev => x.sys.host.out) hclear :)

theorem out_readReg (d : Dev) (k r : Nat) : (d.readReg k r).1.sys.host.out = d.sys.host.out := by
  unfold Dev.readReg Dev.readInd
  split
  · dsimp only
    split
    · rfl
    · exact out_readAt ..
  · exact out_readAt ..

theorem out_readOne (c : Chip) (bank a : Nat) : (c.readOne bank a).1.dev.sys.host.out = c.dev.sys.host.out := by
  unfold Chip.readOne
  split
  · rw [host_windowRead]
  · cases canonDirect a with
    | none => rfl
    | some r => exact out_readReg ..

theorem length_readWords (bank : Nat) : ∀ (n a : Nat) (c : Chip), (Chip.readWords bank n a c).2.1.length = n
  | 0, _, _ => rfl
  | n + 1, a, c => congrArg (· + 1) (length_readWords bank n (nextAddr a) (c.readOne bank a).1)

/-! ### Cells at the end of a command -/

theorem sys_settleCells (c : Chip) : c.settleCells.dev.sys = c.dev.sys := by
  unfold Chip.settleCells
  split <;> rfl

theorem settleCells_outed (c : Chip) (ws : List Nat) :
    (c.onDev fun d => outed d ws).settleCells = c.settleCells.onDev fun d => outed d ws := by
  unfold Chip.settleCells
  change (if c.dev.pool.out = [] then _ else _) = _
  split <;> rfl

section
variable {n next : Nat} {ws : List Nat} {c c2 : Chip} (up : c.dev.hostUp = true) (hn : 0 < n)
  (hw : Chip.readWords c.dev.winBank n a (Chip.drainBuffer 32 (c.onDev Dev.hostBegin)) = (c2, ws, next))
include hw

theorem readStart_words : c.readStart a n = (c2.onDev fun d => outed d ws, c.dev.winBank, next) := by
  unfold Chip.readStart
  dsimp only
  rw [hw]

include up

theorem readTimeout_words (z : Nat) : c.readTimeout a n z =
    let p := (c2.onDev fun d => outed d ws).readOne c.dev.winBank next
    p.1.onDev fun d => ((d.set F.SYS_HQ_STAT_RD_TIMEOUT).wr F.SYS_HQ_LASTRD_DATA p.2).modHost fun h =>
      { h with out := h.out ++ List.replicate z 0 } := by
  unfold Chip.readTimeout
  rw [up, readStart_words hw]
  rfl

theorem hostRead_more : c.hostRead a n true =
    let p := (c2.onDev fun d => outed d ws).readOne c.dev.winBank next
    p.1.onDev fun d => d.wr F.SYS_HQ_LASTRD_DATA p.2 := by
  unfold Chip.hostRead
  rw [up, readStart_words hw]
  rfl

include hn

theorem hostRead_words : c.hostRead a n false = c2.onDev fun d => outed d ws := by
  have hsome : (n == 0) = false := beq_eq_false_iff_ne.mpr hn.ne'
  unfold Chip.hostRead
  rw [up, readStart_words hw, hsome]
  rfl

end

section
variable {n next : Nat} {ws : List Nat} {c2 : Chip} (hl : Live s) (up : s.chip.dev.hostUp = true)
  (hw : Chip.readWords s.chip.dev.winBank n addr.toNat (Chip.drainBuffer 32 (s.chip.onDev Dev.hostBegin)) = (c2, ws, next))
include hl up hw

/-- The words of a read. -/
theorem turns_readWords (hn : 0 < n) (he : exec i s = s.run fun c => c.hostRead addr.toNat n false) :
    Turns i s fun _ c' =>
      c'.dev.sys.host.out = ws ∧ ws.length = n ∧ c'.mem = c2.settleCells.mem ∧ c'.dev.regs = c2.dev.regs := by
  have hlength : ws.length = n := by
    have hlength := length_readWords s.chip.dev.winBank n addr.toNat (Chip.drainBuffer 32 (s.chip.onDev Dev.hostBegin))
    rwa [hw] at hlength
  refine .of_run hl he ?_
  rw [hostRead_words up hn hw, settleCells_outed]
  exact ⟨rfl, hlength, rfl, c2.dev_settleCells.2.1⟩

/-- A word more, which the host abandons. -/
theorem turns_readMore (he : exec i s = s.run fun c => c.hostRead addr.toNat n true) :
    Turns i s fun _ c' =>
      c'.dev.sys.host.out = ws ∧ c'.dev.rd F.SYS_HQ_LASTRD_DATA = (c2.readOne s.chip.dev.winBank next).2 % 2 ^ 32 := by
  have hvalue := readOne_out c2 ws s.chip.dev.winBank next
  have hout := out_readOne (c2.onDev fun d => outed d ws) s.chip.dev.winBank next
  refine .of_run hl he ?_
  rw [hostRead_more up hw, sys_settleCells, Chip.rd_settleCells, ← hvalue]
  exact ⟨hout, Dev.rd_wr_same ..⟩

/-- A word more, which is late. -/
theorem turns_readLate {z : Nat} (he : exec i s = s.run fun c => c.readTimeout addr.toNat n z) :
    Turns i s fun _ c' =>
      c'.dev.sys.host.out = ws ++ List.replicate z 0 ∧ c'.dev.rd F.SYS_HQ_STAT_RD_TIMEOUT = 1 ∧
      c'.dev.rd F.SYS_HQ_LASTRD_DATA = (c2.readOne s.chip.dev.winBank next).2 % 2 ^ 32 := by
  have hvalue := readOne_out c2 ws s.chip.dev.winBank next
  have hout := out_readOne (c2.onDev fun d => outed d ws) s.chip.dev.winBank next
  refine .of_run hl he ?_
  rw [readTimeout_words up hw, sys_settleCells, Chip.rd_settleCells, Chip.rd_settleCells, ← hvalue]
  refine ⟨congrArg (· ++ List.replicate z 0) hout, ?_, Dev.rd_wr_same ..⟩
  exact (Dev.rd_wr_other _ _ (by decide)).trans (Dev.rd_wr_same ..)

end

end Sys2Proof.Claim
end

section
/-! SUPPORT. Answers of the host's other events: a buffered write that is performed, STATUS, an unknown command, and a
host interface that does not answer (R407, R413, R416, R417, R422). -/

namespace Sys2Proof.Claim

open Sys2Proof.Machine

variable {s : State} {a v : Nat} {b : Byte} {ps : List Posted}

/-- What is left of the device when the first buffered write is taken and the guard disarms. -/
abbrev taken (d : Dev) (ps : List Posted) : Dev := (d.modHost fun h => { h with buf := ps }).disarm 0

theorem armed_disarm (d : Dev) (r : Nat) : ((d.disarm r).req r).armed = false :=
  congrArg Requester.armed (Dev.req_setReq_same d r _)

theorem perform_byte {c : Chip} (hb : c.dev.sys.host.buf = .bytes a [b] :: ps) (hs : c.dev.sys.scrubbed = true) :
    c.performFirst = Chip.windowStore { c with dev := taken c.dev ps } (bankByte a 0) b := by
  have hscrub : (taken c.dev ps).sys.scrubbed = true := hs
  unfold Chip.performFirst Chip.perform
  rw [hb]
  dsimp only [Chip.onDev]
  rw [hscrub, List.mapIdx_cons, List.mapIdx_nil, List.foldl_cons, List.foldl_nil, if_neg (by decide)]

/-- A byte reaches the window. -/
theorem turns_perform_byte (hl : Live s) (hb : s.chip.dev.sys.host.buf = .bytes a [b] :: ps)
    (hs : s.chip.dev.sys.scrubbed = true) (hcells : s.chip.dev.rd F.QM_REGION_CELLS * 256 ≤ bankByte a 0) :
    Turns .postedWritePerform s fun c c' =>
      c'.mem.byte (bankByte a 0) = b ∧ BytesBut c.mem c'.mem (bankByte a 0) 1 ∧ c'.dev.sys.host.buf = ps ∧
      (c'.dev.req 0).armed = false ∧ Sets c.dev c'.dev [] [] ∧ HostOnly c.dev c'.dev := by
  have hstore : s.chip.performFirst = ⟨taken s.chip.dev ps, s.chip.mem.setByte (bankByte a 0) b⟩ :=
    (perform_byte hb hs).trans (if_neg (not_lt.mpr hcells))
  have hcell : (⟨taken s.chip.dev ps, s.chip.mem.setByte (bankByte a 0) b⟩ : Chip).settleCells =
      ⟨taken s.chip.dev ps, s.chip.mem.setByte (bankByte a 0) b⟩ := if_pos hl.2.2
  refine .of_run hl (F := Chip.performFirst) rfl ?_
  rw [hstore, hcell]
  refine ⟨Mem.byte_setByte_same .., ⟨fun x hx => Mem.byte_setByte_other _ b (by omega), rfl⟩, rfl, armed_disarm .., ?_, rfl, rfl⟩
  exact (Writes.refl _).1.congr_regs rfl rfl

/-- The cell region takes no byte. -/
theorem moves_perform_cell (hl : Live s) (hb : s.chip.dev.sys.host.buf = .bytes a [b] :: ps)
    (hs : s.chip.dev.sys.scrubbed = true) (hcells : bankByte a 0 < s.chip.dev.rd F.QM_REGION_CELLS * 256) :
    Moves .postedWritePerform s fun d d' =>
      Sets d d' [(F.QM_EVENTS_CELL_WRITE, 1)] [] ∧ d'.sys.host.buf = ps ∧ HostOnly d d' := by
  have hstore : s.chip.performFirst = { s.chip with dev := (taken s.chip.dev ps).set F.QM_EVENTS_CELL_WRITE } :=
    (perform_byte hb hs).trans (if_pos hcells)
  exact .of_run hl (F := Chip.performFirst) rfl hstore rfl
    ⟨(writes_one s.chip.dev Nat.one_lt_two).1.congr_regs rfl rfl, rfl, rfl, rfl⟩

/-- A write to an address in no block. -/
theorem moves_perform_unmapped (hl : Live s) (hb : s.chip.dev.sys.host.buf = .word a v :: ps) (ha : canonDirect a = none) :
    Moves .postedWritePerform s fun d d' =>
      Sets d d' [(F.SYS_HQ_STAT_UNMAPPED, 1), (F.SYS_BAD_ADDR_ADDR, a % 2 ^ 24)] [] ∧ d'.sys.host.buf = ps ∧
      HostOnly d d' := by
  obtain ⟨hsets, hhost, hleft, hpool⟩ := performed_unmapped s.chip.dev a ps
  exact .of_run hl (F := Chip.performFirst) rfl (perform_unmapped hb ha) (congrArg Pool.out hpool) ⟨hsets, hleft, hhost⟩

/-- The host arms its guard. -/
theorem moves_perform_unlock (hl : Live s) (hb : s.chip.dev.sys.host.buf = .word a v :: ps)
    (ha : canonDirect a = some 0x20) (hv : v % 2 ^ 32 = 0x6A95) :
    Moves .postedWritePerform s fun d d' =>
      Sets d d' [] [] ∧ (d'.req 0).armed = true ∧ d'.sys.host.buf = ps ∧ HostOnly d d' := by
  let d := s.chip.dev.modHost fun h => { h with buf := ps }
  have hunlock : s.chip.performFirst = { s.chip with dev := d.setReq 0 { d.req 0 with armed := true } } := by
    unfold Chip.performFirst Chip.perform
    rw [hb]
    dsimp only
    rw [ha]
    exact congrArg (Chip.mk · s.chip.mem) (if_pos hv)
  exact .of_run hl (F := Chip.performFirst) rfl hunlock rfl
    ⟨(Writes.refl _).1.congr_regs rfl rfl, congrArg Requester.armed (Dev.req_setReq_same ..), rfl, rfl, rfl⟩

/-- The buffer is empty. -/
theorem moves_perform_none (hl : Live s) (hb : s.chip.dev.sys.host.buf = []) :
    Moves .postedWritePerform s fun d d' => d' = d :=
  .of_run hl (F := Chip.performFirst) rfl (Chip.drainBuffer_nil 1 s.chip hb) rfl rfl

/-- STATUS. -/
theorem moves_status (hl : Live s) (up : s.chip.dev.hostUp = true) :
    Moves .status s fun d d' =>
      Sets d d' [] [] ∧ HostOnly d d' ∧
      d'.sys.host = { d.sys.host with cmd4 := d.on F.SYS_HQ_CFG_CMD4, out := [d.hostBegin.view 0 0xC % 65536] } := by
  have hstatus : s.chip.onDev Dev.hostStatus =
      { s.chip with dev := outed s.chip.dev.hostBegin [s.chip.dev.hostBegin.view 0 0xC % 65536] } := by
    refine congrArg (Chip.mk · s.chip.mem) ?_
    unfold Dev.hostStatus
    rw [up, view_hostBegin, if_neg (by decide)]
  exact .of_run hl (F := fun c => c.onDev Dev.hostStatus) rfl hstatus rfl
    ⟨(Writes.refl _).1.congr_regs rfl rfl, ⟨rfl, rfl⟩, rfl⟩

theorem knownCmd_iff (k : Nat) : knownCmd k = true ↔ k ∈ [0x02, 0x0B, 0x32, 0xEB, 0x05] := by
  unfold knownCmd hostCmd
  split <;> simp_all

/-- A command of a code that the host's bus does not know. -/
theorem moves_badCmd (hl : Live s) (up : s.chip.dev.hostUp = true) {code : BitVec 8}
    (hk : code.toNat ∉ [0x02, 0x0B, 0x32, 0xEB, 0x05]) :
    Moves (.badCmd code) s fun d d' =>
      Sets d d' [(F.SYS_HQ_STAT_BAD_CMD, 1)] [] ∧ HostOnly d d' ∧ d'.sys.host.out = [] := by
  have hbad : s.chip.onDev (fun d => d.badCmd code.toNat) =
      { s.chip with dev := outed (s.chip.dev.hostBegin.set F.SYS_HQ_STAT_BAD_CMD) [] } :=
    congrArg (Chip.mk · s.chip.mem) (if_neg (by simpa [up, knownCmd_iff] using hk))
  exact .of_run hl (F := fun c => c.onDev fun d => d.badCmd code.toNat) rfl hbad rfl
    ⟨(writes_one s.chip.dev Nat.one_lt_two).1.congr_regs rfl rfl, ⟨rfl, rfl⟩, rfl⟩

/-- One of a code that the bus knows, or while the interface does not answer. -/
theorem moves_badCmd_none (hl : Live s) {code : BitVec 8}
    (h : s.chip.dev.hostUp = false ∨ code.toNat ∈ [0x02, 0x0B, 0x32, 0xEB, 0x05]) :
    Moves (.badCmd code) s fun d d' => d' = d := by
  have hnone : s.chip.onDev (fun d => d.badCmd code.toNat) = s.chip := by
    refine congrArg (Chip.mk · s.chip.mem) (if_pos ?_)
    rw [Bool.or_eq_true, Bool.not_eq_true', knownCmd_iff]
    exact h
  exact .of_run hl (F := fun c => c.onDev fun d => d.badCmd code.toNat) rfl hnone rfl rfl

section
variable (hl : Live s) (down : s.chip.dev.hostUp = false) {i : Instr}
include hl down

theorem moves_write_down {quad : Bool} {bs : List Byte} (he : exec i s = s.run fun c => c.hostWrite quad a bs) :
    Moves i s fun d d' => d' = d := by
  have hnone : s.chip.hostWrite quad a bs = s.chip := if_pos (by rw [down]; rfl)
  exact .of_run hl he hnone rfl rfl

theorem moves_read_down {n : Nat} {more : Bool} (he : exec i s = s.run fun c => c.hostRead a n more) :
    Moves i s fun d d' => d' = d := by
  have hnone : s.chip.hostRead a n more = s.chip := if_pos (by rw [down]; rfl)
  exact .of_run hl he hnone rfl rfl

theorem moves_readTimeout_down {n z : Nat} (he : exec i s = s.run fun c => c.readTimeout a n z) :
    Moves i s fun d d' => d' = d := by
  have hnone : s.chip.readTimeout a n z = s.chip := if_pos (by rw [down]; rfl)
  exact .of_run hl he hnone rfl rfl

omit i in
theorem moves_status_down : Moves .status s fun d d' => d' = d := by
  have hnone : s.chip.onDev Dev.hostStatus = s.chip := congrArg (Chip.mk · s.chip.mem) (if_pos (by rw [down]; rfl))
  exact .of_run hl (F := fun c => c.onDev Dev.hostStatus) rfl hnone rfl rfl

end

end Sys2Proof.Claim
end

section
/-! SUPPORT. The statement about the host's transactions (R190, R407 to R413, R416, R417, R422). -/

namespace Sys2Proof.Claim

open Sys2Proof.Machine

/-- A word to a register that meets a full buffer, where nothing outpaces the write that the buffer performs. -/
theorem turns_writeFull {i : Instr} {s : State} {quad : Bool} {a : Nat} {bytes : List Byte} (hl : Live s)
    (up : s.chip.dev.hostUp = true) (he : exec i s = s.run fun c => c.hostWrite quad a bytes) (ha : a + 4 ≤ 2 ^ 23)
    (hb : bytes.length = 4) (hf : s.chip.dev.sys.host.buf.length = 32)
    (hfast : s.chip.dev.slowFirst = false ∨ wordRun s.chip.dev quad a ≤ 128) :
    Turns i s fun c c' => c' = ((Chip.performFirst
      { c with dev := c.dev.hostBegin.modHost fun h => { h with run := wordRun c.dev quad a } }).onDev fun d =>
        d.modHost fun h => { h with buf := h.buf ++ [.word a (word4 bytes)] }).settleCells := by
  refine .of_run hl he ?_
  rw [hostWrite_full up ha hb hf]
  exact congrArg Chip.settleCells (if_pos hfast)

/-- One where a run of more than 128 words may outpace that write. -/
theorem turns_writeOutrun {i : Instr} {s : State} {quad : Bool} {a : Nat} {bytes : List Byte} (hl : Live s)
    (up : s.chip.dev.hostUp = true) (he : exec i s = s.run fun c => c.hostWrite quad a bytes) (ha : a + 4 ≤ 2 ^ 23)
    (hb : bytes.length = 4) (hf : s.chip.dev.sys.host.buf.length = 32) (hslow : s.chip.dev.slowFirst = true)
    (hrun : 128 < wordRun s.chip.dev quad a) :
    Turns i s fun c c' =>
      let d := (c.dev.hostBegin.modHost fun h => { h with run := wordRun c.dev quad a }).fresh.2
      c' = { c with dev := d.set F.SYS_HQ_STAT_WOVF } ∨
      c' = ((Chip.performFirst { c with dev := d }).onDev fun d =>
        d.modHost fun h => { h with buf := h.buf ++ [.word a (word4 bytes)] }).settleCells := by
  have hlate : ¬ (s.chip.dev.slowFirst = false ∨ wordRun s.chip.dev quad a ≤ 128) := by
    rw [hslow]
    simpa using hrun
  refine .of_run hl he ?_
  rw [hostWrite_full up ha hb hf]
  dsimp only
  rw [if_neg hlate]
  split
  · exact .inl (if_pos hl.2.2)
  · exact .inr rfl

/-- Settles O30. Writes by the room that the buffer has; reads by the words that the host takes. -/
theorem hostBus : Obligations.HostBus := by
  intro s addr bytes n code quad b a v r ps c2 ws more z next hl
  have hwrite : exec (if quad = true then .qwrite addr bytes else .write addr bytes) s =
      s.run fun c => c.hostWrite quad addr.toNat bytes := by cases quad <;> rfl
  have hread : exec (if quad = true then .qread addr (n, more) else .read addr (n, more)) s =
      s.run fun c => c.hostRead addr.toNat n more := by cases quad <;> rfl
  refine ⟨?_, ?_, ?_, ?_, ?_, ?_, ?_, ?_, ?_, ?_, ?_, ?_, ?_, ?_, ?_, ?_, ?_, ?_, ?_, ?_, ?_, ?_, ?_, ?_⟩
  · exact fun up haddr room => moves_writeRegisters hl up hwrite haddr room
  · exact fun up hlow haddr room => moves_writeWindow hl up hwrite hlow haddr room
  · exact fun up haddr hlen hfull hbuf ha => moves_writeFull hl up hwrite haddr hlen hfull hbuf ha
  · exact fun up haddr hlen hfull hfast => turns_writeFull hl up hwrite haddr hlen hfull hfast
  · exact fun up haddr hlen hfull hslow hrun => turns_writeOutrun hl up hwrite haddr hlen hfull hslow hrun
  · rintro up rfl rfl hbuf haddr hr h34 hreset hscrub
    exact moves_readRegister hl up hbuf haddr hr h34 hreset hscrub hread
  · rintro up rfl rfl hbuf hlow hscrub h4 _ hrow
    exact moves_readWindow hl up hbuf hlow hscrub h4 hread hrow
  · rintro up rfl rfl hbuf hlow hscrub h4 hcells hrow
    exact moves_readWindow_bad hl up hbuf hlow hscrub h4 hread hrow hcells
  · refine fun up hn hw => ⟨?_, ?_, turns_readLate hl up hw rfl⟩
    · rintro rfl
      exact turns_readWords hl up hw hn hread
    · rintro rfl
      exact turns_readMore hl up hw hread
  · rintro up rfl hbuf hr haddr h34 hreset hscrub
    exact moves_readNone hl up hbuf haddr hr h34 hreset hscrub hread
  · exact fun up => moves_status hl up
  · exact fun up hk => moves_badCmd hl up hk
  · exact fun _ hk => moves_badCmd_none hl (.inr hk)
  · exact fun up hbuf hr haddr h34 hreset hscrub _ => moves_readLate hl up hbuf haddr hr h34 hreset hscrub rfl
  · exact fun hbuf hscrub hcells => turns_perform_byte hl hbuf hscrub hcells
  · exact fun hbuf hscrub hcells => moves_perform_cell hl hbuf hscrub hcells
  · exact fun hbuf ha => moves_perform_unmapped hl hbuf ha
  · exact fun hbuf ha hv => moves_perform_unlock hl hbuf ha hv
  · exact fun hbuf => moves_perform_none hl hbuf
  · exact fun down => moves_write_down hl down hwrite
  · exact fun down => moves_read_down hl down hread
  · exact fun down => moves_status_down hl down
  · exact fun down => moves_badCmd_none hl (.inl down)
  · exact fun down => moves_readTimeout_down hl down rfl

end Sys2Proof.Claim
end

section
/-! SUPPORT. What the statement about the memories reads of a device, its watch, and the rules of what keeps it: the
state's operations and the register fields (R189, R220, R375, R394). -/

namespace Sys2Proof.Machine

/-- The keys of the register fields that `StatusTrue` reads. -/
def watchedKeys : List Nat :=
  [F.TWIN_CFG_MODE.id, F.TWIN_STATUS_STATE.id, F.TWIN_STATUS_PERMIT.id, F.MMU_INV_BUSY.id, F.LAM_STATUS_STATE.id,
    F.LAM_STATUS_BUSY.id]

/-- A write of the field moves none of them. -/
def Fld.apart (f : Fld) : Bool := !watchedKeys.contains f.id

theorem Fld.apart_iff (f : Fld) : f.apart = true ↔ f.id ≠ 117440512 ∧ f.id ≠ 117440640 ∧ f.id ≠ 117440643 ∧
    f.id ≠ 83886603 ∧ f.id ≠ 125829376 ∧ f.id ≠ 125829379 := by
  simp [Fld.apart, watchedKeys, Fld.id, F.TWIN_CFG_MODE, F.TWIN_CFG, F.TWIN_STATUS_STATE, F.TWIN_STATUS,
    F.TWIN_STATUS_PERMIT, F.MMU_INV_BUSY, F.MMU_INV, F.LAM_STATUS_STATE, F.LAM_STATUS, F.LAM_STATUS_BUSY]

/-- What `StatusTrue` reads of a device: the six register fields, the invalidations that are pending and the drain of a
switch. -/
structure Status where
  mode    : Nat
  state   : Nat
  permit  : Nat
  invBusy : Nat
  lam     : Nat
  busy    : Nat
  inv     : List InvReq
  drain   : Option Nat

/-- What `StatusTrue` and `FramesNamed` read of a device: the status, the class of the frame on each port's line, and
the paths of the frames that the ports and the flow engine hold. -/
structure Watch where
  status  : Status
  line    : Nat → Option Nat
  sixes   : Nat → List Nat
  ingress : List Nat

/-- A port's state. -/
def Net.mac (n : Net) (p : Nat) : Mac := Sparse.get (fun _ => Mac.init) n.macs p

/-- The watch by the parts of the device that it reads. -/
def Watch.of (regs : List (Nat × Nat)) (inv : List InvReq) (net : Net) (sys : Sys) : Watch where
  status :=
    { mode := Sparse.get fieldReset regs F.TWIN_CFG_MODE.id
      state := Sparse.get fieldReset regs F.TWIN_STATUS_STATE.id
      permit := Sparse.get fieldReset regs F.TWIN_STATUS_PERMIT.id
      invBusy := Sparse.get fieldReset regs F.MMU_INV_BUSY.id
      lam := Sparse.get fieldReset regs F.LAM_STATUS_STATE.id
      busy := Sparse.get fieldReset regs F.LAM_STATUS_BUSY.id
      inv := inv
      drain := sys.lam.drain }
  line := fun p => (net.mac p).line.map OnLine.cls
  sixes := fun p => (net.mac p).c6.map TxFrame.path
  ingress := net.ingress.map FlowFrame.path

def Dev.watch (d : Dev) : Watch := Watch.of d.regs d.inv d.net d.sys

section
variable (d : Dev)

theorem Dev.watch_mk (regs : List (Nat × Nat)) (resetN supplyOk : Bool) (missing : List Supply)
    (freeCtr tick tickNum : Nat) (queues : List (Nat × Queue)) (rake : List RakeJob) (pool : Pool)
    (tlbs : List (Nat × List TlbEntry)) (inv : List InvReq) (ctxs : List (Nat × Ctx)) (dmas : List (Nat × Dma))
    (icache : List (Nat × List (Nat × Nat))) (badRows : List Nat) (perf : List (Nat × Nat))
    (routePend : List (Nat × Option RoutePend)) (routeFresh : List (Nat × Bool))
    (txOld : List (Nat × Option (Nat × Bool))) (envs : List ((Nat × Nat) × (Nat × Nat))) (time : TimeSt) (clk : ClkSt)
    (teus : List (Nat × Teu)) (saps : List (Nat × Sap)) (drive : Drive) (net : Net) (sys : Sys) :
    (⟨regs, resetN, supplyOk, missing, freeCtr, tick, tickNum, queues, rake, pool, tlbs, inv, ctxs, dmas, icache,
      badRows,
      perf, routePend, routeFresh, txOld, envs, time, clk, teus, saps, drive, net, sys⟩ : Dev).watch =
      Watch.of regs inv net sys := rfl

theorem Watch.of_dev : Watch.of d.regs d.inv d.net d.sys = d.watch := rfl

@[simp] theorem Dev.setQ_watch (n : Nat) (v : Queue) : (d.setQ n v).watch = d.watch := (rfl)
@[simp] theorem Dev.setCtx_watch (n : Nat) (v : Ctx) : (d.setCtx n v).watch = d.watch := (rfl)
@[simp] theorem Dev.setDma_watch (n : Nat) (v : Dma) : (d.setDma n v).watch = d.watch := (rfl)
@[simp] theorem Dev.setTlb_watch (n : Nat) (v : List TlbEntry) : (d.setTlb n v).watch = d.watch := (rfl)
@[simp] theorem Dev.setLines_watch (n : Nat) (v : List (Nat × Nat)) : (d.setLines n v).watch = d.watch := (rfl)
@[simp] theorem Dev.setPend_watch (n : Nat) (v : Option RoutePend) : (d.setPend n v).watch = d.watch := (rfl)
@[simp] theorem Dev.setFirstTake_watch (n : Nat) (v : Bool) : (d.setFirstTake n v).watch = d.watch := (rfl)
@[simp] theorem Dev.setTeu_watch (n : Nat) (v : Teu) : (d.setTeu n v).watch = d.watch := (rfl)
@[simp] theorem Dev.setOldBind_watch (n : Nat) (v : Option (Nat × Bool)) : (d.setOldBind n v).watch = d.watch := (rfl)
@[simp] theorem Dev.setSap_watch (n : Nat) (v : Sap) : (d.setSap n v).watch = d.watch := (rfl)
@[simp] theorem Dev.setRxf_watch (n : Nat) (v : RxFlow) : (d.setRxf n v).watch = d.watch := (rfl)
@[simp] theorem Dev.setTxf_watch (n : Nat) (v : TxFlow) : (d.setTxf n v).watch = d.watch := (rfl)
@[simp] theorem Dev.setGang_watch (n : Nat) (v : Gang) : (d.setGang n v).watch = d.watch := (rfl)
@[simp] theorem Dev.setGroup_watch (n : Nat) (v : Group) : (d.setGroup n v).watch = d.watch := (rfl)
@[simp] theorem Dev.setBst_watch (n : Nat) (v : Bst) : (d.setBst n v).watch = d.watch := (rfl)
@[simp] theorem Dev.modTwin_watch (f : Twin → Twin) : (d.modTwin f).watch = d.watch := (rfl)
@[simp] theorem Dev.modHost_watch (f : HostIf → HostIf) : (d.modHost f).watch = d.watch := (rfl)
@[simp] theorem Dev.modJtag_watch (f : Jtag → Jtag) : (d.modJtag f).watch = d.watch := (rfl)
@[simp] theorem Dev.setReq_watch (r : Nat) (q : Requester) : (d.setReq r q).watch = d.watch := (rfl)
@[simp] theorem Dev.setCell_watch (c : Nat) (m : CellMeta) : (d.setCell c m).watch = d.watch := (rfl)
@[simp] theorem Dev.fresh_watch : d.fresh.2.watch = d.watch := (rfl)

@[simp] theorem Dev.modLam_watch (f : Lam → Lam) (h : (f d.sys.lam).drain = d.sys.lam.drain) :
    (d.modLam f).watch = d.watch := by
  simp [Dev.watch, Watch.of, Dev.modLam, h]

theorem Dev.mac_eq (p : Nat) : d.net.mac p = d.mac p := rfl

@[simp] theorem Dev.setMac_watch (p : Nat) (m : Mac) (h : m.line.map OnLine.cls = (d.mac p).line.map OnLine.cls)
    (h6 : m.c6.map TxFrame.path = (d.mac p).c6.map TxFrame.path) : (d.setMac p m).watch = d.watch := by
  have hm (j : Nat) : (d.setMac p m).net.mac j = if j = p then m else d.mac j := Sparse.get_set _ _ _ _ _
  simp only [Dev.watch, Watch.of, hm, Dev.mac_eq]
  congr 1
  · funext j
    split
    · next e => rw [e, h]
    · rfl
  · funext j
    split
    · next e => rw [e, h6]
    · rfl

/-- A register write moves no watch where its field is none of the six. -/
@[simp] theorem Dev.wr_watch (f : Fld) (v : Nat) (h : f.apart = true) : (d.wr f v).watch = d.watch := by
  rw [Fld.apart_iff] at h
  obtain ⟨h1, h2, h3, h4, h5, h6⟩ := h
  have hk (k : Nat) (hk : f.id ≠ k) : Sparse.get fieldReset (d.wr f v).regs k = Sparse.get fieldReset d.regs k :=
    Sparse.get_set_other _ _ _ hk.symm
  have e : Watch.of (d.wr f v).regs d.inv d.net d.sys = d.watch := by
    simp only [Dev.watch, Watch.of, hk _ h1, hk _ h2, hk _ h3, hk _ h4, hk _ h5, hk _ h6,
      show F.TWIN_CFG_MODE.id = 117440512 from rfl, show F.TWIN_STATUS_STATE.id = 117440640 from rfl,
      show F.TWIN_STATUS_PERMIT.id = 117440643 from rfl, show F.MMU_INV_BUSY.id = 83886603 from rfl,
      show F.LAM_STATUS_STATE.id = 125829376 from rfl, show F.LAM_STATUS_BUSY.id = 125829379 from rfl]
  exact e

@[simp] theorem Dev.set_watch (f : Fld) (h : f.apart = true) : (d.set f).watch = d.watch := d.wr_watch f 1 h
@[simp] theorem Dev.clr_watch (f : Fld) (h : f.apart = true) : (d.clr f).watch = d.watch := d.wr_watch f 0 h
@[simp] theorem Dev.bump_watch (f : Fld) (n : Nat) (h : f.apart = true) : (d.bump f n).watch = d.watch :=
  d.wr_watch f _ h

@[simp] theorem Dev.watch_ite (c : Prop) [Decidable c] (a b : Dev) :
    (if c then a else b).watch = if c then a.watch else b.watch := apply_ite Dev.watch c a b

@[simp] theorem Chip.dev_ite (c : Prop) [Decidable c] (a b : Chip) :
    (if c then a else b).dev = if c then a.dev else b.dev := apply_ite Chip.dev c a b

/-- Steps that each keep the watch keep it together. -/
@[simp] theorem Dev.foldl_watch {α : Type} (f : Dev → α → Dev) (l : List α)
    (h : ∀ x ∈ l, ∀ e : Dev, (f e x).watch = e.watch) : (l.foldl f d).watch = d.watch := by
  induction l generalizing d with
  | nil => rfl
  | cons x l ih =>
    rw [List.foldl_cons, ih _ fun y hy => h y (List.mem_cons_of_mem x hy), h x List.mem_cons_self]

@[simp] theorem Dev.each_watch (l : List Nat) (f : Dev → Nat → Dev)
    (h : ∀ n ∈ l, ∀ e : Dev, (f e n).watch = e.watch) : (d.each l f).watch = d.watch := d.foldl_watch f l h

@[simp] theorem Dev.wrs_watch (l : List (Fld × Nat)) (h : ∀ p ∈ l, p.1.apart = true) : (d.wrs l).watch = d.watch :=
  d.foldl_watch _ l fun p hp e => e.wr_watch p.1 p.2 (h p hp)

@[simp] theorem Dev.when_watch (b : Bool) (f : Dev → Dev) :
    (d.when b f).watch = if b then (f d).watch else d.watch := apply_ite Dev.watch _ _ _

@[simp] theorem Dev.fst_ite_watch {α : Type} (c : Prop) [Decidable c] (a b : Dev × α) :
    (if c then a else b).1.watch = if c then a.1.watch else b.1.watch := apply_ite (fun r : Dev × α => r.1.watch) c a b

@[simp] theorem Dev.snd_ite_watch {α : Type} (c : Prop) [Decidable c] (a b : α × Dev) :
    (if c then a else b).2.watch = if c then a.2.watch else b.2.watch := apply_ite (fun r : α × Dev => r.2.watch) c a b

end

@[simp] theorem Fld.apart_bst_g_c (g c : Nat) :
    (F.BST_CNT_COUNT g c).apart = true := by
  simp only [Fld.apart_iff, Fld.id,
    F.BST_CNT_COUNT, F.BST_CNT]
  omega

@[simp] theorem Fld.apart_bst_g (g : Nat) :
    (F.BST_CTL_EN g).apart = true ∧ (F.BST_CTL_MODE g).apart = true ∧ (F.BST_CTL_PHASE g).apart = true ∧
    (F.BST_EVENTS_CFG_DENIED g).apart = true ∧ (F.BST_EVENTS_CFG_ERR g).apart = true ∧
    (F.BST_EVENTS_MULTI_EV g).apart = true ∧ (F.BST_EVENTS_OV_EV g).apart = true ∧
    (F.BST_EVENTS_READY_EV g).apart = true ∧ (F.BST_EVENTS_STOP_EV g).apart = true ∧
    (F.BST_FOLLOW_HEADROOM g).apart = true ∧ (F.BST_ILIM_CODE g).apart = true ∧ (F.BST_ILIM_CYC g).apart = true ∧
    (F.BST_LOOP_KI g).apart = true ∧ (F.BST_LOOP_KP g).apart = true ∧ (F.BST_MEAS_C g).apart = true ∧
    (F.BST_MEAS_V g).apart = true ∧ (F.BST_OVP_V g).apart = true ∧ (F.BST_PWM_LEB g).apart = true ∧
    (F.BST_PWM_MAXD g).apart = true ∧ (F.BST_PWM_SLOPE g).apart = true ∧ (F.BST_RAIL_LIM_MAX g).apart = true ∧
    (F.BST_RAIL_LIM_MIN g).apart = true ∧ (F.BST_RESTART_MS g).apart = true ∧ (F.BST_SENSE_FS g).apart = true ∧
    (F.BST_SLEW_V_PER_MS g).apart = true ∧ (F.BST_STATUS_CAUSE g).apart = true ∧
    (F.BST_STATUS_FORCED_MIN g).apart = true ∧ (F.BST_STATUS_READY g).apart = true ∧
    (F.BST_STATUS_SENSE_OK g).apart = true ∧ (F.BST_STATUS_STATE g).apart = true ∧
    (F.BST_TARGET_GOAL g).apart = true ∧ (F.BST_TARGET_REF g).apart = true ∧ (F.BST_UV_CYC g).apart = true ∧
    (F.BST_UV_MARGIN g).apart = true := by
  simp only [Fld.apart_iff, Fld.id,
    F.BST_CTL_EN, F.BST_CTL, F.BST_CTL_MODE, F.BST_CTL_PHASE, F.BST_EVENTS_CFG_DENIED, F.BST_EVENTS,
    F.BST_EVENTS_CFG_ERR, F.BST_EVENTS_MULTI_EV, F.BST_EVENTS_OV_EV, F.BST_EVENTS_READY_EV, F.BST_EVENTS_STOP_EV,
    F.BST_FOLLOW_HEADROOM, F.BST_FOLLOW, F.BST_ILIM_CODE, F.BST_ILIM, F.BST_ILIM_CYC, F.BST_LOOP_KI, F.BST_LOOP,
    F.BST_LOOP_KP, F.BST_MEAS_C, F.BST_MEAS, F.BST_MEAS_V, F.BST_OVP_V, F.BST_OVP, F.BST_PWM_LEB, F.BST_PWM,
    F.BST_PWM_MAXD, F.BST_PWM_SLOPE, F.BST_RAIL_LIM_MAX, F.BST_RAIL_LIM, F.BST_RAIL_LIM_MIN, F.BST_RESTART_MS,
    F.BST_RESTART, F.BST_SENSE_FS, F.BST_SENSE, F.BST_SLEW_V_PER_MS, F.BST_SLEW, F.BST_STATUS_CAUSE, F.BST_STATUS,
    F.BST_STATUS_FORCED_MIN, F.BST_STATUS_READY, F.BST_STATUS_SENSE_OK, F.BST_STATUS_STATE, F.BST_TARGET_GOAL,
    F.BST_TARGET, F.BST_TARGET_REF, F.BST_UV_CYC, F.BST_UV, F.BST_UV_MARGIN]
  omega

@[simp] theorem Fld.apart_core_c_lt (c : Nat) (h : c < 16) :
    (F.CORE_HALT_HALT c).apart = true := by
  simp only [Fld.apart_iff, Fld.id,
    F.CORE_HALT_HALT, F.CORE_HALT]
  omega

@[simp] theorem Fld.apart_dma_ch (ch : Nat) :
    (F.DMA_CNT_DESCS ch).apart = true ∧ (F.DMA_CUR_VA ch).apart = true ∧ (F.DMA_DONE_BYTES_BYTES ch).apart = true ∧
    (F.DMA_EVENTS_CHAIN_END ch).apart = true ∧ (F.DMA_EVENTS_CMD_IGNORED ch).apart = true ∧
    (F.DMA_EVENTS_DONE_EV ch).apart = true ∧ (F.DMA_EVENTS_ERR_EV ch).apart = true ∧
    (F.DMA_EVENTS_FAULT_EV ch).apart = true ∧ (F.DMA_FAULT_VA_VA ch).apart = true ∧
    (F.DMA_STATUS_CAUSE ch).apart = true ∧ (F.DMA_STATUS_DELIVERED ch).apart = true ∧
    (F.DMA_STATUS_OPEN ch).apart = true ∧ (F.DMA_STATUS_STATE ch).apart = true ∧
    (F.DMA_STATUS_WHERE ch).apart = true := by
  simp only [Fld.apart_iff, Fld.id,
    F.DMA_CNT_DESCS, F.DMA_CNT, F.DMA_CUR_VA, F.DMA_CUR, F.DMA_DONE_BYTES_BYTES, F.DMA_DONE_BYTES,
    F.DMA_EVENTS_CHAIN_END, F.DMA_EVENTS, F.DMA_EVENTS_CMD_IGNORED, F.DMA_EVENTS_DONE_EV, F.DMA_EVENTS_ERR_EV,
    F.DMA_EVENTS_FAULT_EV, F.DMA_FAULT_VA_VA, F.DMA_FAULT_VA, F.DMA_STATUS_CAUSE, F.DMA_STATUS,
    F.DMA_STATUS_DELIVERED, F.DMA_STATUS_OPEN, F.DMA_STATUS_STATE, F.DMA_STATUS_WHERE]
  omega

@[simp] theorem Fld.apart_dma_ch_lt (ch : Nat) (h : ch < 32) :
    (F.DMA_DESC_VA ch).apart = true := by
  simp only [Fld.apart_iff, Fld.id,
    F.DMA_DESC_VA, F.DMA_DESC]
  omega

@[simp] theorem Fld.apart_flow :
    F.FLOW_STATUS_RX_CH.apart = true ∧ F.FLOW_STATUS_TX_CH.apart = true := by
  decide

@[simp] theorem Fld.apart_grp_g (g : Nat) :
    (F.GRP_EVENTS_GAP_EV g).apart = true ∧ (F.GRP_EVENTS_MISMATCH_EV g).apart = true ∧
    (F.GRP_STATUS_MEMBERS g).apart = true ∧ (F.GRP_STATUS_OFFSET_MISMATCH g).apart = true := by
  simp only [Fld.apart_iff, Fld.id,
    F.GRP_EVENTS_GAP_EV, F.GRP_EVENTS, F.GRP_EVENTS_MISMATCH_EV, F.GRP_STATUS_MEMBERS, F.GRP_STATUS,
    F.GRP_STATUS_OFFSET_MISMATCH]
  omega

@[simp] theorem Fld.apart_grp_g_lt (g : Nat) (h : g < 16) :
    (F.GRP_GAP_TICKS_COUNT g).apart = true ∧ (F.GRP_OFFSET_CYC_CYCLES g).apart = true ∧
    (F.GRP_STATUS_GAP_NOW g).apart = true := by
  simp only [Fld.apart_iff, Fld.id,
    F.GRP_GAP_TICKS_COUNT, F.GRP_GAP_TICKS, F.GRP_OFFSET_CYC_CYCLES, F.GRP_OFFSET_CYC, F.GRP_STATUS_GAP_NOW,
    F.GRP_STATUS]
  omega

@[simp] theorem Fld.apart_lam_k_lt (k : Nat) (h : k < 4) :
    (F.LAM_CNT_COUNT k).apart = true := by
  simp only [Fld.apart_iff, Fld.id,
    F.LAM_CNT_COUNT, F.LAM_CNT]
  omega

@[simp] theorem Fld.apart_lam :
    F.LAM_CTL_TIMED.apart = true ∧ F.LAM_CUR_ADDR_ADDR.apart = true ∧ F.LAM_EVENTS_AUTO_ROLLBACK.apart = true ∧
    F.LAM_EVENTS_CMD_DENIED.apart = true ∧ F.LAM_EVENTS_CONFIRMED.apart = true ∧
    F.LAM_EVENTS_CONFIRM_LAPSED.apart = true ∧ F.LAM_EVENTS_LATE_EV.apart = true ∧
    F.LAM_EVENTS_ROLLBACK_FAIL.apart = true ∧ F.LAM_EVENTS_ROLLED_BACK.apart = true ∧
    F.LAM_EVENTS_SAVE_DONE.apart = true ∧ F.LAM_EVENTS_SAVE_FAIL.apart = true ∧ F.LAM_EVENTS_SWITCHED.apart = true ∧
    F.LAM_EVENTS_VERIFY_FAIL.apart = true ∧ F.LAM_EVENTS_VERIFY_OK.apart = true ∧ F.LAM_GCMD_SLOT.apart = true ∧
    F.LAM_PREV_ADDR_ADDR.apart = true ∧ F.LAM_RESULT_CODE.apart = true ∧ F.LAM_RESULT_OTHER_CODE.apart = true ∧
    F.LAM_RESULT_OTHER_RECORD.apart = true ∧ F.LAM_RESULT_OTHER_SECTION.apart = true ∧
    F.LAM_RESULT_RECORD.apart = true ∧ F.LAM_RESULT_SECTION.apart = true ∧ F.LAM_STAGE_ADDR_ADDR.apart = true ∧
    F.LAM_STATUS_BY_ROLLBACK.apart = true ∧ F.LAM_STATUS_FLASH_BUSY.apart = true ∧
    F.LAM_STATUS_PREV_VALID.apart = true ∧ F.LAM_VER_CUR_VERSION.apart = true ∧
    F.LAM_VER_PREV_VERSION.apart = true ∧ F.LAM_VER_REJECTED_VERSION.apart = true ∧
    F.LAM_VER_STAGED_VERSION.apart = true ∧ F.LAM_WINDOW_S.apart = true := by
  decide

@[simp] theorem Fld.apart_lam_s_lt (s : Nat) (h : s < 2) :
    (F.LAM_SLOT_VER_VERSION s).apart = true := by
  simp only [Fld.apart_iff, Fld.id,
    F.LAM_SLOT_VER_VERSION, F.LAM_SLOT_VER]
  omega

@[simp] theorem Fld.apart_mac_p (p : Nat) :
    (F.MAC_AN_LP p).apart = true ∧ (F.MAC_EVENTS_GATE_ERR p).apart = true ∧
    (F.MAC_EVENTS_LATE_DROP p).apart = true ∧ (F.MAC_EVENTS_NOBUF p).apart = true ∧
    (F.MAC_EVENTS_OVF p).apart = true ∧ (F.MAC_EVENTS_RING_ERR p).apart = true ∧
    (F.MAC_EVENTS_RING_FULL p).apart = true ∧ (F.MAC_EVENTS_RXR0_FRAME p).apart = true ∧
    (F.MAC_EVENTS_RXR1_FRAME p).apart = true ∧ (F.MAC_GCL_CTL_COUNT p).apart = true ∧
    (F.MAC_GCL_CTL_EN p).apart = true ∧ (F.MAC_GCL_STATUS_ENTRY p).apart = true ∧
    (F.MAC_GCL_STATUS_PENDING p).apart = true ∧ (F.MAC_POOL_FREE p).apart = true ∧
    (F.MAC_STATUS_AN_DONE p).apart = true ∧ (F.MAC_STATUS_BLOCK_LOCK p).apart = true ∧
    (F.MAC_STATUS_HI_BER p).apart = true ∧ (F.MAC_STATUS_LPI_RX p).apart = true ∧
    (F.MAC_STATUS_LPI_TX p).apart = true ∧ (F.MAC_STATUS_MODE_ACTIVE p).apart = true ∧
    (F.MAC_STATUS_PAUSED p).apart = true ∧ (F.MAC_STATUS_REMOTE_FAULT p).apart = true := by
  simp only [Fld.apart_iff, Fld.id,
    F.MAC_AN_LP, F.MAC_AN, F.MAC_EVENTS_GATE_ERR, F.MAC_EVENTS, F.MAC_EVENTS_LATE_DROP, F.MAC_EVENTS_NOBUF,
    F.MAC_EVENTS_OVF, F.MAC_EVENTS_RING_ERR, F.MAC_EVENTS_RING_FULL, F.MAC_EVENTS_RXR0_FRAME,
    F.MAC_EVENTS_RXR1_FRAME, F.MAC_GCL_CTL_COUNT, F.MAC_GCL_CTL, F.MAC_GCL_CTL_EN, F.MAC_GCL_STATUS_ENTRY,
    F.MAC_GCL_STATUS, F.MAC_GCL_STATUS_PENDING, F.MAC_POOL_FREE, F.MAC_POOL, F.MAC_STATUS_AN_DONE, F.MAC_STATUS,
    F.MAC_STATUS_BLOCK_LOCK, F.MAC_STATUS_HI_BER, F.MAC_STATUS_LPI_RX, F.MAC_STATUS_LPI_TX,
    F.MAC_STATUS_MODE_ACTIVE, F.MAC_STATUS_PAUSED, F.MAC_STATUS_REMOTE_FAULT]
  omega

@[simp] theorem Fld.apart_mac_p_k_lt (p k : Nat) (h : k < 64) :
    (F.MAC_CNT_COUNT p k).apart = true := by
  simp only [Fld.apart_iff, Fld.id,
    F.MAC_CNT_COUNT, F.MAC_CNT]
  omega

@[simp] theorem Fld.apart_mac_p_lt (p : Nat) (h : p < 4) :
    (F.MAC_CTL_EN p).apart = true ∧ (F.MAC_EVENTS_LINK_CHG p).apart = true ∧ (F.MAC_EVENTS_TX_DONE p).apart = true ∧
    (F.MAC_STATUS_LINK_UP p).apart = true ∧ (F.MAC_STATUS_LOCAL_FAULT p).apart = true := by
  simp only [Fld.apart_iff, Fld.id,
    F.MAC_CTL_EN, F.MAC_CTL, F.MAC_EVENTS_LINK_CHG, F.MAC_EVENTS, F.MAC_EVENTS_TX_DONE, F.MAC_STATUS_LINK_UP,
    F.MAC_STATUS, F.MAC_STATUS_LOCAL_FAULT]
  omega

@[simp] theorem Fld.apart_mac_p_r_lt (p r : Nat) (h : r < 8) :
    (F.MAC_RXR_PTR_HEAD p r).apart = true ∧ (F.MAC_RXR_PTR_TAIL p r).apart = true := by
  simp only [Fld.apart_iff, Fld.id,
    F.MAC_RXR_PTR_HEAD, F.MAC_RXR_PTR, F.MAC_RXR_PTR_TAIL]
  omega

@[simp] theorem Fld.apart_mac_p_cl_lt (p cl : Nat) (h : cl < 8) :
    (F.MAC_TXR_PTR_HEAD p cl).apart = true ∧ (F.MAC_TXR_PTR_TAIL p cl).apart = true := by
  simp only [Fld.apart_iff, Fld.id,
    F.MAC_TXR_PTR_HEAD, F.MAC_TXR_PTR, F.MAC_TXR_PTR_TAIL]
  omega

@[simp] theorem Fld.apart_medpll :
    F.MEDPLL_CTL_FALLBACK.apart = true ∧ F.MEDPLL_CTL_MCLK_DIV.apart = true ∧ F.MEDPLL_CTL_MCLK_EN.apart = true ∧
    F.MEDPLL_CTL_MODE.apart = true ∧ F.MEDPLL_CTL_OPEN_BAND.apart = true ∧ F.MEDPLL_CTL_REF_PORT.apart = true ∧
    F.MEDPLL_CTL_REF_SEL.apart = true ∧ F.MEDPLL_CTL_WCLK_RATE.apart = true ∧
    F.MEDPLL_EVENTS_FREQ_ALARM_EV.apart = true ∧ F.MEDPLL_EVENTS_JUMP_REFUSED_EV.apart = true ∧
    F.MEDPLL_EVENTS_LOCKED.apart = true ∧ F.MEDPLL_EVENTS_LOCK_LOST.apart = true ∧
    F.MEDPLL_EVENTS_MODE_DENIED.apart = true ∧ F.MEDPLL_EVENTS_REALIGN_DENIED.apart = true ∧
    F.MEDPLL_EVENTS_REALIGN_DONE.apart = true ∧ F.MEDPLL_EVENTS_REF_LOST.apart = true ∧
    F.MEDPLL_EVENTS_REF_RETURNED.apart = true ∧ F.MEDPLL_EVENTS_VT_EV.apart = true ∧
    F.MEDPLL_REF_MEAS_OFFSET_PPM.apart = true ∧ F.MEDPLL_RESIDUAL_RESIDUAL.apart = true ∧
    F.MEDPLL_STATUS_BAND.apart = true ∧ F.MEDPLL_STATUS_BAND_ENTRY.apart = true ∧
    F.MEDPLL_STATUS_BAND_SEARCHED.apart = true ∧ F.MEDPLL_STATUS_COAST.apart = true ∧
    F.MEDPLL_STATUS_FREQ_ALARM.apart = true ∧ F.MEDPLL_STATUS_LOCK.apart = true ∧
    F.MEDPLL_STATUS_REALIGN_PENDING.apart = true ∧ F.MEDPLL_STATUS_REF_ACTIVE.apart = true ∧
    F.MEDPLL_STATUS_REF_JUMP_REFUSED.apart = true ∧ F.MEDPLL_STATUS_REF_VALID.apart = true ∧
    F.MEDPLL_STATUS_RESIDUAL_WIDE.apart = true ∧ F.MEDPLL_STATUS_SLEWING.apart = true ∧
    F.MEDPLL_STATUS_SMR_RANGE.apart = true ∧ F.MEDPLL_STATUS_VT_HIGH.apart = true ∧
    F.MEDPLL_STATUS_VT_LOW.apart = true := by
  decide

@[simp] theorem Fld.apart_mmu :
    F.MMU_EVENTS_CRES_STALE.apart = true ∧ F.MMU_EVENTS_FAULTQ_LOST.apart = true ∧
    F.MMU_EVENTS_FAULT_EV.apart = true ∧ F.MMU_EVENTS_INV_DENIED.apart = true ∧ F.MMU_EVENTS_INV_DONE.apart = true ∧
    F.MMU_EVENTS_LOCK_FULL.apart = true ∧ F.MMU_FAULT_CNT_CORE.apart = true ∧ F.MMU_FAULT_CNT_DMA.apart = true ∧
    F.MMU_INV_ASID.apart = true ∧ F.MMU_INV_OP.apart = true := by
  decide

@[simp] theorem Fld.apart_mod_k_c (k c : Nat) :
    (F.MOD_GANG_CNT_COUNT k c).apart = true := by
  simp only [Fld.apart_iff, Fld.id,
    F.MOD_GANG_CNT_COUNT, F.MOD_GANG_CNT]
  omega

@[simp] theorem Fld.apart_mod_k (k : Nat) :
    (F.MOD_GANG_CTL_FLT_MASK k).apart = true ∧ (F.MOD_GANG_CTL_INV k).apart = true ∧
    (F.MOD_GANG_CTL_RUN k).apart = true ∧ (F.MOD_GANG_EVENTS_CFG_ERR k).apart = true ∧
    (F.MOD_GANG_EVENTS_CLIP_EV k).apart = true ∧ (F.MOD_GANG_EVENTS_FAULT_EV k).apart = true ∧
    (F.MOD_GANG_EVENTS_HELD_EV k).apart = true ∧ (F.MOD_GANG_EVENTS_LATCH_EV k).apart = true ∧
    (F.MOD_GANG_EVENTS_MISSING_EV k).apart = true ∧ (F.MOD_GANG_EVENTS_RESTART_EV k).apart = true ∧
    (F.MOD_GANG_FAULT_NS_NS k).apart = true ∧ (F.MOD_GANG_FAULT_SRC_KIND k).apart = true ∧
    (F.MOD_GANG_FAULT_SRC_PAIRS k).apart = true ∧ (F.MOD_GANG_STATUS_CLIP_NOW k).apart = true ∧
    (F.MOD_GANG_STATUS_DRAINING k).apart = true ∧ (F.MOD_GANG_STATUS_RECENT k).apart = true ∧
    (F.MOD_GANG_STATUS_STATE k).apart = true := by
  simp only [Fld.apart_iff, Fld.id,
    F.MOD_GANG_CTL_FLT_MASK, F.MOD_GANG_CTL, F.MOD_GANG_CTL_INV, F.MOD_GANG_CTL_RUN, F.MOD_GANG_EVENTS_CFG_ERR,
    F.MOD_GANG_EVENTS, F.MOD_GANG_EVENTS_CLIP_EV, F.MOD_GANG_EVENTS_FAULT_EV, F.MOD_GANG_EVENTS_HELD_EV,
    F.MOD_GANG_EVENTS_LATCH_EV, F.MOD_GANG_EVENTS_MISSING_EV, F.MOD_GANG_EVENTS_RESTART_EV, F.MOD_GANG_FAULT_NS_NS,
    F.MOD_GANG_FAULT_NS, F.MOD_GANG_FAULT_SRC_KIND, F.MOD_GANG_FAULT_SRC, F.MOD_GANG_FAULT_SRC_PAIRS,
    F.MOD_GANG_STATUS_CLIP_NOW, F.MOD_GANG_STATUS, F.MOD_GANG_STATUS_DRAINING, F.MOD_GANG_STATUS_RECENT,
    F.MOD_GANG_STATUS_STATE]
  omega

@[simp] theorem Fld.apart_mod_g (g : Nat) :
    (F.MOD_GRP_CARRIER_DIV g).apart = true ∧ (F.MOD_GRP_CARRIER_OFS g).apart = true ∧
    (F.MOD_GRP_CFG_DT g).apart = true ∧ (F.MOD_GRP_CFG_LA g).apart = true ∧ (F.MOD_GRP_CFG_LAYOUT g).apart = true ∧
    (F.MOD_GRP_CFG_PIN_EN g).apart = true ∧ (F.MOD_GRP_EVENTS_ALL_DOWN_EV g).apart = true ∧
    (F.MOD_GRP_EVENTS_CAL_EV g).apart = true ∧ (F.MOD_GRP_EVENTS_CFG_DENIED g).apart = true ∧
    (F.MOD_GRP_EVENTS_SLIP_EV g).apart = true ∧ (F.MOD_GRP_PROT_HOLDOFF_MS g).apart = true ∧
    (F.MOD_GRP_PROT_RETRY_MAX g).apart = true ∧ (F.MOD_GRP_PROT_RETRY_WIN_S g).apart = true ∧
    (F.MOD_GRP_RAIL_V g).apart = true ∧ (F.MOD_GRP_STATUS_ALL_DOWN g).apart = true ∧
    (F.MOD_GRP_STATUS_CAL_OK g).apart = true ∧ (F.MOD_GRP_STATUS_CARRIER_RUN g).apart = true ∧
    (F.MOD_GRP_STATUS_EPOCH_SLIP g).apart = true ∧ (F.MOD_GRP_STATUS_HOLD g).apart = true ∧
    (F.MOD_GRP_STATUS_RAIL_READY g).apart = true ∧ (F.MOD_GRP_VREF_V g).apart = true := by
  simp only [Fld.apart_iff, Fld.id,
    F.MOD_GRP_CARRIER_DIV, F.MOD_GRP_CARRIER, F.MOD_GRP_CARRIER_OFS, F.MOD_GRP_CFG_DT, F.MOD_GRP_CFG,
    F.MOD_GRP_CFG_LA, F.MOD_GRP_CFG_LAYOUT, F.MOD_GRP_CFG_PIN_EN, F.MOD_GRP_EVENTS_ALL_DOWN_EV, F.MOD_GRP_EVENTS,
    F.MOD_GRP_EVENTS_CAL_EV, F.MOD_GRP_EVENTS_CFG_DENIED, F.MOD_GRP_EVENTS_SLIP_EV, F.MOD_GRP_PROT_HOLDOFF_MS,
    F.MOD_GRP_PROT, F.MOD_GRP_PROT_RETRY_MAX, F.MOD_GRP_PROT_RETRY_WIN_S, F.MOD_GRP_RAIL_V, F.MOD_GRP_RAIL,
    F.MOD_GRP_STATUS_ALL_DOWN, F.MOD_GRP_STATUS, F.MOD_GRP_STATUS_CAL_OK, F.MOD_GRP_STATUS_CARRIER_RUN,
    F.MOD_GRP_STATUS_EPOCH_SLIP, F.MOD_GRP_STATUS_HOLD, F.MOD_GRP_STATUS_RAIL_READY, F.MOD_GRP_VREF_V,
    F.MOD_GRP_VREF]
  omega

@[simp] theorem Fld.apart_mod :
    F.MOD_STATUS_DRAIN.apart = true ∧ F.MOD_STATUS_FREQ_HOLD.apart = true ∧ F.MOD_STATUS_PERMIT.apart = true := by
  decide

@[simp] theorem Fld.apart_pad_i (i : Nat) :
    (F.PAD_DENIED i).apart = true ∧ (F.PAD_DRIVE i).apart = true ∧ (F.PAD_SLEW i).apart = true := by
  simp only [Fld.apart_iff, Fld.id,
    F.PAD_DENIED, F.PAD, F.PAD_DRIVE, F.PAD_SLEW]
  omega

@[simp] theorem Fld.apart_pll :
    F.PLL_CAL_BAND.apart = true ∧ F.PLL_CAL_COUNT_COUNT.apart = true ∧ F.PLL_CAL_DONE.apart = true ∧
    F.PLL_CAL_VT.apart = true ∧ F.PLL_TEMP_TEMP.apart = true ∧ F.PLL_TEMP_VALID.apart = true := by
  decide

@[simp] theorem Fld.apart_port :
    F.PORT_CAP_IN_CH.apart = true ∧ F.PORT_CAP_OUT_CH.apart = true := by
  decide

@[simp] theorem Fld.apart_port_n_k (n k : Nat) :
    (F.PORT_CNT_COUNT n k).apart = true := by
  simp only [Fld.apart_iff, Fld.id,
    F.PORT_CNT_COUNT, F.PORT_CNT]
  omega

@[simp] theorem Fld.apart_port_n_i (n i : Nat) :
    (F.PORT_CS_RX_BYTES n i).apart = true := by
  simp only [Fld.apart_iff, Fld.id,
    F.PORT_CS_RX_BYTES, F.PORT_CS_RX]
  omega

@[simp] theorem Fld.apart_port_n (n : Nat) :
    (F.PORT_CTL_EN n).apart = true ∧ (F.PORT_DEV_DEV_PPM n).apart = true ∧ (F.PORT_DEV_PHASE n).apart = true ∧
    (F.PORT_EVENTS_BP_EV n).apart = true ∧ (F.PORT_EVENTS_CFG_ERR n).apart = true ∧
    (F.PORT_EVENTS_CLASS_EV n).apart = true ∧ (F.PORT_EVENTS_CS_EV n).apart = true ∧
    (F.PORT_EVENTS_DEV_EV n).apart = true ∧ (F.PORT_EVENTS_FORM_EV n).apart = true ∧
    (F.PORT_EVENTS_FRAME_EV n).apart = true ∧ (F.PORT_EVENTS_LOCK_EV n).apart = true ∧
    (F.PORT_EVENTS_NA_EV n).apart = true ∧ (F.PORT_EVENTS_UNDERRUN_EV n).apart = true ∧
    (F.PORT_EVENTS_UNLOCK_EV n).apart = true ∧ (F.PORT_MASK_EPOCH_EPOCH n).apart = true ∧
    (F.PORT_RATE_CLASS n).apart = true ∧ (F.PORT_RATE_MEAS n).apart = true ∧
    (F.PORT_STATUS_BP_MUTE n).apart = true ∧ (F.PORT_STATUS_DEV_HIGH n).apart = true ∧
    (F.PORT_STATUS_LOCKED n).apart = true ∧ (F.PORT_STATUS_NA_MUTE n).apart = true ∧
    (F.PORT_STATUS_PRO n).apart = true ∧ (F.PORT_STATUS_RUNNING n).apart = true := by
  simp only [Fld.apart_iff, Fld.id,
    F.PORT_CTL_EN, F.PORT_CTL, F.PORT_DEV_DEV_PPM, F.PORT_DEV, F.PORT_DEV_PHASE, F.PORT_EVENTS_BP_EV, F.PORT_EVENTS,
    F.PORT_EVENTS_CFG_ERR, F.PORT_EVENTS_CLASS_EV, F.PORT_EVENTS_CS_EV, F.PORT_EVENTS_DEV_EV, F.PORT_EVENTS_FORM_EV,
    F.PORT_EVENTS_FRAME_EV, F.PORT_EVENTS_LOCK_EV, F.PORT_EVENTS_NA_EV, F.PORT_EVENTS_UNDERRUN_EV,
    F.PORT_EVENTS_UNLOCK_EV, F.PORT_MASK_EPOCH_EPOCH, F.PORT_MASK_EPOCH, F.PORT_RATE_CLASS, F.PORT_RATE,
    F.PORT_RATE_MEAS, F.PORT_STATUS_BP_MUTE, F.PORT_STATUS, F.PORT_STATUS_DEV_HIGH, F.PORT_STATUS_LOCKED,
    F.PORT_STATUS_NA_MUTE, F.PORT_STATUS_PRO, F.PORT_STATUS_RUNNING]
  omega

@[simp] theorem Fld.apart_qm :
    F.QM_ECC_ADDR_ADDR.apart = true ∧ F.QM_ECC_ADDR_AREA.apart = true ∧ F.QM_ECC_CORR.apart = true ∧
    F.QM_ECC_UNCORR.apart = true ∧ F.QM_EVENTS_CELL_WRITE.apart = true ∧ F.QM_EVENTS_ECC_CORR_EV.apart = true ∧
    F.QM_EVENTS_ECC_UNCORR_EV.apart = true ∧ F.QM_EVENTS_OVF_ANY.apart = true ∧ F.QM_EVENTS_QERR_ANY.apart = true ∧
    F.QM_FREE_COMMON.apart = true ∧ F.QM_OVF_COUNT.apart = true ∧ F.QM_OVF_Q.apart = true ∧
    F.QM_QERR_CAUSE.apart = true ∧ F.QM_QERR_COUNT.apart = true ∧ F.QM_QERR_Q.apart = true := by
  decide

@[simp] theorem Fld.apart_q_n (n : Nat) :
    (F.Q_EV_HI_EV n).apart = true ∧ (F.Q_EV_HI_LIVE n).apart = true ∧ (F.Q_EV_LO_EV n).apart = true ∧
    (F.Q_EV_LO_LIVE n).apart = true ∧ (F.Q_EV_OVF_EV n).apart = true ∧ (F.Q_EV_QERR_EV n).apart = true := by
  simp only [Fld.apart_iff, Fld.id,
    F.Q_EV_HI_EV, F.Q_EV, F.Q_EV_HI_LIVE, F.Q_EV_LO_EV, F.Q_EV_LO_LIVE, F.Q_EV_OVF_EV, F.Q_EV_QERR_EV]
  omega

@[simp] theorem Fld.apart_route_k_lt (k : Nat) (h : k < 16) :
    (F.ROUTE_CNT_COUNT k).apart = true := by
  simp only [Fld.apart_iff, Fld.id,
    F.ROUTE_CNT_COUNT, F.ROUTE_CNT]
  omega

@[simp] theorem Fld.apart_route :
    F.ROUTE_DENIED_CAUSE.apart = true ∧ F.ROUTE_DENIED_ENDPOINT.apart = true ∧
    F.ROUTE_EVENTS_APPLIED_EV.apart = true ∧ F.ROUTE_EVENTS_DENIED_EV.apart = true ∧
    F.ROUTE_EVENTS_LATE_EV.apart = true ∧ F.ROUTE_EVENTS_PARK_EV.apart = true ∧
    F.ROUTE_EVENTS_STALE_EV.apart = true ∧ F.ROUTE_STATUS_PENDING.apart = true := by
  decide

@[simp] theorem Fld.apart_route_e (e : Nat) :
    (F.ROUTE_E_DENIED e).apart = true ∧ (F.ROUTE_E_OFF e).apart = true ∧ (F.ROUTE_E_OFF_ACTIVE e).apart = true ∧
    (F.ROUTE_E_PENDING e).apart = true ∧ (F.ROUTE_E_Q_ACTIVE e).apart = true := by
  simp only [Fld.apart_iff, Fld.id,
    F.ROUTE_E_DENIED, F.ROUTE_E, F.ROUTE_E_OFF, F.ROUTE_E_OFF_ACTIVE, F.ROUTE_E_PENDING, F.ROUTE_E_Q_ACTIVE]
  omega

@[simp] theorem Fld.apart_route_e_lt (e : Nat) (h : e < 0x8000) :
    (F.ROUTE_E_Q e).apart = true := by
  simp only [Fld.apart_iff, Fld.id,
    F.ROUTE_E_Q, F.ROUTE_E]
  omega

@[simp] theorem Fld.apart_rxf_f_k_lt (f k : Nat) (h : k < 16) :
    (F.RXF_CNT_COUNT f k).apart = true := by
  simp only [Fld.apart_iff, Fld.id,
    F.RXF_CNT_COUNT, F.RXF_CNT]
  omega

@[simp] theorem Fld.apart_rxf_f_lt (f : Nat) (h : f < 128) :
    (F.RXF_CTL_EN f).apart = true := by
  simp only [Fld.apart_iff, Fld.id,
    F.RXF_CTL_EN, F.RXF_CTL]
  omega

@[simp] theorem Fld.apart_rxf_f (f : Nat) :
    (F.RXF_EVENTS_CFG_ERR f).apart = true ∧ (F.RXF_EVENTS_CSF_EV f).apart = true ∧
    (F.RXF_EVENTS_EARLY_EV f).apart = true ∧ (F.RXF_EVENTS_HDR_EV f).apart = true ∧
    (F.RXF_EVENTS_LATE_EV f).apart = true ∧ (F.RXF_EVENTS_LOST_EV f).apart = true ∧
    (F.RXF_EVENTS_RESUMED_EV f).apart = true ∧ (F.RXF_EVENTS_SHADOW_EV f).apart = true ∧
    (F.RXF_STATUS_READY f).apart = true ∧ (F.RXF_STATUS_SHADOWED f).apart = true ∧
    (F.RXF_STATUS_STATE f).apart = true ∧ (F.RXF_STATUS_STATE_A f).apart = true ∧
    (F.RXF_STATUS_STATE_B f).apart = true := by
  simp only [Fld.apart_iff, Fld.id,
    F.RXF_EVENTS_CFG_ERR, F.RXF_EVENTS, F.RXF_EVENTS_CSF_EV, F.RXF_EVENTS_EARLY_EV, F.RXF_EVENTS_HDR_EV,
    F.RXF_EVENTS_LATE_EV, F.RXF_EVENTS_LOST_EV, F.RXF_EVENTS_RESUMED_EV, F.RXF_EVENTS_SHADOW_EV, F.RXF_STATUS_READY,
    F.RXF_STATUS, F.RXF_STATUS_SHADOWED, F.RXF_STATUS_STATE, F.RXF_STATUS_STATE_A, F.RXF_STATUS_STATE_B]
  omega

@[simp] theorem Fld.apart_syspll :
    F.SYSPLL_EVENTS_LOCK_LOST.apart = true ∧ F.SYSPLL_EVENTS_REACQUIRED.apart = true ∧
    F.SYSPLL_EVENTS_REF_LOST_EV.apart = true ∧ F.SYSPLL_EVENTS_VT_EV.apart = true ∧
    F.SYSPLL_SPREAD_ACTIVE.apart = true ∧ F.SYSPLL_SPREAD_EN.apart = true ∧ F.SYSPLL_STATUS_BAND.apart = true ∧
    F.SYSPLL_STATUS_BAND_ENTRY.apart = true ∧ F.SYSPLL_STATUS_BAND_SEARCHED.apart = true ∧
    F.SYSPLL_STATUS_LOCK.apart = true ∧ F.SYSPLL_STATUS_REF_LOST.apart = true ∧
    F.SYSPLL_STATUS_VT_HIGH.apart = true ∧ F.SYSPLL_STATUS_VT_LOW.apart = true := by
  decide

@[simp] theorem Fld.apart_sys :
    F.SYS_BAD_ADDR_ADDR.apart = true ∧ F.SYS_GUARD_BAD_KEY.apart = true ∧ F.SYS_GUARD_DENIED.apart = true ∧
    F.SYS_HQ_CFG_CMD4.apart = true ∧ F.SYS_HQ_LASTRD_DATA.apart = true ∧ F.SYS_HQ_STAT_BAD_CMD.apart = true ∧
    F.SYS_HQ_STAT_GUARD_EV.apart = true ∧ F.SYS_HQ_STAT_PARTIAL.apart = true ∧ F.SYS_HQ_STAT_RD_ABORT.apart = true ∧
    F.SYS_HQ_STAT_RD_ECC.apart = true ∧ F.SYS_HQ_STAT_RD_TIMEOUT.apart = true ∧
    F.SYS_HQ_STAT_UNMAPPED.apart = true ∧ F.SYS_HQ_STAT_WOVF.apart = true ∧ F.SYS_MBX_STAT_BUSY.apart = true ∧
    F.SYS_MBX_STAT_COLLIDE.apart = true ∧ F.SYS_MBX_STAT_ERR.apart = true ∧ F.SYS_MBX_STAT_VALID.apart = true ∧
    F.SYS_STRAPS_BOOT.apart = true ∧ F.SYS_STRAPS_HQ_MODE.apart = true ∧ F.SYS_STRAPS_ROLE.apart = true ∧
    F.SYS_STRAPS_XTAL_BYPASS.apart = true := by
  decide

@[simp] theorem Fld.apart_sys_i_lt (i : Nat) (h : i < 4) :
    (F.SYS_MBX_D_DATA i).apart = true := by
  simp only [Fld.apart_iff, Fld.id,
    F.SYS_MBX_D_DATA, F.SYS_MBX_D]
  omega

@[simp] theorem Fld.apart_teu_u (u : Nat) :
    (F.TEU_CTL_BASE u).apart = true ∧ (F.TEU_CTL_EN u).apart = true ∧ (F.TEU_CTL_IRQ u).apart = true ∧
    (F.TEU_CTL_LAUNCH_ACT u).apart = true ∧ (F.TEU_CTL_PERIODIC u).apart = true ∧ (F.TEU_CTL_PIN u).apart = true ∧
    (F.TEU_CTL_PIN_ACT u).apart = true ∧ (F.TEU_CTL_POL u).apart = true ∧ (F.TEU_EVENTS_CONFIG_ERR u).apart = true ∧
    (F.TEU_EVENTS_FIRED_EV u).apart = true ∧ (F.TEU_EVENTS_LATE u).apart = true ∧
    (F.TEU_EVENTS_LAUNCH_DENIED_EV u).apart = true ∧ (F.TEU_EVENTS_LAUNCH_EMPTY u).apart = true ∧
    (F.TEU_EVENTS_PIN_DENIED_EV u).apart = true ∧ (F.TEU_EVENTS_WIDTH_CLIPPED u).apart = true ∧
    (F.TEU_STATUS_ARMED u).apart = true ∧ (F.TEU_STATUS_FIRED u).apart = true ∧
    (F.TEU_STATUS_LAUNCH_DENIED u).apart = true ∧ (F.TEU_STATUS_MISSED u).apart = true ∧
    (F.TEU_STATUS_PIN_DENIED u).apart = true ∧ (F.TEU_STATUS_PIN_HELD u).apart = true ∧
    (F.TEU_TARGET_CLASS u).apart = true ∧ (F.TEU_TARGET_PORT u).apart = true := by
  simp only [Fld.apart_iff, Fld.id,
    F.TEU_CTL_BASE, F.TEU_CTL, F.TEU_CTL_EN, F.TEU_CTL_IRQ, F.TEU_CTL_LAUNCH_ACT, F.TEU_CTL_PERIODIC, F.TEU_CTL_PIN,
    F.TEU_CTL_PIN_ACT, F.TEU_CTL_POL, F.TEU_EVENTS_CONFIG_ERR, F.TEU_EVENTS, F.TEU_EVENTS_FIRED_EV,
    F.TEU_EVENTS_LATE, F.TEU_EVENTS_LAUNCH_DENIED_EV, F.TEU_EVENTS_LAUNCH_EMPTY, F.TEU_EVENTS_PIN_DENIED_EV,
    F.TEU_EVENTS_WIDTH_CLIPPED, F.TEU_STATUS_ARMED, F.TEU_STATUS, F.TEU_STATUS_FIRED, F.TEU_STATUS_LAUNCH_DENIED,
    F.TEU_STATUS_MISSED, F.TEU_STATUS_PIN_DENIED, F.TEU_STATUS_PIN_HELD, F.TEU_TARGET_CLASS, F.TEU_TARGET,
    F.TEU_TARGET_PORT]
  omega

@[simp] theorem Fld.apart_time :
    F.TIME_EVENTS_ANCHOR_REFUSED_EV.apart = true ∧ F.TIME_EVENTS_COAST_ENTERED.apart = true ∧
    F.TIME_EVENTS_JUMP_REFUSED_EV.apart = true ∧ F.TIME_EVENTS_MEDIA_LOADED.apart = true ∧
    F.TIME_EVENTS_RATE_CLAMP_EV.apart = true ∧ F.TIME_EVENTS_STEP_ACCEPTED.apart = true ∧
    F.TIME_EVENTS_WRAP.apart = true ∧ F.TIME_RATE_RATE.apart = true ∧ F.TIME_STATUS_ANCHOR_CHECK.apart = true ∧
    F.TIME_STATUS_ANCHOR_REFUSED.apart = true ∧ F.TIME_STATUS_ANCHOR_VALID.apart = true ∧
    F.TIME_STATUS_JUMP_REFUSED.apart = true ∧ F.TIME_STATUS_MEDIA_PENDING.apart = true ∧
    F.TIME_STATUS_MEDIA_VALID.apart = true ∧ F.TIME_STATUS_RATE_CLAMPED.apart = true ∧
    F.TIME_STATUS_STATE.apart = true ∧ F.TIME_TICK_ANCHOR_NS.apart = true := by
  decide

@[simp] theorem Fld.apart_twin :
    F.TWIN_CFG_ROLE.apart = true ∧ F.TWIN_EVENTS_BATON_FAULT.apart = true ∧ F.TWIN_EVENTS_CLAIM_FAIL.apart = true ∧
    F.TWIN_EVENTS_CLAIM_SENT.apart = true ∧ F.TWIN_EVENTS_DUAL_HOLD.apart = true ∧
    F.TWIN_EVENTS_FIT_EV.apart = true ∧ F.TWIN_EVENTS_HANDOVER_DENIED.apart = true ∧
    F.TWIN_EVENTS_HB_LOST.apart = true ∧ F.TWIN_EVENTS_JOIN_DONE.apart = true ∧
    F.TWIN_EVENTS_LOOP_ERR_EV.apart = true ∧ F.TWIN_EVENTS_MISMATCH_EV.apart = true ∧
    F.TWIN_EVENTS_QLINK_DOWN_EV.apart = true ∧ F.TWIN_EVENTS_QLINK_UP_EV.apart = true ∧
    F.TWIN_EVENTS_RELEASED.apart = true ∧ F.TWIN_EVENTS_TAKE_BLOCKED.apart = true ∧
    F.TWIN_EVENTS_TOOK.apart = true ∧ F.TWIN_EVENTS_UNFIT_EV.apart = true ∧ F.TWIN_EVENTS_WDOG.apart = true ∧
    F.TWIN_EVENTS_YIELDED.apart = true ∧ F.TWIN_GAP_CYCLES.apart = true ∧ F.TWIN_HANDOVER_AT_TICK.apart = true ∧
    F.TWIN_STATUS_BATON.apart = true ∧ F.TWIN_STATUS_CONVERGED.apart = true ∧ F.TWIN_STATUS_FIT.apart = true ∧
    F.TWIN_STATUS_HB_OK.apart = true ∧ F.TWIN_STATUS_INHIBIT.apart = true ∧ F.TWIN_STATUS_JOIN_STATE.apart = true ∧
    F.TWIN_STATUS_PARTNER_FIT.apart = true ∧ F.TWIN_STATUS_PARTNER_HOLDER.apart = true ∧
    F.TWIN_STATUS_QLINK_UP.apart = true ∧ F.TWIN_STATUS_ROLE_CLASH.apart = true ∧
    F.TWIN_STATUS_UNFIT_CAUSE.apart = true ∧ F.TWIN_TAKE_NS_NS.apart = true ∧ F.TWIN_VERSION_PARTNER.apart = true := by
  decide

@[simp] theorem Fld.apart_twin_k_lt (k : Nat) (h : k < 16) :
    (F.TWIN_CNT_COUNT k).apart = true := by
  simp only [Fld.apart_iff, Fld.id,
    F.TWIN_CNT_COUNT, F.TWIN_CNT]
  omega

@[simp] theorem Fld.apart_twin_proof_i_lt (i : Nat) (h : i < 8) :
    (F.TWIN_PROOF_BLOCKS_COUNT i).apart = true ∧ (F.TWIN_PROOF_LAST_TICK_TICK i).apart = true ∧
    (F.TWIN_PROOF_LINK_MISS_COUNT i).apart = true ∧ (F.TWIN_PROOF_LOOP_ERR_COUNT i).apart = true ∧
    (F.TWIN_PROOF_MISMATCH_COUNT i).apart = true := by
  simp only [Fld.apart_iff, Fld.id,
    F.TWIN_PROOF_BLOCKS_COUNT, F.TWIN_PROOF_BLOCKS, F.TWIN_PROOF_LAST_TICK_TICK, F.TWIN_PROOF_LAST_TICK,
    F.TWIN_PROOF_LINK_MISS_COUNT, F.TWIN_PROOF_LINK_MISS, F.TWIN_PROOF_LOOP_ERR_COUNT, F.TWIN_PROOF_LOOP_ERR,
    F.TWIN_PROOF_MISMATCH_COUNT, F.TWIN_PROOF_MISMATCH]
  omega

@[simp] theorem Fld.apart_txf_f_k_lt (f k : Nat) (h : k < 16) :
    (F.TXF_CNT_COUNT f k).apart = true := by
  simp only [Fld.apart_iff, Fld.id,
    F.TXF_CNT_COUNT, F.TXF_CNT]
  omega

@[simp] theorem Fld.apart_txf_f_lt (f : Nat) (h : f < 128) :
    (F.TXF_CTL_EN f).apart = true := by
  simp only [Fld.apart_iff, Fld.id,
    F.TXF_CTL_EN, F.TXF_CTL]
  omega

@[simp] theorem Fld.apart_txf_f (f : Nat) :
    (F.TXF_EVENTS_CFG_ERR f).apart = true ∧ (F.TXF_EVENTS_FORM_EV f).apart = true ∧
    (F.TXF_EVENTS_LATE_EV f).apart = true ∧ (F.TXF_EVENTS_UNDERRUN_EV f).apart = true ∧
    (F.TXF_SEQ_NEXT f).apart = true ∧ (F.TXF_STATUS_RUNNING f).apart = true := by
  simp only [Fld.apart_iff, Fld.id,
    F.TXF_EVENTS_CFG_ERR, F.TXF_EVENTS, F.TXF_EVENTS_FORM_EV, F.TXF_EVENTS_LATE_EV, F.TXF_EVENTS_UNDERRUN_EV,
    F.TXF_SEQ_NEXT, F.TXF_SEQ, F.TXF_STATUS_RUNNING, F.TXF_STATUS]
  omega

@[simp] theorem Fld.apart_x_c_x_k_lt (x k : Nat) (h : k < 8) :
    (F.X_CNT_COUNT (x / 4) (x % 4) k).apart = true ∧ (F.X_PERF_COUNT (x / 4) (x % 4) k).apart = true := by
  simp only [Fld.apart_iff, Fld.id,
    F.X_CNT_COUNT, F.X_CNT, F.X_PERF_COUNT, F.X_PERF]
  omega

@[simp] theorem Fld.apart_x_c_x (x : Nat) :
    (F.X_EVENTS_ABANDON_EV (x / 4) (x % 4)).apart = true ∧ (F.X_EVENTS_DESC_ERR (x / 4) (x % 4)).apart = true ∧
    (F.X_EVENTS_DMAEXC_EV (x / 4) (x % 4)).apart = true ∧ (F.X_EVENTS_EXCESS_EV (x / 4) (x % 4)).apart = true ∧
    (F.X_EVENTS_FAULT_EV (x / 4) (x % 4)).apart = true ∧ (F.X_EVENTS_LEFTOVER_EV (x / 4) (x % 4)).apart = true ∧
    (F.X_EVENTS_OVERRUN_EV (x / 4) (x % 4)).apart = true ∧ (F.X_EVENTS_SHORT_EV (x / 4) (x % 4)).apart = true ∧
    (F.X_RUNTIME_LAST (x / 4) (x % 4)).apart = true ∧ (F.X_RUNTIME_MAX (x / 4) (x % 4)).apart = true ∧
    (F.X_STATE_TICKNUM (x / 4) (x % 4)).apart = true := by
  simp only [Fld.apart_iff, Fld.id,
    F.X_EVENTS_ABANDON_EV, F.X_EVENTS, F.X_EVENTS_DESC_ERR, F.X_EVENTS_DMAEXC_EV, F.X_EVENTS_EXCESS_EV,
    F.X_EVENTS_FAULT_EV, F.X_EVENTS_LEFTOVER_EV, F.X_EVENTS_OVERRUN_EV, F.X_EVENTS_SHORT_EV, F.X_RUNTIME_LAST,
    F.X_RUNTIME, F.X_RUNTIME_MAX, F.X_STATE_TICKNUM, F.X_STATE]
  omega
/-- The tables that `blockRegs` chooses from. -/
def regTables : List (List RegD) :=
  [sysRegs, macRegs, flowRegs, qmRegs, mmuRegs, coreRegs, twinRegs, lamRegs, timeRegs, pllRegs, portRegs, modRegs,
    bstRegs,
    []]

theorem mem_ite {α : Type} {p : Prop} [Decidable p] {x y : α} {l : List α} (hx : x ∈ l) (hy : y ∈ l) :
    (if p then x else y) ∈ l := by
  split <;> assumption

theorem blockRegs_mem (a : Nat) : blockRegs a ∈ regTables := by
  unfold blockRegs
  repeat' apply mem_ite
  all_goals simp [regTables]

theorem regTables_lo : (regTables.all fun l => l.all fun r => r.fields.all fun f => decide (f.lo < 32)) = true := by
  decide +kernel

/-- The fields of a register are those of an entry of its table. -/
theorem regFields_entry {a : Nat} {fs : List FieldD} (h : regFields a = some fs) : ∃ r ∈ blockRegs a, r.fields = fs
    := by
  have hfind : ((blockRegs a).find? (·.covers a)).map (·.fields) = some fs := by
    unfold regFields at h
    split at h
    · exact absurd h (by simp)
    · split at h
      · exact absurd h (by simp)
      · exact h
  obtain ⟨r, hr, hfs⟩ := Option.map_eq_some_iff.mp hfind
  exact ⟨r, List.mem_of_find?_eq_some hr, hfs⟩

/-- A register's fields lie within its word. -/
theorem regFields_lo {a : Nat} {fs : List FieldD} {f : FieldD} (h : regFields a = some fs) (hf : f ∈ fs) : f.lo < 32
    := by
  obtain ⟨r, hr, rfl⟩ := regFields_entry h
  have hall := List.all_eq_true.mp regTables_lo _ (blockRegs_mem a)
  exact of_decide_eq_true (List.all_eq_true.mp (List.all_eq_true.mp hall r hr) f hf)

/-- The six fields that `StatusTrue` reads are read-only ones. -/
theorem watchedKeys_ro : (watchedKeys.all fun k => ((regFields (k / 32)).getD []).all fun f =>
    f.lo != k % 32 || f.ty == .ro) = true := by
  decide +kernel

/-- A write that reaches a field by its type leaves what `StatusTrue` reads. -/
theorem Fld.apart_of_regFields {a : Nat} {fs : List FieldD} {f : FieldD} (h : regFields a = some fs) (hf : f ∈ fs)
    (hty : f.ty ≠ .ro) : Fld.apart ⟨a, f.lo, f.width⟩ = true := by
  have hlo := regFields_lo h hf
  rw [Fld.apart, Bool.not_eq_true', ← Bool.not_eq_true, List.contains_iff_mem]
  intro hk
  have hid : (⟨a, f.lo, f.width⟩ : Fld).id = 32 * a + f.lo := congrArg (· + f.lo) (Nat.mul_comm a 32)
  rw [hid] at hk
  have hro := List.all_eq_true.mp watchedKeys_ro _ hk
  rw [show (32 * a + f.lo) / 32 = a by omega, show (32 * a + f.lo) % 32 = f.lo by omega, h] at hro
  have := List.all_eq_true.mp hro f hf
  simp at this
  exact hty this

/-- The fields of one register that are written keep the watch where none of them is read-only. -/
theorem Dev.foldl_fields_watch (d : Dev) {a : Nat} {fs : List FieldD} (h : regFields a = some fs) (p : FieldD → Bool)
    (g : FieldD → Nat) (hp : ∀ f ∈ fs, p f = true → f.ty ≠ .ro) :
    (fs.foldl (fun d f => if p f = true then d.wr ⟨a, f.lo, f.width⟩ (g f) else d) d).watch = d.watch := by
  refine d.foldl_watch _ _ fun f hf e => ?_
  split
  · next hpf => exact e.wr_watch _ _ (Fld.apart_of_regFields h hf (hp f hf hpf))
  · rfl

theorem Dev.line_of_watch {d e : Dev} (h : e.watch = d.watch) (p : Nat) :
    (e.mac p).line.map OnLine.cls = (d.mac p).line.map OnLine.cls := congrFun (congrArg Watch.line h) p

theorem Dev.sixes_of_watch {d e : Dev} (h : e.watch = d.watch) (p : Nat) :
    (e.mac p).c6.map TxFrame.path = (d.mac p).c6.map TxFrame.path := congrFun (congrArg Watch.sixes h) p

theorem Sparse.get_filter {α : Type} (d : Nat → α) (m : List (Nat × α)) (p : Nat × α → Bool) (k : Nat)
    (h : ∀ v, p (k, v) = true) : Sparse.get d (m.filter p) k = Sparse.get d m k := by
  induction m with
  | nil => rfl
  | cons x m ih =>
    obtain ⟨j, v⟩ := x
    by_cases hj : j = k
    · subst hj
      simp [List.filter_cons_of_pos (h v), Sparse.get]
    · by_cases hp : p (j, v) = true
      · simp [List.filter_cons_of_pos hp, Sparse.get, hj, ih]
      · simp [List.filter_cons_of_neg hp, Sparse.get, hj, ih]

/-- The register file enters the watch through six keys alone. -/
theorem Dev.watch_regs (d : Dev) (regs : List (Nat × Nat))
    (h : ∀ k ∈ watchedKeys, Sparse.get fieldReset regs k = Sparse.get fieldReset d.regs k) :
    ({ d with regs := regs } : Dev).watch = d.watch := by
  simp only [watchedKeys, List.forall_mem_cons] at h
  obtain ⟨h1, h2, h3, h4, h5, h6, _⟩ := h
  have e : Watch.of regs d.inv d.net d.sys = d.watch := by
    simp only [Dev.watch, Watch.of, h1, h2, h3, h4, h5, h6]
  exact e

/-- Fields of addresses that the six fields do not have return to their reset values. -/
@[simp] theorem Dev.clearRegs_watch (d : Dev) (p : Nat → Bool) (h : ∀ k ∈ watchedKeys, p (k / 32) = false) :
    (d.clearRegs p).watch = d.watch :=
  d.watch_regs _ fun k hk => Sparse.get_filter _ _ _ _ fun _ => by simp [h k hk]

/-- No unit that a unit reset holds has one of the six fields (R443). -/
theorem unitOf_watchedKeys : ∀ k ∈ watchedKeys, unitOf (k / 32) = none := by decide

/-- What `takeRegs` does to a field that it does not pick. -/
theorem Dev.takeRegs_get (d post : Dev) (pick : Nat → Bool) (k : Nat) (h : (layerKey k && pick k) = false) :
    Sparse.get fieldReset (d.takeRegs post pick).regs k = Sparse.get fieldReset d.regs k := by
  have hfold (l : List (Nat × Nat)) (hl : ∀ p ∈ l, p.1 ≠ k) (e : Dev) : Sparse.get fieldReset
      (l.foldl (fun d p => { d with regs := Sparse.set fieldReset d.regs p.1 p.2 }) e).regs k =
        Sparse.get fieldReset e.regs k := by
    induction l generalizing e with
    | nil => rfl
    | cons p l ih =>
      rw [List.foldl_cons, ih fun q hq => hl q (List.mem_cons_of_mem p hq)]
      exact Sparse.get_set_other _ _ _ (hl p List.mem_cons_self).symm
  rw [Dev.takeRegs, hfold _ fun p hp hk => ?_]
  · exact Sparse.get_filter _ _ _ _ fun _ => by simp [h]
  · have := (List.mem_filter.mp hp).2
    rw [hk, h] at this
    exact Bool.noConfusion this

/-- `takeRegs` writes registers alone. -/
theorem Dev.takeRegs_eq (d post : Dev) (pick : Nat → Bool) :
    { d with regs := (d.takeRegs post pick).regs } = d.takeRegs post pick := by
  have hfold (l : List (Nat × Nat)) (e : Dev) :
      { e with regs := (l.foldl (fun d p => { d with regs := Sparse.set fieldReset d.regs p.1 p.2 }) e).regs } =
        l.foldl (fun d p => { d with regs := Sparse.set fieldReset d.regs p.1 p.2 }) e := by
    induction l generalizing e with
    | nil => rfl
    | cons p l ih => exact ih _
  exact hfold _ _

theorem Dev.takeRegs_watch (d post : Dev) (pick : Nat → Bool) (h : ∀ k ∈ watchedKeys, (layerKey k && pick k) = false) :
    (d.takeRegs post pick).watch = d.watch := by
  rw [← d.takeRegs_eq, d.watch_regs _ fun k hk => d.takeRegs_get post pick k (h k hk)]

/-- None of the six fields is of the TEU section (R391). -/
theorem teuKey_watchedKeys : ∀ k ∈ watchedKeys, teuKey k = false := by decide +kernel

end Sys2Proof.Machine
end

section
/-! SUPPORT. The device's operations that keep the watch, in the order of the model. -/

namespace Sys2Proof.Machine

theorem Dev.pinValues_watch (d : Dev) (m : Nat) (vs : List Nat) : (d.pinValues m vs).2.watch = d.watch := by
  induction vs generalizing d with
  | nil => rfl
  | cons v vs ih =>
    rw [Dev.pinValues, ih]
    split <;> simp

@[simp] theorem Dev.pinBits_watch (d : Dev) (bs : List Bool) : (d.pinBits bs).2.watch = d.watch := by
  unfold Dev.pinBits
  split
  · exact d.pinValues_watch _ _
  · rfl

@[simp] theorem Dev.freeCell_watch (d : Dev) (c : Nat) : (d.freeCell c).watch = d.watch := by simp [Dev.freeCell]

@[simp] theorem Dev.takeCell_watch (d : Dev) (l : FreeList) (o : CellOwner) (prev : Option Nat) :
    (d.takeCell l o prev).2.watch = d.watch := by
  unfold Dev.takeCell
  split <;> simp

@[simp] theorem Dev.putWord_watch (d : Dev) (c i : Nat) (w : QWord) : (d.putWord c i w).watch = d.watch := by
  simp [Dev.putWord, ↓Dev.watch_mk, ↓Watch.of_dev]

@[simp] theorem Dev.takeCells_watch (d : Dev) (l : FreeList) (o : CellOwner) (n : Nat) :
    (d.takeCells l o n).2.watch = d.watch := by
  induction n with
  | zero => rfl
  | succ n ih => exact (Dev.takeCell_watch _ _ _ _).trans ih

@[simp] theorem Dev.putFrame_watch (d : Dev) (chain : List Nat) (i : Nat) (ws : List Nat) :
    (d.putFrame chain i ws).watch = d.watch := by
  induction ws generalizing d i with
  | nil => rfl
  | cons w ws ih => exact (ih _ _).trans (Dev.putWord_watch _ _ _ _)

@[simp] theorem Dev.zeroCell_watch (d : Dev) (c : Nat) : (d.zeroCell c).watch = d.watch := by
  simp [Dev.zeroCell, ↓Dev.watch_mk, ↓Watch.of_dev]

@[simp] theorem Dev.sameMove_watch (d : Dev) (n o : Nat) : (d.sameMove n o).2.watch = d.watch := by
  simp [Dev.sameMove]

@[simp] theorem Dev.recount_watch (d : Dev) (n o c : Nat) : (d.recount n o c).watch = d.watch := by
  simp [Dev.recount, ↓Dev.watch_mk, ↓Watch.of_dev]

@[simp] theorem Dev.relive_watch (d : Dev) (n c : Nat) : (d.relive n c).watch = d.watch := by simp [Dev.relive]

@[simp] theorem Dev.settle_watch (d : Dev) (n : Nat) : (d.settle n).watch = d.watch := by simp [Dev.settle]

@[simp] theorem Dev.addRake_watch (d : Dev) (o : RakeOwner) (cells : List Nat) :
    (d.addRake o cells).watch = d.watch := by
  simp [Dev.addRake, ↓Dev.watch_mk, ↓Watch.of_dev]

@[simp] theorem Dev.abandonOpen_watch (d : Dev) (n : Nat) : (d.abandonOpen n).watch = d.watch := by
  simp [Dev.abandonOpen]

@[simp] theorem Dev.overflow_watch (d : Dev) (n : Nat) (e : Bool) : (d.overflow n e).watch = d.watch := by
  simp [Dev.overflow]

@[simp] theorem Dev.push_watch (d : Dev) (n : Nat) (w : QWord) (hold : Option Nat) :
    (d.push n w hold).1.watch = d.watch := by
  simp [Dev.push]

@[simp] theorem Dev.pushPacket_watch (d : Dev) (n : Nat) (k : Nat) (ws : List Nat) :
    (d.pushPacket n k ws).watch = d.watch := by
  fun_induction Dev.pushPacket d n k ws with
  | case1 => rfl
  | case2 => simp
  | case3 d w ws hws ih => simp [ih]

@[simp] theorem Dev.packetVisible_watch (d : Dev) (n : Nat) : (d.packetVisible n).watch = d.watch := by
  unfold Dev.packetVisible
  split <;> simp

@[simp] theorem Dev.showQueues_watch (d : Dev) (t : Nat) : (d.showQueues t).watch = d.watch := by
  simp [Dev.showQueues]

@[simp] theorem Dev.creditReturn_watch (d : Dev) (n : Nat) : (d.creditReturn n).watch = d.watch := by
  simp [Dev.creditReturn]

@[simp] theorem Dev.notValid_watch (d : Dev) (n reason : Nat) : (d.notValid n reason).1.watch = d.watch := by
  simp [Dev.notValid]

@[simp] theorem Dev.takeWord_watch (d : Dev) (n i : Nat) : (d.takeWord n i).1.watch = d.watch := by
  unfold Dev.takeWord
  dsimp only
  (repeat' split) <;> simp

@[simp] theorem Dev.pop_watch (d : Dev) (n : Nat) : (d.pop n).1.watch = d.watch := by
  unfold Dev.pop
  (repeat' split) <;> simp

@[simp] theorem Dev.popPacket_watch (d : Dev) (n : Nat) : (d.popPacket n).1.watch = d.watch := by
  unfold Dev.popPacket
  split <;> simp

@[simp] theorem Dev.dropPackets_watch (d : Dev) (n : Nat) (f : Packet → Bool) :
    (d.dropPackets n f).1.watch = d.watch := by
  simp [Dev.dropPackets]

@[simp] theorem Dev.resetQ_watch (d : Dev) (n : Nat) (forced : Bool) : (d.resetQ n forced).watch = d.watch := by
  simp [Dev.resetQ]

@[simp] theorem Dev.askedReset_watch (d : Dev) (n : Nat) : (d.askedReset n).watch = d.watch := by
  simp [Dev.askedReset]

@[simp] theorem Dev.eccFail_watch (d : Dev) (addr area : Nat) : (d.eccFail addr area).watch = d.watch := by
  simp [Dev.eccFail]

@[simp] theorem Dev.rowFail_watch (d : Dev) (row area : Nat) : (d.rowFail row area).watch = d.watch := by
  simp [Dev.rowFail, ↓Dev.watch_mk, ↓Watch.of_dev]

@[simp] theorem Dev.forceReset_watch (d : Dev) (n cause : Nat) : (d.forceReset n cause).watch = d.watch := by
  simp [Dev.forceReset]

@[simp] theorem Dev.cellFail_watch (d : Dev) (addr area : Nat) : (d.cellFail addr area).watch = d.watch := by
  unfold Dev.cellFail
  dsimp only
  (repeat' split) <;> simp

@[simp] theorem Dev.brokenChain_watch (d : Dev) (n : Nat) : (d.brokenChain n).watch = d.watch := by
  simp [Dev.brokenChain, ↓Dev.watch_mk, ↓Watch.of_dev]

@[simp] theorem Dev.forcedReset_watch (d : Dev) (n cause addr : Nat) :
    (d.forcedReset n cause addr).watch = d.watch := by
  unfold Dev.forcedReset
  split <;> simp

@[simp] theorem Dev.returnCells_watch (d : Dev) (n : Nat) (l : List Nat) : (d.returnCells n l).watch = d.watch := by
  simp [Dev.returnCells]

@[simp] theorem Dev.ownerScanEnd_watch (d : Dev) (n : Nat) : (d.ownerScanEnd n).watch = d.watch := by
  unfold Dev.ownerScanEnd
  (repeat' split) <;> simp [↓Dev.watch_mk, ↓Watch.of_dev]

@[simp] theorem Dev.rakeCell_watch (d : Dev) : d.rakeCell.watch = d.watch := by
  unfold Dev.rakeCell
  (repeat' split) <;> simp [↓Dev.watch_mk, ↓Watch.of_dev]

@[simp] theorem Dev.resetAllQueues_watch (d : Dev) : d.resetAllQueues.watch = d.watch := by simp [Dev.resetAllQueues]

@[simp] theorem Dev.rebuildLists_watch (d : Dev) : d.rebuildLists.watch = d.watch := by
  simp [Dev.rebuildLists, ↓Dev.watch_mk, ↓Watch.of_dev]

@[simp] theorem Dev.patrol_watch (d : Dev) (addr found : Nat) : (d.patrol addr found).watch = d.watch := by
  unfold Dev.patrol
  split <;> simp

@[simp] theorem Dev.tlbFill_watch (d : Dev) (n : Nat) (e : TlbEntry) : (d.tlbFill n e).watch = d.watch := by
  simp [Dev.tlbFill]

@[simp] theorem Dev.tlbMiss_watch (d : Dev) (w : Who) : (d.tlbMiss w).watch = d.watch := by
  unfold Dev.tlbMiss
  split <;> simp

@[simp] theorem Dev.pushRecord_watch (d : Dev) (q : Nat) (w0 w1 w2 w3 : Nat) :
    (d.pushRecord q w0 w1 w2 w3).1.watch = d.watch := by
  simp [Dev.pushRecord]

@[simp] theorem Dev.faultRecord_watch (d : Dev) (w0 w1 w2 w3 : Nat) :
    (d.faultRecord w0 w1 w2 w3).watch = d.watch := by
  simp [Dev.faultRecord]

@[simp] theorem Dev.ctxFault_watch (d : Dev) (x cause : Nat) (k : Access) (va : Nat) :
    (d.ctxFault x cause k va).watch = d.watch := by
  simp [Dev.ctxFault]

@[simp] theorem Dev.modCtx_watch (d : Dev) (x : Nat) (f : Ctx → Ctx) : (d.modCtx x f).watch = d.watch := by
  simp [Dev.modCtx]

@[simp] theorem Dev.ctxCount_watch (d : Dev) (x k n : Nat) (hk : k < 8) : (d.ctxCount x k n).watch = d.watch := by
  simp [Dev.ctxCount, hk]

@[simp] theorem Dev.leftover_watch (d : Dev) (x n : Nat) : (d.leftover x n).watch = d.watch := by simp [Dev.leftover]

@[simp] theorem Dev.popLeftovers_watch (d : Dev) (x t : Nat) (ins : List ListEntry) :
    (d.popLeftovers x t ins).watch = d.watch := by
  simp [Dev.popLeftovers]

@[simp] theorem Dev.release_watch (d : Dev) (x : Nat) (t : Task) : (d.release x t).watch = d.watch := by
  simp [Dev.release]

@[simp] theorem Dev.dmaRecord_watch (d : Dev) (ch : Nat) (r : List Nat) : (d.dmaRecord ch r).watch = d.watch := by
  simp [Dev.dmaRecord]

@[simp] theorem Dev.flushDmaExc_watch (d : Dev) (x : Nat) : (d.flushDmaExc x).watch = d.watch := by
  simp [Dev.flushDmaExc]

@[simp] theorem Dev.abandonOutputs_watch (d : Dev) (x : Nat) (outs : List ListEntry) :
    (d.abandonOutputs x outs).watch = d.watch := by
  simp [Dev.abandonOutputs]

@[simp] theorem Dev.endActions_watch (d : Dev) (x : Nat) : (d.endActions x).watch = d.watch := by
  unfold Dev.endActions
  dsimp only
  (repeat' split) <;> simp

@[simp] theorem Dev.countShort_watch (d : Dev) (x : Nat) (t : Task) : (d.countShort x t).watch = d.watch := by
  simp [Dev.countShort]

@[simp] theorem Dev.overrun_watch (d : Dev) (x : Nat) : (d.overrun x).watch = d.watch := by simp [Dev.overrun]

@[simp] theorem Dev.taskDeadline_watch (d : Dev) (x : Nat) : (d.taskDeadline x).watch = d.watch := by
  simp [Dev.taskDeadline]

@[simp] theorem Dev.drainBlock_watch (d : Dev) (x : Nat) : (d.drainBlock x).watch = d.watch := by
  simp [Dev.drainBlock]

@[simp] theorem Dev.taskStop_watch (d : Dev) (x : Nat) : (d.taskStop x).watch = d.watch := by simp [Dev.taskStop]

@[simp] theorem Dev.ctxResume_watch (d : Dev) (x : Nat) : (d.ctxResume x).watch = d.watch := by simp [Dev.ctxResume]

@[simp] theorem Dev.ctxAbort_watch (d : Dev) (x : Nat) : (d.ctxAbort x).watch = d.watch := by simp [Dev.ctxAbort]

@[simp] theorem Dev.wake_watch (d : Dev) (x : Nat) : (d.wake x).watch = d.watch := by simp [Dev.wake]

@[simp] theorem Dev.deadlines_watch (d : Dev) : d.deadlines.watch = d.watch := by simp [Dev.deadlines]

@[simp] theorem Dev.ctxPop_watch (d : Dev) (x q : Nat) : (d.ctxPop x q).1.watch = d.watch := by
  unfold Dev.ctxPop
  dsimp only
  (repeat' split) <;> simp

@[simp] theorem Dev.ctxPush_watch (d : Dev) (x q : Nat) (w : QWord) : (d.ctxPush x q w).watch = d.watch := by
  unfold Dev.ctxPush
  dsimp only
  (repeat' split) <;> simp

@[simp] theorem Dev.dmaException_watch (d : Dev) (x : Nat) : (d.dmaException x).watch = d.watch := by
  unfold Dev.dmaException
  dsimp only
  (repeat' split) <;> simp

@[simp] theorem Dev.perfIssue_watch (d : Dev) (x : Nat) : (d.perfIssue x).watch = d.watch := by
  simp [Dev.perfIssue, ↓Dev.watch_mk, ↓Watch.of_dev]

@[simp] theorem Dev.getsCycle_watch (d : Dev) (x : Nat) : (d.getsCycle x).2.watch = d.watch := by simp [Dev.getsCycle]

@[simp] theorem Dev.dmaFault_watch (d : Dev) (ch cause place va : Nat) :
    (d.dmaFault ch cause place va).watch = d.watch := by
  simp [Dev.dmaFault]

@[simp] theorem Dev.dmaOpen_watch (d : Dev) (ch q : Nat) (e : Bool) : (d.dmaOpen ch q e).watch = d.watch := by
  simp [Dev.dmaOpen]

@[simp] theorem Dev.dmaIgnored_watch (d : Dev) (ch : Nat) : (d.dmaIgnored ch).watch = d.watch := by
  simp [Dev.dmaIgnored]

@[simp] theorem Dev.dmaKick_watch (d : Dev) (ch : Nat) : (d.dmaKick ch).watch = d.watch := by simp [Dev.dmaKick]

@[simp] theorem Dev.dmaFence_watch (d : Dev) (ch : Nat) : (d.dmaFence ch).watch = d.watch := by simp [Dev.dmaFence]

@[simp] theorem Dev.dmaResume_watch (d : Dev) (ch : Nat) : (d.dmaResume ch).watch = d.watch := by simp [Dev.dmaResume]

@[simp] theorem Dev.routeDenied_watch (d : Dev) (e cause : Nat) : (d.routeDenied e cause).watch = d.watch := by
  simp [Dev.routeDenied]

@[simp] theorem Dev.routeStatus_watch (d : Dev) : d.routeStatus.watch = d.watch := by simp [Dev.routeStatus]

@[simp] theorem Dev.dropPend_watch (d : Dev) (e : Nat) : (d.dropPend e).watch = d.watch := by simp [Dev.dropPend]

@[simp] theorem Dev.unpark_watch (d : Dev) (q : Nat) : (d.unpark q).watch = d.watch := by simp [Dev.unpark]

@[simp] theorem Dev.bind_watch (d : Dev) (e q : Nat) (off : Bool) : (d.bind e q off).watch = d.watch := by
  simp [Dev.bind]

@[simp] theorem Dev.routeLoad_watch (d : Dev) (e q : Nat) (off : Bool) (he : e < 0x8000) :
    (d.routeLoad e q off).watch = d.watch := by
  simp [Dev.routeLoad, he]

@[simp] theorem Dev.routeLoads_watch (d : Dev) (l : List (Nat × Nat)) (hl : ∀ p ∈ l, p.1 < 0x8000) :
    (d.routeLoads l).watch = d.watch := by
  rw [Dev.routeLoads, Dev.foldl_watch _ _ _ fun p hp e => e.routeLoad_watch _ _ _ (hl p hp)]
  simp

theorem isEndpoint_lt {e : Nat} (h : isEndpoint e = true) : e < 0x8000 := by
  simp [isEndpoint] at h
  omega

@[simp] theorem Dev.routeWrite_watch (d : Dev) (e v : Nat) (late : Bool) :
    (d.routeWrite e v late).watch = d.watch := by
  unfold Dev.routeWrite
  split
  · rfl
  · next he =>
    have he := isEndpoint_lt (by simpa using he)
    simp [he]

@[simp] theorem Dev.parkIfFree_watch (d : Dev) (q : Nat) : (d.parkIfFree q).watch = d.watch := by
  simp [Dev.parkIfFree]

@[simp] theorem Dev.laneLeaves_watch (d : Dev) (e : Nat) (old : Nat × Bool) :
    (d.laneLeaves e old).watch = d.watch := by
  simp [Dev.laneLeaves]

@[simp] theorem Dev.routeAccept_watch (d : Dev) (p : Nat × RoutePend) : (d.routeAccept p).watch = d.watch := by
  simp [Dev.routeAccept]

@[simp] theorem Dev.routeRefuse_watch (d : Dev) (e cause : Nat) : (d.routeRefuse e cause).watch = d.watch := by
  simp [Dev.routeRefuse]

@[simp] theorem Dev.routeApply_watch (d : Dev) : d.routeApply.watch = d.watch := by simp [Dev.routeApply]

@[simp] theorem Dev.parkedDiscard_watch (d : Dev) (q : Nat) : (d.parkedDiscard q).watch = d.watch := by
  simp [Dev.parkedDiscard]

@[simp] theorem Dev.takeFrom_watch (d : Dev) (e q t : Nat) : (d.takeFrom e q t).1.watch = d.watch := by
  simp [Dev.takeFrom]

@[simp] theorem Dev.sinkTake_watch (d : Dev) (e t : Nat) : (d.sinkTake e t).1.watch = d.watch := by
  unfold Dev.sinkTake
  split <;> simp

@[simp] theorem Dev.txTake_watch (d : Dev) (e t : Nat) : (d.txTake e t).1.watch = d.watch := by
  unfold Dev.txTake
  split <;> simp

@[simp] theorem Dev.txSwitch_watch (d : Dev) (e : Nat) : (d.txSwitch e).watch = d.watch := by simp [Dev.txSwitch]

@[simp] theorem Dev.sourcePush_watch (d : Dev) (e k : Nat) (ws : List Nat) :
    (d.sourcePush e k ws).watch = d.watch := by
  unfold Dev.sourcePush
  split <;> simp

@[simp] theorem Dev.allDown_watch (d : Dev) (g : Nat) : (d.allDown g).watch = d.watch := by simp [Dev.allDown]

@[simp] theorem Dev.toState_watch (d : Dev) (k s : Nat) : (d.toState k s).watch = d.watch := by simp [Dev.toState]

@[simp] theorem Dev.endRunning_watch (d : Dev) (k s : Nat) : (d.endRunning k s).watch = d.watch := by
  simp [Dev.endRunning]

@[simp] theorem Dev.endNext_watch (d : Dev) (k s : Nat) : (d.endNext k s).watch = d.watch := by simp [Dev.endNext]

@[simp] theorem Dev.gangCount_watch (d : Dev) (k c : Nat) : (d.gangCount k c).watch = d.watch := by
  simp [Dev.gangCount]

@[simp] theorem Dev.gangFault_watch (d : Dev) (k kind bf : Nat) : (d.gangFault k kind bf).watch = d.watch := by
  simp [Dev.gangFault]

@[simp] theorem Dev.faultDecided_watch (d : Dev) (lv : Nat) : (d.faultDecided lv).watch = d.watch := by
  simp [Dev.faultDecided, ↓Dev.watch_mk, ↓Watch.of_dev]

@[simp] theorem Dev.gangDue_watch (d : Dev) (k : Nat) : (d.gangDue k).watch = d.watch := by simp [Dev.gangDue]

@[simp] theorem Dev.gangsDue_watch (d : Dev) : d.gangsDue.watch = d.watch := by simp [Dev.gangsDue]

@[simp] theorem Dev.faultRestart_watch (d : Dev) (k : Nat) : (d.faultRestart k).watch = d.watch := by
  simp [Dev.faultRestart]

@[simp] theorem Dev.gangRun_watch (d : Dev) (k : Nat) : (d.gangRun k).watch = d.watch := by simp [Dev.gangRun]

@[simp] theorem Dev.gangStop_watch (d : Dev) (k : Nat) (late : Bool) : (d.gangStop k late).watch = d.watch := by
  simp [Dev.gangStop]

@[simp] theorem Dev.gangClear_watch (d : Dev) (k : Nat) : (d.gangClear k).watch = d.watch := by simp [Dev.gangClear]

@[simp] theorem Dev.gangRelease_watch (d : Dev) (k : Nat) : (d.gangRelease k).watch = d.watch := by
  simp [Dev.gangRelease]

@[simp] theorem Dev.gangPlay_watch (d : Dev) (k : Nat) : (d.gangPlay k).watch = d.watch := by simp [Dev.gangPlay]

@[simp] theorem Dev.gangStopping_watch (d : Dev) (k : Nat) : (d.gangStopping k).watch = d.watch := by
  unfold Dev.gangStopping
  split <;> simp

@[simp] theorem Dev.wrWords_watch (d : Dev) (l : List (Nat × Nat)) : (d.wrWords l).watch = d.watch := by
  refine d.foldl_watch _ _ fun p _ e => ?_
  split
  · rfl
  · next fs h =>
    refine e.foldl_watch _ _ fun f hf e => ?_
    split
    · rfl
    · next hty => exact e.wr_watch _ _ (Fld.apart_of_regFields h hf hty)

@[simp] theorem Dev.groupTake_watch (d : Dev) (g : Nat) : (d.groupTake g).watch = d.watch := by simp [Dev.groupTake]

@[simp] theorem Dev.gangGatesOff_watch (d : Dev) (k : Nat) : (d.gangGatesOff k).watch = d.watch := by
  unfold Dev.gangGatesOff
  split <;> simp

@[simp] theorem Dev.gangHold_watch (d : Dev) (k : Nat) : (d.gangHold k).watch = d.watch := by simp [Dev.gangHold]

@[simp] theorem Dev.gangHoldNext_watch (d : Dev) (k : Nat) : (d.gangHoldNext k).watch = d.watch := by
  simp [Dev.gangHoldNext]

@[simp] theorem Dev.holdGroup_watch (d : Dev) (g : Nat) : (d.holdGroup g).watch = d.watch := by simp [Dev.holdGroup]

@[simp] theorem Dev.holdBit_watch (d : Dev) (g : Nat) : (d.holdBit g).watch = d.watch := by simp [Dev.holdBit]

@[simp] theorem Dev.freqHold_watch (d : Dev) : d.freqHold.watch = d.watch := by simp [Dev.freqHold]

@[simp] theorem Dev.freqFree_watch (d : Dev) : d.freqFree.watch = d.watch := by simp [Dev.freqFree]

@[simp] theorem Dev.calLoss_watch (d : Dev) (g : Nat) : (d.calLoss g).watch = d.watch := by simp [Dev.calLoss]

@[simp] theorem Dev.calRestored_watch (d : Dev) (g : Nat) : (d.calRestored g).watch = d.watch := by
  simp [Dev.calRestored]

@[simp] theorem Dev.gridShift_watch (d : Dev) (t : Int) : (d.gridShift t).watch = d.watch := by simp [Dev.gridShift]

@[simp] theorem Dev.fetchGang_watch (d : Dev) (k : Nat) : (d.fetchGang k).watch = d.watch := by simp [Dev.fetchGang]

@[simp] theorem Dev.gangHalves_watch (d : Dev) (k : Nat) : (d.gangHalves k).watch = d.watch := by
  simp [Dev.gangHalves]

@[simp] theorem Dev.gangCycle_watch (d : Dev) (k vNum vDen : Nat) : (d.gangCycle k vNum vDen).watch = d.watch := by
  simp [Dev.gangCycle]

@[simp] theorem Dev.clipTick_watch (d : Dev) : d.clipTick.watch = d.watch := by simp [Dev.clipTick]

@[simp] theorem Dev.grpWrite_watch (d : Dev) (g off v : Nat) : (d.grpWrite g off v).watch = d.watch := by
  unfold Dev.grpWrite
  split <;> simp

@[simp] theorem Dev.invWrite_watch (d : Dev) (k v : Nat) (late : Bool) : (d.invWrite k v late).watch = d.watch := by
  simp [Dev.invWrite]

@[simp] theorem Dev.driveDrain_watch (d : Dev) : d.driveDrain.watch = d.watch := by
  simp [Dev.driveDrain, ↓Dev.watch_mk, ↓Watch.of_dev]

@[simp] theorem Dev.driveUndrain_watch (d : Dev) : d.driveUndrain.watch = d.watch := by
  simp [Dev.driveUndrain, ↓Dev.watch_mk, ↓Watch.of_dev]

@[simp] theorem Dev.cyclesZero_watch (d : Dev) : d.cyclesZero.watch = d.watch := by simp [Dev.cyclesZero]

@[simp] theorem Dev.driveRealigned_watch (d : Dev) : d.driveRealigned.watch = d.watch := by simp [Dev.driveRealigned]

@[simp] theorem Dev.bstCount_watch (d : Dev) (g c n : Nat) : (d.bstCount g c n).watch = d.watch := by
  simp [Dev.bstCount]

@[simp] theorem Dev.bstTo_watch (d : Dev) (g s : Nat) : (d.bstTo g s).watch = d.watch := by simp [Dev.bstTo]

@[simp] theorem Dev.bstShow_watch (d : Dev) (g : Nat) : (d.bstShow g).watch = d.watch := by simp [Dev.bstShow]

@[simp] theorem Dev.bstEnter_watch (d : Dev) (g : Nat) : (d.bstEnter g).watch = d.watch := by simp [Dev.bstEnter]

@[simp] theorem Dev.bstStart_watch (d : Dev) (g : Nat) : (d.bstStart g).watch = d.watch := by simp [Dev.bstStart]

@[simp] theorem Dev.bstOrder_watch (d : Dev) (g : Nat) (o : BstOrder) : (d.bstOrder g o).watch = d.watch := by
  simp [Dev.bstOrder]

@[simp] theorem Dev.bstEnable_watch (d : Dev) (g : Nat) : (d.bstEnable g).watch = d.watch := by simp [Dev.bstEnable]

@[simp] theorem Dev.bstDisable_watch (d : Dev) (g : Nat) : (d.bstDisable g).watch = d.watch := by
  simp [Dev.bstDisable]

@[simp] theorem Dev.bstClear_watch (d : Dev) (g : Nat) : (d.bstClear g).watch = d.watch := by simp [Dev.bstClear]

@[simp] theorem Dev.bstTake_watch (d : Dev) (g : Nat) (o : BstOrder) : (d.bstTake g o).watch = d.watch := by
  unfold Dev.bstTake
  split <;> simp

@[simp] theorem Dev.bstTakes_watch (d : Dev) (g : Nat) : (d.bstTakes g).watch = d.watch := by simp [Dev.bstTakes]

@[simp] theorem Dev.bstWrite_watch (d : Dev) (g off v : Nat) : (d.bstWrite g off v).watch = d.watch := by
  unfold Dev.bstWrite
  split <;> simp

@[simp] theorem Dev.bstReady_watch (d : Dev) (g : Nat) : (d.bstReady g).watch = d.watch := by simp [Dev.bstReady]

@[simp] theorem Dev.bstStopNow_watch (d : Dev) (g cause : Nat) : (d.bstStopNow g cause).watch = d.watch := by
  simp [Dev.bstStopNow]

@[simp] theorem Dev.bstStop_watch (d : Dev) (g cause : Nat) : (d.bstStop g cause).watch = d.watch := by
  simp [Dev.bstStop]

@[simp] theorem Dev.senseLost_watch (d : Dev) (g : Nat) : (d.senseLost g).watch = d.watch := by simp [Dev.senseLost]

@[simp] theorem Dev.showSample_watch (d : Dev) (g n : Nat) : (d.showSample g n).watch = d.watch := by
  simp [Dev.showSample]

@[simp] theorem Dev.bstTest_watch (d : Dev) (g n : Nat) : (d.bstTest g n).watch = d.watch := by simp [Dev.bstTest]

@[simp] theorem Dev.railBit_watch (d : Dev) (g : Nat) (v : Bool) : (d.railBit g v).watch = d.watch := by
  simp [Dev.railBit]

@[simp] theorem Dev.railBits_watch (d : Dev) (g : Nat) (bs : List Bool) : (d.railBits g bs).watch = d.watch := by
  simp [Dev.railBits]

@[simp] theorem Dev.bstRestart_watch (d : Dev) (g : Nat) : (d.bstRestart g).watch = d.watch := by
  simp [Dev.bstRestart]

@[simp] theorem Dev.endOn_watch (d : Dev) (g t : Nat) : (d.endOn g t).watch = d.watch := by simp [Dev.endOn]

@[simp] theorem Dev.isnsTrip_watch (d : Dev) (g level t : Nat) : (d.isnsTrip g level t).watch = d.watch := by
  unfold Dev.isnsTrip
  split <;> simp

@[simp] theorem Dev.maxOnTime_watch (d : Dev) (g t : Nat) : (d.maxOnTime g t).watch = d.watch := by
  unfold Dev.maxOnTime
  split <;> simp

@[simp] theorem Dev.bstGoal_watch (d : Dev) (g : Nat) (late : Bool) : (d.bstGoal g late).watch = d.watch := by
  unfold Dev.bstGoal
  dsimp only
  (repeat' split) <;> simp

@[simp] theorem Dev.bstLow_watch (d : Dev) (g vNum vDen : Nat) (held : Bool) :
    (d.bstLow g vNum vDen held).watch = d.watch := by
  simp [Dev.bstLow]

@[simp] theorem Dev.bstRegrid_watch (d : Dev) (g : Nat) : (d.bstRegrid g).watch = d.watch := by simp [Dev.bstRegrid]

@[simp] theorem Dev.bstComp_watch (d : Dev) (g ref vNum vDen : Nat) (held : Bool) :
    (d.bstComp g ref vNum vDen held).watch = d.watch := by
  simp [Dev.bstComp]

@[simp] theorem Dev.bstStops_watch (d : Dev) (g : Nat) : (d.bstStops g).watch = d.watch := by simp [Dev.bstStops]

@[simp] theorem Dev.bstCycle_watch (d : Dev) (g vNum vDen : Nat) (late held : Bool) :
    (d.bstCycle g vNum vDen late held).watch = d.watch := by
  simp [Dev.bstCycle]

@[simp] theorem Dev.carrierCycle_watch (d : Dev) (g : Nat) (late : Bool) (hold : Option (Nat × Nat)) :
    (d.carrierCycle g late hold).watch = d.watch := by
  simp [Dev.carrierCycle]

@[simp] theorem Dev.bstTarget_watch (d : Dev) (g : Nat) : (d.bstTarget g).watch = d.watch := by
  unfold Dev.bstTarget
  dsimp only
  (repeat' split) <;> simp

@[simp] theorem Dev.deliverEnv_watch (d : Dev) : d.deliverEnv.watch = d.watch := by
  simp [Dev.deliverEnv, ↓Dev.watch_mk, ↓Watch.of_dev]

@[simp] theorem Dev.gangFetch_watch (d : Dev) : d.gangFetch.watch = d.watch := by
  simp [Dev.gangFetch, ↓Dev.watch_mk, ↓Watch.of_dev]

@[simp] theorem Dev.bstRealigned_watch (d : Dev) : d.bstRealigned.watch = d.watch := by
  simp [Dev.bstRealigned, ↓Dev.watch_mk, ↓Watch.of_dev]

@[simp] theorem Dev.modClk_watch (d : Dev) (f : ClkSt → ClkSt) : (d.modClk f).watch = d.watch := by
  simp [Dev.modClk, ↓Dev.watch_mk, ↓Watch.of_dev]

@[simp] theorem Dev.modTime_watch (d : Dev) (f : TimeSt → TimeSt) : (d.modTime f).watch = d.watch := by
  simp [Dev.modTime, ↓Dev.watch_mk, ↓Watch.of_dev]

@[simp] theorem Dev.showResidual_watch (d : Dev) : d.showResidual.watch = d.watch := by simp [Dev.showResidual]

@[simp] theorem Dev.realignGo_watch (d : Dev) : d.realignGo.watch = d.watch := by simp [Dev.realignGo]

@[simp] theorem Dev.addResidual_watch (d : Dev) (s : Int) : (d.addResidual s).watch = d.watch := by
  simp [Dev.addResidual]

@[simp] theorem Dev.clampCycle_watch (d : Dev) : d.clampCycle.watch = d.watch := by simp [Dev.clampCycle]

@[simp] theorem Dev.timeCycle_watch (d : Dev) : d.timeCycle.watch = d.watch := by simp [Dev.timeCycle]

@[simp] theorem Dev.slewStep_watch (d : Dev) : d.slewStep.watch = d.watch := by simp [Dev.slewStep]

@[simp] theorem Dev.sysBand_watch (d : Dev) : d.sysBand.watch = d.watch := by simp [Dev.sysBand]

@[simp] theorem Dev.setValid_watch (d : Dev) (b : Bool) : (d.setValid b).watch = d.watch := by simp [Dev.setValid]

@[simp] theorem Dev.smrValid_watch (d : Dev) : d.smrValid.watch = d.watch := by simp [Dev.smrValid]

@[simp] theorem Dev.sysLock_watch (d : Dev) : d.sysLock.watch = d.watch := by simp [Dev.sysLock]

@[simp] theorem Dev.sysLockLost_watch (d : Dev) : d.sysLockLost.watch = d.watch := by simp [Dev.sysLockLost]

@[simp] theorem Dev.sysRefLost_watch (d : Dev) : d.sysRefLost.watch = d.watch := by simp [Dev.sysRefLost]

@[simp] theorem Dev.sysReacquire_watch (d : Dev) : d.sysReacquire.watch = d.watch := by simp [Dev.sysReacquire]

@[simp] theorem Dev.spreadApply_watch (d : Dev) : d.spreadApply.watch = d.watch := by simp [Dev.spreadApply]

@[simp] theorem Dev.vtChange_watch (d : Dev) (med low high : Bool) : (d.vtChange med low high).watch = d.watch := by
  simp [Dev.vtChange]

@[simp] theorem Dev.aesCheck_watch (d : Dev) : d.aesCheck.watch = d.watch := by simp [Dev.aesCheck]

@[simp] theorem Dev.refMeasured_watch (d : Dev) (o : Int) : (d.refMeasured o).watch = d.watch := by
  simp [Dev.refMeasured]

@[simp] theorem Dev.refLost_watch (d : Dev) : d.refLost.watch = d.watch := by simp [Dev.refLost]

@[simp] theorem Dev.phaseJump_watch (d : Dev) (o : Int) : (d.phaseJump o).watch = d.watch := by simp [Dev.phaseJump]

@[simp] theorem Dev.refReturn_watch (d : Dev) (o : Int) : (d.refReturn o).watch = d.watch := by simp [Dev.refReturn]

@[simp] theorem Dev.realignAccept_watch (d : Dev) : d.realignAccept.watch = d.watch := by
  unfold Dev.realignAccept
  split <;> simp

@[simp] theorem Dev.medLock_watch (d : Dev) : d.medLock.watch = d.watch := by simp [Dev.medLock]

@[simp] theorem Dev.medLockLost_watch (d : Dev) : d.medLockLost.watch = d.watch := by simp [Dev.medLockLost]

@[simp] theorem Dev.lockReturn_watch (d : Dev) (o : Int) : (d.lockReturn o).watch = d.watch := by
  simp [Dev.lockReturn]

@[simp] theorem Dev.freqCheck_watch (d : Dev) (n : Nat) : (d.freqCheck n).watch = d.watch := by simp [Dev.freqCheck]

@[simp] theorem Dev.useRef_watch (d : Dev) (r : RefChoice) : (d.useRef r).watch = d.watch := by simp [Dev.useRef]

@[simp] theorem Dev.acquire_watch (d : Dev) : d.acquire.watch = d.watch := by simp [Dev.acquire]

@[simp] theorem Dev.medCtlWrite_watch (d : Dev) (v : Nat) : (d.medCtlWrite v).watch = d.watch := by
  simp [Dev.medCtlWrite]

@[simp] theorem Dev.refChange_watch (d : Dev) : d.refChange.watch = d.watch := by
  unfold Dev.refChange
  split <;> simp

@[simp] theorem Dev.dividerLoad_watch (d : Dev) (k : Int) : (d.dividerLoad k).watch = d.watch := by
  simp [Dev.dividerLoad]

@[simp] theorem Dev.calWrite_watch (d : Dev) (v : Nat) : (d.calWrite v).watch = d.watch := by simp [Dev.calWrite]

@[simp] theorem Dev.calDone_watch (d : Dev) (n : Nat) : (d.calDone n).watch = d.watch := by simp [Dev.calDone]

@[simp] theorem Dev.tempMeasured_watch (d : Dev) (t : Int) : (d.tempMeasured t).watch = d.watch := by
  simp [Dev.tempMeasured]

@[simp] theorem Dev.realignStart_watch (d : Dev) : d.realignStart.watch = d.watch := by
  unfold Dev.realignStart
  split <;> simp

@[simp] theorem Dev.realignEndNow_watch (d : Dev) : d.realignEndNow.watch = d.watch := by simp [Dev.realignEndNow]

@[simp] theorem Dev.timeLock_watch (d : Dev) : d.timeLock.watch = d.watch := by simp [Dev.timeLock]

@[simp] theorem Dev.timeCoast_watch (d : Dev) : d.timeCoast.watch = d.watch := by simp [Dev.timeCoast]

@[simp] theorem Dev.timeCtl_watch (d : Dev) (v : Nat) : (d.timeCtl v).watch = d.watch := by
  unfold Dev.timeCtl
  split <;> simp

@[simp] theorem Dev.servoTimeout_watch (d : Dev) : d.servoTimeout.watch = d.watch := by simp [Dev.servoTimeout]

@[simp] theorem Dev.timeFree_watch (d : Dev) : d.timeFree.watch = d.watch := by simp [Dev.timeFree]

@[simp] theorem Dev.offsetTake_watch (d : Dev) (v : Int) : (d.offsetTake v).watch = d.watch := by
  simp [Dev.offsetTake]

@[simp] theorem Dev.rateFold_watch (d : Dev) (v : Nat) : (d.rateFold v).watch = d.watch := by simp [Dev.rateFold]

@[simp] theorem Dev.offsetJudge_watch (d : Dev) (v : Int) (override : Bool) :
    (d.offsetJudge v override).watch = d.watch := by
  simp [Dev.offsetJudge]

@[simp] theorem Dev.offsetWrite_watch (d : Dev) (v : Int) (override : Bool) :
    (d.offsetWrite v override).watch = d.watch := by
  simp [Dev.offsetWrite]

/-- The fields that a record of an OFFSET write gives back, with what each takes. -/
theorem Dev.unstep_apart (d : Dev) (s : OffsetStep) : ∀ p ∈ stepFlags.zip s.flags ++
    (stepEvents.zip (s.flags.drop 3)).map (fun p => (p.1, min p.2 (d.rd p.1))), p.1.apart = true := by
  have hflags : ∀ f ∈ stepFlags ++ stepEvents, f.apart = true := by decide
  intro p hp
  refine hflags _ (List.mem_append.mpr ?_)
  rcases List.mem_append.mp hp with h | h
  · exact .inl (List.of_mem_zip (a := p.1) (b := p.2) h).1
  · obtain ⟨q, hq, rfl⟩ := List.mem_map.mp h
    exact .inr (List.of_mem_zip (a := q.1) (b := q.2) hq).1

@[simp] theorem Dev.unstep_watch (d : Dev) (s : OffsetStep) : (d.unstep s).watch = d.watch := by
  rw [Dev.unstep, Dev.showResidual_watch, Dev.wrs_watch _ _ (Dev.unstep_apart _ s)]
  simp

@[simp] theorem Dev.rateWrite_watch (d : Dev) (v : Nat) : (d.rateWrite v).watch = d.watch := by
  unfold Dev.rateWrite
  split <;> simp

@[simp] theorem Dev.anchorWrite_watch (d : Dev) (ns : Nat) (guarded : Bool) :
    (d.anchorWrite ns guarded).watch = d.watch := by
  simp [Dev.anchorWrite]

@[simp] theorem Dev.mediaWrite_watch (d : Dev) (v : Nat) : (d.mediaWrite v).watch = d.watch := by
  simp [Dev.mediaWrite]

@[simp] theorem Dev.mediaTake_watch (d : Dev) : d.mediaTake.watch = d.watch := by
  unfold Dev.mediaTake
  split <;> simp

@[simp] theorem Dev.mediaStep_watch (d : Dev) : d.mediaStep.watch = d.watch := by simp [Dev.mediaStep]

@[simp] theorem Dev.modSap_watch (d : Dev) (n : Nat) (f : Sap → Sap) : (d.modSap n f).watch = d.watch := by
  simp [Dev.modSap]

@[simp] theorem Dev.modLane_watch (d : Dev) (n : Nat) (b : Bool) (f : Lane → Lane) :
    (d.modLane n b f).watch = d.watch := by
  simp [Dev.modLane]

@[simp] theorem Dev.portCount_watch (d : Dev) (n k c : Nat) : (d.portCount n k c).watch = d.watch := by
  simp [Dev.portCount]

@[simp] theorem Dev.portCap_watch (d : Dev) : d.portCap.watch = d.watch := by simp [Dev.portCap]

@[simp] theorem Dev.mutesEnd_watch (d : Dev) (n : Nat) : (d.mutesEnd n).watch = d.watch := by simp [Dev.mutesEnd]

@[simp] theorem Dev.portOpen_watch (d : Dev) (n since : Nat) : (d.portOpen n since).watch = d.watch := by
  unfold Dev.portOpen
  dsimp only
  (repeat' split) <;> simp

theorem epLane_lt {n : Nat} (b : Bool) (hn : n < 32) : epLane n b < 0x8000 := by
  cases b <;> simp [epLane, bit] <;> omega

@[simp] theorem Dev.portEnable_watch (d : Dev) (n : Nat) (hn : n < 32) : (d.portEnable n).watch = d.watch := by
  simp [Dev.portEnable, epLane_lt _ hn]

@[simp] theorem Dev.portStart_watch (d : Dev) (n : Nat) : (d.portStart n).watch = d.watch := by simp [Dev.portStart]

@[simp] theorem Dev.portOff_watch (d : Dev) (n : Nat) : (d.portOff n).watch = d.watch := by simp [Dev.portOff]

@[simp] theorem Dev.portDisable_watch (d : Dev) (n : Nat) : (d.portDisable n).watch = d.watch := by
  simp [Dev.portDisable]

@[simp] theorem Fld.apart_maskOf (n : Nat) (b : Bool) : (maskOf n b).apart = true := by
  simp only [Fld.apart_iff, maskOf, Fld.id, F.PORT_MASK_DB_MASK, F.PORT_MASK_DB, F.PORT_MASK_DA_MASK, F.PORT_MASK_DA]
  split <;> dsimp only <;> omega

@[simp] theorem Dev.maskWrite_watch (d : Dev) (n : Nat) (b : Bool) (mask : Nat) (late : Bool) :
    (d.maskWrite n b mask late).watch = d.watch := by
  simp [Dev.maskWrite]

@[simp] theorem Fld.apart_appliedOf (n : Nat) (b : Bool) : (appliedOf n b).apart = true := by
  simp only [Fld.apart_iff, appliedOf, Fld.id, F.PORT_APPLIED_DB_MASK, F.PORT_APPLIED_DB, F.PORT_APPLIED_DA_MASK,
    F.PORT_APPLIED_DA]
  split <;> dsimp only <;> omega

@[simp] theorem Dev.capture_watch (d : Dev) (n : Nat) (bs : List Bool) : (d.capture n bs).watch = d.watch := by
  simp [Dev.capture]

@[simp] theorem Dev.inFrame_watch (d : Dev) (n : Nat) (b : Bool) (tp : Nat) : (d.inFrame n b tp).watch = d.watch := by
  simp [Dev.inFrame]

@[simp] theorem Dev.outFrame_watch (d : Dev) (n : Nat) (b : Bool) (tp : Option Nat) :
    (d.outFrame n b tp).watch = d.watch := by
  simp [Dev.outFrame]

@[simp] theorem Dev.portFrame_watch (d : Dev) (n : Nat) : (d.portFrame n).watch = d.watch := by simp [Dev.portFrame]

@[simp] theorem Dev.unlock_watch (d : Dev) (n : Nat) : (d.unlock n).watch = d.watch := by simp [Dev.unlock]

@[simp] theorem Dev.slaveFrame_watch (d : Dev) (n j phase : Nat) (short : Bool) :
    (d.slaveFrame n j phase short).watch = d.watch := by
  unfold Dev.slaveFrame
  dsimp only
  (repeat' split) <;> simp

@[simp] theorem Dev.pushBound_watch (d : Dev) (n : Nat) (b : Bool) (tp : Nat) (words : List Nat) :
    (d.pushBound n b tp words).watch = d.watch := by
  unfold Dev.pushBound
  dsimp only
  (repeat' split) <;> simp

@[simp] theorem Dev.pushLane_watch (d : Dev) (n : Nat) (b : Bool) (tp : Nat) (words : List Nat) :
    (d.pushLane n b tp words).watch = d.watch := by
  simp [Dev.pushLane]

@[simp] theorem Dev.releaseHeld_watch (d : Dev) (n : Nat) : (d.releaseHeld n).watch = d.watch := by
  simp [Dev.releaseHeld]

@[simp] theorem Dev.pushPoint_watch (d : Dev) (n : Nat) (b : Bool) (tp : Nat) (words : List Nat) :
    (d.pushPoint n b tp words).watch = d.watch := by
  simp [Dev.pushPoint]

@[simp] theorem Dev.bpFrame_watch (d : Dev) (n errs : Nat) : (d.bpFrame n errs).watch = d.watch := by
  simp [Dev.bpFrame]

@[simp] theorem Dev.naFrame_watch (d : Dev) (n : Nat) (burst : Bool) : (d.naFrame n burst).watch = d.watch := by
  simp [Dev.naFrame]

@[simp] theorem Dev.packetOut_watch (d : Dev) (n : Nat) (b : Bool) (x : InPacket) :
    (d.packetOut n b x).watch = d.watch := by
  simp [Dev.packetOut]

@[simp] theorem Dev.framesOut_watch (d : Dev) (n : Nat) (bs : List Bool) : (d.framesOut n bs).watch = d.watch := by
  simp [Dev.framesOut]

@[simp] theorem Dev.decimate_watch (d : Dev) (n : Nat) (b : Bool) (slots : List (Option Nat)) :
    (d.decimate n b slots).watch = d.watch := by
  simp [Dev.decimate]

@[simp] theorem Dev.inputPush_watch (d : Dev) (n : Nat) (b : Bool) (slots : List (Option Nat)) (status : Bool) :
    (d.inputPush n b slots status).watch = d.watch := by
  unfold Dev.inputPush
  dsimp only
  (repeat' split) <;> simp

@[simp] theorem Dev.pinSlots_watch (d : Dev) (slots : List (Option Nat)) : (d.pinSlots slots).2.watch = d.watch := by
  unfold Dev.pinSlots
  split
  · rfl
  · exact d.pinValues_watch _ _

@[simp] theorem Dev.synthPush_watch (d : Dev) (n : Nat) (b : Bool) : (d.synthPush n b).watch = d.watch := by
  simp [Dev.synthPush]

@[simp] theorem Dev.outputTake_watch (d : Dev) (n : Nat) (b : Bool) : (d.outputTake n b).watch = d.watch := by
  simp [Dev.outputTake]

@[simp] theorem Dev.setClass_watch (d : Dev) (n c : Nat) : (d.setClass n c).watch = d.watch := by simp [Dev.setClass]

@[simp] theorem Dev.windowStart_watch (d : Dev) (n : Nat) : (d.windowStart n).watch = d.watch := by
  simp [Dev.windowStart]

@[simp] theorem Dev.rateWindow_watch (d : Dev) (n c m : Nat) : (d.rateWindow n c m).watch = d.watch := by
  unfold Dev.rateWindow
  dsimp only
  (repeat' split) <;> simp

@[simp] theorem Dev.rateAbsent_watch (d : Dev) (n : Nat) : (d.rateAbsent n).watch = d.watch := by
  simp [Dev.rateAbsent]

@[simp] theorem Dev.portLock_watch (d : Dev) (n : Nat) : (d.portLock n).watch = d.watch := by
  unfold Dev.portLock
  split <;> simp

@[simp] theorem Dev.bpUnmute_watch (d : Dev) (n : Nat) : (d.bpUnmute n).watch = d.watch := by simp [Dev.bpUnmute]

@[simp] theorem Dev.csBlock_watch (d : Dev) (n : Nat) (bs : List Nat) : (d.csBlock n bs).watch = d.watch := by
  simp [Dev.csBlock]

@[simp] theorem Dev.naExpire_watch (d : Dev) (n : Nat) : (d.naExpire n).watch = d.watch := by simp [Dev.naExpire]

@[simp] theorem Dev.launchDenials_watch (d : Dev) : d.launchDenials.watch = d.watch := by simp [Dev.launchDenials]

@[simp] theorem Dev.teuEnable_watch (d : Dev) (u : Nat) : (d.teuEnable u).watch = d.watch := by simp [Dev.teuEnable]

@[simp] theorem Dev.teuPin_watch (d : Dev) (u : Nat) (e : Int) (next : Option Int) :
    (d.teuPin u e next).watch = d.watch := by
  simp [Dev.teuPin]

@[simp] theorem Dev.teuLaunch_watch (d : Dev) (u : Nat) : (d.teuLaunch u).watch = d.watch := by simp [Dev.teuLaunch]

@[simp] theorem Dev.teuFire_watch (d : Dev) (u : Nat) : (d.teuFire u).watch = d.watch := by
  unfold Dev.teuFire
  dsimp only
  (repeat' split) <;> simp

@[simp] theorem Dev.teuPinEnd_watch (d : Dev) (u : Nat) : (d.teuPinEnd u).watch = d.watch := by
  unfold Dev.teuPinEnd
  split <;> simp

@[simp] theorem Dev.freeClass_watch (d : Dev) (p c : Nat) : (d.freeClass p c).watch = d.watch := by
  simp [Dev.freeClass]

@[simp] theorem Dev.teuDisable_watch (d : Dev) (u : Nat) : (d.teuDisable u).watch = d.watch := by
  simp [Dev.teuDisable]

@[simp] theorem Dev.teuTarget_watch (d : Dev) (u v : Nat) : (d.teuTarget u v).watch = d.watch := by
  simp [Dev.teuTarget]

@[simp] theorem Dev.teuCtl_watch (d : Dev) (u v : Nat) : (d.teuCtl u v).watch = d.watch := by simp [Dev.teuCtl]

@[simp] theorem Dev.modMac_watch (d : Dev) (p : Nat) (f : Mac → Mac)
    (h : (f (d.mac p)).line.map OnLine.cls = (d.mac p).line.map OnLine.cls)
    (h6 : (f (d.mac p)).c6.map TxFrame.path = (d.mac p).c6.map TxFrame.path) :
    (Dev.modMac d p f).watch = d.watch := d.setMac_watch _ _ h h6

@[simp] theorem Dev.macCount_watch (d : Dev) (p k : Nat) (hk : k < 64) : (d.macCount p k).watch = d.watch := by
  simp [Dev.macCount, hk]

@[simp] theorem Dev.pause_watch (d : Dev) (p q : Nat) : (d.pause p q).watch = d.watch := by simp [Dev.pause]

@[simp] theorem Dev.pauseExpire_watch (d : Dev) (p : Nat) : (d.pauseExpire p).watch = d.watch := by
  simp [Dev.pauseExpire]

@[simp] theorem Dev.rxTail_watch (d : Dev) (p r tail : Nat) (hr : r < 8) : (d.rxTail p r tail).watch = d.watch := by
  unfold Dev.rxTail
  dsimp only
  split
  · simp
  · rw [Dev.wr_watch _ _ _ (Fld.apart_mac_p_r_lt p r hr).2, Dev.setMac_watch]
    · simp
    · exact (Dev.line_of_watch (Dev.foldl_watch _ _ _ fun _ _ _ => Dev.addRake_watch _ _ _) p).symm
    · exact (Dev.sixes_of_watch (Dev.foldl_watch _ _ _ fun _ _ _ => Dev.addRake_watch _ _ _) p).symm

@[simp] theorem Dev.linkView_watch (d : Dev) (p : Nat) (hp : p < 4) : (d.linkView p).watch = d.watch := by
  simp [Dev.linkView, hp]

@[simp] theorem Dev.linkChange_watch (d : Dev) (p bits : Nat) (hp : p < 4) :
    (d.linkChange p bits).watch = d.watch := by
  simp [Dev.linkChange, hp]

@[simp] theorem Dev.anComplete_watch (d : Dev) (p lp : Nat) (hp : p < 4) : (d.anComplete p lp).watch = d.watch := by
  simp [Dev.anComplete, hp]

@[simp] theorem Dev.useRelease_watch (d : Dev) (p cl : Nat) : (d.useRelease p cl).watch = d.watch := by
  simp [Dev.useRelease]

theorem Dev.detachLine_watch (d : Dev) (p : Nat) (h : ∀ l, (d.mac p).line = some l → l.cls < 8) :
    (Dev.detachLine d p).watch = d.watch := by
  unfold Dev.detachLine
  split
  · rfl
  · next l hl =>
    split
    · rfl
    · simp [h l hl, hl]

@[simp] theorem Dev.macEnable_watch (d : Dev) (p : Nat) (hp : p < 4) : (d.macEnable p).watch = d.watch := by
  unfold Dev.macEnable
  split
  · rfl
  · dsimp only
    rw [Dev.clr_watch _ _ (by simp), Dev.modMac_watch _ _ _ rfl rfl]
    simp [hp]

@[simp] theorem Dev.gclLoad_watch (d : Dev) (p : Nat) : (d.gclLoad p).watch = d.watch := by simp [Dev.gclLoad]

@[simp] theorem Dev.gclEnable_watch (d : Dev) (p : Nat) : (d.gclEnable p).watch = d.watch := by simp [Dev.gclEnable]

@[simp] theorem Dev.gclDisable_watch (d : Dev) (p : Nat) : (d.gclDisable p).watch = d.watch := by
  simp [Dev.gclDisable]

@[simp] theorem Dev.gclEntry_watch (d : Dev) (p : Nat) : (d.gclEntry p).watch = d.watch := by
  unfold Dev.gclEntry
  split <;> simp

@[simp] theorem Dev.gclSwitch_watch (d : Dev) (p : Nat) : (d.gclSwitch p).watch = d.watch := by
  unfold Dev.gclSwitch
  split <;> simp

@[simp] theorem Dev.modRx_watch (d : Dev) (f : Nat) (g : RxFlow → RxFlow) : (d.modRx f g).watch = d.watch := by
  simp [Dev.modRx]

@[simp] theorem Dev.shadows_watch (d : Dev) : d.shadows.watch = d.watch := by simp [Dev.shadows]

@[simp] theorem Dev.groups_watch (d : Dev) : d.groups.watch = d.watch := by
  refine d.each_watch _ _ fun g hg e => ?_
  have hg := List.mem_range.mp hg
  simp [hg]

@[simp] theorem Dev.flowState_watch (d : Dev) (f : Nat) : (d.flowState f).watch = d.watch := by simp [Dev.flowState]

@[simp] theorem Fld.apart_pathState (f b : Nat) : (pathState f b).apart = true := by
  unfold pathState
  split <;> simp

@[simp] theorem Dev.setPath_watch (d : Dev) (f b s : Nat) : (d.setPath f b s).watch = d.watch := by simp [Dev.setPath]

@[simp] theorem Dev.rxOpen_watch (d : Dev) (f : Nat) (hf : f < 128) : (d.rxOpen f).watch = d.watch := by
  simp [Dev.rxOpen, hf]

/-- What a flow's enabling leaves it with has the channels that R148 allows. -/
theorem Dev.rxOpen_ch (d : Dev) (f : Nat) {c : RxCfg} (h0 : (d.rxf f).cfg = none)
    (h : ((d.rxOpen f).rxf f).cfg = some c) : c.ch ≤ 64 := by
  unfold Dev.rxOpen at h
  simp only [h0, Option.isSome_none, Bool.false_eq_true, if_false] at h
  split at h
  · exact absurd (h0.symm.trans h) (by simp)
  · next hbad =>
    have hnet (e : Dev) : (e.shadows.groups.rxf f).cfg = (e.rxf f).cfg := by
      rw [Dev.rxf, (Claim.writes_share e).2.net]; rfl
    rw [hnet] at h
    have hc : d.rxCfg f = c := by simpa using h
    have := (Bool.or_eq_false_iff.mp (Bool.or_eq_false_iff.mp (Bool.eq_false_iff.mpr hbad)).1).1
    simp only [Dev.rxBad, hc, Bool.or_eq_false_iff, decide_eq_false_iff_not] at this
    omega

@[simp] theorem Dev.rxEnable_watch (d : Dev) (f : Nat) (hf : f < 128) : (d.rxEnable f).watch = d.watch := by
  unfold Dev.rxEnable
  split
  · rfl
  · next h0 =>
    dsimp only
    split
    · simp [hf]
    · next c hc =>
      have hch := d.rxOpen_ch f (by simpa using h0) hc
      rw [Dev.routeLoads_watch _ _ ?_, Dev.rxOpen_watch _ _ hf]
      intro p hp
      obtain ⟨i, hi, rfl⟩ := List.mem_map.mp hp
      have := List.mem_range.mp hi
      change 64 * f + i < 0x8000
      omega

@[simp] theorem Dev.rxDisable_watch (d : Dev) (f : Nat) (hf : f < 128) : (d.rxDisable f).watch = d.watch := by
  simp [Dev.rxDisable, hf]

@[simp] theorem Dev.pathAccept_watch (d : Dev) (f b : Nat) (s : Int) : (d.pathAccept f b s).watch = d.watch := by
  simp [Dev.pathAccept]

@[simp] theorem Dev.pathDeadline_watch (d : Dev) (f b : Nat) : (d.pathDeadline f b).watch = d.watch := by
  unfold Dev.pathDeadline
  dsimp only
  (repeat' split) <;> simp

@[simp] theorem Dev.modTx_watch (d : Dev) (f : Nat) (g : TxFlow → TxFlow) : (d.modTx f g).watch = d.watch := by
  simp [Dev.modTx]

@[simp] theorem Dev.txOpen_watch (d : Dev) (f : Nat) (hf : f < 128) : (d.txOpen f).watch = d.watch := by
  simp [Dev.txOpen, hf]

theorem Dev.txOpen_ch (d : Dev) (f : Nat) {c : TxCfg} (h0 : (d.txf f).cfg = none)
    (h : ((d.txOpen f).txf f).cfg = some c) : c.ch ≤ 64 := by
  unfold Dev.txOpen at h
  simp only [h0, Option.isSome_none, Bool.false_eq_true, if_false] at h
  split at h
  · exact absurd (h0.symm.trans h) (by simp)
  · next hbad =>
    have hc : d.txCfg f = c := by simpa using h
    have := (Bool.or_eq_false_iff.mp (Bool.or_eq_false_iff.mp (Bool.eq_false_iff.mpr hbad)).1).1
    simp only [Dev.txBad, hc, Bool.or_eq_false_iff, decide_eq_false_iff_not] at this
    omega

@[simp] theorem Dev.txEnable_watch (d : Dev) (f : Nat) (hf : f < 128) : (d.txEnable f).watch = d.watch := by
  unfold Dev.txEnable
  split
  · rfl
  · next h0 =>
    dsimp only
    split
    · simp [hf]
    · next c hc =>
      have hch := d.txOpen_ch f (by simpa using h0) hc
      rw [Dev.routeLoads_watch _ _ ?_, Dev.txOpen_watch _ _ hf]
      intro p hp
      obtain ⟨i, hi, rfl⟩ := List.mem_map.mp hp
      have := List.mem_range.mp hi
      change 0x4000 + 64 * f + i < 0x8000
      omega

@[simp] theorem Dev.txDisable_watch (d : Dev) (f : Nat) (hf : f < 128) : (d.txDisable f).watch = d.watch := by
  simp [Dev.txDisable, hf]

@[simp] theorem Dev.txSeq_watch (d : Dev) (f v : Nat) : (d.txSeq f v).watch = d.watch := by simp [Dev.txSeq]

@[simp] theorem Dev.takeTick_watch (d : Dev) (f ch n : Nat) : (d.takeTick f ch n).1.watch = d.watch := by
  simp [Dev.takeTick]

@[simp] theorem Dev.takeTicks_watch (d : Dev) (f n : Nat) (chs : List Nat) :
    (d.takeTicks f n chs).1.watch = d.watch := by
  induction chs generalizing d with
  | nil => rfl
  | cons ch chs ih => exact (ih _).trans (Dev.takeTick_watch _ _ _ _)

@[simp] theorem Dev.twinCount_watch (d : Dev) (k : Nat) (hk : k < 16) : (d.twinCount k).watch = d.watch := by
  simp [Dev.twinCount, hk]

@[simp] theorem Dev.linkSend_watch (d : Dev) (ws : List Nat) : (d.linkSend ws).watch = d.watch := by
  simp [Dev.linkSend]

@[simp] theorem Dev.joinSend_watch (d : Dev) (code : Nat) : (d.joinSend code).watch = d.watch := by
  simp [Dev.joinSend]

@[simp] theorem Dev.setFit_watch (d : Dev) (b : Bool) : (d.setFit b).watch = d.watch := by simp [Dev.setFit]

@[simp] theorem Dev.fitCheck_watch (d : Dev) : d.fitCheck.watch = d.watch := by simp [Dev.fitCheck]

@[simp] theorem Dev.unfit_watch (d : Dev) : d.unfit.watch = d.watch := by simp [Dev.unfit]

@[simp] theorem Dev.freshHb_watch (d : Dev) : d.freshHb.watch = d.watch := by simp [Dev.freshHb]

@[simp] theorem Dev.joinStart_watch (d : Dev) : d.joinStart.watch = d.watch := by simp [Dev.joinStart]

@[simp] theorem Dev.joinDrop_watch (d : Dev) : d.joinDrop.watch = d.watch := by simp [Dev.joinDrop]

@[simp] theorem Dev.joinEnd_watch (d : Dev) : d.joinEnd.watch = d.watch := by simp [Dev.joinEnd]

@[simp] theorem Dev.joinAbort_watch (d : Dev) : d.joinAbort.watch = d.watch := by simp [Dev.joinAbort]

@[simp] theorem Dev.convergeEnd_watch (d : Dev) : d.convergeEnd.watch = d.watch := by simp [Dev.convergeEnd]

@[simp] theorem Dev.batonSeen_watch (d : Dev) (since : Nat) : (d.batonSeen since).watch = d.watch := by
  simp [Dev.batonSeen]

@[simp] theorem Dev.forceHandover_watch (d : Dev) : d.forceHandover.watch = d.watch := by simp [Dev.forceHandover]

@[simp] theorem Dev.stateSend_watch (d : Dev) : d.stateSend.watch = d.watch := by simp [Dev.stateSend]

@[simp] theorem Dev.linkBad_watch (d : Dev) : d.linkBad.watch = d.watch := by simp [Dev.linkBad]

@[simp] theorem Dev.qlinkUp_watch (d : Dev) : d.qlinkUp.watch = d.watch := by simp [Dev.qlinkUp]

@[simp] theorem Dev.qlinkDown_watch (d : Dev) (lost : Bool) : (d.qlinkDown lost).watch = d.watch := by
  simp [Dev.qlinkDown]

@[simp] theorem Dev.proofCompare_watch (d : Dev) (i : Nat) (hi : i < 8) : (d.proofCompare i).watch = d.watch := by
  unfold Dev.proofCompare
  generalize (d.mediaTick + 2 ^ 32 - 1) % 2 ^ 32 = t
  dsimp only
  (repeat' split) <;> simp [hi]

@[simp] theorem Dev.pcrcNow_watch (d : Dev) (words : Nat → Option (List Nat)) :
    (d.pcrcNow words).watch = d.watch := by
  simp [Dev.pcrcNow]

@[simp] theorem Dev.fetchAll_watch (d : Dev) : d.fetchAll.watch = d.watch := by simp [Dev.fetchAll]

@[simp] theorem Dev.twinTick_watch (d : Dev) : d.twinTick.watch = d.watch := by simp [Dev.twinTick]

@[simp] theorem Dev.correct_watch (d : Dev) (g : Nat) : (d.correct g).watch = d.watch := by
  unfold Dev.correct
  split <;> simp

@[simp] theorem Dev.startPins_watch (d : Dev) (g edge : Nat) : (d.startPins g edge).watch = d.watch := by
  unfold Dev.startPins
  dsimp only
  (repeat' split) <;> simp

@[simp] theorem Dev.hbToggle_watch (d : Dev) (g : Nat) : (d.hbToggle g).watch = d.watch := by simp [Dev.hbToggle]

@[simp] theorem Dev.loopErrors_watch (d : Dev) (errs : List Nat) : (d.loopErrors errs).watch = d.watch := by
  unfold Dev.loopErrors
  split
  · rfl
  · refine d.each_watch _ _ fun i hi e => ?_
    have hi := List.mem_range.mp hi
    simp [hi]

@[simp] theorem Dev.hbExpect_watch (d : Dev) (g edge : Nat) : (d.hbExpect g edge).watch = d.watch := by
  simp [Dev.hbExpect]

/-- A write of the fields that `p` picks keeps the watch where `p` picks no read-only field. -/
@[simp] theorem Dev.setWord_watch (d : Dev) (a v : Nat) (p : FieldD → Bool) (hp : ∀ f, p f = true → f.ty ≠ .ro) :
    (d.setWord a v p).watch = d.watch := by
  unfold Dev.setWord
  split
  · rfl
  · next h => exact d.foldl_fields_watch h p _ fun f _ => hp f

@[simp] theorem Dev.lamCount_watch (d : Dev) (k : Nat) (hk : k < 4) : (d.lamCount k).watch = d.watch := by
  simp [Dev.lamCount, hk]

@[simp] theorem Dev.lamDenied_watch (d : Dev) : d.lamDenied.watch = d.watch := by simp [Dev.lamDenied]

@[simp] theorem Dev.lamResult_watch (d : Dev) (v : Verdict) : (d.lamResult v).watch = d.watch := by
  simp [Dev.lamResult]

@[simp] theorem Dev.lamFail_watch (d : Dev) (v : Verdict) : (d.lamFail v).watch = d.watch := by simp [Dev.lamFail]

@[simp] theorem Dev.armTick_watch (d : Dev) : d.armTick.watch = d.watch := by
  unfold Dev.armTick
  (repeat' split) <;> simp

@[simp] theorem Dev.switchGangs_watch (d post : Dev) (b : Nat) : (d.switchGangs post b).watch = d.watch := by
  simp [Dev.switchGangs]

@[simp] theorem Dev.switchGroup_watch (d post : Dev) (g : Nat) : (d.switchGroup post g).watch = d.watch := by
  simp [Dev.switchGroup]

@[simp] theorem Dev.teuTake_watch (d post : Dev) : (d.teuTake post).watch = d.watch := by
  have hregs : (d.takeRegs post teuKey).watch = d.watch :=
    d.takeRegs_watch post teuKey fun k hk => by simp [teuKey_watchedKeys k hk]
  simp [Dev.teuTake, hregs]

@[simp] theorem Dev.emptyRings_watch (d : Dev) (p : Nat) : (d.emptyRings p).watch = d.watch := by
  unfold Dev.emptyRings
  rw [Dev.each_watch, Dev.each_watch]
  · simp
  · intro r hr e
    refine e.wr_watch _ _ (Fld.apart_mac_p_r_lt _ _ ?_).1
    simp at hr; omega
  · intro k hk e
    exact e.wr_watch _ _ (Fld.apart_mac_p_cl_lt _ _ (List.mem_range.mp hk)).1

@[simp] theorem Dev.flowsOff_watch (d : Dev) : d.flowsOff.watch = d.watch := by
  unfold Dev.flowsOff
  rw [Dev.each_watch, Dev.each_watch, Dev.each_watch]
  · intro f hf e
    simp [List.mem_range.mp hf]
  · intro f hf e
    simp [List.mem_range.mp hf]
  · intro n _ e
    simp

@[simp] theorem Dev.flowsHalt_watch (d : Dev) : d.flowsHalt.watch = d.watch := by
  unfold Dev.flowsHalt
  rw [Dev.each_watch, Dev.each_watch]
  · simp
  · intro f hf e
    have hf := List.mem_range.mp hf
    simp [hf]
  · intro n _ e
    simp

@[simp] theorem Dev.switchRoutes_watch (d : Dev) (codes : List Nat) (hc : ∀ e ∈ codes, e < 0x8000) :
    (d.switchRoutes codes).watch = d.watch := by
  unfold Dev.switchRoutes
  dsimp only
  rw [Dev.each_watch _ _ _ fun e he d => ?_]
  · simp [↓Dev.watch_mk, ↓Watch.of_dev]
  · refine Dev.routeLoad_watch _ _ _ _ ?_
    rcases List.mem_append.mp (List.mem_dedup.mp he) with he | he
    · exact hc e he
    · obtain ⟨p, hp, rfl⟩ := List.mem_map.mp he
      have := (List.mem_filter.mp hp).2
      simp only [Bool.and_eq_true, decide_eq_true_eq] at this
      omega

@[simp] theorem Dev.bstDrained_watch (d : Dev) (g : Nat) : (d.bstDrained g).watch = d.watch := by
  simp [Dev.bstDrained]

@[simp] theorem Dev.switchBst_watch (d : Dev) (g : Nat) : (d.switchBst g).watch = d.watch := by simp [Dev.switchBst]

@[simp] theorem Dev.groupFree_watch (d : Dev) (g : Nat) : (d.groupFree g).watch = d.watch := by simp [Dev.groupFree]

@[simp] theorem Dev.gatesOff_watch (d : Dev) (k : Nat) : (d.gatesOff k).watch = d.watch := by simp [Dev.gatesOff]

@[simp] theorem Dev.groupsFree_watch (d : Dev) : d.groupsFree.watch = d.watch := by simp [Dev.groupsFree]

@[simp] theorem Dev.lamShow_watch (d : Dev) : d.lamShow.watch = d.watch := by simp [Dev.lamShow]

@[simp] theorem Dev.lamSave_watch (d : Dev) : d.lamSave.watch = d.watch := by simp [Dev.lamSave]

@[simp] theorem Dev.lamErase_watch (d : Dev) (s : Nat) : (d.lamErase s).watch = d.watch := by simp [Dev.lamErase]

@[simp] theorem Dev.perfWritten_watch (d : Dev) (x k : Nat) : (d.perfWritten x k).watch = d.watch := by
  simp [Dev.perfWritten, ↓Dev.watch_mk, ↓Watch.of_dev]

@[simp] theorem Dev.rcClear_watch (d : Dev) (a : Nat) : (d.rcClear a).watch = d.watch :=
  d.setWord_watch _ _ _ fun f hf hty => by simp [hty] at hf

@[simp] theorem Dev.readAt_watch (d : Dev) (r a : Nat) : (d.readAt r a).1.watch = d.watch := by simp [Dev.readAt]

@[simp] theorem Dev.readInd_watch (d : Dev) (r : Nat) : (d.readInd r).1.watch = d.watch := by
  unfold Dev.readInd
  dsimp only
  (repeat' split) <;> simp

@[simp] theorem Dev.readReg_watch (d : Dev) (r a : Nat) : (d.readReg r a).1.watch = d.watch := by simp [Dev.readReg]

@[simp] theorem Dev.guardDenied_watch (d : Dev) : d.guardDenied.watch = d.watch := by simp [Dev.guardDenied]

@[simp] theorem Dev.writeFields_watch (d : Dev) (a v : Nat) (key : Bool) :
    (d.writeFields a v key).watch = d.watch := by
  unfold Dev.writeFields
  dsimp only
  have hset : (d.setWord a (storedAs a v) fun f =>
      (f.ty == .rw && !d.reservedNow a f.lo) || (f.ty == .kw && key)).watch = d.watch :=
    d.setWord_watch _ _ _ fun f hf hty => by simp [hty] at hf
  split
  · exact hset
  · next h =>
    refine (Dev.foldl_fields_watch _ h _ (fun _ => 0) fun f _ hp hty => ?_).trans hset
    simp [hty] at hp

@[simp] theorem Dev.writeSettings_watch (d : Dev) (a v : Nat) : (d.writeSettings a v).watch = d.watch :=
  d.setWord_watch _ _ _ fun f hf hty => by simp [hty] at hf

@[simp] theorem Dev.padWrite_watch (d : Dev) (i v : Nat) : (d.padWrite i v).watch = d.watch := by simp [Dev.padWrite]

@[simp] theorem Dev.race_watch (d : Dev) : d.race.2.watch = d.watch := by simp [Dev.race]

@[simp] theorem Dev.askReset_watch (d : Dev) (n : Nat) : (d.askReset n).watch = d.watch := by simp [Dev.askReset]

@[simp] theorem Dev.cresWrite_watch (d : Dev) (a v : Nat) : (d.cresWrite a v).watch = d.watch := by
  simp [Dev.cresWrite]

@[simp] theorem Dev.writeClocks_watch (d : Dev) (a v : Nat) (key : Bool) :
    (d.writeClocks a v key).watch = d.watch := by
  simp [Dev.writeClocks]

@[simp] theorem Dev.gangCtl_watch (d : Dev) (k v : Nat) (key : Bool) : (d.gangCtl k v key).watch = d.watch := by
  simp [Dev.gangCtl]

@[simp] theorem Dev.bstCtl_watch (d : Dev) (g v : Nat) (key : Bool) : (d.bstCtl g v key).watch = d.watch := by
  unfold Dev.bstCtl
  (repeat' split) <;> simp

@[simp] theorem Dev.writePorts_watch (d : Dev) (a v : Nat) (key : Bool) : (d.writePorts a v key).watch = d.watch := by
  unfold Dev.writePorts
  split
  · have hn : (a - 0x30000000) / 256 < 32 := by omega
    dsimp only
    split <;> simp [hn]
  · simp

@[simp] theorem Dev.mbxRequest_watch (d : Dev) (r v : Nat) (key : Bool) : (d.mbxRequest r v key).watch = d.watch := by
  simp [Dev.mbxRequest]

@[simp] theorem Dev.mbxData_watch (d : Dev) (a v : Nat) : (d.mbxData a v).watch = d.watch := by simp [Dev.mbxData]

@[simp] theorem Dev.mbxEnd_watch (d : Dev) : d.mbxEnd.watch = d.watch := by simp [Dev.mbxEnd]

theorem Fld.apart_mbxData (g : Nat → Nat) :
    ∀ p ∈ (List.range 4).map (fun i => (F.SYS_MBX_D_DATA i, g i)), p.1.apart = true := by
  intro p hp
  obtain ⟨i, hi, rfl⟩ := List.mem_map.mp hp
  exact Fld.apart_sys_i_lt i (List.mem_range.mp hi)

@[simp] theorem Dev.mbxRead_watch (d : Dev) : d.mbxRead.watch = d.watch := by
  unfold Dev.mbxRead
  split
  · rfl
  · split
    · simp
    · split
      · simp
      · dsimp only
        rw [Dev.set_watch _ _ (by simp), Dev.wrs_watch _ _ (Fld.apart_mbxData _)]
        simp

@[simp] theorem Dev.mbxWrite_watch (d : Dev) : d.mbxWrite.watch = d.watch := by
  unfold Dev.mbxWrite
  dsimp only
  (repeat' split) <;> simp

@[simp] theorem Dev.unlockBy_watch (d : Dev) (r v : Nat) : (d.unlockBy r v).watch = d.watch := by simp [Dev.unlockBy]

@[simp] theorem Dev.disarm_watch (d : Dev) (r : Nat) : (d.disarm r).watch = d.watch := by simp [Dev.disarm]

@[simp] theorem Dev.readForm_watch (d : Dev) (x w : Nat) : (d.readForm x w).1.watch = d.watch := by
  unfold Dev.readForm
  split <;> simp

@[simp] theorem Dev.hostBegin_watch (d : Dev) : d.hostBegin.watch = d.watch := by simp [Dev.hostBegin]

@[simp] theorem Dev.unmapped_watch (d : Dev) (a : Nat) : (d.unmapped a).watch = d.watch := by simp [Dev.unmapped]

@[simp] theorem Dev.hostStatus_watch (d : Dev) : d.hostStatus.watch = d.watch := by simp [Dev.hostStatus]

@[simp] theorem Dev.badCmd_watch (d : Dev) (code : Nat) : (d.badCmd code).watch = d.watch := by simp [Dev.badCmd]

@[simp] theorem Dev.nextTick_watch (d : Dev) : d.nextTick.watch = d.watch := by
  simp [Dev.nextTick, ↓Dev.watch_mk, ↓Watch.of_dev]

@[simp] theorem Dev.nextCount_watch (d : Dev) (old : Nat) : (d.nextCount old).watch = d.watch := by
  unfold Dev.nextCount
  split <;> simp

@[simp] theorem Dev.mediaLoad_watch (d : Dev) : d.mediaLoad.watch = d.watch := by
  unfold Dev.mediaLoad
  split <;> simp

@[simp] theorem Dev.tickStart_watch (d : Dev) : d.tickStart.watch = d.watch := by simp [Dev.tickStart]

@[simp] theorem Dev.strap_watch (d : Dev) (role boot hqMode bypass : Bool) :
    (d.strap role boot hqMode bypass).watch = d.watch := by
  simp [Dev.strap]

@[simp] theorem Dev.resetRise_watch (d : Dev) (role boot hqMode bypass : Bool) :
    (d.resetRise role boot hqMode bypass).watch = d.watch := by
  simp [Dev.resetRise, ↓Dev.watch_mk, ↓Watch.of_dev]

@[simp] theorem Dev.supplyBack_watch (d : Dev) : d.supplyBack.watch = d.watch := by
  simp [Dev.supplyBack, ↓Dev.watch_mk, ↓Watch.of_dev]

@[simp] theorem Dev.unitFields_watch (d : Dev) (kind index : Nat) : (d.unitFields kind index).watch = d.watch :=
  d.clearRegs_watch _ fun k hk => by simp [unitOf_watchedKeys k hk]

@[simp] theorem Dev.creditNotice_watch (d : Dev) (q : Nat) : (d.creditNotice q).watch = d.watch := by
  simp [Dev.creditNotice]

@[simp] theorem Dev.dropBegun_watch (d : Dev) (q : Nat) : (d.dropBegun q).watch = d.watch := by simp [Dev.dropBegun]

@[simp] theorem Dev.resetRx_watch (d : Dev) (f : Nat) (hf : f < 128) : (d.resetRx f).watch = d.watch := by
  unfold Dev.resetRx
  dsimp only
  rw [Dev.groups_watch, Dev.shadows_watch, Dev.unitFields_watch, Dev.each_watch _ _ _ fun i _ e => ?_,
    Dev.rxDisable_watch _ _ hf]
  split <;> simp

@[simp] theorem Dev.resetTx_watch (d : Dev) (f : Nat) (hf : f < 128) : (d.resetTx f).watch = d.watch := by
  simp [Dev.resetTx, hf]

@[simp] theorem Dev.resetPort_watch (d : Dev) (n : Nat) : (d.resetPort n).watch = d.watch := by
  unfold Dev.resetPort
  simp only [aesCheck_watch, portCap_watch, unitFields_watch, portOff_watch, portDisable_watch]
  refine d.each_watch _ _ fun b _ e => ?_
  split <;> simp

@[simp] theorem Dev.resetGang_watch (d : Dev) (k : Nat) : (d.resetGang k).watch = d.watch := by
  simp [Dev.resetGang, ↓Dev.watch_mk, ↓Watch.of_dev]

@[simp] theorem Dev.resetBst_watch (d : Dev) (g : Nat) : (d.resetBst g).watch = d.watch := by simp [Dev.resetBst]

@[simp] theorem Dev.resetTeu_watch (d : Dev) (u : Nat) : (d.resetTeu u).watch = d.watch := by simp [Dev.resetTeu]

@[simp] theorem Dev.unitResetDone_watch (d : Dev) (kind index : Nat) :
    (d.unitResetDone kind index).watch = d.watch := by
  simp [Dev.unitResetDone]

@[simp] theorem Dev.select_watch (d : Dev) (i : JtagIr) : (d.select i).watch = d.watch := by simp [Dev.select]

@[simp] theorem Dev.haltBit_watch (d : Dev) (x : Nat) (b : Bool) (hx : x < 64) : (d.haltBit x b).watch = d.watch := by
  have hc : x / 4 < 16 := by omega
  simp [Dev.haltBit, hc]

@[simp] theorem Dev.addEnv_watch (d : Dev) (x g t v : Nat) : (d.addEnv x g t v).watch = d.watch := by
  simp [Dev.addEnv, ↓Dev.watch_mk, ↓Watch.of_dev]

end Sys2Proof.Machine
end

section
/-! SUPPORT. The chip's operations that keep the memories canonical and the watch's status, in the order of the model
(R211, R266, R403). -/

namespace Sys2Proof.Machine

/-- The frames that a watch names are of a class below 8 and a path below 2. -/
structure Watch.Named (w : Watch) : Prop where
  line    : ∀ p c, w.line p = some c → c < 8
  sixes   : ∀ p, ∀ x ∈ w.sixes p, x < 2
  ingress : ∀ x ∈ w.ingress, x < 2

/-- From a watch whose frames are named well to another such with the same status. -/
structure Watch.Quiet (w w' : Watch) : Prop where
  named  : w.Named → w'.Named
  status : w.Named → w'.status = w.status

theorem Watch.Quiet.refl (w : Watch) : w.Quiet w := ⟨id, fun _ => rfl⟩

theorem Watch.Quiet.trans {w w' w'' : Watch} (h : w.Quiet w') (h' : w'.Quiet w'') : w.Quiet w'' :=
  ⟨fun n => h'.named (h.named n), fun n => (h'.status (h.named n)).trans (h.status n)⟩

/-- The memories stay canonical, and the watch moves quietly. -/
structure Chip.Quiet (c c' : Chip) : Prop where
  watch : c.dev.watch.Quiet c'.dev.watch
  wf    : c.mem.wf = true → c'.mem.wf = true

section
variable {c₀ c c' : Chip}

@[simp] theorem Chip.Quiet.refl (c : Chip) : c.Quiet c := ⟨.refl _, id⟩

theorem Chip.Quiet.trans (h : c₀.Quiet c) (h' : c.Quiet c') : c₀.Quiet c' :=
  ⟨h.watch.trans h'.watch, fun m => h'.wf (h.wf m)⟩

/-- A change of the device that keeps the watch. -/
theorem Chip.Quiet.dev {d : Dev} (h : c₀.Quiet c) (hd : d.watch = c.dev.watch) : c₀.Quiet ⟨d, c.mem⟩ :=
  ⟨hd ▸ h.watch, h.wf⟩

/-- A change of both parts. -/
theorem Chip.Quiet.mk' {d : Dev} {m : Mem} (h : c₀.Quiet c) (hd : d.watch = c.dev.watch)
    (hm : c.mem.wf = true → m.wf = true) : c₀.Quiet ⟨d, m⟩ :=
  ⟨hd ▸ h.watch, fun hwf => hm (h.wf hwf)⟩

@[simp] theorem Chip.quiet_dev {d : Dev} (hd : d.watch = c.dev.watch) : c₀.Quiet ⟨d, c.mem⟩ ↔ c₀.Quiet c :=
  ⟨fun h => ⟨hd ▸ h.watch, h.wf⟩, fun h => h.dev hd⟩

@[simp] theorem Chip.quiet_onDev (f : Dev → Dev) (hf : (f c.dev).watch = c.dev.watch) :
    c₀.Quiet (c.onDev f) ↔ c₀.Quiet c := quiet_dev hf

@[simp] theorem Chip.quiet_ite (p : Prop) [Decidable p] (a b : Chip) :
    c₀.Quiet (if p then a else b) ↔ if p then c₀.Quiet a else c₀.Quiet b := by
  split <;> rfl

theorem Chip.Quiet.ite {p : Prop} [Decidable p] {a b : Chip} (ha : p → c₀.Quiet a) (hb : ¬p → c₀.Quiet b) :
    c₀.Quiet (if p then a else b) := by
  split
  · next hp => exact ha hp
  · next hp => exact hb hp

@[simp] theorem Chip.quiet_foldl {α : Type} (f : Chip → α → Chip) (l : List α)
    (hf : ∀ x ∈ l, ∀ e : Chip, e.Quiet (f e x)) (h : c₀.Quiet c) : c₀.Quiet (l.foldl f c) := by
  induction l generalizing c with
  | nil => exact h
  | cons x l ih =>
    exact ih (fun y hy => hf y (List.mem_cons_of_mem x hy)) (h.trans (hf x List.mem_cons_self c))

@[simp] theorem Chip.fst_ite {α : Type} (p : Prop) [Decidable p] (a b : Chip × α) :
    (if p then a else b).1 = if p then a.1 else b.1 := apply_ite Prod.fst p a b

/-- A quiet change of the device. -/
theorem Chip.Quiet.onDev (f : Dev → Dev) (h : c₀.Quiet c) (hf : c.dev.watch.Quiet (f c.dev).watch) :
    c₀.Quiet (c.onDev f) := ⟨h.watch.trans hf, h.wf⟩

/-- A change of the device that keeps the watch where the chip's frames are named well. -/
theorem Chip.Quiet.onDev_of (f : Dev → Dev) (h : c₀.Quiet c)
    (hf : c.dev.watch.Named → (f c.dev).watch = c.dev.watch) : c₀.Quiet (c.onDev f) :=
  h.onDev f ⟨fun n => by rw [hf n]; exact n, fun n => by rw [hf n]⟩

/-- A change of both parts that keeps the watch where the chip's frames are named well. -/
theorem Chip.Quiet.mk_of {d : Dev} {m : Mem} (h : c₀.Quiet c) (hd : c₀.dev.watch.Named → d.watch = c.dev.watch)
    (hm : c.mem.wf = true → m.wf = true) : c₀.Quiet ⟨d, m⟩ := by
  refine ⟨⟨fun n => ?_, fun n => ?_⟩, fun hwf => hm (h.wf hwf)⟩
  · rw [hd n]
    exact h.watch.named n
  · rw [hd n]
    exact h.watch.status n

/-- The chip that a shared operation answers with, where its answer is taken apart. -/
theorem Chip.Quiet.of_eq {α : Type} {r : Chip × α} {a : α} (h : c₀.Quiet r.1) (e : r = (c', a)) : c₀.Quiet c' := by
  rw [e] at h
  exact h

end

theorem Watch.Quiet.of_eq {w w' : Watch} (h : w' = w) : w.Quiet w' := h ▸ .refl w

/-- What a change of one port's state does to the watch. -/
theorem Dev.setMac_quiet (d : Dev) (p : Nat) (m : Mac)
    (hline : d.watch.Named → ∀ l, m.line = some l → l.cls < 8)
    (h6 : d.watch.Named → ∀ f ∈ m.c6, f.path < 2) : d.watch.Quiet (d.setMac p m).watch := by
  have hm (j : Nat) : (d.setMac p m).mac j = if j = p then m else d.mac j := Sparse.get_set _ _ _ _ _
  refine ⟨fun n => ⟨fun j c h => ?_, fun j x h => ?_, n.ingress⟩, fun _ => rfl⟩
  · change ((d.setMac p m).mac j).line.map OnLine.cls = some c at h
    rw [hm] at h
    split at h
    · obtain ⟨l, hl, rfl⟩ := Option.map_eq_some_iff.mp h
      exact hline n l hl
    · exact n.line j c h
  · change x ∈ ((d.setMac p m).mac j).c6.map TxFrame.path at h
    rw [hm] at h
    split at h
    · obtain ⟨f, hf, rfl⟩ := List.mem_map.mp h
      exact h6 n f hf
    · exact n.sixes j x h

theorem Dev.modMac_quiet (d : Dev) (p : Nat) (f : Mac → Mac)
    (hline : d.watch.Named → ∀ l, (f (d.mac p)).line = some l → l.cls < 8)
    (h6 : d.watch.Named → ∀ x ∈ (f (d.mac p)).c6, x.path < 2) : d.watch.Quiet (d.modMac p f).watch :=
  d.setMac_quiet p _ hline h6

theorem Watch.Named.cls_lt {d : Dev} (n : d.watch.Named) {p : Nat} {l : OnLine} (h : (d.mac p).line = some l) :
    l.cls < 8 := n.line p l.cls (congrArg (Option.map OnLine.cls) h)

theorem Watch.Named.path_lt {d : Dev} (n : d.watch.Named) {p : Nat} {f : TxFrame} (h : f ∈ (d.mac p).c6) : f.path < 2 :=
  n.sixes p f.path (List.mem_map_of_mem h)

theorem Mem.placeFrame_wf (m : Mem) (k : RxCfg) (w q : Int) (xs : List Int) (h : m.wf = true) :
    (m.placeFrame k w q xs).1.wf = true := by
  unfold Mem.placeFrame
  dsimp only
  split
  · exact h
  · split
    · exact h
    · split
      · exact h
      · exact Mem.storeBytes_wf _ _ _ h

theorem Mem.placeAll_wf (k : RxCfg) (w q : Int) (l : List (List Int)) (m : Mem) (h : m.wf = true) :
    (Mem.placeAll k w q l m).1.wf = true := by
  induction l generalizing q m with
  | nil => exact h
  | cons xs l ih => exact ih _ _ (m.placeFrame_wf _ _ _ _ h)

theorem Chip.copyEarly_wf (c : Chip) (a : Nat) (ss : List Section) (h : c.mem.wf = true) : (c.copyEarly a ss).wf =
    true :=
  foldl_keeps (fun m : Mem => m.wf = true) _ (fun m _ hm => Mem.storeBytes_wf _ _ m hm) _ _ (Mem.copyData_wf _ _ _ _ h)

@[simp] theorem Chip.setLeafBit_quiet {c₀ c : Chip} (leaf ppn b : Nat) (hq : c₀.Quiet c) :
    c₀.Quiet (c.setLeafBit leaf ppn b) := by
  unfold Chip.setLeafBit
  dsimp only
  split
  · exact hq.mk' rfl (Mem.store_wf _ _ _ _)
  · exact hq

@[simp] theorem Chip.eccFault_quiet {c₀ c : Chip} {α : Type} (a : Nat) (hq : c₀.Quiet c) :
    c₀.Quiet (c.eccFault (α := α) a).1 := by
  simp [Chip.eccFault, hq]

@[simp] theorem Chip.walk_quiet {c₀ c : Chip} (w : Who) (va : Nat) (k : Access) (hq : c₀.Quiet c) :
    c₀.Quiet (c.walk w va k).1 := by
  simp [Chip.walk, hq]

@[simp] theorem Chip.translate_quiet {c₀ c : Chip} (w : Who) (va : Nat) (k : Access) (hq : c₀.Quiet c) :
    c₀.Quiet (c.translate w va k).1 := by
  unfold Chip.translate
  dsimp only
  split
  · split <;> simp [hq]
  · simp [hq]

@[simp] theorem Chip.reach_quiet {c₀ c : Chip} (w : Who) (va size : Nat) (k : Access) (hq : c₀.Quiet c) :
    c₀.Quiet (c.reach w va size k).1 := by
  have ht := Chip.translate_quiet w va k hq
  unfold Chip.reach
  split
  · split
    · exact hq
    · (repeat' split) <;> exact hq
  · split
    · next heq => exact ht.of_eq heq
    · next heq =>
      have hc := ht.of_eq heq
      simp [hc]

@[simp] theorem Chip.reachAll_quiet {c₀ c : Chip} (w : Who) (size : Nat) (k : Access) (vas : List Nat)
    (hq : c₀.Quiet c) : c₀.Quiet (c.reachAll w size k vas).1 := by
  induction vas generalizing c with
  | nil => exact hq
  | cons va vas ih =>
    have hr := Chip.reach_quiet w va size k hq
    unfold Chip.reachAll
    split
    · next heq => exact hr.of_eq heq
    · next heq =>
      have ih := ih (hr.of_eq heq)
      split
      · next heq => exact ih.of_eq heq
      · next heq => exact ih.of_eq heq

@[simp] theorem Chip.markDirty_quiet {c₀ c : Chip} (w : Who) (p : Place) (hq : c₀.Quiet c) :
    c₀.Quiet (c.markDirty w p) := by
  unfold Chip.markDirty
  split
  · exact hq
  · split
    · exact hq
    · exact (Chip.quiet_onDev _ (Dev.setTlb_watch _ _ _)).mpr (Chip.setLeafBit_quiet _ _ _ hq)

@[simp] theorem Chip.storeAt_quiet {c₀ c : Chip} (w : Who) (p : Place) (size v : Nat) (hq : c₀.Quiet c) :
    c₀.Quiet (c.storeAt w p size v) :=
  (Chip.markDirty_quiet w p hq).mk' rfl (Mem.store_wf _ _ _ _)

@[simp] theorem Chip.ctxWalk_quiet {c₀ c : Chip} (x va : Nat) (k : Access) (spec : Bool) (hq : c₀.Quiet c) :
    c₀.Quiet (c.ctxWalk x va k spec) := by
  unfold Chip.ctxWalk
  split
  · exact hq
  · have hm : c₀.Quiet (c.onDev fun d => d.tlbMiss (d.whoCtx x)) := by simp [hq]
    have hw := Chip.walk_quiet ((c.onDev fun d => d.tlbMiss (d.whoCtx x)).dev.whoCtx x) va k hm
    dsimp only
    split
    · next heq => exact hw.of_eq heq
    · next heq =>
      have hc := hw.of_eq heq
      split
      · exact hm
      · simp [hc]

@[simp] theorem Chip.writeBack_quiet {c₀ c : Chip} (x : Nat) (t : Task) (hq : c₀.Quiet c) :
    c₀.Quiet (c.writeBack x t) := by
  refine hq.mk' (Dev.modCtx_watch _ _ _) (foldl_keeps (fun m : Mem => m.wf = true) _ (fun m i hm => ?_) _ _)
  split
  · split
    · exact Mem.store_wf _ _ _ _ hm
    · exact hm
  · exact hm

@[simp] theorem Chip.complete_quiet {c₀ c : Chip} (x : Nat) (hq : c₀.Quiet c) : c₀.Quiet (c.complete x) := by
  unfold Chip.complete
  split
  · exact hq
  · refine (Chip.quiet_onDev _ ?_).mpr (Chip.writeBack_quiet _ _ ((Chip.quiet_onDev _ (by simp)).mpr hq))
    simp [↓Dev.watch_mk, ↓Watch.of_dev]

@[simp] theorem Chip.taskStart_quiet {c₀ c : Chip} (x : Nat) (hq : c₀.Quiet c) : c₀.Quiet (c.taskStart x) := by
  unfold Chip.taskStart
  split
  · exact hq
  · split <;> simp [hq]

@[simp] theorem Chip.dispatchRead_quiet {c₀ c : Chip} (x : Nat) (told : Bool) (hq : c₀.Quiet c) :
    c₀.Quiet (c.dispatchRead x told) := by
  simp [Chip.dispatchRead, hq]

@[simp] theorem Chip.reads_quiet {c₀ c : Chip} (hq : c₀.Quiet c) : c₀.Quiet c.reads := by simp [Chip.reads, hq]

@[simp] theorem Chip.releases_quiet {c₀ c : Chip} (hq : c₀.Quiet c) : c₀.Quiet c.releases := by
  unfold Chip.releases
  refine Chip.reads_quiet (Chip.quiet_foldl _ _ (fun x _ e => ?_) ((Chip.quiet_onDev _ ?_).mpr hq))
  · split <;> simp
  · refine Dev.each_watch _ _ _ fun x _ e => ?_
    split <;> simp

@[simp] theorem Chip.fetchWord_quiet {c₀ c : Chip} (x : Nat) (hq : c₀.Quiet c) : c₀.Quiet (c.fetchWord x).1 := by
  unfold Chip.fetchWord
  dsimp only
  split
  · simp [hq]
  · have hr := Chip.reach_quiet (c.dev.whoCtx x) (c.dev.ctx x).pc 4 .fetch hq
    split
    · next heq =>
      have hc := hr.of_eq heq
      simp [hc]
    · next heq =>
      have hc := hr.of_eq heq
      simp [hc]

@[simp] theorem Chip.fetch_quiet {c₀ c : Chip} (x : Nat) (hq : c₀.Quiet c) : c₀.Quiet (c.fetch x).1 := by
  have hw := Chip.fetchWord_quiet x hq
  unfold Chip.fetch
  split
  · next heq =>
    have hc := hw.of_eq heq
    simp [hc]
  · next heq => exact hw.of_eq heq

/-- A context's turn: either nothing issues, or its instruction acts on a chip that the fetch has left (R241). -/
theorem Chip.issue_cases {c₀ c : Chip} (x : Nat) (f : Chip → Chip) (hq : c₀.Quiet c) :
    ∃ e, c₀.Quiet e ∧ (c.issue x f = e ∨ c.issue x f = f e) := by
  have hg : c₀.Quiet { c with dev := (c.dev.getsCycle x).2 } := hq.dev (Dev.getsCycle_watch _ _)
  have hf := Chip.fetch_quiet x hg
  unfold Chip.issue
  dsimp only
  split
  · split
    · next heq => exact ⟨_, hf.of_eq heq, .inr rfl⟩
    · next heq => exact ⟨_, hf.of_eq heq, .inl rfl⟩
  · exact ⟨_, hg, .inl rfl⟩

@[simp] theorem Chip.issue_quiet {c₀ c : Chip} (x : Nat) (f : Chip → Chip) (hf : ∀ e : Chip, e.Quiet (f e))
    (hq : c₀.Quiet c) : c₀.Quiet (c.issue x f) := by
  obtain ⟨e, he, h | h⟩ := Chip.issue_cases x f hq
  · rw [h]; exact he
  · rw [h]; exact he.trans (hf e)

@[simp] theorem Chip.readDescriptor_quiet {c₀ c : Chip} (ch va : Nat) (hq : c₀.Quiet c) :
    c₀.Quiet (c.readDescriptor ch va).1 := by
  unfold Chip.readDescriptor
  split
  · have hr := Chip.reach_quiet (c.dev.whoDesc ch) va 1 .desc hq
    split
    · next heq => exact hr.of_eq heq
    · next heq => exact hr.of_eq heq
  · have hr := Chip.reachAll_quiet (c.dev.whoDesc ch) 4 .desc ((List.range 8).map fun i => va + 4 * i) hq
    split
    · next heq => exact hr.of_eq heq
    · next heq => exact hr.of_eq heq

@[simp] theorem Chip.prefetch_quiet {c₀ c : Chip} (ch n : Nat) (t : Desc) (hq : c₀.Quiet c) :
    c₀.Quiet (c.prefetch ch n t) := by
  induction n generalizing c t with
  | zero => exact hq
  | succ n ih =>
    have hr := Chip.readDescriptor_quiet ch t.next hq
    unfold Chip.prefetch
    split
    · exact hq
    · split
      · exact hq
      · next heq =>
        split
        · exact hq
        · exact ih _ (by simp [hr.of_eq heq])

@[simp] theorem Chip.writeW6_quiet {c₀ c : Chip} (ch bytes : Nat) (endedE : Bool) (code : Nat) (hq : c₀.Quiet c) :
    c₀.Quiet (c.writeW6 ch bytes endedE code).1 := by
  have hr := Chip.reach_quiet (c.dev.whoDesc ch) (c.dev.rd (F.DMA_CUR_VA ch) + 24) 4 .store hq
  unfold Chip.writeW6
  dsimp only
  split
  · next heq => exact hr.of_eq heq
  · next heq => exact Chip.storeAt_quiet _ _ _ _ (hr.of_eq heq)

@[simp] theorem Chip.dmaFetch_quiet {c₀ c : Chip} (ch : Nat) (hq : c₀.Quiet c) : c₀.Quiet (c.dmaFetch ch) := by
  unfold Chip.dmaFetch
  dsimp only
  split
  · exact hq
  · have hgot : c₀.Quiet (match (c.dev.dma ch).prefetch.find? (fun p : Nat × List Nat => p.1 == c.dev.rd
      (F.DMA_CUR_VA ch)) with
        | some p => (c, Except.ok (p.2, false))
        | none => c.readDescriptor ch (c.dev.rd (F.DMA_CUR_VA ch))).1 := by
      split <;> simp [hq]
    split
    · next heq =>
      have hc := hgot.of_eq heq
      simp [hc]
    · next heq =>
      have hc := hgot.of_eq heq
      split
      · exact (Chip.quiet_onDev _ (by simp)).mpr (Chip.writeW6_quiet _ _ _ _ ((Chip.quiet_onDev _ (by simp)).mpr hc))
      · split
        · exact Chip.prefetch_quiet _ _ _
            ((Chip.quiet_onDev _ rfl).mpr ((Chip.quiet_onDev _ (by simp)).mpr hc))
        · exact (Chip.quiet_onDev _ rfl).mpr ((Chip.quiet_onDev _ (by simp)).mpr hc)

@[simp] theorem Chip.dmaMove_quiet {c₀ c : Chip} (ch : Nat) (t : Desc) (n off : Nat) (hq : c₀.Quiet c) :
    c₀.Quiet (Chip.dmaMove ch t n off c).1 := by
  induction n generalizing c off with
  | zero => exact hq
  | succ n ih =>
    unfold Chip.dmaMove
    dsimp only
    split
    · have hr := Chip.reach_quiet t.who ((t.src + off) % 2 ^ 32) 1 .load hq
      split
      · next heq => exact hr.of_eq heq
      · next heq =>
        have hr := Chip.reach_quiet t.who ((t.dst + off) % 2 ^ 32) 1 .store (hr.of_eq heq)
        split
        · next heq => exact hr.of_eq heq
        · next heq => exact ih _ (by simp [hr.of_eq heq])
    · have hr := Chip.reach_quiet t.who ((t.src + off) % 2 ^ 32) 4 .load hq
      split
      · next heq => exact hr.of_eq heq
      · next heq => exact ih _ (by simp [hr.of_eq heq])
    · have hr := Chip.reach_quiet t.who ((t.dst + off) % 2 ^ 32) 4 .store hq
      split
      · next heq => exact hr.of_eq heq
      · next q heq =>
        have hp := (hr.of_eq heq).dev (Dev.pop_watch _ t.queue)
        split
        · split
          · simp [hp]
          · split
            · simp [hp]
            · exact ih _ (by simp [hp])
        · split <;> exact hp

@[simp] theorem Chip.dmaRun_quiet {c₀ c : Chip} (ch : Nat) (hq : c₀.Quiet c) : c₀.Quiet (c.dmaRun ch).1 := by
  unfold Chip.dmaRun
  split
  · exact hq
  · exact Chip.dmaMove_quiet _ _ _ _ hq

@[simp] theorem Chip.dmaFinish_quiet {c₀ c : Chip} (ch code : Nat) (endedE : Bool) (hch : ch < 32) (hq : c₀.Quiet c) :
    c₀.Quiet (c.dmaFinish ch code endedE) := by
  have hw := Chip.writeW6_quiet ch (c.dev.rd (F.DMA_DONE_BYTES_BYTES ch)) endedE code hq
  unfold Chip.dmaFinish
  dsimp only
  split
  · next heq =>
    have hc := hw.of_eq heq
    simp [hc]
  · next heq =>
    have hc := hw.of_eq heq
    simp [hc, Fld.apart_dma_ch_lt ch hch]

@[simp] theorem Chip.dmaDescComplete_quiet {c₀ c : Chip} (ch : Nat) (hch : ch < 32) (hq : c₀.Quiet c) :
    c₀.Quiet (c.dmaDescComplete ch) := by
  have hr := Chip.dmaRun_quiet ch hq
  unfold Chip.dmaDescComplete
  split
  · split
    · next heq => exact Chip.dmaFinish_quiet _ _ _ hch (hr.of_eq heq)
    · exact hq
  · exact hq

@[simp] theorem Chip.dmaFaultNow_quiet {c₀ c : Chip} (ch : Nat) (hq : c₀.Quiet c) : c₀.Quiet (c.dmaFaultNow ch) := by
  have hr := Chip.dmaRun_quiet ch hq
  unfold Chip.dmaFaultNow
  split
  · split
    · next heq => simp [hr.of_eq heq]
    · exact hq
  · exact hq

@[simp] theorem Chip.dmaPopRetry_quiet {c₀ c : Chip} (ch : Nat) (hq : c₀.Quiet c) : c₀.Quiet (c.dmaPopRetry ch) := by
  have hr := Chip.dmaRun_quiet ch hq
  unfold Chip.dmaPopRetry
  split
  · split
    · next heq => exact hr.of_eq heq
    · exact hq
  · exact hq

@[simp] theorem Chip.dmaAbort_quiet {c₀ c : Chip} (ch : Nat) (hq : c₀.Quiet c) : c₀.Quiet (c.dmaAbort ch) := by
  simp [Chip.dmaAbort, hq]

@[simp] theorem Chip.dmaCmd_quiet {c₀ c : Chip} (ch v : Nat) (hq : c₀.Quiet c) : c₀.Quiet (c.dmaCmd ch v) := by
  simp [Chip.dmaCmd, hq]

@[simp] theorem Chip.realignEnd_quiet {c₀ c : Chip} (hq : c₀.Quiet c) : c₀.Quiet c.realignEnd := by
  simp [Chip.realignEnd, hq]

@[simp] theorem Chip.toRing_quiet {c₀ c : Chip} (p r : Nat) (bytes : List Byte) (raw : Bool) (began : Nat) (stamp : Int)
    (w2 w3 : Nat) (hr : r < 8) (hq : c₀.Quiet c) : c₀.Quiet (c.toRing p r bytes raw began stamp w2 w3) := by
  unfold Chip.toRing
  dsimp only
  split
  · simp [hq]
  · split
    · simp [hq]
    · split
      · simp [hq]
      · refine hq.mk' ?_ fun h => Mem.store_wf _ _ _ _ (Mem.store_wf _ _ _ _ h)
        rw [Dev.set_watch _ _ (by split <;> simp), Dev.wr_watch _ _ _ (Fld.apart_mac_p_r_lt p r hr).1,
          Dev.wr_watch _ _ _ (by simp), Dev.setMac_watch]
        · simp
        · exact (Dev.line_of_watch (by simp) p).symm
        · exact (Dev.sixes_of_watch (by simp) p).symm

/-- A frame that the flow engine takes joins those that wait for it. -/
theorem Dev.ingress_quiet (d : Dev) (x : FlowFrame) (hx : x.path < 2) :
    d.watch.Quiet ({ d with net := { d.net with ingress := d.net.ingress ++ [x] } } : Dev).watch := by
  refine ⟨fun n => ⟨n.line, n.sixes, fun y hy => ?_⟩, fun _ => rfl⟩
  change y ∈ (d.net.ingress ++ [x]).map FlowFrame.path at hy
  rw [List.map_append, List.mem_append] at hy
  rcases hy with hy | hy
  · exact n.ingress y hy
  · rw [List.mem_singleton.mp hy]
    exact hx

@[simp] theorem Chip.classify_quiet {c₀ c : Chip} (p : Nat) (fr : List Byte) (odd : Bool) (tag : Option Nat)
    (hit : Option (Nat × Nat)) (w3 began : Nat) (stamp : Int) (ecc : Nat) (hhit : ∀ x, hit = some x → x.2 < 2)
    (hq : c₀.Quiet c) : c₀.Quiet (c.classify p fr odd tag hit w3 began stamp ecc) := by
  have hctl (w2 : Nat) : c₀.Quiet ((c.onDev fun d => d.macCount p 16).toRing p 1 fr false began stamp w2 w3) :=
    Chip.toRing_quiet _ _ _ _ _ _ _ _ (by decide) ((Chip.quiet_onDev _ (by simp)).mpr hq)
  unfold Chip.classify
  dsimp only
  split
  · exact hctl _
  · split
    · refine (Chip.quiet_onDev _ ?_).mpr hq
      split <;> simp
    · split
      · exact Chip.toRing_quiet _ _ _ _ _ _ _ _ (by decide) (hq.dev (by simp))
      · next f b _ =>
        refine hq.onDev _ ?_
        split
        · exact .of_eq (by simp)
        · exact (Watch.Quiet.of_eq (c.dev.macCount_watch p 15 (by decide))).trans
            (Dev.ingress_quiet _ ⟨f, b, fr, stamp, p, _⟩ (hhit _ rfl))
      · exact hctl _

theorem Dev.flowHit_path {d : Dev} {p : Nat} {fr : List Byte} {vid : Option Nat} {x : Nat × Nat}
    (h : d.flowHit p fr vid = some x) : x.2 < 2 := by
  obtain ⟨f, -, hf⟩ := List.mem_filterMap.mp (List.mem_of_head? h)
  obtain ⟨b, hb, rfl⟩ := Option.map_eq_some_iff.mp hf
  unfold Dev.flowPath at hb
  split at hb
  · exact absurd hb (by simp)
  · split at hb
    · split at hb
      · simp [← Option.some.inj hb]
      · simp only [Option.ite_none_right_eq_some, Option.some.injEq] at hb
        simp [← hb.2]
    · simp only [Option.ite_none_right_eq_some, Option.some.injEq] at hb
      simp [← hb.2]

@[simp] theorem Chip.goodFrame_quiet {c₀ c : Chip} (p : Nat) (fr : List Byte) (ovf : Bool) (began : Nat) (stamp : Int)
    (ecc : Nat) (hq : c₀.Quiet c) : c₀.Quiet (c.goodFrame p fr ovf began stamp ecc) := by
  unfold Chip.goodFrame
  refine .ite (fun _ => (Chip.quiet_onDev _ (by simp)).mpr hq) fun _ =>
    .ite (fun _ => (Chip.quiet_onDev _ (by simp)).mpr hq) fun _ => ?_
  refine Chip.classify_quiet _ _ _ _ _ _ _ _ _ (fun x hx => ?_) ((Chip.quiet_onDev _ (by simp)).mpr hq)
  exact Dev.flowHit_path (Option.ite_none_left_eq_some.mp hx).2

@[simp] theorem Chip.frameEnd_quiet {c₀ c : Chip} (p : Nat) (bytes : List Byte) (symbol align ovf : Bool)
    (bad : Option Nat) (ago : Nat) (hq : c₀.Quiet c) :
    c₀.Quiet (c.frameEnd p bytes symbol align ovf bad ago) := by
  unfold Chip.frameEnd
  dsimp only
  split
  · exact hq
  · split
    · simp [hq]
    · split
      · have hc : c₀.Quiet (c.onDev fun d => d.macCount p (if symbol then 6 else if align then 5
            else if bytes.drop (bytes.length - 4) != fcsOf (bytes.take (bytes.length - 4)) then 4
            else if decide (bytes.length ≤ 63) then 2 else 3)) := by
          refine (Chip.quiet_onDev _ (Dev.macCount_watch _ _ _ ?_)).mpr hq
          (repeat' split) <;> decide
        split
        · exact hc
        · exact Chip.toRing_quiet _ _ _ _ _ _ _ _ (by decide) hc
      · exact Chip.goodFrame_quiet _ _ _ _ _ _ hq

@[simp] theorem Chip.receive_quiet {c₀ c : Chip} (p : Nat) (bytes : List Byte) (symbol align ovf : Bool) (bad :
    Option Nat) (ago : Nat) (hq : c₀.Quiet c) :
    c₀.Quiet (c.receive p bytes symbol align ovf bad ago) := by
  unfold Chip.receive
  split <;> simp [hq]

@[simp] theorem Chip.takeHead_quiet {c₀ c : Chip} (p cl : Nat) (hq : c₀.Quiet c) : c₀.Quiet (c.takeHead p cl) := by
  simp [Chip.takeHead, hq]

@[simp] theorem Chip.completeAt_quiet {c₀ c : Chip} (p a status : Nat) (stamp : Option Int) (hp : p < 4) (hq :
    c₀.Quiet c) :
    c₀.Quiet (c.completeAt p a status stamp) := by
  unfold Chip.completeAt
  dsimp only
  split
  · simp [hq]
  · refine hq.mk' ?_ fun h => Mem.store_wf _ _ _ _ (Mem.store_wf _ _ _ _ h)
    simp [hp]

@[simp] theorem Chip.complete6_quiet {c₀ c : Chip} (p cl status : Nat) (stamp : Option Int) (hp : p < 4)
    (hcl : c₀.dev.watch.Named → cl < 8) (hq : c₀.Quiet c) : c₀.Quiet (c.complete6 p cl status stamp) := by
  have hc := Chip.completeAt_quiet p (c.dev.txDesc p cl) status stamp hp hq
  unfold Chip.complete6
  refine Chip.takeHead_quiet _ _ ⟨⟨fun n => ?_, fun n => ?_⟩, hc.wf⟩
  all_goals
    have hcl := Fld.apart_mac_p_cl_lt p cl (hcl n)
    simp only [Dev.modMac_watch, Dev.wr_watch, hcl]
  · exact hc.watch.named n
  · exact hc.watch.status n

/-- The first frame of class 6 leaves its port. -/
theorem Dev.dropSix_quiet (d : Dev) (p : Nat) {f : TxFrame} {rest : List TxFrame} (ripe : Mac → List Nat)
    (h : (d.mac p).c6 = f :: rest) : d.watch.Quiet (d.modMac p fun m => { m with c6 := rest, ripe := ripe m }).watch :=
  d.modMac_quiet p _ (fun n _ hl => n.cls_lt hl) fun n _ hx => n.path_lt (h ▸ List.mem_cons_of_mem f hx)

@[simp] theorem Chip.dropHead_quiet {c₀ c : Chip} (p cl status : Nat) (hp : p < 4) (hcl : cl < 8) (hq : c₀.Quiet c) :
    c₀.Quiet (c.dropHead p cl status) := by
  have hc : c₀.Quiet ((c.onDev fun d => match status with
      | 1 => (d.macCount p 18).set (F.MAC_EVENTS_LATE_DROP p)
      | 2 => (d.macCount p 19).set (F.MAC_EVENTS_GATE_ERR p)
      | 3 => d.macCount p 20
      | _ => d).onDev fun d => d.useRelease p cl) := by
    refine (Chip.quiet_onDev _ (by simp)).mpr ((Chip.quiet_onDev _ ?_).mpr hq)
    split <;> simp
  unfold Chip.dropHead
  refine .ite (fun _ => Chip.complete6_quiet _ _ _ _ hp (fun _ => hcl) hc) fun _ => ?_
  split
  · exact hc
  · next f rest hf =>
    refine hc.onDev _ ?_
    dsimp only
    rw [Dev.when_watch, Dev.set_watch _ _ (by simp), Dev.bump_watch _ _ _ (by simp), ite_self]
    exact Dev.dropSix_quiet _ p (fun m => m.ripe.filter (· != 6)) hf

/-- A frame of a class below 8 goes on a port's line. -/
theorem Dev.putLine_quiet (d : Dev) (p : Nat) (l : OnLine) (h : d.watch.Named → l.cls < 8) (c6 : List TxFrame → List
    TxFrame)
    (h6 : ∀ fs, ∀ x ∈ c6 fs, x ∈ fs) :
    d.watch.Quiet (d.modMac p fun m => { m with c6 := c6 m.c6, line := some l }).watch := by
  refine d.modMac_quiet p _ (fun n k hk => ?_) fun n _ hx => n.path_lt (h6 _ _ hx)
  rw [← Option.some.inj hk]
  exact h n

theorem Chip.head_flow {c : Chip} {p cl : Nat} {f : TxFrame} (h : c.head p cl = .flow f) : f ∈ (c.dev.mac p).c6 := by
  unfold Chip.head at h
  dsimp only at h
  split at h
  · split at h
    · exact absurd h (by simp)
    · next heq =>
      rw [heq, ← Head.flow.inj h]
      exact List.mem_cons_self
  · split at h
    · exact absurd h (by simp)
    · split at h <;> exact absurd h (by simp)

@[simp] theorem Chip.startHead_quiet {c₀ c : Chip} (p cl sfd : Nat) (hcl : cl < 8) (hq : c₀.Quiet c) :
    c₀.Quiet (c.startHead p cl sfd) := by
  have hc : c₀.Quiet (c.onDev fun d => (d.useRelease p cl).modMac p fun m =>
    { m with ripe := m.ripe.filter (· != cl) }) :=
    (Chip.quiet_onDev _ (by simp)).mpr hq
  unfold Chip.startHead
  dsimp only
  split
  · exact hq
  · refine ⟨hc.watch.trans ?_, hc.wf⟩
    rw [Dev.when_watch, Dev.macCount_watch _ _ _ (by decide), ite_self]
    exact Dev.putLine_quiet _ p _ (fun _ => hcl) id fun _ _ => id
  · next f hf =>
    refine ⟨⟨fun n => ?_, fun n => ?_⟩, hc.wf⟩
    all_goals
      have hpath := (hq.watch.named n).path_lt (Chip.head_flow hf)
      rw [Dev.bump_watch _ _ _ (Fld.apart_txf_f_k_lt _ _ (by omega))]
    · exact (hc.watch.trans (Dev.putLine_quiet _ p _ (fun _ => by simp) (List.drop 1) fun _ _ =>
        List.mem_of_mem_drop)).named n
    · exact (hc.watch.trans (Dev.putLine_quiet _ p _ (fun _ => by simp) (List.drop 1) fun _ _ =>
        List.mem_of_mem_drop)).status n

@[simp] theorem Chip.transmitStart_quiet {c₀ c : Chip} (p sfd : Nat) (hp : p < 4) (hq : c₀.Quiet c) :
    c₀.Quiet (c.transmitStart p sfd) := by
  unfold Chip.transmitStart
  split
  · exact hq
  · split
    · exact hq
    · next cl hfind =>
      have hcl : cl < 8 := by
        have := List.mem_of_find?_eq_some hfind
        simp only [List.mem_cons, List.not_mem_nil, or_false] at this
        omega
      split
      · exact Chip.dropHead_quiet _ _ _ hp hcl hq
      · exact Chip.startHead_quiet _ _ _ hcl hq

@[simp] theorem Chip.flushRing_quiet {c₀ c : Chip} (p cl n : Nat) (hp : p < 4) (hcl : cl < 8) (hq : c₀.Quiet c) :
    c₀.Quiet (c.flushRing p cl n) := by
  induction n generalizing c with
  | zero => exact hq
  | succ n ih =>
    unfold Chip.flushRing
    split
    · exact hq
    · exact ih (Chip.complete6_quiet _ _ _ _ hp (fun _ => hcl) hq)

theorem Chip.flushRings_quiet {c₀ c : Chip} (p n : Nat) (l : List Nat) (hp : p < 4) (hl : ∀ cl ∈ l, cl < 8)
    (hq : c₀.Quiet c) :
    c₀.Quiet (l.foldl (fun c cl =>
      if c.dev.inPages (c.dev.rd (F.MAC_TXR_CFG_BASE p cl)) (32 * 2 ^ c.dev.rd (F.MAC_TXR_CFG_SIZE p cl)) then
        Chip.flushRing p cl n c else c) c) :=
  Chip.quiet_foldl _ l (fun cl hcl e =>
    .ite (fun _ => Chip.flushRing_quiet _ _ _ hp (hl cl hcl) (.refl e)) fun _ => .refl e) hq

/-- What a port forgets once its rings are flushed. -/
theorem Dev.dropSixes_quiet (d : Dev) (p : Nat) :
    d.watch.Quiet (d.modMac p fun m => { m with c6 := [], rel := [], ripe := [] }).watch :=
  d.modMac_quiet p _ (fun n _ hl => n.cls_lt hl) fun _ _ hx => absurd hx List.not_mem_nil

@[simp] theorem Chip.flushTx_quiet {c₀ c : Chip} (p : Nat) (hp : p < 4) (hq : c₀.Quiet c) : c₀.Quiet (c.flushTx p) := by
  have hc : c₀.Quiet (c.onDev fun d => d.detachLine p) :=
    hq.onDev_of _ fun n => Dev.detachLine_watch _ p fun _ hl => n.cls_lt hl
  have hcl : ∀ cl ∈ ([7, 5, 4, 3, 2, 1, 0] : List Nat), cl < 8 := by decide
  rw [Chip.flushTx]
  exact (Chip.flushRings_quiet p 4096 _ hp hcl hc).onDev _ (Dev.dropSixes_quiet _ p)

/-- A port's line falls idle. -/
theorem Dev.dropLine_quiet (d : Dev) (p : Nat) (last : Option OnLine) (raw : Nat) :
    d.watch.Quiet (d.modMac p fun m => { m with line := none, last := last, idleRaw := raw }).watch :=
  d.modMac_quiet p _ (fun _ _ h => nomatch h) fun n _ hx => n.path_lt hx

theorem Dev.stayOpen_watch (d : Dev) (p : Nat) : (d.modMac p fun m => { m with closing := false }).watch = d.watch :=
  d.modMac_watch p _ rfl rfl

theorem Chip.transmitClose_quiet {c₀ c : Chip} (p : Nat) (hp : p < 4) (hq : c₀.Quiet c) :
    c₀.Quiet (if (c.dev.mac p).closing then (c.flushTx p).onDev fun d => d.modMac p fun m => { m with closing := false }
      else c) :=
  .ite (fun _ => (Chip.quiet_onDev _ (Dev.stayOpen_watch _ p)).mpr (Chip.flushTx_quiet p hp hq)) fun _ => hq

theorem Chip.transmitStatus_quiet {c₀ c : Chip} (p status : Nat) (l : OnLine) (hp : p < 4)
    (hl : c₀.dev.watch.Named → l.cls < 8) (hq : c₀.Quiet c) :
    c₀.Quiet (match l.desc with
      | some a => c.completeAt p a status (some l.stamp)
      | none => if l.cls = 6 then c else c.complete6 p l.cls status (some l.stamp)) := by
  split
  · exact Chip.completeAt_quiet _ _ _ _ hp hq
  · exact .ite (fun _ => hq) fun _ => Chip.complete6_quiet _ _ _ _ hp hl hq

@[simp] theorem Chip.transmitDone_quiet {c₀ c : Chip} (p : Nat) (ecc : Bool) (hp : p < 4) (hq : c₀.Quiet c) :
    c₀.Quiet (c.transmitDone p ecc) := by
  unfold Chip.transmitDone
  split
  · exact hq
  · next l hl =>
    have hcls : c₀.dev.watch.Named → l.cls < 8 := fun n => (hq.watch.named n).cls_lt hl
    refine Chip.transmitClose_quiet p hp (Chip.transmitStatus_quiet p _ l hp hcls ?_)
    refine .ite (fun _ => ?_) fun _ => (Chip.quiet_onDev _ (by simp)).mpr ?_
    all_goals
      refine Chip.Quiet.onDev _ (hq.dev ?_) (Dev.dropLine_quiet _ p _ _)
      simp

@[simp] theorem Chip.launchReached_quiet {c₀ c : Chip} (p cl : Nat) (hp : p < 4) (hcl : cl < 8) (hq : c₀.Quiet c) :
    c₀.Quiet (c.launchReached p cl) := by
  unfold Chip.launchReached
  dsimp only
  split
  · exact Chip.dropHead_quiet _ _ _ hp hcl hq
  · exact hq

@[simp] theorem Chip.ripen_quiet {c₀ c : Chip} (p : Nat) (hq : c₀.Quiet c) : c₀.Quiet (c.ripen p) := by
  simp [Chip.ripen, hq]

@[simp] theorem Chip.ripenAll_quiet {c₀ c : Chip} (hq : c₀.Quiet c) : c₀.Quiet c.ripenAll :=
  Chip.quiet_foldl _ _ (fun _ _ _ => Chip.ripen_quiet _ (.refl _)) hq

@[simp] theorem Chip.txTail_quiet {c₀ c : Chip} (p cl tail : Nat) (hcl : cl < 8) (hq : c₀.Quiet c) :
    c₀.Quiet (c.txTail p cl tail) := by
  unfold Chip.txTail
  split
  · exact hq
  · exact Chip.takeHead_quiet _ _ ((Chip.quiet_onDev _ (by simp [hcl])).mpr hq)

@[simp] theorem Chip.macDisable_quiet {c₀ c : Chip} (p : Nat) (hp : p < 4) (hq : c₀.Quiet c) :
    c₀.Quiet (c.macDisable p) := by
  unfold Chip.macDisable
  refine .ite (fun _ => hq) fun _ => ?_
  have hc : c₀.Quiet (((c.onDev fun d => (d.clr (F.MAC_CTL_EN p)).wrs
      [(F.MAC_STATUS_BLOCK_LOCK p, 0), (F.MAC_STATUS_AN_DONE p, 0)]).onDev fun d =>
        d.modMac p fun m => { m with fell := d.time.raw }).onDev fun d => d.linkView p) := by
    refine (Chip.quiet_onDev _ (Dev.linkView_watch _ _ hp)).mpr ((Chip.quiet_onDev _ (Dev.modMac_watch _ _ _ rfl
      rfl)).mpr
      ((Chip.quiet_onDev _ ?_).mpr hq))
    simp [Fld.apart_mac_p_lt p hp]
  exact .ite (fun _ => Chip.flushTx_quiet p hp hc) fun _ =>
    (Chip.quiet_onDev _ (Dev.modMac_watch _ _ _ rfl rfl)).mpr hc

@[simp] theorem Chip.lpiEnter_quiet {c₀ c : Chip} (p : Nat) (hq : c₀.Quiet c) : c₀.Quiet (c.lpiEnter p) := by
  simp [Chip.lpiEnter, hq]

@[simp] theorem Chip.lpiExit_quiet {c₀ c : Chip} (p : Nat) (hq : c₀.Quiet c) : c₀.Quiet (c.lpiExit p) := by
  simp [Chip.lpiExit, hq]

@[simp] theorem Chip.rxReady_quiet {c₀ c : Chip} (f : Nat) (hq : c₀.Quiet c) : c₀.Quiet (c.rxReady f) := by
  unfold Chip.rxReady
  split
  · exact hq
  · split
    · exact hq
    · refine hq.mk' (by simp) (foldl_keeps (fun m : Mem => m.wf = true) _ (fun m _ hm => ?_) _ _)
      exact m.setByte_wf _ _ hm

/-- Taking the first frame off the flow engine's list. -/
theorem Dev.dropIngress_quiet (d : Dev) {x : FlowFrame} {rest : List FlowFrame} (hx : d.net.ingress = x :: rest) :
    d.watch.Quiet ({ d with net := { d.net with ingress := rest } } : Dev).watch := by
  refine ⟨fun n => ⟨n.line, n.sixes, fun y hy => n.ingress y ?_⟩, fun _ => rfl⟩
  change y ∈ d.net.ingress.map FlowFrame.path
  rw [hx]
  exact List.mem_cons_of_mem _ hy

theorem Watch.Named.ingress_lt {d : Dev} (n : d.watch.Named) {x : FlowFrame} (hx : x ∈ d.net.ingress) : x.path < 2 :=
  n.ingress x.path (List.mem_map_of_mem hx)

@[simp] theorem Chip.flowAccept_quiet {c₀ c : Chip} (hq : c₀.Quiet c) : c₀.Quiet c.flowAccept := by
  unfold Chip.flowAccept
  split
  · exact hq
  · next x rest hx =>
    have hc := Chip.Quiet.onDev (fun d : Dev => { d with net := { d.net with ingress := rest } }) hq
      (Dev.dropIngress_quiet _ hx)
    have hpath (n : c₀.dev.watch.Named) : x.path < 2 :=
      (hq.watch.named n).ingress_lt (hx ▸ List.mem_cons_self)
    generalize (c.onDev fun d => { d with net := { d.net with ingress := rest } }) = e at hc
    dsimp only
    split
    · exact hc
    · refine .ite (fun _ => hc) fun _ => .ite (fun _ => (Chip.quiet_onDev _ (by simp)).mpr hc) fun _ => ?_
      split
      · exact (Chip.quiet_onDev _ (by simp)).mpr hc
      · split
        · exact (Chip.quiet_onDev _ (by simp)).mpr hc
        · refine hc.mk_of (fun n => ?_) (Mem.placeAll_wf _ _ _ _ _)
          have hp := hpath n
          have h (k : Nat) (hk : k < 16) := Fld.apart_rxf_f_k_lt x.flow k hk
          simp [h x.path (by omega), h (4 + x.path) (by omega), h (6 + x.path) (by omega), h (8 + x.path) (by omega)]

@[simp] theorem Chip.playFlow_quiet {c₀ c : Chip} (f : Nat) (k : RxCfg) (hq : c₀.Quiet c) :
    c₀.Quiet (c.playFlow f k).1 := by
  unfold Chip.playFlow
  dsimp only
  split
  · exact hq
  · refine hq.mk' (by simp) (foldl_keeps (fun m : Mem => m.wf = true) _ (fun m _ hm => ?_) _ _)
    exact foldl_keeps (fun m : Mem => m.wf = true) _ (fun m _ hm => m.setByte_wf _ _ hm) _ _ hm

theorem Chip.playFlows_quiet {c₀ : Chip} (l : List (Nat × RxCfg)) (s : Chip × List Nat) (hq : c₀.Quiet s.1) :
    c₀.Quiet (l.foldl (fun (s : Chip × List Nat) p =>
      ((s.1.playFlow p.1 p.2).1, if (s.1.playFlow p.1 p.2).2 then p.2.group :: s.2 else s.2)) s).1 := by
  induction l generalizing s with
  | nil => exact hq
  | cons p l ih => exact ih _ (Chip.playFlow_quiet _ _ hq)

@[simp] theorem Chip.playout_quiet {c₀ c : Chip} (hq : c₀.Quiet c) : c₀.Quiet c.playout := by
  unfold Chip.playout
  dsimp only
  refine (Chip.quiet_onDev _ (Dev.each_watch _ _ _ fun g hg e => ?_)).mpr (Chip.playFlows_quiet _ (c, []) hq)
  have hg := Fld.apart_grp_g_lt g (List.mem_range.mp hg)
  split <;> simp [hg]

@[simp] theorem Chip.buildPacket_quiet {c₀ c : Chip} (f : Nat) (k : TxCfg) (g : Gather) (hq : c₀.Quiet c) :
    c₀.Quiet (c.buildPacket f k g).1 := by
  unfold Chip.buildPacket
  dsimp only
  rw [Chip.fst_ite]
  exact .ite (fun _ => (Chip.quiet_dev (by simp)).mpr hq) fun _ => (Chip.quiet_dev (by simp)).mpr hq

theorem forall_mem_snd_ite {α β : Type} {p : Prop} [Decidable p] {a b : α × List β} {P : β → Prop}
    (ha : p → ∀ x ∈ a.2, P x) (hb : ¬p → ∀ x ∈ b.2, P x) : ∀ x ∈ (if p then a else b).2, P x := by
  split
  · next h => exact ha h
  · next h => exact hb h

theorem forall_mem_ite {β : Type} {p : Prop} [Decidable p] {a b : List β} {P : β → Prop}
    (ha : p → ∀ x ∈ a, P x) (hb : ¬p → ∀ x ∈ b, P x) : ∀ x ∈ (if p then a else b), P x := by
  split
  · next h => exact ha h
  · next h => exact hb h

/-- The frames of a packet go out on path 0 or 1 (R144). -/
theorem Chip.buildPacket_path (c : Chip) (f : Nat) (k : TxCfg) (g : Gather) :
    ∀ x ∈ (c.buildPacket f k g).2, x.2.path < 2 := by
  unfold Chip.buildPacket
  exact forall_mem_snd_ite (fun _ _ hx => absurd hx List.not_mem_nil) fun _ => forall_mem_ite
    (fun _ => List.forall_mem_cons.mpr ⟨Nat.zero_lt_two, List.forall_mem_singleton.mpr Nat.one_lt_two⟩)
    fun _ => List.forall_mem_singleton.mpr Nat.zero_lt_two

@[simp] theorem Chip.packFlow_quiet {c₀ c : Chip} (f : Nat) (k : TxCfg) (hq : c₀.Quiet c) :
    c₀.Quiet (c.packFlow f k).1 := by
  unfold Chip.packFlow
  dsimp only
  rw [Chip.fst_ite]
  refine .ite (fun _ => (Chip.quiet_dev (by simp)).mpr hq) fun _ => ?_
  split
  · exact (Chip.quiet_dev (by simp)).mpr hq
  · rw [Chip.fst_ite]
    exact .ite (fun _ => Chip.buildPacket_quiet _ _ _ ((Chip.quiet_dev (by simp)).mpr hq))
      fun _ => (Chip.quiet_dev (by simp)).mpr hq

theorem Chip.packFlow_path (c : Chip) (f : Nat) (k : TxCfg) : ∀ x ∈ (c.packFlow f k).2, x.2.path < 2 := by
  unfold Chip.packFlow
  dsimp only
  refine forall_mem_snd_ite (fun _ => List.forall_mem_nil _) fun _ => ?_
  split
  · exact List.forall_mem_nil _
  · exact forall_mem_snd_ite (fun _ => Chip.buildPacket_path _ _ _ _) fun _ => List.forall_mem_nil _

theorem mem_placeFrame {x y : TxFrame} {l : List TxFrame} (h : y ∈ placeFrame x l) : y = x ∨ y ∈ l := by
  induction l with
  | nil => exact .inl (List.mem_singleton.mp h)
  | cons z l ih =>
    unfold placeFrame at h
    split at h
    · exact List.mem_cons.mp h
    · rcases List.mem_cons.mp h with rfl | h
      · exact .inr List.mem_cons_self
      · exact (ih h).imp id (List.mem_cons_of_mem z)

/-- Frames placed in the order of their launches. -/
theorem mem_foldl_placeFrame {y : TxFrame} (l : List (Nat × TxFrame)) (acc : List TxFrame)
    (h : y ∈ l.foldl (fun l x => placeFrame x.2 l) acc) : y ∈ acc ∨ ∃ x ∈ l, x.2 = y := by
  induction l generalizing acc with
  | nil => exact .inl h
  | cons x l ih =>
    rcases ih _ h with h | ⟨z, hz, rfl⟩
    · rcases mem_placeFrame h with rfl | h
      · exact .inr ⟨x, List.mem_cons_self, rfl⟩
      · exact .inl h
    · exact .inr ⟨z, List.mem_cons_of_mem x hz, rfl⟩

/-- What the packetiser leaves after its flows: a chip, and frames of paths 0 and 1. -/
theorem Chip.packFlows_quiet {c₀ : Chip} (l : List (Nat × TxCfg)) (s : Chip × List (Nat × TxFrame))
    (hq : c₀.Quiet s.1) (hs : ∀ x ∈ s.2, x.2.path < 2) :
    c₀.Quiet (l.foldl (fun (s : Chip × List (Nat × TxFrame)) p =>
        ((s.1.packFlow p.1 p.2).1, s.2 ++ (s.1.packFlow p.1 p.2).2)) s).1 ∧
      ∀ x ∈ (l.foldl (fun (s : Chip × List (Nat × TxFrame)) p =>
        ((s.1.packFlow p.1 p.2).1, s.2 ++ (s.1.packFlow p.1 p.2).2)) s).2, x.2.path < 2 := by
  induction l generalizing s with
  | nil => exact ⟨hq, hs⟩
  | cons p l ih =>
    refine ih _ (Chip.packFlow_quiet _ _ hq) fun x hx => ?_
    rcases List.mem_append.mp hx with hx | hx
    · exact hs x hx
    · exact Chip.packFlow_path _ _ _ x hx

/-- New frames of paths 0 and 1 for each port. -/
theorem Dev.sendSix_quiet (d : Dev) (new : Nat → List TxFrame) (hnew : ∀ p, ∀ f ∈ new p, f.path < 2) (ps : List Nat) :
    d.watch.Quiet (d.each ps fun d p => if new p = [] then d else d.modMac p fun m =>
      { m with c6 := m.c6 ++ new p }).watch := by
  induction ps generalizing d with
  | nil => exact .refl _
  | cons p ps ih =>
    refine Watch.Quiet.trans ?_ (ih _)
    dsimp only
    split
    · exact .refl _
    · refine d.modMac_quiet p _ (fun n l hl => n.cls_lt hl) fun n f hf => ?_
      rcases List.mem_append.mp hf with hf | hf
      · exact n.path_lt hf
      · exact hnew p f hf

@[simp] theorem Chip.packetise_quiet {c₀ c : Chip} (hq : c₀.Quiet c) : c₀.Quiet c.packetise := by
  unfold Chip.packetise
  refine .ite (fun _ => hq) fun _ => .ite (fun _ => (Chip.quiet_onDev _ (by simp)).mpr hq) fun _ => ?_
  obtain ⟨hc, hpath⟩ := Chip.packFlows_quiet c.dev.txOn (c, []) hq (fun x hx => absurd hx List.not_mem_nil)
  refine hc.onDev _ (Dev.sendSix_quiet _ (fun p => List.foldl (fun l (x : Nat × TxFrame) => placeFrame x.2 l) []
    (List.filter (fun x : Nat × TxFrame => x.1 == p) _)) (fun p f hf => ?_) _)
  rcases mem_foldl_placeFrame _ _ hf with hf | ⟨x, hx, rfl⟩
  · exact absurd hf List.not_mem_nil
  · exact hpath x (List.mem_of_mem_filter hx)

@[simp] theorem Chip.joinServe_quiet {c₀ c : Chip} (hq : c₀.Quiet c) : c₀.Quiet c.joinServe := by
  unfold Chip.joinServe
  refine (Chip.quiet_onDev _ ?_).mpr hq
  dsimp only
  (repeat' split) <;> simp

@[simp] theorem Chip.dataReceive_quiet {c₀ c : Chip} (ws : List Nat) (hq : c₀.Quiet c) : c₀.Quiet (c.dataReceive ws)
    := by
  unfold Chip.dataReceive
  refine .ite (fun _ => hq) fun _ => .ite (fun _ => by simp [hq]) fun _ => .ite (fun _ => hq) fun _ =>
    .ite (fun _ => hq) fun _ => ?_
  have hc (l : List Byte) : c₀.Quiet { c with mem := c.mem.storeBytes (bitsAt (wordOf ws 1) 0 26) l } :=
    hq.mk' rfl (Mem.storeBytes_wf _ _ _)
  exact .ite (fun _ => (Chip.quiet_onDev _ (by simp)).mpr (hc _)) fun _ => hc _

@[simp] theorem Chip.earlyDone_quiet {c₀ c : Chip} (hq : c₀.Quiet c) : c₀.Quiet c.earlyDone := by
  unfold Chip.earlyDone
  split
  · split
    · exact hq
    · split
      · exact hq
      · exact hq.mk' (Dev.modLam_watch _ _ rfl) (c.copyEarly_wf _ _)
  · exact hq

theorem Dev.clearIngress_quiet (d : Dev) :
    d.watch.Quiet ({ d with net := { d.net with draining := true, ingress := [] }, envs := [] } : Dev).watch :=
  ⟨fun n => ⟨n.line, n.sixes, fun _ h => nomatch h⟩, fun _ => rfl⟩

@[simp] theorem Chip.switchStop_quiet {c₀ c : Chip} (hq : c₀.Quiet c) : c₀.Quiet c.switchStop := by
  unfold Chip.switchStop
  dsimp only
  have h1 : c₀.Quiet (((List.range 32).foldl (fun c ch => c.dmaAbort ch) c).onDev fun d =>
      d.each allCtx fun d x => (d.taskStop x).drainBlock x) :=
    (Chip.quiet_onDev _ (by simp)).mpr
      (Chip.quiet_foldl _ _ (fun ch hch e => Chip.dmaAbort_quiet _ (.refl e)) hq)
  have h2 := Chip.quiet_foldl (fun c p => c.flushTx p) [0, 1, 2, 3]
    (fun p hp e => Chip.flushTx_quiet p (by simp at hp; omega) (.refl e)) h1
  refine h2.onDev _ ?_
  refine .trans (.of_eq ?_) (Dev.clearIngress_quiet _)
  rw [Dev.each_watch _ _ _ fun u _ e => Dev.teuDisable_watch e u,
    Dev.foldl_watch _ _ _ fun x _ e => Dev.macCount_watch e _ _ (by omega)]
  simp

@[simp] theorem Chip.switchStart_quiet {c₀ c : Chip} (old : Dev) (b : Nat) (hq : c₀.Quiet c) :
    c₀.Quiet (c.switchStart old b) := by
  unfold Chip.switchStart
  refine (Chip.quiet_onDev _ (Dev.each_watch _ _ _ fun f hf e => ?_)).mpr
    (Chip.quiet_foldl _ _ (fun f hf e => Chip.rxReady_quiet f (.refl e)) (hq.dev ?_))
  · split <;> simp
  · rw [Dev.launchDenials_watch, Dev.each_watch _ _ _ fun n hn e => ?_, Dev.each_watch _ _ _ fun f hf e => ?_,
      Dev.each_watch _ _ _ fun f hf e => ?_, Dev.each_watch _ _ _ fun p hp e => ?_]
    · have hp : p < 4 := by
        simp only [List.mem_cons, List.not_mem_nil, or_false] at hp
        omega
      have hd : (if e.on (F.MAC_CTL_EN p) && !old.on (F.MAC_CTL_EN p) then (e.clr (F.MAC_CTL_EN p)).macEnable p
          else e).watch = e.watch := by
        split <;> simp [hp]
      dsimp only
      generalize (if e.on (F.MAC_CTL_EN p) && !old.on (F.MAC_CTL_EN p) then (e.clr (F.MAC_CTL_EN p)).macEnable p
          else e) = d at hd
      rw [← hd]
      (repeat' split) <;> simp
    · split <;> simp [List.mem_range.mp hf]
    · split <;> simp [List.mem_range.mp hf]
    · split <;> simp

@[simp] theorem Chip.showSlots_quiet {c₀ c : Chip} (hq : c₀.Quiet c) : c₀.Quiet c.showSlots := by
  unfold Chip.showSlots
  exact (Chip.quiet_onDev _ (by simp)).mpr hq

@[simp] theorem Chip.flashDone_quiet {c₀ c : Chip} (ok : Bool) (hq : c₀.Quiet c) : c₀.Quiet (c.flashDone ok) := by
  unfold Chip.flashDone
  split
  · exact hq
  · dsimp only
    split
    · refine Chip.showSlots_quiet (hq.mk' (by simp) fun h => ?_)
      split
      · exact Mem.saveSlot_wf _ _ _ _ h
      · exact Mem.eraseSlot_wf _ _ h
    · refine Chip.showSlots_quiet (hq.mk' (by simp) fun h => ?_)
      split
      · exact h
      · exact Mem.eraseSlot_wf _ _ h

@[simp] theorem Chip.prepare_quiet {c₀ c : Chip} (w : Who) (size : Nat) (k : Access) (rs : List Ref) (hq : c₀.Quiet c) :
    c₀.Quiet (c.prepare w size k rs).1 := by
  induction rs generalizing c with
  | nil => exact hq
  | cons r rs ih =>
    have hr := Chip.reach_quiet w r.va (if r.bad then 1 else size) k hq
    unfold Chip.prepare
    split
    · next heq => exact hr.of_eq heq
    · next heq =>
      have hc := hr.of_eq heq
      split
      · exact hc
      · have ih := ih hc
        split
        · next heq => exact ih.of_eq heq
        · next heq => exact ih.of_eq heq

@[simp] theorem Chip.loads_quiet {c₀ c : Chip} (x size : Nat) (rs : List Ref) (f : Chip → List Nat → Chip)
    (hf : ∀ (e : Chip) vs, e.Quiet (f e vs)) (hq : c₀.Quiet c) : c₀.Quiet (c.loads x size rs f) := by
  have hp := Chip.prepare_quiet (c.dev.whoCtx x) size .load rs hq
  unfold Chip.loads
  split
  · next heq => simp [hp.of_eq heq]
  · next heq => exact (hp.of_eq heq).trans (hf _ _)

@[simp] theorem Chip.toStore_quiet {c₀ c : Chip} (x size : Nat) (rs : List Ref) (f : Chip → List Place → Chip)
    (hf : ∀ (e : Chip) ps, e.Quiet (f e ps)) (hq : c₀.Quiet c) : c₀.Quiet (c.toStore x size rs f) := by
  have hp := Chip.prepare_quiet (c.dev.whoCtx x) size .store rs hq
  unfold Chip.toStore
  split
  · next heq => simp [hp.of_eq heq]
  · next heq => exact (hp.of_eq heq).trans (hf _ _)

@[simp] theorem Chip.storeAll_quiet {c₀ c : Chip} (x size : Nat) (ps : List Place) (vs : List Nat) (hq : c₀.Quiet c) :
    c₀.Quiet (c.storeAll x size ps vs) := by
  fun_induction Chip.storeAll c x size ps vs with
  | case1 c p ps v vs ih => exact ih (Chip.storeAt_quiet _ _ _ _ hq)
  | case2 => exact hq

@[simp] theorem Chip.modCtx_quiet {c₀ c : Chip} (x : Nat) (f : Ctx → Ctx) (hq : c₀.Quiet c) :
    c₀.Quiet (c.modCtx x f) := by
  simp [Chip.modCtx, hq]

@[simp] theorem Chip.reg_quiet {c₀ c : Chip} (x : Nat) (f : Ctx → Ctx) (hq : c₀.Quiet c) : c₀.Quiet (c.reg x f) := by
  simp [Chip.reg, hq]

@[simp] theorem Chip.writeMac_quiet {c₀ c : Chip} (p o a v : Nat) (hp : p < 4) (hq : c₀.Quiet c) :
    c₀.Quiet (c.writeMac p o a v) := by
  unfold Chip.writeMac
  refine .ite (fun _ => ?_) fun _ => .ite (fun ho => ?_) fun _ => .ite (fun ho => ?_) fun _ => .ite (fun _ => ?_)
    fun _ => .ite (fun _ => ?_) fun _ => ?_
  · have hc : c₀.Quiet (c.onDev fun d => d.setWord a v fun f =>
        f.ty == .rw && f.lo != 0 && !(decide (2 ≤ p) && f.lo == 1)) := by
      refine (Chip.quiet_onDev _ (Dev.setWord_watch _ _ _ _ fun f hf hty => ?_)).mpr hq
      simp [hty] at hf
    exact .ite (fun _ => (Chip.quiet_onDev _ (Dev.macEnable_watch _ _ hp)).mpr hc) fun _ => Chip.macDisable_quiet p
      hp hc
  · exact (Chip.quiet_onDev _ (Dev.rxTail_watch _ _ _ _ (by omega))).mpr hq
  · exact Chip.txTail_quiet _ _ _ (by omega) hq
  · refine (Chip.quiet_onDev _ ?_).mpr hq
    dsimp only
    (repeat' split) <;> simp
  · exact (Chip.quiet_onDev _ (by simp)).mpr hq
  · exact (Chip.quiet_onDev _ (by simp)).mpr hq

@[simp] theorem Chip.writeFlow_quiet {c₀ c : Chip} (a v : Nat) (hq : c₀.Quiet c) : c₀.Quiet (c.writeFlow a v) := by
  unfold Chip.writeFlow
  refine (Chip.quiet_onDev _ ?_).mpr hq
  dsimp only
  split
  · next h =>
    have hf : (a - 1572864) / 128 < 128 := by omega
    split <;> simp [hf]
  · split
    · next h =>
      have hf : (a - 1589248) / 128 < 128 := by omega
      split <;> simp [hf]
    · split <;> simp

@[simp] theorem Chip.writeQm_quiet {c₀ c : Chip} (a v : Nat) (hq : c₀.Quiet c) : c₀.Quiet (c.writeQm a v) := by
  simp [Chip.writeQm, hq]

@[simp] theorem Chip.windowStore_quiet {c₀ c : Chip} (s : Nat) (b : Byte) (hq : c₀.Quiet c) :
    c₀.Quiet (c.windowStore s b) := by
  unfold Chip.windowStore
  split
  · simp [hq]
  · exact hq.mk' rfl (Mem.setByte_wf _ _ _)

@[simp] theorem Chip.windowRead_quiet {c₀ c : Chip} (bank a : Nat) (hq : c₀.Quiet c) :
    c₀.Quiet (c.windowRead bank a).1 := by
  unfold Chip.windowRead
  dsimp only
  (repeat' split) <;> simp [hq]

@[simp] theorem Chip.readOne_quiet {c₀ c : Chip} (bank a : Nat) (hq : c₀.Quiet c) :
    c₀.Quiet (c.readOne bank a).1 := by
  unfold Chip.readOne
  dsimp only
  (repeat' split) <;> simp [hq]

@[simp] theorem Chip.readWords_quiet {c₀ c : Chip} (bank n a : Nat) (hq : c₀.Quiet c) :
    c₀.Quiet (Chip.readWords bank n a c).1 := by
  induction n generalizing c a with
  | zero => exact hq
  | succ n ih => exact ih _ (Chip.readOne_quiet _ _ hq)

theorem Dev.initMac_quiet (d : Dev) (p : Nat) (last : Option OnLine) :
    d.watch.Quiet (d.setMac p { Mac.init with last := last }).watch :=
  d.setMac_quiet p _ (fun _ _ h => nomatch h) fun _ _ hx => absurd hx List.not_mem_nil

theorem Dev.cutLine_quiet (d : Dev) (p : Nat) (last : Option OnLine) :
    d.watch.Quiet (d.modMac p fun m => { m with line := none, last := last }).watch :=
  d.modMac_quiet p _ (fun _ _ h => nomatch h) fun n _ hx => n.path_lt hx

theorem Chip.cutLine_quiet {c₀ c : Chip} (p : Nat) (hp : p < 4) (hq : c₀.Quiet c) :
    c₀.Quiet (match (c.dev.mac p).line with
      | none => c
      | some l =>
        let r := c.dev.fresh
        let c : Chip :=
          { c with dev := r.2.modMac p fun m =>
              { m with line := none, last := some { l with bytes := cutFrame l.bytes r.1 } } }
        match l.desc with
        | some a => c.completeAt p a 5 none
        | none => c) := by
  split
  · exact hq
  · next l hl =>
    dsimp only
    have hc := Chip.Quiet.onDev (fun d => d.modMac p fun m =>
        { m with line := none, last := some { l with bytes := cutFrame l.bytes c.dev.fresh.1 } })
      (hq.dev c.dev.fresh_watch) (Dev.cutLine_quiet _ p _)
    split
    · exact Chip.completeAt_quiet _ _ _ _ hp hc
    · exact hc

@[simp] theorem Chip.resetMac_quiet {c₀ c : Chip} (p : Nat) (hp : p < 4) (hq : c₀.Quiet c) : c₀.Quiet (c.resetMac p)
    := by
  unfold Chip.resetMac
  have hc := Chip.flushTx_quiet p hp (Chip.cutLine_quiet p hp hq)
  refine hc.onDev _ ?_
  dsimp only
  rw [Dev.unitFields_watch]
  refine .trans (.of_eq ?_) (Dev.initMac_quiet _ p _)
  exact Dev.foldl_watch _ _ _ fun _ _ _ => Dev.addRake_watch _ _ _

@[simp] theorem Chip.resetCore_quiet {c₀ c : Chip} (k : Nat) (hq : c₀.Quiet c) : c₀.Quiet (c.resetCore k) := by
  unfold Chip.resetCore
  refine (Chip.quiet_onDev _ (by simp [↓Dev.watch_mk, ↓Watch.of_dev])).mpr (Chip.quiet_foldl _ _ (fun ch hch e => ?_)
    ((Chip.quiet_onDev _ ?_).mpr hq))
  · exact .ite (fun _ => Chip.dmaAbort_quiet _ (.refl e)) fun _ => .refl e
  · dsimp only
    rw [Dev.each_watch _ _ _ fun i _ e => ?_, Dev.unitFields_watch]
    simp only [Dev.setReq_watch, Dev.modCtx_watch]
    rw [Dev.each_watch _ _ _ fun q _ e => Dev.creditNotice_watch e q, Dev.each_watch _ _ _ fun q _ e =>
      Dev.dropBegun_watch e q,
      Dev.each_watch _ _ _ fun n _ e => Dev.abandonOpen_watch e n]
    split
    · exact Dev.flushDmaExc_watch _ _
    · exact Dev.endActions_watch _ _

@[simp] theorem Chip.resetUnit_quiet {c₀ c : Chip} (kind index : Nat) (h : c.dev.unitExists kind index = true)
    (hq : c₀.Quiet c) : c₀.Quiet (c.resetUnit kind index) := by
  unfold Dev.unitExists at h
  unfold Chip.resetUnit
  split
  · have hi : index < 4 := of_decide_eq_true h
    exact Chip.resetMac_quiet index hi hq
  · have hi : index < 128 := of_decide_eq_true h
    exact (Chip.quiet_onDev (fun d => d.resetRx index) (Dev.resetRx_watch _ index hi)).mpr hq
  · have hi : index < 128 := of_decide_eq_true h
    exact (Chip.quiet_onDev (fun d => d.resetTx index) (Dev.resetTx_watch _ index hi)).mpr hq
  · exact Chip.resetCore_quiet _ hq
  · exact (Chip.quiet_onDev (fun d => d.resetPort index) (Dev.resetPort_watch _ _)).mpr hq
  · exact (Chip.quiet_onDev (fun d => d.resetGang index) (Dev.resetGang_watch _ _)).mpr hq
  · exact (Chip.quiet_onDev (fun d => d.resetBst index) (Dev.resetBst_watch _ _)).mpr hq
  · exact Chip.ripenAll_quiet ((Chip.quiet_onDev (fun d => d.resetTeu index) (Dev.resetTeu_watch _ _)).mpr hq)
  · exact hq

@[simp] theorem Chip.unitReset_quiet {c₀ c : Chip} (kind index : Nat) (hq : c₀.Quiet c) :
    c₀.Quiet (c.unitReset kind index) := by
  have hc : c₀.Quiet (c.onDev fun d => d.modJtag fun j => { j with ir := .unitReset, kind := kind, index := index }) :=
    (Chip.quiet_onDev _ (Dev.modJtag_watch _ _)).mpr hq
  unfold Chip.unitReset
  dsimp only
  split
  · next h => exact (Chip.quiet_onDev _ (Dev.modJtag_watch _ _)).mpr (Chip.resetUnit_quiet _ _ h hc)
  · exact (Chip.quiet_onDev _ (Dev.modJtag_watch _ _)).mpr hc

@[simp] theorem Chip.formRead_quiet {c₀ c : Chip} (r w : Nat) (hq : c₀.Quiet c) : c₀.Quiet (c.formRead r w) := by
  unfold Chip.formRead
  dsimp only
  (repeat' split) <;> simp [hq]

@[simp] theorem Chip.pushG_quiet {c₀ c : Chip} (x : Nat) (e : Bool) (kk : Nat) (rt rq : BitVec 5) (qimm : BitVec 11)
    (hq : c₀.Quiet c) :
    c₀.Quiet (c.pushG x e kk rt rq qimm) := by
  simp [Chip.pushG, hq]

@[simp] theorem Chip.firb_quiet {c₀ c : Chip} (x : Nat) (ad pc px : BitVec 3) (gn : BitVec 5) (h : Bool)
    (hq : c₀.Quiet c) : c₀.Quiet (c.firb x ad pc px gn h) := by
  unfold Chip.firb
  dsimp only
  split
  · simp [hq]
  · exact Chip.loads_quiet _ _ _ _ (fun e _ => Chip.loads_quiet _ _ _ _ (fun e _ => by simp) (.refl e)) hq

@[simp] theorem Chip.biq_quiet {c₀ c : Chip} (x : Nat) (vw : BitVec 4) (px pc ps : BitVec 3) (gn gs : BitVec 5)
    (hq : c₀.Quiet c) : c₀.Quiet (c.biq x vw px pc ps gn gs) := by
  unfold Chip.biq
  dsimp only
  split
  · simp [hq]
  · refine Chip.loads_quiet _ _ _ _ (fun e _ => Chip.loads_quiet _ _ _ _ (fun e _ =>
      Chip.loads_quiet _ _ _ _ (fun e _ => Chip.toStore_quiet _ _ _ _ (fun e _ =>
        Chip.toStore_quiet _ _ _ _ (fun e _ =>
          Chip.modCtx_quiet _ _ (Chip.storeAll_quiet _ _ _ _ (Chip.storeAll_quiet _ _ _ _ (.refl e)))) (.refl e))
            (.refl e)) (.refl e)) (.refl e)) hq

theorem mixTake_watch (x q : Nat) (first l mute : Bool) (gain : Int) (cl n j : Nat) (st : MixSt) :
    (mixTake x q first l mute gain cl n j st).dev.watch = st.dev.watch := by
  induction n generalizing j st with
  | zero => rfl
  | succ n ih =>
    have hpop : (st.dev.ctxPop x q).1.watch = st.dev.watch := Dev.ctxPop_watch _ _ _
    have hacc (b : Bool) (f : Ctx → Ctx) : (if b then (st.dev.ctxPop x q).1.modCtx x f else (st.dev.ctxPop x
      q).1).watch =
        st.dev.watch := by
      cases b
      · exact hpop
      · exact (Dev.modCtx_watch _ _ _).trans hpop
    unfold mixTake
    dsimp only
    split
    · rfl
    · split
      · split <;> exact hpop
      · split
        · exact hacc _ _
        · exact (ih _ _).trans (hacc _ _)

theorem mixDiscard_watch (x q n : Nat) (d : Dev) : (mixDiscard x q n d).1.watch = d.watch := by
  induction n generalizing d with
  | zero => rfl
  | succ n ih =>
    unfold mixDiscard
    dsimp only
    split
    · exact (ih _).trans (Dev.ctxPop_watch _ _ _)
    · exact Dev.ctxPop_watch _ _ _

@[simp] theorem Chip.mix_quiet {c₀ c : Chip} (x : Nat) (vd : BitVec 4) (pt : BitVec 3) (gn : BitVec 5) (m : Nat) (l
    : Bool) (hq : c₀.Quiet c) :
    c₀.Quiet (c.mix x vd pt gn m l) := by
  unfold Chip.mix
  refine .ite (fun _ => Chip.modCtx_quiet _ _ hq) fun _ => Chip.loads_quiet _ _ _ _ (fun e es =>
    Chip.toStore_quiet _ _ _ _ (fun e ps => ?_) (.refl e)) hq
  dsimp only
  have hd (c' : Chip) (f g : Ctx → Ctx) (p : Prop) [Decidable p] (vs : List Nat) (h : e.Quiet c') :
      e.Quiet (if p then c'.modCtx x f else (c'.storeAll x 4 ps vs).modCtx x g) :=
    .ite (fun _ => Chip.modCtx_quiet _ _ h) fun _ => Chip.modCtx_quiet _ _ (Chip.storeAll_quiet _ _ _ _ h)
  refine hd _ _ _ _ _ ((Chip.Quiet.refl e).dev ?_)
  split
  · exact mixDiscard_watch _ _ _ _
  · exact (mixTake_watch _ _ _ _ _ _ _ _ _ _).trans (Dev.modCtx_watch _ _ _)

@[simp] theorem Chip.ramp_quiet {c₀ c : Chip} (x : Nat) (pd ak : BitVec 3) (gs gn : BitVec 5) (hq : c₀.Quiet c) :
    c₀.Quiet (c.ramp x pd ak gs gn) := by
  unfold Chip.ramp
  dsimp only
  split
  · simp [hq]
  · exact Chip.loads_quiet _ _ _ _ (fun e _ => Chip.toStore_quiet _ _ _ _ (fun e _ => by simp) (.refl e)) hq

@[simp] theorem Chip.dlyWrite_quiet {c₀ c : Chip} (x : Nat) (pl pb : BitVec 3) (gn : BitVec 5) (compact : Bool)
    (hq : c₀.Quiet c) : c₀.Quiet (c.dlyWrite x pl pb gn compact) := by
  unfold Chip.dlyWrite
  dsimp only
  split
  · simp [hq]
  · split
    · simp [hq]
    · refine Chip.loads_quiet _ _ _ _ (fun e _ => ?_) hq
      split
      · exact Chip.toStore_quiet _ _ _ _ (fun e _ => by simp) (.refl e)
      · exact Chip.toStore_quiet _ _ _ _ (fun e _ => by simp) (.refl e)

@[simp] theorem Chip.dlyRead_quiet {c₀ c : Chip} (x : Nat) (pl pb : BitVec 3) (gn gd : BitVec 5) (compact : Bool)
    (hq : c₀.Quiet c) : c₀.Quiet (c.dlyRead x pl pb gn gd compact) := by
  unfold Chip.dlyRead
  dsimp only
  split
  · simp [hq]
  · split
    · simp [hq]
    · split
      · exact Chip.loads_quiet _ _ _ _ (fun e _ => Chip.toStore_quiet _ _ _ _ (fun e _ => by simp) (.refl e)) hq
      · exact Chip.loads_quiet _ _ _ _ (fun e _ => Chip.toStore_quiet _ _ _ _ (fun e _ => by simp) (.refl e)) hq

@[simp] theorem Chip.load_quiet {c₀ c : Chip} (x size : Nat) (rd rs : BitVec 5) (imm : BitVec 16) (f : Nat → Nat)
    (hq : c₀.Quiet c) : c₀.Quiet (c.load x size rd rs imm f) :=
  Chip.issue_quiet _ _ (fun e => Chip.loads_quiet _ _ _ _ (fun e _ => by simp) (.refl e)) hq

@[simp] theorem Chip.storeG_quiet {c₀ c : Chip} (x size : Nat) (rt rs : BitVec 5) (imm : BitVec 16) (hq : c₀.Quiet c) :
    c₀.Quiet (c.storeG x size rt rs imm) :=
  Chip.issue_quiet _ _ (fun e => Chip.toStore_quiet _ _ _ _ (fun e _ => by simp) (.refl e)) hq

end Sys2Proof.Machine
end

section
/-! SUPPORT. The device's operations that move the status: pending invalidations, the baton and the permit, Laminate's
state (R220, R375, R394, R395, R399). -/

namespace Sys2Proof.Machine

/-- What `StatusTrue` says, of a status (R220, R375, R394, R395, R399). -/
structure Status.Right (s : Status) : Prop where
  twin  : s.mode = 1 → (s.permit = 1 ↔ s.state = 2)
  inv   : s.invBusy = 1 ↔ s.inv ≠ []
  busy  : s.busy = 1 → s.lam = 2
  drain : s.drain ≠ none → s.lam = 5

section
variable {s : Status}

/-- The twin fields move to values that agree. -/
theorem Status.Right.setTwin (h : s.Right) {m t p : Nat} (ht : m = 1 → (p = 1 ↔ t = 2)) :
    Status.Right { s with mode := m, state := t, permit := p } := ⟨ht, h.inv, h.busy, h.drain⟩

/-- Away from ACTIVE the permit is away in twin mode. -/
theorem Status.Right.setState (h : s.Right) {t : Nat} (hs : s.state ≠ 2) (ht : t ≠ 2) :
    Status.Right { s with state := t } :=
  h.setTwin fun hm => (h.twin hm).trans ⟨fun e => absurd e hs, fun e => absurd e ht⟩

theorem Status.Right.setInv (h : s.Right) {b : Nat} {l : List InvReq} (hb : b = 1 ↔ l ≠ []) :
    Status.Right { s with invBusy := b, inv := l } := ⟨h.twin, hb, h.busy, h.drain⟩

theorem Status.Right.setLam (h : s.Right) {l b : Nat} {d : Option Nat} (hb : b = 1 → l = 2) (hd : d ≠ none → l = 5) :
    Status.Right { s with lam := l, busy := b, drain := d } := ⟨h.twin, h.inv, hb, hd⟩

/-- Out of DRAINING no drain runs, and out of LOADED no check does. -/
theorem Status.Right.drain_none (h : s.Right) (hl : s.lam ≠ 5) : s.drain = none :=
  Decidable.byContradiction fun hn => hl (h.drain hn)

theorem Status.Right.busy_ne (h : s.Right) (hl : s.lam ≠ 2) : s.busy ≠ 1 := fun hb => hl (h.busy hb)

/-- LAM.STATUS.STATE moves from a state that is neither LOADED nor DRAINING. -/
theorem Status.Right.setState_lam (h : s.Right) {l : Nat} (h2 : s.lam ≠ 2) (h5 : s.lam ≠ 5) :
    Status.Right { s with lam := l } :=
  h.setLam (fun hb => absurd hb (h.busy_ne h2)) fun hd => absurd (h.drain_none h5) hd

end

/-- From a watch whose frames are named well to another such; and where the status told the truth, it does. -/
structure Watch.Leads (w w' : Watch) : Prop where
  named : w.Named → w'.Named
  right : w.Named → w.status.Right → w'.status.Right

theorem Watch.Leads.refl (w : Watch) : w.Leads w := ⟨id, fun _ => id⟩

theorem Watch.Leads.trans {w w' w'' : Watch} (h : w.Leads w') (h' : w'.Leads w'') : w.Leads w'' :=
  ⟨fun n => h'.named (h.named n), fun n r => h'.right (h.named n) (h.right n r)⟩

theorem Watch.Quiet.leads {w w' : Watch} (h : w.Quiet w') : w.Leads w' :=
  ⟨h.named, fun n r => (h.status n).symm ▸ r⟩

theorem Watch.Leads.of_eq {w w' : Watch} (h : w' = w) : w.Leads w' := h ▸ .refl w

/-- A change of the status alone. -/
theorem Watch.Leads.of_status {w : Watch} {s : Status} (h : w.status.Right → s.Right) : w.Leads
    { w with status := s } :=
  ⟨fun n => ⟨n.line, n.sixes, n.ingress⟩, fun _ => h⟩

theorem Watch.Leads.ite_dev {w : Watch} {a b : Dev} {p : Prop} [Decidable p] (ha : p → w.Leads a.watch)
    (hb : ¬p → w.Leads b.watch) : w.Leads (if p then a else b).watch := by
  split
  · next hp => exact ha hp
  · next hp => exact hb hp

/-- A device after quiet changes, and what it leads to. -/
theorem Watch.Leads.after {w : Watch} {d e : Dev} (h : d.watch = w) (hl : d.watch.Leads e.watch) : w.Leads e.watch
    := h ▸ hl

/-- What it led to, after quiet changes. -/
theorem Watch.Leads.then {w : Watch} {d e : Dev} (hl : w.Leads d.watch) (h : e.watch = d.watch) : w.Leads e.watch :=
  h ▸ hl

section
variable (d : Dev)

theorem Dev.tstate_eq : d.tstate = d.watch.status.state := rfl

theorem Dev.twinMode_eq : d.twinMode = (d.watch.status.mode == 1) := rfl
theorem Dev.permit_eq : d.on F.TWIN_STATUS_PERMIT = (d.watch.status.permit == 1) := rfl
theorem Dev.lstate_eq : d.lstate = d.watch.status.lam := rfl

/-- A register that is written, and one that is not, by their keys. -/
theorem Dev.get_wr (f : Fld) (v k : Nat) : Sparse.get fieldReset (d.wr f v).regs k =
    if k = f.id then v % 2 ^ f.width else Sparse.get fieldReset d.regs k := Sparse.get_set _ _ _ _ _

theorem Dev.wr_watch_of (f : Fld) (v : Nat) : (d.wr f v).watch = Watch.of (d.wr f v).regs d.inv d.net d.sys := rfl

@[simp] theorem Dev.wr_twinState_watch (v : Nat) : (d.wr F.TWIN_STATUS_STATE v).watch =
    { d.watch with status := { d.watch.status with state := v % 8 } } := by
  rw [Dev.wr_watch_of]
  simp only [Watch.of, Dev.get_wr]
  simp [F.TWIN_CFG_MODE, F.TWIN_CFG, F.TWIN_STATUS_STATE, F.TWIN_STATUS, F.TWIN_STATUS_PERMIT, F.MMU_INV_BUSY,
    F.MMU_INV,
    F.LAM_STATUS_STATE, F.LAM_STATUS, F.LAM_STATUS_BUSY, Fld.id, Dev.watch, Watch.of]

@[simp] theorem Dev.wr_permit_watch (v : Nat) : (d.wr F.TWIN_STATUS_PERMIT v).watch =
    { d.watch with status := { d.watch.status with permit := v % 2 } } := by
  rw [Dev.wr_watch_of]
  simp only [Watch.of, Dev.get_wr]
  simp [F.TWIN_CFG_MODE, F.TWIN_CFG, F.TWIN_STATUS_STATE, F.TWIN_STATUS, F.TWIN_STATUS_PERMIT, F.MMU_INV_BUSY,
    F.MMU_INV,
    F.LAM_STATUS_STATE, F.LAM_STATUS, F.LAM_STATUS_BUSY, Fld.id, Dev.watch, Watch.of]

@[simp] theorem Dev.wr_invBusy_watch (v : Nat) : (d.wr F.MMU_INV_BUSY v).watch =
    { d.watch with status := { d.watch.status with invBusy := v % 2 } } := by
  rw [Dev.wr_watch_of]
  simp only [Watch.of, Dev.get_wr]
  simp [F.TWIN_CFG_MODE, F.TWIN_CFG, F.TWIN_STATUS_STATE, F.TWIN_STATUS, F.TWIN_STATUS_PERMIT, F.MMU_INV_BUSY,
    F.MMU_INV,
    F.LAM_STATUS_STATE, F.LAM_STATUS, F.LAM_STATUS_BUSY, Fld.id, Dev.watch, Watch.of]

@[simp] theorem Dev.wr_lam_watch (v : Nat) : (d.wr F.LAM_STATUS_STATE v).watch =
    { d.watch with status := { d.watch.status with lam := v % 8 } } := by
  rw [Dev.wr_watch_of]
  simp only [Watch.of, Dev.get_wr]
  simp [F.TWIN_CFG_MODE, F.TWIN_CFG, F.TWIN_STATUS_STATE, F.TWIN_STATUS, F.TWIN_STATUS_PERMIT, F.MMU_INV_BUSY,
    F.MMU_INV,
    F.LAM_STATUS_STATE, F.LAM_STATUS, F.LAM_STATUS_BUSY, Fld.id, Dev.watch, Watch.of]

@[simp] theorem Dev.wr_lamBusy_watch (v : Nat) : (d.wr F.LAM_STATUS_BUSY v).watch =
    { d.watch with status := { d.watch.status with busy := v % 2 } } := by
  rw [Dev.wr_watch_of]
  simp only [Watch.of, Dev.get_wr]
  simp [F.TWIN_CFG_MODE, F.TWIN_CFG, F.TWIN_STATUS_STATE, F.TWIN_STATUS, F.TWIN_STATUS_PERMIT, F.MMU_INV_BUSY,
    F.MMU_INV,
    F.LAM_STATUS_STATE, F.LAM_STATUS, F.LAM_STATUS_BUSY, Fld.id, Dev.watch, Watch.of]

@[simp] theorem Dev.setInv_watch (l : List InvReq) : ({ d with inv := l } : Dev).watch =
    { d.watch with status := { d.watch.status with inv := l } } := (rfl)

/-- A change of LAM's state, by what it does to the drain. -/
theorem Dev.modLam_drain_watch (f : Lam → Lam) : (d.modLam f).watch =
    { d.watch with status := { d.watch.status with drain := (f d.sys.lam).drain } } := (rfl)

@[simp] theorem Dev.lamTo_watch (s : Nat) : (d.lamTo s).watch =
    { d.watch with status := { d.watch.status with lam := s % 8 } } := d.wr_lam_watch s

@[simp] theorem Dev.set_invBusy_watch : (d.set F.MMU_INV_BUSY).watch =
    { d.watch with status := { d.watch.status with invBusy := 1 } } := d.wr_invBusy_watch 1

@[simp] theorem Dev.clr_invBusy_watch : (d.clr F.MMU_INV_BUSY).watch =
    { d.watch with status := { d.watch.status with invBusy := 0 } } := d.wr_invBusy_watch 0

@[simp] theorem Dev.set_lamBusy_watch : (d.set F.LAM_STATUS_BUSY).watch =
    { d.watch with status := { d.watch.status with busy := 1 } } := d.wr_lamBusy_watch 1

@[simp] theorem Dev.clr_lamBusy_watch : (d.clr F.LAM_STATUS_BUSY).watch =
    { d.watch with status := { d.watch.status with busy := 0 } } := d.wr_lamBusy_watch 0

end
/-! ### Pending invalidations (R220) -/

theorem Dev.invStart_leads (d : Dev) (op asid va : Nat) (waiter : Option Nat) :
    d.watch.Leads (d.invStart op asid va waiter).watch := by
  have e : (d.invStart op asid va waiter).watch = { d.watch with status := { d.watch.status with
      invBusy := 1
      inv := d.inv ++ [⟨op, asid, va, waiter.map fun x => (x, d.generation 4 (x / 4))⟩] } } := by
    rw [Dev.invStart, Dev.setInv_watch, Dev.set_invBusy_watch]
  rw [e]
  exact .of_status fun r => r.setInv (by simp)

theorem Dev.invGo_leads (d : Dev) : d.watch.Leads d.invGo.watch := by
  unfold Dev.invGo
  split
  · exact .of_eq (by simp)
  · split
    · exact .refl _
    · exact d.invStart_leads _ _ _ _

theorem Dev.invDone_leads (d : Dev) : d.watch.Leads d.invDone.watch := by
  unfold Dev.invDone
  split
  · exact .refl _
  · next i is hi =>
    have e : ((({ d.each (List.range 17) (fun d n => d.setTlb n ((d.tlb n).filter (fun e => !i.hits e))) with
        inv := is } : Dev).wr F.MMU_INV_BUSY (bit (decide (is ≠ [])))).set F.MMU_EVENTS_INV_DONE).watch =
        { d.watch with status := { d.watch.status with invBusy := bit (decide (is ≠ [])) % 2, inv := is } } := by
      rw [Dev.set_watch _ _ (by simp), Dev.wr_invBusy_watch, Dev.setInv_watch, Dev.each_watch _ _ _ fun _ _ _ =>
        Dev.setTlb_watch _ _ _]
    have h : d.watch.Leads { d.watch with status :=
        { d.watch.status with invBusy := bit (decide (is ≠ [])) % 2, inv := is } } := by
      refine .of_status fun r => r.setInv ?_
      by_cases his : is = [] <;> simp [his, bit]
    rw [← e] at h
    dsimp only
    split
    · exact h
    · split
      · exact h.trans (.of_eq (Dev.setCtx_watch _ _ _))
      · exact h

/-! ### The baton and the permit (R373 to R380) -/

@[simp] theorem Dev.setPermit_watch (d : Dev) (b : Bool) : (d.setPermit b).watch =
    { d.watch with status := { d.watch.status with permit := bit b % 2 } } := by
  rw [Dev.setPermit, Dev.wr_watch _ _ _ (by simp), Dev.wr_permit_watch]

@[simp] theorem Dev.gain_watch (d : Dev) (edge : Option Nat) : (d.gain edge).watch =
    { d.watch with status := { d.watch.status with permit := 1 } } := by
  simp [Dev.gain, bit]

@[simp] theorem Dev.take_watch (d : Dev) (edge : Option Nat) : (d.take edge).watch =
    { d.watch with status := { d.watch.status with state := 2, permit := 1 } } := by
  simp [Dev.take, tActive]

theorem Dev.take_leads (d : Dev) (edge : Option Nat) : d.watch.Leads (d.take edge).watch := by
  rw [Dev.take_watch]
  exact .of_status fun r => r.setTwin fun _ => ⟨fun _ => rfl, fun _ => rfl⟩

/-- Class 6 gives up its frames, or keeps them (R378). -/
theorem Dev.withholdSix_quiet (d : Dev) : d.watch.Quiet d.withholdSix.watch := by
  have hall (l : List Nat) (e : Dev) : e.watch.Quiet (e.each l fun d p =>
      (d.bump (F.TWIN_CNT_COUNT 7) (d.mac p).c6.length).modMac p fun m =>
        { m with c6 := [], ripe := m.ripe.filter (· != 6) }).watch := by
    induction l generalizing e with
    | nil => exact .refl _
    | cons p l ih =>
      refine .trans (.trans (.of_eq (Dev.bump_watch e (F.TWIN_CNT_COUNT 7) (e.mac p).c6.length (by simp))) ?_) (ih _)
      exact Dev.modMac_quiet _ p _ (fun n _ hl => n.cls_lt hl) fun _ _ hx => absurd hx List.not_mem_nil
  unfold Dev.withholdSix
  split
  · exact .refl _
  · exact hall _ _

theorem Dev.giveUp_watch (d : Dev) : d.giveUp.watch =
    { d.withholdSix.watch with status := { d.withholdSix.watch.status with permit := 0 } } := by
  simp [Dev.giveUp, bit]

/-- A permit given up outside twin mode. -/
theorem Dev.giveUp_leads (d : Dev) (h : d.twinMode = false) : d.watch.Leads d.giveUp.watch := by
  have hm : d.watch.status.mode ≠ 1 := by simpa [Dev.twinMode_eq] using h
  rw [Dev.giveUp_watch]
  refine ⟨fun n => ?_, fun n r => ?_⟩
  · have n' := d.withholdSix_quiet.named n
    exact ⟨n'.line, n'.sixes, n'.ingress⟩
  · rw [d.withholdSix_quiet.status n]
    exact r.setTwin fun e => absurd e hm

/-- A permit gained outside twin mode. -/
theorem Dev.gain_leads (d : Dev) (edge : Option Nat) (h : d.twinMode = false) : d.watch.Leads (d.gain edge).watch := by
  have hm : d.watch.status.mode ≠ 1 := by simpa [Dev.twinMode_eq] using h
  rw [Dev.gain_watch]
  exact .of_status fun r => r.setTwin fun e => absurd e hm

/-- TWIN.STATUS.STATE moves between two states that are not ACTIVE. -/
theorem Dev.wr_state_leads (d : Dev) (t : Nat) (hs : d.tstate ≠ 2) (ht : t % 8 ≠ 2) :
    d.watch.Leads (d.wr F.TWIN_STATUS_STATE t).watch := by
  rw [Dev.wr_twinState_watch]
  exact .of_status fun r => r.setState hs ht

theorem Dev.releaseTo_leads (d : Dev) (s : Nat) (hs : s % 8 ≠ 2) : d.watch.Leads (d.releaseTo s).watch := by
  rw [Dev.releaseTo, Dev.wr_twinState_watch, Dev.giveUp_watch]
  exact d.withholdSix_quiet.leads.trans (.of_status fun r => r.setTwin fun _ =>
    ⟨fun e => absurd e Nat.zero_ne_one, fun e => absurd e hs⟩)

theorem Dev.soloCheck_leads (d : Dev) : d.watch.Leads d.soloCheck.watch := by
  unfold Dev.soloCheck
  split
  · next h => exact d.gain_leads none (by simp [Dev.twinMode, h.1])
  · exact .refl _

theorem Dev.dualHold_leads (d : Dev) : d.watch.Leads d.dualHold.watch := by
  unfold Dev.dualHold
  dsimp only
  split
  · exact .then (.after (d := d.set F.TWIN_EVENTS_DUAL_HOLD) (by simp) (Dev.releaseTo_leads _ tInit (by decide)))
      (by simp)
  · exact .of_eq (by simp)

theorem Dev.hbEdge_leads (d : Dev) (stamp : Nat) (level : Bool) : d.watch.Leads (d.hbEdge stamp level).watch := by
  unfold Dev.hbEdge
  split
  · exact .refl _
  · dsimp only
    split
    · exact .ite_dev (fun _ => .after (Dev.modTwin_watch _ _) (Dev.dualHold_leads _)) fun _ => .of_eq
        (Dev.modTwin_watch _ _)
    · exact .of_eq (Dev.modTwin_watch _ _)

theorem Dev.forceTake_leads (d : Dev) (edge : Nat) : d.watch.Leads (d.forceTake edge).watch := by
  unfold Dev.forceTake
  split
  · next h =>
    have hm : d.twinMode = false := by simpa using h
    split
    · exact .refl _
    · split
      · exact .of_eq (by simp)
      · split
        · exact .after (Dev.modTwin_watch _ _) (Dev.gain_leads _ _ hm)
        · exact .refl _
  · split
    · exact .refl _
    · have hc : (d.clr F.TWIN_STATUS_INHIBIT).watch = d.watch := by simp
      dsimp only
      split
      · exact .of_eq (by simp)
      · split
        · exact .after hc (Dev.take_leads _ _)
        · exact .of_eq (by simp)

theorem Dev.batonConfirmed_leads (d : Dev) (since : Nat) : d.watch.Leads (d.batonConfirmed since).watch := by
  unfold Dev.batonConfirmed
  split
  · exact .refl _
  · have hc : ((d.batonSeen since).modTwin fun t => { t with confirmed := true }).watch = d.watch := by simp
    dsimp only
    generalize ((d.batonSeen since).modTwin fun t => { t with confirmed := true }) = e at hc
    split
    · exact .of_eq hc
    · split
      · next h =>
        refine .then (.after hc (Dev.wr_state_leads e tConfirm ?_ (by decide))) (Dev.modTwin_watch _ _)
        rcases h with h | h <;> rw [h] <;> decide
      · split
        · exact .after hc (Dev.take_leads _ _)
        · exact .of_eq hc

theorem Dev.batonFalls_leads (d : Dev) : d.watch.Leads d.batonFalls.watch := by
  have hc (f : Twin → Twin) : ((d.clr F.TWIN_STATUS_BATON).modTwin f).watch = d.watch := by simp
  unfold Dev.batonFalls
  refine .ite_dev (fun h => .after (hc _) (Dev.wr_state_leads _ tStandby ?_ (by decide))) fun _ => .of_eq (hc _)
  simp only [Bool.and_eq_true, beq_iff_eq] at h
  rw [h.2]
  decide

theorem Dev.batonLost_leads (d : Dev) : d.watch.Leads d.batonLost.watch := by
  unfold Dev.batonLost
  split
  · exact .then (d.releaseTo_leads tInit (by decide)) (by simp)
  · exact .refl _

theorem Dev.initialClaim_leads (d : Dev) (edge : Nat) : d.watch.Leads (d.initialClaim edge).watch :=
  .ite_dev (fun _ => d.take_leads _) fun _ => .refl _

theorem Dev.claimTimeout_leads (d : Dev) : d.watch.Leads d.claimTimeout.watch := by
  unfold Dev.claimTimeout
  split
  · next h =>
    simp only [Bool.and_eq_true, beq_iff_eq] at h
    obtain ⟨⟨_, hs⟩, _⟩ := h
    exact .then (d.wr_state_leads tStandby (by rw [hs]; decide) (by decide)) (by simp)
  · exact .refl _

theorem Dev.holderYield_leads (d : Dev) : d.watch.Leads d.holderYield.watch := by
  unfold Dev.holderYield
  split
  · exact .then (d.releaseTo_leads tInit (by decide)) (by simp)
  · exact .refl _

theorem Dev.watchdog_leads (d : Dev) : d.watch.Leads d.watchdog.watch := by
  unfold Dev.watchdog
  split
  · exact .refl _
  · have hc : ((d.set F.TWIN_EVENTS_WDOG).twinCount 4).watch = d.watch := by simp
    dsimp only
    generalize (d.set F.TWIN_EVENTS_WDOG).twinCount 4 = e at hc
    split
    · exact .then (.after hc (e.releaseTo_leads tInit (by decide))) (by simp)
    · next h => exact .then (.after hc (e.giveUp_leads (by simpa using h))) (Dev.modTwin_watch _ _)

theorem Dev.forceRelease_leads (d : Dev) : d.watch.Leads d.forceRelease.watch := by
  unfold Dev.forceRelease
  split
  · next h =>
    split
    · exact .then (d.giveUp_leads (by simpa using h)) (Dev.modTwin_watch _ _)
    · exact .refl _
  · split
    · exact .then (d.releaseTo_leads tInit (by decide)) (by simp)
    · exact .refl _

theorem Dev.handoverRelease_leads (d : Dev) : d.watch.Leads d.handoverRelease.watch := by
  unfold Dev.handoverRelease
  split
  · split
    · dsimp only
      rw [Dev.fitCheck_watch, Dev.freshHb_watch]
      exact .after (Dev.modTwin_watch d _) (Dev.releaseTo_leads _ tStandby (by decide))
    · exact .refl _
  · exact .refl _

theorem Dev.carrierStart_leads (d : Dev) (g : Nat) (bits : List Bool) (late : Bool) (edge : Nat) (errs : List Nat) :
    d.watch.Leads (d.carrierStart g bits late edge errs).watch := by
  have hend (e : Dev) : ((((e.startPins g edge).hbToggle g).hbExpect g edge).loopErrors errs).fitCheck.watch =
    e.watch := by
    simp
  have hrel (e : Dev) (h : e.watch = d.watch) : d.watch.Leads (if g = 0 then e.handoverRelease else e).watch :=
    .ite_dev (fun _ => .after h e.handoverRelease_leads) fun _ => .of_eq h
  unfold Dev.carrierStart
  refine .then (hrel _ ?_) (hend _)
  rw [Dev.watch_ite, Dev.setBst_watch, ite_self, Dev.carrierCycle_watch, Dev.setBst_watch, Dev.correct_watch,
    Dev.railBits_watch]

theorem Watch.Leads.when {w : Watch} {d : Dev} {b : Bool} {f : Dev → Dev} (h : w.Leads d.watch)
    (hf : d.watch.Leads (f d).watch) : w.Leads (d.when b f).watch :=
  .ite_dev (fun _ => h.trans hf) fun _ => h

theorem Dev.forceWrite_leads (d : Dev) (v : Nat) : d.watch.Leads (d.forceWrite v).watch := by
  unfold Dev.forceWrite
  dsimp only
  refine .when (.when (.ite_dev (fun _ => .after d.fresh_watch (Dev.forceTake_leads _ _)) fun _ => .refl _)
    (Dev.forceRelease_leads _)) (.of_eq (Dev.forceHandover_watch _))

/-- A standby, a confirming or a claiming chip is not ACTIVE. -/
theorem Dev.tstate_of_isStandby {d : Dev} (h : d.isStandby = true) : d.tstate ≠ 2 := by
  simp only [Dev.isStandby, Bool.and_eq_true, Bool.or_eq_true, beq_iff_eq] at h
  rcases h.2 with (h | h) | h <;> rw [h] <;> decide

/-- What the standby does at a deadline, once it has counted a hit or a miss (R376, R377). -/
theorem Dev.deadlineMoves_leads (d : Dev) (at_ : Nat) (hs : d.tstate ≠ 2) (hit : Bool) (p q : Prop) [Decidable p]
    [Decidable q] (f g : Twin → Twin) : d.watch.Leads (if d.tstate = tConfirm then
      if hit then (d.wr F.TWIN_STATUS_STATE tStandby).set F.TWIN_EVENTS_BATON_FAULT
      else if p then d.take (some (at_ + 8))
      else (d.wr F.TWIN_STATUS_STATE tStandby).set F.TWIN_EVENTS_TAKE_BLOCKED
    else if d.tstate = tClaiming then
      if hit then (d.wr F.TWIN_STATUS_STATE tStandby).modTwin f else d
    else if q then
      (((d.wr F.TWIN_STATUS_STATE tClaiming).set F.TWIN_EVENTS_CLAIM_SENT).twinCount 3).modTwin g
    else d).watch := by
  have hst := d.wr_state_leads tStandby hs (by decide)
  have hcl := d.wr_state_leads tClaiming hs (by decide)
  refine .ite_dev (fun _ => .ite_dev (fun _ => hst.then (by simp)) fun _ => .ite_dev (fun _ => d.take_leads _)
    fun _ => hst.then (by simp)) fun _ => .ite_dev (fun _ => .ite_dev (fun _ => hst.then (by simp)) fun _ => .refl _)
      fun _ => .ite_dev (fun _ => hcl.then (by simp)) fun _ => .refl _

theorem Dev.hbDeadline_leads (d : Dev) (at_ : Nat) : d.watch.Leads (d.hbDeadline at_).watch := by
  unfold Dev.hbDeadline
  refine .ite_dev (fun _ => .refl _) fun h => ?_
  have hs : d.tstate ≠ 2 := by
    refine Dev.tstate_of_isStandby ?_
    simp only [Bool.or_eq_true, Bool.not_eq_true', not_or, Bool.not_eq_false] at h
    exact h.1
  have hc (f : Twin → Twin) (v : Nat) (p q : Bool) : (((((d.modTwin f).wr F.TWIN_STATUS_HB_OK v).when p
      (·.twinCount 2)).when q (·.set F.TWIN_EVENTS_HB_LOST)).fitCheck).watch = d.watch := by simp
  refine .after (hc _ _ _ _) (Dev.deadlineMoves_leads _ at_ ?_ _ _ _ _ _)
  rw [Dev.tstate_eq, hc]
  exact hs

/-- What a STATE word from a holder makes of TWIN.STATUS.STATE (R369, R376). -/
theorem Dev.holderSeen_leads (d : Dev) (holder : Bool) (f : Twin → Twin) : d.watch.Leads
    (if d.tstate = tActive ∧ holder then d.dualHold
      else if d.tstate = tInit ∧ holder then
        let d := d.wr F.TWIN_STATUS_STATE tStandby
        let d := (d.freshHb).modTwin f
        if d.on F.TWIN_CFG_AUTO_JOIN then d.joinStart else d
      else d).watch := by
  refine .ite_dev (fun _ => d.dualHold_leads) fun _ => .ite_dev (fun h => ?_) fun _ => .refl _
  have hst := d.wr_state_leads tStandby (by rw [h.1]; decide) (by decide)
  exact .ite_dev (fun _ => hst.then (by simp)) fun _ => hst.then (by simp)

theorem Dev.stateReceive_leads (d : Dev) (ws : List Nat) : d.watch.Leads (d.stateReceive ws).watch := by
  unfold Dev.stateReceive
  refine .ite_dev (fun _ => .refl _) fun _ => .ite_dev (fun _ => .of_eq (by simp)) fun _ => .ite_dev (fun _ => .refl _)
    fun _ => ?_
  have hc (f : Twin → Twin) (a b c e : Nat) : ((d.wrs [(F.TWIN_VERSION_PARTNER, a), (F.TWIN_STATUS_PARTNER_HOLDER, b),
      (F.TWIN_STATUS_PARTNER_FIT, c), (F.TWIN_STATUS_ROLE_CLASH, e)]).modTwin f).watch = d.watch := by simp
  dsimp only
  rw [Dev.fitCheck_watch]
  have hev (l : List Nat) (f : Dev → Nat → Bst) (e : Dev) : (e.each l fun d g => d.setBst g (f d g)).watch = e.watch :=
    Dev.each_watch _ _ _ fun _ _ _ => Dev.setBst_watch _ _ _
  refine .ite_dev (fun _ => .then (.after (hc _ _ _ _ _) (Dev.holderSeen_leads _ _ _)) (hev _ _ _)) fun _ =>
    .after (hc _ _ _ _ _) (Dev.holderSeen_leads _ _ _)

/-! ### Laminate's state (R394, R395, R399) -/

theorem Dev.lamVerify_leads (d : Dev) : d.watch.Leads d.lamVerify.watch := by
  unfold Dev.lamVerify
  refine .ite_dev (fun h => ?_) fun _ => .of_eq (Dev.lamDenied_watch _)
  have hl : d.watch.status.lam = 2 := h.1
  rw [Dev.set_lamBusy_watch]
  exact .of_status fun r => r.setLam (fun _ => hl) r.drain

/-- A layer dropped out of a state that does not drain. -/
theorem Dev.lamDrop_leads (d : Dev) (h : d.lstate ≠ lDraining) : d.watch.Leads d.lamDrop.watch := by
  have e : d.lamDrop.watch =
      { d.watch with status := { d.watch.status with busy := 0, lam := d.sys.lam.prior % 8 } } := by
    unfold Dev.lamDrop
    dsimp only
    rw [Dev.lamTo_watch, Dev.clr_lamBusy_watch, Dev.clr_watch _ _ (by simp), Dev.modLam_watch _ _ rfl]
  rw [e]
  exact .of_status fun r => r.setLam (fun hb => absurd hb Nat.zero_ne_one) fun hd => absurd (r.drain_none h) hd

theorem Dev.lamDisarm_leads (d : Dev) : d.watch.Leads d.lamDisarm.watch := by
  unfold Dev.lamDisarm
  refine .ite_dev (fun h => d.lamDrop_leads ?_) fun _ => .of_eq (Dev.lamDenied_watch _)
  rcases h with ⟨h, _⟩ | h | h <;> rw [h] <;> decide

/-- LAM.STATUS.STATE moves from a state that neither checks nor drains, after quiet changes. -/
theorem Dev.lamTo_leads {d e : Dev} (s : Nat) (he : e.watch = d.watch) (h2 : d.lstate ≠ lLoaded) (h5 : d.lstate ≠
    lDraining) :
    d.watch.Leads (e.lamTo s).watch := by
  rw [Dev.lamTo_watch, he]
  exact .of_status fun r => r.setState_lam h2 h5

/-- To LOADED or to DRAINING, with no drain yet. -/
theorem Dev.lamTo_drain_leads {d e : Dev} (dr : Option Nat)
    (he : e.watch = { d.watch with status := { d.watch.status with drain := dr } }) (h2 : d.lstate ≠ lLoaded) :
    d.watch.Leads (e.lamTo lDraining).watch := by
  rw [Dev.lamTo_watch, he]
  exact .of_status fun r => r.setLam (fun hb => absurd hb (r.busy_ne h2)) fun _ => rfl

theorem Dev.lamConfirm_leads (d : Dev) : d.watch.Leads d.lamConfirm.watch := by
  unfold Dev.lamConfirm
  refine .ite_dev (fun h => Dev.lamTo_leads _ ?_ ?_ ?_) fun _ => .of_eq (Dev.lamDenied_watch _)
  · rw [Dev.set_watch _ _ (by simp), Dev.modLam_watch _ _ rfl]
  all_goals
    rw [h]
    decide

/-- The end of a switch (R400): its drain is over. -/
theorem Dev.lamSwitched_watch (d : Dev) : ∃ l, d.lamSwitched.watch =
    { d.watch with status := { d.watch.status with lam := l, drain := none } } := by
  have key (e : Dev) (s : Nat) (he : e.watch = { d.watch with status := { d.watch.status with drain := none } }) :
      ∃ l, (e.lamTo s).watch = { d.watch with status := { d.watch.status with lam := l, drain := none } } :=
    ⟨s % 8, by rw [Dev.lamTo_watch, he]⟩
  unfold Dev.lamSwitched
  dsimp only
  split
  · split
    · refine key _ _ ?_
      rw [Dev.set_watch _ _ (by simp), Dev.clr_watch _ _ (by simp), Dev.lamShow_watch, Dev.modLam_drain_watch]
    · refine key _ _ ?_
      rw [Dev.modLam_watch _ _ rfl, Dev.set_watch _ _ (by simp), Dev.clr_watch _ _ (by simp), Dev.lamShow_watch,
        Dev.modLam_drain_watch]
  · refine key _ _ ?_
    rw [Dev.when_watch, Dev.lamCount_watch _ _ (by decide), Dev.set_watch _ _ (by simp), ite_self,
      Dev.lamCount_watch _ _ (by decide), Dev.set_watch _ _ (by simp), Dev.wr_watch _ _ _ (by simp), Dev.set_watch _
        _ (by simp),
      Dev.set_watch _ _ (by simp), Dev.lamShow_watch, Dev.modLam_drain_watch]

/-- The registers of a layer that is taken over leave all but TWIN.CFG.MODE (R391). -/
theorem Dev.takeRegs_mode_watch (d post : Dev) (pick : Nat → Bool) :
    (d.takeRegs post pick).watch = { d.watch with status := { d.watch.status with
      mode := (d.takeRegs post pick).rd F.TWIN_CFG_MODE } } := by
  have h (k : Nat) (hk : layerKey k = false) : Sparse.get fieldReset (d.takeRegs post pick).regs k =
      Sparse.get fieldReset d.regs k := d.takeRegs_get post pick k (by rw [hk]; rfl)
  have e : (d.takeRegs post pick).watch = Watch.of (d.takeRegs post pick).regs d.inv d.net d.sys := by
    rw [← d.takeRegs_eq]
    rfl
  rw [e]
  simp only [Watch.of, h F.TWIN_STATUS_STATE.id (by decide), h F.TWIN_STATUS_PERMIT.id (by decide),
    h F.MMU_INV_BUSY.id (by decide), h F.LAM_STATUS_STATE.id (by decide), h F.LAM_STATUS_BUSY.id (by decide)]
  rfl

/-- A change of TWIN.CFG.MODE, and what it makes of TWIN.STATUS.STATE (R373, R375). -/
theorem Dev.twinModeSet_right (d old : Dev) {s : Status} (r : s.Right)
    (hmode : old.watch.status.mode = s.mode) (h : d.watch.status = { s with mode := d.watch.status.mode }) :
    (d.twinModeSet old).watch.status.Right := by
  have hp : d.watch.status.permit = s.permit := by rw [h]
  unfold Dev.twinModeSet
  split
  · next hm =>
    have hm : d.watch.status.mode = s.mode := hm.trans hmode
    rw [h, hm]
    exact r
  · split
    · next ht =>
      split
      · next hon =>
        rw [Dev.permit_eq, beq_iff_eq, hp] at hon
        rw [Dev.wr_twinState_watch, h]
        exact r.setTwin fun _ => ⟨fun _ => rfl, fun _ => hon⟩
      · next hon =>
        rw [Dev.permit_eq, beq_iff_eq, hp] at hon
        rw [Dev.modTwin_watch, Dev.wr_twinState_watch, h]
        exact r.setTwin fun _ => ⟨fun e => absurd e hon, fun e => absurd e (by decide)⟩
    · next ht =>
      have hne : d.watch.status.mode ≠ 1 := by simpa [Dev.twinMode_eq] using ht
      rw [Dev.modTwin_watch, Dev.wrs_watch _ _ (by simp), Dev.wr_twinState_watch, h]
      exact r.setTwin fun e => absurd e hne

end Sys2Proof.Machine
end

section
/-! SUPPORT. The chip's operations that move the status: Laminate's commands, a layer switch, register writes and reset
(R394, R395, R399 to R403, R430). -/

namespace Sys2Proof.Machine

/-- The memories stay canonical, and the watch keeps its frames named and its status true. -/
structure Chip.Leads (c c' : Chip) : Prop where
  watch : c.dev.watch.Leads c'.dev.watch
  wf    : c.mem.wf = true → c'.mem.wf = true

section
variable {c₀ c c' : Chip}

theorem Chip.Leads.refl (c : Chip) : c.Leads c := ⟨.refl _, id⟩

theorem Chip.Leads.trans (h : c₀.Leads c) (h' : c.Leads c') : c₀.Leads c' :=
  ⟨h.watch.trans h'.watch, fun m => h'.wf (h.wf m)⟩

theorem Chip.Quiet.leads (h : c.Quiet c') : c.Leads c' := ⟨h.watch.leads, h.wf⟩

theorem Chip.Leads.quiet (h : c₀.Leads c) (hq : c.Quiet c') : c₀.Leads c' := h.trans hq.leads

theorem Chip.Leads.ite {p : Prop} [Decidable p] {a b : Chip} (ha : p → c₀.Leads a) (hb : ¬p → c₀.Leads b) :
    c₀.Leads (if p then a else b) := by
  split
  · next hp => exact ha hp
  · next hp => exact hb hp

theorem Chip.Leads.onDev (h : c₀.Leads c) {f : Dev → Dev} (hf : c.dev.watch.Leads (f c.dev).watch) :
    c₀.Leads (c.onDev f) := ⟨h.watch.trans hf, h.wf⟩

/-- A change of the device that keeps the watch. -/
theorem Chip.Leads.dev (h : c₀.Leads c) {f : Dev → Dev} (hf : (f c.dev).watch = c.dev.watch) : c₀.Leads (c.onDev f) :=
  h.onDev (.of_eq hf)

/-- A change of the memories alone. -/
theorem Chip.Leads.mem (h : c₀.Leads c) {m : Mem} (hm : c.mem.wf = true → m.wf = true) : c₀.Leads { c with mem := m } :=
  ⟨h.watch, fun hwf => hm (h.wf hwf)⟩

end

/-! ### Laminate's commands -/

theorem Chip.lamLoad_leads (c : Chip) : c.Leads c.lamLoad := by
  unfold Chip.lamLoad
  refine .ite (fun _ => (Chip.Leads.refl c).dev (Dev.lamDenied_watch _)) fun h => ?_
  have hs : c.dev.lstate = lNone ∨ c.dev.lstate = lSteady := by
    by_cases h0 : c.dev.lstate = lNone
    · exact .inl h0
    · exact .inr (Decidable.byContradiction fun h1 => h ⟨h0, h1⟩)
  split
  · exact (Chip.Leads.refl c).dev (Dev.lamFail_watch _ _)
  · refine (Chip.Leads.refl c).onDev (Dev.lamTo_leads _ ?_ ?_ ?_)
    · rw [Dev.wr_watch _ _ _ (by simp), Dev.modLam_watch _ _ rfl]
    all_goals rcases hs with hs | hs <;> rw [hs] <;> decide

theorem Chip.lamArm_leads (c : Chip) : c.Leads c.lamArm := by
  unfold Chip.lamArm
  refine .ite (fun _ => (Chip.Leads.refl c).dev (Dev.lamDenied_watch _)) fun h => ?_
  have hs : c.dev.lstate = lVerified := Decidable.byContradiction h
  refine (Chip.Leads.refl c).onDev (Dev.lamTo_leads _ ?_ ?_ ?_)
  · rw [Dev.when_watch, Dev.set_watch _ _ (by simp), Dev.modLam_watch _ _ rfl, ite_self]
  all_goals
    rw [hs]
    decide

theorem Chip.rollback_leads (c : Chip) (auto : Bool) (h : c.dev.lstate = lProbation ∨ c.dev.lstate = lSteady) :
    c.Leads (c.rollback auto) := by
  have h2 : c.dev.lstate ≠ lLoaded := by rcases h with h | h <;> rw [h] <;> decide
  have h5 : c.dev.lstate ≠ lDraining := by rcases h with h | h <;> rw [h] <;> decide
  unfold Chip.rollback
  refine (Chip.Leads.refl c).onDev (.ite_dev (fun _ => Dev.lamTo_drain_leads none (Dev.modLam_drain_watch _ _) h2)
    fun _ => ?_)
  have he (f : Lam → Lam) (hf : (f c.dev.sys.lam).drain = c.dev.sys.lam.drain) :
      (((((c.dev.modLam f).clr F.LAM_STATUS_PREV_VALID).clr F.LAM_VER_PREV_VERSION).set F.LAM_EVENTS_ROLLBACK_FAIL).clr
        F.LAM_PREV_ADDR_ADDR).watch = c.dev.watch := by
    simp [hf]
  exact .ite_dev (fun _ => Dev.lamTo_leads _ ((Dev.modLam_watch _ _ rfl).trans (he _ rfl)) h2 h5) fun _ => .of_eq
    (he _ rfl)

theorem Chip.lamRollback_leads (c : Chip) : c.Leads c.lamRollback :=
  .ite (fun h => c.rollback_leads false h.1) fun _ => (Chip.Leads.refl c).dev (Dev.lamDenied_watch _)

theorem Chip.windowExpire_leads (c : Chip) : c.Leads c.windowExpire := by
  unfold Chip.windowExpire
  split
  · exact .refl c
  · refine .ite (fun _ => .refl c) fun h => ?_
    have hs : c.dev.lstate = lProbation := Decidable.byContradiction fun hn => h (.inl hn)
    refine .ite (fun _ => c.rollback_leads true (.inl hs)) fun _ => (Chip.Leads.refl c).onDev (Dev.lamTo_leads _ ?_
      ?_ ?_)
    · rw [Dev.set_watch _ _ (by simp), Dev.modLam_watch _ _ rfl]
    all_goals
      rw [hs]
      decide

theorem Chip.lamCmd_leads (c : Chip) (op : Nat) : c.Leads (c.lamCmd op) := by
  unfold Chip.lamCmd
  split
  · exact c.lamLoad_leads
  · exact (Chip.Leads.refl c).onDev (Dev.lamVerify_leads _)
  · exact c.lamArm_leads
  · exact (Chip.Leads.refl c).onDev (Dev.lamDisarm_leads _)
  · exact (Chip.Leads.refl c).onDev (Dev.lamConfirm_leads _)
  · exact (Chip.Leads.refl c).dev (by simp)
  · exact (Chip.Leads.refl c).dev (Dev.lamDenied_watch _)

/-- A check that a boot or a join asks for (R394, R404). -/
theorem Dev.lamVerify_modLam_leads (d : Dev) (f : Lam → Lam) (hf : ∀ m, (f m).drain = m.drain) :
    d.watch.Leads (d.lamVerify.modLam f).watch :=
  d.lamVerify_leads.then (Dev.modLam_watch _ _ (hf _))

theorem Chip.bootSlots_leads (l : List Nat) (c : Chip) : c.Leads (Chip.bootSlots l c) := by
  induction l generalizing c with
  | nil => exact (Chip.Leads.refl c).dev (Dev.modLam_watch _ _ rfl)
  | cons s rest ih =>
    unfold Chip.bootSlots
    have hc : c.Leads (Chip.lamLoad (Chip.onDev ⟨c.dev,
        c.mem.storeBytes bootAddr (c.mem.flashSays (.read (slotBase s) (c.mem.slotWord s 1)))⟩ fun d =>
          d.wrs [(F.LAM_STAGE_ADDR_ADDR, bootAddr), (F.LAM_CTL_TIMED, 0), (F.LAM_WINDOW_S, 0)])) :=
      (((Chip.Leads.refl c).mem (Mem.storeBytes_wf _ _ _)).dev (Dev.wrs_watch _ _ (by simp))).trans
        (Chip.lamLoad_leads _)
    exact .ite (fun _ => hc.onDev (Dev.lamVerify_modLam_leads _ _ fun _ => rfl)) fun _ => hc.trans (ih _)

theorem Chip.verifyDone_leads (c : Chip) : c.Leads c.verifyDone := by
  unfold Chip.verifyDone
  split
  · exact .refl c
  · refine .ite (fun _ => .refl c) fun h => ?_
    have hs : c.dev.lstate = lLoaded := Decidable.byContradiction fun hn => h (.inl hn)
    dsimp only
    split
    · next l' ss _ =>
      have hv (v : Verdict) (f : Lam → Lam) (hf : ∀ m, (f m).drain = m.drain) : c.dev.watch.Leads
          (((((c.dev.modLam f).lamResult v).clr F.LAM_STATUS_BUSY).set F.LAM_EVENTS_VERIFY_OK).lamTo
            lVerified).watch := by
        rw [Dev.lamTo_watch, Dev.set_watch _ _ (by simp), Dev.clr_lamBusy_watch, Dev.lamResult_watch,
          Dev.modLam_watch _ _ (hf _)]
        refine .of_status fun r => r.setLam (fun hb => absurd hb Nat.zero_ne_one) fun hd => absurd (r.drain_none ?_) hd
        rw [← Dev.lstate_eq, hs]
        decide
      have hc : c.Leads (c.onDev fun d => (((d.modLam fun m => { m with staged := some l' }).lamResult
          ⟨0, (0, 0), none⟩).clr F.LAM_STATUS_BUSY).set F.LAM_EVENTS_VERIFY_OK |>.lamTo lVerified) :=
        (Chip.Leads.refl c).onDev (hv ⟨0, (0, 0), none⟩ (fun m => { m with staged := some l' }) fun _ => rfl)
      exact .ite (fun _ => hc.trans (Chip.lamArm_leads _)) fun _ => hc
    · next v _ =>
      have hw : (c.dev.lamFail v).watch = c.dev.watch := Dev.lamFail_watch _ _
      have hc : c.Leads (c.onDev fun d => (d.lamFail v).lamDrop) :=
        (Chip.Leads.refl c).onDev (.after hw (Dev.lamDrop_leads _ (by
          rw [Dev.lstate_eq, hw, ← Dev.lstate_eq, hs]
          decide)))
      split
      · exact hc.trans (Chip.bootSlots_leads _ _)
      · exact hc

/-- The boot scrub takes Saltern's bytes away (R390). -/
theorem Mem.filter_wf {m : Mem} (p : Nat × Byte → Bool) (h : m.wf = true) :
    ({ m with cells := m.cells.filter p } : Mem).wf = true := by
  obtain ⟨hc, hf⟩ := m.wf_iff.mp h
  exact (Mem.wf_iff _).mpr ⟨Sparse.wfFrom_filter _ _ _ _ hc, hf⟩

theorem Chip.scrubDone_leads (c : Chip) : c.Leads c.scrubDone := by
  unfold Chip.scrubDone
  refine .ite (fun _ => .refl c) fun _ => ?_
  have h1 : c.Quiet (Chip.showSlots ⟨{ c.dev with sys := { c.dev.sys with scrubbed := true }, badRows := [] },
      { c.mem with cells := c.mem.cells.filter fun p => decide (2 ^ 26 ≤ p.1) }⟩) :=
    Chip.showSlots_quiet ((Chip.Quiet.refl c).mk' rfl (Mem.filter_wf _))
  dsimp only
  generalize Chip.showSlots _ = e at h1
  have h2 : c.Leads { e with mem := bootBegins.foldl Mem.flashDo e.mem } := h1.leads.mem (Mem.flashDos_wf _ _)
  refine .ite (fun _ => h1.leads) fun _ => ?_
  split
  · exact h2.dev (Dev.lamResult_watch _ _)
  · exact h2.trans (Chip.bootSlots_leads _ _)

theorem Chip.joinReceive_leads (c : Chip) (ws : List Nat) : c.Leads (c.joinReceive ws) := by
  unfold Chip.joinReceive
  have h := Chip.Leads.refl c
  refine .ite (fun _ => h) fun _ => .ite (fun _ => h.dev (Dev.linkBad_watch _)) fun _ => .ite (fun _ => h) fun _ => ?_
  dsimp only
  split
  · exact .ite (fun _ => (Chip.joinServe_quiet (.refl c)).leads) fun _ => h
  · exact .ite (fun _ => h.dev (by simp)) fun _ => h
  · refine .ite (fun _ => h) fun _ => ?_
    have h3 : c.Leads (c.onDev fun d => d.wr F.TWIN_STATUS_JOIN_STATE 3) := h.dev (by simp)
    generalize (c.onDev fun d => d.wr F.TWIN_STATUS_JOIN_STATE 3) = e at h3
    split
    · exact h3
    · next a _ =>
      have h4 : c.Leads (e.onDev fun d => d.wrs [(F.LAM_STAGE_ADDR_ADDR, a), (F.LAM_CTL_TIMED, 0)]).lamLoad :=
        (h3.dev (by simp)).trans (Chip.lamLoad_leads _)
      exact .ite (fun _ => h4.onDev (Dev.lamVerify_modLam_leads _ _ fun _ => rfl)) fun _ => h4
  · exact .ite (fun _ => h.dev (by simp)) fun _ => h
  · exact h.dev (by split <;> simp)
  · exact h

/-! ### A layer switch (R399 to R402) -/

/-- A switch is due in ARMED or, for a rollback, in DRAINING. -/
theorem Dev.lstate_of_switchDue {d : Dev} (h : d.switchDue = true) : d.lstate ≠ lLoaded := by
  simp only [Dev.switchDue, Bool.and_eq_true, Bool.or_eq_true, Dev.commitDue, Dev.rollbackDue, beq_iff_eq] at h
  rcases h.1.1 with h | h
  · rw [h.1]
    decide
  · rw [h.1.1]
    decide

theorem Chip.switchDrain_leads (c : Chip) : c.Leads c.switchDrain := by
  unfold Chip.switchDrain
  refine .ite (fun _ => .refl c) fun h => ?_
  have hs : c.dev.lstate ≠ lLoaded := Dev.lstate_of_switchDue (by simpa using h)
  split
  · exact .refl c
  · split
    · exact .refl c
    · have h1 (f : Lam → Lam) (e : Dev) (he : e.watch = ((c.dev.modLam f).lamTo lDraining).watch) : c.Leads ⟨e,
        c.mem⟩ :=
        ⟨.then (Dev.lamTo_drain_leads _ (Dev.modLam_drain_watch _ f) hs) he, id⟩
      have h2 (e : Chip) (post : Dev) :
          e.Quiet (e.switchStop.onDev fun d => (d.switchGangs post d.tick).teuTake post).ripenAll :=
        Chip.ripenAll_quiet ((Chip.quiet_onDev _ (by rw [Dev.teuTake_watch, Dev.switchGangs_watch])).mpr
          (Chip.switchStop_quiet (.refl e)))
      dsimp only
      refine Chip.Leads.trans (h1 (fun m =>
        { m with drain := some c.dev.tick, recorded := false, arm := none, window := none }) _ ?_) (h2 _ _).leads
      have h3 (d e : Dev) (a : Nat) (hd : d.watch = e.watch) : (match d.clk.realign with
          | .waiting asked => if asked < a then d.modClk fun k => { k with realign := .draining a } else d
          | _ => d).watch = e.watch := by
        split
        · split
          · exact (Dev.modClk_watch _ _).trans hd
          · exact hd
        · exact hd
      exact h3 _ _ _ (by rw [Dev.when_watch, Dev.lamCount_watch _ _ (by decide), ite_self])

/-- What a record step has done before TWIN.CFG.MODE shows: the layer's registers, and no invalidation pending. -/
structure Chip.Recorded (c e : Chip) : Prop where
  named  : c.dev.watch.Named → e.dev.watch.Named
  status : c.dev.watch.Named → e.dev.watch.status =
    { c.dev.watch.status with mode := e.dev.watch.status.mode, invBusy := 0, inv := [] }
  wf     : c.mem.wf = true → e.mem.wf = true

theorem Chip.Recorded.start {c e : Chip} (h : c.Quiet e) {d : Dev} (hd : d.watch = { e.dev.watch with status :=
    { e.dev.watch.status with mode := d.watch.status.mode, invBusy := 0, inv := [] } }) : c.Recorded ⟨d, e.mem⟩ := by
  refine ⟨fun n => ?_, fun n => ?_, h.wf⟩
  · have n' := h.watch.named n
    rw [hd]
    exact ⟨n'.line, n'.sixes, n'.ingress⟩
  · rw [hd, h.watch.status n]

theorem Chip.Recorded.quiet {c e e' : Chip} (h : c.Recorded e) (hq : e.Quiet e') : c.Recorded e' := by
  refine ⟨fun n => hq.watch.named (h.named n), fun n => ?_, fun hwf => hq.wf (h.wf hwf)⟩
  rw [hq.watch.status (h.named n)]
  exact h.status n

/-- TWIN.STATUS.STATE follows the mode, and the record step has led on. -/
theorem Chip.Recorded.twinModeSet {c e : Chip} (h : c.Recorded e) (f : Twin → Twin) :
    c.Leads (e.onDev fun d => (d.twinModeSet c.dev).modTwin f) ∧
      (c.dev.watch.Named → (e.onDev fun d => (d.twinModeSet c.dev).modTwin f).dev.lstate = c.dev.lstate) := by
  have hkeep : (e.dev.twinModeSet c.dev).watch = { e.dev.watch with status := { e.dev.watch.status with
      state := (e.dev.twinModeSet c.dev).watch.status.state } } := by
    unfold Dev.twinModeSet
    split
    · rfl
    · split
      · split <;> simp
      · simp
  have hw : ((e.dev.twinModeSet c.dev).modTwin f).watch = (e.dev.twinModeSet c.dev).watch := Dev.modTwin_watch _ _
  refine ⟨⟨⟨fun n => ?_, fun n r => ?_⟩, h.wf⟩, fun n => ?_⟩
  · have n' := h.named n
    refine hw ▸ hkeep ▸ ?_
    exact ⟨n'.line, n'.sixes, n'.ingress⟩
  · refine hw ▸ Dev.twinModeSet_right _ _ (s := { c.dev.watch.status with invBusy := 0, inv := [] }) ?_ rfl (h.status n)
    exact r.setInv (by simp)
  · change ((e.dev.twinModeSet c.dev).modTwin f).watch.status.lam = c.dev.watch.status.lam
    rw [hw, hkeep]
    change e.dev.watch.status.lam = _
    rw [h.status n]

/-- No translation, no instruction line and no pending invalidation is left. -/
theorem Dev.forgetPages_watch (d : Dev) : ({ d with tlbs := [], icache := [], inv := [] } : Dev).watch =
    { d.watch with status := { d.watch.status with inv := [] } } := rfl

theorem routeCodes_lt (rs : List Record) : ∀ e ∈ routeCodes rs, e < 0x8000 := by
  intro e he
  simp only [routeCodes, List.mem_dedup, List.mem_filterMap] at he
  obtain ⟨r, _, hr⟩ := he
  split at hr
  · split at hr
    · have := Option.some.inj hr
      omega
    · exact absurd hr (by simp)
  · exact absurd hr (by simp)

theorem Chip.onDev_onDev (c : Chip) (f g : Dev → Dev) : (c.onDev f).onDev g = c.onDev fun d => g (f d) := rfl

/-- A record step keeps Laminate's state, and leads on (R399 to R401). -/
theorem Chip.recordStep_leads (c : Chip) (l : Layer) (ss : List Section) (b : Nat) :
    c.Leads (c.recordStep l ss b) ∧ (c.dev.watch.Named → (c.recordStep l ss b).dev.lstate = c.dev.lstate) := by
  have hread (e : Chip) : e.Quiet (allCtx.foldl (fun c x => c.dispatchRead x true) e) :=
    Chip.quiet_foldl _ _ (fun _ _ _ => Chip.dispatchRead_quiet _ _ (.refl _)) (.refl e)
  have hend {e : Chip} (h : c.Recorded e) (f : Twin → Twin) : c.Leads (allCtx.foldl (fun c x => c.dispatchRead x true)
      (e.onDev fun d => (d.twinModeSet c.dev).modTwin f)) ∧ (c.dev.watch.Named →
        (allCtx.foldl (fun c x => c.dispatchRead x true) (e.onDev fun d => (d.twinModeSet c.dev).modTwin
          f)).dev.lstate =
          c.dev.lstate) := by
    obtain ⟨hl, hlam⟩ := h.twinModeSet f
    refine ⟨hl.quiet (hread _), fun n => ?_⟩
    exact (congrArg Status.lam ((hread _).watch.status (hl.watch.named n))).trans (hlam n)
  have hroutes {e : Chip} (h : c.Recorded e) (codes : List Nat) (hcodes : ∀ x ∈ codes, x < 0x8000) (f : Twin → Twin) :
      c.Leads (allCtx.foldl (fun c x => c.dispatchRead x true)
        (e.onDev fun d => ((d.switchRoutes codes).twinModeSet c.dev).modTwin f)) ∧ (c.dev.watch.Named →
          (allCtx.foldl (fun c x => c.dispatchRead x true)
            (e.onDev fun d => ((d.switchRoutes codes).twinModeSet c.dev).modTwin f)).dev.lstate = c.dev.lstate) := by
    have h' := hend (h.quiet ((Chip.quiet_onDev (fun d => d.switchRoutes codes) (Dev.switchRoutes_watch _ codes
      hcodes)).mpr
      (.refl e))) f
    rwa [Chip.onDev_onDev] at h'
  unfold Chip.recordStep
  dsimp only
  refine hroutes ?_ _ (routeCodes_lt _) _
  refine Chip.Recorded.quiet ?_ (Chip.switchStart_quiet _ _ (.refl _))
  refine .start (Chip.quiet_foldl _ _ (fun p hp e => Chip.macDisable_quiet p ?_ (.refl e))
    ((Chip.Quiet.refl c).mk' rfl (Mem.copyData_wf _ _ _ _))) ?_
  · have hp := List.mem_of_mem_filter hp
    simp only [List.mem_cons, List.not_mem_nil, or_false] at hp
    omega
  · generalize List.foldl _ _ _ = e
    rw [Dev.each_watch _ _ _ fun _ _ _ => Dev.modCtx_watch _ _ _, Dev.rebuildLists_watch, Dev.forgetPages_watch,
      Dev.clr_invBusy_watch, Dev.each_watch _ _ _ fun p _ e => Dev.emptyRings_watch e p,
      Dev.each_watch _ _ _ fun p _ e => Dev.modMac_watch e p _ rfl rfl, Dev.each_watch _ _ _ fun g _ e => ?_,
      Dev.takeRegs_mode_watch, Dev.each_watch _ _ _ fun g _ e => Dev.switchGroup_watch e _ g, Dev.resetAllQueues_watch,
      Dev.flowsOff_watch]
    split
    · refine Dev.each_watch _ _ _ fun k _ e => ?_
      split
      · exact Dev.toState_watch _ _ _
      · rfl
    · rfl

theorem Chip.switchRecord_leads (c : Chip) :
    c.Leads c.switchRecord ∧ (c.dev.watch.Named → c.switchRecord.dev.lstate = c.dev.lstate) := by
  unfold Chip.switchRecord
  split
  · split
    · exact ⟨.refl c, fun _ => rfl⟩
    · have h : c.Quiet (c.onDev fun d => d.modLam fun m => { m with recorded := true }) :=
        (Chip.quiet_onDev _ (Dev.modLam_watch _ _ rfl)).mpr (.refl c)
      generalize (c.onDev fun d => d.modLam fun m => { m with recorded := true }) = e at h
      have hl (n : c.dev.watch.Named) : e.dev.lstate = c.dev.lstate := congrArg Status.lam (h.watch.status n)
      dsimp only
      split
      · exact ⟨h.leads, hl⟩
      · obtain ⟨hr, hlam⟩ := e.recordStep_leads _ _ _
        exact ⟨h.leads.trans hr, fun n => (hlam (h.watch.named n)).trans (hl n)⟩
  · exact ⟨.refl c, fun _ => rfl⟩

theorem Dev.undrained_watch (d : Dev) : ({ d with net := { d.net with draining := false } } : Dev).watch = d.watch
    := rfl

/-- The end of a switch, where a drain ran. -/
theorem Chip.lamSwitched_leads {c e : Chip} {d : Dev} (hdrain : c.dev.sys.lam.drain ≠ none) (hl : c.Leads e)
    (hlam : c.dev.watch.Named → e.dev.lstate = c.dev.lstate) (hd : d.watch = e.dev.watch) :
    c.Leads ⟨d.lamSwitched, e.mem⟩ := by
  obtain ⟨l, hw⟩ := d.lamSwitched_watch
  rw [hd] at hw
  refine ⟨⟨fun n => ?_, fun n r => ?_⟩, hl.wf⟩
  · have n' := hl.watch.named n
    rw [hw]
    exact ⟨n'.line, n'.sixes, n'.ingress⟩
  · have h5 : e.dev.lstate = lDraining := (hlam n).trans (r.drain hdrain)
    have r' := hl.watch.right n r
    have hb := r'.busy_ne (show e.dev.lstate ≠ 2 by rw [h5]; decide)
    rw [hw]
    exact r'.setLam (fun h => absurd h hb) fun h => absurd rfl h

theorem Chip.switchEnd_leads (c : Chip) : c.Leads c.switchEnd := by
  unfold Chip.switchEnd
  split
  · exact .refl c
  · next b hdrain =>
    refine .ite (fun _ => .refl c) fun _ => ?_
    obtain ⟨hr, hlam⟩ := c.switchRecord_leads
    generalize c.switchRecord = e at hr hlam
    have hend (e : Chip) : e.Quiet (((e.playout.packetise.ripenAll.onDev fun d => d.each allCtx fun d x =>
        if d.ctxEnabled x then d.modCtx x fun k => Ctx.begin { k with restart := true } else d).releases).onDev fun d =>
          d.gangsDue.fitCheck) := by
      have h1 : e.Quiet e.playout.packetise.ripenAll :=
        Chip.ripenAll_quiet (Chip.packetise_quiet (Chip.playout_quiet (.refl e)))
      refine (Chip.quiet_onDev _ (by rw [Dev.fitCheck_watch, Dev.gangsDue_watch])).mpr (Chip.releases_quiet
        ((Chip.quiet_onDev _ (Dev.each_watch _ _ _ fun x _ d => ?_)).mpr h1))
      split
      · exact Dev.modCtx_watch _ _ _
      · rfl
    have hsolo {d : Dev} (h : c.Leads ⟨d, e.mem⟩) : c.Leads ⟨d.soloCheck, e.mem⟩ := h.onDev d.soloCheck_leads
    refine .quiet (hsolo (Chip.lamSwitched_leads (by rw [hdrain]; exact Option.some_ne_none b) hr hlam ?_)) (hend _)
    have hq (d : Dev) : (d.each (List.range 8) fun d g => (d.bstDrained g).when (decide ((d.group g).waiting = []))
        (·.switchBst g)).watch = d.watch := Dev.each_watch _ _ _ fun g _ e => by
      rw [Dev.when_watch, Dev.switchBst_watch, Dev.bstDrained_watch, ite_self]
    refine (Dev.undrained_watch _).trans ((hq _).trans ?_)
    split
    · exact Dev.realignEndNow_watch _
    · exact Dev.driveUndrain_watch _

theorem Chip.tickBoundary_leads (c : Chip) : c.Leads c.tickBoundary := by
  have hq {p : Prop} [Decidable p] {c e : Chip} {f : Dev → Dev} (h : c.Quiet e) (hf : ∀ d, (f d).watch = d.watch) :
      c.Quiet (if p then e else e.onDev f) := .ite (fun _ => h) fun _ => (Chip.quiet_onDev _ (hf _)).mpr h
  have hend (e : Chip) : e.Quiet (e.onDev fun d => d.gangsDue.twinTick.groupsFree.armTick.fitCheck) :=
    (Chip.quiet_onDev _ (by simp)).mpr (.refl e)
  have hrec {p : Prop} [Decidable p] (e : Chip) : e.Leads (if p then e.switchRecord else e.releases) :=
    .ite (fun _ => e.switchRecord_leads.1) fun _ => (Chip.releases_quiet (.refl e)).leads
  unfold Chip.tickBoundary
  dsimp only
  refine .quiet (.trans (Chip.Quiet.leads ?_) (hrec _)) (hend _)
  refine (Chip.quiet_onDev _ (Dev.each_watch _ _ _ fun x _ d => Dev.wake_watch d x)).mpr ?_
  refine .ite (fun _ => ?_) fun _ => Chip.ripenAll_quiet (Chip.packetise_quiet (Chip.playout_quiet ?_))
  all_goals
    refine hq ((Chip.quiet_onDev _ (Dev.each_watch _ _ _ fun n _ d => Dev.releaseHeld_watch d n)).mpr (hq
      ((Chip.quiet_onDev _ (Dev.tickStart_watch _)).mpr (.refl c)) Dev.routeApply_watch)) Dev.deadlines_watch

/-! ### Register writes -/

theorem Chip.writeEngine_leads (c : Chip) (a v : Nat) : c.Leads (c.writeEngine a v) := by
  have h := Chip.Leads.refl c
  have hq := Chip.Quiet.refl c
  unfold Chip.writeEngine
  refine .ite (fun _ => h.onDev (.when (.of_eq (Dev.writeFields_watch _ _ _ _)) (Dev.invGo_leads _))) fun _ =>
    .ite (fun _ => h.dev (Dev.cresWrite_watch _ _ _)) fun _ => .ite (fun _ => h.dev (by simp)) fun _ =>
    .ite (fun _ => (Chip.dmaCmd_quiet _ _ hq).leads) fun _ => .ite (fun _ => ?_) fun _ => .ite (fun _ => h.dev (by
      simp))
    fun _ => h.dev (by simp)
  exact .ite (fun _ => h.dev (Dev.taskStop_watch _ _)) fun _ => .ite (fun _ => (Chip.taskStart_quiet _ hq).leads)
    fun _ => h

theorem Chip.writeTop_leads (c : Chip) (a v : Nat) (key : Bool) : c.Leads (c.writeTop a v key) := by
  have h := Chip.Leads.refl c
  unfold Chip.writeTop
  refine .ite (fun _ => h.onDev (.when (.refl _) (Dev.forceWrite_leads _ _))) fun _ => .ite (fun _ => h.dev ?_) fun _ =>
    .ite (fun _ => c.lamCmd_leads _) fun _ => .ite (fun _ => .ite (fun _ => h) fun _ => ?_) fun _ => h.dev (by simp)
  · split <;> simp
  · have h1 : c.Leads (c.onDev fun d => d.wr F.LAM_GCMD_SLOT (bitsAt v 2 1)) := h.dev (by simp)
    refine .dev (.ite (fun _ => h1.trans (Chip.lamRollback_leads _)) fun _ => h1) ?_
    simp

theorem Chip.writeBlock_leads (c : Chip) (a v : Nat) (key : Bool) : c.Leads (c.writeBlock a v key) := by
  unfold Chip.writeBlock
  refine .ite (fun _ => .refl c) fun _ => ?_
  have h : c.Leads (c.onDev fun d => d.when (!key && d.kwChanges a v) (·.guardDenied)) := (Chip.Leads.refl c).dev
    (by simp)
  generalize (c.onDev fun d => d.when (!key && d.kwChanges a v) (·.guardDenied)) = e at h
  have hq := Chip.Quiet.refl e
  refine .ite (fun ha => h.quiet (Chip.ripen_quiet _ (Chip.writeMac_quiet _ _ _ _ (by omega) hq))) fun _ =>
    .ite (fun _ => h.quiet (Chip.writeFlow_quiet _ _ hq)) fun _ => .ite (fun _ => h.quiet (Chip.writeQm_quiet _ _
      hq)) fun _ =>
    .ite (fun _ => h.trans (e.writeEngine_leads _ _)) fun _ => .ite (fun _ => h.trans (e.writeTop_leads _ _ _)) fun _ =>
    .ite (fun _ => h.quiet (Chip.ripenAll_quiet ((Chip.quiet_onDev _ (by simp)).mpr hq))) fun _ =>
    .ite (fun _ => h.dev (by simp)) fun _ => h.dev (by simp)

theorem Chip.writeInd_leads (c : Chip) (r v : Nat) (key : Bool) : c.Leads (c.writeInd r v key) := by
  unfold Chip.writeInd
  dsimp only
  split
  · exact (Chip.Leads.refl c).dev (Dev.setReq_watch _ _ _)
  · exact ((Chip.Leads.refl c).dev (Dev.setReq_watch _ _ _)).trans (Chip.writeBlock_leads _ _ _ _)

theorem Chip.writeReg_leads (c : Chip) (r a v : Nat) (key : Bool) : c.Leads (c.writeReg r a v key) := by
  have h := Chip.Leads.refl c
  unfold Chip.writeReg
  refine .ite (fun _ => c.writeBlock_leads _ _ _) fun _ => ?_
  split
  · exact h.dev (Dev.setReq_watch _ _ _)
  · exact c.writeInd_leads _ _ _
  · exact h.dev (Dev.setReq_watch _ _ _)
  · exact h.dev (Dev.mbxRequest_watch _ _ _ _)
  · exact h.dev (Dev.mbxData_watch _ _ _)
  · exact h.dev (Dev.mbxData_watch _ _ _)
  · exact h.dev (Dev.mbxData_watch _ _ _)
  · exact h.dev (Dev.mbxData_watch _ _ _)
  · exact h.dev (Dev.writeFields_watch _ _ _ _)

theorem Chip.writeBy_leads (c : Chip) (r a v : Nat) : c.Leads (c.writeBy r a v) :=
  .ite (fun _ => (Chip.Leads.refl c).dev (Dev.unlockBy_watch _ _ _)) fun _ =>
    ((Chip.Leads.refl c).dev (Dev.disarm_watch _ _)).trans (Chip.writeReg_leads _ _ _ _ _)

theorem Chip.writeForm_leads (c : Chip) (x w v : Nat) : c.Leads (c.writeForm x w v) := by
  unfold Chip.writeForm
  split
  · exact (Chip.Leads.refl c).dev (Dev.disarm_watch _ _)
  · exact c.writeBy_leads _ _ _

theorem Chip.windowStores_quiet (l : List (Nat × Byte)) (c : Chip) :
    c.Quiet (l.foldl (fun c p => c.windowStore p.1 p.2) c) :=
  Chip.quiet_foldl _ _ (fun _ _ e => Chip.windowStore_quiet _ _ (.refl e)) (.refl c)

theorem Chip.perform_leads (c : Chip) (p : Posted) : c.Leads (c.perform p) := by
  have h := Chip.Leads.refl c
  unfold Chip.perform
  split
  · split
    · exact h.dev (by simp)
    · exact c.writeBy_leads _ _ _
  · have h1 : c.Leads (c.onDev fun d => d.disarm 0) := h.dev (Dev.disarm_watch _ _)
    exact .ite (fun _ => h1) fun _ => h1.quiet (Chip.windowStores_quiet _ _)

theorem Chip.performFirst_leads (c : Chip) : c.Leads c.performFirst := by
  unfold Chip.performFirst
  split
  · exact .refl c
  · exact ((Chip.Leads.refl c).dev (Dev.modHost_watch _ _)).trans (Chip.perform_leads _ _)

theorem Chip.post_leads (c : Chip) (quad : Bool) (p : Posted) : c.Leads (c.post quad p) := by
  have hput {e : Chip} (h : c.Leads e) : c.Leads (e.onDev fun d => d.modHost fun h => { h with buf := h.buf ++ [p] }) :=
    h.dev (Dev.modHost_watch _ _)
  have h1 : c.Leads (c.onDev fun d => d.modHost fun h => { h with run := c.dev.sys.host.runOf quad p }) :=
    (Chip.Leads.refl c).dev (Dev.modHost_watch _ _)
  unfold Chip.post
  dsimp only
  generalize (c.onDev fun d => d.modHost fun h => { h with run := c.dev.sys.host.runOf quad p }) = e at h1
  have h2 : c.Leads ⟨e.dev.fresh.2, e.mem⟩ := h1.dev (f := fun d => d.fresh.2) (Dev.fresh_watch _)
  refine .ite (fun _ => hput h1) fun _ => .ite (fun _ => hput (h1.trans e.performFirst_leads)) fun _ => .ite (fun _
    => ?_)
    fun _ => hput (h2.trans (Chip.performFirst_leads _))
  exact h2.dev (f := fun d => d.set F.SYS_HQ_STAT_WOVF) (by simp)

theorem Chip.postBytes_leads (quad : Bool) (n s : Nat) (bs : List Byte) (c : Chip) :
    c.Leads (Chip.postBytes quad n s bs c) := by
  induction n generalizing s bs c with
  | zero => exact .refl c
  | succ n ih => exact .ite (fun _ => .refl c) fun _ => (c.post_leads _ _).trans (ih _ _ _)

theorem Chip.postWords_leads (quad : Bool) (bank n a : Nat) (bs : List Byte) (c : Chip) :
    c.Leads (Chip.postWords quad bank n a bs c) := by
  have hpart (c : Chip) (b : Bool) : c.Leads (c.onDev fun d => d.when b (·.set F.SYS_HQ_STAT_PARTIAL)) :=
    (Chip.Leads.refl c).dev (by simp)
  induction n generalizing a bs c with
  | zero => exact .ite (fun _ => Chip.postBytes_leads _ _ _ _ _) fun _ => hpart c _
  | succ n ih =>
    exact .ite (fun _ => Chip.postBytes_leads _ _ _ _ _) fun _ => .ite (fun _ => hpart c _) fun _ =>
      (c.post_leads _ _).trans (ih _ _ _)

theorem Chip.hostWrite_leads (c : Chip) (quad : Bool) (a : Nat) (bs : List Byte) : c.Leads (c.hostWrite quad a bs) :=
  .ite (fun _ => .refl c) fun _ => ((Chip.Leads.refl c).dev (Dev.hostBegin_watch _)).trans (Chip.postWords_leads _ _
    _ _ _ _)

theorem Chip.drainBuffer_leads (n : Nat) (c : Chip) : c.Leads (Chip.drainBuffer n c) := by
  induction n generalizing c with
  | zero => exact .refl c
  | succ n ih => exact c.performFirst_leads.trans (ih _)

theorem Chip.readStart_leads (c : Chip) (a n : Nat) : c.Leads (c.readStart a n).1 := by
  have h : c.Leads (Chip.drainBuffer 32 (c.onDev Dev.hostBegin)) :=
    ((Chip.Leads.refl c).dev (Dev.hostBegin_watch _)).trans (Chip.drainBuffer_leads 32 _)
  unfold Chip.readStart
  dsimp only
  refine (h.quiet (Chip.readWords_quiet _ _ _ (.refl _))).dev ?_
  exact Dev.modHost_watch _ _

theorem Chip.hostRead_leads (c : Chip) (a n : Nat) (more : Bool) : c.Leads (c.hostRead a n more) := by
  have h := c.readStart_leads a n
  unfold Chip.hostRead
  refine .ite (fun _ => .refl c) fun _ => ?_
  dsimp only
  generalize c.readStart a n = r at h
  exact .ite (fun _ => (h.quiet (Chip.readOne_quiet _ _ (.refl _))).dev (by simp)) fun _ => h

theorem Chip.readTimeout_leads (c : Chip) (a n zeros : Nat) : c.Leads (c.readTimeout a n zeros) := by
  have h := c.readStart_leads a n
  unfold Chip.readTimeout
  refine .ite (fun _ => .refl c) fun _ => ?_
  dsimp only
  generalize c.readStart a n = r at h
  exact (h.quiet (Chip.readOne_quiet _ _ (.refl _))).dev (by simp)

theorem Chip.asRequester_leads (c : Chip) (r : Nat) (f : Chip → Chip) (hf : ∀ e : Chip, e.Leads (f e)) :
    c.Leads (c.asRequester r f) :=
  .ite (fun _ => hf c) fun _ => .ite (fun _ => .refl c) fun _ => (Chip.drainBuffer_leads 32 c).trans (hf _)

theorem Chip.formWrite_leads (c : Chip) (r w v : Nat) : c.Leads (c.formWrite r w v) := by
  unfold Chip.formWrite
  refine .ite (fun _ => c.perform_leads _) fun _ => ?_
  split
  · exact (Chip.Leads.refl c).dev (by simp)
  · exact c.writeBy_leads _ _ _

/-! ### Reset (R430, R431) -/

/-- `StatusTrue` and `FramesNamed` of a state are facts about what it shows. -/
theorem statusTrue_iff (s : State) : Claim.StatusTrue s ↔ s.chip.dev.watch.status.Right := by
  simp only [Claim.StatusTrue, Dev.on, beq_iff_eq]
  exact ⟨fun ⟨ht, hi, hb, hd⟩ => ⟨ht, hi, hb, hd⟩, fun ⟨ht, hi, hb, hd⟩ => ⟨ht, hi, hb, hd⟩⟩

theorem framesNamed_iff (s : State) : Claim.FramesNamed s ↔ s.chip.dev.watch.Named := by
  refine ⟨fun ⟨hl, h6, hi⟩ => ⟨fun p c h => ?_, fun p x h => ?_, fun x h => ?_⟩, fun n => ⟨fun p => ?_, fun p f hf
    => ?_, fun x hx => ?_⟩⟩
  · obtain ⟨l, hpl, rfl⟩ := Option.map_eq_some_iff.mp h
    have h := hl p
    rw [show (s.chip.dev.mac p).line = some l from hpl] at h
    exact h
  · obtain ⟨f, hf, rfl⟩ := List.mem_map.mp h
    exact h6 p f hf
  · obtain ⟨f, hf, rfl⟩ := List.mem_map.mp h
    exact hi f hf
  · split
    · next l hl => exact n.cls_lt hl
    · trivial
  · exact n.path_lt hf
  · exact n.ingress_lt hx

theorem Dev.reset_named : Dev.reset.watch.Named := (framesNamed_iff _).mp Claim.framesNamed_reset

theorem Dev.reset_right : Dev.reset.watch.status.Right := (statusTrue_iff _).mp Claim.statusTrue_reset

theorem Chip.hardReset_leads {c₀ c : Chip} (hm : c₀.mem.wf = true → c.mem.wf = true) : c₀.Leads c.hardReset := by
  refine ⟨⟨fun _ => ?_, fun _ _ => ?_⟩, fun h => ?_⟩
  · exact Dev.reset_named
  · exact Dev.reset_right
  · exact (Mem.wf_iff _).mpr ⟨rfl, (c.mem.wf_iff.mp (hm h)).2⟩

theorem Chip.resetAssert_leads (c : Chip) (ns : Nat) : c.Leads (c.resetAssert ns) :=
  .ite (fun _ => .refl c) fun _ => Chip.hardReset_leads id

theorem Chip.supplyFail_leads (c : Chip) : c.Leads c.supplyFail := by
  have h (e : Chip) (hm : e.mem = c.mem) : c.Leads (e.hardReset.onDev fun d => d.modJtag fun _ => Jtag.init) := by
    refine Chip.Leads.dev (Chip.hardReset_leads fun hwf => hm ▸ hwf) ?_
    exact Dev.modJtag_watch _ _
  exact h _ rfl

end Sys2Proof.Machine
end

section
/-! SUPPORT. Commands: what each form of a command makes of a state. -/

namespace Sys2Proof.Machine

/-- A state that leads on: its memories stay canonical, its frames named and its status true, and no word waits for its
cell where none did. -/
structure State.Leads (s t : State) : Prop where
  chip : s.chip.Leads t.chip
  out  : s.chip.dev.pool.out = [] → t.chip.dev.pool.out = []

/-- Every next state that a command answers leads on. -/
def Out.Leads (s : State) (o : Out) : Prop := ∀ t, o = .next t → s.Leads t

section
variable (s : State)

theorem Out.leads_next {s t : State} (h : s.Leads t) : Out.Leads s (.next t) := by
  intro u hu
  injection hu with hu
  exact hu ▸ h

theorem State.Leads.refl : s.Leads s := ⟨.refl _, id⟩

/-- Putting the waiting words into their cells keeps the watch. -/
theorem Chip.settleCells_quiet (c : Chip) : c.Quiet c.settleCells := by
  obtain ⟨hwf, -, hdev, -⟩ := c.settleCells_spec
  have hw : c.settleCells.dev.watch = c.dev.watch := by
    conv_rhs => rw [← hdev]
    rfl
  exact ⟨.of_eq hw, hwf⟩

theorem State.run_leads (f : Chip → Chip) (hf : s.chip.Leads (f s.chip)) : Out.Leads s (s.run f) := by
  refine Out.leads_next ?_
  split
  · exact ⟨hf.quiet (f s.chip).settleCells_quiet, fun _ => (f s.chip).settleCells_spec.2.1⟩
  · exact .refl s

theorem State.runQuiet_leads (f : Chip → Chip) (hf : s.chip.Quiet (f s.chip)) : Out.Leads s (s.run f) :=
  s.run_leads f hf.leads

theorem State.dev_leads (f : Dev → Dev) (hf : s.chip.dev.watch.Leads (f s.chip.dev).watch) : Out.Leads s (s.dev f) :=
  s.run_leads _ ((Chip.Leads.refl _).onDev hf)

theorem State.devQuiet_leads (f : Dev → Dev) (hf : (f s.chip.dev).watch = s.chip.dev.watch) : Out.Leads s (s.dev f) :=
  s.dev_leads f (.of_eq hf)

theorem State.unit_leads (kind index : Nat) (f : Chip → Chip) (hf : s.chip.Quiet (f s.chip)) :
    Out.Leads s (s.unit kind index f) :=
  s.run_leads _ (.ite (fun _ => .refl _) fun _ => hf.leads)

theorem State.unitDev_leads (kind index : Nat) (f : Dev → Dev) (hf : (f s.chip.dev).watch = s.chip.dev.watch) :
    Out.Leads s (s.unit kind index fun c => c.onDev f) :=
  s.unit_leads kind index _ ((Chip.quiet_onDev f hf).mpr (.refl _))

theorem State.port_leads (p : Nat) (f : Chip → Chip) (hf : s.chip.Quiet (f s.chip)) : Out.Leads s (s.port p f) :=
  s.unit_leads 1 p _ (Chip.ripen_quiet p hf)

theorem State.portDev_leads (p : Nat) (f : Dev → Dev) (hf : (f s.chip.dev).watch = s.chip.dev.watch) :
    Out.Leads s (s.port p fun c => c.onDev f) :=
  s.port_leads p _ ((Chip.quiet_onDev f hf).mpr (.refl _))

theorem State.teu_leads (u : Nat) (f : Dev → Dev) (hf : (f s.chip.dev).watch = s.chip.dev.watch) :
    Out.Leads s (s.teu u f) :=
  s.unit_leads 8 u _ (Chip.ripenAll_quiet ((Chip.quiet_onDev f hf).mpr (.refl _)))

theorem State.checked_leads (ok : Bool) (o : Out) (h : Out.Leads s o) : Out.Leads s (s.checked ok o) := by
  unfold State.checked
  split
  · exact h
  · exact Out.leads_next (.refl s)

theorem State.fromPin_leads (o : Out) (h : Out.Leads s o) : Out.Leads s (s.fromPin o) := by
  unfold State.fromPin
  split
  · exact Out.leads_next (.refl s)
  · exact h

theorem State.jtag_leads (i : JtagIr) : Out.Leads s (s.jtag i) := by
  refine Out.leads_next ?_
  split
  · exact ⟨(Chip.Leads.refl s.chip).dev (f := fun d => d.select i) (Dev.select_watch _ _), id⟩
  · exact .refl s

/-- An issued instruction, by what it does to a chip. -/
theorem State.issue_leads (x : Nat) (f : Chip → Chip) (hf : ∀ e : Chip, e.Leads (f e)) :
    Out.Leads s (s.run fun c => c.issue x f) := by
  refine s.run_leads _ ?_
  obtain ⟨e, he, h | h⟩ := Chip.issue_cases x f (.refl s.chip)
  · exact h ▸ he.leads
  · exact h ▸ he.leads.trans (hf e)

theorem State.issueQuiet_leads (x : Nat) (f : Chip → Chip) (hf : ∀ e : Chip, e.Quiet (f e)) :
    Out.Leads s (s.run fun c => c.issue x f) := s.issue_leads x f fun e => (hf e).leads

theorem State.issueDev_leads (x : Nat) (f : Dev → Dev) (hf : ∀ d, (f d).watch = d.watch) :
    Out.Leads s (s.run fun c => c.issue x fun c => c.onDev f) :=
  s.issueQuiet_leads x _ fun e => (Chip.quiet_onDev f (hf _)).mpr (.refl e)

theorem State.reg_leads (x : Fin 64) (f : Ctx → Ctx) : Out.Leads s (s.reg x f) :=
  s.runQuiet_leads _ (Chip.reg_quiet _ _ (.refl _))

theorem State.branch_leads (x : Fin 64) (off : BitVec 16) (t : Ctx → Bool) : Out.Leads s (s.branch x off t) :=
  s.issueQuiet_leads x _ fun e => Chip.modCtx_quiet _ _ (.refl e)

theorem State.system_leads (x : Fin 64) (f : Chip → Chip) (hf : ∀ e : Chip, e.Leads (f e)) : Out.Leads s (s.system x
    f) :=
  s.issue_leads x _ fun e => .ite (fun _ => hf e) fun _ => (Chip.Leads.refl e).dev (Dev.ctxFault_watch _ _ _ _ _)

end

/-! ### The commands that take more than one of the rules above -/

section
variable (s : State)

theorem execResetNAssert_leads (lowNs : Nat) : Out.Leads s (execResetNAssert lowNs s) := by
  refine Out.leads_next ⟨s.chip.resetAssert_leads lowNs, fun h => ?_⟩
  change (s.chip.resetAssert lowNs).dev.pool.out = []
  unfold Chip.resetAssert
  split
  · exact h
  · rfl

theorem execResetNRise_leads (role boot hqMode bypass : Bool) :
    Out.Leads s (execResetNRise role boot hqMode bypass s) := by
  refine Out.leads_next ?_
  split
  · refine ⟨(Chip.Leads.refl s.chip).dev (f := fun d => d.resetRise role boot hqMode bypass)
      (Dev.resetRise_watch _ _ _ _ _), fun h => ?_⟩
    change (s.chip.dev.resetRise role boot hqMode bypass).pool.out = []
    unfold Dev.resetRise
    split <;> exact h
  · exact ⟨(Chip.Leads.refl s.chip).dev (f := fun d => { d with resetN := true }) rfl, id⟩

theorem execSupplyFail_leads : Out.Leads s (execSupplyFail s) :=
  Out.leads_next ⟨s.chip.supplyFail_leads, fun _ => rfl⟩

theorem execSupplyRestored_leads : Out.Leads s (execSupplyRestored s) :=
  Out.leads_next ⟨(Chip.Leads.refl s.chip).dev (Dev.supplyBack_watch _), id⟩

theorem execMedpllLock_leads : Out.Leads s (execMedpllLock s) :=
  s.dev_leads _ (.then (.after (Dev.medLock_watch _) (Dev.soloCheck_leads _)) (Dev.fitCheck_watch _))

theorem execRealignDrainEnd_leads : Out.Leads s (execRealignDrainEnd s) :=
  s.runQuiet_leads (fun c => c.realignEnd.onDev fun d => d.fitCheck)
    ((Chip.quiet_onDev _ (Dev.fitCheck_watch _)).mpr (Chip.realignEnd_quiet (.refl _)))

theorem execRxrTailWrite_leads (p : Fin 4) (r : Fin 2) (tail : BitVec 12) :
    Out.Leads s (execRxrTailWrite p r tail s) :=
  s.portDev_leads p _ (Dev.rxTail_watch _ _ _ _ (by omega))

theorem execBatonConfirmed_leads (high : BatonHigh) : Out.Leads s (execBatonConfirmed high s) := by
  refine s.fromPin_leads _ (s.dev_leads _ ?_)
  split
  · exact .of_eq (Dev.batonSeen_watch _ _)
  · exact Dev.batonConfirmed_leads _ _

theorem execCarrierCycleStart_leads (g : Fin 8) (bits : List Bool) (late : Bool) (edge : Nat) (errs : List Nat) :
    Out.Leads s (execCarrierCycleStart g bits late edge errs s) :=
  s.checked_leads _ _ (s.dev_leads _ (.after (Dev.pinBits_watch _ _) (Dev.carrierStart_leads _ _ _ _ _ _)))

theorem execTlbInvalidate_leads (op : BitVec 2) (asid : BitVec 8) : Out.Leads s (execTlbInvalidate op asid s) := by
  refine s.dev_leads _ (.after ?_ (Dev.invGo_leads _))
  simp

theorem execIllegalInstruction_leads (x : Fin 64) (w : Word) : Out.Leads s (execIllegalInstruction x w s) := by
  unfold execIllegalInstruction
  split
  · exact Out.leads_next (.refl s)
  · exact s.issueDev_leads x _ fun d => Dev.ctxFault_watch _ _ _ _ _

/-- Stores, then a change of the context alone. -/
theorem Chip.storesThen_quiet {c : Chip} (x size : Nat) (rs : List Ref) (g : Chip → List Nat) (f : Ctx → Ctx) :
    c.Quiet (c.toStore x size rs fun c ps => (c.storeAll x size ps (g c)).modCtx x f) :=
  Chip.toStore_quiet _ _ _ _ (fun e _ => Chip.modCtx_quiet _ _ (Chip.storeAll_quiet _ _ _ _ (.refl e))) (.refl c)

theorem execStp_leads (x : Fin 64) (rt : BitVec 5) (p : BitVec 3) (imm : BitVec 16) : Out.Leads s (execStp x rt p
    imm s) :=
  s.issueQuiet_leads x _ fun _ => Chip.storesThen_quiet _ _ _ _ _

theorem execVst_leads (x : Fin 64) (vs : BitVec 4) (p : BitVec 3) (imm : BitVec 16) : Out.Leads s (execVst x vs p
    imm s) :=
  s.issueQuiet_leads x _ fun _ => Chip.storesThen_quiet _ _ _ _ _

theorem execCsfp_leads (x : Fin 64) (pd ps : BitVec 3) (gn : BitVec 5) (f : Bool) :
    Out.Leads s (execCsfp x pd ps gn f s) :=
  s.issueQuiet_leads x _ fun e => .ite (fun _ => Chip.modCtx_quiet _ _ (.refl e)) fun _ =>
    Chip.loads_quiet _ _ _ _ (fun _ _ => Chip.storesThen_quiet _ _ _ _ _) (.refl e)

theorem execCsfu_leads (x : Fin 64) (pd ps : BitVec 3) (gn : BitVec 5) (f : Bool) :
    Out.Leads s (execCsfu x pd ps gn f s) :=
  s.issueQuiet_leads x _ fun e => .ite (fun _ => Chip.modCtx_quiet _ _ (.refl e)) fun _ =>
    Chip.loads_quiet _ _ _ _ (fun _ _ => Chip.storesThen_quiet _ _ _ _ _) (.refl e)

theorem execWaittick_leads (x : Fin 64) : Out.Leads s (execWaittick x s) := by
  refine s.issueQuiet_leads x _ fun e => ?_
  split
  · exact .ite (fun _ => Chip.modCtx_quiet _ _ (.refl e)) fun _ => Chip.complete_quiet _ (Chip.modCtx_quiet _ _
      (.refl e))
  · exact Chip.modCtx_quiet _ _ (.refl e)

theorem execTlbinv_leads (x : Fin 64) (rs rt : BitVec 5) : Out.Leads s (execTlbinv x rs rt s) := by
  refine s.system_leads x _ fun e => (Chip.Leads.refl e).onDev (.ite_dev (fun _ => .of_eq (Dev.modCtx_watch _ _ _))
    fun _ => ?_)
  exact (Dev.invStart_leads _ _ _ _ _).then (Dev.modCtx_watch _ _ _)

theorem execSetasid_leads (x : Fin 64) (rs : BitVec 5) : Out.Leads s (execSetasid x rs s) :=
  s.system_leads x _ fun e => (Chip.modCtx_quiet _ _ (.refl e)).leads

theorem execDmak_leads (x : Fin 64) (rs : BitVec 5) : Out.Leads s (execDmak x rs s) :=
  s.system_leads x _ fun e => (Chip.modCtx_quiet _ _ (Chip.dmaCmd_quiet _ _ (.refl e))).leads

theorem execRdreg_leads (x : Fin 64) (rd rs : BitVec 5) : Out.Leads s (execRdreg x rd rs s) :=
  s.system_leads x _ fun e => (Chip.Leads.refl e).dev (by simp)

/-- A register write by form, then a change of the context alone. -/
theorem Chip.writeFormThen_leads (c : Chip) (x w v : Nat) (f : Ctx → Ctx) : c.Leads ((c.writeForm x w v).modCtx x f) :=
  (c.writeForm_leads x w v).quiet (Chip.modCtx_quiet _ _ (.refl _))

theorem execWrreg_leads (x : Fin 64) (rs rt : BitVec 5) : Out.Leads s (execWrreg x rs rt s) :=
  s.system_leads x _ fun e => e.writeFormThen_leads _ _ _ _

theorem execLamop_leads (x : Fin 64) (rs : BitVec 5) : Out.Leads s (execLamop x rs s) :=
  s.system_leads x _ fun e => e.writeFormThen_leads _ _ _ _

end

end Sys2Proof.Machine
end

section
/-! SUPPORT. Every command keeps what the statement about the memories says (R189, R211, R220, R266, R375, R394). -/

namespace Sys2Proof.Machine

/-- Every command, in every state, leads on. -/
theorem exec_leads (i : Instr) (s : State) : Out.Leads s (exec i s) := by
  cases i with
  | add | sub | and | or | xor | sll | srl | sra | slt | sltu | mul | mulh | mulq | min | max | adds | subs | clz
  | addi | andi | ori | xori | slti | lui | shiSll | shiSrl | shiSra | fadd | fsub | fmul | fdiv | fsqrt | fmin
  | fmax | feq | flt | fle | fcvtsw | fcvtws | fcvtsq | fcvtqs | fabs | fneg | pget | pput | padd | vmac | vmacr
  | vadd | vsub | vmulq | vmov | vsplat | vget | vput | vabs | vmaxa | aclr | amov | arnd | arnd24 | aadd | asub
  | ashr | ashl | aflag | aget | aput | lim | nop | fsrr | fsrw => exact s.reg_leads _ _
  | sysPllLock | sysPllLockLost | sysPllRefLost | sysPllReacquire | spreadWrite | spreadApply | refMeasurement
  | medpllRefLost | medpllRefReturn | medpllLockLost | lockReturnOffset | freqAlarmCheck | medpllCtlWrite
  | refChangeApply | dividerLoad | calStart | calDone | residualSlewStep | realignAccept | realignGo
  | realignDrainStart | rateWrite | timeCtlLock | timeCtlCoast | servoTimeout | timeFree | offsetWrite | nowNsWrap
  | tickAnchorWrite | mediaCountWrite | mediaCountLoad | queuePush | queuePop | packetVisible | creditReturn
  | queueResetWrite | queueReset | forcedReset | ownerScanEnd | rakeCellReturn | patrolScrub | contextResume
  | contextAbort | dmaKick | dmaFence | dmaResume | dmaFaultException | taskDeadline | routeApply | parkedDiscard
  | gangFetch | calLoss | grpConfigWrite | stateFrameSend | qlinkUp | qlinkDown | proofCompare | forceHandover
  | joinStart | joinAbort | convergeCountEnd | save | erase | status | badCmd | mbxReadReq | mbxWriteReq
  | unitResetDone | calOkRestored | tempMeasurement => exact s.devQuiet_leads _ (by simp)
  | rxfEnable | rxfDisable | pathDeadline | txfEnable | txfDisable | txfSeqWrite | portEnable | portStart
  | portDisable | maskWrite | portFrameStart | synthPacketPush | outputPacketTake | rateAbsent | portLock | bpUnmute
  | naHoldExpire | taskStop | haltSet | haltClear | gangRun | gangStop | gangClear | gangRelease | gangPlay
  | gangStopping | gangGatesOff | faultRestart | bstEnable | bstDisable | bstClear | bstConfigWrite | bstReady
  | maxOnTime | bstOvervoltage | bstStop | senseLost | bstRestart => exact s.unitDev_leads _ _ _ (by simp)
  | ldp | vld | firb | biq | mix | ramp | dlyWrite | dlyRead | jal | jalr | loop | yield =>
    exact s.issueQuiet_leads _ _ fun e => by simp
  | macEnable | linkChange | anComplete | pauseExpire | gclLoad | gclSwitch | gclEntryAdvance =>
    exact s.portDev_leads _ _ (by simp)
  | pop | pktcnt | pktcntCredit | env | eret | icinv | icinva => exact s.issueDev_leads _ _ fun d => by simp
  | extest | idcode | samplePreload | highz | clamp | bypass | testLogicReset => exact s.jtag_leads _
  | beq | bne | blt | bge | bltu | bgeu => exact s.branch_leads _ _ _
  | teuEnable | teuDisable | teuEventFire | teuPinEnd | teuTargetWrite => exact s.teu_leads _ _ (by simp)
  | lw | lh | lhu | lb | lbu =>
    exact s.runQuiet_leads (fun c => c.load _ _ _ _ _ _) (Chip.load_quiet _ _ _ _ _ _ (.refl _))
  | vtChange | routeWrite | padWrite => exact s.checked_leads _ _ <| s.devQuiet_leads _ (by simp)
  | inputPacketPush | rateWindowEnd | csBlockEnd => exact s.checked_leads _ _ <| s.unitDev_leads _ _ _ (by simp)
  | sw | sh | sb => exact s.runQuiet_leads (fun c => c.storeG _ _ _ _ _) (Chip.storeG_quiet _ _ _ _ _ (.refl _))
  | slaveFrameStart | isnsTrip => exact s.fromPin_leads _ <| s.unitDev_leads _ _ _ (by simp)
  | push | pushe => exact s.runQuiet_leads (fun c => c.pushG _ _ _ _ _ _) (Chip.pushG_quiet _ _ _ _ _ _ (.refl _))
  | write | qwrite => exact s.run_leads (fun c => c.hostWrite _ _ _) (Chip.hostWrite_leads _ _ _ _)
  | read | qread => exact s.run_leads (fun c => c.hostRead _ _ _) (Chip.hostRead_leads _ _ _ _)
  | rcRead | indDataRead =>
    exact s.run_leads (fun c => c.asRequester _ fun c => c.formRead _ _) (Chip.asRequester_leads _ _ _ fun _ =>
      (Chip.formRead_quiet _ _ (.refl _)).leads)
  | indDataWrite | unlock =>
    exact s.run_leads (fun c => c.asRequester _ fun c => c.writeBy _ _ _) (Chip.asRequester_leads _ _ _ fun _ =>
      Chip.writeBy_leads _ _ _ _)
  | macDisable => exact s.port_leads _ (fun c => c.macDisable _) (Chip.macDisable_quiet _ (Fin.isLt _) (.refl _))
  | frameReceive =>
    exact s.port_leads _ (fun c => c.receive _ _ _ _ _ _ _) (Chip.receive_quiet _ _ _ _ _ _ _ (.refl _))
  | txrTailWrite => exact s.port_leads _ (fun c => c.txTail _ _ _) (Chip.txTail_quiet _ _ _ (Fin.isLt _) (.refl _))
  | frameTransmitStart =>
    exact s.port_leads _ (fun c => c.transmitStart _ _) (Chip.transmitStart_quiet _ _ (Fin.isLt _) (.refl _))
  | frameTransmitDone =>
    exact s.port_leads _ (fun c => c.transmitDone _ _) (Chip.transmitDone_quiet _ _ (Fin.isLt _) (.refl _))
  | launchTimeReached =>
    exact s.port_leads _ (fun c => c.launchReached _ _) (Chip.launchReached_quiet _ _ (Fin.isLt _) (Fin.isLt _)
      (.refl _))
  | lpiEnter => exact s.port_leads _ (fun c => c.lpiEnter _) (Chip.lpiEnter_quiet _ (.refl _))
  | lpiExit => exact s.port_leads _ (fun c => c.lpiExit _) (Chip.lpiExit_quiet _ (.refl _))
  | flowPacketAccept => exact s.runQuiet_leads Chip.flowAccept (Chip.flowAccept_quiet (.refl _))
  | rxfReady => exact s.unit_leads _ _ (fun c => c.rxReady _) (Chip.rxReady_quiet _ (.refl _))
  | tickBoundary => exact s.run_leads Chip.tickBoundary (Chip.tickBoundary_leads _)
  | pageWalkDone => exact s.unit_leads _ _ (fun c => c.ctxWalk _ _ _ _) (Chip.ctxWalk_quiet _ _ _ _ (.refl _))
  | invDone => exact s.dev_leads Dev.invDone (Dev.invDone_leads _)
  | dmaAbort => exact s.runQuiet_leads (fun c => c.dmaAbort _) (Chip.dmaAbort_quiet _ (.refl _))
  | dmaDescFetch => exact s.runQuiet_leads (fun c => c.dmaFetch _) (Chip.dmaFetch_quiet _ (.refl _))
  | dmaDescComplete =>
    exact s.runQuiet_leads (fun c => c.dmaDescComplete _) (Chip.dmaDescComplete_quiet _ (Fin.isLt _) (.refl _))
  | dmaFault => exact s.runQuiet_leads (fun c => c.dmaFaultNow _) (Chip.dmaFaultNow_quiet _ (.refl _))
  | dmaPopRetry => exact s.runQuiet_leads (fun c => c.dmaPopRetry _) (Chip.dmaPopRetry_quiet _ (.refl _))
  | taskStart => exact s.unit_leads _ _ (fun c => c.taskStart _) (Chip.taskStart_quiet _ (.refl _))
  | faultDecided => exact s.fromPin_leads _ <| s.devQuiet_leads _ (by simp)
  | hbInEdge => exact s.fromPin_leads _ (s.dev_leads (fun d => d.hbEdge _ _) (Dev.hbEdge_leads _ _ _))
  | hbDeadline => exact s.dev_leads (fun d => d.hbDeadline _) (Dev.hbDeadline_leads _ _)
  | batonLost => exact s.fromPin_leads _ (s.dev_leads Dev.batonLost (Dev.batonLost_leads _))
  | initialClaim => exact s.dev_leads (fun d => d.initialClaim _) (Dev.initialClaim_leads _ _)
  | claimTimeout => exact s.dev_leads Dev.claimTimeout (Dev.claimTimeout_leads _)
  | holderYield => exact s.fromPin_leads _ (s.dev_leads Dev.holderYield (Dev.holderYield_leads _))
  | watchdogFire => exact s.dev_leads Dev.watchdog (Dev.watchdog_leads _)
  | stateFrameReceive => exact s.dev_leads (fun d => d.stateReceive _) (Dev.stateReceive_leads _ _)
  | dataFrameReceive => exact s.runQuiet_leads (fun c => c.dataReceive _) (Chip.dataReceive_quiet _ (.refl _))
  | joinFrameReceive => exact s.run_leads (fun c => c.joinReceive _) (Chip.joinReceive_leads _ _)
  | forceTake => exact s.dev_leads (fun d => d.forceTake _) (Dev.forceTake_leads _ _)
  | forceRelease => exact s.dev_leads Dev.forceRelease (Dev.forceRelease_leads _)
  | handoverRelease => exact s.dev_leads Dev.handoverRelease (Dev.handoverRelease_leads _)
  | load => exact s.run_leads Chip.lamLoad (Chip.lamLoad_leads _)
  | verify => exact s.dev_leads Dev.lamVerify (Dev.lamVerify_leads _)
  | verifyDone => exact s.run_leads Chip.verifyDone (Chip.verifyDone_leads _)
  | arm => exact s.run_leads Chip.lamArm (Chip.lamArm_leads _)
  | disarm => exact s.dev_leads Dev.lamDisarm (Dev.lamDisarm_leads _)
  | confirm => exact s.dev_leads Dev.lamConfirm (Dev.lamConfirm_leads _)
  | rollback => exact s.run_leads Chip.lamRollback (Chip.lamRollback_leads _)
  | earlyCopyDone => exact s.runQuiet_leads Chip.earlyDone (Chip.earlyDone_quiet (.refl _))
  | switchDrainStart => exact s.run_leads Chip.switchDrain (Chip.switchDrain_leads _)
  | switchDrainEnd => exact s.run_leads Chip.switchEnd (Chip.switchEnd_leads _)
  | confirmWindowExpire => exact s.run_leads Chip.windowExpire (Chip.windowExpire_leads _)
  | flashDone => exact s.runQuiet_leads (fun c => c.flashDone _) (Chip.flashDone_quiet _ (.refl _))
  | readTimeout => exact s.run_leads (fun c => c.readTimeout _ _ _) (Chip.readTimeout_leads _ _ _ _)
  | postedWritePerform => exact s.run_leads Chip.performFirst (Chip.performFirst_leads _)
  | registerWrite =>
    exact s.run_leads (fun c => c.asRequester _ fun c => c.formWrite _ _ _) (Chip.asRequester_leads _ _ _ fun _ =>
      Chip.formWrite_leads _ _ _ _)
  | scrubDone => exact s.run_leads Chip.scrubDone (Chip.scrubDone_leads _)
  | unitReset => exact s.runQuiet_leads (fun c => c.unitReset _ _) (Chip.unitReset_quiet _ _ (.refl _))
  | batonFalls => exact s.fromPin_leads _ (s.dev_leads Dev.batonFalls (Dev.batonFalls_leads _))
  | resetNAssert lowNs => exact execResetNAssert_leads s lowNs
  | resetNRise role boot hqMode xtalBypass => exact execResetNRise_leads s role boot hqMode xtalBypass
  | supplyFail => exact execSupplyFail_leads s
  | medpllLock => exact execMedpllLock_leads s
  | realignDrainEnd => exact execRealignDrainEnd_leads s
  | rxrTailWrite p r tail => exact execRxrTailWrite_leads s p r tail
  | tlbInvalidate op asid => exact execTlbInvalidate_leads s op asid
  | stp x rt p imm => exact execStp_leads s x rt p imm
  | vst x vs p imm => exact execVst_leads s x vs p imm
  | csfp x pd ps gn f => exact execCsfp_leads s x pd ps gn f
  | csfu x pd ps gn f => exact execCsfu_leads s x pd ps gn f
  | waittick x => exact execWaittick_leads s x
  | tlbinv x rs rt => exact execTlbinv_leads s x rs rt
  | setasid x rs => exact execSetasid_leads s x rs
  | dmak x rs => exact execDmak_leads s x rs
  | rdreg x rd rs => exact execRdreg_leads s x rd rs
  | wrreg x rs rt => exact execWrreg_leads s x rs rt
  | lamop x rs => exact execLamop_leads s x rs
  | illegalInstruction x w => exact execIllegalInstruction_leads s x w
  | carrierCycleStart g bits late edge errs => exact execCarrierCycleStart_leads s g bits late edge errs
  | batonConfirmed high => exact execBatonConfirmed_leads s high
  | supplyRestored => exact execSupplyRestored_leads s

end Sys2Proof.Machine
end

section
/-! SUPPORT. The statement about the memories, the frames and the status (R189, R211, R220, R266, R375, R394). -/

namespace Sys2Proof.Machine

theorem step_leads (s : State) : Out.Leads s (step s) := by
  unfold step
  split
  · exact s.devQuiet_leads _ (Dev.timeCycle_watch _)
  · next i rest h =>
    intro t ht
    obtain ⟨hchip, hout⟩ := exec_leads i { s with pending := rest } t ht
    exact ⟨hchip, hout⟩

end Sys2Proof.Machine

namespace Sys2Proof.Claim

open Sys2Proof.Machine

/-- Settles O57: every step leads on (`step_leads`), command by command; what `FramesNamed` and `StatusTrue` say is
what the watch of the device shows. -/
theorem memoryStaysCanonical : Obligations.MemoryStaysCanonical := by
  intro s t h
  obtain ⟨⟨⟨hnamed, hright⟩, hwf⟩, hout⟩ := step_leads s t h
  rw [framesNamed_iff, framesNamed_iff, statusTrue_iff, statusTrue_iff]
  exact ⟨hwf, hout, hnamed, hright⟩

end Sys2Proof.Claim
end
